-- ==== Sys2Proof/Word.lean ====
section
/-! DEFINITION. The word types of the module: a byte of a frame or of a message, and the widths of its counts. -/

namespace Sys2Proof

/-- A byte of a frame or of a mailbox message. -/
abbrev Byte := BitVec 8

/-- The raw count RC is a 72-bit count (12 R364). -/
abbrev rcModulus : Nat := 2 ^ 72

end Sys2Proof
end

