-- ==== Sys2Proof/Syntax.lean ====
section
/-! DEFINITION. The commands of the block: one constructor per row of spec/opcode_table.json, in the table's order. The first
operand `el` of every command (of SWITCHOVER in its `Takeover`) is the number of 2.5 ns ticks that passed since the command before it
(notes/assumptions/1.md); the other operands are what the rule of the command measures or is given. -/

namespace Sys2Proof

/-- A port number 0 to 143. -/
abbrev PortNo := Fin 144
/-- Plane A (0) or B (1). -/
abbrev PlaneNo := Fin 2
/-- Controller C0 (0) or C1 (1). -/
abbrev CtlNo := Fin 2

/-- A shaper of the scheduler (10 R307). -/
inductive ShaperRef where
  | subscriber (n : Fin 4096)
  | service (n : Fin 1024)
  | class (port : Fin 148) (k : Fin 8)
  | port (e : Fin 148)
  deriving DecidableEq, Repr

/-- What every request of the mailbox carries beside its opcode and PID (14 R441): the connection it comes on, its tag, its fence
flag, its instance and its payload; and whether the flash writes that it needs succeed (16 R499). -/
structure Req where
  ctl : CtlNo
  sess : Fin 4
  tag : Byte
  fence : Bool
  inst : BitVec 32
  data : List Byte
  flashOk : Bool
  deriving DecidableEq, Repr

/-- What is wrong with a malformed request (14 R442, R443). -/
inductive Malformed where
  /-- the magic number: framing is lost -/
  | magic
  /-- a payload length above 4,096 -/
  | length
  /-- version, flags, status, session or opcode -/
  | header
  /-- a fragment whose header differs from the first one's, or a reassembled payload above 65,536 bytes -/
  | fragment
  deriving DecidableEq, Repr

/-- A client certificate that verifies against trust anchor `anchor` (14 R434): the role its subject names, its validity in UTC
seconds, its fingerprint, and the client's address as PID 0411h spells it. -/
structure Client where
  anchor : Fin 4
  role : Option Byte
  notBefore : BitVec 48
  notAfter : BitVec 48
  fingerprint : BitVec 256
  address : BitVec 160
  deriving DecidableEq, Repr

/-- What a port shows of its link when it declares it down or up (R94): its fault status (PID 0807h), and for how many ticks the
condition has lasted. -/
structure LinkReading where
  status : BitVec 4
  lasted : Nat
  deriving DecidableEq, Repr

/-- What a step-up request comes from (R127): the received rate of a window, the egress occupancy, or rate stepping cleared. -/
inductive StepUpCause where
  | rate
  | occupancy
  | cleared
  deriving DecidableEq, Repr

/-- A pipeline at a pass, and the pipelines that ask for a tile in the same buffer clock (07 R233). -/
structure PipeTurn where
  pipe : Fin 8
  rivals : BitVec 8
  deriving DecidableEq, Repr

/-- A frame, by its head tile, that asks for its next tile, and the pipelines that ask in the same buffer clock (07 R233). -/
structure TileTurn where
  head : Fin 24576
  rivals : BitVec 8
  deriving DecidableEq, Repr

/-- The link check of a copy's head (11 R328), and that of the other plane's head where it arrives in the same port-group clock
(R333). -/
structure HeadCheck where
  good : Bool
  other : Option Bool
  deriving DecidableEq, Repr

/-- The ticks before a switchover, and whether the controller that takes over had acknowledged phase 1 of the commit under way
(05 R163). -/
structure Takeover where
  ticks : Nat
  acked : Bool
  deriving DecidableEq, Repr

/-- A cartridge that loses its power (R525): its readings at the end, and whether a channel is still live ahead of the blades, the
cartridge being withdrawn (02 R53). -/
structure CartridgeStop where
  meas : BitVec 1408
  live : Bool
  deriving DecidableEq, Repr

/-- The commands of spec/opcode_table.json. -/
inductive Instr where
  /-- MAINS_APPLIED (R64): The first mains input exceeds 80 V, which starts the domain power-up order. -/
  | mainsApplied (el : Nat) (psu : Fin 2) (tc volts : BitVec 16)
  /-- PSU_STOP (R42): A PSU input stays below 75 V for 2 ms; the PSU stops, reports the loss and the other PSU takes the whole load. -/
  | psuStop (el : Nat) (psu : Fin 2) (volts : BitVec 16)
  /-- PSU_RESUME (R42): A PSU input stays above 80 V for 100 ms and the PSU resumes delivering power. -/
  | psuResume (el : Nat) (psu : Fin 2) (volts : BitVec 16)
  /-- PSU_OVERVOLTAGE_SHUTDOWN (R42): A PSU input exceeds 300 V and the PSU shuts down until the input falls below 280 V. -/
  | psuOvervoltageShutdown (el : Nat) (psu : Fin 2) (volts : BitVec 16)
  /-- SHORT_DIP (R87): A dip below 75 V shorter than 2 ms is counted and does not stop the PSU. -/
  | shortDip (el : Nat) (psu : Fin 2)
  /-- LAST_GASP (R88): The last PSU in service stops; the active controller writes the last-gasp record and the timed shutdown begins. -/
  | lastGasp (el : Nat)
  /-- SHUTDOWN_POWER_DOWN (R88): At its time in the shutdown table a group of domains is powered down: port groups, then planes, then controllers, then K. -/
  | shutdownPowerDown (el : Nat)
  /-- DOMAIN_POWERED (R64): A domain is powered when its condition in the power order holds, and its root PLL locks. -/
  | domainPowered (el : Nat) (dom : Fin 13)
  /-- CONTROLLER_BOOT (R75): A controller verifies the signature of its active firmware bank and boots it, or the other bank, or stays in boot ROM. -/
  | controllerBoot (el : Nat) (ctl : CtlNo) (bank0 bank1 recordOk faultsOk : Bool)
  /-- ENTER_FOOTING (R66): The module enters Footing once the DC bus is in regulation and K, C0 and C1 are powered. -/
  | enterFooting (el : Nat)
  /-- ENTER_SILL (R66): The module enters Sill with the fallback configuration applied, static entries installed and ports enabled. -/
  | enterSill (el : Nat)
  /-- SELF_TEST_COMPLETE (R69): A plane's power-on self-test ends; a failed plane is isolated and the other becomes the first plane. -/
  | selfTestComplete (el : Nat) (plane : PlaneNo) (pass : Bool)
  /-- SECOND_PLANE_TIMEOUT (R71): The second plane has not completed reseeding 40 s after mains applied and is isolated; Bonded is entered with one plane. -/
  | secondPlaneTimeout (el : Nat)
  /-- SELF_TEST_RETRY (R72): Every 10 min with both planes failed, the active controller cycles both planes and repeats their self-tests. -/
  | selfTestRetry (el : Nat)
  /-- ENTER_BONDED (R78): The module enters Bonded: bundles restored and re-armed, coursing banks and gate lists applied, full mailbox service. -/
  | enterBonded (el : Nat)
  /-- BUNDLE_REARM (R78): A committed but not yet active bundle is re-armed into a free slot once DT is valid or a slot becomes free. -/
  | bundleRearm (el : Nat)
  /-- KILN_READY (R79): The oven has held 140 °C within 0.05 K for 10 s with all three resonators agreeing, and the kiln is ready. -/
  | kilnReady (el : Nat)
  /-- KILN_WARM_UP_OVERRUN (R516): The kiln is not ready within the bound of R79 and fault bit 8 is set. -/
  | kilnWarmUpOverrun (el : Nat)
  /-- ENTER_TOPPED_OUT (R66): The servo is locked to a qualified source, and the kiln is ready when the gate requires it, so the module enters Topped-out. -/
  | enterToppedOut (el : Nat)
  /-- STAGE_FALL_BACK (R73): The servo leaves both locked and holdover and the stage falls from Topped-out to Bonded. -/
  | stageFallBack (el : Nat)
  /-- SILL_HOLD (R74): A SET of PID 0108h sets or clears Sill hold; clearing it lets the start continue within 1 ms. -/
  | sillHold (el : Nat) (q : Req)
  /-- MODULE_RESET (R81): PID 0107h value 1 restarts controllers, planes and port groups while K and the timebase keep running. -/
  | moduleReset (el : Nat) (q : Req)
  /-- CONTROLLER_RESET (R82): PID 0107h value 2 resets the standby controller, and is refused with INTERLOCK when addressed to the active controller. -/
  | controllerReset (el : Nat) (q : Req)
  /-- DOMAIN_POWER_DOWN (R85): Domain control value 1 drains a plane or port group, pauses its hod channels and removes its power. -/
  | domainPowerDown (el : Nat) (q : Req)
  /-- DOMAIN_POWER_UP (R86): Domain control value 2 powers a plane or port group; a port group applies the configuration in force and a plane is reseeded. -/
  | domainPowerUp (el : Nat) (q : Req)
  /-- DOMAIN_CYCLE (R83): Domain control value 3 powers a plane or port group down and then up again. -/
  | domainCycle (el : Nat) (q : Req)
  /-- DOMAIN_POWER_DOWN_COMPLETE (R85): The power-down sequence ends with the domain in state off, and the completion event is sent. -/
  | domainPowerDownComplete (el : Nat) (dom : Fin 10)
  /-- PORT_ENABLE (R562): Enabling a port lights its laser and starts training at once. -/
  | portEnable (el : Nat) (q : Req)
  /-- PORT_DISABLE (R93): Disabling a port stops reception at once, discards the frame in reception, lets the frame in transmission complete and darkens the laser. -/
  | portDisable (el : Nat) (q : Req)
  /-- PORT_SPEED_FEC_CHANGE (R92): A change of speed or FEC is checked against the allowed combinations, then takes the link down and retrains it. -/
  | portSpeedFecChange (el : Nat) (q : Req) (fec : Bool)
  /-- LINK_DOWN (R94): Loss of signal, lock or alignment lasts for the link-down hold-off and the port declares link down. -/
  | linkDown (el : Nat) (port : PortNo) (status : LinkReading)
  /-- LINK_UP (R94): The link has been clean for the link-up debounce, with both planes at the new floor divider, and the port declares link up. -/
  | linkUp (el : Nat) (port : PortNo) (status : LinkReading)
  /-- LASER_SWAP_WEAR_OUT (R97): The bias rise exceeds the wear-out threshold with automatic swap set, and a swap to the warm spare starts or waits. -/
  | laserSwapWearOut (el : Nat) (port : PortNo) (rise : BitVec 16)
  /-- LASER_LOSS_OF_OUTPUT (R97): The monitor photodiode reads below 50 % for 2 µs; the laser is marked failed and swapped, or the link is taken down. -/
  | laserLossOfOutput (el : Nat) (port : PortNo)
  /-- SWAP_REQUEST (R97): PID 0813h written 1 requests a swap of the port's laser to the warm spare. -/
  | swapRequest (el : Nat) (q : Req)
  /-- SWAP_HIT_END (R98): Transmit power and wavelength are back within limits, the hit ends and its duration is recorded. -/
  | swapHitEnd (el : Nat) (port : PortNo)
  /-- SPARE_WARMED (R96): A warming cold spare becomes the warm spare, and a waiting swap proceeds. -/
  | spareWarmed (el : Nat) (group : Fin 8)
  /-- PORT_GROUP_OVERTEMPERATURE (R131): The port-group die temperature exceeds 135.0 °C and fault bit 67 is set. -/
  | portGroupOvertemperature (el : Nat) (group : Fin 8) (temp : BitVec 16)
  /-- FRAME_ARRIVAL (R10): A frame's start is received: it is timestamped, steered and, when unpoliced, replicated from its head once the 64th byte is in. -/
  | frameArrival (el : Nat) (port : PortNo) (head : List Byte) (frac : BitVec 8)
  /-- FRAME_END (R101): A frame's end arrives: runt, FCS and size checks complete; a policed frame is then policed and replicated, and a bad unpoliced frame's copies are marked bad. -/
  | frameEnd (el : Nat) (port : PortNo) (rest : List Byte) (fcsGood : Bool)
  /-- MAC_CONTROL_FRAME (R104): A good PAUSE or PFC frame loads the port or priority pause timer, or is counted as ignored or unsupported. -/
  | macControlFrame (el : Nat) (port : PortNo) (bytes : List Byte) (fcsGood : Bool)
  /-- PAUSE_TIMER_EXPIRY (R105): A port-level or priority pause timer expires and transmission of that port or class resumes. -/
  | pauseTimerExpiry (el : Nat) (port : PortNo) (prio : Fin 9)
  /-- PFC_WATCHDOG (R109): A priority stays paused for the watchdog time; received PFC for it is ignored for one further watchdog time. -/
  | pfcWatchdog (el : Nat) (port : PortNo) (prio : Fin 8)
  /-- PFC_REFRESH (R110): The refresh interval passes with the count still above XON, and the PFC frame is sent again. -/
  | pfcRefresh (el : Nat) (port : PortNo) (prio : Fin 9)
  /-- BUCKET_RESET (R134): PID 0A1Eh written 1 fills both buckets of a policer. -/
  | bucketReset (el : Nat) (q : Req)
  /-- POLICER_MEMORY_ERROR (R131): An uncorrectable check on a policer's state sets fault bit 71, and the policer runs with full buckets. -/
  | policerMemoryError (el : Nat) (policer : Fin 16384)
  /-- CONTROLLER_PATH_LIMIT_FAULT (R131): The controller-path limiter discards in 1,000 consecutive 1 ms windows and fault bit 70 is set. -/
  | controllerPathLimitFault (el : Nat) (group : Fin 8)
  /-- STEP_DOWN_REQUEST (R126): The dwell passes with the received rate below the step-down threshold, and the port sends a step-down request. -/
  | stepDownRequest (el : Nat) (port : PortNo)
  /-- STEP_UP_REQUEST (R127): A stepped port sees rate, occupancy or a cleared enable that calls for a step-up, and sends a step-up request. -/
  | stepUpRequest (el : Nat) (port : PortNo) (cause : StepUpCause)
  /-- STEP_MESSAGE (R125): A rate-step message is received; requests are agreed or refused, and an agree starts the step. -/
  | stepMessage (el : Nat) (port : PortNo) (company : BitVec 24) (version msg exchange target : Byte)
  /-- STEP_NEGOTIATION_TIMEOUT (R126): No answer arrives within the negotiation timeout; the request is repeated, the dwell restarts, or the port steps up anyway. -/
  | stepNegotiationTimeout (el : Nat) (port : PortNo)
  /-- STEP_LOCK (R128): The PCS and FEC at the new speed reach block lock, the link is up and held frames are released. -/
  | stepLock (el : Nat) (port : PortNo)
  /-- STEP_FAILURE (R128): Lock is not reached within 50 ms; the port retrains at 25 Gb/s and sets stepping failed and fault bit 68. -/
  | stepFailure (el : Nat) (port : PortNo)
  /-- STEPPING_FAILED_CLEAR (R132): PID 084Fh written 1 clears the stepping-failed flag. -/
  | steppingFailedClear (el : Nat) (q : Req)
  /-- FRAME_CLASSIFY (R135): A plane pipeline selects a version, parses the frame, runs stages S0 to S7, resolves destination and queue, and hands it to admission. -/
  | frameClassify (el : Nat) (plane : PlaneNo) (turn : PipeTurn)
  /-- FRAME_TILE_WRITE (R231): A later tile of a frame being stored is charged to its chain, to O, or the frame is discarded for overrun. -/
  | frameTileWrite (el : Nat) (plane : PlaneNo) (turn : TileTurn)
  /-- SECOND_PASS (R145): A recirculated copy re-enters its pipeline and is classified again from S2, or resumes its route lookup. -/
  | secondPass (el : Nat) (plane : PlaneNo) (turn : PipeTurn)
  /-- CACHE_REFILL (R225): A pipeline prefetch cache has fallen below 16 tiles and the free map refills it to 32. -/
  | cacheRefill (el : Nat) (plane : PlaneNo) (pipe : Fin 8)
  /-- SCHEDULER_SELECT (R303): A port may start a copy, and the plane selects the next eligible copy, charging shapers and deficits. -/
  | schedulerSelect (el : Nat) (plane : PlaneNo) (port : Fin 148)
  /-- CREDIT_REPORT (R336): Every 40 ns a bond unit reports its FIFO free space to both planes, and a committed copy starts when its credit suffices. -/
  | creditReport (el : Nat)
  /-- COPY_READOUT_COMPLETE (R235): A copy's last tile has been read out; its reference is released and the chain is freed at the last reference. `output` is the scheduler port, or 148 + pipeline for an output of port 146 (R310). -/
  | copyReadoutComplete (el : Nat) (plane : PlaneNo) (output : Fin 156)
  /-- AGER_VISIT (R260): The ager visits a queue and discards aged copies from its head, up to the first copy that is not aged. -/
  | agerVisit (el : Nat) (plane : PlaneNo) (queue : Fin 32768)
  /-- QUEUE_FLUSH (R269): PID 1A08h written 1 discards a queue's copies that are not in transmission. -/
  | queueFlush (el : Nat) (q : Req)
  /-- LINK_MEMORY_ERROR (R237): An uncorrectable link-memory error ends a chain walk, discards the frame from every queue and leaves its tiles for the scrub. -/
  | linkMemoryError (el : Nat) (plane : PlaneNo) (tile : Fin 24576) (uncorrectable : Bool)
  /-- SCRUB_START (R239): The quarantine threshold or the scrub interval is reached, or a queued scrub becomes due, and a scrub sweep begins. -/
  | scrubStart (el : Nat) (plane : PlaneNo)
  /-- SCRUB_REQUEST (R239): PID 1824h written 1 requests a scrub of each plane and of the controllers' pools. -/
  | scrubRequest (el : Nat) (q : Req)
  /-- SCRUB_END (R238): The scrub sweep ends, releases quarantined and leaked tiles and recomputes the pool counts. -/
  | scrubEnd (el : Nat) (plane : PlaneNo)
  /-- CONTROLLER_BUFFER_FREE (R244): A free of a controller buffer is checked for range, alignment, double and foreign free, or the buffer is quarantined. -/
  | controllerBufferFree (el : Nat) (ctl : CtlNo) (addr : BitVec 64) (client : Fin 20)
  /-- HAND_OVER (R481): A buffer is passed atomically from its recorded holder to another holder, or refused. -/
  | handOver (el : Nat) (ctl : CtlNo) (addr : BitVec 64) (giver taker : Fin 20)
  /-- LEARN_APPLY (R185): A queued learn request is applied after a good frame end, subject to learn limits, and inserts or moves an entry. -/
  | learnApply (el : Nat) (plane : PlaneNo)
  /-- FREEZE_EXPIRY (R188): The move freeze time ends and an entry's frozen flag clears. -/
  | freezeExpiry (el : Nat) (plane : PlaneNo) (slot : Fin 1048576)
  /-- AGE_SCAN (R189): The age scan visits a slot and, on a tested sweep, deletes an inactive learned entry or clears its activity bit. -/
  | ageScan (el : Nat) (plane : PlaneNo)
  /-- LEARN_OVERFLOW_FAULT (R217): The learn queue overflows in 1,000 consecutive 1 ms windows and fault bit 98 is set. -/
  | learnOverflowFault (el : Nat) (plane : PlaneNo)
  /-- EXACT_MATCH_MEMORY_ERROR (R216): An uncorrectable slot error invalidates the entry in one plane, and a host entry is rewritten within 1 ms. -/
  | exactMatchMemoryError (el : Nat) (plane : PlaneNo) (slot : Fin 1048576)
  /-- RULE_MEMORY_ERROR (R154): An uncorrectable rule-entry error makes the entry non-matching in one plane until the controller rewrites it. -/
  | ruleMemoryError (el : Nat) (plane : PlaneNo) (entry : Fin 49152)
  /-- SLOW_PATH_RESOLVE (R195): The active controller continues a slow-path route lookup and injects the frame, or discards or keeps it on a miss. -/
  | slowPathResolve (el : Nat)
  /-- SLOW_PATH_LIMIT_FAULT (R217): Slow-path discards occur in 1,000 consecutive 1 ms windows and fault bit 100 is set. -/
  | slowPathLimitFault (el : Nat) (plane : PlaneNo)
  /-- FILTER_REBUILD (R193): A length filter is rebuilt in spare banks, on request through PID 143Eh or when needed, and switched over in one write. -/
  | filterRebuild (el : Nat) (q : Req)
  /-- STATIC_ENTRY_SET (R205): A SET of PID 1414h installs or removes a static MAC entry in both planes. -/
  | staticEntrySet (el : Nat) (q : Req)
  /-- NEXT_HOP_SET (R201): A next-hop record is written to a free physical entry and the logical entry repointed, leaving the old one quiet. -/
  | nextHopSet (el : Nat) (q : Req)
  /-- ECMP_GROUP_SET (R198): An ECMP group record is written after its members are checked to be of kind 0. -/
  | ecmpGroupSet (el : Nat) (q : Req)
  /-- REWRITE_SET (R201): A rewrite record is written to a free physical entry and the logical entry repointed. -/
  | rewriteSet (el : Nat) (q : Req)
  /-- QUIET_PERIOD_EXPIRY (R201): A quiet physical entry returns to the reserve after the quiet period. -/
  | quietPeriodExpiry (el : Nat)
  /-- TBL_SEARCH (R208): Returns the record of a key from each plane that holds it, or NOT_FOUND. -/
  | tblSearch (el : Nat) (q : Req)
  /-- TBL_NEXT (R209): Returns up to 80 records of an iteration, crossed-list entries first, with the next cursor. -/
  | tblNext (el : Nat) (q : Req)
  /-- TBL_INSERT (R182): Inserts or replaces a host entry in both planes, relocating entries as needed. -/
  | tblInsert (el : Nat) (q : Req)
  /-- TBL_DELETE (R208): Removes a host entry from both planes, updating the length filters for a prefix. -/
  | tblDelete (el : Nat) (q : Req)
  /-- TBL_FLUSH_PORT (R211): Starts a background flush of learned entries for a port, FID and tenant. -/
  | tblFlushPort (el : Nat) (q : Req)
  /-- FLUSH_COMPLETE (R211): The flush ends and its completion event carries the counts removed in each plane. -/
  | flushComplete (el : Nat) (ctl : CtlNo) (sess : Fin 4)
  /-- TBL_BULK_LOAD (R212): Inserts records from fragments in order, as each fragment arrives. -/
  | tblBulkLoad (el : Nat) (q : Req) (last : Bool)
  /-- BULK_LOAD_COMPLETE (R212): The bulk load ends with counts of records inserted and failed, and the index of the first failure. -/
  | bulkLoadComplete (el : Nat)
  /-- TBL_BULK_READ (R212): Returns matching records from a plane in event fragments ending with a last fragment. -/
  | tblBulkRead (el : Nat) (q : Req)
  /-- COURSE_HORIZON (R282): A course's horizon edge takes effect; the port enters held phase and stops lending its K share. -/
  | courseHorizon (el : Nat)
  /-- COURSE_OPEN (R284): A course's open edge takes effect; shortfalls are raised to the excess and the course's yield begins. -/
  | courseOpen (el : Nat)
  /-- COURSE_CLOSE (R278): A course's close edge takes effect, its yield ends and the port enters settling. -/
  | courseClose (el : Nat)
  /-- COURSE_SETTLED (R282): A course's settled edge takes effect; its shortfall is zeroed and the port returns to lending. -/
  | courseSettled (el : Nat)
  /-- BANK_SWAP (R291): PID 1C06h written 1 checks the shadow bank and schedules its swap. -/
  | bankSwap (el : Nat) (q : Req)
  /-- BANK_SWAP_EFFECT (R291): At the first live-cycle start at least 1 ms after the request, the shadow bank becomes live. -/
  | bankSwapEffect (el : Nat) (port : PortNo)
  /-- COURSING_SUSPEND (R289): The servo leaves locked and holdover; open courses close, edges stop and lending follows PID 1C10h. -/
  | coursingSuspend (el : Nat)
  /-- COURSING_RESUME (R289): The servo returns to locked or holdover and each port resumes with the current cycle's edges. -/
  | coursingResume (el : Nat)
  /-- SHAPER_REFILL (R307): At a refill tick every shaper gains tokens at its rate, capped at its burst. -/
  | shaperRefill (el : Nat)
  /-- SHAPER_MEMORY_ERROR (R309): An uncorrectable shaper-state error resets that shaper in one plane to a full bucket. -/
  | shaperMemoryError (el : Nat) (plane : PlaneNo) (shaper : ShaperRef)
  /-- CONFIGURATION_CHANGE_REQUEST (R313): PID 2205h written 1 checks the admin gate list and computes the change time. -/
  | configurationChangeRequest (el : Nat) (q : Req)
  /-- CONFIGURATION_CHANGE (R313): The change time is reached; the admin list becomes the oper list and the longest open times are recorded. -/
  | configurationChange (el : Nat) (port : PortNo)
  /-- GATE_LIST_ENABLE (R317): Enabling a gate list applies the initial gate states and requests a configuration change. -/
  | gateListEnable (el : Nat) (q : Req)
  /-- GATE_LIST_DISABLE (R317): Clearing PID 2200h opens every gate and cancels a pending change. -/
  | gateListDisable (el : Nat) (q : Req)
  /-- GATE_EDGE (R314): A gate entry edge or cycle start takes effect and changes the gate states in both planes. -/
  | gateEdge (el : Nat) (port : PortNo)
  /-- SAMPLER_VISIT (R318): The sampler reads a queue's depth and head sojourn, updates maxima and histograms, and raises any alarm. -/
  | samplerVisit (el : Nat) (plane : PlaneNo) (queue : Fin 32768)
  /-- CLEAR_SLOT_COUNTS (R322): PID 240Ch written 1 clears a watched slot's histogram, sample and alarm counts. -/
  | clearSlotCounts (el : Nat) (q : Req)
  /-- BOND_COPY_HEAD (R332): A copy's head word reaches the bond unit and is sent, held, discarded or matched as a twin according to its key's state. -/
  | bondCopyHead (el : Nat) (port : PortNo) (plane : PlaneNo) (check : HeadCheck) (frac : BitVec 8)
  /-- BOND_COPY_END (R332): A copy's end word arrives; the entry moves to G, B or R, digests are compared, or a held twin is sent as replacement. -/
  | bondCopyEnd (el : Nat) (port : PortNo) (plane : PlaneNo) (intact : Bool)
  /-- BOND_TIME_BOUND (R331): A window entry reaches 50 µs, or is evicted, and moves to the retired list with lone copies counted. -/
  | bondTimeBound (el : Nat) (port : PortNo)
  /-- RETIRED_KEY_EXPIRY (R331): A retired key becomes older than the residence ceiling plus the margin and is dropped from the retired list. -/
  | retiredKeyExpiry (el : Nat) (port : Fin 146)
  /-- BOND_DROPS_SUSTAINED (R361): Bond drops occur in 1,000 consecutive 1 ms windows and fault bit 165 is set. -/
  | bondDropsSustained (el : Nat) (port : PortNo)
  /-- RECOVERY_RESET_TIMEOUT (R357): A recovery function accepts nothing for its reset timeout and is reset. -/
  | recoveryResetTimeout (el : Nat) (f : Fin 1024)
  /-- RECOVERY_RESET (R357): PID 2833h written 1 resets a recovery function at once. -/
  | recoveryReset (el : Nat) (q : Req)
  /-- SEQUENCE_RESET (R362): PID 282Eh written 1 resets a generation stream's sequence to 0. -/
  | sequenceReset (el : Nat) (q : Req)
  /-- JUDGEMENT_WINDOW (R339): At the end of an RC-aligned window the controller judges integrity, silence, absence and divergence, and may isolate or reseed a plane. -/
  | judgementWindow (el : Nat)
  /-- ACTIVATION_CHECK (R166): Once per second each slot's activation RC in both planes is compared with the controller's record. -/
  | activationCheck (el : Nat)
  /-- RESEED_COMPLETE (R338): A plane's reseed completes and the active controller sets and distributes its join RC. -/
  | reseedComplete (el : Nat) (plane : PlaneNo)
  /-- PLANE_JOIN (R338): RC reaches the join RC and the plane's bond state becomes bonded. -/
  | planeJoin (el : Nat) (plane : PlaneNo)
  /-- RESEED_TIMEOUT (R341): A plane fails to rejoin within 30 s, stays isolated and sets fault bit 164. -/
  | reseedTimeout (el : Nat) (plane : PlaneNo)
  /-- PLANE_RESEED (R343): The PLANE_RESEED opcode starts the isolate, cycle and reseed sequence for a named plane. -/
  | planeReseed (el : Nat) (q : Req)
  /-- ROLE_SWAP (R352): The ROLE_SWAP opcode moves the token to the standby with no change to forwarding. -/
  | roleSwap (el : Nat) (q : Req)
  /-- SCHEDULED_ROLE_SWAP (R352): At the daily swap time, or on a 60 s retry, a role swap is made or counted as skipped. -/
  | scheduledRoleSwap (el : Nat)
  /-- HEARTBEAT_LOSS (R345): No heartbeat pulse arrives for 5 ms; the latch releases a holder's token and a standby requests it. -/
  | heartbeatLoss (el : Nat) (ctl : CtlNo)
  /-- WATCHDOG_EXPIRY (R345): A controller's watchdog expires and its heartbeat stops. -/
  | watchdogExpiry (el : Nat) (ctl : CtlNo)
  /-- DRAM_UNCORRECTABLE (R361): An uncorrectable controller DRAM error stops the heartbeat and the controller reboots. -/
  | dramUncorrectable (el : Nat) (ctl : CtlNo)
  /-- TOKEN_REQUEST (R346): A controller requests the mortar-line token, which is granted when free or refused. -/
  | tokenRequest (el : Nat) (ctl : CtlNo) (tie : Bool)
  /-- TOKEN_RELEASE (R346): The holder writes release and the token becomes none. -/
  | tokenRelease (el : Nat) (ctl : CtlNo)
  /-- CONTROLLER_ISOLATION (R347): A controller refused for 2 ms with the peer silent declares itself isolated and reboots. -/
  | controllerIsolation (el : Nat) (ctl : CtlNo)
  /-- CONTROLLER_PAIR_CYCLE (R348): The token has been none with both heartbeats absent for 60 s, and the latch power-cycles both controllers. -/
  | controllerPairCycle (el : Nat)
  /-- SWITCHOVER (R349): A standby granted the token becomes active, opens hod channels, resolves commits, resumes PTP and the mailbox, or rebuilds its state. -/
  | switchover (takeover : Takeover)
  /-- MIRROR_TIMEOUT (R350): A mirror acknowledgement takes over 2 ms; the standby is marked synchronising and stored and bundle changes are refused. -/
  | mirrorTimeout (el : Nat)
  /-- RESYNCHRONISATION_COMPLETE (R350): The background resynchronisation ends and the standby is ready again. -/
  | resynchronisationComplete (el : Nat)
  /-- TRIPLE_SWITCH (R368): RC reaches the switch RC and every holder changes over to the pending timebase triple. -/
  | tripleSwitch (el : Nat)
  /-- LOCAL_COPY_CHECK (R370): Every 1 ms each local RC copy is compared with the timebase and realigned when it differs. -/
  | localCopyCheck (el : Nat) (copy : Fin 10) (diff : BitVec 16)
  /-- TIMEBASE_MISMATCH (R371): The two timebase units disagree; the one outvoted by the local copies is excluded, or unit 0 continues. -/
  | timebaseMismatch (el : Nat) (vote : Fin 3)
  /-- DOMAIN_K_LOSS (R372): Domain K is lost; copies run on fallbacks, the servo goes to free-run and timed outputs go high-impedance. -/
  | domainKLoss (el : Nat)
  /-- SOURCE_UPDATE (R377): A Sync or PPS gives an offset; the servo writes a triple, steps or slews, tracks lock and may disqualify the source. -/
  | sourceUpdate (el : Nat) (source : Fin 3)
  /-- SOURCE_QUALIFIED (R378): A source meets its qualification conditions, or requalifies, and the servo acquires it or switches to it. -/
  | sourceQualified (el : Nat) (source : Fin 3)
  /-- SERVO_LOCK (R376): The offset stays within the lock threshold for the lock dwell and the servo becomes locked. -/
  | servoLock (el : Nat)
  /-- HOLDOVER_UPDATE (R400): Each second in holdover a triple is written from the model, and the estimated error is checked against the limit. -/
  | holdoverUpdate (el : Nat)
  /-- MANUAL_STEP (R410): PID 3010h steps DT by a given amount while the servo is in free-run. -/
  | manualStep (el : Nat) (q : Req)
  /-- MANUAL_RATE (R410): PID 3011h sets the raw rate while the servo is in free-run. -/
  | manualRate (el : Nat) (q : Req)
  /-- LEAP_SECOND (R382): At the end of the UTC day a pending leap second changes the TAI−UTC offset, while DT continues. -/
  | leapSecond (el : Nat)
  /-- SYNC_RECEIVED (R385): A Sync is received on a slave port and t2 is taken from its timestamp. -/
  | syncReceived (el : Nat) (port : PortNo) (bytes : List Byte) (rc : BitVec 72) (frac : BitVec 8)
  /-- FOLLOW_UP_RECEIVED (R385): A Follow_Up is received on a slave port and supplies t1. -/
  | followUpReceived (el : Nat) (port : PortNo) (bytes : List Byte)
  /-- DELAY_REQ_RECEIVED (R385): A Delay_Req is received on a master port, and a Delay_Resp carrying t4 is sent. -/
  | delayReqReceived (el : Nat) (port : PortNo) (bytes : List Byte) (rc : BitVec 72) (frac : BitVec 8)
  /-- DELAY_RESP_RECEIVED (R385): A Delay_Resp is received on a slave port and supplies t4. -/
  | delayRespReceived (el : Nat) (port : PortNo) (bytes : List Byte)
  /-- ANNOUNCE_RECEIVED (R385): An Announce is received and fed to the BMCA. -/
  | announceReceived (el : Nat) (port : PortNo) (bytes : List Byte)
  /-- SIGNALING_RECEIVED (R385): A G.8275.2 Signaling message with unicast grants is received. -/
  | signalingReceived (el : Nat) (port : PortNo) (bytes : List Byte)
  /-- PTP_MESSAGE_DISCARD (R385): A PTP frame of another domain, version or VID, or a Pdelay or Management message, is discarded and counted. -/
  | ptpMessageDiscard (el : Nat) (port : PortNo) (bytes : List Byte)
  /-- SYNC_INTERVAL (R386): A master port's Sync interval expires and a one-step or two-step Sync is originated. -/
  | syncInterval (el : Nat) (port : PortNo)
  /-- DELAY_REQ_INTERVAL (R385): A slave port's Delay_Req interval expires and a Delay_Req is originated. -/
  | delayReqInterval (el : Nat) (port : PortNo)
  /-- ANNOUNCE_INTERVAL (R388): A master port's Announce interval expires and an Announce with the current clockClass is sent. -/
  | announceInterval (el : Nat) (port : PortNo)
  /-- ANNOUNCE_RECEIPT_TIMEOUT (R408): announceReceiptTimeout expires on a port and the BMCA re-evaluates. -/
  | announceReceiptTimeout (el : Nat) (port : PortNo)
  /-- UNICAST_GRANT_REQUEST (R385): G.8275.2 unicast grant requests are sent to the configured masters. -/
  | unicastGrantRequest (el : Nat) (port : PortNo)
  /-- DEPARTURE_RECORD (R375): A two-step PTP event message or a Delay_Req leaves a port and a departure record is written, or the FIFO overflows. -/
  | departureRecord (el : Nat) (port : PortNo)
  /-- ESMC_RECEIVED (R391): An ESMC PDU is received and updates the port's QL. -/
  | esmcReceived (el : Nat) (port : PortNo) (bytes : List Byte)
  /-- QL_TIMEOUT (R391): No ESMC arrives for 5 s and the port's QL becomes failed. -/
  | qlTimeout (el : Nat) (port : PortNo)
  /-- ESMC_TRANSMIT (R394): Once per second each enabled port sends an ESMC information PDU with its QL. -/
  | esmcTransmit (el : Nat)
  /-- DPLL_SELECTION (R392): The DPLL re-selects its input by QL, priority and port number, or goes to holdover. -/
  | dpllSelection (el : Nat) (port : PortNo) (ppb : BitVec 32)
  /-- WAIT_TO_RESTORE_EXPIRY (R392): A port's wait-to-restore time ends and it becomes a candidate again. -/
  | waitToRestoreExpiry (el : Nat) (port : PortNo)
  /-- SYNCE_QUALIFIED (R395): The DPLL has been locked to a PRC-or-better input for 1 h and SyncE is qualified for holdover. -/
  | synceQualified (el : Nat)
  /-- GNSS_PPS (R397): A GNSS PPS is timestamped and checked against the short and long plumb lines. -/
  | gnssPps (el : Nat) (frac : BitVec 8) (second : BitVec 48) (state : Fin 5) (used tracked : BitVec 8) (cn0 : BitVec 16) (integrity : Bool) (utc : Option (BitVec 16)) (leap : Fin 3)
  /-- SURVEY_COMPLETE (R396): The self-survey duration ends and the receiver holds its averaged position. -/
  | surveyComplete (el : Nat) (position : BitVec 192)
  /-- ANTENNA_CONDITION (R57): The antenna bias current crosses an open, overload or short threshold and the condition is reported. -/
  | antennaCondition (el : Nat) (current : BitVec 16)
  /-- ANTENNA_BIAS_RETRY (R57): Every 10 s after a short the antenna bias is retried. -/
  | antennaBiasRetry (el : Nat)
  /-- MODEL_READY (R401): The holdover model reaches 72 h of lock, or 6 h of re-verification, and becomes ready. -/
  | modelReady (el : Nat)
  /-- MODEL_STORE (R401): Every hour the holdover model is written to the flash of both controllers. -/
  | modelStore (el : Nat)
  /-- MODEL_RESET (R414): PID 340Eh written 1 discards the holdover model. -/
  | modelReset (el : Nat) (q : Req)
  /-- TIMED_OUTPUT_EDGE (R404): A TO0 or TO1 edge falls at its grid instant in DT and a pulse is produced. -/
  | timedOutputEdge (el : Nat) (out : Fin 2)
  /-- CAPTURE_EDGE (R405): A selected edge on TI0 or TI1 is captured into its ring, or dropped as too fast. -/
  | captureEdge (el : Nat) (input : Fin 2) (frac : BitVec 8) (falling : Bool)
  /-- CAPTURE_RING_CLEAR (R415): PID 3511h written 1 clears an input's capture ring. -/
  | captureRingClear (el : Nat) (q : Req)
  /-- TOD_MESSAGE (R406): 100 ms after each DT second, ToD TX sends its time message. -/
  | todMessage (el : Nat)
  /-- TOD_RX_MESSAGE (R407): A ToD RX message is received and checked with the TI0 edge to qualify or drop the PPS input source. -/
  | todRxMessage (el : Nat) (bytes : List Byte)
  /-- RESONATOR_VOTE (R416): Every 10 ms the three resonators are compared; resonators are excluded or readmitted and the reference may switch. -/
  | resonatorVote (el : Nat) (r0 r1 r2 : Option (BitVec 32))
  /-- OVEN_OUT_OF_REGULATION (R418): The oven stays outside 140 °C ± 0.5 K for 10 s and the time ratings are withdrawn. -/
  | ovenOutOfRegulation (el : Nat) (temp : BitVec 32)
  /-- ROOT_PLL_UNLOCK (R420): A domain's root PLL loses lock and the domain switches to its fallback oscillator. -/
  | rootPllUnlock (el : Nat) (dom : Fin 13) (ppb : BitVec 32)
  /-- FALLBACK_RETURN (R420): The root has been locked for the fallback return delay and the domain returns to it. -/
  | fallbackReturn (el : Nat) (dom : Fin 13)
  /-- FORCED_SWITCH (R423): 64 incoming cycles pass with no outgoing edge and the clock multiplexer switches by force. -/
  | forcedSwitch (el : Nat) (dom : Fin 13)
  /-- LOAD_MEASUREMENT (R421): Every 1 µs each plane measures pipeline load and floor divider and may start a ramp. -/
  | loadMeasurement (el : Nat) (plane : PlaneNo) (loads : BitVec 128)
  /-- DIVIDER_RAMP_STEP (R421): At a 4 µs boundary during a ramp, the core divider moves one value. -/
  | dividerRampStep (el : Nat) (plane : PlaneNo)
  /-- METER_MEASUREMENT_COMPLETE (R424): A frequency-meter gate time ends and the result is reported. -/
  | meterMeasurementComplete (el : Nat) (ch : Fin 16) (nm nr : BitVec 64)
  /-- GATE_CONTROL_SET (R425): A write of PID 0228h forces a clock gate open or closed, or returns it to automatic. -/
  | gateControlSet (el : Nat) (q : Req)
  /-- FORCED_GATE_CLOSE (R427): An access still running 256 control-bus cycles after a close request is aborted and the gate closes. -/
  | forcedGateClose (el : Nat) (gate : Fin 192)
  /-- SESSION_OPEN (R438): A TLS handshake completes and the session-open message is sent with its status. -/
  | sessionOpen (el : Nat) (ctl : CtlNo) (m0 : Bool) (cert : Option Client)
  /-- ENROLMENT_CODE (R436): A SET of PID 040Ah in the enrolment session checks the enrolment code. -/
  | enrolmentCode (el : Nat) (q : Req)
  /-- SESSION_CLOSE (R455): A session closes; queued requests, bundle, iteration and subscriptions are discarded. -/
  | sessionClose (el : Nat) (ctl : CtlNo) (sess : Fin 4)
  /-- IDLE_TIMEOUT (R455): No message arrives for the idle timeout with no tag outstanding, and the session is closed. -/
  | idleTimeout (el : Nat) (ctl : CtlNo) (sess : Fin 4)
  /-- MALFORMED_REQUEST (R442): A request with bad magic, version, flags, session, opcode, length or a duplicate tag is refused or the connection closed. -/
  | malformedRequest (el : Nat) (ctl : CtlNo) (sess : Fin 4) (tag op : Byte) (pid : BitVec 16) (inst : BitVec 32) (kind : Malformed)
  /-- PENDING_TIMER (R447): A request is unanswered 100 ms after its last fragment and an interim PENDING answer is sent. -/
  | pendingTimer (el : Nat) (ctl : CtlNo) (sess : Fin 4) (tag : Byte)
  /-- GET (R450): Returns the value of one parameter instance. -/
  | get (el : Nat) (q : Req) (pid : BitVec 16)
  /-- SET (R450): Writes a parameter that has no row of its own, holding bundle values, storing stored values, or applying volatile ones. -/
  | set (el : Nat) (q : Req) (pid : BitVec 16)
  /-- GET_RANGE (R450): Returns the values of a range of instances, ending at the first instance that fails a check. -/
  | getRange (el : Nat) (q : Req) (pid : BitVec 16)
  /-- COMMIT (R157): Checks the open bundle, writes a free version slot in both planes and sends phase 1 to the standby. -/
  | commit (el : Nat) (q : Req)
  /-- COMMIT_PHASE1_ACK (R157): The standby acknowledges phase 1; the activation RC is converted and written, the slot armed, and the COMMIT answered. -/
  | commitPhase1Ack (el : Nat)
  /-- ABORT_BUNDLE (R155): Discards the session's open bundle. -/
  | abortBundle (el : Nat) (q : Req)
  /-- DEFAULT_TENANT_COMMIT (R164): A SET of PIDs 101Dh to 101Fh is carried out as a one-parameter commit at the earliest instant. -/
  | defaultTenantCommit (el : Nat) (q : Req) (which : Fin 3)
  /-- SLOT_ACTIVATE (R160): RC reaches an armed slot's activation RC; it becomes active and its predecessor starts draining. -/
  | slotActivate (el : Nat) (slot : Fin 4)
  /-- SLOT_FREE (R160): A draining slot's settle time has passed with zero in-flight frames; it is freed and its membership bits cleared. -/
  | slotFree (el : Nat) (slot : Fin 4)
  /-- VERSION_STALL (R162): A draining slot reaches the stall limit and is freed by force. -/
  | versionStall (el : Nat) (slot : Fin 4)
  /-- CANCEL_ARMED_SLOT (R161): PID 1032h written 1 cancels the latest armed slot before its lead. -/
  | cancelArmedSlot (el : Nat) (q : Req)
  /-- FENCE (R449): A no-operation request that waits for every earlier request of its session and is answered OK. -/
  | fence (el : Nat) (q : Req)
  /-- PING (R450): Echoes its payload followed by the DT of the answer. -/
  | ping (el : Nat) (q : Req)
  /-- SUBSCRIBE (R451): Creates a subscription and sends a first event with the current values. -/
  | subscribe (el : Nat) (q : Req) (pid : BitVec 16)
  /-- UNSUBSCRIBE (R452): Removes a subscription after sending its queued events. -/
  | unsubscribe (el : Nat) (q : Req) (pid : BitVec 16)
  /-- SUBSCRIPTION_COMPARE (R451): Every 10 ms subscribed values are compared and change, periodic or overflow events are queued. -/
  | subscriptionCompare (el : Nat) (stalled : BitVec 4)
  /-- EVENT_OVERFLOW_SUSTAINED (R462): Event overflows occur in 100 consecutive 1 s windows and fault bit 212 is set. -/
  | eventOverflowSustained (el : Nat) (sess : Fin 4)
  /-- COUNTER_SNAPSHOT (R508): Schedules a latch of counters at a snapshot RC, with or without clear. -/
  | counterSnapshot (el : Nat) (q : Req) (pid : BitVec 16)
  /-- SNAPSHOT_LATCH (R509): At the snapshot RC every domain latches, and optionally clears, the requested counters, and the answer is sent. -/
  | snapshotLatch (el : Nat)
  /-- CLEAR_ALL_COUNTERS (R511): PID 3C2Dh written 1 clears every clearable counter at one snapshot RC. -/
  | clearAllCounters (el : Nat) (q : Req)
  /-- COUNTER_MEMORY_ERROR (R512): An uncorrectable counter-storage error zeroes the counter and sets fault bit 232. -/
  | counterMemoryError (el : Nat) (pid : BitVec 16) (inst : BitVec 32)
  /-- HIGH_WATER_RESET (R494): A write of 0 to a write-0-to-reset parameter resets its high-water mark or maximum. -/
  | highWaterReset (el : Nat) (q : Req) (which : Fin 7)
  /-- FAULT_READ (R518): Returns the fault summary and the requested fault entries. -/
  | faultRead (el : Nat) (q : Req)
  /-- FAULT_CLEAR (R519): Clears the masked fault entries at one instant and returns the mask of those cleared. -/
  | faultClear (el : Nat) (q : Req)
  /-- CLEAR_ALL_ENTRIES (R519): PID 3E0Dh written 1 clears all 256 fault entries. -/
  | clearAllEntries (el : Nat) (q : Req)
  /-- RECORD_WRITE (R520): The fault record is written to both controllers' flash when a bit is set, at a clear, or each write interval while counts changed. -/
  | recordWrite (el : Nat) (fail : Option CtlNo)
  /-- FW_STAGE (R459): Collects a firmware image from fragments, checks it and writes it to both inactive banks. -/
  | fwStage (el : Nat) (q : Req) (last : Bool)
  /-- FW_ACTIVATE (R460): Starts activation of the staged image by booting it on the standby first. -/
  | fwActivate (el : Nat) (q : Req)
  /-- ACTIVATION_STANDBY_READY (R460): The booting controller becomes standby-ready on the staged bank, and activation proceeds to the swap or completion. -/
  | activationStandbyReady (el : Nat)
  /-- ACTIVATION_TIMEOUT (R460): A booting controller is not standby-ready within 300 s, reverts to its previous bank and the activation reports STAGE. -/
  | activationTimeout (el : Nat)
  /-- HOD_DESCRIPTOR (R466): A hod channel starts the next owned descriptor of its ring or chain, in aligned or funnel mode. -/
  | hodDescriptor (el : Nat) (chan : Fin 32) (base : BitVec 64) (sizeLog : Fin 9) (tail : BitVec 12) (desc : BitVec 256)
  /-- DESCRIPTOR_COMPLETE (R471): The last written word reads back correctly, so status is written, ownership returned and the head advanced, or the channel halts. -/
  | descriptorComplete (el : Nat) (chan : Fin 32) (result : Fin 5)
  /-- TARGET_TIMEOUT (R472): A target does not answer within 2 µs; the descriptor ends with status 3 and the channel halts. -/
  | targetTimeout (el : Nat) (chan : Fin 32)
  /-- HOD_PAUSE (R474): Setting or clearing PID 3806h stops or resumes a channel at an exact byte. -/
  | hodPause (el : Nat) (q : Req)
  /-- HOD_RESUME (R473): PID 3807h value 1 resumes a halted channel from the first byte not moved. -/
  | hodResume (el : Nat) (q : Req)
  /-- HOD_ABANDON (R473): PID 3807h value 2 abandons a halted channel's descriptor with status 10 and moves on. -/
  | hodAbandon (el : Nat) (q : Req)
  /-- HOD_POWER_DOWN_ABORT (R475): A channel not at a boundary 100 µs after a power-down request is aborted with status 8. -/
  | hodPowerDownAbort (el : Nat) (chan : Fin 32)
  /-- CONTROLLER_COPY_RECEIVED (R477): A controller-bound copy reaches the receive interface and is posted, discarded as twin or late, or freed as bad. -/
  | controllerCopyReceived (el : Nat) (ctl : CtlNo) (plane : PlaneNo) (core : Fin 4) (ring : Bool)
  /-- RECEIVE_WINDOW_TIME_BOUND (R477): A receive-window key reaches its 50 µs bound and moves to the retired list. -/
  | receiveWindowTimeBound (el : Nat) (ctl : CtlNo)
  /-- RECEIVE_DROPS_SUSTAINED (R483): No-buffer or ring-full drops occur in 1,000 consecutive 1 ms windows and fault bit 228 is set. -/
  | receiveDropsSustained (el : Nat) (ctl : CtlNo)
  /-- FRAME_INJECTION (R480): An injected frame is stamped and offered to both planes' named pipeline, then resolved and admitted. -/
  | frameInjection (el : Nat) (ctl : CtlNo) (head : BitVec 128) (bytes : List Byte)
  /-- BYPASS_SENSE_CHANGE (R51): The bypass sense changes; the latch records it and the module starts or ends an unmetered-interval record. -/
  | bypassSenseChange (el : Nat) (closed : Bool)
  /-- HISTORY_LATCH_READ (R53): At each start the controller reads unread latch entries, builds unmetered records and clears the overflow flag. -/
  | historyLatchRead (el : Nat)
  /-- LATCH_CLOCK_SET (R53): Once an hour while DT is valid, the active controller sets the history latch clock. -/
  | latchClockSet (el : Nat)
  /-- CARTRIDGE_POWER_UP (R525): A channel reaches 38 V; the cartridge starts, logs power-up and opens an interval. -/
  | cartridgePowerUp (el : Nat) (fresh : Option (BitVec 1024)) (clock ok : Bool)
  /-- CARTRIDGE_POWER_DOWN (R525): Every channel falls below 35 V; the cartridge closes its interval and stops. -/
  | cartridgePowerDown (el : Nat) (stop : CartridgeStop)
  /-- INTERVAL_END (R527): At a 15-minute UTC boundary the cartridge writes one signed interval record per channel. -/
  | intervalEnd (el : Nat) (meas : BitVec 1408)
  /-- FIRMWARE_SELF_CHECK (R522): At power-up and every 24 h the cartridge checks its firmware digest and stops metering on failure. -/
  | firmwareSelfCheck (el : Nat) (ok : Bool)
  /-- COVER_SWITCH_OPENED (R540): The cartridge body is opened and event 07h is logged. -/
  | coverSwitchOpened (el : Nat)
  /-- CARTRIDGE_LINK_UP (R542): The serial link comes up; an identifier change counts an exchange and resets the relayed values. -/
  | cartridgeLinkUp (el : Nat)
  /-- CARTRIDGE_LINK_LOST (R544): No valid frame arrives for 1 s with the bypass open; the link is lost and backlog accumulates. -/
  | cartridgeLinkLost (el : Nat)
  /-- RECORD_FETCH (R531): The controller fetches closed interval records and verifies their signatures. -/
  | recordFetch (el : Nat) (channel : Fin 16) (result : Fin 3)
  /-- DISCIPLINE_MESSAGE (R533): Each discipline interval a time message is sent, and the cartridge slews, steps or refuses. -/
  | disciplineMessage (el : Nat) (drift : BitVec 32) (meas : BitVec 1408)
  /-- STEP_AUTHORISATION_LAPSE (R535): No discipline message applies a pending step within 10 min and the authorisation lapses. -/
  | stepAuthorisationLapse (el : Nat)
  /-- METER_READ_BY_INTERVAL (R532): METER_READ kind 0 returns interval records by interval start. -/
  | meterReadByInterval (el : Nat) (q : Req)
  /-- METER_READ_BY_SEQUENCE (R532): METER_READ kind 1 returns interval records by sequence number. -/
  | meterReadBySequence (el : Nat) (q : Req)
  /-- METER_READ_IDENTITY (R532): METER_READ kind 2 returns the identity record and status. -/
  | meterReadIdentity (el : Nat) (q : Req)
  /-- STEP_AUTHORISATION (R535): METER_READ kind 3 from an inspector passes a step authorisation to the cartridge. -/
  | stepAuthorisation (el : Nat) (q : Req)
  /-- METER_LOG (R537): Returns event-log entries of the cartridge in sequence order. -/
  | meterLog (el : Nat) (q : Req)
  /-- OPTICAL_READOUT (R539): A read request on the cartridge's optical port returns records, registers or log. -/
  | opticalReadout (el : Nat) (kind : Fin 4) (channel : Fin 16)
  /-- VERIFICATION_DUE (R544): The verification period end comes within the warning lead, or passes, and fault bit 246 or 247 is set. -/
  | verificationDue (el : Nat)
  /-- PSU_OVERVOLTAGE_RESUME (R42): A PSU shut down for an input above 300 V resumes when its input falls below 280 V. -/
  | psuOvervoltageResume (el : Nat) (psu : Fin 2) (volts : BitVec 16)
  /-- PSU_FAULT (R516): A PSU fails internally, PSU state 3 is reported, fault bit 2 is set and the other PSU carries the load. -/
  | psuFault (el : Nat) (psu : Fin 2)
  /-- POWER_DOMAIN_LOSS (R17): A single power domain (a plane, a port group or a controller) loses power through a regulator fault, with the effects of R17. -/
  | powerDomainLoss (el : Nat) (dom : Fin 12)
  /-- PEER_HEARTBEAT_SEEN (R347): An isolated controller that has not seen its peer's heartbeat sees it again and becomes standby. -/
  | peerHeartbeatSeen (el : Nat) (ctl : CtlNo)
  /-- SOURCE_DISQUALIFIED (R378): A qualified time source stops meeting its conditions: the GNSS receiver loses its time fix, Sync or Delay_Resp stop arriving, or a PPS input edge or message is missing; the servo goes to holdover or free-run. -/
  | sourceDisqualified (el : Nat) (source : Fin 3)
  /-- PFC_WATCHDOG_EXPIRY (R109): The further watchdog time after a PFC watchdog trip ends, and the port honours received PFC for that priority again. -/
  | pfcWatchdogExpiry (el : Nat) (port : PortNo) (prio : Fin 8)
  /-- FILTER_REBUILD_COMPLETE (R193): A length-filter rebuild in spare banks finishes and is switched over in one write, clearing PID 143Dh. -/
  | filterRebuildComplete (el : Nat)
  /-- LATCH_RESTART (R53): The bypass-sense history latch starts again after losing both live channels and its backup store, recording any change at its restart with the time-not-valid flag. -/
  | latchRestart (el : Nat)
  /-- CHANNEL_OVERLOAD (R536): A channel's current rises above 40 A or falls back, and the cartridge logs an overload start or end. -/
  | channelOverload (el : Nat) (channel : Fin 16) (amps : BitVec 16)
  /-- CHANNEL_VOLTAGE_OUT_OF_RANGE (R536): A channel's voltage leaves its range and the cartridge logs event 0Dh. -/
  | channelVoltageOutOfRange (el : Nat) (channel : Fin 16) (volts : BitVec 16)
  deriving DecidableEq, Repr

end Sys2Proof
end

