-- ==== Sys2Proof/WellFormed.lean ====
section
/-! DEFINITION. What a command must satisfy beyond its type, and the ticks that pass before it. -/

namespace Sys2Proof

/-- A request's payload fits (14 R442, R443): 4,096 bytes in a fragment, 65,536 in all. -/
def Req.fits (q : Req) (n : Nat) : Bool := decide (q.data.length ≤ n)

/-- A command is well formed: a head is at most 256 bytes, the parse window, a payload fits its message. Meanings are total on every command. -/
def Instr.wellFormed : Instr → Bool
  | .mainsApplied _ _ _ _ => true
  | .psuStop _ _ _ => true
  | .psuResume _ _ _ => true
  | .psuOvervoltageShutdown _ _ _ => true
  | .shortDip _ _ => true
  | .lastGasp _ => true
  | .shutdownPowerDown _ => true
  | .domainPowered _ _ => true
  | .controllerBoot _ _ _ _ _ _ => true
  | .enterFooting _ => true
  | .enterSill _ => true
  | .selfTestComplete _ _ _ => true
  | .secondPlaneTimeout _ => true
  | .selfTestRetry _ => true
  | .enterBonded _ => true
  | .bundleRearm _ => true
  | .kilnReady _ => true
  | .kilnWarmUpOverrun _ => true
  | .enterToppedOut _ => true
  | .stageFallBack _ => true
  | .sillHold _ q => q.fits 65536
  | .moduleReset _ q => q.fits 65536
  | .controllerReset _ q => q.fits 65536
  | .domainPowerDown _ q => q.fits 65536
  | .domainPowerUp _ q => q.fits 65536
  | .domainCycle _ q => q.fits 65536
  | .domainPowerDownComplete _ _ => true
  | .portEnable _ q => q.fits 65536
  | .portDisable _ q => q.fits 65536
  | .portSpeedFecChange _ q _ => q.fits 65536
  | .linkDown _ _ _ => true
  | .linkUp _ _ _ => true
  | .laserSwapWearOut _ _ _ => true
  | .laserLossOfOutput _ _ => true
  | .swapRequest _ q => q.fits 65536
  | .swapHitEnd _ _ => true
  | .spareWarmed _ _ => true
  | .portGroupOvertemperature _ _ _ => true
  | .frameArrival _ _ head _ => decide (head.length ≤ 256)
  | .frameEnd _ _ _ _ => true
  | .macControlFrame _ _ _ _ => true
  | .pauseTimerExpiry _ _ _ => true
  | .pfcWatchdog _ _ _ => true
  | .pfcRefresh _ _ _ => true
  | .bucketReset _ q => q.fits 65536
  | .policerMemoryError _ _ => true
  | .controllerPathLimitFault _ _ => true
  | .stepDownRequest _ _ => true
  | .stepUpRequest _ _ _ => true
  | .stepMessage _ _ _ _ _ _ _ => true
  | .stepNegotiationTimeout _ _ => true
  | .stepLock _ _ => true
  | .stepFailure _ _ => true
  | .steppingFailedClear _ q => q.fits 65536
  | .frameClassify _ _ _ => true
  | .frameTileWrite _ _ _ => true
  | .secondPass _ _ _ => true
  | .cacheRefill _ _ _ => true
  | .schedulerSelect _ _ _ => true
  | .creditReport _ => true
  | .copyReadoutComplete _ _ _ => true
  | .agerVisit _ _ _ => true
  | .queueFlush _ q => q.fits 65536
  | .linkMemoryError _ _ _ _ => true
  | .scrubStart _ _ => true
  | .scrubRequest _ q => q.fits 65536
  | .scrubEnd _ _ => true
  | .controllerBufferFree _ _ _ _ => true
  | .handOver _ _ _ _ _ => true
  | .learnApply _ _ => true
  | .freezeExpiry _ _ _ => true
  | .ageScan _ _ => true
  | .learnOverflowFault _ _ => true
  | .exactMatchMemoryError _ _ _ => true
  | .ruleMemoryError _ _ _ => true
  | .slowPathResolve _ => true
  | .slowPathLimitFault _ _ => true
  | .filterRebuild _ q => q.fits 65536
  | .staticEntrySet _ q => q.fits 65536
  | .nextHopSet _ q => q.fits 65536
  | .ecmpGroupSet _ q => q.fits 65536
  | .rewriteSet _ q => q.fits 65536
  | .quietPeriodExpiry _ => true
  | .tblSearch _ q => q.fits 65536
  | .tblNext _ q => q.fits 65536
  | .tblInsert _ q => q.fits 65536
  | .tblDelete _ q => q.fits 65536
  | .tblFlushPort _ q => q.fits 65536
  | .flushComplete _ _ _ => true
  | .tblBulkLoad _ q _ => q.fits 4096
  | .bulkLoadComplete _ => true
  | .tblBulkRead _ q => q.fits 65536
  | .courseHorizon _ => true
  | .courseOpen _ => true
  | .courseClose _ => true
  | .courseSettled _ => true
  | .bankSwap _ q => q.fits 65536
  | .bankSwapEffect _ _ => true
  | .coursingSuspend _ => true
  | .coursingResume _ => true
  | .shaperRefill _ => true
  | .shaperMemoryError _ _ _ => true
  | .configurationChangeRequest _ q => q.fits 65536
  | .configurationChange _ _ => true
  | .gateListEnable _ q => q.fits 65536
  | .gateListDisable _ q => q.fits 65536
  | .gateEdge _ _ => true
  | .samplerVisit _ _ _ => true
  | .clearSlotCounts _ q => q.fits 65536
  | .bondCopyHead _ _ _ _ _ => true
  | .bondCopyEnd _ _ _ _ => true
  | .bondTimeBound _ _ => true
  | .retiredKeyExpiry _ _ => true
  | .bondDropsSustained _ _ => true
  | .recoveryResetTimeout _ _ => true
  | .recoveryReset _ q => q.fits 65536
  | .sequenceReset _ q => q.fits 65536
  | .judgementWindow _ => true
  | .activationCheck _ => true
  | .reseedComplete _ _ => true
  | .planeJoin _ _ => true
  | .reseedTimeout _ _ => true
  | .planeReseed _ q => q.fits 65536
  | .roleSwap _ q => q.fits 65536
  | .scheduledRoleSwap _ => true
  | .heartbeatLoss _ _ => true
  | .watchdogExpiry _ _ => true
  | .dramUncorrectable _ _ => true
  | .tokenRequest _ _ _ => true
  | .tokenRelease _ _ => true
  | .controllerIsolation _ _ => true
  | .controllerPairCycle _ => true
  | .switchover _ => true
  | .mirrorTimeout _ => true
  | .resynchronisationComplete _ => true
  | .tripleSwitch _ => true
  | .localCopyCheck _ _ _ => true
  | .timebaseMismatch _ _ => true
  | .domainKLoss _ => true
  | .sourceUpdate _ _ => true
  | .sourceQualified _ _ => true
  | .servoLock _ => true
  | .holdoverUpdate _ => true
  | .manualStep _ q => q.fits 65536
  | .manualRate _ q => q.fits 65536
  | .leapSecond _ => true
  | .syncReceived _ _ _ _ _ => true
  | .followUpReceived _ _ _ => true
  | .delayReqReceived _ _ _ _ _ => true
  | .delayRespReceived _ _ _ => true
  | .announceReceived _ _ _ => true
  | .signalingReceived _ _ _ => true
  | .ptpMessageDiscard _ _ _ => true
  | .syncInterval _ _ => true
  | .delayReqInterval _ _ => true
  | .announceInterval _ _ => true
  | .announceReceiptTimeout _ _ => true
  | .unicastGrantRequest _ _ => true
  | .departureRecord _ _ => true
  | .esmcReceived _ _ _ => true
  | .qlTimeout _ _ => true
  | .esmcTransmit _ => true
  | .dpllSelection _ _ _ => true
  | .waitToRestoreExpiry _ _ => true
  | .synceQualified _ => true
  | .gnssPps _ _ _ _ _ _ _ _ _ _ => true
  | .surveyComplete _ _ => true
  | .antennaCondition _ _ => true
  | .antennaBiasRetry _ => true
  | .modelReady _ => true
  | .modelStore _ => true
  | .modelReset _ q => q.fits 65536
  | .timedOutputEdge _ _ => true
  | .captureEdge _ _ _ _ => true
  | .captureRingClear _ q => q.fits 65536
  | .todMessage _ => true
  | .todRxMessage _ _ => true
  | .resonatorVote _ _ _ _ => true
  | .ovenOutOfRegulation _ _ => true
  | .rootPllUnlock _ _ _ => true
  | .fallbackReturn _ _ => true
  | .forcedSwitch _ _ => true
  | .loadMeasurement _ _ _ => true
  | .dividerRampStep _ _ => true
  | .meterMeasurementComplete _ _ _ _ => true
  | .gateControlSet _ q => q.fits 65536
  | .forcedGateClose _ _ => true
  | .sessionOpen _ _ _ _ => true
  | .enrolmentCode _ q => q.fits 65536
  | .sessionClose _ _ _ => true
  | .idleTimeout _ _ _ => true
  | .malformedRequest _ _ _ _ _ _ _ _ => true
  | .pendingTimer _ _ _ _ => true
  | .get _ q _ => q.fits 65536
  | .set _ q _ => q.fits 65536
  | .getRange _ q _ => q.fits 65536
  | .commit _ q => q.fits 65536
  | .commitPhase1Ack _ => true
  | .abortBundle _ q => q.fits 65536
  | .defaultTenantCommit _ q _ => q.fits 65536
  | .slotActivate _ _ => true
  | .slotFree _ _ => true
  | .versionStall _ _ => true
  | .cancelArmedSlot _ q => q.fits 65536
  | .fence _ q => q.fits 65536
  | .ping _ q => q.fits 65536
  | .subscribe _ q _ => q.fits 65536
  | .unsubscribe _ q _ => q.fits 65536
  | .subscriptionCompare _ _ => true
  | .eventOverflowSustained _ _ => true
  | .counterSnapshot _ q _ => q.fits 65536
  | .snapshotLatch _ => true
  | .clearAllCounters _ q => q.fits 65536
  | .counterMemoryError _ _ _ => true
  | .highWaterReset _ q _ => q.fits 65536
  | .faultRead _ q => q.fits 65536
  | .faultClear _ q => q.fits 65536
  | .clearAllEntries _ q => q.fits 65536
  | .recordWrite _ _ => true
  | .fwStage _ q _ => q.fits 4096
  | .fwActivate _ q => q.fits 65536
  | .activationStandbyReady _ => true
  | .activationTimeout _ => true
  | .hodDescriptor _ _ _ _ _ _ => true
  | .descriptorComplete _ _ _ => true
  | .targetTimeout _ _ => true
  | .hodPause _ q => q.fits 65536
  | .hodResume _ q => q.fits 65536
  | .hodAbandon _ q => q.fits 65536
  | .hodPowerDownAbort _ _ => true
  | .controllerCopyReceived _ _ _ _ _ => true
  | .receiveWindowTimeBound _ _ => true
  | .receiveDropsSustained _ _ => true
  | .frameInjection _ _ _ _ => true
  | .bypassSenseChange _ _ => true
  | .historyLatchRead _ => true
  | .latchClockSet _ => true
  | .cartridgePowerUp _ _ _ _ => true
  | .cartridgePowerDown _ _ => true
  | .intervalEnd _ _ => true
  | .firmwareSelfCheck _ _ => true
  | .coverSwitchOpened _ => true
  | .cartridgeLinkUp _ => true
  | .cartridgeLinkLost _ => true
  | .recordFetch _ _ _ => true
  | .disciplineMessage _ _ _ => true
  | .stepAuthorisationLapse _ => true
  | .meterReadByInterval _ q => q.fits 65536
  | .meterReadBySequence _ q => q.fits 65536
  | .meterReadIdentity _ q => q.fits 65536
  | .stepAuthorisation _ q => q.fits 65536
  | .meterLog _ q => q.fits 65536
  | .opticalReadout _ _ _ => true
  | .verificationDue _ => true
  | .psuOvervoltageResume _ _ _ => true
  | .psuFault _ _ => true
  | .powerDomainLoss _ _ => true
  | .peerHeartbeatSeen _ _ => true
  | .sourceDisqualified _ _ => true
  | .pfcWatchdogExpiry _ _ _ => true
  | .filterRebuildComplete _ => true
  | .latchRestart _ => true
  | .channelOverload _ _ _ => true
  | .channelVoltageOutOfRange _ _ _ => true

/-- The ticks of 2.5 ns between the command before and this one. -/
def Instr.elapsed : Instr → Nat
  | .mainsApplied el _ _ _ => el
  | .psuStop el _ _ => el
  | .psuResume el _ _ => el
  | .psuOvervoltageShutdown el _ _ => el
  | .shortDip el _ => el
  | .lastGasp el => el
  | .shutdownPowerDown el => el
  | .domainPowered el _ => el
  | .controllerBoot el _ _ _ _ _ => el
  | .enterFooting el => el
  | .enterSill el => el
  | .selfTestComplete el _ _ => el
  | .secondPlaneTimeout el => el
  | .selfTestRetry el => el
  | .enterBonded el => el
  | .bundleRearm el => el
  | .kilnReady el => el
  | .kilnWarmUpOverrun el => el
  | .enterToppedOut el => el
  | .stageFallBack el => el
  | .sillHold el _ => el
  | .moduleReset el _ => el
  | .controllerReset el _ => el
  | .domainPowerDown el _ => el
  | .domainPowerUp el _ => el
  | .domainCycle el _ => el
  | .domainPowerDownComplete el _ => el
  | .portEnable el _ => el
  | .portDisable el _ => el
  | .portSpeedFecChange el _ _ => el
  | .linkDown el _ _ => el
  | .linkUp el _ _ => el
  | .laserSwapWearOut el _ _ => el
  | .laserLossOfOutput el _ => el
  | .swapRequest el _ => el
  | .swapHitEnd el _ => el
  | .spareWarmed el _ => el
  | .portGroupOvertemperature el _ _ => el
  | .frameArrival el _ _ _ => el
  | .frameEnd el _ _ _ => el
  | .macControlFrame el _ _ _ => el
  | .pauseTimerExpiry el _ _ => el
  | .pfcWatchdog el _ _ => el
  | .pfcRefresh el _ _ => el
  | .bucketReset el _ => el
  | .policerMemoryError el _ => el
  | .controllerPathLimitFault el _ => el
  | .stepDownRequest el _ => el
  | .stepUpRequest el _ _ => el
  | .stepMessage el _ _ _ _ _ _ => el
  | .stepNegotiationTimeout el _ => el
  | .stepLock el _ => el
  | .stepFailure el _ => el
  | .steppingFailedClear el _ => el
  | .frameClassify el _ _ => el
  | .frameTileWrite el _ _ => el
  | .secondPass el _ _ => el
  | .cacheRefill el _ _ => el
  | .schedulerSelect el _ _ => el
  | .creditReport el => el
  | .copyReadoutComplete el _ _ => el
  | .agerVisit el _ _ => el
  | .queueFlush el _ => el
  | .linkMemoryError el _ _ _ => el
  | .scrubStart el _ => el
  | .scrubRequest el _ => el
  | .scrubEnd el _ => el
  | .controllerBufferFree el _ _ _ => el
  | .handOver el _ _ _ _ => el
  | .learnApply el _ => el
  | .freezeExpiry el _ _ => el
  | .ageScan el _ => el
  | .learnOverflowFault el _ => el
  | .exactMatchMemoryError el _ _ => el
  | .ruleMemoryError el _ _ => el
  | .slowPathResolve el => el
  | .slowPathLimitFault el _ => el
  | .filterRebuild el _ => el
  | .staticEntrySet el _ => el
  | .nextHopSet el _ => el
  | .ecmpGroupSet el _ => el
  | .rewriteSet el _ => el
  | .quietPeriodExpiry el => el
  | .tblSearch el _ => el
  | .tblNext el _ => el
  | .tblInsert el _ => el
  | .tblDelete el _ => el
  | .tblFlushPort el _ => el
  | .flushComplete el _ _ => el
  | .tblBulkLoad el _ _ => el
  | .bulkLoadComplete el => el
  | .tblBulkRead el _ => el
  | .courseHorizon el => el
  | .courseOpen el => el
  | .courseClose el => el
  | .courseSettled el => el
  | .bankSwap el _ => el
  | .bankSwapEffect el _ => el
  | .coursingSuspend el => el
  | .coursingResume el => el
  | .shaperRefill el => el
  | .shaperMemoryError el _ _ => el
  | .configurationChangeRequest el _ => el
  | .configurationChange el _ => el
  | .gateListEnable el _ => el
  | .gateListDisable el _ => el
  | .gateEdge el _ => el
  | .samplerVisit el _ _ => el
  | .clearSlotCounts el _ => el
  | .bondCopyHead el _ _ _ _ => el
  | .bondCopyEnd el _ _ _ => el
  | .bondTimeBound el _ => el
  | .retiredKeyExpiry el _ => el
  | .bondDropsSustained el _ => el
  | .recoveryResetTimeout el _ => el
  | .recoveryReset el _ => el
  | .sequenceReset el _ => el
  | .judgementWindow el => el
  | .activationCheck el => el
  | .reseedComplete el _ => el
  | .planeJoin el _ => el
  | .reseedTimeout el _ => el
  | .planeReseed el _ => el
  | .roleSwap el _ => el
  | .scheduledRoleSwap el => el
  | .heartbeatLoss el _ => el
  | .watchdogExpiry el _ => el
  | .dramUncorrectable el _ => el
  | .tokenRequest el _ _ => el
  | .tokenRelease el _ => el
  | .controllerIsolation el _ => el
  | .controllerPairCycle el => el
  | .switchover t => t.ticks
  | .mirrorTimeout el => el
  | .resynchronisationComplete el => el
  | .tripleSwitch el => el
  | .localCopyCheck el _ _ => el
  | .timebaseMismatch el _ => el
  | .domainKLoss el => el
  | .sourceUpdate el _ => el
  | .sourceQualified el _ => el
  | .servoLock el => el
  | .holdoverUpdate el => el
  | .manualStep el _ => el
  | .manualRate el _ => el
  | .leapSecond el => el
  | .syncReceived el _ _ _ _ => el
  | .followUpReceived el _ _ => el
  | .delayReqReceived el _ _ _ _ => el
  | .delayRespReceived el _ _ => el
  | .announceReceived el _ _ => el
  | .signalingReceived el _ _ => el
  | .ptpMessageDiscard el _ _ => el
  | .syncInterval el _ => el
  | .delayReqInterval el _ => el
  | .announceInterval el _ => el
  | .announceReceiptTimeout el _ => el
  | .unicastGrantRequest el _ => el
  | .departureRecord el _ => el
  | .esmcReceived el _ _ => el
  | .qlTimeout el _ => el
  | .esmcTransmit el => el
  | .dpllSelection el _ _ => el
  | .waitToRestoreExpiry el _ => el
  | .synceQualified el => el
  | .gnssPps el _ _ _ _ _ _ _ _ _ => el
  | .surveyComplete el _ => el
  | .antennaCondition el _ => el
  | .antennaBiasRetry el => el
  | .modelReady el => el
  | .modelStore el => el
  | .modelReset el _ => el
  | .timedOutputEdge el _ => el
  | .captureEdge el _ _ _ => el
  | .captureRingClear el _ => el
  | .todMessage el => el
  | .todRxMessage el _ => el
  | .resonatorVote el _ _ _ => el
  | .ovenOutOfRegulation el _ => el
  | .rootPllUnlock el _ _ => el
  | .fallbackReturn el _ => el
  | .forcedSwitch el _ => el
  | .loadMeasurement el _ _ => el
  | .dividerRampStep el _ => el
  | .meterMeasurementComplete el _ _ _ => el
  | .gateControlSet el _ => el
  | .forcedGateClose el _ => el
  | .sessionOpen el _ _ _ => el
  | .enrolmentCode el _ => el
  | .sessionClose el _ _ => el
  | .idleTimeout el _ _ => el
  | .malformedRequest el _ _ _ _ _ _ _ => el
  | .pendingTimer el _ _ _ => el
  | .get el _ _ => el
  | .set el _ _ => el
  | .getRange el _ _ => el
  | .commit el _ => el
  | .commitPhase1Ack el => el
  | .abortBundle el _ => el
  | .defaultTenantCommit el _ _ => el
  | .slotActivate el _ => el
  | .slotFree el _ => el
  | .versionStall el _ => el
  | .cancelArmedSlot el _ => el
  | .fence el _ => el
  | .ping el _ => el
  | .subscribe el _ _ => el
  | .unsubscribe el _ _ => el
  | .subscriptionCompare el _ => el
  | .eventOverflowSustained el _ => el
  | .counterSnapshot el _ _ => el
  | .snapshotLatch el => el
  | .clearAllCounters el _ => el
  | .counterMemoryError el _ _ => el
  | .highWaterReset el _ _ => el
  | .faultRead el _ => el
  | .faultClear el _ => el
  | .clearAllEntries el _ => el
  | .recordWrite el _ => el
  | .fwStage el _ _ => el
  | .fwActivate el _ => el
  | .activationStandbyReady el => el
  | .activationTimeout el => el
  | .hodDescriptor el _ _ _ _ _ => el
  | .descriptorComplete el _ _ => el
  | .targetTimeout el _ => el
  | .hodPause el _ => el
  | .hodResume el _ => el
  | .hodAbandon el _ => el
  | .hodPowerDownAbort el _ => el
  | .controllerCopyReceived el _ _ _ _ => el
  | .receiveWindowTimeBound el _ => el
  | .receiveDropsSustained el _ => el
  | .frameInjection el _ _ _ => el
  | .bypassSenseChange el _ => el
  | .historyLatchRead el => el
  | .latchClockSet el => el
  | .cartridgePowerUp el _ _ _ => el
  | .cartridgePowerDown el _ => el
  | .intervalEnd el _ => el
  | .firmwareSelfCheck el _ => el
  | .coverSwitchOpened el => el
  | .cartridgeLinkUp el => el
  | .cartridgeLinkLost el => el
  | .recordFetch el _ _ => el
  | .disciplineMessage el _ _ => el
  | .stepAuthorisationLapse el => el
  | .meterReadByInterval el _ => el
  | .meterReadBySequence el _ => el
  | .meterReadIdentity el _ => el
  | .stepAuthorisation el _ => el
  | .meterLog el _ => el
  | .opticalReadout el _ _ => el
  | .verificationDue el => el
  | .psuOvervoltageResume el _ _ => el
  | .psuFault el _ => el
  | .powerDomainLoss el _ => el
  | .peerHeartbeatSeen el _ => el
  | .sourceDisqualified el _ => el
  | .pfcWatchdogExpiry el _ _ => el
  | .filterRebuildComplete el => el
  | .latchRestart el => el
  | .channelOverload el _ _ => el
  | .channelVoltageOutOfRange el _ _ => el

end Sys2Proof
end

