-- ==== Sys2Proof/Decode.lean ====
section
/-! DEFINITION. The words of spec/opcode_table.json: none of its rows gives bits, so no word spells a command. -/

namespace Sys2Proof

/-- The command that the table's bits spell: none (notes/assumptions/3.md). -/
def decodeTableWord (_nbits _w : Nat) : Option Instr := none

end Sys2Proof
end

