-- ==== Sys2Proof/Config.lean ====
section
/-! DEFINITION. The values the spec leaves open: constants without a body, so that nothing can be proved of them. -/

namespace Sys2Proof

/-- The flow hash of the selected chunks (05 R145), which the spec does not define: both planes compute the same one. -/
opaque Config.flowHash : Nat → BitVec 13

/-- The seeds of the four further CRC-32C values of the length filters (06 R192): by rebuild and value. -/
opaque Config.filterSeed : Nat → Fin 4 → BitVec 32

/-- The banks that a length receives beyond those it needs (06 R192): by rebuild and length index, of the banks still spare. -/
opaque Config.bankExtra : Nat → Nat → Nat

/-- Whether a flush that a switchover stopped had already removed the entry of a key (06 R213): by draw and key. -/
opaque Config.flushed : Nat → Nat → Bool

/-- Which of the free slots of a bucket an insertion takes (06 R180): by draw. -/
opaque Config.slotChoice : Nat → Nat

/-- The frequency estimate and phase term of a servo triple (12 R377), and the model's prediction (R400): by draw. -/
opaque Config.servoRho : Nat → BitVec 48

/-- The module's DC load in W, and what PSU-A carries of it beyond 40 % (02 R44): by instant. -/
opaque Config.moduleLoad : Nat → Nat
opaque Config.loadSplit : Nat → Fin 21

/-- The receive power (0.01 dBm) and the pre-FEC bit error ratio of a port (04 R132): by port and instant. -/
opaque Config.receivePower : Nat → Nat → BitVec 16
opaque Config.errorRatio : Nat → Nat → BitVec 16

/-- The case temperature at TC in 0.1 °C (02 R32): by instant, and as the mean of an hour of operation. -/
opaque Config.caseTemp : Nat → BitVec 16
opaque Config.hourTemp : Nat → BitVec 16

/-- What the parser reads beyond its window (05 R137): by frame bytes and position. -/
opaque Config.parseByte : List Byte → Nat → Byte

/-- A byte of a memory that a hod reads and that no hod has written (15 R467): by memory and address, and instant. -/
opaque Config.spaceByte : Nat → Nat → Byte

/-- A value that nothing constrains: by draw. -/
opaque Config.freeValue : Nat → Nat

/-- The MAC address that leads to a unicast PTP master (12 R383): by port and address. -/
opaque Config.neighbourMac : Nat → Nat → BitVec 48

/-- The Ed25519 signature of a content under a key (18 R529). -/
opaque Config.signature : Nat → Nat → BitVec 512

/-- The code on the module's enrolment card, padded to 16 bytes (14 R436). -/
opaque Config.enrolmentCode : BitVec 128

/-- Whether the image that bytes spell is signed with a Svaven image key (14 R459, check 5). -/
opaque Config.imageSigned : Nat → Bool

/-- Input slots of a pipeline for recirculated copies beyond the first (10 R310, 08 R251: the number is nowhere stated). -/
opaque Config.inputSlots : Nat

end Sys2Proof
end

