-- ==== Sys2Proof/Machine/Bits.lean ====
section
/-! DEFINITION. Reading fields of numbers and of byte strings: multi-byte values are big-endian (16 R490). -/

namespace Sys2Proof.Machine

/-- Bits [hi:lo] of a number. -/
def field (v hi lo : Nat) : Nat := (v >>> lo) % 2 ^ (hi + 1 - lo)

/-- The number a byte string spells, most significant byte first (R490). -/
def beNat (bs : List Byte) : Nat := bs.foldl (fun a b => a * 256 + b.toNat) 0

/-- The `n` bytes of a number, most significant first (R490). -/
def toBytes : Nat → Nat → List Byte
  | 0, _ => []
  | n + 1, v => BitVec.ofNat 8 (v >>> (8 * n)) :: toBytes n v

/-- Byte `k` of an `n`-byte record held as a number. -/
def byteAt (n v k : Nat) : Nat := (v >>> (8 * (n - 1 - k))) % 256

/-- Bytes `a` to `b` of an `n`-byte record held as a number. -/
def bytesAt (n v a b : Nat) : Nat := (v >>> (8 * (n - 1 - b))) % 2 ^ (8 * (b + 1 - a))

/-- Bytes `off` to `off + n - 1` of a frame, as a number; missing bytes read as zero. -/
def getBE (bs : List Byte) (off n : Nat) : Nat :=
  let w := (bs.drop off).take n
  beNat w * 256 ^ (n - w.length)

/-- A frame with `n` bytes at `off` replaced by the big-endian value. -/
def putBE (bs : List Byte) (off n v : Nat) : List Byte :=
  bs.take off ++ (toBytes n v) ++ bs.drop (off + n)

/-- The signed value of a `w`-bit two's complement number (R490). -/
def signed (w v : Nat) : Int := if v < 2 ^ (w - 1) then (v : Int) else (v : Int) - (2 : Int) ^ w

/-- The `w`-bit two's complement of an integer. -/
def unsignedOf (w : Nat) (i : Int) : Nat := (i % (2 : Int) ^ w).toNat

/-- The number of bits set among the low `n` bits. -/
def popCount : Nat → Nat → Nat
  | 0, _ => 0
  | n + 1, v => (if v.testBit n then 1 else 0) + popCount n v

/-- The positions below `n` whose bit is set, lowest first. -/
def bitsOf (n v : Nat) : List Nat := (List.range n).filter (fun k => v.testBit k)

/-- A number with bit `k` set or cleared. -/
def setBit (v k : Nat) (b : Bool) : Nat :=
  if v.testBit k then (if b then v else v - 2 ^ k) else (if b then v + 2 ^ k else v)

/-- Saturating at `2 ^ w - 1`. -/
def saturate (w v : Nat) : Nat := min v (2 ^ w - 1)

/-- Floor division of an integer by a positive number. -/
def floorDiv (a b : Int) : Int := Int.fdiv a b

/-- The 8-bit update of a CRC held least significant bit first. -/
def crcByte (poly : Nat) (crc : Nat) (b : Byte) : Nat :=
  (List.range 8).foldl (fun c _ => if c.testBit 0 then (c >>> 1) ^^^ poly else c >>> 1) (crc ^^^ b.toNat)

/-- The polynomial of CRC-32C, bit-reversed. -/
def castagnoli : Nat := 0x82F63B78

/-- The CRC-32C with its register preset (06 R172); polynomial and conventions are PRESUMED: notes/assumptions/9.md. -/
def crc32cFrom (seed : Nat) (bs : List Byte) : Nat := (bs.foldl (crcByte castagnoli) seed) ^^^ (2 ^ 32 - 1)

/-- The CRC-32C of a byte string (04 R122, 11 R330). -/
def crc32c (bs : List Byte) : Nat := crc32cFrom (2 ^ 32 - 1) bs

/-- The polynomial of the Ethernet FCS, bit-reversed (PRESUMED from IEEE 802.3: notes/assumptions/61.md). -/
def fcsPolynomial : Nat := 0xEDB88320

/-- The four bytes of a frame's FCS, in the order sent; inverted for a stomped frame (04 R100, 08 R268). -/
def fcsBytes (inverted : Bool) (bs : List Byte) : List Byte :=
  let c := bs.foldl (crcByte fcsPolynomial) (2 ^ 32 - 1)
  (toBytes 4 (if inverted then c else c ^^^ (2 ^ 32 - 1))).reverse

/-- The number of elements of a list that satisfy a test. -/
def countOf {α : Type} (l : List α) (f : α → Bool) : Nat := (l.filter f).length

end Sys2Proof.Machine
end

