-- ==== Sys2Proof/Machine/Graph.lean ====
section
/-! DEFINITION. The parse node record of R136 and the factory graph of R139. -/

namespace Sys2Proof.Machine

/-- A parse node record of R136, as the number its 48 bytes spell. `len` is (offset, mask, shifts); `nh` is (offset, mask);
a transition is (match, node); an extract is (byte, chunk, count). -/
def nodeRecord (kind base : Nat) (len : Nat × Nat × Nat) (nh : Nat × Nat) (tr : List (Nat × Nat)) (dflt : Nat)
    (ex : List (Nat × Nat × Nat)) : Nat :=
  let trs := (tr ++ List.replicate (8 - tr.length) (0, 0xFF)).foldl (fun a (t : Nat × Nat) => (a * 65536 + t.1) * 256 + t.2) 0
  let exs := (ex ++ List.replicate (4 - ex.length) (0, 0, 0)).foldl (fun a (t : Nat × Nat × Nat) => ((a * 256 + t.1) * 256 + t.2.1) * 256 + t.2.2) 0
  let h := ((((((0x80 * 256 + kind) * 65536 + base) * 256 + len.1) * 256 + len.2.1) * 256 + len.2.2) * 256 + nh.1) * 65536 + nh.2
  (((h * 2 ^ 192 + trs) * 256 + dflt) * 256) * 2 ^ 96 + exs

/-- The successors of nodes 6 and 7 of the factory graph (R139), on the next-header byte in the field's high half. -/
def ipv6Next : List (Nat × Nat) := [(0, 7), (0x2B00, 7), (0x2C00, 7), (0x3C00, 7), (0x1100, 8), (0x0600, 9)]

/-- Nodes 0 to 14 at delivery (R139). -/
def Catalogue.factoryGraph : List Nat := [
  nodeRecord 1 12 (0xFF, 0, 0) (0xFF, 0) [] 1 [(0, 0, 3), (6, 3, 3)],
  nodeRecord 2 2 (0xFF, 0, 0) (0, 0xFFFF) [(0, 2), (0x8847, 3), (0x8848, 3), (0x0800, 5), (0x86DD, 6), (0xAEFE, 12)] 0xFF [(0, 8, 1)],
  nodeRecord 3 2 (0xFF, 0, 0) (0xFF, 0) [] 1 [(0, 6, 1)],
  nodeRecord 4 4 (0xFF, 0, 0) (2, 0x0100) [(0x0100, 4)] 3 [(0, 9, 2)],
  nodeRecord 0 0 (0xFF, 0, 0) (0, 0xF000) [(0x4000, 5), (0x6000, 6)] 0xFF [],
  nodeRecord 5 0 (0, 0x0F, 0x02) (8, 0x00FF) [(17, 8), (6, 9)] 0xFF [(12, 11, 2), (16, 19, 2)],
  nodeRecord 6 40 (0xFF, 0, 0) (6, 0xFF00) ipv6Next 0xFF [(8, 11, 8), (24, 19, 8)],
  nodeRecord 7 8 (1, 0xFF, 0x03) (0, 0xFF00) ipv6Next 0xFF [],
  nodeRecord 8 8 (0xFF, 0, 0) (2, 0xFFFF) [(2152, 10), (0, 12)] 0xFF [(0, 28, 1), (2, 29, 1)],
  nodeRecord 9 0 (12, 0xFF, 0x42) (0xFF, 0) [] 0xFF [(0, 28, 1), (2, 29, 1)],
  nodeRecord 10 8 (0xFF, 0, 0) (0, 0x0700)
    [(0x0100, 11), (0x0200, 11), (0x0300, 11), (0x0400, 11), (0x0500, 11), (0x0600, 11), (0x0700, 11)] 0xFF [(4, 30, 2)],
  nodeRecord 0 4 (0xFF, 0, 0) (0xFF, 0) [] 0xFF [],
  nodeRecord 11 4 (0xFF, 0, 0) (0, 0x00FF) [(0, 13), (2, 13)] 0xFF [],
  nodeRecord 12 4 (0xFF, 0, 0) (0xFF, 0) [] 14 [(0, 30, 2)],
  nodeRecord 13 4 (0xFF, 0, 0) (0xFF, 0) [] 0xFF []]

end Sys2Proof.Machine
end

