-- ==== Sys2Proof/Machine/Params.lean ====
section
/-! DEFINITION. What a row of a parameter table says (16 R485 to R497): types, selectors, access, persistence class,
moment of effect, range and holding domain. -/

namespace Sys2Proof.Machine

/-- The types of R490. The argument of `u`, `s`, `str` and `bytes` is the size in bytes. -/
inductive Ty where
  | bool | enum8 | mac48 | dt
  | u (n : Nat) | s (n : Nat) | str (n : Nat) | bytes (n : Nat)
  deriving DecidableEq, Repr

/-- The size of a type in bytes (R490). -/
def Ty.size : Ty → Nat
  | .bool => 1 | .enum8 => 1 | .mac48 => 6 | .dt => 14
  | .u n => n | .s n => n | .str n => n | .bytes n => n

/-- The instances a selector produces (R488, R489). -/
inductive Sel where
  /-- instance 0 alone -/
  | one
  /-- instances 0 to n - 1 -/
  | upto (n : Nat)
  /-- stride × a + b with a < n and lo ≤ b ≤ hi -/
  | gap (stride n lo hi : Nat)
  deriving DecidableEq, Repr

/-- Whether a selector produces an instance (R489). -/
def Sel.has : Sel → Nat → Bool
  | .one, i => i == 0
  | .upto n, i => decide (i < n)
  | .gap st n lo hi, i => decide (i / st < n ∧ lo ≤ i % st ∧ i % st ≤ hi)

/-- The access codes of R493. -/
inductive Access where
  | ro | rw | wo | w1c
  deriving DecidableEq, Repr

/-- The persistence classes of R15 and R497 to R502; `anchor` is stored in the anchor record (R436, R500). -/
inductive Cls where
  | vol | stored | bundle | anchor
  deriving DecidableEq, Repr

/-- The moments of effect of R495. -/
inductive Eff where
  | now | refill | activation | restart
  deriving DecidableEq, Repr

/-- The range a SET is checked against, beyond its type (R490, R494). -/
inductive Chk where
  | any
  | rng (lo hi : Nat)
  | srng (lo hi : Int)
  | rngOr (lo hi x : Nat)
  | codes (l : List Nat)
  /-- a check of the owning chapter's own, in Machine/Settings.lean -/
  | special
  deriving DecidableEq, Repr

/-- Where a value is held (R492). -/
inductive Home where
  /-- by the active controller or the module -/
  | ctl
  /-- in the plane instance / stride -/
  | plane (stride : Nat)
  /-- in the plane instance mod 2 (selectors 2s+p) -/
  | planeLow
  /-- in the port group of port (instance mod m) / d -/
  | port (m d : Nat)
  /-- in the port group instance / d -/
  | pg (d : Nat)
  deriving DecidableEq, Repr

/-- The default of a row: `byInst` rows differ by instance and are given in `Catalogue.dflt`. -/
inductive Dflt where
  | zero | const (v : Nat) | byInst
  deriving DecidableEq, Repr

/-- One PID of a parameter table. -/
structure Row where
  ty : Ty
  sel : Sel
  acc : Access
  cls : Cls
  eff : Eff
  chk : Chk
  dflt : Dflt
  home : Home
  counter : Bool
  deriving DecidableEq, Repr

/-- A read-only reading that is no counter. -/
def Row.ro (ty : Ty) (sel : Sel) (home : Home) (d : Dflt := .zero) : Row :=
  ⟨ty, sel, .ro, .vol, .now, .any, d, home, false⟩

/-- A counter (R505): read-only, zero at a restart of its domain. -/
def Row.ctr (ty : Ty) (sel : Sel) (home : Home) : Row :=
  ⟨ty, sel, .ro, .vol, .now, .any, .zero, home, true⟩

/-- A parameter that is read and written. -/
def Row.rw (ty : Ty) (sel : Sel) (cls : Cls) (eff : Eff) (chk : Chk) (d : Dflt) (home : Home := .ctl) : Row :=
  ⟨ty, sel, .rw, cls, eff, chk, d, home, false⟩

/-- A command parameter (R493 WO). -/
def Row.wo (ty : Ty) (sel : Sel) (chk : Chk) (cls : Cls := .vol) : Row :=
  ⟨ty, sel, .wo, cls, .now, chk, .zero, .ctl, false⟩

/-- A parameter whose set bits are cleared by writing 1 (R493 W1C). -/
def Row.w1c (ty : Ty) (sel : Sel) (home : Home) : Row :=
  ⟨ty, sel, .w1c, .vol, .now, .any, .zero, home, false⟩

end Sys2Proof.Machine
end

