-- ==== Sys2Proof/Machine/Catalogue.lean ====
section
/-! DEFINITION. The parameter catalogue (16 R485 to R504): one row per PID, in the order of the parameter tables of the
owning chapters. A row gives the type, the instances its selector produces, the access, the persistence class, the moment of
effect, the range a SET is checked against, the default, and the domain that holds the value (R492).
A default of "—" (R503) is held as zero at reset: notes/assumptions/4.md. -/

namespace Sys2Proof.Machine

/-- Group 00h, PIDs 0000h to 001Fh. -/
def Catalogue.rows00 : List Row := [
  .ro (.str 16) .one .ctl (.const 0x5356462d583134340000000000000000),
  .ro (.u 1) .one .ctl (.const 67),
  .ro (.str 16) .one .ctl (.const 0x4658323631342d303033313700000000),
  .ro .mac48 .one .ctl (.const 0x25a1c400000),
  .ro (.u 1) .one .ctl (.const 1),
  .ro (.u 4) .one .ctl (.const 0x2040100),
  .ro (.u 4) (.upto 4) .ctl .byInst,
  .ro (.u 1) (.upto 2) .ctl,
  .ro (.u 1) (.upto 2) .ctl,
  .ro .enum8 (.upto 4) .ctl .byInst,
  .ro .enum8 .one .ctl,
  .ro (.u 4) .one .ctl,
  .ro (.u 4) .one .ctl,
  .ro (.u 2) .one .ctl,
  .ro .enum8 .one .ctl,
  .ro (.u 2) .one .ctl,
  .ctr (.u 4) .one .ctl,
  .ctr (.u 4) .one .ctl,
  .ro (.str 24) .one .ctl,
  .ro .dt .one .ctl,
  .ro (.u 2) .one .ctl,
  .ro (.u 4) .one .ctl,
  .ro (.s 2) .one .ctl,
  .rw (.str 64) .one .stored .now .any .zero,
  .rw (.str 64) .one .stored .now .any .zero,
  .rw (.str 32) .one .stored .now .any .zero,
  .ro (.bytes 32) .one .ctl,
  .ro (.bytes 2048) .one .ctl,
  .ro (.u 4) .one .ctl,
  .ro (.u 4) .one .ctl,
  .ro (.s 2) .one .ctl,
  .ro (.u 4) .one .ctl]

/-- Group 01h, PIDs 0100h to 0127h. -/
def Catalogue.rows01 : List Row := [
  .ro .enum8 .one .ctl,
  .ro (.u 4) .one .ctl (.const 0xffffffff),
  .ro (.u 4) .one .ctl (.const 0xffffffff),
  .ro (.u 4) .one .ctl (.const 0xffffffff),
  .ro (.u 4) .one .ctl (.const 0xffffffff),
  .ro .enum8 .one .ctl,
  .ro (.u 4) .one .ctl,
  .wo .enum8 .one (.codes [1,2]),
  .rw .bool .one .stored .now .any .zero,
  .rw .bool .one .stored .now .any (.const 1),
  .rw .enum8 .one .stored .restart (.rng 0 1) .zero,
  .ro .enum8 .one .ctl,
  .ro (.u 4) .one .ctl,
  .wo .enum8 (.upto 14) (.codes [1,2,3]),
  .ro .enum8 .one .ctl,
  .ro .enum8 .one .ctl,
  .ro .enum8 .one .ctl,
  .ro .enum8 .one .ctl,
  .ro .enum8 .one .ctl,
  .ro .enum8 .one .ctl,
  .ro .enum8 .one .ctl,
  .ro .enum8 .one .ctl,
  .ro .enum8 .one .ctl,
  .ro .enum8 .one .ctl,
  .ro .enum8 .one .ctl,
  .ro .enum8 .one .ctl,
  .ro .enum8 .one .ctl,
  .ro .enum8 .one .ctl (.const 5),
  .ro .enum8 (.upto 2) .ctl,
  .ro (.u 2) (.upto 2) .ctl,
  .ro (.u 2) (.upto 2) .ctl,
  .ro (.u 2) (.upto 2) .ctl,
  .ro (.u 2) .one .ctl,
  .ro (.u 2) .one .ctl,
  .ro (.u 4) (.upto 2) .ctl,
  .ro (.u 4) (.upto 2) .ctl,
  .ro (.u 4) .one .ctl,
  .ro .bool .one .ctl,
  .ro (.u 2) .one .ctl,
  .ro .dt .one .ctl]

/-- Group 02h, PIDs 0200h to 0227h. -/
def Catalogue.rows02a : List Row := [
  .ro .enum8 .one .ctl,
  .ro (.u 4) .one .ctl,
  .ro (.u 1) .one .ctl,
  .ro .enum8 .one .ctl,
  .ro .enum8 .one .ctl,
  .ro .enum8 .one .ctl,
  .ro (.s 4) .one .ctl,
  .ro (.s 4) .one .ctl,
  .ro (.s 4) .one .ctl,
  .rw (.u 2) .one .stored .now (.rng 5 1000) (.const 20),
  .ro .enum8 .one .ctl,
  .ctr (.u 4) .one .ctl,
  .ctr (.u 4) .one .ctl,
  .ro .dt .one .ctl,
  .ro .enum8 (.upto 13) .ctl,
  .ro .enum8 (.upto 13) .ctl,
  .ctr (.u 4) (.upto 13) .ctl,
  .ctr (.u 4) (.upto 13) .ctl,
  .ro (.s 4) (.upto 13) .ctl,
  .rw .bool .one .stored .now .any (.const 1),
  .ro (.u 1) (.upto 2) (.plane 1) (.const 4),
  .ro (.u 1) (.upto 2) (.plane 1) (.const 4),
  .rw (.u 1) .one .stored .now (.rng 4 8) (.const 8),
  .rw (.u 1) .one .stored .now (.rng 10 90) (.const 40),
  .rw (.u 1) .one .stored .now .any (.const 50),
  .rw (.u 2) .one .stored .now (.rng 1 1000) (.const 10),
  .ro (.u 2) (.upto 16) (.plane 8),
  .ctr (.u 4) (.upto 2) (.plane 1),
  .ctr (.u 4) (.upto 2) (.plane 1),
  .ro (.u 8) (.upto 2) (.plane 1),
  .ro .dt (.upto 2) (.plane 1),
  .ro (.u 4) (.upto 2) (.plane 1) (.const 0x124f80),
  .rw (.u 1) (.upto 16) .vol .now .special (.const 3),
  .rw (.u 1) (.upto 16) .vol .now .special (.const 76),
  .rw (.u 2) (.upto 16) .vol .now (.rng 1 10000) (.const 1000),
  .rw .enum8 (.upto 16) .vol .now (.rng 0 2) .zero,
  .ro (.s 8) (.upto 16) .ctl,
  .ro (.u 8) (.upto 16) .ctl,
  .ro .enum8 (.upto 16) .ctl,
  .ro (.u 4) (.upto 16) .ctl]

/-- Group 02h, PIDs 0228h to 022Fh. -/
def Catalogue.rows02b : List Row := [
  .rw .enum8 (.gap 16 13 0 7) .stored .now (.rng 0 2) .zero,
  .ro .enum8 (.gap 16 13 0 7) .ctl,
  .ctr (.u 4) (.gap 16 13 0 7) .ctl,
  .ctr (.u 4) (.gap 16 13 0 7) .ctl,
  .ro (.u 2) .one .ctl (.const 256),
  .ro (.u 1) .one .ctl (.const 64),
  .ro (.u 2) .one .ctl,
  .rw (.u 2) .one .stored .now (.rng 10 10000) (.const 100)]

/-- Group 02h. -/
def Catalogue.rows02 : List Row := Catalogue.rows02a ++ Catalogue.rows02b

/-- Group 03h, PIDs 0300h to 031Fh. -/
def Catalogue.rows03 : List Row := [
  .ro (.u 1) .one .ctl (.const 255),
  .ro .enum8 (.upto 2) .ctl,
  .ro .enum8 .one .ctl,
  .ro .bool (.upto 2) .ctl,
  .ro .bool (.upto 2) .ctl,
  .ctr (.u 4) .one .ctl,
  .ro .enum8 .one .ctl,
  .ro .dt .one .ctl,
  .ro (.u 4) .one .ctl,
  .rw .bool .one .stored .now .any (.const 1),
  .rw (.u 4) .one .stored .now (.rng 0 86399) (.const 10800),
  .ro .dt .one .ctl,
  .ro (.u 4) .one .ctl,
  .ro (.u 4) .one .ctl,
  .ro .enum8 .one .ctl,
  .ro (.u 8) .one .ctl,
  .ctr (.u 4) .one .ctl,
  .ro (.u 4) .one .ctl,
  .ro (.u 4) .one .ctl,
  .rw .enum8 .one .stored .now (.rng 0 1) .zero,
  .ctr (.u 4) .one .ctl,
  .ctr (.u 4) .one .ctl,
  .ro (.u 4) (.upto 2) .ctl,
  .ro (.u 4) (.upto 2) .ctl,
  .rw (.u 2) .one .stored .restart (.rng 10 1000) (.const 100),
  .ro (.u 4) (.upto 2) .ctl,
  .ro (.u 4) (.upto 2) .ctl,
  .ro (.s 2) (.upto 2) .ctl,
  .ro (.u 1) (.upto 2) .ctl,
  .ro (.u 4) (.upto 2) .ctl,
  .ro .dt (.upto 2) .ctl,
  .ro (.u 4) .one .ctl]

/-- Group 04h, PIDs 0400h to 0417h. -/
def Catalogue.rows04 : List Row := [
  .rw .enum8 .one .stored .now (.rng 0 2) (.const 1),
  .rw (.bytes 12) .one .stored .now .special .zero,
  .rw .enum8 .one .stored .now (.rng 0 2) (.const 1),
  .rw (.bytes 36) .one .stored .now .special .zero,
  .rw (.bytes 20) .one .stored .now .special .zero,
  .ro (.bytes 20) (.upto 3) .ctl,
  .ro (.bytes 16) (.upto 2) .ctl,
  .ro (.u 2) .one .ctl (.const 4180),
  .rw (.bytes 2048) (.upto 4) .anchor .now .special .zero,
  .rw (.u 1) (.upto 4) .anchor .now (.rng 0 15) (.const 15),
  .wo (.str 16) .one .any,
  .ro .enum8 .one .ctl,
  .rw (.u 2) .one .stored .now (.rng 10 3600) (.const 120),
  .rw .bool .one .stored .now .any (.const 1),
  .ro .enum8 (.upto 4) .ctl,
  .ro (.u 1) (.upto 4) .ctl (.const 255),
  .ro (.bytes 32) (.upto 4) .ctl,
  .ro (.bytes 20) (.upto 4) .ctl,
  .ro (.u 2) (.upto 4) .ctl,
  .ro (.u 1) (.upto 4) .ctl,
  .ctr (.u 8) (.upto 8) .ctl,
  .ctr (.u 4) (.upto 12) .ctl,
  .ctr (.u 4) (.upto 4) .ctl,
  .ro .dt (.upto 4) .ctl]

/-- Group 08h, PIDs 0800h to 0827h. -/
def Catalogue.rows08a : List Row := [
  .rw .bool (.upto 144) .stored .now .any .zero,
  .rw .enum8 (.upto 144) .stored .now .special .byInst,
  .rw .enum8 (.upto 144) .stored .now .special .byInst,
  .rw (.u 2) (.upto 144) .stored .now (.rng 1518 9216) (.const 9216),
  .rw .bool (.upto 144) .stored .now .any .zero,
  .ro .enum8 (.upto 144) (.port 144 1),
  .ro .enum8 (.upto 144) (.port 144 1) .byInst,
  .ro (.u 1) (.upto 144) (.port 144 1),
  .ro (.u 4) (.upto 144) (.port 144 1),
  .ro .dt (.upto 144) (.port 144 1),
  .rw (.u 2) (.upto 144) .stored .now (.rng 0 10000) (.const 100),
  .rw .enum8 (.upto 144) .vol .now (.rng 0 2) .zero,
  .ro (.u 4) (.upto 144) (.port 144 1),
  .ro (.u 2) (.upto 144) (.port 144 1),
  .ro (.s 2) (.upto 144) (.port 144 1),
  .ro (.s 2) (.upto 144) (.port 144 1),
  .ro (.u 1) (.upto 144) (.port 144 1) .byInst,
  .ro (.u 2) (.upto 144) (.port 144 1),
  .ro (.u 2) (.upto 144) (.port 144 1),
  .wo .bool (.upto 144) (.codes [1]),
  .rw (.str 32) (.upto 144) .stored .now .any .zero,
  .ro .enum8 (.upto 8) (.pg 1),
  .ro .enum8 (.upto 8) (.pg 1),
  .ro .enum8 (.upto 8) (.pg 1),
  .ro .enum8 (.upto 8) (.pg 1),
  .ro .enum8 (.upto 8) (.pg 1),
  .ro .enum8 (.upto 8) (.pg 1),
  .ro .enum8 (.upto 8) (.pg 1),
  .ro .enum8 (.upto 8) (.pg 1),
  .ro .enum8 (.upto 8) (.pg 1),
  .ro .enum8 (.upto 8) (.pg 1),
  .ro .enum8 (.upto 8) (.pg 1),
  .ro .enum8 (.upto 8) (.pg 1),
  .ro .enum8 (.upto 8) (.pg 1),
  .ro .enum8 (.upto 8) (.pg 1),
  .ro .enum8 (.upto 8) (.pg 1),
  .ro .enum8 (.upto 8) (.pg 1),
  .ro .enum8 (.upto 8) (.pg 1),
  .ro .enum8 (.upto 8) (.pg 1),
  .ro .enum8 (.upto 8) (.pg 1) (.const 2)]

/-- Group 08h, PIDs 0828h to 084Fh. -/
def Catalogue.rows08b : List Row := [
  .ro .enum8 (.upto 8) (.pg 1) (.const 2),
  .rw .bool (.upto 8) .stored .now .any (.const 1),
  .rw (.u 1) (.upto 8) .stored .now (.rng 5 50) (.const 20),
  .ro (.u 1) (.upto 8) (.pg 1),
  .ro (.u 4) (.upto 8) (.pg 1),
  .ro (.u 4) (.upto 8) (.pg 1),
  .ro (.s 2) (.upto 8) (.pg 1),
  .ro (.u 2) (.upto 8) (.pg 1),
  .rw .bool (.upto 144) .stored .now .any .zero,
  .rw .bool (.upto 144) .stored .now .any .zero,
  .rw (.u 1) (.upto 144) .stored .now .special .zero,
  .rw (.u 2) (.upto 144) .stored .now .any (.const 65535),
  .rw (.u 2) (.upto 144) .stored .now (.rng 10 10000) (.const 100),
  .ro (.u 1) (.upto 144) (.port 144 1),
  .rw (.u 2) (.upto 1152) .stored .now .any (.const 256),
  .rw (.u 2) (.upto 1152) .stored .now .any (.const 128),
  .rw (.u 2) (.upto 1152) .stored .now .any .zero,
  .ro (.u 2) (.upto 1152) (.port 1152 8),
  .rw .bool (.upto 144) .stored .now .any .zero,
  .rw (.u 4) (.upto 144) .stored .now .any (.const 2000),
  .rw (.u 4) (.upto 144) .stored .now .any (.const 300),
  .rw (.u 4) (.upto 144) .stored .now .any (.const 6000),
  .rw (.u 2) (.upto 144) .stored .now .any (.const 512),
  .ro .enum8 (.upto 144) (.port 144 1),
  .ro .enum8 (.upto 144) (.port 144 1),
  .ro (.u 4) (.upto 144) (.port 144 1),
  .ro (.u 4) .one .ctl,
  .ro (.u 4) (.upto 144) (.port 144 1),
  .rw (.s 2) (.upto 144) .stored .now .any (.const 64136),
  .rw (.u 2) (.upto 144) .stored .now .any (.const 64),
  .rw (.u 2) (.upto 144) .stored .now .any (.const 500),
  .rw (.u 2) (.upto 144) .stored .now .any (.const 10),
  .rw (.u 2) (.upto 144) .stored .now .any (.const 10),
  .rw (.u 2) (.upto 144) .stored .now .any .zero,
  .ro (.u 4) (.upto 1152) (.port 1152 8),
  .ro (.u 2) (.upto 1152) (.port 1152 8),
  .ro (.u 1) (.upto 8) (.pg 1),
  .ro (.u 2) (.upto 144) (.port 144 1),
  .ro (.u 2) (.upto 144) (.port 144 1),
  .w1c .bool (.upto 144) .ctl]

/-- Group 08h. -/
def Catalogue.rows08 : List Row := Catalogue.rows08a ++ Catalogue.rows08b

/-- Group 09h, PIDs 0900h to 0927h. -/
def Catalogue.rows09a : List Row := [
  .rw .bool (.upto 512) .stored .now .any .zero,
  .rw (.u 4) (.upto 512) .stored .now (.rng 0 262143) .zero,
  .rw (.u 2) (.upto 512) .stored .now (.rng 0 63) .zero,
  .rw (.u 2) (.upto 512) .stored .now .any (.const 33024),
  .rw (.u 2) (.upto 512) .stored .now (.rng 0 4095) .zero,
  .rw (.u 2) (.upto 512) .stored .now (.rng 0 4095) (.const 4095),
  .rw (.u 1) (.upto 512) .stored .now (.rng 0 7) .zero,
  .rw (.u 2) (.upto 512) .stored .now (.rng 0 4095) .zero,
  .rw (.u 2) (.upto 512) .stored .now .any .zero,
  .rw .mac48 (.upto 512) .stored .now .any .zero,
  .rw .mac48 (.upto 512) .stored .now .any (.const 0xffffffffffff),
  .rw .enum8 (.upto 512) .stored .now (.rng 0 2) .zero,
  .rw (.u 1) (.upto 512) .stored .now (.rng 0 7) .zero,
  .rw (.u 2) (.upto 512) .stored .now (.rngOr 0 2047 65535) (.const 65535),
  .ro (.u 8) (.upto 512) (.pg 64),
  .rw (.u 1) (.upto 144) .stored .now (.rng 0 7) .zero,
  .rw .enum8 (.upto 144) .stored .now (.rng 0 2) .zero,
  .rw (.u 2) (.upto 144) .stored .now .any .zero,
  .rw (.u 2) (.upto 8) .stored .now .any (.const 33024),
  .rw (.u 2) (.upto 8) .stored .now .any (.const 34984),
  .rw (.u 2) (.upto 8) .stored .now .any (.const 37120),
  .rw (.u 2) (.upto 8) .stored .now .any .zero,
  .rw .enum8 (.upto 144) .stored .now (.rng 0 1) .zero,
  .rw (.u 4) (.upto 144) .stored .now (.rng 0 16777215) (.const 0xfac688),
  .rw (.u 4) (.upto 144) .stored .now .special (.const 0x44444444),
  .rw .enum8 (.upto 144) .stored .now (.rng 0 1) .zero,
  .rw (.u 2) .one .stored .now .any .zero,
  .rw (.bytes 18) .one .stored .now .any .zero,
  .rw (.u 4) (.upto 8) .stored .now .any (.const 0x30d40),
  .rw (.u 2) (.upto 8) .stored .now .any (.const 256),
  .rw .bool (.upto 144) .stored .now .any .zero,
  .rw .enum8 (.upto 144) .stored .now (.rng 0 1) .zero,
  .rw .enum8 (.upto 144) .stored .now (.rng 0 2) .zero,
  .rw .enum8 (.upto 144) .stored .now (.rng 0 2) .zero,
  .rw .enum8 (.upto 144) .stored .now (.rng 0 2) (.const 1),
  .rw .enum8 (.upto 144) .stored .now (.rng 0 2) .zero,
  .rw .enum8 (.upto 144) .stored .now (.rng 0 2) .zero,
  .rw .enum8 (.upto 144) .stored .now (.rng 0 2) .zero,
  .rw .enum8 (.upto 144) .stored .now (.rng 0 2) .zero,
  .rw .enum8 (.upto 144) .stored .now (.rng 0 2) .zero]

/-- Group 09h, PIDs 0928h to 092Fh. -/
def Catalogue.rows09b : List Row := [
  .rw .enum8 (.upto 144) .stored .now (.rng 0 2) .zero,
  .rw .enum8 (.upto 144) .stored .now (.rng 0 2) .zero,
  .rw .enum8 (.upto 144) .stored .now (.rng 0 2) .zero,
  .rw .enum8 (.upto 144) .stored .now (.rng 0 2) .zero,
  .rw .enum8 (.upto 144) .stored .now (.rng 0 2) .zero,
  .rw .enum8 (.upto 144) .stored .now (.rng 0 2) .zero,
  .rw .enum8 (.upto 144) .stored .now (.rng 0 2) (.const 1),
  .rw .enum8 (.upto 144) .stored .now (.rng 0 2) .zero]

/-- Group 09h. -/
def Catalogue.rows09 : List Row := Catalogue.rows09a ++ Catalogue.rows09b

/-- Group 0Ah, PIDs 0A00h to 0A1Fh. -/
def Catalogue.rows0A : List Row := [
  .rw .enum8 (.upto 16384) .stored .now (.rng 0 2) .zero,
  .rw (.u 4) (.upto 16384) .stored .now (.rng 0 100000000) .zero,
  .rw (.u 4) (.upto 16384) .stored .now (.rng 0 16777215) .zero,
  .rw (.u 4) (.upto 16384) .stored .now .any .zero,
  .rw (.u 4) (.upto 16384) .stored .now .any .zero,
  .rw .enum8 (.upto 16384) .stored .now (.rng 0 1) .zero,
  .rw .bool (.upto 16384) .stored .now .any .zero,
  .rw (.s 1) (.upto 16384) .stored .now (.srng (-64) 64) .zero,
  .rw .enum8 (.upto 16384) .stored .now .special .zero,
  .rw .enum8 (.upto 16384) .stored .now .special .zero,
  .rw .enum8 (.upto 16384) .stored .now .special (.const 2),
  .rw (.u 1) (.upto 16384) .stored .now (.rngOr 0 15 255) (.const 255),
  .rw (.u 4) (.upto 16) .stored .now .any .zero,
  .rw (.u 4) (.upto 16) .stored .now .any .zero,
  .rw (.u 4) (.upto 16) .stored .now .any .zero,
  .rw (.u 4) (.upto 16) .stored .now .any .zero,
  .ro (.s 4) (.upto 16384) (.pg 2048),
  .ro (.s 4) (.upto 16384) (.pg 2048),
  .rw (.u 2) (.upto 144) .stored .now (.rngOr 0 2047 65535) (.const 65535),
  .rw (.u 2) (.upto 144) .stored .now (.rngOr 0 2047 65535) (.const 65535),
  .rw (.u 2) (.upto 144) .stored .now (.rngOr 0 2047 65535) (.const 65535),
  .rw (.u 2) (.upto 144) .stored .now (.rngOr 0 2047 65535) (.const 65535),
  .rw (.u 2) (.upto 144) .stored .now (.rngOr 0 2047 65535) (.const 65535),
  .rw (.u 2) (.upto 144) .stored .now (.rngOr 0 2047 65535) (.const 65535),
  .rw (.u 2) (.upto 144) .stored .now (.rngOr 0 2047 65535) (.const 65535),
  .rw (.u 2) (.upto 144) .stored .now (.rngOr 0 2047 65535) (.const 65535),
  .rw (.u 2) (.upto 16) .stored .now .any .zero,
  .ro (.u 2) (.upto 8) (.pg 1),
  .ro .enum8 (.upto 16384) (.pg 2048),
  .ro .dt (.upto 16384) (.pg 2048),
  .wo .bool (.upto 16384) (.codes [1]),
  .ro (.u 4) (.upto 16) .ctl]

/-- Group 10h, PIDs 1000h to 1027h. -/
def Catalogue.rows10a : List Row := [
  .rw (.bytes 48) (.upto 64) .bundle .activation .special .byInst,
  .rw (.u 1) .one .bundle .activation .any .zero,
  .rw (.u 2) .one .bundle .activation .any .zero,
  .rw (.u 4) .one .bundle .activation .any (.const 0x3ffff800),
  .wo .bool .one (.codes [1]) .bundle,
  .rw .bool .one .vol .now .any (.const 1),
  .ro (.bytes 16) (.upto 512) (.plane 256),
  .ro (.u 1) (.upto 2) (.plane 1),
  .rw .enum8 .one .bundle .activation .special .zero,
  .rw .enum8 .one .bundle .activation .special .zero,
  .rw .enum8 .one .bundle .activation .special .zero,
  .rw .enum8 .one .bundle .activation .special .zero,
  .rw .enum8 .one .bundle .activation .special (.const 1),
  .rw .enum8 .one .bundle .activation .special (.const 1),
  .ctr (.u 4) (.upto 2) (.plane 1),
  .rw (.u 2) .one .bundle .activation .any (.const 2152),
  .rw .bool .one .bundle .activation .any .zero,
  .rw .bool .one .bundle .activation .any .zero,
  .rw .bool .one .bundle .activation .any .zero,
  .rw .bool .one .bundle .activation .any .zero,
  .rw .bool .one .bundle .activation .any .zero,
  .rw .bool .one .bundle .activation .any .zero,
  .rw .bool .one .bundle .activation .any .zero,
  .rw .bool .one .bundle .activation .any .zero,
  .rw (.u 2) (.upto 192) .bundle .activation .special .zero,
  .rw (.bytes 40) (.upto 16) .bundle .activation .special (.const 0xffffffffffffffffffffffffffffffffffffffffffffffffffffffffffffffffffffffffffffffff),
  .rw .bool (.upto 16) .bundle .activation .any .zero,
  .rw (.u 8) (.upto 16) .bundle .activation .special .zero,
  .rw (.bytes 24) (.upto 16) .bundle .activation .any .byInst,
  .rw (.u 1) (.upto 144) .stored .activation (.rngOr 0 15 255) (.const 255),
  .rw (.u 2) (.upto 144) .stored .activation .special .zero,
  .rw (.u 2) (.upto 144) .stored .activation (.rng 0 4095) .zero,
  .rw (.u 1) (.upto 49152) .bundle .activation (.rngOr 0 15 255) (.const 255),
  .rw (.u 2) (.upto 49152) .bundle .activation (.rng 0 4095) .zero,
  .rw (.u 1) (.upto 49152) .bundle .activation (.rngOr 0 15 255) (.const 255),
  .rw (.bytes 80) (.upto 49152) .bundle .activation .any .zero,
  .rw (.bytes 80) (.upto 49152) .bundle .activation .any .zero,
  .rw (.u 8) (.upto 49152) .bundle .activation .special .zero,
  .ctr (.u 8) (.gap 65536 2 0 49151) (.plane 65536),
  .ro (.u 4) (.upto 49152) .ctl]

/-- Group 10h, PIDs 1028h to 104Fh. -/
def Catalogue.rows10b : List Row := [
  .ro .enum8 (.upto 4) .ctl,
  .ro (.bytes 9) (.upto 4) .ctl,
  .ro .dt (.upto 4) .ctl,
  .ro (.u 4) (.upto 4) .ctl,
  .ro (.u 4) (.upto 8) (.plane 4),
  .ctr (.u 8) (.upto 8) (.plane 4),
  .ro (.u 1) .one .ctl,
  .rw (.u 4) .one .stored .now (.rng 100 10000000) (.const 1000),
  .rw (.u 2) .one .stored .now (.rng 100 60000) (.const 1000),
  .ro (.u 4) .one .ctl,
  .wo .bool (.upto 4) (.codes [1]),
  .ro (.u 4) (.upto 4) .ctl,
  .ro (.u 4) .one .ctl,
  .ro (.u 4) .one .ctl,
  .ro (.u 4) .one .ctl,
  .ro (.u 4) (.upto 2) (.plane 1),
  .ro (.u 4) .one .ctl,
  .rw (.u 1) (.upto 256) .stored .now (.rngOr 0 15 255) (.const 255),
  .rw .bool .one .bundle .activation .any (.const 1),
  .ro .enum8 (.upto 16) .ctl,
  .ro (.u 2) (.upto 16) .ctl,
  .ro (.u 2) (.upto 16) .ctl,
  .ro .enum8 .one .ctl,
  .ro (.u 1) .one .ctl,
  .ctr (.u 8) (.upto 2) (.plane 1),
  .ctr (.u 8) (.upto 2) (.plane 1),
  .ctr (.u 8) (.upto 2) (.plane 1),
  .ctr (.u 8) (.upto 2) (.plane 1),
  .ctr (.u 8) (.upto 2) (.plane 1),
  .ctr (.u 8) (.upto 2) (.plane 1),
  .ctr (.u 8) (.upto 2) (.plane 1),
  .ctr (.u 8) (.upto 2) (.plane 1),
  .ctr (.u 8) (.upto 2) (.plane 1),
  .ctr (.u 8) (.upto 2) (.plane 1),
  .ctr (.u 8) (.upto 2) (.plane 1),
  .ctr (.u 8) (.upto 2) (.plane 1),
  .ctr (.u 8) (.upto 2) (.plane 1),
  .ctr (.u 8) (.upto 2) (.plane 1),
  .ctr (.u 8) (.upto 2) (.plane 1),
  .ctr (.u 8) (.upto 2) (.plane 1)]

/-- Group 10h. -/
def Catalogue.rows10 : List Row := Catalogue.rows10a ++ Catalogue.rows10b

/-- Group 14h, PIDs 1400h to 1427h. -/
def Catalogue.rows14a : List Row := [
  .ro (.u 4) (.upto 2) (.plane 1),
  .ro (.u 4) (.upto 16) (.plane 8),
  .ro (.u 4) .one .ctl (.const 0xe6666),
  .rw (.u 4) .one .stored .now .any (.const 0xe6666),
  .rw (.u 4) .one .stored .restart .any .zero,
  .ro (.u 1) (.upto 2) (.plane 1),
  .rw .bool .one .stored .now .any (.const 1),
  .rw .bool (.upto 144) .stored .now .any (.const 1),
  .rw (.u 4) (.upto 144) .stored .now .any .zero,
  .rw .enum8 (.upto 144) .stored .now (.rng 0 1) .zero,
  .rw (.u 4) (.upto 16) .stored .now .any .zero,
  .rw (.u 4) (.upto 16) .stored .now (.rng 1 1000000) (.const 300),
  .rw .bool (.upto 16) .stored .now .any (.const 1),
  .rw (.u 2) .one .stored .now (.rng 1 1000) (.const 10),
  .rw (.u 2) .one .stored .now (.rng 1 3600) (.const 60),
  .rw .enum8 (.upto 144) .stored .now (.rng 0 1) .zero,
  .rw .bool .one .stored .now .any .zero,
  .rw (.bytes 18) (.upto 65536) .stored .now .any .zero,
  .rw (.u 1) (.upto 65536) .stored .now (.rng 0 15) (.const 15),
  .ro (.u 4) (.upto 131072) (.plane 65536),
  .rw (.bytes 48) (.upto 4096) .stored .now .special .zero,
  .ro (.u 4) (.upto 32) (.plane 16),
  .ro (.u 4) (.upto 288) (.plane 144),
  .ro (.u 2) (.upto 2) (.plane 1),
  .rw (.u 2) (.upto 2) .vol .now (.codes [0]) .zero (.plane 1),
  .rw (.u 2) .one .stored .now (.rng 1 1000) (.const 64),
  .ro (.u 4) (.upto 2) (.plane 1),
  .ro (.u 4) (.upto 2) (.plane 1),
  .ro (.u 4) (.upto 2) (.plane 1),
  .ro (.u 2) (.upto 2) (.plane 1),
  .ctr (.u 8) (.upto 2) (.plane 1),
  .ctr (.u 8) (.upto 2) (.plane 1),
  .rw (.bytes 16) (.upto 65536) .vol .now .special (.const 0xc0000000000000000000000000000000),
  .ro (.u 4) (.upto 65536) .ctl .byInst,
  .rw (.bytes 130) (.upto 4096) .vol .now .special .zero,
  .ctr (.u 8) (.upto 8192) (.plane 4096),
  .rw (.bytes 32) (.gap 131072 1 1 131071) .vol .now .special .zero,
  .ro (.u 4) (.gap 131072 1 1 131071) .ctl .byInst,
  .rw (.bytes 18) (.upto 16384) .stored .now .any .zero,
  .ro (.u 4) .one .ctl]

/-- Group 14h, PIDs 1428h to 144Fh. -/
def Catalogue.rows14b : List Row := [
  .ro (.u 4) .one .ctl,
  .ro (.u 4) .one .ctl,
  .ro (.u 4) .one .ctl,
  .ro (.u 4) .one .ctl,
  .ro (.u 4) .one .ctl,
  .ctr (.u 8) (.upto 2) (.plane 1),
  .ctr (.u 8) (.upto 2) (.plane 1),
  .ro (.u 2) .one .ctl,
  .rw .enum8 (.upto 65536) .stored .now (.rng 0 1) .zero,
  .ro (.u 4) .one .ctl (.const 0x60000),
  .ro (.u 4) .one .ctl,
  .ro (.u 4) .one .ctl,
  .ro (.u 2) (.upto 64) .ctl,
  .ro (.u 2) (.upto 162) .ctl,
  .ro (.u 4) (.upto 162) .ctl,
  .rw (.u 1) .one .stored .now (.rng 8 64) (.const 16),
  .ctr (.u 8) (.upto 18) (.plane 9),
  .rw (.u 4) .one .stored .now .any (.const 0x186a0),
  .ctr (.u 8) (.upto 2) (.plane 1),
  .ctr (.u 8) (.upto 2) (.plane 1),
  .ctr (.u 8) (.upto 2) (.plane 1),
  .ro .bool .one .ctl,
  .wo .bool .one (.codes [1]),
  .ctr (.u 8) (.upto 2) (.plane 1),
  .ro (.u 4) (.upto 4) .ctl (.const 0xffffffff),
  .ro (.u 2) (.upto 2) (.plane 1),
  .ro .bool (.upto 4) .ctl,
  .ro (.u 4) (.upto 8) (.planeLow),
  .ro .enum8 (.upto 4) .ctl,
  .ro .enum8 .one .ctl,
  .ro .enum8 .one .ctl,
  .ro .dt .one .ctl,
  .ro (.u 4) .one .ctl,
  .ctr (.u 4) (.upto 2) (.plane 1),
  .ctr (.u 8) (.upto 2) (.plane 1),
  .ctr (.u 4) (.upto 2) (.plane 1),
  .ctr (.u 8) (.upto 2) (.plane 1),
  .ctr (.u 8) (.upto 2) (.plane 1),
  .ctr (.u 8) (.upto 2) (.plane 1),
  .ctr (.u 8) (.upto 2) (.plane 1)]

/-- Group 14h. -/
def Catalogue.rows14 : List Row := Catalogue.rows14a ++ Catalogue.rows14b

/-- Group 18h, PIDs 1800h to 1827h. -/
def Catalogue.rows18a : List Row := [
  .ro (.u 2) .one .ctl (.const 24576),
  .ro (.u 2) .one .ctl (.const 24320),
  .ro (.u 2) (.upto 2) (.plane 1),
  .ro (.u 2) (.upto 2) (.plane 1),
  .rw (.u 2) (.upto 32768) .stored .now (.rng 0 2047) .byInst,
  .rw (.u 2) (.upto 2048) .stored .now .any .zero,
  .ro (.u 2) (.upto 4096) (.plane 2048),
  .rw (.u 2) (.upto 16) .stored .now .any .zero,
  .ro (.u 2) (.upto 32) (.plane 16),
  .rw (.u 2) (.upto 16) .stored .now .any .zero,
  .ro (.u 2) (.upto 32) (.plane 16),
  .ro (.u 2) .one .ctl (.const 22144),
  .ro (.u 2) (.upto 2) (.plane 1),
  .rw (.u 2) .one .stored .now .any .zero,
  .ro (.u 2) (.upto 2) (.plane 1),
  .ro (.u 2) (.upto 2) (.plane 1),
  .ro (.u 2) (.upto 2) (.plane 1),
  .rw (.u 2) .one .stored .now .any (.const 512),
  .rw (.u 2) .one .stored .now .any (.const 256),
  .rw (.u 2) .one .stored .now .any (.const 256),
  .ro (.u 2) (.upto 6) (.plane 3),
  .rw (.u 2) .one .stored .now .any (.const 1152),
  .ro (.u 2) (.upto 2) (.plane 1),
  .ro (.u 4) .one .ctl,
  .rw .enum8 (.upto 32768) .stored .now (.rng 0 2) .zero,
  .ro (.u 1) (.upto 16) (.plane 8),
  .ro (.u 1) .one .ctl (.const 16),
  .ro (.u 1) (.upto 2) (.plane 1),
  .ctr (.u 8) (.upto 2) (.plane 1),
  .ctr (.u 8) (.upto 2) (.plane 1),
  .ctr (.u 8) (.upto 2) (.plane 1),
  .ctr (.u 8) (.upto 2) (.plane 1),
  .ctr (.u 4) (.upto 8) (.plane 4),
  .ro (.u 2) (.upto 2) (.plane 1),
  .rw (.u 2) .one .stored .now (.rng 1 512) (.const 16),
  .rw (.u 4) .one .stored .now (.rng 0 86400) (.const 60),
  .wo .bool .one (.codes [1]),
  .ro .enum8 (.upto 2) (.plane 1),
  .ro (.u 4) (.upto 2) (.plane 1),
  .ro (.u 4) (.upto 2) (.plane 1)]

/-- Group 18h, PIDs 1828h to 182Fh. -/
def Catalogue.rows18b : List Row := [
  .ctr (.u 4) (.upto 2) (.plane 1),
  .ctr (.u 4) (.upto 2) (.plane 1),
  .rw (.u 2) (.upto 2) .vol .now (.codes [0]) .zero (.plane 1),
  .ro (.u 4) (.upto 2) (.plane 1),
  .ctr (.u 4) (.upto 4) (.plane 2),
  .ro (.u 8) (.upto 6) .ctl .byInst,
  .ro (.u 4) (.upto 6) .ctl,
  .ctr (.u 4) (.upto 8) .ctl]

/-- Group 18h. -/
def Catalogue.rows18 : List Row := Catalogue.rows18a ++ Catalogue.rows18b

/-- Group 1Ah, PIDs 1A00h to 1A27h. -/
def Catalogue.rows1Aa : List Row := [
  .rw .enum8 (.upto 144) .stored .now (.rng 0 1) .zero,
  .rw (.u 2) (.upto 1152) .stored .now (.rng 1 24576) (.const 2048),
  .rw (.u 2) (.upto 144) .stored .now (.rng 1 24576) (.const 8192),
  .ro (.u 2) (.upto 2304) (.plane 1152),
  .rw (.u 1) (.upto 144) .stored .now (.rng 1 36) (.const 6),
  .rw (.u 1) (.upto 144) .stored .now (.rng 1 8) (.const 8),
  .rw (.u 1) (.upto 32768) .stored .now (.rng 0 63) .zero,
  .rw .bool (.upto 32768) .stored .now .any (.const 1),
  .wo .bool (.upto 32768) (.codes [1]),
  .rw (.u 2) (.upto 64) .stored .now (.rng 1 24576) (.const 4096),
  .rw (.u 2) (.upto 64) .stored .now .any .zero,
  .rw (.u 4) (.upto 64) .stored .now (.rng 0 1000000) .zero,
  .rw .bool (.upto 64) .stored .now .any .zero,
  .rw (.s 4) (.upto 64) .stored .now .any (.const 0x61a80),
  .rw (.s 4) (.upto 64) .stored .now .any (.const 0xffff3cb0),
  .rw (.u 1) (.upto 64) .stored .now (.rng 0 3) (.const 1),
  .rw .dt .one .stored .now .any (.const 0x12d53d93000000000000),
  .rw (.s 4) .one .stored .now (.srng (-10000000) 10000000) .zero,
  .rw (.u 4) (.upto 144) .stored .now (.rng 0 1000000) .zero,
  .rw (.u 2) .one .stored .restart (.rng 1 1000) (.const 10),
  .rw .bool (.upto 144) .stored .now .any (.const 1),
  .rw .bool (.upto 144) .stored .now .any .zero,
  .ro .enum8 .one .ctl,
  .ro (.u 2) (.upto 65536) (.plane 32768),
  .ro (.u 2) (.upto 65536) (.plane 32768),
  .ro (.u 8) (.upto 65536) (.plane 32768),
  .ro (.u 8) (.upto 65536) (.plane 32768),
  .ro (.u 8) (.upto 65536) (.plane 32768),
  .ctr (.u 8) (.upto 65536) (.plane 32768),
  .ctr (.u 8) (.upto 65536) (.plane 32768),
  .ctr (.u 8) (.upto 65536) (.plane 32768),
  .ctr (.u 8) (.upto 65536) (.plane 32768),
  .ctr (.u 8) (.upto 65536) (.plane 32768),
  .ctr (.u 8) (.upto 65536) (.plane 32768),
  .ctr (.u 8) (.upto 65536) (.plane 32768),
  .ctr (.u 8) (.upto 65536) (.plane 32768),
  .ctr (.u 8) (.upto 288) (.plane 144),
  .ctr (.u 8) (.upto 288) (.plane 144),
  .ctr (.u 8) (.upto 288) (.plane 144),
  .ctr (.u 8) (.upto 288) (.plane 144)]

/-- Group 1Ah, PIDs 1A28h to 1A2Fh. -/
def Catalogue.rows1Ab : List Row := [
  .ctr (.u 8) (.upto 288) (.plane 144),
  .ctr (.u 8) (.upto 288) (.plane 144),
  .ctr (.u 8) (.upto 2) (.plane 1),
  .ctr (.u 8) (.upto 8) (.plane 4),
  .ctr (.u 8) (.upto 2) (.plane 1),
  .rw (.u 4) (.upto 2) .vol .now (.codes [0]) .zero (.plane 1),
  .ctr (.u 8) (.upto 65536) (.plane 32768),
  .ctr (.u 8) (.upto 2) (.plane 1)]

/-- Group 1Ah. -/
def Catalogue.rows1A : List Row := Catalogue.rows1Aa ++ Catalogue.rows1Ab

/-- Group 1Ch, PIDs 1C00h to 1C27h. -/
def Catalogue.rows1C : List Row := [
  .rw .bool (.upto 144) .stored .now .any .zero,
  .rw (.u 4) (.upto 144) .stored .now (.rng 100000 1000000000) (.const 0x2625a0),
  .rw (.u 4) (.upto 144) .stored .now .any .zero,
  .rw (.u 4) (.upto 144) .stored .now .any (.const 0x30d40),
  .rw (.u 1) (.upto 144) .stored .now (.rng 0 64) .zero,
  .rw (.bytes 16) (.upto 9216) .stored .now .special .zero,
  .wo .bool (.upto 144) (.codes [1]),
  .ro .bool (.upto 144) .ctl,
  .ro .dt (.upto 144) .ctl,
  .ro (.u 4) (.upto 144) .ctl,
  .ro (.u 4) (.upto 144) .ctl,
  .ro (.u 4) (.upto 144) .ctl,
  .ro (.u 1) (.upto 144) .ctl,
  .ro (.bytes 16) (.upto 9216) .ctl,
  .ro (.u 2) (.upto 144) .ctl,
  .ro (.u 2) .one .ctl,
  .rw .enum8 .one .stored .now (.rng 0 1) .zero,
  .ro .enum8 .one .ctl,
  .ro .enum8 (.upto 144) .ctl,
  .ro (.u 1) (.upto 144) .ctl (.const 255),
  .ro .dt (.upto 144) .ctl,
  .ro (.u 2) (.upto 288) (.plane 144),
  .ro (.u 2) (.upto 288) (.plane 144),
  .ctr (.u 8) (.upto 18432) (.plane 9216),
  .ctr (.u 8) (.upto 18432) (.plane 9216),
  .ctr (.u 4) (.upto 18432) (.plane 9216),
  .ctr (.u 8) (.upto 18432) (.plane 9216),
  .ctr (.u 8) (.upto 18432) (.plane 9216),
  .rw (.u 2) (.upto 18432) .vol .now (.codes [0]) .zero (.plane 9216),
  .ctr (.u 4) (.upto 9216) .ctl,
  .ctr (.u 8) (.upto 288) (.plane 144),
  .ctr (.u 8) (.upto 65536) (.plane 32768),
  .rw (.u 2) .one .stored .now (.rng 1 4096) (.const 1024),
  .ro (.u 2) (.upto 2) (.plane 1),
  .ctr (.u 4) .one .ctl,
  .ro .dt .one .ctl,
  .ctr (.u 4) (.upto 144) .ctl,
  .ro (.u 1) (.upto 144) .ctl,
  .ro (.u 4) (.upto 144) .ctl,
  .ctr (.u 4) (.upto 2) (.plane 1)]

/-- Group 20h, PIDs 2000h to 2027h. -/
def Catalogue.rows20a : List Row := [
  .rw (.u 4) (.upto 32768) .stored .now .special .byInst,
  .rw (.u 1) (.upto 32768) .stored .now (.rngOr 0 15 255) (.const 255),
  .rw (.u 1) (.upto 32768) .stored .now (.rng 0 7) .zero,
  .rw (.u 2) (.upto 32768) .stored .now (.rng 1 4096) (.const 1),
  .rw (.u 4) (.upto 4096) .stored .now .special (.const 0xff000000),
  .rw .enum8 (.upto 4096) .stored .now (.rng 0 1) .zero,
  .rw (.u 1) (.upto 4096) .stored .now (.rng 0 7) .zero,
  .rw (.u 2) (.upto 4096) .stored .now (.rng 1 4096) (.const 1),
  .rw (.u 1) (.upto 4096) .stored .now (.rngOr 0 15 255) (.const 255),
  .rw (.u 4) (.upto 4096) .stored .refill (.rng 0 100000000) .zero,
  .rw (.u 4) (.upto 4096) .stored .refill (.rng 1 16777215) (.const 65536),
  .rw (.u 4) (.upto 1024) .stored .now .special (.const 0xff000000),
  .rw .enum8 (.upto 1024) .stored .now (.rng 0 1) .zero,
  .rw (.u 1) (.upto 1024) .stored .now (.rng 0 7) .zero,
  .rw (.u 2) (.upto 1024) .stored .now (.rng 1 4096) (.const 1),
  .rw (.u 1) (.upto 1024) .stored .now (.rngOr 0 15 255) (.const 255),
  .rw (.u 4) (.upto 1024) .stored .refill .any .zero,
  .rw (.u 4) (.upto 1024) .stored .refill .any (.const 65536),
  .rw (.u 4) (.upto 148) .stored .refill .any .zero,
  .rw (.u 4) (.upto 148) .stored .refill .any (.const 65536),
  .rw (.u 1) (.upto 148) .stored .now (.rng 0 64) (.const 20),
  .rw (.u 4) (.upto 3) .stored .now (.rng 1000 400000) .byInst,
  .rw (.u 4) (.upto 16) .stored .now .any .zero,
  .rw (.u 4) (.upto 16) .stored .now .any .zero,
  .rw (.u 2) (.upto 16) .stored .now .any .zero,
  .rw (.u 2) (.upto 16) .stored .now .any .zero,
  .ctr (.u 4) (.upto 16) .ctl,
  .ro (.u 2) (.upto 16) .ctl,
  .ro (.u 2) (.upto 16) .ctl,
  .ro .enum8 .one .ctl,
  .ctr (.u 8) (.upto 2) (.plane 1),
  .ro (.u 4) .one .ctl,
  .rw .enum8 (.upto 148) .stored .now (.rng 0 1) .zero,
  .rw .enum8 (.upto 148) .stored .now (.rng 0 1) .zero,
  .rw .enum8 (.upto 148) .stored .now (.rng 0 1) .zero,
  .rw .enum8 (.upto 148) .stored .now (.rng 0 1) .zero,
  .rw .enum8 (.upto 148) .stored .now (.rng 0 1) .zero,
  .rw .enum8 (.upto 148) .stored .now (.rng 0 1) .zero,
  .rw .enum8 (.upto 148) .stored .now (.rng 0 1) .zero,
  .rw .enum8 (.upto 148) .stored .now (.rng 0 1) .zero]

/-- Group 20h, PIDs 2028h to 204Fh. -/
def Catalogue.rows20b : List Row := [
  .rw (.u 4) (.upto 148) .stored .refill .any .zero,
  .rw (.u 4) (.upto 148) .stored .refill .any .zero,
  .rw (.u 4) (.upto 148) .stored .refill .any .zero,
  .rw (.u 4) (.upto 148) .stored .refill .any .zero,
  .rw (.u 4) (.upto 148) .stored .refill .any .zero,
  .rw (.u 4) (.upto 148) .stored .refill .any .zero,
  .rw (.u 4) (.upto 148) .stored .refill .any .zero,
  .rw (.u 4) (.upto 148) .stored .refill .any .zero,
  .rw (.u 4) (.upto 148) .stored .refill .any (.const 65536),
  .rw (.u 4) (.upto 148) .stored .refill .any (.const 65536),
  .rw (.u 4) (.upto 148) .stored .refill .any (.const 65536),
  .rw (.u 4) (.upto 148) .stored .refill .any (.const 65536),
  .rw (.u 4) (.upto 148) .stored .refill .any (.const 65536),
  .rw (.u 4) (.upto 148) .stored .refill .any (.const 65536),
  .rw (.u 4) (.upto 148) .stored .refill .any (.const 65536),
  .rw (.u 4) (.upto 148) .stored .refill .any (.const 65536),
  .ro (.s 4) (.upto 8192) (.plane 4096),
  .ro (.s 4) (.upto 2048) (.plane 1024),
  .ro (.s 4) (.upto 2368) (.plane 1184),
  .ro (.s 4) (.upto 296) (.plane 148),
  .ro (.s 4) (.upto 65536) (.plane 32768),
  .ctr (.u 8) (.upto 8192) (.plane 4096),
  .ctr (.u 8) (.upto 8192) (.plane 4096),
  .ctr (.u 8) (.upto 2048) (.plane 1024),
  .ctr (.u 8) (.upto 2048) (.plane 1024),
  .ctr (.u 8) (.upto 2368) (.plane 1184),
  .ctr (.u 8) (.upto 2368) (.plane 1184),
  .ctr (.u 8) (.upto 296) (.plane 148),
  .ctr (.u 8) (.upto 296) (.plane 148),
  .ctr (.u 8) (.upto 2368) (.plane 1184),
  .ctr (.u 8) (.upto 2368) (.plane 1184),
  .ctr (.u 8) (.upto 16) (.plane 8),
  .ctr (.u 8) (.upto 16) (.plane 8),
  .ro (.u 2) (.upto 4096) .ctl,
  .ro (.u 2) (.upto 1024) .ctl,
  .ro (.u 2) (.upto 1184) .ctl,
  .ro (.u 2) (.upto 8192) (.plane 4096),
  .ro (.u 2) (.upto 2048) (.plane 1024),
  .ctr (.u 8) (.upto 296) (.plane 148),
  .ctr (.u 4) (.upto 2) (.plane 1)]

/-- Group 20h. -/
def Catalogue.rows20 : List Row := Catalogue.rows20a ++ Catalogue.rows20b

/-- Group 22h, PIDs 2200h to 221Fh. -/
def Catalogue.rows22 : List Row := [
  .rw .bool (.upto 144) .stored .now .any .zero,
  .rw .dt (.upto 144) .stored .now .any .zero,
  .rw (.u 4) (.upto 144) .stored .now (.rng 1000 1000000000) (.const 0xf4240),
  .rw (.u 2) (.upto 144) .stored .now (.rng 0 256) .zero,
  .rw (.bytes 8) (.upto 36864) .stored .now .special .zero,
  .wo .bool (.upto 144) (.codes [1]),
  .ro .bool (.upto 144) .ctl,
  .ro .dt (.upto 144) .ctl,
  .ro .dt (.upto 144) .ctl,
  .ro (.u 4) (.upto 144) .ctl,
  .ro (.u 2) (.upto 144) .ctl,
  .ro (.bytes 8) (.upto 36864) .ctl,
  .ro (.u 2) (.upto 144) .ctl,
  .ro (.u 1) (.upto 144) .ctl (.const 255),
  .ro (.u 1) (.upto 144) .ctl,
  .ro (.u 4) (.upto 144) .ctl,
  .ro (.u 4) (.upto 144) .ctl,
  .ro (.u 4) (.upto 144) .ctl,
  .ro (.u 4) (.upto 144) .ctl,
  .ro (.u 4) (.upto 144) .ctl,
  .ro (.u 4) (.upto 144) .ctl,
  .ro (.u 4) (.upto 144) .ctl,
  .ro (.u 4) (.upto 144) .ctl,
  .ro (.u 4) (.upto 144) .ctl,
  .ctr (.u 8) (.upto 2304) (.plane 1152),
  .ctr (.u 8) (.upto 2304) (.plane 1152),
  .ctr (.u 8) (.upto 2304) (.plane 1152),
  .rw (.u 1) (.upto 144) .stored .now .any (.const 255),
  .ro .dt (.upto 144) .ctl,
  .rw (.u 2) (.upto 144) .stored .now (.rng 0 10000) .zero,
  .rw (.u 4) (.upto 144) .stored .now (.rng 100 1000000) (.const 1000),
  .ro .enum8 (.upto 144) .ctl]

/-- Group 24h, PIDs 2400h to 2417h. -/
def Catalogue.rows24 : List Row := [
  .ro (.u 2) (.upto 65536) (.plane 32768),
  .ro (.u 4) (.upto 65536) (.plane 32768),
  .rw (.u 2) (.upto 65536) .vol .now (.codes [0]) .zero (.plane 32768),
  .rw (.u 4) (.upto 65536) .vol .now (.codes [0]) .zero (.plane 32768),
  .ro .dt (.upto 65536) (.plane 32768),
  .rw (.u 2) (.upto 512) .stored .now (.rngOr 0 32767 65535) (.const 65535),
  .rw (.u 1) (.upto 512) .stored .now (.rng 0 8) .zero,
  .rw (.u 4) (.upto 512) .stored .now .any .zero,
  .ctr (.bytes 128) (.upto 1024) (.plane 512),
  .ctr (.u 8) (.upto 1024) (.plane 512),
  .ctr (.u 8) (.upto 1024) (.plane 512),
  .ctr (.u 4) (.upto 1024) (.plane 512),
  .wo .bool (.upto 512) (.codes [1]),
  .rw .bool .one .stored .now .any (.const 1),
  .ro (.u 8) (.upto 2) (.plane 1),
  .ro .dt (.upto 2) (.plane 1),
  .ro (.u 8) (.upto 1024) (.plane 512),
  .ro (.u 8) (.upto 1024) (.plane 512),
  .ro (.u 4) (.upto 1024) (.plane 512),
  .ro .dt (.upto 512) .ctl,
  .ro (.u 2) .one .ctl,
  .rw (.u 1) (.upto 512) .stored .now (.rngOr 0 15 255) (.const 255),
  .ro (.u 4) .one .ctl (.const 32768),
  .ro (.u 4) (.upto 2) (.plane 1)]

/-- Group 28h, PIDs 2800h to 2827h. -/
def Catalogue.rows28a : List Row := [
  .ro (.u 2) (.upto 144) (.port 144 1),
  .ro (.u 2) (.upto 144) (.port 144 1),
  .ro (.u 2) (.upto 144) (.port 144 1),
  .rw (.u 2) (.upto 144) .vol .now (.codes [0]) .zero (.port 144 1),
  .ctr (.u 8) (.upto 288) (.port 144 1),
  .ctr (.u 8) (.upto 144) (.port 144 1),
  .ctr (.u 8) (.upto 288) (.port 144 1),
  .ctr (.u 8) (.upto 288) (.port 144 1),
  .ctr (.u 8) (.upto 144) (.port 144 1),
  .ctr (.u 4) (.upto 288) (.port 144 1),
  .ctr (.u 4) (.upto 288) (.port 144 1),
  .ctr (.u 8) (.upto 288) (.port 144 1),
  .ctr (.u 8) (.upto 144) (.port 144 1),
  .ctr (.u 8) (.upto 144) (.port 144 1),
  .ctr (.u 8) (.upto 288) (.port 144 1),
  .ctr (.u 8) (.upto 144) (.port 144 1),
  .ctr (.u 8) (.upto 144) (.port 144 1),
  .ctr (.u 8) (.upto 288) (.port 144 1),
  .ctr (.u 8) (.upto 144) (.port 144 1),
  .ctr (.u 4) (.upto 144) (.port 144 1),
  .ctr (.u 8) (.upto 144) (.port 144 1),
  .ro (.bytes 16) (.upto 144) (.port 144 1),
  .rw (.u 2) .one .stored .now (.rng 1 65535) (.const 16),
  .rw (.u 4) .one .stored .now .any (.const 1000),
  .rw (.u 2) .one .stored .now .any (.const 256),
  .rw (.u 1) .one .stored .now (.rng 1 144) (.const 4),
  .rw (.u 1) .one .stored .now (.rng 1 100) (.const 3),
  .rw (.u 4) .one .stored .now .any (.const 64),
  .rw .enum8 .one .stored .now (.rng 0 1) (.const 1),
  .rw .enum8 .one .stored .now (.rng 0 1) (.const 1),
  .rw (.u 1) .one .stored .now (.rng 1 10) (.const 3),
  .ro .enum8 (.upto 2) .ctl,
  .ro (.u 2) (.upto 2) .ctl,
  .ro (.u 1) (.upto 2) .ctl,
  .ro (.u 4) .one .ctl,
  .ro (.u 4) (.upto 2) .ctl,
  .ro .enum8 (.upto 2) .ctl,
  .ro .dt (.upto 2) .ctl,
  .ro .enum8 .one .ctl,
  .ro (.u 1) .one .ctl (.const 255)]

/-- Group 28h, PIDs 2828h to 283Fh. -/
def Catalogue.rows28b : List Row := [
  .ro (.u 4) (.upto 2) .ctl,
  .ro (.u 4) (.upto 2) .ctl,
  .ro (.bytes 9) .one .ctl,
  .ro (.u 1) (.upto 2) .ctl,
  .rw (.bytes 16) (.upto 2048) .stored .now .special .zero,
  .ro (.u 2) (.upto 2048) (.pg 256),
  .wo .bool (.upto 2048) (.codes [1]),
  .ctr (.u 8) (.upto 2048) (.pg 256),
  .rw (.bytes 8) (.upto 2048) .stored .now .special .zero,
  .ro (.u 8) (.upto 2048) (.pg 256),
  .rw (.bytes 8) (.upto 1024) .stored .now .special .zero,
  .wo .bool (.upto 1024) (.codes [1]),
  .ctr (.u 8) (.upto 1024) (.port 144 1),
  .ctr (.u 8) (.upto 1024) (.port 144 1),
  .ctr (.u 8) (.upto 1024) (.port 144 1),
  .ctr (.u 8) (.upto 1024) (.port 144 1),
  .ctr (.u 8) (.upto 1024) (.port 144 1),
  .ctr (.u 8) (.upto 1024) (.port 144 1),
  .ro (.u 4) (.upto 1024) (.port 144 1),
  .ro (.u 2) (.upto 1024) (.port 144 1),
  .ro (.u 2) .one .ctl (.const 61889),
  .ro (.u 2) .one .ctl,
  .ro (.u 2) .one .ctl,
  .ro (.u 1) .one .ctl (.const 128)]

/-- Group 28h. -/
def Catalogue.rows28 : List Row := Catalogue.rows28a ++ Catalogue.rows28b

/-- Group 30h, PIDs 3000h to 301Fh. -/
def Catalogue.rows30 : List Row := [
  .ro (.bytes 9) .one .ctl,
  .ro .dt .one .ctl,
  .ro .bool .one .ctl,
  .ro (.bytes 32) .one .ctl,
  .ro (.bytes 32) .one .ctl,
  .ro (.bytes 9) .one .ctl,
  .ctr (.u 4) .one .ctl,
  .ro .dt .one .ctl,
  .rw (.u 2) .one .stored .now (.rng 10 10000) (.const 100),
  .ro (.s 2) .one .ctl,
  .rw (.s 2) .one .stored .now .any (.const 37),
  .ro .enum8 .one .ctl,
  .ro .enum8 (.upto 2) .ctl,
  .ctr (.u 4) .one .ctl,
  .ro .enum8 (.upto 10) .ctl,
  .ctr (.u 4) (.upto 10) .ctl,
  .wo (.s 8) .one .any,
  .wo (.s 8) .one .any,
  .rw (.u 4) .one .stored .now (.rng 100 1000000000) (.const 0xf4240),
  .rw .bool .one .stored .now .any (.const 1),
  .ctr (.u 4) .one .ctl,
  .ro (.s 8) .one .ctl,
  .ro .dt .one .ctl,
  .ro (.s 4) (.upto 144) .ctl,
  .ro (.s 4) (.upto 144) .ctl,
  .rw (.s 4) (.upto 144) .stored .now .any .zero,
  .rw (.u 4) .one .stored .now (.rng 10 100000) (.const 1000),
  .ro (.s 4) .one .ctl,
  .ro (.u 1) .one .ctl (.const 8),
  .ro .dt .one .ctl,
  .ro (.u 2) .one .ctl,
  .ro .bool .one .ctl]

/-- Group 31h, PIDs 3100h to 3127h. -/
def Catalogue.rows31a : List Row := [
  .rw .enum8 .one .stored .now (.rng 0 3) .zero,
  .rw .enum8 .one .stored .now (.rng 0 1) .zero,
  .rw (.u 1) .one .stored .now .special (.const 24),
  .ro (.bytes 8) .one .ctl,
  .rw (.u 1) .one .stored .now .any (.const 128),
  .rw (.u 1) .one .stored .now (.rng 1 255) (.const 128),
  .rw .enum8 .one .stored .now (.rng 0 1) .zero,
  .rw .bool .one .stored .now .any .zero,
  .rw .bool (.upto 144) .stored .now .any .zero,
  .rw (.u 1) (.upto 144) .stored .now (.rng 1 255) (.const 128),
  .rw .bool (.upto 144) .stored .now .any .zero,
  .rw .enum8 (.upto 144) .stored .now (.rng 0 1) .zero,
  .rw (.s 1) (.upto 144) .stored .now (.srng (-7) 0) (.const 252),
  .rw (.s 1) (.upto 144) .stored .now (.srng (-7) 0) (.const 252),
  .rw (.s 1) (.upto 144) .stored .now (.srng (-3) 1) (.const 253),
  .rw (.u 1) (.upto 144) .stored .now (.rng 2 10) (.const 3),
  .ro .enum8 (.upto 144) .ctl (.const 3),
  .rw .bool (.upto 144) .stored .now .any .zero,
  .ro (.u 4) (.upto 144) .ctl,
  .ro (.bytes 10) .one .ctl,
  .ro (.bytes 8) .one .ctl,
  .ro (.u 1) .one .ctl,
  .ro (.u 1) .one .ctl,
  .ro (.u 2) .one .ctl,
  .ro (.u 2) .one .ctl,
  .ro (.s 8) .one .ctl,
  .ro (.u 1) .one .ctl,
  .ro (.u 1) .one .ctl,
  .rw (.u 1) .one .stored .now .any (.const 165),
  .rw .bool (.upto 144) .stored .now .any .zero,
  .rw (.bytes 20) (.upto 576) .stored .now .special .zero,
  .rw (.bytes 20) (.upto 144) .stored .now .special .zero,
  .rw (.u 2) .one .stored .now (.rng 60 1000) (.const 300),
  .ctr (.u 8) (.upto 144) .ctl,
  .ctr (.u 8) (.upto 144) .ctl,
  .ctr (.u 8) (.upto 144) .ctl,
  .ctr (.u 4) (.upto 144) .ctl,
  .ctr (.u 8) (.upto 144) .ctl,
  .ctr (.u 4) (.upto 144) .ctl,
  .ctr (.u 8) (.upto 144) (.port 144 1)]

/-- Group 31h, PIDs 3128h to 312Fh. -/
def Catalogue.rows31b : List Row := [
  .ctr (.u 8) (.upto 144) (.port 144 1),
  .rw .enum8 .one .stored .now (.rng 0 1) (.const 1),
  .ctr (.u 4) (.upto 8) (.pg 1),
  .ro (.bytes 10) (.upto 144) .ctl,
  .rw (.u 1) .one .stored .now (.rng 0 7) (.const 7),
  .rw (.u 1) .one .stored .now (.rng 0 63) (.const 46),
  .ctr (.u 4) .one .ctl,
  .ro (.u 1) .one .ctl]

/-- Group 31h. -/
def Catalogue.rows31 : List Row := Catalogue.rows31a ++ Catalogue.rows31b

/-- Group 32h, PIDs 3200h to 3217h. -/
def Catalogue.rows32 : List Row := [
  .rw .bool .one .stored .now .any .zero,
  .rw .enum8 .one .stored .now (.rng 0 1) (.const 1),
  .rw .bool (.upto 144) .stored .now .any .zero,
  .rw (.u 1) (.upto 144) .stored .now (.rng 1 255) (.const 128),
  .ro (.u 2) (.upto 144) .ctl (.const 65535),
  .rw (.u 2) (.upto 144) .stored .now .special (.const 65535),
  .rw .bool (.upto 144) .stored .now .any (.const 1),
  .ctr (.u 8) (.upto 144) .ctl,
  .ctr (.u 4) (.upto 144) .ctl,
  .ro (.u 1) .one .ctl (.const 255),
  .ro .enum8 .one .ctl,
  .ro (.s 4) .one .ctl,
  .ro (.u 2) .one .ctl,
  .rw (.u 2) .one .stored .now (.rng 0 3600) (.const 300),
  .ro (.u 2) (.upto 144) .ctl,
  .rw .enum8 .one .stored .now (.rng 0 1) .zero,
  .rw (.u 1) .one .vol .now (.rngOr 0 143 255) (.const 255),
  .ro (.s 4) (.upto 144) .ctl,
  .rw (.u 2) .one .stored .now (.rng 1000 10000) (.const 4600),
  .ctr (.u 4) .one .ctl,
  .ro .bool .one .ctl,
  .ro .dt .one .ctl,
  .ro (.u 2) .one .ctl,
  .ro (.u 1) .one .ctl]

/-- Group 33h, PIDs 3300h to 3317h. -/
def Catalogue.rows33 : List Row := [
  .rw .bool .one .stored .now .any (.const 1),
  .rw (.u 1) .one .stored .now (.rng 0 15) (.const 15),
  .rw .enum8 .one .stored .now (.rng 0 1) .zero,
  .rw (.bytes 24) .one .stored .now .any .zero,
  .rw (.u 2) .one .stored .now (.rng 10 10080) (.const 120),
  .rw (.s 4) .one .stored .now (.srng (-100000) 100000) .zero,
  .ro .enum8 .one .ctl,
  .ro (.u 1) .one .ctl,
  .ro (.u 1) .one .ctl,
  .ro .enum8 .one .ctl,
  .ro (.u 2) .one .ctl,
  .ro (.bytes 24) .one .ctl,
  .rw (.u 1) .one .stored .now (.rng 1 12) (.const 4),
  .rw (.u 1) .one .stored .now (.rng 0 30) (.const 10),
  .ro .enum8 .one .ctl,
  .rw (.u 2) .one .stored .now (.rng 50 10000) (.const 150),
  .rw (.u 1) .one .stored .now (.rng 10 100) (.const 30),
  .ctr (.u 4) .one .ctl,
  .rw (.u 4) .one .stored .now (.rng 60 86400) (.const 600),
  .ro (.s 4) .one .ctl,
  .rw .enum8 .one .stored .now (.rng 0 2) .zero,
  .ro (.s 8) .one .ctl,
  .ro (.u 2) .one .ctl,
  .ro (.s 4) .one .ctl]

/-- Group 34h, PIDs 3400h to 3417h. -/
def Catalogue.rows34 : List Row := [
  .ro .enum8 .one .ctl,
  .ro .enum8 .one .ctl,
  .rw (.bytes 4) .one .stored .now .special (.const 0x1020300),
  .ro (.u 4) .one .ctl,
  .ro .enum8 .one .ctl,
  .ro (.u 4) .one .ctl,
  .rw (.u 4) .one .stored .now (.rng 100 100000) (.const 1100),
  .ro (.u 4) .one .ctl,
  .rw .enum8 .one .stored .now (.rng 0 1) (.const 1),
  .ro (.bytes 40) .one .ctl,
  .ro (.u 2) .one .ctl,
  .ro (.s 2) .one .ctl,
  .ro (.u 4) .one .ctl,
  .ro .dt .one .ctl,
  .wo .bool .one (.codes [1]),
  .rw .bool .one .stored .now .any (.const 1),
  .rw (.u 2) .one .stored .now (.rng 10 10000) (.const 100),
  .rw (.u 2) .one .stored .now (.rng 1 3600) (.const 60),
  .rw (.u 4) .one .stored .now (.rng 100 1000000) (.const 1000),
  .rw (.u 2) .one .stored .now (.rng 10 1000) (.const 100),
  .ctr (.u 4) .one .ctl,
  .ro (.u 4) .one .ctl,
  .ctr (.u 4) .one .ctl,
  .ro .dt .one .ctl]

/-- Group 35h, PIDs 3500h to 3517h. -/
def Catalogue.rows35 : List Row := [
  .rw .bool (.upto 2) .stored .now .any .zero,
  .rw .enum8 (.upto 2) .stored .now (.rng 0 2) .zero,
  .rw (.u 4) (.upto 2) .stored .now .special (.const 0x3b9aca00),
  .rw (.u 4) (.upto 2) .stored .now .special (.const 0x186a0),
  .rw (.s 4) (.upto 2) .stored .now .any .zero,
  .rw (.u 2) (.upto 2) .stored .now (.rng 0 10000) .zero,
  .rw .dt (.upto 2) .stored .now .any .zero,
  .rw .enum8 (.upto 2) .stored .now .special (.const 1),
  .ro .enum8 (.upto 2) .ctl,
  .ctr (.u 8) (.upto 2) .ctl,
  .ro .dt (.upto 2) .ctl,
  .rw .bool (.upto 2) .stored .now .any .zero,
  .rw .enum8 (.upto 2) .stored .now (.rng 0 2) .zero,
  .rw (.u 2) (.upto 2) .stored .now (.rng 0 10000) .zero,
  .ro (.bytes 16) (.upto 128) .ctl,
  .ro (.u 1) (.upto 2) .ctl,
  .ctr (.u 4) (.upto 2) .ctl,
  .wo .bool (.upto 2) (.codes [1]),
  .rw .bool .one .stored .now .any .zero,
  .rw .enum8 .one .stored .now (.rng 0 1) .zero,
  .rw .enum8 .one .stored .now (.rng 0 2) .zero,
  .rw .bool .one .stored .now .any .zero,
  .ro .enum8 .one .ctl,
  .ro (.s 4) .one .ctl]

/-- Group 38h, PIDs 3800h to 3827h. -/
def Catalogue.rows38a : List Row := [
  .ro .enum8 (.upto 32) .ctl,
  .ro .enum8 (.upto 32) .ctl .byInst,
  .ro (.u 8) (.upto 32) .ctl,
  .ro (.u 2) (.upto 32) .ctl,
  .ro (.u 2) (.upto 32) .ctl,
  .ro (.u 2) (.upto 32) .ctl,
  .rw .bool (.upto 32) .vol .now .any .zero,
  .wo .enum8 (.upto 32) (.codes [1,2]),
  .rw .enum8 (.upto 32) .stored .now (.rng 0 1) .zero,
  .ro (.u 8) (.upto 32) .ctl,
  .ro (.u 8) (.upto 32) .ctl,
  .ro (.u 4) (.upto 32) .ctl,
  .ro (.u 8) (.upto 32) .ctl,
  .ro (.u 2) (.upto 32) .ctl,
  .ro (.u 1) (.upto 32) .ctl,
  .ro (.u 1) (.upto 32) .ctl,
  .ctr (.u 8) (.upto 32) .ctl,
  .ctr (.u 8) (.upto 32) .ctl,
  .ctr (.u 4) (.upto 32) .ctl,
  .ctr (.u 4) (.upto 32) .ctl,
  .ctr (.u 4) (.upto 32) .ctl,
  .ctr (.u 4) (.upto 32) .ctl,
  .ctr (.u 4) (.upto 32) .ctl,
  .ctr (.u 4) (.upto 32) .ctl,
  .ro (.u 4) .one .ctl (.const 2000),
  .ro (.u 2) .one .ctl (.const 4096),
  .ro .bool (.upto 2) .ctl,
  .rw (.u 1) .one .stored .now (.rng 0 7) (.const 6),
  .ro (.u 2) (.upto 2) .ctl,
  .ctr (.u 8) (.upto 2) .ctl,
  .ctr (.u 8) (.upto 2) .ctl,
  .ctr (.u 8) (.upto 2) .ctl,
  .ctr (.u 8) (.upto 2) .ctl,
  .ctr (.u 4) (.upto 2) .ctl,
  .ctr (.u 8) (.upto 2) .ctl,
  .ctr (.u 8) (.upto 2) .ctl,
  .ctr (.u 8) (.upto 2) .ctl,
  .ctr (.u 8) (.upto 2) .ctl,
  .ctr (.u 8) (.upto 2) .ctl,
  .ro (.u 4) (.upto 2) .ctl]

/-- Group 38h, PIDs 3828h to 382Fh. -/
def Catalogue.rows38b : List Row := [
  .ctr (.u 8) (.upto 2) .ctl,
  .ctr (.u 8) (.upto 2) .ctl,
  .ro (.u 8) (.upto 2) .ctl,
  .ro (.u 2) .one .ctl (.const 50),
  .ro (.u 2) .one .ctl (.const 1024),
  .ro (.u 4) (.upto 2) .ctl,
  .rw (.u 2) (.upto 32) .stored .now (.rng 1 256) (.const 16),
  .rw (.u 2) (.upto 32) .stored .now (.rng 1 10000) (.const 50)]

/-- Group 38h. -/
def Catalogue.rows38 : List Row := Catalogue.rows38a ++ Catalogue.rows38b

/-- Group 3Ch, PIDs 3C00h to 3C27h. -/
def Catalogue.rows3Ca : List Row := [
  .ctr (.u 8) (.upto 144) (.port 144 1),
  .ctr (.u 8) (.upto 144) (.port 144 1),
  .ctr (.u 8) (.upto 144) (.port 144 1),
  .ctr (.u 8) (.upto 144) (.port 144 1),
  .ctr (.u 8) (.upto 144) (.port 144 1),
  .ctr (.u 8) (.upto 144) (.port 144 1),
  .ctr (.u 8) (.upto 144) (.port 144 1),
  .ctr (.u 8) (.upto 144) (.port 144 1),
  .ctr (.u 8) (.upto 144) (.port 144 1),
  .ctr (.u 8) (.upto 144) (.port 144 1),
  .ctr (.u 8) (.upto 144) (.port 144 1),
  .ctr (.u 4) (.upto 144) (.port 144 1),
  .ctr (.u 8) (.upto 144) (.port 144 1),
  .ctr (.u 8) (.upto 1152) (.port 1152 8),
  .ctr (.u 8) (.upto 144) (.port 144 1),
  .ctr (.u 8) (.upto 1152) (.port 1152 8),
  .ctr (.u 8) (.upto 144) (.port 144 1),
  .ctr (.u 8) (.upto 144) (.port 144 1),
  .ctr (.u 8) (.upto 144) (.port 144 1),
  .ctr (.u 8) (.upto 144) (.port 144 1),
  .ctr (.u 8) (.upto 8) (.pg 1),
  .ctr (.u 8) (.upto 144) (.port 144 1),
  .ctr (.u 8) (.upto 144) (.port 144 1),
  .ctr (.u 4) (.upto 144) (.port 144 1),
  .ctr (.u 8) (.upto 49152) (.pg 6144),
  .ctr (.u 8) (.upto 49152) (.pg 6144),
  .ro (.u 4) (.upto 144) (.port 144 1),
  .ro (.u 4) (.upto 144) (.port 144 1),
  .ctr (.u 8) (.gap 8 288 1 6) (.plane 1152),
  .ctr (.u 8) (.upto 288) (.plane 144),
  .ctr (.u 8) (.gap 65536 2 1 65535) (.plane 65536),
  .ctr (.u 8) (.gap 65536 2 1 65535) (.plane 65536),
  .ctr (.u 8) (.upto 2) (.plane 1),
  .ctr (.u 4) (.upto 2) (.plane 1),
  .ctr (.u 4) (.upto 2) (.plane 1),
  .ctr (.u 8) (.upto 2) (.plane 1),
  .ctr (.u 8) (.upto 2) (.plane 1),
  .ctr (.u 8) (.upto 2) (.plane 1),
  .ctr (.u 8) (.upto 2) (.plane 1),
  .ctr (.u 8) (.upto 2) (.plane 1)]

/-- Group 3Ch, PIDs 3C28h to 3C2Fh. -/
def Catalogue.rows3Cb : List Row := [
  .ctr (.u 4) (.upto 2) (.plane 1),
  .ctr (.u 8) (.upto 6) .ctl,
  .ctr (.u 4) (.upto 2) .ctl,
  .ro (.u 4) .one .ctl,
  .ro .dt .one .ctl,
  .wo .bool .one (.codes [1]),
  .ro (.u 2) (.upto 14) .ctl,
  .ro (.u 4) .one .ctl]

/-- Group 3Ch. -/
def Catalogue.rows3C : List Row := Catalogue.rows3Ca ++ Catalogue.rows3Cb

/-- Group 3Eh, PIDs 3E00h to 3E0Fh. -/
def Catalogue.rows3E : List Row := [
  .ro (.bytes 32) .one .ctl,
  .ro (.bytes 24) (.upto 256) .ctl,
  .ro (.u 2) .one .ctl,
  .ro .dt .one .ctl,
  .ro (.u 1) .one .ctl,
  .ro .dt .one .ctl,
  .ro (.u 4) .one .ctl,
  .ro (.u 4) .one .ctl,
  .ro .dt .one .ctl,
  .ro .enum8 .one .ctl,
  .ro (.u 4) .one .ctl,
  .ro (.u 2) .one .ctl,
  .rw (.u 2) .one .stored .now (.rng 10 3600) (.const 60),
  .wo .bool .one (.codes [1]),
  .ro (.u 4) .one .ctl,
  .ro (.bytes 32) .one .ctl]

/-- Group 40h, PIDs 4000h to 401Fh. -/
def Catalogue.rows40 : List Row := [
  .ro .enum8 .one .ctl,
  .ro (.bytes 128) .one .ctl,
  .ro (.bytes 32) .one .ctl,
  .ro .dt .one .ctl,
  .ro (.u 2) .one .ctl,
  .rw (.u 1) (.upto 16) .stored .now (.rngOr 0 15 255) (.const 255),
  .rw (.str 32) (.upto 16) .stored .now .any .zero,
  .ro (.u 2) (.upto 16) .ctl,
  .ro (.u 2) (.upto 16) .ctl,
  .ro (.u 8) (.upto 16) .ctl,
  .ro (.bytes 108) (.upto 16) .ctl,
  .rw .bool .one .stored .now .any (.const 1),
  .rw (.u 2) .one .stored .now (.rng 60 3600) (.const 300),
  .ro (.s 4) .one .ctl,
  .ro .enum8 .one .ctl,
  .ro (.s 4) .one .ctl,
  .ro .dt .one .ctl,
  .ctr (.u 8) .one .ctl,
  .ctr (.u 4) .one .ctl,
  .ctr (.u 4) .one .ctl,
  .ctr (.u 4) .one .ctl,
  .ctr (.u 4) .one .ctl,
  .ctr (.u 4) .one .ctl,
  .ro (.bytes 48) (.upto 64) .ctl,
  .ctr (.u 4) .one .ctl,
  .ro .bool .one .ctl,
  .ro (.u 4) .one .ctl,
  .ro (.u 4) (.upto 16) .ctl,
  .ro (.u 4) .one .ctl,
  .ctr (.u 4) .one .ctl,
  .rw (.u 2) .one .stored .now (.rng 0 365) (.const 90),
  .rw .enum8 .one .stored .now (.rng 0 1) (.const 1)]

/-- The 27 groups of R504 with their rows. -/
def Catalogue.groups : List (Nat × List Row) := [
  (0x00, Catalogue.rows00),
  (0x01, Catalogue.rows01),
  (0x02, Catalogue.rows02),
  (0x03, Catalogue.rows03),
  (0x04, Catalogue.rows04),
  (0x08, Catalogue.rows08),
  (0x09, Catalogue.rows09),
  (0x0A, Catalogue.rows0A),
  (0x10, Catalogue.rows10),
  (0x14, Catalogue.rows14),
  (0x18, Catalogue.rows18),
  (0x1A, Catalogue.rows1A),
  (0x1C, Catalogue.rows1C),
  (0x20, Catalogue.rows20),
  (0x22, Catalogue.rows22),
  (0x24, Catalogue.rows24),
  (0x28, Catalogue.rows28),
  (0x30, Catalogue.rows30),
  (0x31, Catalogue.rows31),
  (0x32, Catalogue.rows32),
  (0x33, Catalogue.rows33),
  (0x34, Catalogue.rows34),
  (0x35, Catalogue.rows35),
  (0x38, Catalogue.rows38),
  (0x3C, Catalogue.rows3C),
  (0x3E, Catalogue.rows3E),
  (0x40, Catalogue.rows40)]

/-- The row of a PID, if the PID exists (R485). -/
def Catalogue.row? (pid : Nat) : Option Row :=
  match Catalogue.groups.lookup (pid / 256) with
  | some rs => rs[pid % 256]?
  | none => none

/-- The width of a PID's value in bits; 0 where there is no such PID. -/
def Catalogue.width (pid : Nat) : Nat := ((Catalogue.row? pid).map (fun r => 8 * r.ty.size)).getD 0

/-- Whether a port is a 100 Gb/s port: the last two of each port group (R19). -/
def isFastPort (p : Nat) : Bool := decide (16 ≤ p % 18)

/-- The DSCP-to-class map in which the class of DSCP d is d / 8, in [3d+2:3d] (default of PID 101Ch). -/
def Catalogue.dscpDefault : Nat :=
  (List.range 64).foldl (fun a d => a + (d / 8) * 8 ^ d) 0

/-- The default of an instance (R503 for a "—"). -/
def Catalogue.dflt (pid inst : Nat) : Nat :=
  match Catalogue.row? pid with
  | none => 0
  | some r =>
    match r.dflt with
    | .zero => 0
    | .const v => v
    | .byInst =>
      match pid with
      | 0x0006 => if inst % 2 = 0 then 0x02040100 else 0
      | 0x0009 => if inst % 2 = 0 then 1 else 0
      | 0x0801 => if isFastPort inst then 2 else 0
      | 0x0802 => if isFastPort inst then 3 else 2
      | 0x0806 => if isFastPort inst then 2 else 0
      | 0x0810 => inst % 18
      | 0x1000 => ((Catalogue.factoryGraph[inst]?).getD 0)
      | 0x101C => Catalogue.dscpDefault
      | 0x1421 => inst
      | 0x1425 => inst
      | 0x1804 => inst / 16
      | 0x182D => if inst % 3 = 0 then 0 else if inst % 3 = 1 then 0x400000 else 0x1400000
      | 0x3801 => min (inst % 16) 4
      | 0x2000 => if inst < 1184 then (inst / 8) * 2 ^ 24 + (inst % 8) * 2 ^ 16 + 0x8000 else 0xFF000000
      | 0x2015 => if inst = 2 then 100000 else 20000
      | _ => 0

end Sys2Proof.Machine
end

