-- ==== Sys2Proof/Machine/Tab.lean ====
section
/-! DEFINITION. Sparse tables: a list of (key, value) pairs with strictly rising keys. A key that is not listed reads as the
default the reader names. -/

namespace Sys2Proof.Machine

/-- A sparse table with rising keys. -/
abbrev Tab (α : Type) := List (Nat × α)

namespace Tab
variable {α : Type}

/-- The value listed under a key. -/
def find? : Tab α → Nat → Option α
  | [], _ => none
  | (k, v) :: t, x => if x = k then some v else find? t x

/-- The value under a key, or the default. -/
def get (d : α) (t : Tab α) (x : Nat) : α := (find? t x).getD d

/-- The table with a key listed, in its place. -/
def set : Tab α → Nat → α → Tab α
  | [], x, v => [(x, v)]
  | (k, w) :: t, x, v =>
    if x < k then (x, v) :: (k, w) :: t
    else if x = k then (x, v) :: t
    else (k, w) :: set t x v

/-- The table with a key no longer listed. -/
def del (t : Tab α) (x : Nat) : Tab α := t.filter (fun e => e.1 != x)

/-- The table with a function applied to the value under a key. -/
def upd (d : α) (t : Tab α) (x : Nat) (f : α → α) : Tab α := set t x (f (get d t x))

/-- Strictly rising keys. -/
def rising : Tab α → Bool
  | [] => true
  | [_] => true
  | (k, _) :: (k', v') :: t => decide (k < k') && rising ((k', v') :: t)

/-- The first entry that satisfies a test. -/
def search (f : Nat × α → Bool) (t : Tab α) : Option (Nat × α) := List.find? f t

/-- The keys listed. -/
def keys (t : Tab α) : List Nat := t.map Prod.fst

/-- The values listed. -/
def vals (t : Tab α) : List α := t.map Prod.snd

/-- The first key from `n` down to 0, counted from `lo`, that is not listed. -/
def firstFree (t : Tab α) (lo : Nat) : Nat → Option Nat
  | 0 => none
  | n + 1 => if (find? t lo).isNone then some lo else firstFree t (lo + 1) n

end Tab

/-- Adds an element at the end, dropping from the front what passes `n`. -/
def pushRing {α : Type} (n : Nat) (l : List α) (x : α) : List α :=
  let l' := l ++ [x]
  l'.drop (l'.length - n)

end Sys2Proof.Machine
end

