-- ==== Sys2Proof/Machine/State.lean ====
section
/-! DEFINITION. The state of the module as plain data: its parameters in one sparse register file, what each part holds
beside them, and the queue of waiting commands. -/

namespace Sys2Proof.Machine

/-- One entry of the sticky fault record (17 R517). -/
structure FaultEntry where
  set : Bool
  dtInvalid : Bool
  saturated : Bool
  restored : Bool
  count : Nat
  inst : Nat
  /-- DT of the first occurrence, as the 14-byte value of R365 -/
  dt : Nat
  deriving DecidableEq, Repr

/-- A clear entry. -/
def FaultEntry.clear : FaultEntry := ⟨false, false, false, false, 0, 0, 0⟩

/-- The timebase triple (12 R366): `baseDT` in units of 2^-16 ns. -/
structure Triple where
  baseRC : Nat
  baseDT : Int
  rho : Int
  deriving DecidableEq, Repr

/-- A frame sent on an external port, or on a pin of the module. -/
structure TxFrame where
  port : Nat
  /-- the frame without its FCS -/
  bytes : List Byte
  /-- ended with an inverted FCS (08 R268) -/
  stomped : Bool
  /-- the FCS appended -/
  fcs : List Byte
  rc : Nat
  deriving DecidableEq, Repr

/-- A frame in reception or in ingress staging (04 R100 to R123). -/
structure RxFrame where
  bytes : List Byte
  /-- arrival RC and fraction of the ingress timestamp (R122, 12 R373) -/
  rc : Nat
  frac : Nat
  /-- EtherType 8808h: consumed by the MAC (R103) -/
  macControl : Bool
  /-- discarded by steering (R112, R113) or by the limiter (R114) -/
  drop : Bool
  /-- controller path (R113) -/
  ctl : Bool
  icls : Nat
  /-- marked colour (R118): 0 green, 1 yellow, 2 red -/
  colour : Nat
  /-- the policer that polices it (R563), instance 2,048 g + k -/
  policer : Option Nat
  /-- sequence number once replication has started (R123) -/
  seq : Option Nat
  /-- planes it was replicated to (R124) -/
  planes : List Nat
  /-- FRER word (11 R355), bit 31 not held: present where it is `some` -/
  frer : Option Nat
  /-- marked without an R-TAG by recovery identification (11 R355) -/
  tagless : Bool
  /-- transit time correction applies, and the correctionField was saturated on arrival (12 R387) -/
  tc : Bool
  tcSat : Bool
  deriving DecidableEq, Repr

/-- The speed-stepping state of a port beyond PIDs 083Fh to 0841h (04 R125 to R128). -/
structure Stepping where
  exchange : Nat
  attempts : Nat
  /-- the request outstanding: 0 none, 1 step-down, 2 step-up -/
  asked : Nat
  /-- the speed being stepped to: 1 10 Gb/s, 0 25 Gb/s (coded as PID 0801h) -/
  target : Nat
  /-- RC of the last request (R126) -/
  since : Nat
  deriving DecidableEq, Repr

/-- Why a laser swap runs or waits (04 R97). -/
inductive SwapCause where
  | wearOut | loss | request
  deriving DecidableEq, Repr

/-- What a port holds beyond its parameters (04). -/
structure Port where
  rx : Option RxFrame
  /-- port-level pause until this RC (R105, R106) -/
  pauseUntil : Option Nat
  /-- per priority: paused until (R107) -/
  pfcUntil : Tab Nat
  /-- per priority: paused without a break since (R109) -/
  pfcSince : Tab Nat
  /-- per priority: received PFC ignored since (R109) -/
  pfcIgnore : Tab Nat
  /-- priorities, and 8 for a port-level PAUSE, for which XOFF is in force, with the RC it was last sent (R110) -/
  xoff : Tab Nat
  /-- a swap in its hit, with its start RC (R98) -/
  swapHit : Option Nat
  /-- a swap waiting for a warm spare (R99) -/
  swapWait : Option SwapCause
  step : Stepping
  /-- RC from which the step-down dwell counts (R126) -/
  dwellSince : Nat
  /-- the transmitter is trained and the laser lit (R562) -/
  training : Bool
  /-- received bits: the 1 ms window last received in, its bits, and the bits of the window before it (R126, R127) -/
  rxWin : Nat
  rxBits : Nat
  rxPrev : Nat
  /-- frames of which one plane's copy was discarded at the hold limit (R128, R129): (ingress port, sequence) -/
  holdDrops : List (Nat × Nat)
  /-- the frame in transmission when the port left service, which completes (R93) -/
  finishing : Option (Nat × Nat)
  deriving DecidableEq, Repr

/-- A port as delivered. -/
def Port.init : Port := ⟨none, none, [], [], [], [], none, none, ⟨0, 0, 0, 0, 0⟩, 0, false, 0, 0, 0, [], none⟩

/-- The token state of a policer (04 R118), in 1/256 byte. -/
structure Policer where
  tc : Nat
  tp : Nat
  lastRC : Nat
  /-- both buckets full: not charged yet, or filled (R131, R134) -/
  full : Bool
  /-- its state was lost to a memory error (R134, PID 0A1Ch) -/
  lost : Bool
  deriving DecidableEq, Repr

/-- What a port group holds beyond its parameters. -/
structure PortGroup where
  /-- controller-path limiter: tokens in 1/400,000,000 frame and the RC they were counted at (R114) -/
  ctlTokens : Nat
  ctlRC : Nat
  ctlInit : Bool
  /-- policers that have been charged, by number (R118) -/
  policers : Tab Policer
  /-- ingress fraction FIFO (12 R374): (port, sequence, fraction) -/
  fractions : List (Nat × Nat × Nat)
  deriving DecidableEq, Repr

/-- A port group just powered. -/
def PortGroup.init : PortGroup := ⟨0, 0, false, [], []⟩

/-- A course that has closed and not yet settled (09 R278, R291): its number, the record it was opened with, its open and close
RCs, and its settled instant (DT units) with the RC computed for it. -/
structure ClosedCourse where
  course : Nat
  record : Nat
  openRC : Nat
  closeRC : Nat
  settledAt : Int
  settledRC : Nat
  deriving DecidableEq, Repr

/-- A course bank (09 R275): cycle length, phase and lend lead in ns, and the course records in use. -/
structure CourseBank where
  cycle : Nat
  phase : Nat
  lead : Nat
  records : List Nat
  deriving DecidableEq, Repr

/-- A port's coursing calendar beyond PIDs 1C07h to 1C13h (09). -/
structure CoursePort where
  /-- a live bank with a course is in force, and edges are computed -/
  armed : Bool
  /-- the next course to open, with its open instant in DT units (09 R278) -/
  next : Nat
  openAt : Int
  /-- RC of that course's horizon, or of its open edge once `opens` (R279) -/
  edge : Nat
  opens : Bool
  /-- open instant, open RC and close RC of the course in phase 2 (R280) -/
  nowAt : Int
  openRC : Nat
  closeRC : Nat
  /-- closed courses up to their settled edge -/
  old : List ClosedCourse
  /-- RC at which a requested swap takes effect (R291), and the shadow bank as it stood at the request -/
  swapRC : Option Nat
  swapBank : CourseBank
  deriving DecidableEq, Repr

/-- No course yet. -/
def CoursePort.init : CoursePort := ⟨false, 0, 0, 0, false, 0, 0, 0, [], none, ⟨0, 0, 0, []⟩⟩

/-- What a plane's coursing and scheduler hold (09, 10). -/
structure PlaneSched where
  /-- outstanding shortfall x_c by 64 × port + course (09 R284) -/
  short : Tab Nat
  /-- DWRR deficits in bytes (10 R304), by element: 0 queue, 1 subscriber, 2 service, 3 class, in key kind × 2^20 + index -/
  deficit : Tab Int
  /-- the element each parent serves now (10 R304) -/
  current : Tab Nat
  /-- shaper tokens in 10^-6 byte (10 R307), by element as above and 4 port -/
  tokens : Tab Int
  /-- rates and bursts in force since the last refill (10 R308) -/
  rates : Tab (Nat × Nat)
  /-- last reported FIFO free space of each port and the bytes started since (11 R336) -/
  credit : Tab (Nat × Nat)
  /-- end of the line time of the copy last started on an output (10 R305) -/
  lineEnd : Tab Nat
  deriving DecidableEq, Repr

/-- Nothing scheduled. -/
def PlaneSched.init : PlaneSched := ⟨[], [], [], [], [], [], []⟩

/-- The state of a version slot (05 R160). -/
inductive SlotState where
  | free | loading | armed | active | draining
  deriving DecidableEq, Repr

/-- A version slot V0 to V3 (05 R155 to R165). `image` lists the bundle-class values that differ from the factory default. -/
structure Slot where
  state : SlotState
  /-- activation RC as the active controller records it, and as each plane holds it (R166) -/
  actRC : Nat
  actA : Nat
  actB : Nat
  token : Nat
  /-- RC of the successor's activation, from which settling and stalling are counted (R160, R162) -/
  succRC : Nat
  /-- its instant as converted (R156), and the changes it was committed with -/
  instant : Int
  bundle : Tab Nat
  image : Tab Nat
  /-- how often the slot has been freed: the use to which a frame in flight belongs (R162) -/
  gen : Nat
  deriving DecidableEq, Repr

/-- A slot before its first use. -/
def Slot.init : Slot := ⟨.free, 0, 0, 0, 0, 0, 0, [], [], 0⟩

/-- A slot freed (R160): it begins another use. -/
def Slot.freed (x : Slot) : Slot := { Slot.init with gen := x.gen + 1 }

/-- A frame as a plane holds it: the bytes received so far, the stamp and ingress word (04 R122), and what
classification has made of it (05 R145). -/
structure Frame where
  port : Nat
  seq : Nat
  rc : Nat
  frac : Nat
  bytes : List Byte
  /-- the frame's end has been received -/
  ended : Bool
  /-- ingress word bit 6: FCS error or oversize (R101) -/
  bad : Bool
  oversize : Bool
  icls : Nat
  colour : Nat
  ctl : Bool
  /-- FRER word (11 R355) and the tagless mark -/
  frer : Option Nat
  tagless : Bool
  /-- pipeline, from the ingress port group, or named by an injection (15 R479) -/
  pipe : Nat
  bed : Nat
  second : Bool
  /-- resume length and VRF of a recirculating route lookup (06 R194) -/
  resume : Option Nat
  routeVrf : Nat
  /-- result of the label entry, carried with the frame (06 R178) -/
  label : Option Nat
  /-- frame resolved by the controller: transmit-header mode, port and queue (15 R479) -/
  inject : Option (Nat × Nat × Nat)
  /-- transit time correction applies; the correctionField was saturated on arrival (12 R387) -/
  tc : Bool
  tcSat : Bool
  moduleFrame : Bool
  oneStep : Bool
  departure : Bool
  /-- the stage that set a controller flag, and the reason of R478 -/
  stage : Nat
  reason : Nat
  /-- byte offset of the IP header from which the parser took DSCP and ECN -/
  ipOff : Option Nat
  /-- planes the frame was replicated to: one only makes a sole copy -/
  sole : Bool
  /-- the CRC-32C of the stamp (04 R122), formed at the frame's end -/
  stampCrc : Nat
  /-- the use of its version slot under which it was classified (R162) -/
  verGen : Nat
  deriving DecidableEq, Repr

/-- A tile's link-memory entry (07 R220). -/
structure Tile where
  next : Nat
  last : Bool
  code : Nat
  deriving DecidableEq, Repr

/-- The descriptor of a stored frame (07 R221). -/
structure Desc where
  frame : Frame
  gen : Nat
  count : Nat
  tail : Nat
  holders : Nat
  refs : Nat
  tenant : Nat
  group : Nat
  course : Option Nat
  kport : Nat
  xsub : Nat
  /-- the chain of pools chosen at the first tile (R229): codes in order -/
  chain : List Nat
  /-- physical rewrite entry (06 R200); 0 none -/
  rewrite : Nat
  /-- the header code (11 R328) -/
  headerCode : Nat
  deriving DecidableEq, Repr

/-- A copy in a queue (08 R248, R260). -/
structure Copy where
  head : Nat
  gen : Nat
  port : Nat
  queue : Nat
  cls : Nat
  rc : Nat
  deadline : Option Nat
  cut : Bool
  ecn : Bool
  /-- a copy of a bad frame, discarded at the head of its queue (R249, R267) -/
  bad : Bool
  /-- counted as held by length at its class's gate (10 R315, R322) -/
  gateHeld : Bool := false
  deriving DecidableEq, Repr

/-- A copy committed to or in transmission on a scheduler port (10 R303, R305; 11 R336). -/
structure Sending where
  copy : Copy
  started : Bool
  startRC : Nat
  /-- the elements charged and the length charged, for the correction of R304 -/
  path : List Nat
  charged : Nat
  /-- its bytes are counted (false for a cut-through copy until its length is known) -/
  counted : Bool
  /-- the bit rate it is paced at, Mb/s, taken at its start (10 R305, R321) -/
  rate : Nat := 0
  deriving DecidableEq, Repr

/-- What a bond unit, or a controller's receive interface, makes of a copy at its head (11 R332, R337). -/
inductive Role where
  /-- its head has not arrived yet -/
  | waiting
  | discarded
  /-- sent as first or sole copy, or late -/
  | lead
  | replacement
  | twin
  deriving DecidableEq, Repr

/-- A copy on its way from a plane to a bond unit or to a controller's receive interface (11 R327, 15 R477). -/
structure LinkCopy where
  frame : Frame
  /-- the bytes that leave the plane, without FCS, after rewrite and marking; complete once `status` is given -/
  bytes : List Byte
  cls : Nat
  queue : Nat
  /-- the length of the head word: 0 when not yet known -/
  headLen : Nat
  /-- the header status of the head word (11 R328) -/
  headerOk : Bool
  /-- end status of R329 -/
  status : Option Nat
  /-- the digest of R330, complete with `status` -/
  digest : Nat
  /-- what the bond unit made of its head (11 R332) -/
  role : Role
  deriving DecidableEq, Repr

/-- An entry of the exact-match store (06 R174 to R177), listed under the slot of its first half. -/
structure Entry where
  ktype : Nat
  tenant : Nat
  key : Nat
  result : Nat
  static : Bool
  learned : Bool
  frozen : Bool
  activity : Bool
  gen : Nat
  /-- RCs of the station moves of the last second (R188) -/
  moves : List Nat
  frozenUntil : Nat
  deriving DecidableEq, Repr

/-- A learn request (06 R185). -/
structure LearnReq where
  tenant : Nat
  fid : Nat
  mac : Nat
  port : Nat
  seq : Nat
  ready : Bool
  deriving DecidableEq, Repr

/-- The pool counts of a plane (07 R227 to R229), in tiles. -/
structure Pools where
  g : Tab Nat
  t : Tab Nat
  s : Nat
  /-- S use by tenant, codes 2 and 3 -/
  st : Tab Nat
  loan : Nat
  /-- K by 64 × port + course -/
  k : Tab Nat
  /-- X by sub-pool: 0 recirculation, 1 controller-bound, 2 controller-originated -/
  x : Tab Nat
  /-- H and the occupancy of R226, by 8 × ingress port + ingress class -/
  h : Tab Nat
  occ : Tab Nat
  o : Nat
  deriving DecidableEq, Repr

/-- Empty pools. -/
def Pools.init : Pools := ⟨[], [], 0, [], 0, [], [], [], [], 0⟩

/-- A scrub in progress (07 R238). -/
structure Scrub where
  running : Bool
  queued : Bool
  /-- RC at which the last scrub ended, and at which the last one began -/
  lastEnd : Nat
  since : Nat
  /-- tiles neither free nor cached at sweep start, less those walked or freed since -/
  suspects : List Nat
  deriving DecidableEq, Repr

/-- Pipelines that ask in one buffer clock for more tiles of a pool than it has room for (07 R233): those that ask with the command
under way, and after a contended grant its RC, its pool and the pipelines refused whose commands are still to come. -/
structure Contest where
  rivals : Nat
  rc : Nat
  pool : Nat
  refused : List Nat
  deriving DecidableEq, Repr

/-- No pipeline asks. -/
def Contest.init : Contest := ⟨0, 0, 0, []⟩

/-- What a plane holds beyond its parameters (05 to 10). -/
structure Plane where
  /-- replicated frames that wait for their pipeline, oldest first (04 R123, 08 R251) -/
  ingress : List Frame
  /-- recirculated copies that wait for their pipeline (05 R145) -/
  recirc : List Frame
  /-- frames past S7 whose length is still to be counted (05 R168): (port, sequence, counter index) -/
  counting : List (Nat × Nat × Nat)
  /-- rules made non-matching by a memory error, with the RC of their rewriting (05 R154) -/
  badRules : Tab (Option Nat)
  /-- the entry that the age scan deleted last, with the RC (R190) -/
  aged : Option (Nat × Entry)
  store : Tab Entry
  learnQ : List LearnReq
  /-- learn filter (06 R187): (pipeline × 2^80 + tenant, FID and MAC) to last request RC -/
  learnFilter : Tab Nat
  /-- start of the sweep that last tested a tenant, and of the current sweep (06 R189) -/
  tested : Tab Nat
  sweepStart : Nat
  sweepTests : List Nat
  /-- crossed lists of the sessions' iterations (06 R210) -/
  crossed : Tab (List Entry)
  /-- slow-path bucket: tokens in 1/400,000,000 frame, and RC of the count (06 R195) -/
  slowTokens : Nat
  slowRC : Nat
  slowInit : Bool
  desc : Tab Desc
  tiles : Tab Tile
  /-- tiles not free in the free map, rising -/
  taken : List Nat
  caches : Tab (List Nat)
  /-- tiles whose quarantine flag is set, and those of them in the quarantine set (07 R220, R235) -/
  flagged : List Nat
  quar : List Nat
  gens : Tab Nat
  pools : Pools
  scrub : Scrub
  contest : Contest
  /-- the cache that the free map serves next (07 R225) -/
  refillNext : Nat
  queues : Tab (List Copy)
  sending : Tab Sending
  /-- copies under way, oldest first, by scheduler port -/
  links : Tab (List LinkCopy)
  sched : PlaneSched
  deriving DecidableEq, Repr

/-- A plane just powered, its caches filled from the free map (07 R224, R225). -/
def Plane.init : Plane where
  ingress := []
  recirc := []
  counting := []
  badRules := []
  aged := none
  store := []
  learnQ := []
  learnFilter := []
  tested := []
  sweepStart := 0
  sweepTests := []
  crossed := []
  slowTokens := 0
  slowRC := 0
  slowInit := false
  desc := []
  tiles := []
  taken := List.range 256
  caches := (List.range 8).map (fun n => (n, (List.range 32).map (fun k => 32 * n + k)))
  flagged := []
  quar := []
  gens := []
  pools := Pools.init
  scrub := ⟨false, false, 0, 0, []⟩
  contest := Contest.init
  refillNext := 0
  queues := []
  sending := []
  links := []
  sched := PlaneSched.init

/-- The timebase (12 R364 to R372). -/
structure Time where
  /-- RC counts: domain K, or the local copies on their fallback oscillators (R372) -/
  running : Bool
  triple : Triple
  /-- the pending triple and its switch RC, and the one that waits behind it (R368) -/
  next : Option (Triple × Nat)
  queued : Option (Triple × Nat)
  /-- local copies: offset from RC, by copy 0 to 9 (R370) -/
  copies : Tab Int
  deriving DecidableEq, Repr

/-- The timebase when domain K is powered (R364, R369). -/
def Time.init : Time := ⟨false, ⟨0, 0, 0⟩, none, none, []⟩

/-- The state of a bond window entry (11 R332). -/
inductive BondState where
  | sending | good | bad | replace | wait
  deriving DecidableEq, Repr

/-- A window entry of a bond unit (11 R331, R332). -/
structure BondEntry where
  port : Nat
  seq : Nat
  arrival : Nat
  created : Nat
  state : BondState
  /-- plane of the copy sent first -/
  first : Nat
  /-- a bit per plane a copy of which has been seen -/
  seen : Nat
  /-- a copy was sent, and a copy was rejected by the FIFO (R335) -/
  sent : Bool
  rejected : Bool
  /-- digest of the first copy once it ended good (R330) -/
  digest : Nat
  /-- a twin has come; it is held in the FIFO -/
  twin : Bool
  held : Bool
  /-- the end status and digest of the twin, where it ended before the first copy -/
  twinEnd : Option (Nat × Nat)
  /-- recovery discarded the first copy (R357) -/
  eaten : Bool
  deriving DecidableEq, Repr

/-- A copy passed to the egress FIFO, in order (11 R335). -/
structure FifoItem where
  frame : Frame
  plane : Nat
  /-- bytes reserved -/
  room : Nat
  /-- departure RC and fraction of its first byte (12 R375) -/
  te : Nat
  fe : Nat
  bytes : List Byte
  status : Option Nat
  /-- a twin held until the first copy's end is known (R332) -/
  held : Bool
  deriving DecidableEq, Repr

/-- A bond unit (11 R327 to R337). -/
structure Bond where
  /-- oldest first -/
  window : List BondEntry
  /-- retired keys, oldest first: (ingress port, sequence, arrival RC, sent) -/
  retired : List (Nat × Nat × Nat × Bool)
  fifo : List FifoItem
  /-- RC at which the transmit MAC has sent the last frame that left the FIFO -/
  busyUntil : Nat
  deriving DecidableEq, Repr

/-- An idle bond unit. -/
def Bond.init : Bond := ⟨[], [], [], 0⟩

/-- A recovery function (11 R357): absent while reset. -/
structure Recovery where
  last : Nat
  /-- bit d set: sequence last - d accepted -/
  history : Nat
  /-- RC of the last acceptance -/
  accepted : Nat
  deriving DecidableEq, Repr

/-- A departure record (12 R375), or a message about to leave one. -/
structure Departure where
  msg : Nat
  domain : Nat
  seqId : Nat
  rc : Nat
  frac : Nat
  deriving DecidableEq, Repr

/-- A count in RC-aligned windows (11 R339): the window last counted in, its count, and that of the window before it. -/
structure WinCount where
  win : Nat
  now : Nat
  prev : Nat
  deriving DecidableEq, Repr

/-- What the controller counts in the RC-aligned windows of R339 and R340. -/
structure Judge where
  /-- integrity failures by plane, and divergences, in a 1 s window -/
  integ : Tab WinCount
  div : WinCount
  /-- copies delivered by plane in a 1 ms window, and by 144 × plane + port in a 10 ms window -/
  copies : Tab WinCount
  byPort : Tab WinCount
  /-- by plane: the 10 ms window judged last, plus 1, and the consecutive windows with an absence up to it -/
  absent : Tab (Nat × Nat)
  /-- the cause withheld from plane A (R339) -/
  withheld : Option Nat
  /-- instants (clk) of the judgements of the last 24 h, by plane (R342) -/
  judged : Tab (List Nat)
  /-- clk of a plane's last completed reseed (R340) -/
  reseeded : Tab Nat
  deriving DecidableEq, Repr

/-- Nothing counted. -/
def Judge.init : Judge := ⟨[], ⟨0, 0, 0⟩, [], [], [], none, [], []⟩

/-- A message of the mailbox (14 R441), its fragments joined (R443). -/
structure Msg where
  ctl : Nat
  flags : Nat
  session : Nat
  tag : Nat
  op : Nat
  status : Nat
  pid : Nat
  inst : Nat
  payload : List Byte
  deriving DecidableEq, Repr

/-- A request outstanding on a session (14 R446). -/
structure Request where
  tag : Nat
  op : Nat
  pid : Nat
  inst : Nat
  data : List Byte
  fence : Bool
  /-- the fragment received last carries bit 5 (R443) -/
  last : Bool
  /-- the flash writes that the request needs succeed (16 R499) -/
  flashOk : Bool
  /-- clk of the last fragment (R447), and the order of issue -/
  since : Nat
  order : Nat
  started : Bool
  accepted : Bool
  pendingSent : Bool
  deriving DecidableEq, Repr

/-- A subscription (14 R451). -/
structure Sub where
  pid : Nat
  inst : Nat
  count : Nat
  mode : Nat
  period : Nat
  minimum : Nat
  seq : Nat
  /-- values last seen, as (status, value) per instance; and the changed instances not yet reported -/
  vals : List (Nat × Nat)
  changed : List Nat
  /-- clk of the last event -/
  lastAt : Nat
  deriving DecidableEq, Repr

/-- Where a session stands in enrolment (14 R436). -/
inductive Enrol where
  /-- no enrolment session -/
  | no
  /-- the code must be its first request -/
  | awaited
  /-- the right code was given -/
  | given
  deriving DecidableEq, Repr

/-- A session of a controller (14 R437). `gen` tells apart the connections that used its number. -/
structure Session where
  isOpen : Bool
  gen : Nat
  role : Nat
  enrol : Enrol
  requests : List Request
  bundle : Option (Tab Nat)
  subs : Tab Sub
  /-- subscription events that wait for the TLS stream (R453) -/
  queue : List Msg
  /-- clk of the last message from the host -/
  heard : Nat
  /-- tags whose later fragments are discarded: their request was answered or discarded before its last fragment (R442) -/
  skip : List Nat
  deriving DecidableEq, Repr

/-- A free session. -/
def Session.init : Session := ⟨false, 0, 0xFF, .no, [], none, [], [], 0, []⟩

/-- The request an operation answers: session 4 × controller + number, its generation and the tag. -/
structure Who where
  key : Nat
  gen : Nat
  tag : Nat
  deriving DecidableEq, Repr

/-- A final answer that is due (14 R446, R454). -/
structure Owed where
  who : Who
  status : Nat
  payload : List Byte
  deriving DecidableEq, Repr

/-- Where a COMMIT comes from (05 R157, R164; 03 R78). -/
inductive Origin where
  | host (w : Who)
  /-- a SET of PIDs 101Dh to 101Fh: the regKey, its value and the request -/
  | single (key value : Nat) (w : Who)
  /-- re-arming after a start -/
  | restored
  /-- taken over at a switchover, its phase 1 acknowledged (05 R163); the regKey and value of a SET of PIDs 101Dh to 101Fh -/
  | taken (one : Option (Nat × Nat))
  deriving DecidableEq, Repr

/-- A COMMIT between phase 1 and phase 2 (05 R157). -/
structure Commit where
  origin : Origin
  slot : Nat
  token : Nat
  bundle : Tab Nat
  /-- requested instant; `none` at the earliest -/
  instant : Option Int
  deriving DecidableEq, Repr

/-- A bundle committed but not yet active, as flash holds it (03 R78): token, activation instant, changes. -/
structure Kept where
  token : Nat
  instant : Int
  bundle : Tab Nat
  deriving DecidableEq, Repr

/-- The last-gasp record (03 R88): its DT, the bypass sense, the age of lock of the holdover model, and the reason: the states of
the two PSUs as PID 011Ch codes them, PSU-A in bits [3:0]. -/
structure Gasp where
  dt : Nat
  closed : Bool
  model : Nat
  reason : Nat
  deriving DecidableEq, Repr

/-- What a controller keeps in its flash (03 R77, R78; 14 R436; 17 R520; 12 R401). -/
structure Flash where
  /-- the fallback record: stored values that differ from their defaults, its generation, and whether its CRC is good -/
  stored : Tab Nat
  gen : Nat
  good : Bool
  anchors : Tab Nat
  /-- the last activated bundle state, and the bundles committed but not active -/
  active : Tab Nat
  kept : List Kept
  faults : Tab FaultEntry
  faultGen : Nat
  faultGood : Bool
  /-- the holdover model: its age of lock in s when last stored -/
  model : Nat
  /-- the last DT written (14 R434) -/
  lastDT : Nat
  /-- the last-gasp record (03 R88) -/
  gasp : Option Gasp
  deriving DecidableEq, Repr

/-- Flash as delivered: the factory configuration. -/
def Flash.init : Flash := ⟨[], 0, true, [], [], [], [], 0, true, 0, 0, none⟩

/-- What the start and the shutdown need beyond the parameters (03). -/
structure Power where
  /-- clk at which mains was applied (R64); none while the module is unpowered -/
  mains : Option Nat
  /-- clk at which the last PSU in service stopped (R88) -/
  gasp : Option Nat
  /-- steps of the shutdown table done -/
  shut : Nat
  /-- the fallback configuration has been applied -/
  applied : Bool
  /-- the active controller's fallback record: the values that differ from their defaults, and its generation (R77) -/
  record : Tab Nat
  recordGen : Nat
  /-- power-on self-tests ended: passed or not, by plane -/
  tests : Tab Bool
  /-- the first plane of this start (R69) -/
  first : Nat
  /-- clk of the second plane's power-up, and of the last self-test retry -/
  retryAt : Nat
  /-- case temperature when the kiln began to warm up, 0.1 °C, and clk of that instant (R79) -/
  tc : Int
  warmFrom : Nat
  /-- clk at which the module lost its power, and the ticks it was without power before this start (12 R401) -/
  offAt : Nat
  offFor : Nat
  /-- clk of the last power-on (PID 0015h), and ticks of operation before it (PID 001Ch) -/
  onAt : Nat
  worked : Nat
  /-- domains lost through a regulator fault, which return by themselves (01 R17) -/
  lost : List Nat
  /-- bundles that wait to be re-armed, in the order of their instants (R78) -/
  rearm : List Kept
  deriving DecidableEq, Repr

/-- Unpowered. -/
def Power.init : Power := ⟨none, none, 0, false, [], 0, [], 0, 0, 0, 0, 0, 0, 0, 0, [], []⟩

/-- A domain control operation (03 R83 to R86). -/
structure DomOp where
  /-- 1 down, 2 up, 3 cycle -/
  kind : Nat
  since : Nat
  who : Option Who
  deriving DecidableEq, Repr

/-- A reseed under way (11 R341, R343). -/
structure Reseed where
  plane : Nat
  cause : Nat
  cycle : Bool
  since : Nat
  who : Option Who
  /-- clk at which the copy of the tables began (06 R207), and at which it passes to the store -/
  copyFrom : Nat
  storeFrom : Nat
  deriving DecidableEq, Repr

/-- A controller beyond its parameters (11 R344 to R352). -/
structure Ctl where
  /-- its heartbeat runs, and clk of the last pulse otherwise -/
  beats : Bool
  lastPulse : Nat
  /-- clk from which a refused token request is held -/
  asking : Option Nat
  /-- isolated once without having seen its peer since (R347) -/
  lone : Bool
  /-- clk of leaving boot ROM -/
  bootAt : Nat
  /-- both controllers restarted together, and it has not booted since (17 R506) -/
  cold : Bool
  deriving DecidableEq, Repr

/-- An unpowered controller. -/
def Ctl.init : Ctl := ⟨false, 0, none, false, 0, true⟩

/-- A role swap under way (11 R352). -/
structure Swap where
  cause : Nat
  since : Nat
  who : Option Who
  deriving DecidableEq, Repr

/-- Firmware staging and activation (14 R459, R460). -/
structure Firmware where
  /-- the image collected so far, and the request that carries it -/
  image : List Byte
  stager : Option Who
  /-- the staged header, and its SHA-256 of the body -/
  header : List Byte
  /-- activation: step 1 to 4 of R460 (0 none), the requester, clk of its start and of the step's -/
  step : Nat
  who : Option Who
  since : Nat
  stepAt : Nat
  standby : Nat
  /-- the data-path identifier of the running image (R458) -/
  dataPath : Nat
  deriving DecidableEq, Repr

/-- No firmware operation. -/
def Firmware.init : Firmware := ⟨[], none, [], 0, none, 0, 0, 0, 0⟩

/-- A flush of learned entries (06 R211). -/
structure Flush where
  who : Who
  port : Nat
  flags : Nat
  fid : Nat
  tenant : Nat
  deriving DecidableEq, Repr

/-- A bulk load (06 R212). -/
structure Bulk where
  who : Who
  /-- bytes of a record split over two fragments -/
  rest : List Byte
  done : Nat
  failed : Nat
  firstBad : Nat
  index : Nat
  finished : Bool
  deriving DecidableEq, Repr

/-- A counter snapshot that waits for its RC (17 R508). -/
structure Snap where
  rc : Nat
  /-- PID 3C2Dh clears every counter -/
  pid : Nat
  inst : Nat
  count : Nat
  clear : Bool
  who : Who
  deriving DecidableEq, Repr

/-- An entry of the bypass-sense history latch (02 R53). -/
structure LatchEntry where
  closed : Bool
  second : Nat
  invalid : Bool
  read : Bool
  deriving DecidableEq, Repr

/-- The power bay's bypass sense and its history latch (02 R51, R53). -/
structure Latch where
  /-- the bypass sense reports closed -/
  closed : Bool
  /-- the latch has power: a live channel or its backup store -/
  on : Bool
  /-- its seconds clock, and the clk at which it was set or stopped last -/
  second : Nat
  since : Nat
  /-- set since the last start -/
  valid : Bool
  /-- at most 32, oldest first -/
  ring : List LatchEntry
  overflow : Bool
  /-- clk from which no channel is live, and the backup store carries the latch -/
  dark : Option Nat
  deriving DecidableEq, Repr

/-- The bay as delivered: the cartridge seated, no channel live. -/
def Latch.init : Latch := ⟨false, false, 0, 0, false, [], false, none⟩


/-- The servo, its sources and its model beyond their parameters (12 R376 to R382, R400, R401). Sources: 1 GNSS, 2 PTP,
3 PPS input. -/
structure Servo where
  /-- by source: the offset measured last and not used yet, DT less the source's time, in 2^-16 ns -/
  offsets : Tab Int
  /-- clk since which every measurement has been within the lock threshold -/
  under : Option Nat
  /-- consecutive updates above the loss threshold -/
  excess : Nat
  /-- sources qualified, and by source the clk until which one disqualified is barred -/
  good : List Nat
  bar : Tab Nat
  /-- holdover: clk of its entry and of the last update, the source before it, and the limit passed -/
  since : Nat
  heldAt : Nat
  before : Nat
  beyond : Bool
  /-- clk of lock, ticks of lock counted before it, and clk at which lock was lost -/
  locked : Option Nat
  lockTicks : Nat
  lostAt : Nat
  /-- clk since which it has been neither locked nor in holdover, and whether fault bit 129 has been raised for that (08 R273) -/
  idleSince : Nat
  timeless : Bool
  /-- clk of the last model store -/
  storedAt : Nat
  /-- UTC day at whose end the pending leap second falls -/
  leapDay : Int
  /-- TAI−UTC offsets as the GNSS receiver and the parent give them -/
  utcGnss : Option Nat
  utcPtp : Option Nat
  deriving DecidableEq, Repr

/-- A servo in free-run. -/
def Servo.init : Servo := ⟨[], none, 0, [], [], 0, 0, 0, false, none, 0, 0, 0, false, 0, 0, none, none⟩

/-- The GNSS receiver and the plumb check (02 R57; 12 R396 to R399). -/
structure Gnss where
  /-- clk since which the receiver criteria of R378 hold -/
  since : Option Nat
  ppsAt : Nat
  surveySince : Option Nat
  /-- the surveyed position is held -/
  placed : Bool
  /-- clk at which the antenna bias was switched off -/
  biasOff : Option Nat
  /-- the plumb lines, 0 short and 1 long: clk of the anchor, and clk since which GNSS passes it -/
  lines : Tab (Nat × Nat)
  /-- disqualified by the plumb check, and clk since which both lines pass -/
  out : Bool
  passSince : Option Nat
  deriving DecidableEq, Repr

/-- A receiver just powered. -/
def Gnss.init : Gnss := ⟨none, 0, none, false, none, [], false, none⟩

/-- A foreign master and the data of its last Announce (12 R385), with the clk of that and of the one before. -/
structure Foreign where
  cls : Nat
  accuracy : Nat
  variance : Nat
  prio2 : Nat
  gm : Nat
  steps : Nat
  sender : Nat
  flags : Nat
  utc : Nat
  heard : Nat
  before : Option Nat
  deriving DecidableEq, Repr

/-- A peer of unicast PTP: its MAC address, and its address type and address as PID 311Eh spells them. -/
structure Peer where
  mac : Nat
  ty : Nat
  addr : Nat
  deriving DecidableEq, Repr

/-- A unicast grant (12 R383): peer, message type, log interval as s8, clk of its end and of the last message sent. -/
structure Grant where
  peer : Peer
  msg : Nat
  interval : Nat
  ends : Nat
  sentAt : Nat
  deriving DecidableEq, Repr

/-- What a PTP port holds beyond its parameters (12 R385). -/
structure PtpPort where
  foreign : List Foreign
  /-- clk from which the Announce receipt timeout runs -/
  heard : Nat
  /-- a two-step Sync that waits for its Follow_Up: sequence, t2, correction -/
  sync : Option (Nat × Int × Int)
  /-- t2 - t1 of the last Sync -/
  forth : Option Int
  /-- the outstanding Delay_Req: sequence, and t3 once it has left -/
  req : Option (Nat × Option Int)
  /-- mean path delay -/
  delay : Option Int
  syncAt : Option Nat
  respAt : Option Nat
  /-- next sequence numbers, by message type -/
  seqs : Tab Nat
  /-- two-step Syncs under way: the unicast peer, or none, by sequence number -/
  under : Tab (Option Peer)
  /-- clk of the last message sent, by message type -/
  sent : Tab Nat
  grants : List Grant
  /-- what unicast masters have granted to this port -/
  masters : List Grant
  deriving DecidableEq, Repr

/-- A port that has heard nothing. -/
def PtpPort.init : PtpPort := ⟨[], 0, none, none, none, none, none, none, [], [], [], [], []⟩

/-- SyncE beyond its parameters (12 R390 to R395). -/
structure Synce where
  /-- clk of the last ESMC PDU, by port -/
  heard : Tab Nat
  /-- clk until which a port waits to restore -/
  wtr : Tab Nat
  /-- the candidates of the last selection -/
  cands : List Nat
  lockedSince : Option Nat
  sentAt : Option Nat
  deriving DecidableEq, Repr

/-- SyncE just started. -/
def Synce.init : Synce := ⟨[], [], [], none, none⟩

/-- Timed outputs, capture inputs and ToD (12 R403 to R407). -/
structure Tio where
  /-- the DT of the last edge of an output, and the earliest DT of the next after a triple switch -/
  lastEdge : Tab Int
  notBefore : Int
  /-- the last pulse of an output: start and end -/
  pulses : Tab (Int × Int)
  /-- the last captured edge of an input in 1/256 tick, and the captures counted -/
  capLast : Tab Nat
  capCount : Tab Nat
  /-- the DT second that ToD TX described last, and the messages sent -/
  todSecond : Int
  todOut : List (List Byte)
  /-- the last rising edge on TI0 in 1/256 tick, whether it came 1 s after the one before, and its clk -/
  edge : Option Nat
  edgeOk : Bool
  edgeAt : Nat
  /-- ToD RX: the second named last, consecutive good seconds, clk of the last message, its clockClass -/
  named : Option Nat
  run : Nat
  todAt : Nat
  todClass : Nat
  deriving DecidableEq, Repr

/-- No edge and no message yet. -/
def Tio.init : Tio := ⟨[], 0, [], [], [], 0, [], none, false, 0, none, 0, 0, 0⟩


/-- A channel of a hod beyond its parameters (15 R466 to R476). -/
structure Channel where
  /-- the current descriptor, its 32 bytes as one number, from its start to its end -/
  cur : Option Nat
  /-- address of the descriptor that a link has named (R468) -/
  link : Option Nat
  /-- the domain whose power-down holds the channel at a boundary (R475) -/
  boundary : Option Nat
  deriving DecidableEq, Repr

/-- An idle channel. -/
def Channel.init : Channel := ⟨none, none, none⟩

/-- A controller buffer that is not free (07 R242 to R244). -/
structure Buffer where
  /-- recorded holder: channel 0 to 15, core 16 to 19; it still holds the buffer, or the buffer is free but for its quarantine -/
  holder : Nat
  held : Bool
  /-- refused a free, and kept from the pool until a scrub -/
  quarantined : Bool
  /-- the 32-byte header and the frame -/
  bytes : List Byte
  /-- the frame as its plane delivered it, for the slow path (06 R195) -/
  frame : Option Frame
  deriving DecidableEq, Repr

/-- A stamp key in the window of a receive interface (15 R477). -/
structure RecvKey where
  port : Nat
  seq : Nat
  arrival : Nat
  created : Nat
  posted : Bool
  deriving DecidableEq, Repr

/-- A controller's receive interface. -/
structure Recv where
  /-- oldest first -/
  window : List RecvKey
  /-- retired keys, oldest first: (ingress port, sequence, arrival RC) -/
  retired : List (Nat × Nat × Nat)
  deriving DecidableEq, Repr

/-- Nothing received. -/
def Recv.init : Recv := ⟨[], []⟩

/-- The core divider's ramp of a plane (13 R421). -/
structure Ramp where
  /-- 0 none, 1 toward the floor's division, 2 toward the full clock for load, 3 up to the floor -/
  dir : Nat
  /-- clk of the last step -/
  stepAt : Nat
  /-- clk since which every load has been below the step-down threshold -/
  below : Option Nat
  /-- clk since which the divider is above 4, and ticks so spent before -/
  slowFrom : Option Nat
  slowTicks : Nat
  deriving DecidableEq, Repr

/-- The full clock. -/
def Ramp.init : Ramp := ⟨0, 0, none, none, 0⟩

/-- The clocks beyond their parameters (13). -/
structure Clocks where
  /-- fault bit 8 has been set for this warm-up -/
  late : Bool
  /-- consecutive comparisons in which an excluded resonator agreed with both others (R416) -/
  agree : Tab Nat
  /-- clk at which a domain went to its fallback oscillator (R420), and at which it was powered (15 R470) -/
  fallbackAt : Tab Nat
  poweredAt : Tab Nat
  ramps : Tab Ramp
  /-- loads of the current 1 ms, by 8 × plane + pipeline: window, frames, measurements -/
  loads : Tab (Nat × Nat × Nat)
  /-- clk of the start of a running measurement, by meter channel (R424) -/
  meters : Tab Nat
  /-- gates asked to close with an access in progress, with the clk of the request (R427) -/
  closing : Tab Nat
  /-- clk of the last uncorrectable error a space reported, by its memory (15 R467, R470) -/
  dataErrors : Tab Nat
  deriving DecidableEq, Repr

/-- Clocks just powered. -/
def Clocks.init : Clocks := ⟨false, [], [], [], [], [], [], [], []⟩


/-- An entry of the cartridge's event log (18 R536). -/
structure LogEntry where
  seq : Nat
  utc : Int
  code : Nat
  chan : Nat
  data : Int
  deriving DecidableEq, Repr

/-- The meter cartridge in the bay (18). -/
structure Cartridge where
  /-- its identity record of 128 bytes (R530) -/
  identity : Nat
  /-- it has its power (R525), and its firmware check has passed -/
  on : Bool
  checked : Bool
  /-- TAI of its clock in ticks, at a clk; the TAI−UTC offset it holds; whether the clock is valid, and the UTC second last saved -/
  tai : Int
  taiAt : Nat
  utcOff : Int
  valid : Bool
  saved : Int
  /-- clk of the last stop -/
  stoppedAt : Nat
  /-- log entries, oldest first, and the next sequence number -/
  log : List LogEntry
  nextLog : Nat
  /-- interval records by channel, bytes 0 to 43, oldest first; next sequence numbers; cumulative registers -/
  records : Tab (List Nat)
  seqs : Tab Nat
  regs : Tab Nat
  /-- start of the open interval in UTC s, its flags, and those of a channel -/
  start : Int
  flags : Nat
  chanFlags : Tab Nat
  /-- peak current by channel in overload, in 0.01 A -/
  overload : Tab Nat
  /-- clk since which the bypass has been partial -/
  partialAt : Option Nat
  /-- clk of the last time message accepted, and messages ignored (R533) -/
  heard : Option Nat
  ignored : Nat
  /-- difference of the last refusal in ticks, and clk of the last event 05h (R534) -/
  refused : Option (Int × Nat)
  /-- clk of a step authorisation that is pending (R535) -/
  auth : Option Nat
  /-- UTC day of the slewing, and ticks slewed in it; the clock is still off -/
  slewDay : Int
  slewed : Int
  slewing : Bool
  /-- messages in a row that announced a leap second -/
  announced : Nat
  deriving DecidableEq, Repr

/-- A cartridge as made: SVN-16D, class 0.5, with nothing recorded, and without power. -/
def Cartridge.init (identity : Nat) : Cartridge :=
  ⟨identity, false, true, 0, 0, 0, false, 0, 0, [], 0, [], [], [], 0, 0, [], [], none, none, 0, none, none, 0, 0, false, 0⟩

/-- The identity of the cartridge delivered with the module: part number and accuracy class. The spec gives no serial number, revision
letter, firmware version and digest, public key, certificate and verification period; they are zero (notes/assumptions/60.md). -/
def deliveredIdentity : Nat := 0x53564E2D313644 * 2 ^ (8 * 121) + 5 * 2 ^ (8 * 94)

/-- What the module keeps of the cartridge beyond its parameters (18 R531 to R542). -/
structure Bay where
  /-- identifier last seen; 0 none -/
  seen : Nat
  /-- next record sequence number to fetch, by channel; next log entry to read -/
  fetched : Tab Nat
  logRead : Nat
  /-- clk of the last discipline message -/
  sentAt : Nat
  /-- clk of the last time the history latch's clock was set -/
  latchSet : Option Nat
  /-- place of the next unmetered-interval record, the one in progress, and those not read yet -/
  next : Nat
  current : Option Nat
  unread : List Nat
  /-- what the optical port has given -/
  optical : List (List Byte)
  deriving DecidableEq, Repr

/-- Nothing seen. -/
def Bay.init : Bay := ⟨0, [], 0, 0, none, 0, none, [], []⟩

/-- The state of the module. -/
structure State where
  /-- the commands that wait, first in, first out -/
  pending : List Instr
  /-- the raw count RC (12 R364) -/
  rc : Nat
  /-- ticks elapsed in all, powered or not: the clock of the bounds counted from mains applied -/
  clk : Nat
  /-- the parameters, by pid × 2^32 + instance; an unlisted one reads as its default -/
  regs : Tab Nat
  faults : Tab FaultEntry
  /-- free values drawn so far -/
  drawn : Nat
  /-- V0 to V3 -/
  slots : Tab Slot
  ports : Tab Port
  groups : Tab PortGroup
  pa : Plane
  pb : Plane
  courses : Tab CoursePort
  /-- join RC of each plane (11 R338) -/
  joins : Tab Nat
  /-- the bond units, by external port -/
  bonds : Tab Bond
  /-- recovery functions that have accepted a sequence (11 R357) -/
  recovery : Tab Recovery
  judge : Judge
  /-- messages that leave a port whose departure record is not yet written (12 R375), by port -/
  leaving : Tab (List Departure)
  /-- RC of a port's pending gate-list change, and of its next gate edge (10 R313, R314) -/
  gateChange : Tab Nat
  gateEdge : Tab Nat
  /-- time held since the last whole microsecond, in ticks, by PID and instance (08 R293, 10 R322) -/
  heldTicks : Tab Nat
  time : Time
  servo : Servo
  gnss : Gnss
  ptp : Tab PtpPort
  /-- departure FIFOs by port (12 R375): records that no controller has read -/
  departures : Tab (List Departure)
  synce : Synce
  tio : Tio
  clocks : Clocks
  /-- the hod's channels, by 16 × controller + channel; controller buffers, by their code in Machine/Channel.lean; receive
  interfaces, by controller -/
  chans : Tab Channel
  bufs : Tab Buffer
  /-- what the hod wrote to the memories of its spaces, by memory × 2^64 + address (15 R467, R469) -/
  hodMem : Tab Byte
  /-- prefetch caches of free buffers (07 R243), by 64 × controller + 4 × channel + pool, where they differ from the first fill -/
  bufCaches : Tab (List Nat)
  recv : Tab Recv
  /-- quiet physical entries with the clk at which they return to the reserve (06 R201): next hops, rewrites -/
  quietNh : Tab Nat
  quietRw : Tab Nat
  /-- content of the physical entries in use or quiet -/
  physNh : Tab Nat
  physRw : Tab Nat
  /-- the hash seed in force (06 R172) -/
  seed : Nat
  /-- the active controller's record of host entries (06 R195, R216): (key type × 16 + tenant) × 2^160 + key, with result
  and static flag -/
  hostTab : Tab (Nat × Bool)
  /-- the length filters in force: an epoch that every change of their content raises (06 R192) -/
  filterEpoch : Nat
  /-- the banks of each length in the length filters: the first one and their number (R192) -/
  banks : Tab (Nat × Nat)
  /-- for the bits set by drops in consecutive windows: by bit × 2^32 + instance, the last window with a drop and the
  number of windows in a row (04 R131, 06 R217, 11 R361, 14 R462, 15 R483) -/
  sustain : Tab (Nat × Nat)
  /-- the sessions, by 4 × controller + number (14 R437) -/
  sessions : Tab Session
  /-- requests received so far, which numbers them in issue order -/
  issued : Nat
  /-- final answers that are due -/
  owed : List Owed
  /-- messages sent by the mailbox, oldest first -/
  out : List Msg
  /-- clk until which no enrolment session is accepted (14 R436), and clk of the authentication failures of the last 60 s (R462) -/
  enrolBar : Nat
  authFails : List Nat
  /-- the COMMIT between its phases (05 R157); the latest committed version and its slot -/
  committing : Option Commit
  latest : Tab Nat
  latestSlot : Nat
  /-- rule entries in use, by physical entry 256 × tile + n: rule and membership mask (05 R157) -/
  ruleAt : Tab (Nat × Nat)
  /-- the flash of C0 and C1 -/
  flash : Tab Flash
  power : Power
  latch : Latch
  cart : Cartridge
  bay : Bay
  domOps : Tab DomOp
  reseed : Option Reseed
  ctls : Tab Ctl
  /-- clk from which the token has been none with both heartbeats absent (11 R348) -/
  silence : Option Nat
  swap : Option Swap
  /-- scheduled role swaps: retries left of the swap that met an interlock, and clk of the last swap (11 R352) -/
  swapTries : Nat
  swapAt : Nat
  /-- UTC day, counted from PID 030Ah's time, of the last scheduled swap -/
  swapDay : Int
  /-- the standby's mirror acknowledges in time (11 R350): clk of the resynchronisation's start -/
  resync : Nat
  fw : Firmware
  flushes : List Flush
  bulks : List Bulk
  snaps : List Snap
  /-- clk of the last write of the fault record (17 R520) -/
  recordAt : Nat
  /-- frames sent, oldest first -/
  tx : List TxFrame
  deriving DecidableEq, Repr

/-- How a step can stop. No command of this block does: the module answers, counts or records every error, and keeps running. -/
inductive Fault where
  /-- raised by no meaning (safe: it would only stop a run) -/
  | none
  deriving DecidableEq, Repr

/-- Why a command has no meaning. -/
inductive Refusal where
  /-- a command whose meaning is not written: raised by its arm of `exec` alone (safe) -/
  | notModelled (mnemonic : String)
  deriving DecidableEq, Repr

/-- The outcome of a command. -/
abbrev Out := Host.Outcome State Fault Refusal

/-- The module after reset: unpowered, as delivered, before mains is first applied; no command waits. -/
def State.reset : State where
  pending := []
  rc := 0
  clk := 0
  regs := []
  faults := []
  drawn := 0
  slots := []
  ports := []
  groups := []
  pa := Plane.init
  pb := Plane.init
  courses := []
  joins := []
  bonds := []
  recovery := []
  judge := Judge.init
  leaving := []
  gateChange := []
  gateEdge := []
  heldTicks := []
  time := Time.init
  servo := Servo.init
  gnss := Gnss.init
  ptp := []
  departures := []
  synce := Synce.init
  tio := Tio.init
  clocks := Clocks.init
  chans := []
  bufs := []
  hodMem := []
  bufCaches := []
  recv := []
  quietNh := []
  quietRw := []
  physNh := []
  physRw := []
  seed := 0
  hostTab := []
  filterEpoch := 0
  banks := []
  sustain := []
  sessions := []
  issued := 0
  owed := []
  out := []
  enrolBar := 0
  authFails := []
  committing := none
  latest := []
  latestSlot := 0
  ruleAt := []
  flash := []
  power := Power.init
  latch := Latch.init
  cart := Cartridge.init deliveredIdentity
  bay := Bay.init
  domOps := []
  reseed := none
  ctls := []
  silence := none
  swap := none
  swapTries := 0
  swapAt := 0
  swapDay := 0
  resync := 0
  fw := Firmware.init
  flushes := []
  bulks := []
  snaps := []
  recordAt := 0
  tx := []

end Sys2Proof.Machine
end

