-- ==== Sys2Proof/Machine/Ops.lean ====
section
/-! DEFINITION. The named operations over the state: registers, domains, time, faults, ports and planes. -/

namespace Sys2Proof.Machine

/-- The register-file key of a PID's instance. -/
def regKey (pid inst : Nat) : Nat := pid * 2 ^ 32 + inst

/-- The value of a PID's instance; one that is not listed has its default (16 R503). -/
def State.rd (s : State) (pid inst : Nat) : Nat :=
  Tab.get (Catalogue.dflt pid inst) s.regs (regKey pid inst)

/-- A register file with a value written, kept canonical: no entry equal to its default, every value within its width. -/
def regSet (regs : Tab Nat) (pid inst v : Nat) : Tab Nat :=
  let w := v % 2 ^ Catalogue.width pid
  if w = Catalogue.dflt pid inst then Tab.del regs (regKey pid inst) else Tab.set regs (regKey pid inst) w

/-- Writes a PID's instance. -/
def State.wr (s : State) (pid inst v : Nat) : State := { s with regs := regSet s.regs pid inst v }

/-- Raises a counter by `n`, modulo its width (17 R505). -/
def State.incBy (s : State) (pid inst n : Nat) : State := s.wr pid inst (s.rd pid inst + n)

/-- Raises a counter by one. -/
def State.inc (s : State) (pid inst : Nat) : State := s.incBy pid inst 1

/-- Raises a high-water mark (16 R494). -/
def State.high (s : State) (pid inst v : Nat) : State :=
  if s.rd pid inst < v then s.wr pid inst v else s

/-- A flag or bool parameter. -/
def State.flag (s : State) (pid inst : Nat) : Bool := s.rd pid inst != 0

/-- The register file is canonical: keys rise, no entry equals its default, every value fits its PID. -/
def regsWf (regs : Tab Nat) : Bool :=
  Tab.rising regs &&
    regs.all (fun e => e.2 != Catalogue.dflt (e.1 / 2 ^ 32) (e.1 % 2 ^ 32) && decide (e.2 < 2 ^ Catalogue.width (e.1 / 2 ^ 32)))

/-- A free value: the next one drawn. -/
def State.draw (s : State) : State × Nat := ({ s with drawn := s.drawn + 1 }, s.drawn)

/-! ### Power domains (03 R64, R90) -/

/-- The state of a domain, by its code. -/
def State.dom (s : State) (d : Nat) : Nat := s.rd (0x010E + d) 0
/-- Sets the state of a domain. -/
def State.setDom (s : State) (d v : Nat) : State := s.wr (0x010E + d) 0 v
/-- The gate of block `b` of domain `d` is forced closed (13 R425): the block works with no parameter until its gate opens (R426). -/
def State.gateShut (s : State) (d b : Nat) : Bool := s.rd 0x0228 (16 * d + b) == 2
/-- A domain in state on. -/
def State.isOn (s : State) (d : Nat) : Bool := s.dom d == 2
/-- The domain code of a plane, a port group, a controller. -/
def domPlane (p : Nat) : Nat := p
def domGroup (g : Nat) : Nat := 2 + g
def domCtl (c : Nat) : Nat := 10 + c
/-- The port group of a port (R10). -/
def groupOf (port : Nat) : Nat := port / 18
/-- The module has reached Footing and its stage (PID 0100h) is `n` or later (03 R66). -/
def State.stageAtLeast (s : State) (n : Nat) : Bool :=
  s.rd 0x0101 0 != 0xFFFFFFFF && decide (n ≤ s.rd 0x0100 0)
/-- The controller that holds the mortar-line token (11 R344). -/
def State.holder (s : State) : Option Nat :=
  match s.rd 0x0302 0 with
  | 1 => some 0
  | 2 => some 1
  | _ => none
/-- The holder's number, 0 where none holds the token. -/
def State.active (s : State) : Nat := s.holder.getD 0

/-! ### Device time (12 R365, R366) -/

/-- The rate a triple gives per tick, times 2^60, in units of 2^-16 ns. -/
def Triple.step (t : Triple) : Int := 163840 * ((2 : Int) ^ 60 + t.rho)

/-- u(RC): the DT of an RC in units of 2^-16 ns (R366). -/
def Triple.dtOf (t : Triple) (rc : Nat) : Int :=
  t.baseDT + floorDiv (((rc : Int) - t.baseRC) * t.step) ((2 : Int) ^ 60)

/-- The least RC whose DT is at or after an instant (R366). -/
def Triple.rcOf (t : Triple) (u : Int) : Nat :=
  ((t.baseRC : Int) - floorDiv (-((u - t.baseDT) * (2 : Int) ^ 60)) t.step).toNat

/-- DT now, in units of 2^-16 ns. -/
def State.dt (s : State) : Int := s.time.triple.dtOf s.rc

/-- The 14-byte value of a DT (R365). -/
def encDT (u : Int) : Nat :=
  let n := u.toNat
  let sec := 1000000000 * 65536
  (n / sec) * 2 ^ 48 + n % sec / 65536 * 2 ^ 16 + n % 65536

/-- The DT that a 14-byte value spells. -/
def decDT (v : Nat) : Int := ((v / 2 ^ 48) * 1000000000 + v / 2 ^ 16 % 2 ^ 32) * 65536 + v % 2 ^ 16

/-- A time in ns as units of DT. -/
def nsUnits (ns : Int) : Int := ns * 65536

/-- The 14-byte DT now. -/
def State.dtNow (s : State) : Nat := encDT s.dt

/-- DT valid (PID 3002h). -/
def State.dtValid (s : State) : Bool := s.flag 0x3002 0

/-- Records the DT now in a parameter. -/
def State.stamp (s : State) (pid inst : Nat) : State := s.wr pid inst s.dtNow

/-- The servo is in the locked or holdover state (R376). -/
def State.timed (s : State) : Bool := s.rd 0x3400 0 == 2 || s.rd 0x3400 0 == 3

/-! ### The sticky fault record (17 R517) -/

/-- The module as the instance of an occurrence. -/
def moduleInst : Nat := 0xFFFFFFFF

/-- An entry after one more occurrence. -/
def FaultEntry.occur (e : FaultEntry) (inst dt : Nat) (dtValid : Bool) : FaultEntry :=
  if e.set then
    if e.count + 1 < 0xFFFFFFFF then { e with count := e.count + 1 }
    else { e with count := 0xFFFFFFFF, saturated := true }
  else ⟨true, !dtValid, false, false, 1, inst, dt⟩

/-- A fault occurs: a first occurrence with DT and instance, or one more count (R517). -/
def State.fault (s : State) (bit inst : Nat) : State :=
  let e := Tab.get FaultEntry.clear s.faults bit
  let s' := { s with faults := Tab.set s.faults bit (e.occur inst s.dtNow s.dtValid) }
  if e.set then s' else (s'.stamp 0x3E03 0).wr 0x3E04 0 bit

/-! ### Ports, port groups and planes -/

/-- A port. -/
def State.port (s : State) (i : Nat) : Port := Tab.get Port.init s.ports i
/-- Changes a port. -/
def State.updPort (s : State) (i : Nat) (f : Port → Port) : State := { s with ports := Tab.upd Port.init s.ports i f }
/-- A port group. -/
def State.group (s : State) (g : Nat) : PortGroup := Tab.get PortGroup.init s.groups g
/-- Changes a port group. -/
def State.updGroup (s : State) (g : Nat) (f : PortGroup → PortGroup) : State :=
  { s with groups := Tab.upd PortGroup.init s.groups g f }
/-- A plane. -/
def State.pl (s : State) (p : Nat) : Plane := if p = 0 then s.pa else s.pb
/-- Changes a plane. -/
def State.updPl (s : State) (p : Nat) (f : Plane → Plane) : State :=
  if p = 0 then { s with pa := f s.pa } else { s with pb := f s.pb }
/-- A version slot. -/
def State.slot (s : State) (v : Nat) : Slot := Tab.get Slot.init s.slots v
/-- Changes a version slot. -/
def State.updSlot (s : State) (v : Nat) (f : Slot → Slot) : State := { s with slots := Tab.upd Slot.init s.slots v f }

/-- The link state of a port (PID 0805h). -/
def State.link (s : State) (i : Nat) : Nat := s.rd 0x0805 i

/-- The clockIdentity (12 R384, PID 3103h). -/
def State.clockIdentity (s : State) : Nat :=
  let m := s.rd 0x0003 0
  m / 2 ^ 24 * 2 ^ 40 + 0xFFFE * 2 ^ 24 + m % 2 ^ 24

/-- The bit rate in Mb/s of a speed code (PIDs 0801h and 0806h). -/
def speedMbps (c : Nat) : Nat := if c = 0 then 25000 else if c = 1 then 10000 else 100000

/-- The operating speed of a port in Mb/s. -/
def State.portRate (s : State) (i : Nat) : Nat := speedMbps (s.rd 0x0806 i)

/-- The line time of a copy of `l` bytes in ticks of 2.5 ns, rounded up: (L + 20) × 8 bits (10 R305). -/
def lineTicks (mbps l : Nat) : Nat := ((l + 20) * 8 * 400 + mbps - 1) / mbps

/-! ### Running a command -/

/-- RC after `el` ticks (12 R364): the 72-bit count, while it counts. -/
def State.tickRC (s : State) (el : Nat) : Nat := if s.time.running then (s.rc + el) % rcModulus else s.rc

/-- The state at which a command of `el` ticks takes effect. -/
def State.tick (s : State) (el : Nat) : State := { s with rc := s.tickRC el, clk := s.clk + el }

/-- Runs an effect `el` ticks after the command before it. Whatever the effect does, RC, the elapsed time and the queue of
waiting commands are those of the tick: RC is never written (R364). -/
def State.run (s : State) (el : Nat) (f : State → State) : Out :=
  let t := s.tick el
  .next { f t with rc := t.rc, clk := t.clk, pending := t.pending }

/-- Runs an effect after which RC starts at a value of its own: domain K powered, and the power-on reset (R364, R372). -/
def State.runRC (s : State) (el : Nat) (f : State → State × Nat) : Out :=
  let t := s.tick el
  let r := f t
  .next { r.1 with rc := r.2 % rcModulus, clk := t.clk, pending := t.pending }

end Sys2Proof.Machine
end

