-- ==== Sys2Proof/Machine/Parser.lean ====
section
/-! DEFINITION. The parser of a pipeline (05 R136 to R144): the walk over the parse graph, the field vector, the header flags
and the error class. -/

namespace Sys2Proof.Machine

/-- Byte `k` of a parse node record. -/
def nodeByte (r k : Nat) : Nat := byteAt 48 r k
/-- A valid node record (R136 byte 0 bit 7, R137). -/
def nodeValid (r : Nat) : Bool := (nodeByte r 0).testBit 7

/-- What the parse of a frame has found so far. `fv` holds chunk k in bits [16k+15:16k]; `flags` is bed bits [195:188];
`oran` is bed bits [103:78]. -/
structure Parse where
  off : Nat
  fv : Nat
  flags : Nat
  tags : Nat
  labels : Nat
  /-- the nodes visited, latest first (R138) -/
  seen : List Nat
  exts : Nat
  tos : Nat
  ipOff : Option Nat
  ecpriType : Nat
  oran : Nat
  err : Nat
  errNode : Nat
  errOff : Nat
  /-- the 25th visit ended the parse (R137) -/
  trip : Bool
  /-- the frame has not ended and its next header may or may not fit it (R140): the parse waits -/
  open_ : Bool
  deriving DecidableEq, Repr

/-- Nothing parsed yet. -/
def Parse.init : Parse := ⟨0, 0, 0, 0, 0, [], 0, 0, none, 0, 0, 0, 0, 0, false, false⟩

/-- Chunk `k` of the field vector. -/
def Parse.chunk (p : Parse) (k : Nat) : Nat := (p.fv >>> (16 * k)) % 65536

/-- The field vector with a chunk written. -/
def Parse.setChunk (p : Parse) (k v : Nat) : Parse :=
  if k < 32 then { p with fv := p.fv - (p.chunk k) * 2 ^ (16 * k) + (v % 65536) * 2 ^ (16 * k) } else p

/-- Runs the extracts of a node: `shift` moves the first chunk (R138 for a second tag). -/
def Parse.extract (p : Parse) (bs : List Byte) (r shift : Nat) : Parse :=
  (List.range 4).foldl
    (fun p k =>
      let o := nodeByte r (36 + 3 * k)
      let c := nodeByte r (37 + 3 * k)
      (List.range (nodeByte r (38 + 3 * k))).foldl
        (fun p j => p.setChunk (c + shift + j) (getBE bs (p.off + o + 2 * j) 2)) p) p

/-- The ones' complement sum of the header's 16-bit words. -/
def onesSum (bs : List Byte) (off n : Nat) : Nat :=
  let s := (List.range n).foldl (fun a k => a + getBE bs (off + 2 * k) 2) 0
  let f := s % 65536 + s / 65536
  f % 65536 + f / 65536

/-- A header flag set (R145 [195:188]). -/
def Parse.setFlag (p : Parse) (k : Nat) : Parse := { p with flags := p.flags ||| 2 ^ k }

/-- An error class met at a node whose header begins at the present offset (R140, R143). -/
def Parse.fail (p : Parse) (c node : Nat) : Parse := { p with err := c, errNode := node, errOff := p.off }

/-- The bytes a parse reads: the window of 256, and past it values that the spec leaves open (notes/assumptions/69.md). -/
def parseWindow (f : Frame) : List Byte := f.bytes.take 256 ++ (List.range 1100).map (Config.parseByte f.bytes)

/-- The length of a node's header (R137). -/
def nodeLength (bs : List Byte) (off r : Nat) : Nat :=
  let base := nodeByte r 2 * 256 + nodeByte r 3
  if nodeByte r 4 = 0xFF then base
  else base + ((getBE bs (off + nodeByte r 4) 1 &&& nodeByte r 5) >>> (nodeByte r 6 / 16)) <<< (nodeByte r 6 % 16)

/-- Where a header ends (R140), at least: one whose length byte lies at or past `lim` ends past it. -/
def headerEnd (bs : List Byte) (off r lim : Nat) : Nat :=
  if nodeByte r 4 ≠ 0xFF ∧ lim ≤ off + nodeByte r 4 then off + max (nodeByte r 2 * 256 + nodeByte r 3) (nodeByte r 4 + 1)
  else off + nodeLength bs off r

/-- The node a transition or default leads to, `none` where the parse ends (R137). -/
def nextNode (cfg : Nat → Nat → Nat) (n : Nat) : Option Nat :=
  if n < 64 ∧ nodeValid (cfg 0x1000 n) then some n else none

/-- The UDP node of the factory graph (R139). -/
def factoryUdp : Nat := Catalogue.dflt 0x1000 8

/-- The match value of transition `k`: in the factory graph's UDP node, transitions 0 and 1 take the ports of PIDs 100Fh and 1002h
(R139). -/
def transMatch (cfg : Nat → Nat → Nat) (r k : Nat) : Option Nat :=
  let v := nodeByte r (10 + 3 * k) * 256 + nodeByte r (11 + 3 * k)
  if nodeByte r (12 + 3 * k) = 0xFF then none
  else if r = factoryUdp ∧ k = 0 then some (cfg 0x100F 0)
  else if r = factoryUdp ∧ k = 1 then (if cfg 0x1002 0 = 0 then none else some (cfg 0x1002 0))
  else some v

/-- The successor of a node (R137, R138 for kind 2). -/
def successor (cfg : Nat → Nat → Nat) (tpids : List Nat) (bs : List Byte) (off r : Nat) : Option Nat :=
  if nodeByte r 7 = 0xFF then nextNode cfg (nodeByte r 34)
  else
    let v := getBE bs (off + nodeByte r 7) 2 &&& (nodeByte r 8 * 256 + nodeByte r 9)
    if nodeByte r 1 = 2 ∧ tpids.contains v ∧ v ≠ 0 then nextNode cfg (nodeByte r 12)
    else
      let first := if nodeByte r 1 = 2 then 1 else 0
      match ((List.range 8).drop first).find? (fun k => transMatch cfg r k == some v) with
      | some k => nextNode cfg (nodeByte r (12 + 3 * k))
      | none => nextNode cfg (nodeByte r 34)

/-- The checks and rules of a header kind, with its extracts (R138, R142, R144). `l` is the frame length without FCS, at least;
`ended` says that it is the length. A tag node runs its extracts on its first two visits, an MPLS node on its first. -/
def Parse.header (p : Parse) (cfg : Nat → Nat → Nat) (bs : List Byte) (l : Nat) (ended : Bool) (node r : Nat) : Parse :=
  let b (k n : Nat) := getBE bs (p.off + k) n
  let visits := p.seen.count node
  let p := { p with seen := node :: p.seen }
  let oran := cfg 0x103A 0 != 0
  match nodeByte r 1 with
  | 3 => if p.tags = 3 then p.fail 5 node
         else
           let q := if visits < 2 then p.extract bs r visits else p
           { q with tags := p.tags + 1 }
  | 4 => if p.labels = 8 then p.fail 5 node
         else
           let q := if visits = 0 then p.extract bs r 0 else p
           { q.setFlag 5 with labels := p.labels + 1 }
  | 5 => if b 0 1 % 16 < 5 then p.fail 3 node
         else if onesSum bs p.off (b 0 1 % 16 * 2) ≠ 65535 then p.fail 2 node
         else
           let q := (p.extract bs r 0).setChunk 27 (b 9 1 * 256 + b 1 1)
           { q.setFlag 7 with tos := b 1 1, ipOff := some p.off }
  | 6 =>
    let tc := b 0 2 / 16 % 256
    let bad := decide ((ended = true ∧ 40 + b 4 2 > l - p.off) ∨ (40 + b 4 2 < l - p.off ∧ 60 < l))
    if bad then p.fail 4 node
    else
      let q := (p.extract bs r 0).setChunk 27 (b 6 1 * 256 + tc)
      { q.setFlag 6 with tos := tc, ipOff := some p.off }
  | 7 => if p.exts = 3 then p.fail 5 node
         else
           let q := (p.extract bs r 0)
           { q.setChunk 27 (b 0 1 * 256 + q.chunk 27 % 256) with exts := p.exts + 1 }
  | 8 => (p.extract bs r 0).setFlag 3
  | 9 => (p.extract bs r 0).setFlag 4
  | 10 => (p.extract bs r 0).setFlag 2
  | 11 => { (p.extract bs r 0).setFlag 1 with ecpriType := b 1 1 }
  | 13 =>
    let q := p.extract bs r 0
    if oran then
      let slotId := b 2 1 % 16 * 4 + b 3 1 / 64
      let v := ((((b 1 1 * 16 + b 2 1 / 16) * 64 + slotId) * 64 + b 3 1 % 64) * 2 + b 0 1 / 128) * 2
      { q.setFlag 0 with oran := v + (if p.ecpriType = 0 then 1 else 0) }
    else q
  | _ => p.extract bs r 0

/-- The walk from a node, with the visits left (R137). A header that ends past the bytes received of a frame that has not ended is
truncated or past the window: which, the frame's end decides (R140). An error of class 2 to 5 ends the parse too
(notes/assumptions/69.md). -/
def Parse.walk (cfg : Nat → Nat → Nat) (tpids : List Nat) (bs : List Byte) (l : Nat) (ended : Bool) : Nat → Nat → Parse → Parse
  | 0, node, p => { p.fail 6 node with trip := true }
  | n + 1, node, p =>
    let r := cfg 0x1000 node
    let e := headerEnd bs p.off r (min l 256)
    if l < e then (if ended then p.fail 1 node else { p with open_ := true })
    else if 256 < e then p.fail 6 node
    else
      let q := p.header cfg bs l ended node r
      if q.err ≠ 0 then q
      else
        match successor cfg tpids bs p.off r with
        | some m => Parse.walk cfg tpids bs l ended n m { q with off := e }
        | none => { q with off := e }

/-- Parses a frame with a version's graph (R135 to R144): the start node is visited when its record is valid. -/
def parseFrame (cfg : Nat → Nat → Nat) (tpids : List Nat) (f : Frame) : Parse :=
  match nextNode cfg (cfg 0x1001 0) with
  | some n => Parse.walk cfg tpids (parseWindow f) (f.bytes.length - 4) f.ended 24 n Parse.init
  | none => Parse.init

end Sys2Proof.Machine
end

