-- ==== Sys2Proof/Machine/Bed.lean ====
section
/-! DEFINITION. The bed of 256 bits and the rule stages over it (05 R145 to R153). -/

namespace Sys2Proof.Machine

/-- Bits [hi:lo] of the bed. -/
def bedGet (bed hi lo : Nat) : Nat := field bed hi lo
/-- The bed with bits [hi:lo] written. -/
def bedSet (bed hi lo v : Nat) : Nat :=
  bed - (field bed hi lo) * 2 ^ lo + (v % 2 ^ (hi + 1 - lo)) * 2 ^ lo

/-- The bits of a field code (R145); codes 0 and 16 up name none. -/
def fieldCode : Nat → Option (Nat × Nat)
  | 1 => some (247, 244)
  | 2 => some (231, 220)
  | 3 => some (219, 208)
  | 4 => some (207, 196)
  | 5 => some (187, 168)
  | 6 => some (167, 150)
  | 7 => some (149, 147)
  | 8 => some (146, 132)
  | 9 => some (127, 112)
  | 10 => some (109, 104)
  | 11 => some (77, 65)
  | 12 => some (15, 0)
  | 13 => some (31, 16)
  | 14 => some (47, 32)
  | 15 => some (63, 48)
  | _ => none

/-- Whether a stage may write a field code (R145). -/
def codeWritable (code stage : Nat) : Bool :=
  match code with
  | 0 => true
  | 1 => stage == 1
  | 2 => stage == 0
  | 3 => decide (stage ≤ 1)
  | 4 => decide (stage ≤ 3)
  | 5 => decide (2 ≤ stage ∧ stage ≤ 5)
  | 6 => decide (2 ≤ stage ∧ stage ≤ 5)
  | 7 => decide (2 ≤ stage)
  | 8 => decide (5 ≤ stage)
  | 9 => true
  | 10 => stage == 5
  | 11 => decide (stage ≤ 3)
  | 12 => true
  | 13 => true
  | 14 => true
  | 15 => true
  | _ => false

def bedPort (b : Nat) : Nat := bedGet b 255 248
def bedTenant (b : Nat) : Nat := bedGet b 247 244
def bedVid (b : Nat) : Nat := bedGet b 231 220
def bedFid (b : Nat) : Nat := bedGet b 219 208
def bedVrf (b : Nat) : Nat := bedGet b 207 196
def bedFlags (b : Nat) : Nat := bedGet b 195 188
def bedDestType (b : Nat) : Nat := bedGet b 187 186
def bedDestValue (b : Nat) : Nat := bedGet b 185 168
def bedRewrite (b : Nat) : Nat := bedGet b 167 150
def bedClass (b : Nat) : Nat := bedGet b 149 147
def bedQueue (b : Nat) : Nat := bedGet b 146 132
def bedDrop (b : Nat) : Bool := b.testBit 131
def bedCopy (b : Nat) : Bool := b.testBit 130
def bedRedirect (b : Nat) : Bool := b.testBit 129
def bedRecirc (b : Nat) : Bool := b.testBit 128
def bedCounter (b : Nat) : Nat := bedGet b 127 112
def bedEcn (b : Nat) : Nat := bedGet b 111 110
def bedDscp (b : Nat) : Nat := bedGet b 109 104
def bedQueueWritten (b : Nat) : Bool := b.testBit 64
def bedHash (b : Nat) : Nat := bedGet b 77 65

/-- A value of a version slot (05 R155): as committed, else the factory default. -/
def State.slotCfg (s : State) (v pid inst : Nat) : Nat :=
  Tab.get (Catalogue.dflt pid inst) (s.slot v).image (regKey pid inst)

/-- A write of an action word's A or B part: the field, and the queue-written bit for code 8 (R145, R153). -/
def writeCode (bed code v : Nat) : Nat :=
  match fieldCode code with
  | some (hi, lo) =>
    let b := bedSet bed hi lo v
    if code = 8 then bedSet b 64 64 1 else b
  | none => bed

/-- The class that a tenant's DSCP map gives (PID 101Ch). -/
def dscpClass (map dscp : Nat) : Nat := (map >>> (3 * dscp)) % 8

/-- The bed after an action word (R153): A, then B, then the flags; `dmap` is the tenant's DSCP map of bit 58. -/
def applyAction (bed act : Nat) (dmap : Nat) : Nat :=
  let b := writeCode bed (field act 57 53) (field act 52 29)
  let b := writeCode b (field act 28 24) (field act 23 0)
  let b := if act.testBit 58 then bedSet b 149 147 (dscpClass dmap (bedDscp b)) else b
  let b := if act.testBit 63 then bedSet b 131 131 1 else b
  let b := if act.testBit 62 then bedSet b 130 130 1 else b
  let b := if act.testBit 61 then bedSet b 129 129 1 else b
  if act.testBit 60 then bedSet b 128 128 1 else b

/-- The chunks of a lookup's keys, by the gang of its tiles (R149, R150): 0 where no tile is assigned. -/
def keyChunks (cfg : Nat → Nat → Nat) (sl : Nat) : Nat :=
  match (List.range 192).find? (fun t =>
      let a := cfg 0x1018 t
      a.testBit 15 && field a 10 8 == sl / 2 && field a 4 4 == sl % 2 && field a 1 0 != 3) with
  | some t => match field (cfg 0x1018 t) 1 0 with
    | 0 => 10
    | 1 => 20
    | _ => 40
  | none => 0

/-- The key of a lookup (R149). -/
def buildKey (cfg : Nat → Nat → Nat) (sl n : Nat) (bed : Nat) (p : Parse) : Nat :=
  let prof := cfg 0x1019 sl
  let k := (List.range n).foldl (fun a i =>
    let src := byteAt 40 prof i
    let c := if src = 0xFF then 0
      else if src.testBit 7 then (bed >>> (16 * (src % 16))) % 65536
      else p.chunk (src % 32)
    a * 65536 + c) 0
  if 4 ≤ sl then bedSet k 159 156 (bedTenant bed) else k

/-- Whether a rule matches a key of `n` chunks (R151). -/
def ruleMatches (cfg : Nat → Nat → Nat) (sl n key r : Nat) : Bool :=
  let v := cfg 0x1023 r >>> (16 * (40 - n))
  let m := cfg 0x1024 r >>> (16 * (40 - n))
  let v := if 4 ≤ sl then bedSet v 159 156 (cfg 0x1022 r) else v
  let m := if 4 ≤ sl then bedSet m 159 156 15 else m
  ((key ^^^ v) &&& m) == 0

/-- The rules of a version that name a lookup, rising. -/
def rulesOf (image : Tab Nat) (sl : Nat) : List Nat :=
  (image.filter (fun e => e.1 / 2 ^ 32 == 0x1020 && e.2 == sl)).map (fun e => e.1 % 2 ^ 32)

/-- The winning rule of a lookup: highest priority, then lowest rule ID (R152). Rules in error do not match (R154). -/
def winner (cfg : Nat → Nat → Nat) (image : Tab Nat) (bad : List Nat) (sl n key : Nat) : Option Nat :=
  ((rulesOf image sl).filter (fun r => !bad.contains r && ruleMatches cfg sl n key r)).foldl
    (fun best r => match best with
      | none => some r
      | some b => if cfg 0x1021 b < cfg 0x1021 r then some r else some b) none

/-- A value of an image. -/
def imageCfg (image : Tab Nat) (pid inst : Nat) : Nat := Tab.get (Catalogue.dflt pid inst) image (regKey pid inst)

/-- The lead of a gang that a tile belongs to (R150): itself for a single tile or a lead. -/
def tileLead (image : Tab Nat) (t : Nat) : Nat :=
  if field (imageCfg image 0x1018 t) 1 0 = 3 then
    if imageCfg image 0x1018 (t / 4 * 4) % 4 = 2 then t / 4 * 4 else t / 2 * 2
  else t

/-- The rule that holds an entry under version slot `v`. -/
def State.ruleIn (s : State) (v x : Nat) : Option Nat :=
  match Tab.find? s.ruleAt x with
  | some (r, mask) => if mask.testBit v then some r else none
  | none => none

/-- The rules of version slot `v` whose entry a memory error keeps from matching in a plane now (R154): until the entry is rewritten,
and as long as no controller is there to rewrite it. -/
def State.badRulesOf (s : State) (p v : Nat) : List Nat :=
  (s.pl p).badRules.filterMap (fun e =>
    match e.2 with
    | some rc => if s.rc < rc then s.ruleIn v e.1 else none
    | none => s.ruleIn v e.1)

/-- What a stage's lookups have done: the bed, the stop mark and the counters still to raise. -/
structure StageRun where
  s : State
  bed : Nat
  stop : Bool
  /-- the first stage that set the controller copy flag, and the controller redirect flag -/
  copyStage : Nat
  flagStage : Nat
  tenantWritten : Bool

/-- Applies the action of one lookup, with the stage's counters (R153, R168). -/
def StageRun.act (x : StageRun) (cfg : Nat → Nat → Nat) (p stage act : Nat) (second : Bool) : StageRun :=
  let bed := applyAction x.bed act (cfg 0x101C (bedTenant x.bed))
  let s := if act.testBit 63 && !bedDrop x.bed then x.s.inc (0x1040 + stage) p else x.s
  let s := if act.testBit 61 then s.inc (0x1048 + stage) p else s
  let s := if act.testBit 60 && second then s.inc 0x3C21 p else s
  { s := s, bed := bed, stop := x.stop || act.testBit 59
    copyStage := if act.testBit 62 && x.copyStage == 0xFF then stage else x.copyStage
    flagStage := if act.testBit 61 && x.flagStage == 0xFF then stage else x.flagStage
    tenantWritten := x.tenantWritten || field act 57 53 == 1 || field act 28 24 == 1 }

/-- One lookup of a stage with a key built before the stage began (R135, R153). -/
def StageRun.lookup (x : StageRun) (cfg : Nat → Nat → Nat) (image : Tab Nat) (p v sl n key : Nat) (second : Bool) : StageRun :=
  if cfg 0x101A sl = 0 then x
  else
    match winner cfg image (x.s.badRulesOf p v) sl n key with
    | some r => ({ x with s := x.s.inc 0x1026 (65536 * p + r) }).act cfg p (sl / 2) (cfg 0x1025 r) second
    | none => x.act cfg p (sl / 2) (cfg 0x101B sl) second

/-- The two lookups of a stage, on keys built from the bed as it stands (R153). -/
def StageRun.stage (x : StageRun) (cfg : Nat → Nat → Nat) (image : Tab Nat) (pr : Parse) (p v stage : Nat) (second : Bool) : StageRun :=
  let n0 := keyChunks cfg (2 * stage)
  let n1 := keyChunks cfg (2 * stage + 1)
  let k0 := buildKey cfg (2 * stage) n0 x.bed pr
  let k1 := buildKey cfg (2 * stage + 1) n1 x.bed pr
  let y := x.lookup cfg image p v (2 * stage) n0 k0 second
  y.lookup cfg image p v (2 * stage + 1) n1 k1 second

/-- The chunks selected for the flow hash (PID 1003h), as one number. -/
def hashChunks (mask : Nat) (p : Parse) : Nat :=
  (bitsOf 32 mask).foldl (fun a k => a * 65536 + p.chunk k) 1

/-- The bed at entry (R145). -/
def bedEntry (s : State) (v : Nat) (f : Frame) (p : Parse) : Nat :=
  let cfg := s.slotCfg v
  let vid := if p.tags = 0 then 0 else p.chunk 6 % 4096
  let fidRec := if f.port < 144 then cfg 0x101E f.port else 0
  let b := bedSet 0 255 248 f.port
  let b := bedSet b 243 242 v
  let b := bedSet b 240 240 (if f.ctl then 1 else 0)
  let b := bedSet b 239 238 f.colour
  let b := bedSet b 237 235 f.icls
  let b := bedSet b 234 232 p.err
  let b := bedSet b 231 220 vid
  let b := bedSet b 219 208 (if fidRec.testBit 15 then fidRec % 4096 else vid)
  let b := bedSet b 207 196 (if f.port < 144 then cfg 0x101F f.port else 0)
  let b := bedSet b 195 188 p.flags
  let b := bedSet b 149 147 f.icls
  let b := bedSet b 111 110 (p.tos % 4)
  let b := bedSet b 109 104 (p.tos / 4)
  let b := bedSet b 103 78 p.oran
  bedSet b 77 65 (Config.flowHash (hashChunks (cfg 0x1003 0) p)).toNat

/-- The bed of a second pass: carried whole but for bit 241, the parser's fields and the rewrite index (R145). -/
def bedSecond (f : Frame) (p : Parse) : Nat :=
  let b := bedSet f.bed 241 241 1
  let b := bedSet b 195 188 p.flags
  let b := bedSet b 103 78 p.oran
  let b := bedSet b 234 232 p.err
  bedSet b 167 150 0

/-- A frame forwarded as L2 only: header flags [195:189] and chunks F9 to F31 cleared (R141). -/
def l2OnlyBed (bed : Nat) : Nat := bedSet bed 195 189 0
def l2OnlyParse (p : Parse) : Parse := { p with fv := p.fv % 2 ^ 144 }

end Sys2Proof.Machine
end

