-- ==== Sys2Proof/Machine/Ingress.lean ====
section
/-! DEFINITION. The ingress side of a port group (04 R103 to R123, 11 R353 and R355, 12 R387): tags, steering, the
controller-path limiter, policers, sequence numbers and replication. -/

namespace Sys2Proof.Machine

/-! ### Tags (R112) -/

/-- The recognised tags ahead of the EtherType: (TPID, TCI), outermost first. -/
structure Tags where
  tags : List (Nat × Nat)
  /-- byte offset of the EtherType after the tags -/
  off : Nat
  ethertype : Nat
  /-- the EtherType is a standard TPID that is not recognised (R112) -/
  unrecognised : Bool
  deriving DecidableEq, Repr

/-- The standard TPID values of R112. -/
def standardTpids : List Nat := [0x8100, 0x88A8, 0x9100, 0x9200]

/-- Reads up to `n` recognised tags from an offset. -/
def readTags (tpids : List Nat) (bs : List Byte) : Nat → Nat → List (Nat × Nat) → Tags
  | 0, off, acc =>
    let e := getBE bs off 2
    ⟨acc, off, e, standardTpids.contains e && !tpids.contains e⟩
  | n + 1, off, acc =>
    let e := getBE bs off 2
    if e ≠ 0 ∧ tpids.contains e then readTags tpids bs n (off + 4) (acc ++ [(e, getBE bs (off + 2) 2)])
    else ⟨acc, off, e, standardTpids.contains e⟩

/-- The recognised TPIDs of a port group (PIDs 0912h to 0915h). -/
def State.tpids (s : State) (g : Nat) : List Nat := (List.range 4).map (fun k => s.rd (0x0912 + k) g)

/-- The tags of a frame: at most three (R112). -/
def State.tagsOf (s : State) (g : Nat) (bs : List Byte) : Tags := readTags (s.tpids g) bs 3 12 []

/-- The outer VID, 0 for an untagged frame. -/
def Tags.outerVid (t : Tags) : Nat := match t.tags with
  | [] => 0
  | (_, tci) :: _ => tci % 4096

/-- The tag that gives the priority, by priority source 0 or 1 (R113). -/
def Tags.prioTag (t : Tags) (source : Nat) : Option (Nat × Nat) :=
  if source = 1 then t.tags.getLast? else t.tags.head?

/-! ### Steering (R113) -/

/-- What steering decides for a frame. -/
inductive Path where
  | data
  | ctl
  /-- discarded, with the counter that rises -/
  | drop (pid : Nat)
  deriving DecidableEq, Repr

/-- The result of steering. -/
structure Steer where
  path : Path
  cls : Nat
  /-- the matching filter entry -/
  filter : Option Nat
  deriving DecidableEq, Repr

/-- The ingress class by the port's map (R113, PIDs 090Fh, 0910h and 0917h). -/
def State.mapClass (s : State) (i : Nat) (t : Tags) : Nat :=
  match t.prioTag (s.rd 0x0910 i) with
  | some (_, tci) => if s.rd 0x0910 i = 2 then s.rd 0x090F i % 8 else field (s.rd 0x0917 i) (3 * (tci / 8192) + 2) (3 * (tci / 8192))
  | none => s.rd 0x090F i % 8

/-- Whether the selected fields of filter instance `e` match (PIDs 0902h to 090Ah). The PCP is the outermost tag's, and the
inner VID is the second tag's, also of three: notes/assumptions/62.md. -/
def State.filterMatches (s : State) (e : Nat) (bs : List Byte) (t : Tags) : Bool :=
  let sel := s.rd 0x0902 e
  let outer := t.tags.head?
  let inner := t.tags[1]?
  (!sel.testBit 0 || (match outer with | some (p, _) => p == s.rd 0x0903 e | none => false)) &&
  (!sel.testBit 1 || (match outer with
    | some (_, c) => (c % 4096) &&& s.rd 0x0905 e == s.rd 0x0904 e &&& s.rd 0x0905 e
    | none => false)) &&
  (!sel.testBit 2 || (match outer with | some (_, c) => c / 8192 == s.rd 0x0906 e | none => false)) &&
  (!sel.testBit 3 || (match inner with | some (_, c) => c % 4096 == s.rd 0x0907 e | none => false)) &&
  (!sel.testBit 4 || t.ethertype == s.rd 0x0908 e) &&
  (!sel.testBit 5 || getBE bs 0 6 &&& s.rd 0x090A e == s.rd 0x0909 e &&& s.rd 0x090A e)

/-- The first filter entry of the port's group that matches. -/
def State.filterHit (s : State) (i : Nat) (bs : List Byte) (t : Tags) : Option Nat :=
  ((List.range 64).map (fun k => 64 * groupOf i + k)).find? (fun e =>
    s.flag 0x0900 e && (s.rd 0x0901 e).testBit (i % 18) && s.filterMatches e bs t)

/-- The IP destination address of a frame, as the 20-byte form of PID 311Fh spells it: type and address. -/
def ipDestination (bs : List Byte) (t : Tags) : Option (Nat × Nat) :=
  if t.ethertype = 0x0800 then some (4, getBE bs (t.off + 2 + 16) 4)
  else if t.ethertype = 0x86DD then some (6, getBE bs (t.off + 2 + 24) 16)
  else none

/-- A frame for the port's PTP interface address (12 R385, PID 311Fh). -/
def State.toPtpInterface (s : State) (i : Nat) (bs : List Byte) (t : Tags) : Bool :=
  let r := s.rd 0x311F i
  match ipDestination bs t with
  | some (ty, a) => ty == byteAt 20 r 0 && a == (if ty = 4 then bytesAt 20 r 1 4 else bytesAt 20 r 1 16)
  | none => false

/-- Whether PTP on the port takes a frame in the first step of R113 (12 R385). -/
def State.ptpSteers (s : State) (i : Nat) (bs : List Byte) (t : Tags) : Bool :=
  s.flag 0x3108 i && (if s.rd 0x3101 0 = 0 then t.ethertype == 0x88F7 else s.toPtpInterface i bs t)

/-- The steering of a frame on a port (R112, R113). Entry 01h of the link-local action has no effect (R133). -/
def State.steer (s : State) (i : Nat) (bs : List Byte) (t : Tags) : Steer :=
  let c := s.mapClass i t
  let da := getBE bs 0 6
  let action := s.rd (0x0920 + da % 16) i
  if t.unrecognised ∧ s.rd 0x091F i = 1 then ⟨.drop 0x3C13, c, none⟩
  else if s.ptpSteers i bs t then ⟨.ctl, c, none⟩
  else if t.ethertype = 0x88F7 then
    if s.flag 0x091E i then ⟨.ctl, c, none⟩ else ⟨.data, c, none⟩
  else if da / 16 = 0x0180C200000 ∧ da % 16 ≠ 1 ∧ action = 0 then ⟨.drop 0x3C12, c, none⟩
  else if da / 16 = 0x0180C200000 ∧ da % 16 ≠ 1 ∧ action = 1 then ⟨.ctl, c, none⟩
  else if s.rd 0x091A 0 ≠ 0 ∧ t.outerVid = s.rd 0x091A 0 ∧ (s.rd 0x091B 0).testBit i then ⟨.ctl, c, none⟩
  else
    match s.filterHit i bs t with
    | some e =>
      if s.rd 0x090B e = 0 then ⟨.data, s.rd 0x090C e % 8, some e⟩
      else if s.rd 0x090B e = 1 then ⟨.ctl, c, some e⟩
      else ⟨.drop 0x3C13, c, some e⟩
    | none =>
      if t.tags.isEmpty ∧ s.rd 0x0916 i = 1 then ⟨.drop 0x3C13, c, none⟩ else ⟨.data, c, none⟩

/-- The marked colour of a frame (R118): from the tag of the priority source, green for an untagged frame
(notes/assumptions/62.md). -/
def State.markColour (s : State) (i : Nat) (t : Tags) : Nat :=
  if s.rd 0x0919 i = 1 then
    match t.prioTag (s.rd 0x0910 i) with
    | some (_, tci) =>
      let k := 2 * (tci / 8192) + tci / 4096 % 2
      field (s.rd 0x0918 i) (2 * k + 1) (2 * k)
    | none => 0
  else 0

/-- The policer that polices a frame, where its policer is in mode 1 or 2 (R563). -/
def State.policerOf (s : State) (i : Nat) (st : Steer) : Option Nat :=
  let byEntry := match st.filter with
    | some e => s.rd 0x090D e
    | none => 0xFFFF
  let k := if byEntry ≠ 0xFFFF then byEntry else s.rd (0x0A12 + st.cls) i
  if k < 2048 then
    let n := 2048 * groupOf i + k
    if s.rd 0x0A00 n = 1 ∨ s.rd 0x0A00 n = 2 then some n else none
  else none

/-! ### Sustained drops (R131) -/

/-- Notes a drop for a fault bit that is set after consecutive windows with drops; `win` is the window in ticks. -/
def State.noteDrop (s : State) (bit inst win : Nat) : State :=
  let k := bit * 2 ^ 32 + inst
  let w := s.rc / win
  let run := match Tab.find? s.sustain k with
    | some (last, n) => if last = w then n else if last + 1 = w then n + 1 else 1
    | none => 1
  { s with sustain := Tab.set s.sustain k (w, run) }

/-- A run that has raised its fault bit counts on from here, and raises it no more (17 R517). -/
def raisedRun : Nat := 2 ^ 40

/-- The fault bit, when drops have come in `n` consecutive windows up to now: once in a run. -/
def State.sustained (s : State) (bit inst win n : Nat) : State :=
  match Tab.find? s.sustain (bit * 2 ^ 32 + inst) with
  | some (last, run) =>
    if n ≤ run ∧ run < raisedRun ∧ s.rc / win ≤ last + 1 then
      { s with sustain := Tab.set s.sustain (bit * 2 ^ 32 + inst) (last, run + raisedRun) }.fault bit inst
    else s
  | none => s

/-! ### The controller-path limiter (R114) -/

/-- Tokens of the limiter are counted in 1/400,000,000 frame, so that a rate in frame/s adds exactly per tick. -/
def frameUnit : Nat := 400000000

/-- A frame bucket after refilling: tokens, capped at the burst; a bucket not yet used is full. -/
def refillFrames (tokens last now rate burst : Nat) (init : Bool) : Nat :=
  if init then min (tokens + rate * (now - last)) (burst * frameUnit) else burst * frameUnit

/-- Whether the limiter passes a frame; the group with the tokens charged. -/
def State.limiter (s : State) (g : Nat) : State × Bool :=
  let p := s.group g
  let t := refillFrames p.ctlTokens p.ctlRC s.rc (s.rd 0x091C g) (s.rd 0x091D g) p.ctlInit
  let pass := decide (frameUnit ≤ t)
  let s' := s.updGroup g (fun q => { q with ctlTokens := if pass then t - frameUnit else t, ctlRC := s.rc, ctlInit := true })
  if pass then (s', true) else ((s'.inc 0x3C14 g).noteDrop 70 g 400000, false)

/-! ### Policers (R118) -/

/-- The bucket state of a policer: full until it is charged (notes/assumptions/15.md). -/
def State.policer (s : State) (n : Nat) : Policer := Tab.get ⟨0, 0, 0, true, false⟩ (s.group (n / 2048)).policers n

/-- Changes the bucket state of a policer. -/
def State.setPolicer (s : State) (n : Nat) (p : Policer) : State :=
  s.updGroup (n / 2048) (fun g => { g with policers := Tab.set g.policers n p })

/-- Tokens, in 1/256 byte, that a rate in kb/s gives in `dt` ticks (R118). -/
def rateTokens (kbps dt : Nat) : Nat := kbps * dt / 12500

/-- Refills a policer up to an RC: (tc, tp or te). -/
def State.policerRefill (s : State) (n rc : Nat) : Nat × Nat :=
  let p := s.policer n
  let cbs := s.rd 0x0A02 n * 256
  let pbs := s.rd 0x0A04 n * 256
  if p.full then (cbs, pbs)
  else
    let dt := rc - p.lastRC
    let tc := p.tc + rateTokens (s.rd 0x0A01 n) dt
    let spill := if s.flag 0x0A06 n then tc - cbs else 0
    let tp := p.tp + rateTokens (s.rd 0x0A03 n) dt + (if s.rd 0x0A00 n = 2 then spill else 0)
    (min tc cbs, min tp pbs)

/-- Before a change of its bucket sizes, a full policer's tokens become counts, which the change keeps (R120). -/
def State.keepTokens (s : State) (n : Nat) : State :=
  let p := s.policer n
  if p.full then
    let t := s.policerRefill n s.rc
    s.setPolicer n { p with tc := t.1, tp := t.2, lastRC := s.rc, full := false }
  else s

/-- The colour of a frame of `b` (1/256 byte) with input colour `c`, and the tokens left (R118). -/
def policerColour (mode c b tc tp : Nat) : Nat × Nat × Nat :=
  if mode = 1 then
    if c = 2 ∨ tp < b then (2, tc, tp)
    else if c = 1 ∨ tc < b then (1, tc, tp - b)
    else (0, tc - b, tp - b)
  else
    if c = 0 ∧ b ≤ tc then (0, tc - b, tp)
    else if c ≠ 2 ∧ b ≤ tp then (1, tc, tp - b)
    else (2, tc, tp)

/-- Charges a policer with a frame of `len` bytes that arrived at `rc` (R118, R130): the state and the resulting colour. -/
def State.charge (s : State) (n rc len marked : Nat) : State × Nat :=
  let (tc, tp) := s.policerRefill n rc
  let b := ((len : Int) + signed 8 (s.rd 0x0A07 n)).toNat * 256
  let c := if s.rd 0x0A05 n = 1 then marked else 0
  let (colour, tc', tp') := policerColour (s.rd 0x0A00 n) c b tc tp
  let s := s.setPolicer n { s.policer n with tc := tc', tp := tp', lastRC := rc, full := false }
  ((s.inc 0x3C18 (3 * n + colour)).incBy 0x3C19 (3 * n + colour) len, colour)

/-! ### Sequenced streams (11 R353, R355) -/

/-- The first enabled 256-record of a group (at PID `pid`, of `n` bytes) that a frame of the port matches. -/
def State.streamOf (s : State) (pid n i : Nat) (bs : List Byte) (t : Tags) : Option Nat :=
  if s.gateShut (domGroup (groupOf i)) 4 then none
  else ((List.range 256).map (fun k => 256 * groupOf i + k)).find? (fun e =>
    let r := s.rd pid e
    let fl := byteAt n r 1
    fl.testBit 7 && byteAt n r 0 == i && (!fl.testBit 6 || (!t.tags.isEmpty && t.outerVid == bytesAt n r 2 3 % 4096)) &&
      (n == 8 || !fl.testBit 5 || getBE bs 0 6 == bytesAt n r 4 9))

/-- What recovery identification makes of a frame: bytes, FRER word and tagless mark (R355). -/
def State.identify (s : State) (i : Nat) (bs : List Byte) (t : Tags) : State × List Byte × Option Nat × Bool :=
  match s.streamOf 0x2830 8 i bs t with
  | some e =>
    let s := s.inc 0x2831 e
    let fn := bytesAt 8 (s.rd 0x2830 e) 4 5 % 1024
    let base := 2 ^ 31 + 2 ^ 30 + fn * 65536
    if t.ethertype = s.rd 0x283C 0 then
      (s, bs.take t.off ++ bs.drop (t.off + 6), some (base + getBE bs (t.off + 4) 2), false)
    else (s, bs, some base, true)
  | none => (s, bs, none, false)

/-- The sequence number a generation stream gives as replication starts (R353). -/
def State.generate (s : State) (i : Nat) (bs : List Byte) (t : Tags) : State × Option Nat :=
  match s.streamOf 0x282C 16 i bs t with
  | some e =>
    let n := s.rd 0x282D e
    ((s.inc 0x282D e).inc 0x282F e, some (2 ^ 31 + e * 65536 + n))
  | none => (s, none)

/-! ### Event messages in transit (12 R387) -/

/-- The byte offset of the PTP header of a Sync or Delay_Req, where a frame carries one, with the offset of its UDP header. -/
def ptpEvent (tpids : List Nat) (bs : List Byte) : Option (Nat × Option Nat) :=
  let t := readTags tpids bs 3 12 []
  let l3 := t.off + 2
  let event (o : Nat) (u : Option Nat) : Option (Nat × Option Nat) :=
    if o + 34 ≤ bs.length ∧ getBE bs o 1 % 16 ≤ 1 then some (o, u) else none
  if t.ethertype = 0x88F7 then event l3 none
  else if t.ethertype = 0x0800 ∧ getBE bs (l3 + 9) 1 = 17 then
    let u := l3 + getBE bs l3 1 % 16 * 4
    if getBE bs (u + 2) 2 = 319 then event (u + 8) (some u) else none
  else if t.ethertype = 0x86DD ∧ getBE bs (l3 + 6) 1 = 17 then
    let u := l3 + 40
    if getBE bs (u + 2) 2 = 319 then event (u + 8) (some u) else none
  else none

/-- A saturated correctionField. -/
def cfSaturated : Nat := 0x7FFFFFFFFFFFFFFF

/-- The ingress half of the transit correction (R387): bytes, whether the frame is corrected, whether it came saturated. -/
def State.tcIngress (s : State) (i frac : Nat) (bs : List Byte) : List Byte × Bool × Bool :=
  if s.flag 0x3111 i && !s.gateShut (domGroup (groupOf i)) 6 then
    match ptpEvent (s.tpids (groupOf i)) bs with
    | some (o, _) =>
      let c := getBE bs (o + 8) 8
      if c = cfSaturated then (bs, true, true)
      else (putBE bs (o + 8) 8 (unsignedOf 64 (signed 64 c - 640 * frac)), true, false)
    | none => (bs, false, false)
  else (bs, false, false)

/-! ### Replication (R122 to R124) -/

/-- The planes that a frame is replicated to (R124, PID 084Ch): in domain state on, and from the join RC on (11 R338). -/
def State.replicationSet (s : State) (rc : Nat) : List Nat :=
  (List.range 2).filter (fun p => s.isOn (domPlane p) && decide (Tab.get 0 s.joins p ≤ rc))

/-- RC as a port group's (copy g) or a plane's (copy 8 + p) local copy counts it (12 R370). -/
def State.localRC (s : State) (copy : Nat) : Nat := (((s.rc : Int) + Tab.get 0 s.time.copies copy) % (2 : Int) ^ 72).toNat

/-- The CRC-32C of a frame's stamp: over the frame bytes and bits [143:32] of the stamp (R122). -/
def Frame.crcOf (f : Frame) : Nat := crc32c (f.bytes ++ toBytes 1 f.port ++ toBytes 4 f.seq ++ toBytes 9 f.rc)

/-- The stamp's CRC-32C matches the bytes and the stamp (R122, 11 R329). -/
def Frame.crcOk (f : Frame) : Bool := f.stampCrc == f.crcOf

/-- The plane's copy of a frame as replication starts. -/
def RxFrame.copyOf (f : RxFrame) (i seq : Nat) (planes : Nat) : Frame where
  port := i
  seq := seq
  rc := f.rc
  frac := f.frac
  bytes := f.bytes
  ended := false
  bad := false
  oversize := false
  icls := f.icls
  colour := f.colour
  ctl := f.ctl
  frer := f.frer
  tagless := f.tagless
  pipe := groupOf i
  bed := 0
  second := false
  resume := none
  routeVrf := 0
  label := none
  inject := none
  tc := f.tc
  tcSat := f.tcSat
  moduleFrame := false
  oneStep := false
  departure := false
  stage := 0xFF
  reason := 0
  ipOff := none
  sole := planes == 1
  stampCrc := 0
  verGen := 0

/-- A record of the ingress fraction FIFO for a PTP frame on the controller path (12 R374). -/
def State.fraction (s : State) (i seq : Nat) (f : RxFrame) (t : Tags) : State :=
  let l3 := t.off + 2
  let port (u : Nat) : Bool := getBE f.bytes (u + 2) 2 == 319 || getBE f.bytes (u + 2) 2 == 320
  let ptp := t.ethertype == 0x88F7 ||
    (t.ethertype == 0x0800 && getBE f.bytes (l3 + 9) 1 == 17 && port (l3 + getBE f.bytes l3 1 % 16 * 4)) ||
    (t.ethertype == 0x86DD && getBE f.bytes (l3 + 6) 1 == 17 && port (l3 + 40))
  if f.ctl && ptp then
    let g := groupOf i
    if (s.group g).fractions.length < 256 then
      s.updGroup g (fun q => { q with fractions := q.fractions ++ [(i, seq, f.frac)] })
    else s.inc 0x312A g
  else s

/-- Starts the replication of a frame (R123): it takes a sequence number and enters every plane that is on. -/
def State.replicate (s : State) (i : Nat) (f : RxFrame) (t : Tags) : State × RxFrame :=
  let planes := s.replicationSet f.rc
  let (s, gen) := match f.frer with
    | some _ => (s, none)
    | none => s.generate i f.bytes t
  let f := { f with frer := f.frer.or gen }
  let seq := s.rd 0x0843 i
  let s := (s.wr 0x0843 i (seq + 1)).inc 0x3C15 i
  let s := s.fraction i seq f t
  let s := planes.foldl (fun s p => s.updPl p (fun q => { q with ingress := q.ingress ++ [f.copyOf i seq planes.length] })) s
  (s, { f with seq := some seq, planes := planes })

/-- The frame in reception from the start of a frame (R10, R112 to R118). -/
def State.arrive (s : State) (i : Nat) (bs : List Byte) (frac : Nat) : State × RxFrame × Tags :=
  let g := groupOf i
  let t0 := s.tagsOf g bs
  let st := s.steer i bs t0
  let s := match st.filter with
    | some e => s.inc 0x090E e
    | none => s
  let (s, drop) := match st.path with
    | .drop pid => (s.inc pid i, true)
    | .ctl => let r := s.limiter g; (r.1, !r.2)
    | .data => (s, false)
  let (s, bs1, word, tagless) := if drop then (s, bs, none, false) else s.identify i bs t0
  let (bs2, tc, sat) := s.tcIngress i frac bs1
  (s, { bytes := bs2, rc := s.localRC g, frac := frac, macControl := false, drop := drop, ctl := st.path == .ctl
        icls := st.cls, colour := s.markColour i t0, policer := s.policerOf i st, seq := none, planes := []
        frer := word, tagless := tagless, tc := tc, tcSat := sat }, s.tagsOf g bs2)

/-- A port that can receive: its group is on and its link is up. -/
def State.receives (s : State) (i : Nat) : Bool := s.isOn (domGroup (groupOf i)) && s.link i == 3

/-- A frame's start reaches port `i` (R10): steered, and, when unpoliced and 64 bytes long, replicated from its head. -/
def frameArrival (i : Nat) (head : List Byte) (frac : Nat) (s : State) : State :=
  if s.receives i = true ∧ (s.port i).rx = none then
    if getBE head 12 2 = 0x8808 then
      s.updPort i (fun q => { q with rx := some ⟨head, s.localRC (groupOf i), frac, true, false, false, 0, 0, none, none, [], none, false, false, false⟩ })
    else
      let (s, f, t) := s.arrive i head frac
      if f.drop = false ∧ f.policer = none ∧ 64 ≤ head.length then
        let (s, f) := s.replicate i f t
        s.updPort i (fun q => { q with rx := some f })
      else s.updPort i (fun q => { q with rx := some f })
  else s

/-- FRAME_ARRIVAL (R10). -/
def execFrameArrival (el : Nat) (port : PortNo) (head : List Byte) (frac : BitVec 8) (s : State) : Out :=
  s.run el (frameArrival port.val head frac.toNat)

end Sys2Proof.Machine
end

