-- ==== Sys2Proof/Machine/Store.lean ====
section
/-! DEFINITION. The exact-match store of a plane (06 R171 to R193): placement, relocation, insertion, learning, ageing. -/

namespace Sys2Proof.Machine

/-! ### Placement (R171 to R173) -/

/-- Slots that an entry of a key type takes (R176). -/
def slotsOf (ktype : Nat) : Nat := if ktype = 3 ∨ ktype = 5 then 2 else 1

/-- The hash input of R172: key type, tenant and record bytes 12 to 31. -/
def hashInput (ktype tenant key : Nat) : List Byte := toBytes 1 ktype ++ toBytes 1 tenant ++ toBytes 20 key

/-- The candidate buckets b0 and b1 (R172). -/
def buckets (seed ktype tenant key : Nat) : Nat × Nat :=
  (crc32cFrom seed (hashInput ktype tenant key) % 131072,
    crc32cFrom (seed ^^^ 0x5A5A5A5A) (hashInput ktype tenant key) % 131072)

/-- The entry of a key, with the slot of its first half (R173). -/
def findEntry (store : Tab Entry) (ktype tenant key : Nat) : Option (Nat × Entry) :=
  List.find? (fun (e : Nat × Entry) => e.2.ktype == ktype && e.2.tenant == tenant && e.2.key == key) store

/-- The entry that occupies a slot, with the slot of its first half. -/
def entryAt (store : Tab Entry) (slot : Nat) : Option (Nat × Entry) :=
  match Tab.find? store slot with
  | some e => some (slot, e)
  | none =>
    if slot % 2 = 1 then
      match Tab.find? store (slot - 1) with
      | some e => if slotsOf e.ktype = 2 then some (slot - 1, e) else none
      | none => none
    else none

/-- Slots in use (PID 1400h). -/
def slotsUsed (store : Tab Entry) : Nat := store.foldl (fun n e => n + slotsOf e.2.ktype) 0

/-- The places of a bucket free for an entry of `size` slots (R171). -/
def freePlaces (store : Tab Entry) (bucket size : Nat) : List Nat :=
  if size = 1 then ((List.range 8).map (8 * bucket + ·)).filter (fun k => (entryAt store k).isNone)
  else ((List.range 4).map (8 * bucket + 2 * ·)).filter (fun k => (entryAt store k).isNone && (entryAt store (k + 1)).isNone)

/-- One of the free places: which one is open (notes/assumptions/10.md). -/
def pickPlace (d : Nat) (l : List Nat) : Option Nat := l[Config.slotChoice d % l.length]?

/-! ### Relocation (R179, R180, R210) -/

/-- The cursor of a session's iteration in a plane's slots: the cursor counts plane A's slots, then plane B's. -/
def cursorIn (p cursor : Nat) : Nat := if p = 0 then min cursor 1048576 else cursor - 1048576

/-- What the relocation engine of a plane works on: the store, the crossed lists, and the cursors of the iterations. -/
structure Mover where
  store : Tab Entry
  crossed : Tab (List Entry)
  /-- by session, the cursor in this plane -/
  cursors : Tab Nat
  seed : Nat
  /-- moves for a learn request leave static entries alone (R174) -/
  learning : Bool
  draw : Nat
  moves : Nat
  deriving DecidableEq, Repr

/-- The sessions whose cursor a move from `a` to `b` crosses backward. -/
def Mover.crossing (m : Mover) (a b : Nat) : List Nat :=
  (m.crossed.filter (fun c => let cur := Tab.get 0 m.cursors c.1; decide (cur ≤ a ∧ b < cur))).map Prod.fst

/-- Moves an entry from `a` to `b`, unless a crossed list has no room (R179, R210). The activity bit goes with it. -/
def Mover.move (m : Mover) (a b : Nat) (e : Entry) : Option Mover :=
  let x := m.crossing a b
  if x.all (fun j => decide ((Tab.get [] m.crossed j).length < 256)) then
    some { m with
      store := Tab.set (Tab.del m.store a) b e
      crossed := x.foldl (fun c j => Tab.upd [] c j (· ++ [e])) m.crossed
      moves := m.moves + 1 }
  else none

/-- The other candidate bucket of an entry at a slot, if it has one. -/
def Mover.other (m : Mover) (slot : Nat) (e : Entry) : Option Nat :=
  let (b0, b1) := buckets m.seed e.ktype e.tenant e.key
  if b0 = b1 then none else if slot / 8 = b0 then some b1 else some b0

/-- The free places for an entry in its candidate buckets: those of b0, where it has one there, else those of b1 (R180). -/
def Mover.room (m : Mover) (b0 b1 size : Nat) : List Nat :=
  if (freePlaces m.store b0 size).isEmpty then freePlaces m.store b1 size else freePlaces m.store b0 size

/-- The buckets that `n` moves out of the listed ones can concern: those, the other candidates of their entries, and so on. -/
def Mover.within (m : Mover) : Nat → List Nat → List Nat
  | 0, l => l
  | n + 1, l =>
    let next := (m.store.filter (fun e => l.contains (e.1 / 8))).filterMap (fun e => m.other e.1 e.2)
    Mover.within m n (l ++ (next.filter (fun b => !l.contains b)).eraseDups)

/-- Every move of an entry out of the listed buckets to a free place of its other candidate bucket: from, to, and the entry. A
learn request leaves static entries alone (R174). The order is the module's choice (notes/assumptions/10.md). -/
def Mover.options (m : Mover) (l : List Nat) : List (Nat × Nat × Entry) :=
  let all := (m.store.filter (fun e => l.contains (e.1 / 8) && !(m.learning && e.2.static))).flatMap (fun e =>
    match m.other e.1 e.2 with
    | some b => (freePlaces m.store b (slotsOf e.2.ktype)).map (fun k => (e.1, k, e.2))
    | none => [])
  let k := Config.slotChoice (64 * m.draw + m.moves) % all.length
  all.drop k ++ all.take k

/-- A sequence of at most `n` moves after which an entry of `size` has room in one of its buckets: what it leaves. -/
def Mover.sequence : Nat → Mover → Nat → Nat → Nat → Option Mover
  | 0, m, b0, b1, size => if (m.room b0 b1 size).isEmpty then none else some m
  | n + 1, m, b0, b1, size =>
    if (m.room b0 b1 size).isEmpty then
      (m.options (m.within n [b0, b1])).findSome? (fun x =>
        (m.move x.1 x.2.1 x.2.2).bind (fun m' => Mover.sequence n m' b0 b1 size))
    else some m

/-- The shortest sequence of at most 32 moves that frees a place in either candidate bucket, and the place (R180). -/
def Mover.search (m : Mover) (b0 b1 size : Nat) : Option (Nat × Mover) :=
  ((List.range 33).findSome? (fun n => Mover.sequence n m b0 b1 size)).bind (fun m' =>
    (pickPlace (64 * m.draw + 63) (m'.room b0 b1 size)).map (fun k => (k, m')))

/-- The mover of a plane. -/
def State.mover (s : State) (p : Nat) (learning : Bool) : Mover where
  store := (s.pl p).store
  crossed := (s.pl p).crossed
  cursors := (List.range 4).map (fun j => (j, cursorIn p (s.rd 0x1440 j)))
  seed := s.seed
  learning := learning
  draw := s.drawn
  moves := 0

/-! ### Length filters (R192, R193) -/

/-- The index of a family and length (R218 [fl]): IPv4 0 to 32, IPv6 33 + length. -/
def filterIndex (v6 : Bool) (len : Nat) : Nat := if v6 then 33 + len else len

/-- The key type of a family. -/
def prefixType (v6 : Bool) : Nat := if v6 then 3 else 2

/-- The address masked to a length. -/
def maskAddr (v6 : Bool) (len a : Nat) : Nat :=
  let w := if v6 then 128 else 32
  (a >>> (w - len)) <<< (w - len)

/-- A prefix key (R176). -/
def prefixKey (v6 : Bool) (vrf len a : Nat) : Nat :=
  if v6 then vrf * 2 ^ 136 + len * 2 ^ 128 + maskAddr v6 len a else vrf * 2 ^ 38 + len * 2 ^ 32 + maskAddr v6 len a

/-- The length of a prefix key. -/
def keyLen (ktype key : Nat) : Nat := if ktype = 3 then field key 135 128 else field key 37 32

/-- The prefixes of a length in a store (PID 1436h). -/
def prefixCount (store : Tab Entry) (v6 : Bool) (len : Nat) : Nat :=
  (store.filter (fun e => e.2.ktype == prefixType v6 && keyLen e.2.ktype e.2.key == len)).length

/-- The key of the controller's record of host entries. -/
def hostKey (ktype tenant key : Nat) : Nat := (ktype * 16 + tenant) * 2 ^ 160 + key

/-- The length index of a host key; none where it is no prefix. -/
def hostLength (h : Nat) : Option Nat :=
  let t := h / 2 ^ 164
  if t = 2 ∨ t = 3 then some (filterIndex (t == 3) (keyLen t (h % 2 ^ 160))) else none

/-- The prefixes of a length in the active controller's record, which both planes' filters follow, as host keys. -/
def State.prefixesOf (s : State) (fl : Nat) : List Nat := (Tab.keys s.hostTab).filter (fun h => hostLength h == some fl)

/-- The banks that `n` prefixes need at the filter load (PID 1437h): at least one. -/
def State.banksFor (s : State) (n : Nat) : Nat := max 1 ((n * s.rd 0x1437 0 + 131071) / 131072)

/-- The first bank of a length and their number (PID 1435h); none where it has none. -/
def State.banksOf (s : State) (fl : Nat) : Nat × Nat := Tab.get (0, 0) s.banks fl

/-- The length that owns a bank. -/
def State.bankOwner (s : State) (bank : Nat) : Option Nat :=
  (Tab.search (fun e => decide (e.2.1 ≤ bank ∧ bank < e.2.1 + e.2.2)) s.banks).map Prod.fst

/-- The lengths with prefixes. -/
def State.populated (s : State) : List Nat := ((Tab.keys s.hostTab).filterMap hostLength).eraseDups

/-- The bits of a host key: its bank by H0, and four positions in it (R192). -/
def State.filterBits (s : State) (fl h : Nat) : Nat × List Nat :=
  let (first, n) := s.banksOf fl
  let key := h % 2 ^ 160
  (first + crc32cFrom s.seed (hashInput (h / 2 ^ 164) (h / 2 ^ 160 % 16) key) % n,
    ([0, 1, 2, 3] : List (Fin 4)).map (fun k => crc32cFrom (Config.filterSeed s.filterEpoch k).toNat (toBytes 20 key) % 131072))

/-- The active controller's count of a filter bit (R193): the prefixes of the bank's length that set it. -/
def State.bitCount (s : State) (fl bank pos : Nat) : Nat :=
  countOf (s.prefixesOf fl) (fun h => let b := s.filterBits fl h; b.1 == bank && b.2.contains pos)

/-- Whether a length's filter reports a host key possibly present: all four bits are set. A length without a bank reports every key
(notes/assumptions/10.md). -/
def State.lengthHit (s : State) (fl h : Nat) : Bool :=
  (s.banksOf fl).2 == 0 || (let b := s.filterBits fl h; b.2.all (fun pos => decide (0 < s.bitCount fl b.1 pos)))

/-- A rebuild of the filters starts (R193, PID 143Dh). -/
def filterRebuild (s : State) : State := s.wr 0x143D 0 1

/-- A length that needs more banks, or holds more prefixes than its banks allow, has its filter rebuilt (R193). -/
def State.checkBanks (s : State) (fl : Nat) : State :=
  if (s.banksOf fl).2 < s.banksFor (s.prefixesOf fl).length then filterRebuild s else s

/-- A length after a prefix of it was inserted: its first one takes a spare bank, of the module's choice, and what the banks do not
allow starts a rebuild (R192, R193). -/
def State.lengthGrew (s : State) (fl : Nat) : State :=
  let spare := (List.range 64).filter (fun b => (s.bankOwner b).isNone)
  let s := if fl ≠ 0 ∧ fl ≠ 33 ∧ (s.banksOf fl).2 = 0 then
      match pickPlace s.drawn spare with
      | some b => { s with banks := Tab.set s.banks fl (b, 1) }
      | none => s
    else s
  if fl = 0 ∨ fl = 33 then s else s.checkBanks fl

/-- A length after a prefix of it was deleted: the banks of its last one are spare. -/
def State.lengthShrank (s : State) (fl : Nat) : State :=
  if (s.prefixesOf fl).isEmpty then { s with banks := Tab.del s.banks fl } else s

/-- The layout of a rebuild: the populated lengths, in an order of the module's choice, each with the banks it needs and of the spare
ones as many as the module chooses (R192). -/
def State.layBanks (s : State) : Tab (Nat × Nat) :=
  let l := s.populated.filter (fun fl => fl != 0 && fl != 33)
  let k := Config.slotChoice s.filterEpoch % l.length
  let need (fl : Nat) : Nat := s.banksFor (s.prefixesOf fl).length
  let spare := 64 - (l.map need).sum
  ((l.drop k ++ l.take k).foldl (fun (t, first, spare) fl =>
    let extra := Config.bankExtra s.filterEpoch fl % (spare + 1)
    let n := need fl + extra
    if first + n ≤ 64 then (Tab.set t fl (first, n), first + n, spare - extra) else (t, first, spare)) (([] : Tab (Nat × Nat)), 0, spare)).1

/-- The rebuilt filters are switched over in one write (R193). -/
def filterRebuildComplete (s : State) : State :=
  if s.flag 0x143D 0 then
    let s := { s.wr 0x143D 0 0 with filterEpoch := s.filterEpoch + 1 }
    { s with banks := s.layBanks }
  else s

/-- FILTER_REBUILD_COMPLETE (R193). -/
def execFilterRebuildComplete (el : Nat) (s : State) : Out := s.run el filterRebuildComplete

/-! ### Insertion (R180 to R182, R196) -/

/-- Slots taken by prefixes, and by them the LPM quota is counted (R196). -/
def prefixSlots (store : Tab Entry) : Nat :=
  store.foldl (fun n e => if e.2.ktype = 2 ∨ e.2.ktype = 3 then n + slotsOf e.2.ktype else n) 0

/-- The next generation of a plane (PID 141Dh). -/
def State.nextGen (s : State) (p : Nat) : Nat := (s.rd 0x141D p + 1) % 65536

/-- A place for an entry of a plane, found without changing anything (R180, R182). -/
def State.findPlace (s : State) (p : Nat) (learning : Bool) (ktype tenant key : Nat) : Option (Nat × Mover) :=
  let (b0, b1) := buckets s.seed ktype tenant key
  (s.mover p learning).search b0 b1 (slotsOf ktype)

/-- Fault bit 97 (R217): the slots in use of a plane have come to exceed PID 1403h; `before` where they already did. -/
def State.watchSlots (s : State) (p : Nat) (before : Bool) : State :=
  if before = false ∧ s.rd 0x1403 0 < slotsUsed (s.pl p).store then s.fault 97 p else s

/-- Records what an insertion did: the generation, the longest sequence, the occupancy warning (R217). -/
def State.placed (s : State) (p : Nat) (m : Mover) (store : Tab Entry) : State :=
  let before := slotsUsed (s.pl p).store
  let s := s.updPl p (fun q => { q with store := store, crossed := m.crossed })
  let s := (s.wr 0x141D p (s.nextGen p)).high 0x1405 p m.moves
  let s := m.crossed.foldl (fun s c => s.high 0x1441 p c.2.length) s
  let s := { s with drawn := s.drawn + 1 }
  s.watchSlots p (decide (s.rd 0x1403 0 < before))

/-- Writes an entry at a place the search found. -/
def State.putEntry (s : State) (p : Nat) (e : Entry) (place : Nat × Mover) : State :=
  s.placed p place.2 (Tab.set place.2.store place.1 { e with gen := s.nextGen p })

/-- Inserts a new entry into a plane (R180); `none` where there is no place. -/
def State.insertNew (s : State) (p : Nat) (learning : Bool) (e : Entry) : Option State :=
  (s.findPlace p learning e.ktype e.tenant e.key).map (s.putEntry p e)

/-- A failed insertion: fault bit 101 where a crossed list of the plane is full (R210). -/
def State.insertFailed (s : State) (p : Nat) : State :=
  if (s.pl p).crossed.any (fun c => decide (256 ≤ c.2.length)) then s.fault 101 p else s

/-- The relocation by which a pair is replaced (R181): the old pair gives way to a free pair of its buckets, one to which no crossed
list without room would have to take it (R210). -/
def Mover.replace (m : Mover) (place : Nat) (e : Entry) : Option (Nat × Mover) :=
  match findEntry m.store e.ktype e.tenant e.key with
  | some (k, old) =>
    let (b0, b1) := buckets m.seed e.ktype e.tenant e.key
    (place :: m.room b0 b1 2 ++ freePlaces m.store b1 2).findSome? (fun b =>
      (m.move k b old).map (fun m' => (b, { m' with moves := m.moves })))
  | none => some (place, m)

/-- The plan of a host insertion in one plane (R181, R182): in place, by relocation of a pair, or a new place. -/
def State.planHost (s : State) (p : Nat) (e : Entry) : Option (State → State) :=
  match findEntry (s.pl p).store e.ktype e.tenant e.key with
  | some (slot, _) =>
    if slotsOf e.ktype = 1 then
      some (fun s =>
        let g := s.nextGen p
        let s := s.updPl p (fun q => { q with store := Tab.set q.store slot { e with gen := g } })
        s.wr 0x141D p g)
    else
      ((s.findPlace p false e.ktype e.tenant e.key).bind (fun place => place.2.replace place.1 e)).map (fun place s => s.putEntry p e place)
  | none => (s.findPlace p false e.ktype e.tenant e.key).map (fun place s => s.putEntry p e place)

/-- A host entry of a request record: the frozen flag clears (R188). -/
def hostEntry (ktype tenant key result : Nat) (static activity : Bool) : Entry :=
  ⟨ktype, tenant, key, result, static, false, false, activity, 0, [], 0⟩

/-- A plane whose tables are being copied from the other one (R207). -/
def State.loadingPlane (s : State) (p : Nat) : Bool := s.rd 0x2826 0 == 3 && s.rd 0x2827 0 == p

/-- The planes that writing table commands act on: on, and with their tables loaded (R182, R207; bond states 1 to 3). -/
def State.inService (s : State) : List Nat :=
  (List.range 2).filter (fun p =>
    s.isOn (domPlane p) && (s.rd 0x281F p == 1 || s.rd 0x281F p == 2 || s.rd 0x281F p == 3) && !s.loadingPlane p)

/-- The outcome of a host insertion. -/
inductive Inserted where
  | ok | full | noPlane
  deriving DecidableEq, Repr

/-- Inserts or replaces a host entry in every plane in service, or in none (R182). -/
def State.insertHost (s : State) (e : Entry) : State × Inserted :=
  let planes := s.inService
  let isPrefix := e.ktype = 2 ∨ e.ktype = 3
  let past (p : Nat) : Bool :=
    decide isPrefix && (findEntry (s.pl p).store e.ktype e.tenant e.key).isNone &&
      decide (393216 < prefixSlots (s.pl p).store + slotsOf e.ktype)
  if planes.isEmpty then (s, .noPlane)
  else if planes.any past then (s, .full)
  else if planes.all (fun p => (s.planHost p e).isSome) then
    let s := planes.foldl (fun s p => match s.planHost p e with
      | some f => f s
      | none => s) s
    let s := { s with hostTab := Tab.set s.hostTab (hostKey e.ktype e.tenant e.key) (e.result, e.static) }
    (match hostLength (hostKey e.ktype e.tenant e.key) with
     | some fl => s.lengthGrew fl
     | none => s, .ok)
  else (planes.foldl (fun s p => if (s.planHost p e).isNone then s.insertFailed p else s) s, .full)

/-- Removes the entry of a key from the planes in service (R193, R208): whether one held it. -/
def State.deleteKey (s : State) (ktype tenant key : Nat) : State × Bool :=
  let held := s.inService.filter (fun p => (findEntry (s.pl p).store ktype tenant key).isSome)
  let s := held.foldl (fun s p => s.updPl p (fun q =>
    match findEntry q.store ktype tenant key with
    | some (k, _) => { q with store := Tab.del q.store k }
    | none => q)) s
  let s := { s with hostTab := Tab.del s.hostTab (hostKey ktype tenant key) }
  (match hostLength (hostKey ktype tenant key) with
   | some fl => s.lengthShrank fl
   | none => s, !held.isEmpty)

/-! ### Results (R177) -/

/-- A MAC key (R176). -/
def macKey (fid mac : Nat) : Nat := fid * 2 ^ 48 + mac
/-- The destination of a result, coded as bed bits [187:168]. -/
def resDest (r : Nat) : Nat := field r 127 108
/-- The logical rewrite index of a result. -/
def resRewrite (r : Nat) : Nat := field r 107 90
/-- The route bit of a result. -/
def resRoute (r : Nat) : Bool := r.testBit 89
/-- The VRF of a result. -/
def resVrf (r : Nat) : Nat := field r 88 77
/-- The result of a learned entry: destination type 1, the ingress port (R185). -/
def portResult (port : Nat) : Nat := (2 ^ 18 + port) * 2 ^ 108

/-! ### Learning (R184 to R188) -/

/-- Learned entries that satisfy a test. -/
def learnedCount (store : Tab Entry) (f : Entry → Bool) : Nat := (store.filter (fun e => e.2.learned && f e.2)).length

/-- Whether a learned entry lies on a port. -/
def Entry.onPort (e : Entry) (port : Nat) : Bool := resDest e.result == 2 ^ 18 + port

/-- Whether a learn limit refuses an insertion (R186). -/
def State.learnLimited (s : State) (p port tenant : Nat) : Bool :=
  let st := (s.pl p).store
  (s.rd 0x1408 port != 0 && decide (s.rd 0x1408 port ≤ learnedCount st (fun e => e.onPort port))) ||
  (s.rd 0x140A tenant != 0 && decide (s.rd 0x140A tenant ≤ learnedCount st (fun e => e.tenant == tenant)))

/-- The key of the learn filter (R187): pipeline, tenant, FID and MAC address. -/
def learnKey (pipe tenant fid mac : Nat) : Nat := pipe * 2 ^ 80 + tenant * 2 ^ 60 + macKey fid mac

/-- Raises a learn request, within the learn filter and the queue (R185, R187). -/
def State.learnRequest (s : State) (p : Nat) (f : Frame) (tenant fid mac : Nat) : State :=
  let pl := s.pl p
  let win := s.rd 0x1419 0 * 400
  let k := learnKey f.pipe tenant fid mac
  let recent := match Tab.find? pl.learnFilter k with
    | some rc => decide (s.rc < rc + win)
    | none => false
  if recent then s
  else
    let s := s.updPl p (fun q => { q with learnFilter := Tab.set (q.learnFilter.filter (fun e => decide (s.rc < e.2 + win))) k s.rc })
    if f.ended && f.bad then s
    else if 8192 ≤ pl.learnQ.length then (s.inc 0x144C p).noteDrop 98 p 400000
    else
      let s := s.updPl p (fun q => { q with learnQ := q.learnQ ++ [⟨tenant, fid, mac, f.port, f.seq, f.ended⟩] })
      s.high 0x1418 p (pl.learnQ.length + 1)

/-- A group address or all zeros (R184). -/
def invalidSource (mac : Nat) : Bool := mac == 0 || mac.testBit 40

/-- A MAC entry as a frame of the present cycle meets it: with its slot, or without one where the age scan deleted it in this very cycle
(R190). -/
def State.macEntry (s : State) (p tenant key : Nat) : Option (Option Nat × Entry) :=
  match findEntry (s.pl p).store 1 tenant key with
  | some (k, e) => some (some k, e)
  | none =>
    match (s.pl p).aged with
    | some (rc, e) => if rc = s.rc ∧ e.ktype = 1 ∧ e.tenant = tenant ∧ e.key = key then some (none, e) else none
    | none => none

/-- Sets the activity bit of the entry at a slot. -/
def State.touch (s : State) (p : Nat) (slot : Option Nat) (e : Entry) : State :=
  match slot with
  | some k => s.updPl p (fun q => { q with store := Tab.set q.store k { e with activity := true } })
  | none => s

/-- Source lookup and learning (R184, R185): the state, and whether the frame's drop flag is set. -/
def State.sourceStep (s : State) (p : Nat) (f : Frame) (tenant fid mac : Nat) (dropped : Bool) : State × Bool :=
  if f.port < 144 ∧ s.stageAtLeast 2 = true ∧ s.flag 0x1406 0 ∧ s.flag 0x1407 f.port ∧
      (s.rd 0x1412 (4096 * tenant + fid)).testBit 0 = true ∧ dropped = false then
    if invalidSource mac then (s.inc 0x141F p, false)
    else
      match s.macEntry p tenant (macKey fid mac) with
      | none =>
        if s.learnLimited p f.port tenant then (s.inc 0x141E p, s.rd 0x1409 f.port == 1)
        else (s.learnRequest p f tenant fid mac, false)
      | some (slot, e) =>
        let hit := s.touch p slot e
        if resRoute e.result then (hit, false)
        else if e.onPort f.port then (hit, false)
        else if slot.isSome && e.learned && !e.frozen then (hit.learnRequest p f tenant fid mac, false)
        else if e.static then (hit.inc 0x144E p, s.rd 0x140F f.port == 1)
        else (hit, false)
  else (s, false)

/-- The first learn request whose frame has ended well, and the queue without it. -/
def takeReady : List LearnReq → Option (LearnReq × List LearnReq)
  | [] => none
  | r :: t => if r.ready then some (r, t) else (takeReady t).map (fun x => (x.1, r :: x.2))

/-- A station move (R185, R188): the entry changes its port, and is frozen past the station-move limit. -/
def State.stationMove (s : State) (p slot : Nat) (e : Entry) (port : Nat) : State :=
  let moves := e.moves.filter (fun rc => decide (s.rc < rc + 400000000)) ++ [s.rc]
  let freeze := decide (s.rd 0x140D 0 < moves.length)
  let e := { e with result := portResult port, moves := moves, activity := true, frozen := freeze
                    frozenUntil := if freeze then s.rc + s.rd 0x140E 0 * 400000000 else e.frozenUntil }
  (s.updPl p (fun q => { q with store := Tab.set q.store slot e })).inc 0x144D p

/-- Applies a learn request (R185, R186, R187). -/
def State.applyLearn (s : State) (p : Nat) (r : LearnReq) : State :=
  let key := macKey r.fid r.mac
  match findEntry (s.pl p).store 1 r.tenant key with
  | some (slot, e) =>
    if resRoute e.result || e.onPort r.port || !e.learned || e.frozen then s else s.stationMove p slot e r.port
  | none =>
    if s.learnLimited p r.port r.tenant then s.inc 0x141E p
    else
      match s.insertNew p true ⟨1, r.tenant, key, portResult r.port, false, true, false, true, 0, [], 0⟩ with
      | some s => s.inc 0x144A p
      | none => (s.insertFailed p).inc 0x144B p

/-- The learn engine of a plane takes its next request (R185); it stands while the plane's tables are copied (R207). -/
def learnApply (p : Nat) (s : State) : State :=
  match takeReady (s.pl p).learnQ with
  | some (r, rest) => if s.loadingPlane p then s else (s.updPl p (fun q => { q with learnQ := rest })).applyLearn p r
  | none => s

/-- LEARN_APPLY (R185). -/
def execLearnApply (el : Nat) (plane : PlaneNo) (s : State) : Out := s.run el (learnApply plane.val)

/-- The freeze of the entry at a slot ends at its time (R188). -/
def freezeExpiry (p slot : Nat) (s : State) : State :=
  match Tab.find? (s.pl p).store slot with
  | some e =>
    if e.frozen ∧ e.frozenUntil ≤ s.rc then
      s.updPl p (fun q => { q with store := Tab.set q.store slot { e with frozen := false } })
    else s
  | none => s

/-- FREEZE_EXPIRY (R188). -/
def execFreezeExpiry (el : Nat) (plane : PlaneNo) (slot : Fin 1048576) (s : State) : Out :=
  s.run el (freezeExpiry plane.val slot.val)

/-- Learn queue overflows in 1,000 consecutive 1 ms windows (R217). -/
def execLearnOverflowFault (el : Nat) (plane : PlaneNo) (s : State) : Out :=
  s.run el (fun s => s.sustained 98 plane.val 400000 1000)

/-! ### Ageing (R189) -/

/-- A sweep starts: the tenants it tests are those whose ageing time has passed since the start of the last sweep that tested
them. -/
def State.sweepStart (s : State) (p : Nat) : State :=
  let tests := (List.range 16).filter (fun t =>
    s.flag 0x140C t && decide (Tab.get 0 (s.pl p).tested t + s.rd 0x140B t * 400000000 ≤ s.rc))
  s.updPl p (fun q => { q with sweepStart := s.rc, sweepTests := tests
                               tested := tests.foldl (fun l t => Tab.set l t s.rc) q.tested })

/-- The age scan visits the next slot (R189); it stands while the plane's tables are copied (R207). -/
def ageScan (p : Nat) (s : State) : State :=
  if s.isOn (domPlane p) = true ∧ s.loadingPlane p = false then
    let k := s.rd 0x141A p
    let s := if k = 0 then s.sweepStart p else s
    let s := match Tab.find? (s.pl p).store k with
      | some e =>
        if e.learned && !e.static && s.flag 0x140C e.tenant && (s.pl p).sweepTests.contains e.tenant then
          if e.activity then s.updPl p (fun q => { q with store := Tab.set q.store k { e with activity := false } })
          else (s.updPl p (fun q => { q with store := Tab.del q.store k, aged := some (s.rc, e) })).inc 0x144F p
        else s
      | none => s
    if k + 1 = 1048576 then (s.wr 0x141A p 0).inc 0x141B p else s.wr 0x141A p (k + 1)
  else s

/-- AGE_SCAN (R189). -/
def execAgeScan (el : Nat) (plane : PlaneNo) (s : State) : Out := s.run el (ageScan plane.val)

/-! ### Memory errors (R216) -/

/-- The host entries of the active controller's record that a plane lacks are written into it (R216). -/
def State.restoreHosts (s : State) (p : Nat) : State :=
  s.hostTab.foldl (fun s h =>
    let ktype := h.1 / 2 ^ 164
    let tenant := h.1 / 2 ^ 160 % 16
    let key := h.1 % 2 ^ 160
    if (findEntry (s.pl p).store ktype tenant key).isSome then s
    else (s.insertNew p false (hostEntry ktype tenant key h.2.1 h.2.2 false)).getD s) s

/-- An uncorrectable slot error: the entry is lost in that plane; a host entry is rewritten from the active controller's record
(notes/assumptions/11.md: within the same step), or once there is an active controller (11 R344). -/
def exactMatchMemoryError (p slot : Nat) (s : State) : State :=
  let s := (s.inc 0x1449 p).fault 96 p
  match entryAt (s.pl p).store slot with
  | some (k, e) =>
    let s := s.updPl p (fun q => { q with store := Tab.del q.store k })
    match Tab.find? s.hostTab (hostKey e.ktype e.tenant e.key) with
    | some (r, st) =>
      if e.learned = true ∨ s.holder = none then s else (s.insertNew p false (hostEntry e.ktype e.tenant e.key r st false)).getD s
    | none => s
  | none => s

/-- EXACT_MATCH_MEMORY_ERROR (R216). -/
def execExactMatchMemoryError (el : Nat) (plane : PlaneNo) (slot : Fin 1048576) (s : State) : Out :=
  s.run el (exactMatchMemoryError plane.val slot.val)

/-! ### The lengths of a route lookup (R194) -/

/-- Whether a length is a candidate of a lookup (R192, R194): its filter reports it, and every prefix held (R193); length 0 when it is
present in any VRF of the tenant. -/
def State.reported (s : State) (p : Nat) (v6 : Bool) (tenant vrf len a : Nat) : Bool :=
  let st := (s.pl p).store
  if len = 0 then st.any (fun e => e.2.ktype == prefixType v6 && e.2.tenant == tenant && keyLen e.2.ktype e.2.key == 0)
  else
    (findEntry st (prefixType v6) tenant (prefixKey v6 vrf len a)).isSome ||
      (!(s.prefixesOf (filterIndex v6 len)).isEmpty &&
        s.lengthHit (filterIndex v6 len) (hostKey (prefixType v6) tenant (prefixKey v6 vrf len a)))

/-- The candidate lengths, longest first; below the resume length on a second pass (R194). -/
def State.candidates (s : State) (p : Nat) (v6 : Bool) (tenant vrf a : Nat) (below : Option Nat) : List Nat :=
  let w := if v6 then 128 else 32
  ((List.range (w + 1)).reverse).filter (fun len =>
    (match below with
     | some b => decide (len < b)
     | none => true) && s.reported p v6 tenant vrf len a)

end Sys2Proof.Machine
end

