-- ==== Sys2Proof/Machine/Pools.lean ====
section
/-! DEFINITION. Tiles and pools of a plane (07 R219 to R241): the free map, the prefetch caches, pool rooms and credits, the
checked release, quarantine and scrub; the room and shortfall of courses (09 R281 to R284); PFC and PAUSE sent (04 R110). -/

namespace Sys2Proof.Machine

/-! ### The free map (R224, R225) -/

/-- The lowest number, from `n` up, that a rising list does not hold. -/
def lowestGap : List Nat → Nat → Nat
  | [], n => n
  | k :: t, n => if n < k then n else lowestGap t (if k = n then n + 1 else n)

/-- A rising list with a number added. -/
def insertRising : List Nat → Nat → List Nat
  | [], x => [x]
  | k :: t, x => if x < k then x :: k :: t else if x = k then k :: t else k :: insertRising t x

/-- The lowest free tile (R224). -/
def Plane.firstFree (q : Plane) : Option Nat :=
  let t := lowestGap q.taken 0
  if t < 24576 then some t else none

/-- The tiles held in prefetch caches. -/
def Plane.cachedTiles (q : Plane) : List Nat := q.caches.flatMap (fun e => e.2)

/-- Moves up to `n` free tiles into a pipeline's cache. -/
def Plane.fillCache (pipe : Nat) : Nat → Plane → Plane
  | 0, q => q
  | n + 1, q =>
    match q.firstFree with
    | some t => Plane.fillCache pipe n { q with taken := insertRising q.taken t, caches := Tab.upd [] q.caches pipe (· ++ [t]) }
    | none => q

/-- The tiles in a pipeline's cache. -/
def Plane.cache (q : Plane) (pipe : Nat) : List Nat := Tab.get [] q.caches pipe

/-- A refill of a cache below 16 tiles, to 32 (R225). -/
def Plane.refill (q : Plane) (pipe : Nat) : Plane :=
  if (q.cache pipe).length < 16 then q.fillCache pipe (32 - (q.cache pipe).length) else q

/-- Takes a tile from a pipeline's cache; an empty cache is refilled first, and there is none only where the free map has
none (R225). -/
def Plane.takeTile (q : Plane) (pipe : Nat) : Plane × Option Nat :=
  let q := if (q.cache pipe).isEmpty then q.refill pipe else q
  match q.cache pipe with
  | t :: rest => ({ q with caches := Tab.set q.caches pipe rest }, some t)
  | [] => (q, none)

/-- The numbers 0 to 7 in rotating order from one of them. -/
def rotation (n : Nat) : List Nat := (List.range 8).map (fun k => (n + k) % 8)

/-- The cache whose turn it is: the first below 16 tiles, in rotating order (R225). -/
def Plane.nextRefill (q : Plane) : Option Nat := (rotation q.refillNext).find? (fun n => decide ((q.cache n).length < 16))

/-- The free map refills the cache of a pipeline when its turn has come (R225). -/
def Plane.serveRefill (q : Plane) (pipe : Nat) : Plane :=
  if q.nextRefill = some pipe then { q.refill pipe with refillNext := (pipe + 1) % 8 } else q

/-- CACHE_REFILL (R225). -/
def execCacheRefill (el : Nat) (plane : PlaneNo) (pipe : Fin 8) (s : State) : Out :=
  s.run el (fun s => s.updPl plane.val (fun q => q.serveRefill pipe.val))

/-! ### Pool sizes (R227) -/

/-- The sum of a parameter, whose default is 0, over its instances. -/
def State.sumOf (s : State) (pid : Nat) : Nat :=
  s.regs.foldl (fun a e => if e.1 / 2 ^ 32 = pid then a + e.2 else a) 0

/-- The configured size of S before the subtraction could go below zero (R227). -/
def State.sBudget (s : State) : Int :=
  24320 - s.sumOf 0x1805 - s.sumOf 0x1807 - s.rd 0x180D 0 - s.rd 0x1811 0 - s.rd 0x1812 0 - s.rd 0x1813 0 - s.rd 0x1815 0 -
    s.sumOf 0x0838

/-- S as configured (PID 180Bh). -/
def State.sSize (s : State) : Nat := s.sBudget.toNat

/-- K tiles held by frames charged to any course of a port (R281, PID 1C15h). -/
def Plane.heldK (q : Plane) (port : Nat) : Nat :=
  q.pools.k.foldl (fun a e => if e.1 / 64 = port then a + e.2 else a) 0

/-- A live course record of a port (PID 1C0Dh), and its reservation. -/
def State.course (s : State) (port c : Nat) : Nat := s.rd 0x1C0D (64 * port + c)
/-- The reservation of a course record (R276). -/
def courseTiles (r : Nat) : Nat := bytesAt 16 r 8 9

/-- The reservation of the course in phases 1 to 3 (R282): a settling course keeps the record it was opened with. -/
def State.shownTiles (s : State) (port : Nat) : Nat :=
  let c := s.rd 0x1C13 port
  let r := if s.rd 0x1C12 port = 3 then
      (((Tab.get CoursePort.init s.courses port).old.find? (fun x => x.course == c)).map ClosedCourse.record).getD (s.course port c)
    else s.course port c
  courseTiles r

/-- The tiles a port withholds from lending (R282, R289). -/
def State.withheld (s : State) (p port : Nat) : Nat :=
  let held := (s.pl p).heldK port
  if s.gateShut (domPlane p) 1 then held
  else if s.rd 0x1C11 0 = 2 then (if s.rd 0x1C10 0 = 0 then max (s.rd 0x1C0E port) held else held)
  else if s.rd 0x1C12 port = 0 then held
  else max (s.shownTiles port) held

/-- The K tiles lent to S in a plane (R283, PID 180Fh). -/
def State.lent (s : State) (p : Nat) : Nat :=
  if s.rd 0x180D 0 = 0 then 0
  else s.rd 0x180D 0 - (List.range 144).foldl (fun a i => a + s.withheld p i) 0

/-- S's own tiles in a plane: the configured size less the quarantine set (R227, R239). -/
def State.sOwn (s : State) (p : Nat) : Nat := s.sSize - (s.pl p).quar.length

/-! ### Shortfalls (09 R284) -/

/-- The excess of a plane: code-3 tiles held beyond those lent. -/
def State.excess (s : State) (p : Nat) : Nat := (s.pl p).pools.loan - s.lent p

/-- Lowers the outstanding shortfalls of the open courses, in ascending port order, by `d`. -/
def lowerShort (opened : Nat → Bool) : Tab Nat → Nat → Tab Nat
  | [], _ => []
  | (k, v) :: t, d =>
    if opened k = false then (k, v) :: lowerShort opened t d
    else if v ≤ d then lowerShort opened t (d - v) else (k, v - d) :: t

/-- The sum of the outstanding shortfalls. -/
def Plane.shortSum (q : Plane) : Nat := q.sched.short.foldl (fun a e => a + e.2) 0

/-- Whether a key 64 × port + course names the course open on the port. -/
def State.openKey (s : State) (k : Nat) : Bool := s.rd 0x1C12 (k / 64) == 2 && s.rd 0x1C13 (k / 64) == k % 64

/-- Keeps the shortfalls no greater than the excess (R284). -/
def State.settleShort (s : State) (p : Nat) : State :=
  if (s.pl p).sched.short.isEmpty then s
  else
    let d := (s.pl p).shortSum - s.excess p
    s.updPl p (fun q => { q with sched := { q.sched with short := lowerShort s.openKey q.sched.short d } })

/-- `settleShort` in both planes: after every change that lets the lent tiles rise. -/
def State.settleShorts (s : State) : State := (s.settleShort 0).settleShort 1

/-! ### Rooms, charges and credits (R228, R229) -/

/-- The limit of an X sub-pool. -/
def State.xLimit (s : State) (k : Nat) : Nat := s.rd (0x1811 + k) 0

/-- A port's calendar. -/
def State.calendar (s : State) (port : Nat) : CoursePort := Tab.get CoursePort.init s.courses port

/-- The record of a course that a frame may still draw on: of the course open on the port, or of one that settles
(09 R281). -/
def State.liveRecord (s : State) (port c : Nat) : Option Nat :=
  if s.rd 0x1C12 port = 2 ∧ s.rd 0x1C13 port = c then some (s.course port c)
  else ((s.calendar port).old.find? (fun x => x.course == c)).map ClosedCourse.record

/-- The room of a frame's course (09 R281): none before its open or after its settled edge. -/
def State.courseRoom (s : State) (p : Nat) (d : Desc) : Nat :=
  match d.course with
  | some c =>
    match s.liveRecord d.kport c with
    | some r => courseTiles r - Tab.get 0 (s.pl p).sched.short (64 * d.kport + c) - (s.pl p).heldK d.kport
    | none => 0
  | none => 0

/-- Tiles a pool can still give to a frame (R229); code 2 stands for S with or without a loan. -/
def State.room (s : State) (p : Nat) (d : Desc) (code : Nat) : Nat :=
  let q := (s.pl p).pools
  match code with
  | 0 => s.rd 0x1805 d.group - Tab.get 0 q.g d.group
  | 1 => s.rd 0x1807 d.tenant - Tab.get 0 q.t d.tenant
  | 2 =>
    let all := s.sOwn p + s.lent p - q.s
    let ceil := s.rd 0x1809 d.tenant
    if ceil = 0 then all else min all (ceil - Tab.get 0 q.st d.tenant)
  | 4 => s.courseRoom p d
  | 5 => s.xLimit d.xsub - Tab.get 0 q.x d.xsub
  | 6 => s.rd 0x0838 (8 * d.frame.port + d.frame.icls) - Tab.get 0 q.h (8 * d.frame.port + d.frame.icls)
  | _ => s.rd 0x1815 0 - q.o

/-- The room of a whole chain. -/
def State.chainRoom (s : State) (p : Nat) (d : Desc) : Nat := d.chain.foldl (fun a c => a + s.room p d c) 0

/-- Pool counts with `n` tiles (signed) of a code added for a frame. -/
def Pools.add (q : Pools) (d : Desc) (code : Nat) (up : Bool) : Pools :=
  let f (v : Nat) : Nat := if up then v + 1 else v - 1
  match code with
  | 0 => { q with g := Tab.upd 0 q.g d.group f }
  | 1 => { q with t := Tab.upd 0 q.t d.tenant f }
  | 2 => { q with s := f q.s, st := Tab.upd 0 q.st d.tenant f }
  | 3 => { q with s := f q.s, st := Tab.upd 0 q.st d.tenant f, loan := f q.loan }
  | 4 => { q with k := Tab.upd 0 q.k (64 * d.kport + d.course.getD 63) f }
  | 5 => { q with x := Tab.upd 0 q.x d.xsub f }
  | 6 => { q with h := Tab.upd 0 q.h (8 * d.frame.port + d.frame.icls) f }
  | _ => { q with o := f q.o }

/-- The pool counts with the occupancy of R226 moved as well. -/
def Pools.move (q : Pools) (d : Desc) (code : Nat) (up : Bool) : Pools :=
  let q := q.add d code up
  { q with occ := Tab.upd 0 q.occ (8 * d.frame.port + d.frame.icls) (fun v => if up then v + 1 else v - 1) }

/-- A pool of a frame, as contention tells pools apart: the code, and the queue group, tenant, course port, X sub-pool or headroom. -/
def Desc.poolKey (d : Desc) (code : Nat) : Nat :=
  code * 2 ^ 32 + (match code with
    | 0 => d.group
    | 1 => d.tenant
    | 4 => d.kport
    | 5 => d.xsub
    | 6 => 8 * d.frame.port + d.frame.icls
    | _ => 0)

/-- A pipeline asks one pool of a frame for a tile (R233): whether it is granted. Where more pipelines ask in one buffer clock than the
pool has room for, they are granted in rotating order; each refusal is counted, and the pointer moves past the last one granted. -/
def State.askPool (s : State) (p : Nat) (d : Desc) (code : Nat) : State × Bool :=
  let x := (s.pl p).contest
  let me := d.frame.pipe
  let room := s.room p d code
  let all := (rotation (s.rd 0x181B p)).filter (fun g => g == me || x.rivals.testBit g)
  if room = 0 then (s, false)
  else if x.rc = s.rc ∧ x.pool = d.poolKey code ∧ x.refused.contains me = true then
    (s.updPl p (fun q => { q with contest := { q.contest with refused := q.contest.refused.filter (· != me) } }), false)
  else if all.length ≤ room then (s, true)
  else
    let lost := all.drop room
    let s := (s.incBy 0x181C p lost.length).wr 0x181B p (((all.take room).getLast?.getD 0 + 1) % 8)
    (s.updPl p (fun q => { q with contest := ⟨0, s.rc, d.poolKey code, lost.filter (· != me)⟩ }), !lost.contains me)

/-- The code a tile takes of a chain: the first pool that grants it; S beyond its own tiles gives code 3 (R229). -/
def State.ask (s : State) (p : Nat) (d : Desc) : List Nat → State × Option Nat
  | [] => (s, none)
  | c :: t =>
    match s.askPool p d c with
    | (s, true) => (s, some (if c = 2 ∧ s.sOwn p ≤ (s.pl p).pools.s - (s.pl p).pools.loan then 3 else c))
    | (s, false) => State.ask s p d t

/-- Runs what a command makes a pipeline do while the pipelines of a mask ask in the same buffer clock for tiles of the pool that it
asks first (R233). -/
def contested (p rivals : Nat) (f : State → State) (s : State) : State :=
  if rivals = 0 then f s
  else
    let with_ (m : Nat) (s : State) : State := s.updPl p (fun q => { q with contest := { q.contest with rivals := m } })
    with_ 0 (f (with_ rivals s))

/-- Counts what a charged tile of a course's frame shows (09 R281, R293): K tiles allocated and the peak, or an overflow. -/
def State.countCourse (s : State) (p : Nat) (d : Desc) (code : Nat) : State :=
  match d.course with
  | some c =>
    let i := 9216 * p + 64 * d.kport + c
    if code = 4 then (s.inc 0x1C17 i).high 0x1C1C i (Tab.get 0 (s.pl p).pools.k (64 * d.kport + c))
    else s.inc 0x1C1B i
  | none => s

/-- The sum of the counts of every pool. -/
def Pools.total (q : Pools) : Nat :=
  let sum (t : Tab Nat) : Nat := t.foldl (fun a e => a + e.2) 0
  sum q.g + sum q.t + q.s + sum q.k + sum q.x + sum q.h + q.o

/-- Allocates one tile of a frame and charges it (R225, R229): the tile and its code, or none. -/
def State.allocate (s : State) (p : Nat) (d : Desc) (code : Nat) : State × Option Nat :=
  let (q, t) := (s.pl p).takeTile d.frame.pipe
  match t with
  | some t =>
    let q := { q with pools := q.pools.move d code true, tiles := Tab.set q.tiles t ⟨0, false, code⟩ }
    let s := s.updPl p (fun _ => q)
    ((s.high 0x182A p q.pools.total).countCourse p d code, some t)
  | none => (s.updPl p (fun _ => q), none)

/-! ### Scrub (R238, R239) -/

/-- The chain of a live frame, from its head to its last tile. -/
def Plane.chainOf (q : Plane) : Nat → Nat → Nat → List Nat
  | 0, _, _ => []
  | n + 1, t, tail =>
    if t = tail then [t]
    else match Tab.find? q.tiles t with
      | some x => t :: Plane.chainOf q n x.next tail
      | none => [t]

/-- The tiles of the live chains. -/
def Plane.liveTiles (q : Plane) : List Nat := q.desc.flatMap (fun e => q.chainOf 36 e.1 e.2.tail)

/-- Starts a scrub of a plane, or queues one behind the scrub that runs (R239). -/
def State.startScrub (s : State) (p : Nat) : State :=
  let q := s.pl p
  if q.scrub.running then s.updPl p (fun q => { q with scrub := { q.scrub with queued := true } })
  else
    let cached := q.cachedTiles
    let live := q.liveTiles
    let c := q.taken.filter (fun t => !cached.contains t && !live.contains t)
    (s.updPl p (fun q => { q with scrub := ⟨true, false, q.scrub.lastEnd, s.rc, c⟩ })).wr 0x1825 p 1

/-- A plane's quarantine set has come to the scrub threshold, from `before` tiles (R239): a scrub starts, or waits for the one that
runs. -/
def State.scrubAt (s : State) (p before : Nat) : State :=
  let n := (s.pl p).quar.length
  if s.rd 0x1822 0 ≤ n ∧ ((s.pl p).scrub.running = false ∨ before < s.rd 0x1822 0) then s.startScrub p else s

/-- Notes that a tile was freed or quarantined while a scrub runs. -/
def Plane.unsuspect (q : Plane) (t : Nat) : Plane :=
  if q.scrub.running then { q with scrub := { q.scrub with suspects := q.scrub.suspects.filter (· != t) } } else q

/-! ### Releases (R234 to R240) -/

/-- A tile is free in the free map. -/
def Plane.isFree (q : Plane) (t : Nat) : Bool := !q.taken.contains t

/-- Quarantines a head tile whose release failed (R235, R240). -/
def State.quarantine (s : State) (p t : Nat) : State :=
  let q := s.pl p
  if 512 ≤ q.quar.length then (s.inc 0x1820 (4 * p + 3)).fault 112 p
  else
    let q := { q with flagged := insertRising q.flagged t }
    let q := if q.isFree t then { q with taken := insertRising q.taken t, quar := insertRising q.quar t } else q
    let before := (s.pl p).quar.length
    (s.updPl p (fun _ => q)).scrubAt p before

/-- A free check that failed: counted by kind, with fault bit 112 (R235). -/
def State.freeFailure (s : State) (p kind : Nat) : State := (s.inc 0x1820 (4 * p + kind)).fault 112 p

/-- Frees the chain from a tile, for at most the given number of tiles (R235). A flagged tile that finds the quarantine set full is
counted and left in use (R240). -/
def State.freeChain : Nat → State → Nat → Desc → Nat → State
  | 0, s, _, _, _ => s
  | n + 1, s, p, d, t =>
    if 24576 ≤ t then s.freeFailure p 0
    else if (s.pl p).isFree t then s.freeFailure p 1
    else
      match Tab.find? (s.pl p).tiles t with
      | some x =>
        let q := s.pl p
        let q := { q with pools := q.pools.move d x.code false, tiles := Tab.del q.tiles t }.unsuspect t
        let full := q.flagged.contains t && decide (512 ≤ q.quar.length)
        let q := if q.flagged.contains t && !full then { q with quar := insertRising q.quar t }
          else { q with taken := q.taken.filter (· != t) }
        let s := s.updPl p (fun _ => q)
        let s := if full then (s.inc 0x1820 (4 * p + 3)).fault 112 p else s
        if x.last ∨ t = d.tail then s else State.freeChain n s p d x.next
      | none => s

/-- Sends a PFC or PAUSE frame on a port (04 R104, R110): `prio` 8 for a port-level PAUSE. -/
def controlFrame (mac prio time : Nat) : List Byte :=
  toBytes 6 0x0180C2000001 ++ toBytes 6 mac ++ toBytes 2 0x8808 ++
    (if prio = 8 then toBytes 2 1 ++ toBytes 2 time ++ List.replicate 42 0
     else toBytes 2 0x0101 ++ toBytes 2 (2 ^ prio) ++
       (List.range 8).flatMap (fun k => toBytes 2 (if k = prio then time else 0)) ++ List.replicate 26 0)

/-- What the module's 256 MAC addresses are assigned to (00 R4), by their offset from the base MAC address. -/
inductive MacOwner where
  | management
  | port (i : Nat)
  | controller (c : Nat)
  | reserved
  deriving DecidableEq, Repr

/-- The assignment of an offset (00 R4). -/
def macOwner (offset : Nat) : MacOwner :=
  if offset = 0 then .management
  else if offset ≤ 144 then .port (offset - 1)
  else if offset ≤ 146 then .controller (offset - 145)
  else .reserved

/-- The MAC address at an offset from the base MAC address, whose last byte is 00h. -/
def State.macAt (s : State) (offset : Nat) : Nat := s.rd 0x0003 0 + offset
/-- The addresses of M0, of a port and of a controller (00 R4). -/
def State.managementMac (s : State) : Nat := s.macAt 0
def State.portMac (s : State) (i : Nat) : Nat := s.macAt (1 + i)
def State.controllerMac (s : State) (c : Nat) : Nat := s.macAt (145 + c)

/-- A frame leaves on a port. -/
def State.send (s : State) (i : Nat) (bytes : List Byte) (stomped : Bool) : State :=
  { s with tx := s.tx ++ [⟨i, bytes, stomped, fcsBytes stomped bytes, s.rc⟩] }

/-- Sends and counts a PFC or PAUSE frame (R110, R130). -/
def State.sendPause (s : State) (i prio time : Nat) : State :=
  let s := s.send i (controlFrame (s.portMac i) prio time) false
  if prio = 8 then s.inc 0x3C0E i else s.inc 0x3C0F (8 * i + prio)

/-- The larger of the two planes' counts for a port and priority; 8 for all classes together (R110). -/
def State.occupancy (s : State) (i prio : Nat) : Nat :=
  let one (q : Plane) : Nat :=
    if prio = 8 then (List.range 8).foldl (fun a k => a + Tab.get 0 q.pools.occ (8 * i + k)) 0
    else Tab.get 0 q.pools.occ (8 * i + prio)
  max (one s.pa) (one s.pb)

/-- The threshold instance of a priority; a port-level PAUSE uses priority 0's (notes/assumptions/12.md). -/
def pauseInst (i prio : Nat) : Nat := 8 * i + prio % 8

/-- Acts on the count of one priority (R110). -/
def State.pauseCheckOne (s : State) (i prio : Nat) : State :=
  let n := s.occupancy i prio
  match Tab.find? (s.port i).xoff prio with
  | none =>
    if s.rd 0x0836 (pauseInst i prio) ≤ n then
      (s.updPort i (fun q => { q with xoff := Tab.set q.xoff prio s.rc })).sendPause i prio (s.rd 0x0833 i)
    else s
  | some _ =>
    if n ≤ s.rd 0x0837 (pauseInst i prio) then
      (s.updPort i (fun q => { q with xoff := Tab.del q.xoff prio })).sendPause i prio 0
    else s

/-- Acts on the counts of an ingress port (R110): PFC on the priorities of its mask, or PAUSE where it transmits PAUSE. -/
def State.pauseCheck (s : State) (i : Nat) : State :=
  if 144 ≤ i then s
  else if s.receives i = false then s
  else
    let s := (bitsOf 8 (s.rd 0x0832 i)).foldl (fun s k => s.pauseCheckOne i k) s
    if s.flag 0x0831 i then s.pauseCheckOne i 8 else s

/-- What a freed chain leads to: shortfalls, PFC, and a scrub where the quarantine set, of `before` tiles until then, has come to the
threshold (R239, R284, R110). -/
def State.afterFree (s : State) (p : Nat) (d : Desc) (before : Nat) : State := ((s.settleShort p).pauseCheck d.frame.port).scrubAt p before

/-- Releases a reference (R235). -/
def State.release (s : State) (p h g e : Nat) : State :=
  if 24576 ≤ h then s.freeFailure p 0
  else
    match Tab.find? (s.pl p).desc h with
    | none => (s.freeFailure p 1).quarantine p h
    | some d =>
      if d.refs = 0 then (s.freeFailure p 1).quarantine p h
      else if d.gen ≠ g ∨ d.holders.testBit e = false then (s.freeFailure p 2).quarantine p h
      else
        let d := { d with holders := setBit d.holders e false, refs := d.refs - 1 }
        let s := if popCount 149 d.holders ≠ d.refs then (s.inc 0x3C28 p).fault 114 p else s
        if d.refs = 0 then
          let s := s.updPl p (fun q => { q with desc := Tab.del q.desc h })
          (State.freeChain 36 s p d h).afterFree p d (s.pl p).quar.length
        else s.updPl p (fun q => { q with desc := Tab.set q.desc h d })

/-! ### Scrub end (R238) -/

/-- Pool counts recomputed from the live chains (R238). -/
def Plane.recount (q : Plane) : Pools :=
  q.desc.foldl (fun a e =>
    (q.chainOf 36 e.1 e.2.tail).foldl (fun a t =>
      match Tab.find? q.tiles t with
      | some x => a.move e.2 x.code true
      | none => a) a) Pools.init

/-- The sum over the keys of two tables of the differences of their values. -/
def tabDiff (a b : Tab Nat) : Nat :=
  ((a.map Prod.fst ++ b.map Prod.fst).eraseDups).foldl (fun n k =>
    let x := Tab.get 0 a k
    let y := Tab.get 0 b k
    n + (max x y - min x y)) 0

/-- The differences of the counts of every pool, added up (R238). -/
def Pools.diff (a b : Pools) : Nat :=
  let d (x y : Nat) : Nat := max x y - min x y
  tabDiff a.g b.g + tabDiff a.t b.t + d a.s b.s + tabDiff a.k b.k + tabDiff a.x b.x + tabDiff a.h b.h + d a.o b.o

/-- The scrub of a plane ends (R238). -/
def scrubEnd (p : Nat) (s : State) : State :=
  if (s.pl p).scrub.running then
    let q := s.pl p
    let live := q.liveTiles
    let c := q.scrub.suspects.filter (fun t => !live.contains t)
    let known := c.filter (fun t => q.quar.contains t)
    let leaked := c.filter (fun t => !q.quar.contains t)
    let pools := q.recount
    let diff := pools.diff q.pools
    let again := q.scrub.queued
    let s := s.updPl p (fun q => { q with
      flagged := q.flagged.filter (fun t => !known.contains t)
      quar := q.quar.filter (fun t => !known.contains t)
      taken := q.taken.filter (fun t => !c.contains t)
      tiles := q.tiles.filter (fun e => !c.contains e.1)
      pools := pools
      scrub := ⟨false, false, s.rc, q.scrub.since, []⟩ })
    let s := (s.wr 0x1825 p 0).wr 0x1827 p known.length
    let s := ((s.incBy 0x1828 p leaked.length).incBy 0x1829 p diff).inc 0x1826 p
    let s := if leaked.isEmpty then s else s.fault 115 p
    let s := s.settleShort p
    if again then s.startScrub p else s
  else s

/-- SCRUB_END (R238). -/
def execScrubEnd (el : Nat) (plane : PlaneNo) (s : State) : Out := s.run el (scrubEnd plane.val)

/-- A scrub starts at the quarantine threshold or after the scrub interval (R239); an interval that ends while a scrub runs, and did not
start it, has the next one wait for its end. -/
def scrubStart (p : Nat) (s : State) : State :=
  let x := (s.pl p).scrub
  let due := x.lastEnd + s.rd 0x1823 0 * 400000000
  if s.isOn (domPlane p) ∧
      ((x.running = false ∧ s.rd 0x1822 0 ≤ (s.pl p).quar.length) ∨
        (s.rd 0x1823 0 ≠ 0 ∧ due ≤ s.rc ∧ (x.running = false ∨ x.since < due))) then s.startScrub p else s

/-- SCRUB_START (R239). -/
def execScrubStart (el : Nat) (plane : PlaneNo) (s : State) : Out := s.run el (scrubStart plane.val)

/-- Whether a port sends PFC for a priority, or PAUSE for 8 (R110). -/
def State.sendsPause (s : State) (i prio : Nat) : Bool := if prio = 8 then s.flag 0x0831 i else (s.rd 0x0832 i).testBit prio

/-- XOFF is no longer in force where sending has been disabled (R110). -/
def State.dropXoff (s : State) (i : Nat) : State :=
  s.updPort i (fun q => { q with xoff := q.xoff.filter (fun e => s.sendsPause i e.1) })

/-- PFC_REFRESH (R110): the frame is sent again while the count stays above XON. -/
def pfcRefresh (i prio : Nat) (s : State) : State :=
  match Tab.find? (s.port i).xoff prio with
  | some rc =>
    if s.sendsPause i prio = true ∧ rc + s.rd 0x0834 i * 400 ≤ s.rc ∧ s.rd 0x0837 (pauseInst i prio) < s.occupancy i prio ∧ s.receives i = true then
      (s.updPort i (fun q => { q with xoff := Tab.set q.xoff prio s.rc })).sendPause i prio (s.rd 0x0833 i)
    else s
  | none => s

/-- PFC_REFRESH (R110). -/
def execPfcRefresh (el : Nat) (port : PortNo) (prio : Fin 9) (s : State) : Out := s.run el (pfcRefresh port.val prio.val)

end Sys2Proof.Machine
end

