-- ==== Sys2Proof/Machine/Route.lean ====
section
/-! DEFINITION. What stage S4 does with the forwarding tables (06 R178, R194, R195), and the resolution at the end of S7
(06 R197 to R204). -/

namespace Sys2Proof.Machine

/-- A frame on its way through a pipeline: the state, the frame and its bed. -/
structure Walk where
  s : State
  f : Frame
  bed : Nat

/-- Sets the drop flag. -/
def Walk.drop (w : Walk) : Walk := { w with bed := bedSet w.bed 131 131 1 }

/-- Sets the controller redirect with a reason of R478. -/
def Walk.redirect (w : Walk) (stage reason : Nat) : Walk :=
  { w with bed := bedSet w.bed 129 129 1
           f := if w.f.stage = 0xFF then { w.f with stage := stage, reason := reason } else w.f }

/-- The destination and the logical rewrite of a result (R177). -/
def Walk.result (w : Walk) (r : Nat) : Walk :=
  { w with bed := bedSet (bedSet w.bed 187 168 (resDest r)) 167 150 (resRewrite r) }

/-! ### The slow path (R195) -/

/-- Takes a token of the plane's slow-path bucket. -/
def State.slowToken (s : State) (p : Nat) : State × Bool :=
  let q := s.pl p
  let rate := s.rd 0x1439 0
  let cap := max (rate * 4000000) frameUnit
  let t := if q.slowInit then min (q.slowTokens + rate * (s.rc - q.slowRC)) cap else cap
  let pass := decide (frameUnit ≤ t)
  let s' := s.updPl p (fun q => { q with slowTokens := if pass then t - frameUnit else t, slowRC := s.rc, slowInit := true })
  (if pass then s' else (s'.inc 0x3C24 p).noteDrop 100 p 400000, pass)

/-- Redirects a frame to the slow path, with the VRF of its route lookup (R194, R195). -/
def Walk.slowPath (w : Walk) (p vrf : Nat) : Walk :=
  let s := w.s.inc 0x143A p
  let (s, pass) := s.slowToken p
  let w := { w with s := s, f := { w.f with routeVrf := vrf, resume := none } }
  if pass then w.redirect 4 3 else w.drop

/-- Slow-path discards in 1,000 consecutive 1 ms windows (R217). -/
def execSlowPathLimitFault (el : Nat) (plane : PlaneNo) (s : State) : Out :=
  s.run el (fun s => s.sustained 100 plane.val 400000 1000)

/-! ### The route lookup (R194) -/

/-- A route miss (R194, PID 1430h). -/
def Walk.routeMiss (w : Walk) (p tenant vrf : Nat) : Walk :=
  let w := { w with s := w.s.inc 0x143C p }
  if w.s.rd 0x1430 (4096 * tenant + vrf) = 1 then w.redirect 4 5 else w.drop

/-- Counts a probe that missed a length its filter reported. -/
def State.falseProbe (s : State) (p len : Nat) : State := if len = 0 then s else s.inc 0x143F p

/-- The probes of a lookup, in order: the entry hit with the probes made, or the probes made. -/
def State.probe (s : State) (p : Nat) (v6 : Bool) (tenant vrf a : Nat) : List Nat → Nat → State × Option Entry × Nat
  | [], n => (s, none, n)
  | len :: t, n =>
    match findEntry (s.pl p).store (prefixType v6) tenant (prefixKey v6 vrf len a) with
    | some (_, e) => (s, some e, n + 1)
    | none => State.probe (s.falseProbe p len) p v6 tenant vrf a t (n + 1)

/-- The route lookup of a frame in a VRF (R194). -/
def Walk.route (w : Walk) (p : Nat) (v6 : Bool) (vrf a : Nat) : Walk :=
  let tenant := bedTenant w.bed
  let resumed := w.f.second && w.f.resume.isSome
  let base := if resumed then 4 else 0
  let cands := w.s.candidates p v6 tenant vrf a (if w.f.second then w.f.resume else none)
  let (s, hit, n) := w.s.probe p v6 tenant vrf a (cands.take 4) 0
  let w := { w with s := s }
  let ended (w : Walk) : Walk := { w with s := w.s.inc 0x1438 (9 * p + base + n) }
  match hit with
  | some e => { (ended w).result e.result with f := { w.f with resume := none } }
  | none =>
    if 4 < cands.length then
      if w.f.second || bedRecirc w.bed then (ended w).slowPath p vrf
      else { w with f := { w.f with resume := (cands.take 4).getLast?, routeVrf := vrf } }
    else
      let w := { w with f := { w.f with resume := none } }
      (ended w).routeMiss p tenant vrf

/-! ### The table step of S4 (R178) -/

/-- IPv4, IPv6, MPLS and GTP-U header flags of the bed. -/
def bedIPv4 (b : Nat) : Bool := b.testBit 195
def bedIPv6 (b : Nat) : Bool := b.testBit 194
def bedMpls (b : Nat) : Bool := b.testBit 193
def bedGtpu (b : Nat) : Bool := b.testBit 190

/-- Chunks `a` to `b` of the field vector as one number, the first most significant. -/
def Parse.chunks (p : Parse) (a n : Nat) : Nat := (List.range n).foldl (fun v k => v * 65536 + p.chunk (a + k)) 0

/-- The route lookup on the destination address of the parse (R178). -/
def Walk.routeOn (w : Walk) (p : Nat) (pr : Parse) (vrf : Nat) : Walk :=
  if bedIPv4 w.bed then w.route p false vrf (pr.chunks 19 2)
  else if bedIPv6 w.bed then w.route p true vrf (pr.chunks 19 8)
  else { w with s := w.s.inc 0x143C p }.drop

/-- The GTP-U lookup, then the route lookup (R178). -/
def Walk.tunnel (w : Walk) (p : Nat) (pr : Parse) (vrf : Nat) : Walk :=
  if bedIPv4 w.bed && bedGtpu w.bed then
    match findEntry (w.s.pl p).store 6 (bedTenant w.bed) (vrf * 2 ^ 64 + pr.chunks 19 2 * 2 ^ 32 + pr.chunks 30 2) with
    | some (_, e) => w.result e.result
    | none => w.routeOn p pr vrf
  else w.routeOn p pr vrf

/-- The label lookup, type 4 then type 5 (R178). -/
def findLabel (store : Tab Entry) (tenant label : Nat) : Option (Nat × Entry) :=
  (findEntry store 4 tenant label).or (findEntry store 5 tenant label)

/-- From a router MAC entry on: label, tunnel and route lookups (R178). -/
def Walk.routed (w : Walk) (p : Nat) (pr : Parse) (vrf : Nat) : Walk :=
  if bedMpls w.bed then
    match findLabel (w.s.pl p).store (bedTenant w.bed) (pr.chunks 9 2 / 4096) with
    | none => { w with s := w.s.inc 0x3C23 p }.drop
    | some (_, m) =>
      let w := { w with f := { w.f with label := some m.result } }
      if resRoute m.result then w.tunnel p pr (resVrf m.result) else w.result m.result
  else w.tunnel p pr vrf

/-- The destination MAC lookup and what follows it (R178, R191); at Sill nothing is routed (03 R67). -/
def Walk.forward (w : Walk) (p : Nat) (pr : Parse) : Walk :=
  match w.s.macEntry p (bedTenant w.bed) (macKey (bedFid w.bed) (pr.chunks 0 3)) with
  | none => w
  | some (slot, e) =>
    let w := { w with s := if w.s.flag 0x1410 0 then w.s.touch p slot e else w.s }
    if resRoute e.result then
      (if w.s.stageAtLeast 2 then w.routed p pr (if resVrf e.result = 0 then bedVrf w.bed else resVrf e.result) else w.drop)
    else w.result e.result

/-- The table step of S4 (R178). -/
def Walk.tables (w : Walk) (p : Nat) (pr : Parse) : Walk :=
  if w.f.second && w.f.resume.isSome then
    if bedIPv4 w.bed then w.route p false w.f.routeVrf (pr.chunks 19 2)
    else if bedIPv6 w.bed then w.route p true w.f.routeVrf (pr.chunks 19 8)
    else { w with s := w.s.inc 0x143C p }.drop
  else if w.f.second then w.forward p pr
  else
    let (s, dropped) := w.s.sourceStep p w.f (bedTenant w.bed) (bedFid w.bed) (pr.chunks 3 3) (bedDrop w.bed)
    let w := { w with s := s }
    (if dropped then w.drop else w).forward p pr

/-! ### Next hops, rewrites, groups (R197 to R204) -/

/-- The content of a physical next hop (R201); an entry never written is of kind 3. -/
def State.nhContent (s : State) (phys : Nat) : Nat := Tab.get (3 * 2 ^ 126) s.physNh phys
/-- The content that frames of a logical next hop meet. -/
def State.nextHop (s : State) (nh : Nat) : Nat := s.nhContent (s.rd 0x1421 nh)
/-- The content of a physical rewrite entry (R201). -/
def State.rwContent (s : State) (phys : Nat) : Nat := Tab.get 0 s.physRw phys
/-- The physical entry of a logical rewrite; 0 stays 0 (R200). -/
def State.physicalRewrite (s : State) (rw : Nat) : Nat := if rw = 0 then 0 else s.rd 0x1425 rw

/-- Kind, port, group and rewrite of a next-hop record (R197). -/
def nhKind (r : Nat) : Nat := field r 127 126
def nhPort (r : Nat) : Nat := field r 125 118
def nhGroup (r : Nat) : Nat := field r 117 106
def nhRewrite (r : Nat) : Nat := field r 105 88

/-- What a frame resolves to (R200). -/
inductive Dest where
  /-- discarded, with the counter that rises -/
  | drop (pid : Nat)
  /-- ports, whether it is one port by number or next hop, and the logical rewrite -/
  | ports (l : List Nat) (unicast : Bool) (rewrite : Nat)
  deriving DecidableEq, Repr

/-- Ports of an 18-byte mask. -/
def maskPorts (m : Nat) : List Nat := bitsOf 144 m

/-- The flood of an unresolved destination (R204). -/
def State.flood (s : State) (tenant fid da ingress rw : Nat) : Dest :=
  let flags := s.rd 0x1412 (4096 * tenant + fid)
  let bit := if da = 0xFFFFFFFFFFFF then 3 else if da.testBit 40 then 2 else 1
  if flags.testBit bit then
    .ports ((maskPorts (s.rd 0x1411 (4096 * tenant + fid))).filter (· != ingress)) false rw
  else .drop 0x3C26

/-- The member of an ECMP group a flow hash selects (R198): its logical next hop; none of an empty group. -/
def State.ecmpMember (s : State) (group hash : Nat) : Option Nat :=
  let r := s.rd 0x1422 group
  let n := byteAt 130 r 0
  if n = 0 then none else some (bytesAt 130 r (2 + 2 * (hash * n / 8192)) (3 + 2 * (hash * n / 8192)))

/-- The resolution of a destination (R200), with the group of an ECMP selection. -/
def State.resolveDest (s : State) (dtype dvalue rw tenant fid hash da ingress : Nat) : Dest × Option Nat :=
  if dtype = 1 then
    if 143 < dvalue then (.drop 0x3C25, none) else (.ports [dvalue] true rw, none)
  else if dtype = 2 then
    if 16383 < dvalue then (.drop 0x3C25, none) else (.ports (maskPorts (s.rd 0x1426 dvalue)) false rw, none)
  else if dtype = 3 then
    if 65535 < dvalue then (.drop 0x3C25, none)
    else
      let h := s.nextHop dvalue
      let one (h : Nat) : Dest :=
        if 143 < nhPort h then .drop 0x3C25
        else .ports [nhPort h] true (if nhRewrite h ≠ 0 then nhRewrite h else rw)
      if nhKind h = 1 then
        match s.ecmpMember (nhGroup h) hash with
        | none => (.drop 0x142D, none)
        | some m => (if nhKind (s.nextHop m) = 0 then one (s.nextHop m) else .drop 0x3C25, some (nhGroup h))
      else if nhKind h = 0 then (one h, none)
      else (.drop 0x3C25, none)
  else (s.flood tenant fid da ingress rw, none)

/-- Whether a destination needs what does not work at Sill: a flood, or the selection of an ECMP group (03 R67). -/
def State.beyondSill (s : State) (dtype dvalue : Nat) : Bool :=
  !s.stageAtLeast 2 && (dtype == 0 || (dtype == 3 && decide (dvalue ≤ 65535) && nhKind (s.nextHop dvalue) == 1))

/-- The resolution of a frame at the end of S7 (the rewrite index is checked before a flood), with its counts (R200): its ports, whether unicast, and its physical rewrite;
none where it has none. -/
def State.resolve (s : State) (p : Nat) (bed hash da ingress : Nat) : State × Option (List Nat × Bool × Nat) :=
  let (d, g) := s.resolveDest (bedDestType bed) (bedDestValue bed) (bedRewrite bed) (bedTenant bed) (bedFid bed) hash da ingress
  let s := match g with
    | some g => s.inc 0x1423 (4096 * p + g)
    | none => s
  match d with
  | .drop pid => (s.inc (if bedDestType bed = 0 ∧ 131071 < bedRewrite bed then 0x3C25 else pid) p, none)
  | .ports l u rw => if 131071 < rw then (s.inc 0x3C25 p, none) else (s, some (l, u, s.physicalRewrite rw))

/-! ### Entries changed while frames are in flight (R201) -/

/-- The physical entries that the listed logical entries use. -/
def State.physUsed (s : State) (pid : Nat) : List Nat :=
  (s.regs.filter (fun e => e.1 / 2 ^ 32 == pid)).map Prod.snd

/-- Whether a physical entry is in the reserve: no logical entry uses it and it is not quiet. `lo` to `hi` are the logical
indexes, which start on the physical entry of the same number. -/
def State.inReserve (s : State) (pid : Nat) (quiet : Tab Nat) (hi phys : Nat) : Bool :=
  let listed (i : Nat) : Bool := (Tab.find? s.regs (regKey pid i)).isSome
  (Tab.find? quiet phys).isNone && !(s.physUsed pid).contains phys && (decide (hi ≤ phys) || listed phys)

/-- A free physical entry: the lowest of the reserve. The entries that moved away come first, then those past the logical
indexes; `n` is the physical count. -/
def State.freePhys (s : State) (pid : Nat) (quiet : Tab Nat) (hi n : Nat) : Option Nat :=
  let moved := (s.regs.filter (fun e => e.1 / 2 ^ 32 == pid)).map (fun e => e.1 % 2 ^ 32)
  match moved.find? (s.inReserve pid quiet hi) with
  | some k => some k
  | none =>
    let beyond := (List.range ((s.physUsed pid).length + quiet.length + 1)).map (hi + ·)
    beyond.find? (fun k => decide (k < n) && s.inReserve pid quiet hi k)

/-- The quiet period in ticks: twice the residence ceiling in force (R201, PID 1427h). -/
def State.quietTicks (s : State) : Nat := 2 * s.rd 0x1428 0 * 400000

/-- Writes a logical next hop (R201); none where the reserve is empty. -/
def State.setNextHop (s : State) (nh content : Nat) : Option State :=
  (s.freePhys 0x1421 s.quietNh 65536 81920).map (fun k =>
    let old := s.rd 0x1421 nh
    { (s.wr 0x1420 nh content).wr 0x1421 nh k with
      physNh := Tab.set s.physNh k content
      quietNh := Tab.set s.quietNh old (s.clk + s.quietTicks) })

/-- Writes a logical rewrite entry (R201). -/
def State.setRewrite (s : State) (rw content : Nat) : Option State :=
  (s.freePhys 0x1425 s.quietRw 131072 163840).map (fun k =>
    let old := s.rd 0x1425 rw
    { (s.wr 0x1424 rw content).wr 0x1425 rw k with
      physRw := Tab.set s.physRw k content
      quietRw := Tab.set s.quietRw old (s.clk + s.quietTicks) })

/-- The quiet entries whose period has passed return to the reserve (R201). -/
def quietPeriodExpiry (s : State) : State :=
  let ended (t : Tab Nat) : List Nat := (t.filter (fun e => decide (e.2 ≤ s.clk))).map Prod.fst
  { s with
    quietNh := s.quietNh.filter (fun e => decide (s.clk < e.2))
    quietRw := s.quietRw.filter (fun e => decide (s.clk < e.2))
    physNh := s.physNh.filter (fun e => !(ended s.quietNh).contains e.1)
    physRw := s.physRw.filter (fun e => !(ended s.quietRw).contains e.1) }

/-- QUIET_PERIOD_EXPIRY (R201). -/
def execQuietPeriodExpiry (el : Nat) (s : State) : Out := s.run el quietPeriodExpiry

end Sys2Proof.Machine
end

