-- ==== Sys2Proof/Machine/Rewrite.lean ====
section
/-! DEFINITION. What happens to a copy's bytes as it leaves its queue (06 R199, R564; 08 R258): ECN, TTL, addresses, VLAN and
label operations. The bytes carry no FCS here: the port group appends it. -/

namespace Sys2Proof.Machine

/-- The ones' complement checksum `c` updated for a 16-bit word changed from `m` to `m'` (RFC 1624). -/
def checksumUpdate (c m m' : Nat) : Nat :=
  let s := (65535 - c) + (65535 - m) + m'
  let f := s % 65536 + s / 65536
  65535 - (f % 65536 + f / 65536)

/-- Writes a 16-bit word of an IPv4 header at `ip` and updates its header checksum. -/
def ipv4Put (bs : List Byte) (ip off v : Nat) : List Byte :=
  let c := checksumUpdate (getBE bs (ip + 10) 2) (getBE bs (ip + off) 2) v
  putBE (putBE bs (ip + off) 2 v) (ip + 10) 2 c

/-- Whether the IP header at an offset is version 4. -/
def isV4 (bs : List Byte) (ip : Nat) : Bool := getBE bs ip 1 / 16 == 4

/-- The TTL or hop limit of the IP header at an offset. -/
def ttlOf (bs : List Byte) (ip : Nat) : Nat := if isV4 bs ip then getBE bs (ip + 8) 1 else getBE bs (ip + 7) 1

/-- The TTL or hop limit decremented (R199). -/
def decTtl (bs : List Byte) (ip : Nat) : List Byte :=
  if isV4 bs ip then ipv4Put bs ip 8 (getBE bs (ip + 8) 2 - 256) else putBE bs (ip + 7) 1 (getBE bs (ip + 7) 1 - 1)

/-- ECN 11b in the IP header (R258). -/
def markEcn (bs : List Byte) (ip : Nat) : List Byte :=
  if isV4 bs ip then ipv4Put bs ip 0 (getBE bs ip 2 ||| 3) else putBE bs ip 2 (getBE bs ip 2 ||| 0x30)

/-- The label stack entry with its label replaced. -/
def withLabel (e label : Nat) : Nat := label % 2 ^ 20 * 4096 + e % 4096

/-- The label operation recorded with a frame (06 R177), on the stack that follows the tags. What the pushed and the uncovered
fields take is PRESUMED: notes/assumptions/13.md. -/
def labelOp (tpids : List Nat) (bs : List Byte) (r : Nat) : List Byte :=
  let t := readTags tpids bs 3 12 []
  let o := t.off + 2
  if t.ethertype = 0x8847 ∨ t.ethertype = 0x8848 then
    let top := getBE bs o 4
    if field r 76 75 = 1 then
      let out := bs.take o ++ bs.drop (o + 4)
      if top.testBit 8 then
        putBE out t.off 2 (if getBE out o 1 / 16 = 6 then 0x86DD else 0x0800)
      else out
    else if field r 76 75 = 2 then
      let n := field r 74 73
      let ls := [field r 72 53, field r 52 33, field r 32 13].take n
      let pushed := (ls.drop 1).foldl (fun a l => toBytes 4 (withLabel (top - (if top.testBit 8 then 256 else 0)) l) ++ a) []
      bs.take o ++ pushed ++ toBytes 4 (withLabel top (ls.headD 0)) ++ bs.drop (o + 4)
    else bs
  else bs

/-- The VLAN operation of a rewrite entry (R564). -/
def vlanOp (tpids : List Nat) (bs : List Byte) (op tpid tci : Nat) : List Byte :=
  let t := readTags tpids bs 3 12 []
  match op with
  | 1 => match t.tags with
    | [] => bs
    | (_, c) :: _ => putBE bs 14 2 (tci / 8192 * 8192 + c / 4096 % 2 * 4096 + tci % 4096)
  | 2 =>
    let dei := match t.tags with
      | [] => 0
      | (_, c) :: _ => c / 4096 % 2
    bs.take 12 ++ toBytes 2 tpid ++ toBytes 2 (tci / 8192 * 8192 + dei * 4096 + tci % 4096) ++ bs.drop 12
  | 3 => match t.tags with
    | [] => bs
    | _ :: _ => bs.take 12 ++ bs.drop 16
  | _ => bs

/-- A copy's bytes after the rewrite entry `r` (R199), toward a port whose own address is `mac`; an internal
scheduler port has none, and the source address then stays. `ip` is the offset of the IP
header from which the parser took its fields, `label` the label result carried with the frame. -/
def applyRewrite (tpids : List Nat) (bs : List Byte) (r : Nat) (mac : Option Nat) (ip : Option Nat) (label : Option Nat) : List Byte :=
  let ops := byteAt 32 r 0
  let bs := match ip with
    | some o => if ops.testBit 2 then decTtl bs o else bs
    | none => bs
  let bs := if ops.testBit 0 then putBE bs 0 6 (bytesAt 32 r 6 11) else bs
  let bs := if ops.testBit 1 then putBE bs 6 6 (if bytesAt 32 r 12 17 = 0 then mac.getD (getBE bs 6 6) else bytesAt 32 r 12 17) else bs
  let bs := match label with
    | some l => if ops.testBit 4 then labelOp tpids bs l else bs
    | none => bs
  if ops.testBit 3 then vlanOp tpids bs (byteAt 32 r 1) (bytesAt 32 r 2 3) (bytesAt 32 r 4 5) else bs

/-- Whether a rewrite entry's TTL decrement discards a frame (R199). -/
def ttlExpired (bs : List Byte) (r : Nat) (ip : Option Nat) : Bool :=
  match ip with
  | some o => (byteAt 32 r 0).testBit 2 && decide (ttlOf bs o ≤ 1)
  | none => false

/-- A frame's bytes without the FCS. -/
def Frame.body (f : Frame) : List Byte := if f.ended then f.bytes.take (f.bytes.length - 4) else f.bytes

/-- The TPIDs by which a frame's tags were recognised: its ingress port group's (R564). A frame from a controller uses those
of the group of its pipeline. -/
def State.frameTpids (s : State) (f : Frame) : List Nat := s.tpids (if f.port < 144 then groupOf f.port else f.pipe)

/-- Whether the rewrite entry of a copy is applied: toward a port group or toward recirculation, not toward a controller (R199). -/
def Copy.rewritten (c : Copy) : Bool := decide (c.port < 144) || c.port == 146

/-- The bytes of a copy as they leave the plane toward a scheduler port: ECN mark, then rewrite (R199, R258). -/
def State.egressBytes (s : State) (d : Desc) (c : Copy) (body : List Byte) : List Byte :=
  let b := match d.frame.ipOff with
    | some o => if c.ecn then markEcn body o else body
    | none => body
  if c.rewritten then
    applyRewrite (s.frameTpids d.frame) b (s.rwContent d.rewrite) (if c.port < 144 then some (s.portMac c.port) else none)
      d.frame.ipOff d.frame.label
  else b

end Sys2Proof.Machine
end

