-- ==== Sys2Proof/Machine/Queue.lean ====
section
/-! DEFINITION. The queues of a plane (08 R248 to R252): depths, removal, flushes (R269), and the end of a frame that is bad,
overrun or lost (R267, R268), with the reception reference (07 R223, R231). -/

namespace Sys2Proof.Machine

/-! ### Depths (R252) -/

/-- The copies of a queue, head first. -/
def Plane.queue (q : Plane) (n : Nat) : List Copy := Tab.get [] q.queues n

/-- The tiles of a copy's frame written so far. -/
def Plane.copyTiles (q : Plane) (c : Copy) : Nat := ((Tab.find? q.desc c.head).map Desc.count).getD 0

/-- The tiles of a list of copies. -/
def Plane.tilesOf (q : Plane) (l : List Copy) : Nat := l.foldl (fun a c => a + q.copyTiles c) 0

/-- tiles(q) (R252). -/
def Plane.tilesQ (q : Plane) (n : Nat) : Nat := q.tilesOf (q.queue n)

/-- Every copy queued to a scheduler port. -/
def Plane.copiesOf (q : Plane) (e : Nat) : List Copy := q.queues.flatMap (fun x => x.2.filter (fun c => c.port == e))

/-- tiles(e) (R252). -/
def Plane.tilesE (q : Plane) (e : Nat) : Nat := q.tilesOf (q.copiesOf e)

/-- tiles(e, k) (R252, PID 1A03h). -/
def Plane.tilesEK (q : Plane) (e k : Nat) : Nat := q.tilesOf ((q.copiesOf e).filter (fun c => c.cls == k))

/-- The instance of a per-plane queue counter. -/
def qInst (p q : Nat) : Nat := 32768 * p + q
/-- The instance of a per-plane port counter. -/
def pInst (p e : Nat) : Nat := 144 * p + e

/-! ### The hierarchy above a queue (10 R296, R297) -/

/-- Element keys of the scheduler: 0 queue, 1 subscriber, 2 service, 3 class, 4 port. -/
def elem (kind n : Nat) : Nat := kind * 2 ^ 20 + n

/-- The nodes above a queue, from the class down, where the queue is attached (R297): service and subscriber node keys. -/
def State.nodesAbove (s : State) (q : Nat) : List Nat :=
  let a := s.rd 0x2000 q
  if a.testBit 15 then []
  else
    let sub := a % 4096
    let b := s.rd 0x2004 sub
    if b.testBit 15 then [elem 1 sub] else [elem 2 (b % 1024), elem 1 sub]

/-- The scheduler port and class of a queue (R297, R299). -/
def State.queuePort (s : State) (q : Nat) : Nat := field (s.rd 0x2000 q) 31 24
/-- The class of a queue. -/
def State.queueClass (s : State) (q : Nat) : Nat := field (s.rd 0x2000 q) 18 16

/-- Whether a copy is queued beneath a node. -/
def State.beneath (s : State) (p node : Nat) : Bool :=
  (s.pl p).queues.any (fun x => !x.2.isEmpty && (s.nodesAbove x.1).contains node)

/-- A child's deficit is 0 when nothing is queued beneath it (R304). -/
def State.clearIdle (s : State) (p q : Nat) : State :=
  if ((s.pl p).queue q).isEmpty then
    let idle := elem 0 q :: (s.nodesAbove q).filter (fun n => !s.beneath p n)
    s.updPl p (fun x => { x with sched := { x.sched with deficit := idle.foldl Tab.del x.sched.deficit } })
  else s

/-! ### Removal -/

/-- The output that sends a copy: its scheduler port, or, on port 146, that of the pipeline of its frame, 148 + pipeline
(R310, 01 R9). -/
def Plane.outputOf (q : Plane) (c : Copy) : Nat :=
  if c.port = 146 then 148 + (match Tab.find? q.desc c.head with | some d => d.frame.pipe | none => 0) else c.port

/-- Whether a copy's transmission has started. -/
def Plane.inTransmission (q : Plane) (c : Copy) : Bool :=
  match Tab.find? q.sending (q.outputOf c) with
  | some x => x.copy.head == c.head && x.started
  | none => false

/-- Whether a copy is still in its queue. -/
def Plane.queued (q : Plane) (c : Copy) : Bool := (q.queue c.queue).any (fun x => x.head == c.head && x.gen == c.gen)

/-- A queue table with a copy removed. -/
def removeFrom (queues : Tab (List Copy)) (c : Copy) : Tab (List Copy) :=
  let l := (Tab.get [] queues c.queue).filter (fun x => x.head != c.head)
  if l.isEmpty then Tab.del queues c.queue else Tab.set queues c.queue l

/-- Takes a copy out of its queue, and out of the port's commitment. -/
def State.takeOut (s : State) (p : Nat) (c : Copy) : State :=
  let s := s.updPl p (fun q => { q with
    queues := removeFrom q.queues c
    sending := match Tab.find? q.sending (q.outputOf c) with
      | some x => if x.copy.head = c.head then Tab.del q.sending (q.outputOf c) else q.sending
      | none => q.sending })
  s.clearIdle p c.queue

/-- Copies of bad frames leave from the head of their queue, counted (R249, R267); at most `n` of them. -/
def State.purgeBad (p k : Nat) : Nat → State → State
  | 0, s => s
  | n + 1, s =>
    match (s.pl p).queue k with
    | c :: _ =>
      if c.bad then State.purgeBad p k n (((s.takeOut p c).release p c.head c.gen c.port).inc 0x1A2E (qInst p k)) else s
    | [] => s

/-- Discards the bad copies at the head of a queue. -/
def State.purge (s : State) (p k : Nat) : State := State.purgeBad p k ((s.pl p).queue k).length s

/-- A copy leaves its queue, and so do the bad copies that it bared. -/
def State.unqueue (s : State) (p : Nat) (c : Copy) : State := (s.takeOut p c).purge p c.queue

/-- Discards a copy from its queue and releases its reference, counting it on the queue (R272). -/
def State.discard (s : State) (p : Nat) (c : Copy) (pid : Nat) : State :=
  if (s.pl p).queued c then ((s.unqueue p c).release p c.head c.gen c.port).inc pid (qInst p c.queue) else s

/-- Discards every copy of a list (flush discards, R269) that is not in transmission. -/
def State.flush (s : State) (p : Nat) (l : List Copy) : State :=
  l.foldl (fun s c => if (s.pl p).inTransmission c then s else s.discard p c 0x1A22) s

/-- QUEUE_FLUSH's effect (R269, PID 1A08h): the queue's copies in both planes. -/
def queueFlush (q : Nat) (s : State) : State :=
  [0, 1].foldl (fun s p => s.flush p ((s.pl p).queue q)) s

/-- The copies of a port that are queued, discarded in both planes (R269). -/
def State.flushPort (s : State) (e : Nat) : State :=
  [0, 1].foldl (fun s p => s.flush p ((s.pl p).copiesOf e)) s

/-- A copy in transmission ends with the link (R269), counted as a flush discard; what the egress FIFO holds is lost with it. -/
def State.cutPort (s : State) (e : Nat) : State :=
  let s := { s with bonds := Tab.upd Bond.init s.bonds e (fun b => { b with fifo := [], busyUntil := 0 }) }
  [0, 1].foldl (fun s p =>
    let s := match Tab.find? (s.pl p).sending e with
      | some x => s.discard p x.copy 0x1A22
      | none => s
    s.updPl p (fun q => { q with links := Tab.del q.links e })) s

/-! ### The end of a transmission -/

/-- The copies of a stored frame, in port order. -/
def Plane.copiesOfFrame (q : Plane) (h : Nat) : List Copy :=
  (q.queues.flatMap (fun x => x.2.filter (fun c => c.head == h)))

/-- The digest of a copy's unmarked bytes and 14-bit length (11 R330). -/
def copyDigest (bs : List Byte) : Nat := crc32c (bs ++ toBytes 2 (bs.length % 2 ^ 14))

/-- Writes the end of a copy under way on a port: its bytes and its end status (11 R329). -/
def State.endLink (s : State) (p : Nat) (c : Copy) (d : Desc) (body : List Byte) (status : Nat) : State :=
  let bytes := s.egressBytes d c body
  let digest := copyDigest (s.egressBytes d { c with ecn := false } body)
  s.updPl p (fun q => { q with links := Tab.upd [] q.links c.port (fun l =>
    l.map (fun y => if y.frame.port = d.frame.port ∧ y.frame.seq = d.frame.seq ∧ y.status.isNone
      then { y with frame := d.frame, bytes := bytes, status := some status, digest := digest } else y)) })

/-- The byte counters of the elements of a path (10 R322), at index `n` of plane `p`. -/
def byteCounter (p e : Nat) : Nat × Nat :=
  let n := e % 2 ^ 20
  match e / 2 ^ 20 with
  | 1 => (0x203E, 4096 * p + n)
  | 2 => (0x2040, 1024 * p + n)
  | 3 => (0x2042, 1184 * p + n)
  | _ => (0x2044, 148 * p + n)

/-- Counts the bytes of a copy on the elements of its path above the queue. -/
def State.countBytes (s : State) (p len : Nat) (path : List Nat) : State :=
  (path.filter (fun e => decide (2 ^ 20 ≤ e))).foldl (fun s e => let c := byteCounter p e; s.incBy c.1 c.2 len) s

/-- Corrects the charge of a cut-through copy once its length is known (10 R304): `len` bytes in place of the estimate. -/
def State.correctCharge (s : State) (p : Nat) (c : Copy) (len : Nat) : State :=
  let e := (s.pl p).outputOf c
  match Tab.find? (s.pl p).sending e with
  | some x =>
    if x.copy.head = c.head ∧ x.counted = false then
      let d : Int := (len : Int) - x.charged
      let s := s.updPl p (fun q => { q with
        sending := Tab.set q.sending e { x with charged := len, counted := true }
        sched := { q.sched with
          tokens := x.path.foldl (fun t e => match Tab.find? t e with
            | some v => Tab.set t e (v - d * 1000000)
            | none => t) q.sched.tokens
          deficit := x.path.foldl (fun t e => match Tab.find? t e with
            | some v => Tab.set t e (v - d)
            | none => t) q.sched.deficit } })
      s.countBytes p len x.path
    else s
  | none => s

/-- The bit rate in Mb/s at which a plane paces a scheduler port: the operating speed, or PID 2015h (10 R305, R310, R311). -/
def State.paceRate (s : State) (e : Nat) : Nat :=
  if e < 144 then s.portRate e else if e = 147 then s.rd 0x2015 2 else s.rd 0x2015 (e - 144)

/-- The end of the line time of the copy in transmission on an output, `len` bytes long, at the rate it started with (10 R305,
R321); the outputs of port 146 are not paced (R310). -/
def State.setLineEnd (s : State) (p e len : Nat) : State :=
  match Tab.find? (s.pl p).sending e with
  | some x =>
    let t := if 148 ≤ e then s.rc else x.startRC + lineTicks x.rate len
    s.updPl p (fun q => { q with sched := { q.sched with lineEnd := Tab.set q.sched.lineEnd e t } })
  | none => s

/-- Why a frame's copies end badly (R267, R268): the end status of R329. -/
inductive Bad where
  /-- FCS error or oversize at ingress -/
  | ingress
  | overrun
  | link
  deriving DecidableEq, Repr

/-- The end status (11 R329). -/
def Bad.status : Bad → Nat
  | .ingress => 1
  | .overrun => 2
  | .link => 3

/-- Marks the unstarted copies of a frame that turned bad. -/
def State.markBad (s : State) (p h : Nat) : State :=
  s.updPl p (fun q => { q with queues := q.queues.map (fun x =>
    (x.1, x.2.map (fun c => if c.head = h ∧ q.inTransmission c = false then { c with bad := true } else c))) })

/-- Ends every copy of a frame that turned bad: a started cut-through copy is stomped; an unstarted copy is discarded from the
head of its queue, at once or when it gets there (R249, R267, R268). -/
def State.endBad (s : State) (p h : Nat) (why : Bad) : State :=
  ((s.pl p).copiesOfFrame h).foldl (fun s c =>
    match Tab.find? (s.pl p).desc h with
    | some d =>
      if (s.pl p).inTransmission c then
        let body := if why = .ingress then d.frame.body else d.frame.body.take (256 * d.count)
        let s := s.endLink p c d body why.status
        let s := (s.correctCharge p c (body.length + 4)).setLineEnd p ((s.pl p).outputOf c) (body.length + 4)
        let s := if c.port < 144 then s.inc 0x1A27 (pInst p c.port) else s
        let s := if why = .ingress then s else s.fault 130 p
        (s.unqueue p c).release p c.head c.gen c.port
      else s.purge p c.queue
    | none => s) (s.markBad p h)

/-- Marks the last tile of a frame written whole (R220). -/
def State.markLast (s : State) (p : Nat) (d : Desc) : State :=
  s.updPl p (fun q => { q with tiles := match Tab.find? q.tiles d.tail with
    | some x => Tab.set q.tiles d.tail { x with last := true }
    | none => q.tiles })

/-- The controller path of the active controller. -/
def State.ctlPort (s : State) : Nat := 144 + s.active

/-- Oversize divert (04 R102): the frame's copies give way to one on the active controller's path. -/
def State.divert (s : State) (p h : Nat) (d : Desc) : State :=
  let e := s.ctlPort
  let f := { d.frame with bad := false, reason := 4, stage := 0xFF }
  if d.holders.testBit e then
    s.updPl p (fun x => { x with
      desc := Tab.set x.desc h { d with frame := f }
      queues := x.queues.map (fun y => (y.1, y.2.map (fun c => if c.head = h ∧ c.port = e then { c with bad := false } else c))) })
  else
    let q := 8 * e + d.frame.icls
    let c : Copy := ⟨h, d.gen, e, q, d.frame.icls, d.frame.rc, none, false, false, false, false⟩
    s.updPl p (fun x => { x with
      desc := Tab.set x.desc h { d with frame := f, holders := setBit d.holders e true, refs := d.refs + 1 }
      queues := Tab.upd [] x.queues q (· ++ [c]) })

/-- A frame that is stored whole gives back its reception reference (R223); one that still has tiles to write keeps it. -/
def State.storedWhole (s : State) (p h : Nat) (d : Desc) : State :=
  if d.frame.bytes.length ≤ 256 * d.count then (s.markLast p d).release p h d.gen 148 else s

/-- A frame's end is known, or its last tile is written: a bad frame's copies end, or give way to the controller's copy (04
R102); a frame written whole gives back its reception reference (R223, R253, R267). -/
def State.settleReception (s : State) (p h : Nat) : State :=
  match Tab.find? (s.pl p).desc h with
  | some d =>
    if d.holders.testBit 148 = false ∨ d.frame.ended = false then s
    else if d.frame.bad then
      let s := s.endBad p h .ingress
      match Tab.find? (s.pl p).desc h with
      | some d =>
        if d.frame.oversize ∧ s.flag 0x0804 d.frame.port = true ∧ d.frame.port < 144 then (s.divert p h d).storedWhole p h d
        else (s.markLast p d).release p h d.gen 148
      | none => s
    else s.storedWhole p h d
  | none => s

/-- A later tile of a frame being stored (R231): charged to the chain, else to O, else the frame is discarded. -/
def frameTileWrite (p h : Nat) (s : State) : State :=
  match Tab.find? (s.pl p).desc h with
  | some d =>
    if d.holders.testBit 148 = false ∨ d.frame.bytes.length ≤ 256 * d.count then s
    else
      let overrun (s : State) : State :=
        let s := ((s.inc 0x181F p).fault 116 p)
        let s := s.endBad p h .overrun
        let s := match Tab.find? (s.pl p).desc h with
          | some d => s.markLast p d
          | none => s
        s.release p h d.gen 148
      let (s, code) := s.ask p d (d.chain ++ [7])
      match code with
      | none => overrun s
      | some code =>
        let (s, t) := s.allocate p d code
        match t with
        | none => overrun (s.startScrub p)
        | some t =>
          let s := if code = 7 then s.inc 0x181E p else s
          let s := s.updPl p (fun q => { q with
            tiles := match Tab.find? q.tiles d.tail with
              | some x => Tab.set q.tiles d.tail { x with next := t }
              | none => q.tiles
            desc := Tab.set q.desc h { d with tail := t, count := d.count + 1 } })
          (s.pauseCheck d.frame.port).settleReception p h
  | none => s

/-- FRAME_TILE_WRITE (R231). -/
def execFrameTileWrite (el : Nat) (plane : PlaneNo) (turn : TileTurn) (s : State) : Out :=
  s.run el (contested plane.val turn.rivals.toNat (frameTileWrite plane.val turn.head.val))

/-- LINK_MEMORY_ERROR (R237): kind 0 corrected and counted; kind 1 ends the frame whose chain the tile belongs to, and leaves
the tile and the rest of its chain for the scrub. -/
def linkMemoryError (p tile : Nat) (uncorrectable : Bool) (s : State) : State :=
  if uncorrectable then
    let s := (s.inc 0x182C (2 * p + 1)).fault 113 p
    match Tab.search (fun e => ((s.pl p).chainOf 36 e.1 e.2.tail).contains tile) (s.pl p).desc with
    | some (h, _) =>
      let s := s.updPl p (fun q => { q with tiles := Tab.del q.tiles tile })
      let s := s.endBad p h .link
      match Tab.find? (s.pl p).desc h with
      | some d => if d.holders.testBit 148 then s.release p h d.gen 148 else s
      | none => s
    | none => s
  else s.inc 0x182C (2 * p)

/-- LINK_MEMORY_ERROR (R237). -/
def execLinkMemoryError (el : Nat) (plane : PlaneNo) (tile : Fin 24576) (uncorrectable : Bool) (s : State) : Out :=
  s.run el (linkMemoryError plane.val tile.val uncorrectable)

/-! ### The frame's end as a plane meets it (04 R101, 06 R185) -/

/-- A frame with its end received, and with it the stamp's CRC-32C (04 R122). -/
def Frame.close (f : Frame) (bytes : List Byte) (bad oversize : Bool) : Frame :=
  let f := { f with bytes := bytes, ended := true, bad := bad, oversize := oversize }
  { f with stampCrc := f.crcOf }

/-- Store-and-forward copies longer than their port allows are discarded once the length is known (R267); the charge of a
copy committed or in transmission is corrected (10 R304). -/
def State.lengthKnown (s : State) (p h len : Nat) : State :=
  ((s.pl p).copiesOfFrame h).foldl (fun s c =>
    let s := s.incBy 0x1A1A (qInst p c.queue) len
    let s := s.correctCharge p c len
    if (s.pl p).inTransmission c ∨ c.cut = true then s
    else if c.port < 144 ∧ s.rd 0x0803 c.port < len then
      ((s.unqueue p c).release p c.head c.gen c.port).inc 0x1A28 (pInst p c.port)
    else s) s

/-- The end of a frame reaches a plane: wherever the frame is, it is closed; its learn requests become ready or are
discarded (R185). -/
def State.planeEnd (s : State) (p port seq : Nat) (bytes : List Byte) (bad oversize : Bool) : State :=
  let hit (f : Frame) : Bool := f.port == port && f.seq == seq
  let upd (f : Frame) : Frame := if hit f && !f.ended then f.close bytes bad oversize else f
  let s := s.updPl p (fun q => { q with
    ingress := q.ingress.map upd
    learnQ := (q.learnQ.filter (fun r => !(bad && r.port == port && r.seq == seq))).map
      (fun r => if r.port = port ∧ r.seq = seq then { r with ready := true } else r) })
  let waiting (c : Nat × Nat × Nat) : Bool := c.1 == port && c.2.1 == seq
  let s := ((s.pl p).counting.filter waiting).foldl (fun s c => s.incBy 0x3C1F (65536 * p + c.2.2) bytes.length) s
  let s := s.updPl p (fun q => { q with counting := q.counting.filter (fun c => !waiting c) })
  match Tab.search (fun e => hit e.2.frame && !e.2.frame.ended) (s.pl p).desc with
  | some (h, d) =>
    let s := s.updPl p (fun q => { q with desc := Tab.set q.desc h { d with frame := upd d.frame } })
    let s := if bad then s else s.lengthKnown p h bytes.length
    s.settleReception p h
  | none => s

end Sys2Proof.Machine
end

