-- ==== Sys2Proof/Machine/Calendar.lean ====
section
/-! DEFINITION. Coursing (09 R275 to R293): the calendars of the external ports, their edges, shortfall and reclaim, yield,
suspension and the swap of banks. -/

namespace Sys2Proof.Machine

/-! ### The fields of a course record (R276) -/

/-- Start offset within the cycle, ns. -/
def courseStart (r : Nat) : Nat := bytesAt 16 r 0 3
/-- Length, ns. -/
def courseLength (r : Nat) : Nat := bytesAt 16 r 4 7
/-- Class mask. -/
def courseClasses (r : Nat) : Nat := byteAt 16 r 10
/-- Policy 1, reclaim. -/
def courseReclaim (r : Nat) : Bool := (byteAt 16 r 11).testBit 6
/-- Yield class Y. -/
def courseYield (r : Nat) : Nat := byteAt 16 r 11 % 8
/-- Tenant mask. -/
def courseTenants (r : Nat) : Nat := bytesAt 16 r 12 13

/-- Whether a write of a shadow course record passes (R277). -/
def courseRecordOk (c r : Nat) : Bool :=
  (byteAt 16 r 11).testBit 7 == false && field (byteAt 16 r 11) 5 3 == 0 && bytesAt 16 r 14 15 == 0 &&
    decide (1000 ≤ courseLength r) && (c != 63 || courseTiles r == 0) && decide (courseTiles r ≤ 24320) &&
    (!courseReclaim r || popCount 16 (courseTenants r) == 1)

/-! ### Banks and shares (R275, R282, R291) -/

/-- Changes a port's calendar. -/
def State.updCalendar (s : State) (port : Nat) (f : CoursePort → CoursePort) : State :=
  { s with courses := Tab.upd CoursePort.init s.courses port f }

/-- The records in use of a bank: the shadow bank's count and records are PIDs 1C04h and 1C05h, the live bank's 1C0Ch and
1C0Dh. -/
def State.bank (s : State) (countPid recPid port : Nat) : List Nat :=
  (List.range (s.rd countPid port)).map (fun c => s.rd recPid (64 * port + c))

/-- The largest reservation of a bank. -/
def largestShare (l : List Nat) : Nat := l.foldl (fun a r => max a (courseTiles r)) 0

/-- The K share of a port whose live bank holds `l` (R282). -/
def State.shareOf (s : State) (port : Nat) (l : List Nat) : Nat := if s.flag 0x1C00 port then largestShare l else 0

/-- Recomputes a port's K share and the sum of shares (PIDs 1C0Eh and 1C0Fh). -/
def State.settleShare (s : State) (port : Nat) : State :=
  let k := s.shareOf port (s.bank 0x1C0C 0x1C0D port)
  (s.wr 0x1C0F 0 (s.rd 0x1C0F 0 - s.rd 0x1C0E port + k)).wr 0x1C0E port k

/-- Two courses that overlap. -/
def overlaps (a b : Nat) : Bool :=
  decide (courseStart a < courseStart b + courseLength b ∧ courseStart b < courseStart a + courseLength a)

/-- No two courses of a list overlap. -/
def disjointCourses : List Nat → Bool
  | [] => true
  | r :: t => t.all (fun x => !overlaps r x) && disjointCourses t

/-- The shadow bank of a port as it stands (R275). -/
def State.shadowBank (s : State) (port : Nat) : CourseBank :=
  ⟨s.rd 0x1C01 port, s.rd 0x1C02 port, s.rd 0x1C03 port, s.bank 0x1C04 0x1C05 port⟩

/-- By how much a swap that is under way will raise a port's K share. -/
def State.shareRise (s : State) (port : Nat) (c : CoursePort) : Nat :=
  if c.swapRC.isSome then s.shareOf port c.swapBank.records - s.rd 0x1C0E port else 0

/-- The sum of the K shares, with the rise that the swaps under way on ports other than `but` will bring (R282: the sum never
exceeds the K size, so a swap accepted now counts now). -/
def State.sharesDue (s : State) (but : Nat) : Nat :=
  s.rd 0x1C0F 0 + s.courses.foldl (fun a e => if e.1 = but then a else a + s.shareRise e.1 e.2) 0

/-- Whether the shadow bank of a port may become live (R291). -/
def State.bankOk (s : State) (port : Nat) : Bool :=
  let b := s.shadowBank port
  b.records.all (fun r => decide (courseStart r + courseLength r ≤ b.cycle)) && disjointCourses b.records &&
    decide (b.lead ≤ b.cycle) && decide (s.sharesDue port - s.rd 0x1C0E port + s.shareOf port b.records ≤ s.rd 0x180D 0)

/-! ### Edges (R278, R279) -/

/-- The start of cycle 0 of a port's live calendar, in DT units: E + O + phase. -/
def State.cycleOrigin (s : State) (port : Nat) : Int :=
  decDT (s.rd 0x1A10 0) + nsUnits (signed 32 (s.rd 0x1A11 0)) + nsUnits (s.rd 0x1C0A port)

/-- The least instant `origin + N × period` at or after `u`. -/
def gridAfter (origin period u : Int) : Int := origin - floorDiv (origin - u) period * period

/-- The next course of a port's live bank to open at the instant `after` or later, with its open instant: of equal instants
the lowest course (none can be equal, R291). -/
def State.nextOpen (s : State) (port : Nat) (after : Int) : Option (Nat × Int) :=
  let cycle := nsUnits (s.rd 0x1C09 port)
  if cycle ≤ 0 ∨ s.flag 0x1C00 port = false then none
  else
    (List.range (s.rd 0x1C0C port)).foldl (fun best c =>
      let u := gridAfter (s.cycleOrigin port + nsUnits (courseStart (s.course port c))) cycle after
      match best with
      | some (_, v) => if u < v then some (c, u) else best
      | none => some (c, u)) none

/-- Computes the RC of every edge of a port that has not taken effect, with the triple in force (R279). It runs when an edge
of the port takes effect, so the RC that an edge takes effect at is the one computed at the port's preceding edge. -/
def State.retimeEdges (s : State) (port : Nat) : State :=
  let t := s.time.triple
  let c := s.calendar port
  let len := nsUnits (courseLength (s.course port (s.rd 0x1C13 port)))
  s.updCalendar port (fun q => { q with
    edge := t.rcOf (if c.opens then c.openAt else c.openAt - nsUnits (s.rd 0x1C0B port))
    closeRC := if s.rd 0x1C12 port = 2 then t.rcOf (c.nowAt + len) else c.closeRC
    old := c.old.map (fun x => { x with settledRC := t.rcOf x.settledAt }) })

/-- Places the next course of a port to open at `after` or later: its horizon, or, where that comes no later than the RC
`held`, its open edge at once (DEDUCED, log entry 17: a horizon that has passed when its course is placed is no edge of its
own). The port's phase is left alone. -/
def State.placeNext (s : State) (port : Nat) (after : Int) (held : Nat) : State :=
  match s.nextOpen port after with
  | none => s.updCalendar port (fun q => { q with armed := false })
  | some (c, u) =>
    let hz := s.time.triple.rcOf (u - nsUnits (s.rd 0x1C0B port))
    let opens := decide (hz ≤ held)
    (s.updCalendar port (fun q => { q with
      armed := true, next := c, openAt := u, opens := opens
      edge := if opens then s.time.triple.rcOf u else hz })).wr 0x1C14 port (encDT u)

/-- Places the first course that opens at the present RC or later. -/
def State.placeNow (s : State) (port : Nat) : State := s.placeNext port (s.time.triple.dtOf (s.rc - 1) + 1) s.rc

/-- Sets the phase and the course shown (PIDs 1C12h, 1C13h). -/
def State.setPhase (s : State) (port phase course : Nat) : State := (s.wr 0x1C12 port phase).wr 0x1C13 port course

/-- The phase of a port with no course open or settling: held where the horizon of the next course has passed (R282). -/
def State.restPhase (s : State) (port : Nat) : State :=
  let c := s.calendar port
  if c.armed ∧ c.opens then s.setPhase port 1 c.next else s.setPhase port 0 0xFF

/-- Starts a port's calendar at the present RC (R289, R290, R291): a window in progress opens at its next occurrence. -/
def State.arm (s : State) (port : Nat) : State :=
  let s := (s.placeNow port).retimeEdges port
  if (s.calendar port).old.isEmpty then s.restPhase port else s

/-- Coursing runs (PID 1C11h). -/
def State.coursing (s : State) : Bool := s.rd 0x1C11 0 == 1

/-- The ports whose calendar meets a condition. -/
def State.calendars (s : State) (f : Nat → CoursePort → Bool) : List Nat :=
  (s.courses.filter (fun e => f e.1 e.2)).map Prod.fst

/-! ### The horizon (R282) -/

/-- A horizon edge of one port: it holds a lending port; in phase 2 or 3 it changes no phase, but is the port's preceding edge
for the edges after it. -/
def State.horizon (s : State) (port : Nat) : State :=
  let s := (s.updCalendar port (fun q => { q with opens := true })).retimeEdges port
  if s.rd 0x1C12 port = 0 then s.setPhase port 1 (s.calendar port).next else s

/-- Whether a port's horizon edge is due. -/
def CoursePort.horizonDue (c : CoursePort) (rc : Nat) : Bool := c.armed && !c.opens && decide (c.edge ≤ rc)

/-- COURSE_HORIZON (R282): on every port whose horizon edge is due. -/
def execCourseHorizon (el : Nat) (s : State) : Out :=
  s.run el (fun s => if s.coursing then (s.calendars (fun _ c => c.horizonDue s.rc)).foldl State.horizon s else s)

/-! ### The open edge (R284 to R286) -/

/-- Gives the increase of the shortfalls to the courses that open, in ascending port order (R284). -/
def State.raiseShort (s : State) (p : Nat) : List Nat → Nat → State
  | [], _ => s
  | port :: t, n =>
    let c := s.rd 0x1C13 port
    let k := 64 * port + c
    let x := Tab.get 0 (s.pl p).sched.short k
    let d := min n (courseTiles (s.course port c) - x)
    let s := if d = 0 then s
      else
        let s := s.updPl p (fun q => { q with sched := { q.sched with short := Tab.set q.sched.short k (x + d) } })
        ((s.incBy 0x1C18 (9216 * p + k) d).inc 0x1C19 (9216 * p + k)).fault 137 p
    s.raiseShort p t (n - d)

/-- The codes of a frame's tiles. -/
def Plane.codesOf (q : Plane) (h : Nat) : List Nat :=
  match Tab.find? q.desc h with
  | some d => (q.chainOf 36 h d.tail).map (fun t => ((Tab.find? q.tiles t).map Tile.code).getD 0)
  | none => []

/-- The tenant of a queue (PID 2001h): FFh shared. -/
def State.queueTenant (s : State) (q : Nat) : Nat := s.rd 0x2001 q

/-- Whether a queue's tail copy may be reclaimed for tenant `t`: (queue, tail copy). -/
def State.reclaimable (s : State) (p t : Nat) (e : Nat × List Copy) : Option (Nat × Copy) :=
  match e.2.getLast? with
  | some c =>
    let codes := (s.pl p).codesOf c.head
    if s.queueTenant e.1 = t ∧ (s.pl p).inTransmission c = false ∧ codes.contains 3 ∧ !codes.contains 4 then some (e.1, c) else none
  | none => none

/-- Of two candidate queues the better victim: lowest class, then deepest, then lowest number (R256, R286). -/
def State.betterVictim (s : State) (p : Nat) (a b : Nat × Copy) : Nat × Copy :=
  let ka := s.queueClass a.1
  let kb := s.queueClass b.1
  let ta := (s.pl p).tilesQ a.1
  let tb := (s.pl p).tilesQ b.1
  if kb < ka ∨ (kb = ka ∧ (ta < tb ∨ (ta = tb ∧ b.1 < a.1))) then b else a

/-- The best victim of a list. -/
def State.victim (s : State) (p : Nat) (l : List (Nat × Copy)) : Option (Nat × Copy) :=
  l.foldl (fun best x => match best with
    | none => some x
    | some b => some (s.betterVictim p b x)) none

/-- Reclaims for one course, with the discards left (R286). -/
def State.reclaimFor (p port c tenant : Nat) : Nat → State → State × Nat
  | 0, s => (s, 0)
  | n + 1, s =>
    if Tab.get 0 (s.pl p).sched.short (64 * port + c) = 0 then (s, n + 1)
    else
      match s.victim p ((s.pl p).queues.filterMap (s.reclaimable p tenant)) with
      | none => (s, n + 1)
      | some (_, v) =>
        let s := (s.discard p v 0x1C1F).inc 0x1C1A (9216 * p + 64 * port + c)
        State.reclaimFor p port c tenant n s

/-- Reclaims for the courses that open with policy 1, ascending (R286): the state, the discards left and whether a
shortfall remains. -/
def State.reclaim (s : State) (p : Nat) : List Nat → Nat → Bool → State
  | [], _, left => if left then (s.inc 0x1C27 p).fault 138 p else s
  | port :: t, n, left =>
    let c := s.rd 0x1C13 port
    let r := s.course port c
    if courseReclaim r then
      let (s, m) := State.reclaimFor p port c ((bitsOf 16 (courseTenants r)).headD 16) n s
      s.reclaim p t m (left || Tab.get 0 (s.pl p).sched.short (64 * port + c) != 0)
    else s.reclaim p t n left

/-- The open edge of one port: its phase, its window and the next course, the first to open after it. -/
def State.openPort (s : State) (port : Nat) : State :=
  let c := s.calendar port
  let s := (s.setPhase port 2 c.next).inc 0x1C1D (64 * port + c.next)
  let s := s.updCalendar port (fun q => { q with nowAt := c.openAt, openRC := c.edge })
  (s.placeNext port (max (c.openAt + 1) (s.time.triple.dtOf c.edge)) c.edge).retimeEdges port

/-- Whether a port's open edge is due: its horizon has taken effect and it has no course open. -/
def State.openDue (s : State) (port : Nat) (c : CoursePort) : Bool :=
  c.armed && c.opens && decide (c.edge ≤ s.rc) && s.rd 0x1C12 port != 2

/-- Whether the open instant of a port's next course has come. -/
def State.openPassed (s : State) (c : CoursePort) : Bool := c.armed && decide (s.time.triple.rcOf c.openAt ≤ s.rc)

/-- An open edge suppressed by a suspension (R289): counted, and the next one placed. -/
def State.suppress (s : State) (port : Nat) : State :=
  (s.inc 0x1C24 port).placeNext port ((s.calendar port).openAt + 1) s.rc

/-- COURSE_OPEN's effect on every port whose open edge is due (R284, R286). -/
def courseOpen (s : State) : State :=
  if s.coursing then
    let ports := s.calendars s.openDue
    let s := ports.foldl State.openPort s
    [0, 1].foldl (fun s p =>
      let s := s.raiseShort p ports (s.excess p - (s.pl p).shortSum)
      s.reclaim p ports (s.rd 0x1C20 0) false) s
  else if s.rd 0x1C11 0 = 2 then
    (s.calendars (fun _ c => s.openPassed c)).foldl State.suppress s
  else s

/-- COURSE_OPEN (R284). -/
def execCourseOpen (el : Nat) (s : State) : Out := s.run el courseOpen

/-! ### The close and settled edges (R278, R282) -/

/-- A port's open course closes; it settles 20 µs after its close instant. -/
def State.closePort (s : State) (port : Nat) : State :=
  let c := s.calendar port
  let k := s.rd 0x1C13 port
  let r := s.course port k
  let settled := c.nowAt + nsUnits (courseLength r + 20000)
  let s := s.updCalendar port (fun q => { q with old := q.old ++ [⟨k, r, c.openRC, c.closeRC, settled, 0⟩] })
  (s.setPhase port 3 k).retimeEdges port

/-- COURSE_CLOSE (R278): on every port whose close edge is due. -/
def execCourseClose (el : Nat) (s : State) : Out :=
  s.run el (fun s =>
    if s.coursing then (s.calendars (fun i c => s.rd 0x1C12 i == 2 && decide (c.closeRC ≤ s.rc))).foldl State.closePort s else s)

/-- The shortfall of a course becomes 0 in both planes. -/
def State.clearShort (s : State) (port c : Nat) : State :=
  [0, 1].foldl (fun s p => s.updPl p (fun q => { q with sched := { q.sched with short := Tab.del q.sched.short (64 * port + c) } })) s

/-- The settled edges of a port that are due: an x_c still outstanding becomes 0, and a port with no other course settling
passes on to the phase its next course gives it. -/
def State.settlePort (s : State) (port : Nat) : State :=
  let c := s.calendar port
  let done := c.old.filter (fun x => decide (x.settledRC ≤ s.rc))
  let s := done.foldl (fun s x => if s.openKey (64 * port + x.course) then s else s.clearShort port x.course) s
  let s := (s.updCalendar port (fun q => { q with old := q.old.filter (fun x => decide (s.rc < x.settledRC)) })).retimeEdges port
  if s.rd 0x1C12 port = 3 ∧ (s.calendar port).old.isEmpty then s.restPhase port else s

/-- COURSE_SETTLED's effect on every port with a settled edge due (R282); the tiles lent rise, so the shortfalls follow
(R284). -/
def courseSettled (s : State) : State :=
  if s.coursing then
    ((s.calendars (fun _ c => c.old.any (fun x => decide (x.settledRC ≤ s.rc)))).foldl State.settlePort s).settleShorts
  else s

/-- COURSE_SETTLED (R282). -/
def execCourseSettled (el : Nat) (s : State) : Out := s.run el courseSettled

/-! ### Service and yield (R280, R287) -/

/-- Whether a window and its record serve a frame that arrived at `rc` in a queue of class `k` and tenant `t`. -/
def windowServes (r openRC closeRC rc k t : Nat) : Bool :=
  decide (openRC ≤ rc ∧ rc < closeRC) && (courseClasses r).testBit k && decide (t < 16) && (courseTenants r).testBit t

/-- The course that serves a copy to a queue of a port (R280). -/
def State.servedBy (s : State) (port q rc : Nat) : Option Nat :=
  let k := s.queueClass q
  let t := s.queueTenant q
  let c := s.calendar port
  let now := s.rd 0x1C13 port
  if s.rd 0x1C12 port = 2 ∧ windowServes (s.course port now) c.openRC c.closeRC rc k t = true then some now
  else (c.old.find? (fun x => windowServes x.record x.openRC x.closeRC rc k t)).map ClosedCourse.course

/-- Whether a course yield holds class `k` on a port (R287). -/
def State.yields (s : State) (port k : Nat) : Bool :=
  s.rd 0x1C12 port == 2 && decide (k < courseYield (s.course port (s.rd 0x1C13 port)))

/-! ### Suspension (R289) -/

/-- The open and the settling courses of a port end at once, with their shortfalls (R289, R292). -/
def State.endCourses (s : State) (port : Nat) : State :=
  let s := if s.rd 0x1C12 port = 2 then s.clearShort port (s.rd 0x1C13 port) else s
  let s := (s.calendar port).old.foldl (fun s x => s.clearShort port x.course) s
  (s.updCalendar port (fun q => { q with old := [] })).setPhase port 0 0xFF

/-- COURSING_SUSPEND (R289): every course closes; the next open edge of each port is kept, to be suppressed. -/
def coursingSuspend (s : State) : State :=
  if s.coursing ∧ s.timed = false then
    let s := (((s.wr 0x1C11 0 2).inc 0x1C22 0).stamp 0x1C23 0).fault 136 moduleInst
    ((s.calendars (fun _ _ => true)).foldl State.endCourses s).settleShorts
  else s

/-- COURSING_SUSPEND (R289). -/
def execCoursingSuspend (el : Nat) (s : State) : Out := s.run el coursingSuspend

/-- Whether a window that opened before the suspension is in progress on a port. -/
def State.windowRunning (s : State) (port : Nat) : Bool :=
  let cycle := nsUnits (s.rd 0x1C09 port)
  decide (0 < cycle) && s.flag 0x1C00 port && (List.range (s.rd 0x1C0C port)).any (fun c =>
    let r := s.course port c
    let u := gridAfter (s.cycleOrigin port + nsUnits (courseStart r)) cycle (s.dt + 1) - cycle
    decide (s.dt < u + nsUnits (courseLength r) ∧ u ≤ decDT (s.rd 0x1C23 0)))

/-- A port resumes with the edges of the current cycle. A window that stays closed, or whose open edge passed unreported, was
not opened (R293). -/
def State.resumePort (s : State) (port : Nat) : State :=
  (if s.windowRunning port || s.openPassed (s.calendar port) then s.inc 0x1C24 port else s).arm port

/-- COURSING_RESUME (R289). -/
def coursingResume (s : State) : State :=
  if s.rd 0x1C11 0 = 2 ∧ s.timed = true then
    let s := s.wr 0x1C11 0 1
    ((s.calendars (fun _ _ => true)).foldl State.resumePort s).settleShorts
  else s

/-- COURSING_RESUME (R289). -/
def execCoursingResume (el : Nat) (s : State) : Out := s.run el coursingResume

/-! ### Swap, enable and disable (R290 to R292) -/

/-- A port's next course is placed after a change of its bank or enable: in force, or to be suppressed. -/
def State.placeCourse (s : State) (port : Nat) : State :=
  if s.coursing then s.arm port else if s.rd 0x1C11 0 = 2 then s.placeNow port else s

/-- A bank becomes the live bank of a port (R291): an open course of the old bank closes and settles. -/
def State.takeBank (s : State) (port : Nat) (b : CourseBank) : State :=
  let s := if s.rd 0x1C12 port = 2 then s.closePort port else s
  let s := (((s.wr 0x1C09 port b.cycle).wr 0x1C0A port b.phase).wr 0x1C0B port b.lead).wr 0x1C0C port b.records.length
  let s := (List.range 64).foldl (fun s c => s.wr 0x1C0D (64 * port + c) (b.records.getD c 0)) s
  (((s.settleShare port).updCalendar port (fun q => { q with swapRC := none })).placeCourse port).settleShorts

/-- A swap completes (R291, PIDs 1C07h, 1C08h and 1C26h). -/
def State.swapDone (s : State) (port : Nat) (b : CourseBank) : State :=
  (((s.takeBank port b).wr 0x1C07 port 0).stamp 0x1C08 port).inc 0x1C26 port

/-- Requests a bank swap (R291): the state, and whether the check passed. The bank that passed the check is the one that
becomes live (DESIGN CHOICE, log entry 17). -/
def State.requestSwap (s : State) (port : Nat) : State × Bool :=
  if s.bankOk port then
    let s := s.wr 0x1C25 port 0
    if s.flag 0x1C00 port = false ∨ s.rd 0x1C09 port = 0 then (s.swapDone port (s.shadowBank port), true)
    else
      let u := gridAfter (s.cycleOrigin port) (nsUnits (s.rd 0x1C09 port)) (s.dt + nsUnits 1000000)
      ((s.wr 0x1C07 port 1).updCalendar port (fun q => { q with
        swapRC := some (s.time.triple.rcOf u), swapBank := s.shadowBank port }), true)
  else (s.wr 0x1C25 port 0x13, false)

/-- BANK_SWAP_EFFECT (R291): the swap whose live-cycle start has come. -/
def bankSwapEffect (port : Nat) (s : State) : State :=
  match (s.calendar port).swapRC with
  | some rc => if rc ≤ s.rc then s.swapDone port (s.calendar port).swapBank else s
  | none => s

/-- BANK_SWAP_EFFECT (R291). -/
def execBankSwapEffect (el : Nat) (port : PortNo) (s : State) : Out := s.run el (bankSwapEffect port.val)

/-- Coursing enabled on a port: refused where the shares would pass the K size (R282). -/
def State.enableCoursing (s : State) (port : Nat) : Option State :=
  if s.flag 0x1C00 port then some s
  else
    let c := s.calendar port
    let k := largestShare (s.bank 0x1C0C 0x1C0D port)
    let k := if c.swapRC.isSome then max k (largestShare c.swapBank.records) else k
    if s.sharesDue port + k ≤ s.rd 0x180D 0 then some (((s.wr 0x1C00 port 1).settleShare port).placeCourse port) else none

/-- Coursing disabled on a port (R292): an open course closes and its yield ends at once. -/
def State.disableCoursing (s : State) (port : Nat) : State :=
  let s := (s.endCourses port).updCalendar port (fun q => { q with armed := false })
  ((s.wr 0x1C00 port 0).settleShare port).settleShorts

/-- Coursing starts at the entry to Bonded (R289, R290): every port's stored shadow bank is checked and made live; without
servo lock or holdover it starts suspended. -/
def State.startCoursing (s : State) : State :=
  let s := (List.range 144).foldl (fun s i =>
    if s.bankOk i then (s.wr 0x1C25 i 0).takeBank i (s.shadowBank i)
    else ((s.wr 0x1C25 i 0x13).wr 0x1C00 i 0).settleShare i) s
  if s.timed then
    let s := s.wr 0x1C11 0 1
    (s.calendars (fun _ _ => true)).foldl State.arm s
  else
    let s := (((s.wr 0x1C11 0 2).inc 0x1C22 0).stamp 0x1C23 0).fault 136 moduleInst
    (s.calendars (fun _ _ => true)).foldl State.placeNow s

end Sys2Proof.Machine
end

