-- ==== Sys2Proof/Machine/Gates.lean ====
section
/-! DEFINITION. Gate control lists of the external ports (10 R312 to R317). -/

namespace Sys2Proof.Machine

/-- Interval in ns and gate states of an 8-byte entry (R312). -/
def gateInterval (r : Nat) : Nat := bytesAt 8 r 0 3
/-- Gate states of an entry: bit k opens class k. -/
def gateStates (r : Nat) : Nat := byteAt 8 r 4

/-- The entries of a port's list, admin (PID 2204h) or oper (PID 220Bh). -/
def State.gateList (s : State) (pid e n : Nat) : List Nat := (List.range n).map (fun k => s.rd pid (256 * e + k))

/-- Whether a configuration change of a port passes the checks of R313. -/
def State.gateCheck (s : State) (e : Nat) : Bool :=
  let n := s.rd 0x2203 e
  let l := s.gateList 0x2204 e n
  decide (0 < n) && decide (n ≤ 256) && l.all (fun r => r % 2 ^ 24 == 0 && decide (10 ≤ gateInterval r)) &&
    decide ((l.map gateInterval).sum ≤ s.rd 0x2202 e) && !s.flag 0x083A e

/-- The change time: base + N × cycle for the least N ≥ 0 at or after the request DT plus the change lead (R313). -/
def State.changeTime (s : State) (e : Nat) : Int :=
  let base := decDT (s.rd 0x2201 e)
  let cycle := nsUnits (s.rd 0x2202 e)
  let want := s.dt + nsUnits (s.rd 0x221E e * 1000)
  if want ≤ base then base else base + (-(floorDiv (base - want) cycle)) * cycle

/-- Requests a configuration change (R313): the state, and whether the request passed. -/
def State.requestGates (s : State) (e : Nat) : State × Bool :=
  if s.gateCheck e then
    let t := s.changeTime e
    let s := ((s.wr 0x2206 e 1).wr 0x2207 e (encDT t)).wr 0x220E e 0
    ({ s with gateChange := Tab.set s.gateChange e (s.time.triple.rcOf t) }, true)
  else (s.wr 0x220E e 0x13, false)

/-- The lengths of a list's entries over its cycle: the last entry's states hold until the cycle ends (R312). -/
def gateSpans (l : List Nat) (cycle : Nat) : List (Nat × Nat) :=
  let head := l.dropLast
  (head.map (fun r => (gateInterval r, gateStates r))) ++
    (match l.getLast? with
     | some r => [(cycle - (head.map gateInterval).sum, gateStates r)]
     | none => [])

/-- The longest continuous open time of a class, joined across the cycle wrap (R316). -/
def longestOpen (spans : List (Nat × Nat)) (k : Nat) : Nat :=
  if spans.all (fun x => x.2.testBit k) then 0xFFFFFFFF
  else ((spans ++ spans).foldl (fun (acc : Nat × Nat) x =>
    let run := if x.2.testBit k then acc.1 + x.1 else 0
    (run, max acc.2 run)) (0, 0)).2

/-- Places the oper list at an entry of the cycle that starts at `start`: states, and the RC of the next edge (R314). A pending
change time, which may be the edge that follows, is computed anew. -/
def State.gateAt (s : State) (e n : Nat) (start : Int) : State :=
  let len := s.rd 0x220A e
  let l := s.gateList 0x220B e len
  let cycle := s.rd 0x2209 e
  let next : Int := if n + 1 < len then start + nsUnits (((l.take (n + 1)).map gateInterval).sum : Nat) else start + nsUnits cycle
  let s := ((s.wr 0x220C e n).wr 0x220D e (gateStates ((l[n]?).getD 0))).wr 0x221C e (encDT (start + nsUnits cycle))
  { s with
    gateEdge := Tab.set s.gateEdge e (s.time.triple.rcOf next)
    gateChange := match Tab.find? s.gateChange e with
      | some _ => Tab.set s.gateChange e (s.time.triple.rcOf (decDT (s.rd 0x2207 e)))
      | none => s.gateChange }

/-- The change time is reached: the admin list becomes the oper list (R313, R316); its gates act only while the list is enabled
(R317). -/
def configurationChange (e : Nat) (s : State) : State :=
  match Tab.find? s.gateChange e with
  | some rc =>
    if rc ≤ s.rc then
      let start := decDT (s.rd 0x2207 e)
      let n := s.rd 0x2203 e
      let s := ((s.wr 0x2208 e (s.rd 0x2201 e)).wr 0x2209 e (s.rd 0x2202 e)).wr 0x220A e n
      let s := (List.range 256).foldl (fun s k => s.wr 0x220B (256 * e + k) (if k < n then s.rd 0x2204 (256 * e + k) else 0)) s
      let spans := gateSpans (s.gateList 0x220B e n) (s.rd 0x2209 e)
      let s := (List.range 8).foldl (fun s k => s.wr (0x2210 + k) e (longestOpen spans k)) s
      let s := (s.wr 0x2206 e 0).inc 0x220F e
      let s := { s with gateChange := Tab.del s.gateChange e }
      if s.flag 0x2200 e then (s.wr 0x221F e 2).gateAt e 0 start else s
    else s
  | none => s

/-- CONFIGURATION_CHANGE (R313). -/
def execConfigurationChange (el : Nat) (port : PortNo) (s : State) : Out := s.run el (configurationChange port.val)

/-- An entry edge or a cycle start takes effect (R314). -/
def gateEdge (e : Nat) (s : State) : State :=
  match Tab.find? s.gateEdge e with
  | some rc =>
    if rc ≤ s.rc ∧ s.rd 0x221F e = 2 then
      let n := s.rd 0x220C e
      let start := decDT (s.rd 0x221C e) - nsUnits (s.rd 0x2209 e)
      if n + 1 < s.rd 0x220A e then s.gateAt e (n + 1) start else s.gateAt e 0 (start + nsUnits (s.rd 0x2209 e))
    else s
  | none => s

/-- GATE_EDGE (R314). -/
def execGateEdge (el : Nat) (port : PortNo) (s : State) : Out := s.run el (gateEdge port.val)

/-- Enables a gate list (R317): initial states at once, and a change request; where that fails the list stays disabled. -/
def State.enableGates (s : State) (e : Nat) : State :=
  let (s, ok) := s.requestGates e
  if ok then ((s.wr 0x2200 e 1).wr 0x220D e (s.rd 0x221B e)).wr 0x221F e 1 else s.wr 0x2200 e 0

/-- Disables a gate list (R317): every gate open at once, a pending change cancelled. -/
def State.disableGates (s : State) (e : Nat) : State :=
  let s := (((s.wr 0x2200 e 0).wr 0x220D e 0xFF).wr 0x221F e 0).wr 0x2206 e 0
  { s with gateChange := Tab.del s.gateChange e, gateEdge := Tab.del s.gateEdge e }

/-- Whether the gate of a class is open now. -/
def State.gateOpen (s : State) (e k : Nat) : Bool := s.rd 0x221F e == 0 || (s.rd 0x220D e).testBit k

/-- How long, in DT units, a run of spans stays open for a class. -/
def openRun (k : Nat) : List (Nat × Nat) → Int
  | [] => 0
  | x :: t => if x.2.testBit k then nsUnits x.1 + openRun k t else 0

/-- The time the gate of a class stays open from now, in DT units; `none` where nothing will close it (R315). The next edge and a
pending change, which counts as a close, come at the RCs computed for them (R314). -/
def State.openTime (s : State) (e k : Nat) : Option Int :=
  let byChange : Option Int :=
    (Tab.find? s.gateChange e).map (fun rc => s.time.triple.dtOf rc - s.dt)
  let byList : Option Int :=
    if s.rd 0x221F e = 2 then
      let spans := gateSpans (s.gateList 0x220B e (s.rd 0x220A e)) (s.rd 0x2209 e)
      let n := s.rd 0x220C e
      if spans.all (fun x => x.2.testBit k) then none
      else (Tab.find? s.gateEdge e).map (fun rc => s.time.triple.dtOf rc - s.dt + openRun k (spans.drop (n + 1) ++ spans))
    else none
  match byChange, byList with
  | none, r => r
  | r, none => r
  | some a, some b => some (min a b)

/-- The time a copy of `l` bytes and the guard margin take, in DT units (R315). -/
def State.gateNeed (s : State) (e l : Nat) : Int :=
  let mb := s.portRate e
  (((((l + 20) * 8000 * 65536 + mb - 1) / mb : Nat) : Int)) + nsUnits (s.rd 0x221D e)

/-- Whether a copy fits the open time of its class's gate (R315). -/
def State.gateFits (s : State) (e k l : Nat) : Bool :=
  if s.rd 0x221F e = 0 then true
  else
    s.gateOpen e k && (match s.openTime e k with
      | some t => decide (s.gateNeed e l ≤ t)
      | none => true)

/-- Whether a copy can never fit its class's gate (R316). -/
def State.gateNever (s : State) (e k l : Nat) : Bool :=
  s.rd 0x221F e == 2 && s.rd (0x2210 + k) e != 0xFFFFFFFF && decide (nsUnits (s.rd (0x2210 + k) e) < s.gateNeed e l)

end Sys2Proof.Machine
end

