-- ==== Sys2Proof/Machine/Admit.lean ====
section
/-! DEFINITION. Admission in a plane (08 R252 to R268, 07 R229 to R232, 10 R299): the checks of each copy, push-out, the chain of
pools, and the queuing of the copies with their ECN mark, deadline and cut-through decision. -/

namespace Sys2Proof.Machine

/-- A copy under admission: scheduler port, queue, class, tile need; kept past the limits (R111); marked for push-out. -/
structure Cand where
  port : Nat
  queue : Nat
  cls : Nat
  need : Nat
  pfc : Bool
  push : Bool
  deriving DecidableEq, Repr

/-! ### Queues and needs (R253, R299) -/

/-- The queue of a copy to a scheduler port (R299), and whether the bed's queue was refused. -/
def State.queueOf (s : State) (e cls tenant : Nat) (written : Option Nat) : Nat × Bool :=
  match written with
  | none => (8 * e + cls, false)
  | some q =>
    if q < 32768 ∧ s.queuePort q = e ∧ (s.queueTenant q = 0xFF ∨ s.queueTenant q = tenant) then (q, false) else (8 * e + cls, true)

/-- The length of a frame, where its end has been received. -/
def Frame.length? (f : Frame) : Option Nat := if f.ended then some f.bytes.length else none

/-- The tile need of a copy (R253). -/
def State.needOf (s : State) (f : Frame) (e : Nat) : Nat :=
  match f.length? with
  | some l => (l + 255) / 256
  | none => if e < 144 then s.rd 0x1A04 e else 1

/-- The profile of a queue. -/
def State.profile (s : State) (q : Nat) : Nat := s.rd 0x1A06 q % 64

/-! ### The checks of R254 -/

/-- What the checks make of a copy. -/
inductive Check where
  | keep (c : Cand)
  /-- refused, with the counter and its instance -/
  | drop (pid inst : Nat)
  /-- refused at the hold limit (04 R128) -/
  | held
  deriving DecidableEq, Repr

/-- Whether PFC keeps a frame's copy past the limits (R111). -/
def State.pfcKeeps (s : State) (p : Nat) (f : Frame) (need : Nat) : Bool :=
  let i := 8 * f.port + f.icls
  decide (f.port < 144) && (s.rd 0x0832 f.port).testBit f.icls &&
    decide (s.rd 0x0836 i ≤ Tab.get 0 (s.pl p).pools.occ i) &&
    decide (need ≤ s.rd 0x0838 i - Tab.get 0 (s.pl p).pools.h i)

/-- The checks of one copy to an external port, up to the tenant mask (R254). -/
def State.checkCopy (s : State) (p : Nat) (f : Frame) (unicast : Bool) (tenant : Nat) (c : Cand) : Check :=
  let e := c.port
  let limits : Check :=
    if s.pfcKeeps p f c.need then .keep { c with pfc := true }
    else if s.rd 0x1A09 (s.profile c.queue) < (s.pl p).tilesQ c.queue + c.need then .drop 0x1A1C (qInst p c.queue)
    else if s.rd 0x1A00 e = 0 ∧ (s.rd 0x1A01 (8 * e + c.cls) < (s.pl p).tilesEK e c.cls + c.need ∨ s.rd 0x1A02 e < (s.pl p).tilesE e + c.need) then
      .drop 0x1A1C (qInst p c.queue)
    else if s.rd 0x1A00 e = 1 ∧ s.rd 0x1A02 e < (s.pl p).tilesE e + c.need then .keep { c with push := true }
    else .keep c
  if 144 ≤ e then .keep c
  else if unicast ∧ e = f.port ∧ s.flag 0x1A15 e = false then .drop 0x1A29 (pInst p e)
  else if s.link e ≠ 3 ∧ s.link e ≠ 4 then .drop 0x1A25 (pInst p e)
  else if s.link e = 4 ∧ s.rd 0x083E e < (s.pl p).tilesE e + c.need then
    .held
  else if s.flag 0x1A07 c.queue = false then .drop 0x1A23 (qInst p c.queue)
  else if (match f.length? with | some l => decide (s.rd 0x0803 e < l) | none => false) = true then .drop 0x1A28 (pInst p e)
  else
    match limits with
    | .keep c => if f.moduleFrame = false ∧ (s.rd 0x0911 e).testBit tenant = false then .drop 0x1A24 (pInst p e) else .keep c
    | r => r

/-- A step hold drop of port `e`: the port group counts it once, whichever plane discards the frame's copy first (04 R129,
R130). -/
def State.holdDrop (s : State) (e : Nat) (f : Frame) : State :=
  if (s.port e).holdDrops.contains (f.port, f.seq) then
    s.updPort e (fun q => { q with holdDrops := q.holdDrops.filter (· != (f.port, f.seq)) })
  else (s.inc 0x3C16 e).updPort e (fun q => { q with holdDrops := q.holdDrops ++ [(f.port, f.seq)] })

/-- The copies that pass the checks, in order, with the counts of those refused. -/
def State.checkAll (s : State) (p : Nat) (f : Frame) (unicast : Bool) (tenant : Nat) : List Cand → State × List Cand
  | [] => (s, [])
  | c :: t =>
    match s.checkCopy p f unicast tenant c with
    | .keep c => let r := State.checkAll s p f unicast tenant t; (r.1, c :: r.2)
    | .drop pid inst => State.checkAll (s.inc pid inst) p f unicast tenant t
    | .held => State.checkAll (s.holdDrop c.port f) p f unicast tenant t

/-! ### Push-out (R256) -/

/-- The victim of a push-out for a copy. -/
def State.pushVictim (s : State) (p e cls tenant : Nat) : Option (Nat × Copy) :=
  s.victim p ((s.pl p).queues.filterMap (fun x =>
    match x.2.getLast? with
    | some c =>
      let t := ((Tab.find? (s.pl p).desc c.head).map Desc.tenant).getD 16
      if c.port = e ∧ c.cls < cls ∧ t = tenant ∧ (s.pl p).inTransmission c = false then some (x.1, c) else none
    | none => none))

/-- Evicts while a reason is not satisfied, for at most the eviction limit. -/
def State.pushOut (p e cls tenant : Nat) (done : State → Bool) : Nat → State → State
  | 0, s => s
  | n + 1, s =>
    if done s then s
    else
      match s.pushVictim p e cls tenant with
      | some (_, v) => State.pushOut p e cls tenant done n (s.discard p v 0x1A1D)
      | none => s

/-- Push-out for the port limit of each marked copy, ascending; an unsatisfied copy is dropped and counted. -/
def State.pushPorts (s : State) (p tenant : Nat) : List Cand → State × List Cand
  | [] => (s, [])
  | c :: t =>
    if c.push then
      let done (s : State) : Bool := decide ((s.pl p).tilesE c.port + c.need ≤ s.rd 0x1A02 c.port)
      let s := State.pushOut p c.port c.cls tenant done (s.rd 0x1A05 c.port) s
      if done s then let r := State.pushPorts s p tenant t; (r.1, c :: r.2)
      else State.pushPorts (s.inc 0x1A1E (qInst p c.queue)) p tenant t
    else let r := State.pushPorts s p tenant t; (r.1, c :: r.2)

/-! ### The chain of pools (R229) -/

/-- The X sub-pool of a frame whose first copy goes to scheduler port `e`. -/
def xSub (e : Nat) (injected : Bool) : Nat := if e = 146 then 0 else if 144 ≤ e then 1 else if injected then 2 else 0

/-- The chain of a frame with its copies, ascending (R229). -/
def State.chainFor (s : State) (f : Frame) (served : Bool) (l : List Cand) : List Nat :=
  match l with
  | [] => []
  | c :: rest =>
    if c.port = 144 ∨ c.port = 145 then [5, 2]
    else if c.port = 146 then [5]
    else if c.port = 147 then [2]
    else if 144 ≤ f.port then [5, 2]
    else
      let base := if rest.isEmpty then
          (if s.rd 0x1818 c.queue = 2 then [0] else if s.rd 0x1818 c.queue = 1 then [0, 2] else [0, 1, 2])
        else [1, 2]
      let base := if served then 4 :: base else base
      if (s.rd 0x0832 f.port).testBit f.icls then base ++ [6] else base

/-- The course that serves a frame, with its port: that of the lowest-numbered port among its served copies (R280). -/
def State.courseFor (s : State) (p : Nat) (f : Frame) (l : List Cand) : Option (Nat × Nat) :=
  if s.gateShut (domPlane p) 1 then none
  else (l.filter (fun c => decide (c.port < 144))).findSome? (fun c => (s.servedBy c.port c.queue f.rc).map (fun k => (k, c.port)))

/-- The descriptor of a frame before its first tile (R221, R223). -/
def State.newDesc (s : State) (p : Nat) (f : Frame) (tenant rewrite : Nat) (l : List Cand) : Desc :=
  let course := if f.port < 144 then s.courseFor p f l else none
  { frame := f, gen := 0, count := 1, tail := 0, holders := 2 ^ 148, refs := 1, tenant := tenant
    group := match l with
      | c :: _ => s.rd 0x1804 c.queue % 2048
      | [] => 0
    course := course.map Prod.fst
    kport := (course.map Prod.snd).getD 0
    xsub := match l with
      | c :: _ => xSub c.port (decide (144 ≤ f.port))
      | [] => 0
    chain := s.chainFor f course.isSome l, rewrite := rewrite, headerCode := 0 }

/-! ### Queuing (R258, R259, R262, R265) -/

/-- Whether a copy is marked for congestion (R258): `depth` is tiles(q) before it. -/
def State.ecnMarks (s : State) (f : Frame) (q depth : Nat) : Bool :=
  let t := s.rd 0x1A0A (s.profile q)
  decide (t ≠ 0 ∧ t < depth) && (bedIPv4 f.bed || bedIPv6 f.bed) && (bedEcn f.bed == 1 || bedEcn f.bed == 2) && f.ipOff.isSome

/-- The deadline of R263, in ns of DT, from the arrival DT in ns and the fields of the bed. -/
def State.deadlineNs (s : State) (bed prof e : Nat) (arrival : Int) : Int :=
  let mu := s.rd 0x1A0F prof
  let eo := floorDiv (decDT (s.rd 0x1A10 0)) 65536 + signed 32 (s.rd 0x1A11 0)
  let a := floorDiv (arrival - eo) 10000000
  let frameId : Int := bedGet bed 103 96
  let n := a + (frameId - a % 256 + 128) % 256 - 128
  let tsym := eo + n * 10000000 + (bedGet bed 95 92 : Int) * 1000000 + (bedGet bed 91 86 : Int) * (1000000 / 2 ^ mu) +
    ((bedGet bed 85 80 * 1000000 / (14 * 2 ^ mu) : Nat) : Int)
  tsym + signed 32 (s.rd (if bed.testBit 79 then 0x1A0E else 0x1A0D) prof) - (if e < 144 then (s.rd 0x1A12 e : Int) else 0)

/-- The deadline RC of a copy (R262, R263), with the skip counted. -/
def State.deadline (s : State) (p : Nat) (f : Frame) (e q : Nat) : State × Option Nat :=
  let prof := s.profile q
  if s.flag 0x1A0C prof = true ∧ f.bed.testBit 188 = true ∧ f.bed.testBit 78 = true then
    if s.timed = true ∧ bedGet f.bed 95 92 ≤ 9 ∧ bedGet f.bed 91 86 < 2 ^ s.rd 0x1A0F prof ∧ bedGet f.bed 85 80 ≤ 13 then
      let arrival := floorDiv (s.time.triple.dtOf f.rc) 65536
      (s, some (s.time.triple.rcOf (nsUnits (s.deadlineNs f.bed prof e arrival))))
    else (s.inc 0x1A2C p, none)
  else (s, none)

/-- A port-level PAUSE in force (R106). -/
def State.pausedPort (s : State) (e : Nat) : Bool :=
  match (s.port e).pauseUntil with
  | some t => decide (s.rc < t)
  | none => false

/-- A PFC pause of a class in force (R107). -/
def State.pausedClass (s : State) (e k : Nat) : Bool :=
  match Tab.find? (s.port e).pfcUntil k with
  | some t => decide (s.rc < t)
  | none => false

/-- The tokens of a shaper, in 10^-6 byte: a shaper not yet charged is full at its burst in force; an unshaped one always has
some (R307, R308). -/
def State.shaperTokens (s : State) (p el : Nat) : Int :=
  match Tab.find? (s.pl p).sched.rates el with
  | some (0, _) => 1
  | none => 1
  | some (_, burst) => Tab.get ((burst : Int) * 1000000) (s.pl p).sched.tokens el

/-- The shaper elements above a queue (R307): nodes, class and port. -/
def State.shapersAbove (s : State) (q e k : Nat) : List Nat := s.nodesAbove q ++ [elem 3 (8 * e + k), elem 4 e]

/-- Scheduling acts as configured from the entry to Bonded on (R306). -/
def State.scheduled (s : State) : Bool := s.stageAtLeast 2

/-- The cut-through conditions of R265 beyond the port's enable. -/
def State.cutsThrough (s : State) (p : Nat) (f : Frame) (c : Cand) : Bool :=
  let e := c.port
  decide (f.port < 144) && !f.second && ((s.pl p).queue c.queue).isEmpty && (Tab.find? (s.pl p).sending e).isNone &&
    !s.pausedPort e && !s.pausedClass e c.cls && s.link e != 4 &&
    (!s.scheduled || (s.shapersAbove c.queue e c.cls).all (fun x => decide (0 < s.shaperTokens p x))) &&
    (s.rd 0x221F e == 0 || s.gateShut (domPlane p) 2) && (!s.yields e c.cls || s.gateShut (domPlane p) 1) && decide (s.portRate e ≤ s.portRate f.port) && decide (s.rd 0x0803 f.port ≤ s.rd 0x0803 e)

/-- The cut-through decision (R265), counted. -/
def State.cutDecision (s : State) (p : Nat) (f : Frame) (c : Cand) : State × Bool :=
  if c.port < 144 ∧ s.flag 0x1A14 c.port = true then
    if s.cutsThrough p f c then (s.inc 0x1A26 (pInst p c.port), true) else (s.inc 0x1A2F p, false)
  else (s, false)

/-- Queues one copy of a stored frame (R223, R248). -/
def State.queueCopy (s : State) (p h : Nat) (d : Desc) (c : Cand) : State :=
  let f := d.frame
  let ecn := s.ecnMarks f c.queue ((s.pl p).tilesQ c.queue)
  let (s, dl) := s.deadline p f c.port c.queue
  let (s, cut) := s.cutDecision p f c
  let copy : Copy := ⟨h, d.gen, c.port, c.queue, c.cls, f.rc, dl, cut, ecn, false, false⟩
  let s := s.updPl p (fun q => { q with
    queues := Tab.upd [] q.queues c.queue (· ++ [copy])
    desc := Tab.upd d q.desc h (fun d => { d with holders := setBit d.holders c.port true, refs := d.refs + 1 }) })
  let s := s.inc 0x1A19 (qInst p c.queue)
  let s := match f.length? with
    | some l => s.incBy 0x1A1A (qInst p c.queue) l
    | none => s
  if ecn then s.inc 0x1A1F (qInst p c.queue) else s

/-! ### Admission (R254) -/

/-- Counts a frame dropped for want of a tile (R230, R272): its copies to internal ports are not made. -/
def State.noTile (s : State) (p : Nat) (l : List Cand) (pushed : Bool) : State :=
  let s := s.inc 0x181D p
  let s := l.foldl (fun s c => if 144 ≤ c.port then s.inc 0x1A2B (4 * p + (c.port - 144)) else s) s
  if pushed then
    match l.find? (fun c => decide (c.port < 144) && s.rd 0x1A00 c.port == 1) with
    | some c => s.inc 0x1A1E (qInst p c.queue)
    | none => s
  else s

/-- Stores a frame and queues its copies (R223, R254): the first tile, then each copy, ascending. -/
def State.storeFrame (s : State) (p : Nat) (d : Desc) (code : Nat) (l : List Cand) (pushed : Bool) : State :=
  let (s, t) := s.allocate p d code
  match t with
  | none => (s.noTile p l pushed).startScrub p
  | some t =>
    let gen := (Tab.get 0 (s.pl p).gens t + 1) % 256
    let d := { d with gen := gen, tail := t, headerCode := crc32c (d.frame.bytes.take 128) }
    let s := s.updPl p (fun q => { q with gens := Tab.set q.gens t gen, desc := Tab.set q.desc t d })
    let s := l.foldl (fun s c => s.queueCopy p t d c) s
    let s := if 1 < l.length then s.inc 0x182B p else s
    (s.pauseCheck d.frame.port).settleReception p t

/-- Admission of a frame with its candidate copies, ascending (R254). `tenant` is the tenant of R221. -/
def State.admission (s : State) (p : Nat) (f : Frame) (unicast : Bool) (tenant rewrite : Nat) (l : List Cand) : State :=
  let (s, l) := s.checkAll p f unicast tenant l
  if l.isEmpty then s
  else
    let (s, l) := s.pushPorts p tenant l
    if l.isEmpty then s
    else
      let d := s.newDesc p f tenant rewrite l
      let pusher := l.find? (fun c => decide (c.port < 144) && s.rd 0x1A00 c.port == 1)
      match s.ask p d d.chain, pusher with
      | (s, some code), _ => s.storeFrame p d code l false
      | (s, none), none => s.noTile p l false
      | (s, none), some c =>
        let s := State.pushOut p c.port c.cls tenant (fun s => decide (c.need ≤ s.chainRoom p d)) (s.rd 0x1A05 c.port) s
        match s.ask p d d.chain with
        | (s, some code) => s.storeFrame p d code l true
        | (s, none) => s.noTile p l true

/-- The candidate copy of a frame to a scheduler port, with the queue mismatch counted (R299). -/
def State.cand (s : State) (p : Nat) (f : Frame) (e cls tenant : Nat) (written : Option Nat) : State × Cand :=
  let (q, bad) := s.queueOf e cls tenant written
  (if bad then s.inc 0x201E p else s, ⟨e, q, s.queueClass q, s.needOf f e, false, false⟩)

/-- The candidates of a list of ports, in its order. -/
def State.cands (s : State) (p : Nat) (f : Frame) (cls tenant : Nat) (written : Option Nat) : List Nat → State × List Cand
  | [] => (s, [])
  | e :: t =>
    let (s, c) := s.cand p f e cls tenant written
    let r := State.cands s p f cls tenant written t
    (r.1, c :: r.2)

end Sys2Proof.Machine
end

