-- ==== Sys2Proof/Machine/Classify.lean ====
section
/-! DEFINITION. Classification of a frame in a plane pipeline (05 R135 to R168): version, parse, stages S0 to S7, resolution and
the hand-over to admission, on a first pass, a second pass, or after an injection. -/

namespace Sys2Proof.Machine

/-! ### The version (R135, R159, R162) -/

/-- A slot that frames may use. -/
def SlotState.usable : SlotState → Bool
  | .armed => true
  | .active => true
  | .draining => true
  | _ => false

/-- The activation RC that a plane holds for a slot. -/
def Slot.actIn (x : Slot) (p : Nat) : Nat := if p = 0 then x.actA else x.actB

/-- The slot of a frame that arrived at `rc` (R135). -/
def State.versionFor (s : State) (p rc : Nat) : Option Nat :=
  ((List.range 4).filter (fun v => (s.slot v).state.usable && decide ((s.slot v).actIn p ≤ rc))).foldl
    (fun best v => match best with
      | none => some v
      | some b => if (s.slot b).actIn p < (s.slot v).actIn p then some v else some b) none

/-! ### Stages -/

/-- A frame in S0 to S7. -/
structure Job where
  run : StageRun
  f : Frame
  pr : Parse
  /-- discarded for want of a tenant (R146) -/
  gone : Bool

/-- The table step of S4 on a job (06 R178). -/
def Job.tables (j : Job) (p : Nat) : Job :=
  let w := (Walk.mk j.run.s j.f j.run.bed).tables p j.pr
  { j with run := { j.run with s := w.s, bed := w.bed }, f := w.f }

/-- The parse-error record of R143. -/
def errorRecord (f : Frame) (cls tenant node off : Nat) : Nat :=
  (((((f.rc * 256 + cls) * 256 + f.port) * 256 + tenant) * 256 + node) * 256) * 65536 + off

/-- Writes a parse-error record where capture is set (R143). -/
def State.recordError (s : State) (p : Nat) (f : Frame) (cls tenant node off : Nat) : State :=
  if s.flag 0x1005 0 then
    let n := s.rd 0x1007 p
    (s.wr 0x1006 (256 * p + n) (errorRecord f cls tenant node off)).wr 0x1007 p (n + 1)
  else s

/-- The tenant rule at the end of S1 (R146): `s0` is the state before S0, to which the counts return when there is none. -/
def Job.tenantRule (j : Job) (cfg : Nat → Nat → Nat) (p : Nat) (s0 : State) : Job :=
  if j.f.second ∨ j.run.tenantWritten then j
  else
    let t := cfg 0x101D j.f.port
    if t = 0xFF then { j with run := { j.run with s := s0.inc 0x3C1D (pInst p j.f.port) }, gone := true }
    else { j with run := { j.run with bed := bedSet j.run.bed 247 244 t } }

/-- The parse-error action as the last step of stage `st` (R141). -/
def Job.parseError (j : Job) (cfg : Nat → Nat → Nat) (p st : Nat) : Job :=
  if j.pr.err = 0 ∨ j.gone then j
  else
    let s := j.run.s.inc 0x3C1C (1152 * p + 8 * j.f.port + j.pr.err)
    let s := s.recordError p j.f j.pr.err (bedTenant j.run.bed) j.pr.errNode j.pr.errOff
    let run := { j.run with s := s }
    match cfg (0x1007 + j.pr.err) 0 with
    | 0 => { j with run := { run with bed := bedSet run.bed 131 131 1 } }
    | 1 => { j with run := { run with bed := l2OnlyBed run.bed }, pr := l2OnlyParse j.pr, f := { j.f with ipOff := none } }
    | _ => { j with
        run := { run with bed := bedSet run.bed 129 129 1 }
        f := if j.f.stage = 0xFF then { j.f with stage := st, reason := 6 } else j.f }

/-- One stage of R135. -/
def Job.stage (v p : Nat) (s0 : State) (j : Job) (st : Nat) : Job :=
  if j.gone ∨ (j.f.second ∧ st < 2) then j
  else
    let cfg := s0.slotCfg v
    let j :=
      if st = 7 ∨ (cfg (0x1010 + st) 0 = 0 ∧ j.run.stop = false) then
        let j := if st = 4 then j.tables p else j
        { j with run := j.run.stage cfg (s0.slot v).image j.pr p v st j.f.second }
      else j
    if st = 1 then (j.tenantRule cfg p s0).parseError cfg p st
    else if st = 2 ∧ j.f.second then j.parseError cfg p st
    else j

/-! ### The end of S7 (05 R147, R148, R168; 06 R200; 07 R232; 08 R254) -/

/-- A frame that makes a second pass: its route lookup recirculates, or its flag asks for it (R147, R194). -/
def Frame.wantsPass (f : Frame) (bed : Nat) : Bool :=
  !f.second && !bedDrop bed && !bedRedirect bed && !f.ctl && (f.resume.isSome || bedRecirc bed)

/-- Whether a frame goes to the active controller's path alone. -/
def Frame.toController (f : Frame) (bed : Nat) : Bool := bedRedirect bed || f.ctl

/-- The reason and stage of a controller-bound copy (15 R478). -/
def Frame.withReason (f : Frame) (run : StageRun) : Frame :=
  if f.ctl then { f with reason := 0, stage := 0xFF }
  else if bedRedirect run.bed then
    if f.stage ≠ 0xFF ∧ f.reason ≠ 1 then f else { f with reason := 2, stage := run.flagStage }
  else if bedCopy run.bed ∧ run.copyStage ≠ 0xFF then { f with reason := 1, stage := run.copyStage }
  else f

/-- The S7 counters of a frame that ends S7 for the last time (R168): its bytes once its length is known. -/
def State.countS7 (s : State) (p : Nat) (f : Frame) (bed : Nat) : State :=
  let n := bedCounter bed
  if n = 0 then s
  else
    let s := s.inc 0x3C1E (65536 * p + n)
    match f.length? with
    | some l => s.incBy 0x3C1F (65536 * p + n) l
    | none => s.updPl p (fun q => { q with counting := q.counting ++ [(f.port, f.seq, n)] })

/-- The bed's queue, where a rule wrote one. -/
def writtenQueue (bed : Nat) : Option Nat := if bedQueueWritten bed then some (bedQueue bed) else none

/-- Hands a frame over to admission with its resolved ports (R147, R254): the controller copy goes with the last pass. -/
def State.handOver (s : State) (p : Nat) (f : Frame) (ports : List Nat) (unicast copy : Bool) (rewrite : Nat) : State :=
  let bed := f.bed
  if bedDrop bed then s.inc 0x1A2A p
  else
    let l := if copy then ports ++ [s.ctlPort] else ports
    let (s, l) := s.cands p f (bedClass bed) (bedTenant bed) (writtenQueue bed) l
    s.admission p f unicast (bedTenant bed) rewrite l

/-- Resolves and hands over a frame that makes no further pass (R200). At Sill nothing is flooded and no ECMP group acts (03 R67). -/
def State.finish (s : State) (p : Nat) (f : Frame) : State :=
  let bed := f.bed
  if f.toController bed then s.handOver p f [s.ctlPort] false false 0
  else if bedDrop bed then s.handOver p f [] false false 0
  else if s.beyondSill (bedDestType bed) (bedDestValue bed) = true then s.handOver p { f with bed := bedSet bed 131 131 1 } [] false false 0
  else
    match s.resolve p bed (bedHash bed) (getBE f.bytes 0 6) f.port with
    | (s, some (l, u, rw)) => s.handOver p f l u (bedCopy bed) rw
    | (s, none) => s.handOver p { f with bed := bedSet bed 131 131 1 } [] false false 0

/-- A frame without recirculation credit (R232): as though on its second pass, its lookup ends after its four probes and goes to the
slow path (06 R194). -/
def State.refusedPass (s : State) (p : Nat) (f : Frame) : State :=
  let s := (s.inc 0x3C27 p).inc 0x1A2B (4 * p + 2)
  let w : Walk := ⟨s, f, f.bed⟩
  let w := if f.resume.isSome then { w with s := w.s.inc 0x1438 (9 * p + 4) }.slowPath p f.routeVrf else w
  let s := w.s.countS7 p w.f w.bed
  s.finish p { w.f with bed := w.bed, resume := none, second := true }

/-- The physical rewrite applied on the way to recirculation (R145): the one that R200 resolves for the frame as its first pass ends, a
next hop's before the bed's; none where R200 finds none (notes/assumptions/70.md). -/
def State.recircRewrite (s : State) (f : Frame) : Nat :=
  let bed := f.bed
  let d := if bedDestType bed = 0 then .ports [] false (bedRewrite bed)
    else (s.resolveDest (bedDestType bed) (bedDestValue bed) (bedRewrite bed) (bedTenant bed) (bedFid bed) (bedHash bed) (getBE f.bytes 0 6) f.port).1
  match d with
  | .ports _ _ rw => if 131071 < rw then 0 else s.physicalRewrite rw
  | .drop _ => 0

/-- Sends a frame to scheduler port 146, or refuses the pass where X recirculation is full (R194, R232). -/
def State.recirculate (s : State) (p : Nat) (f : Frame) : State :=
  let (s, c) := s.cand p f 146 (bedClass f.bed) (bedTenant f.bed) (writtenQueue f.bed)
  let d := s.newDesc p f (bedTenant f.bed) (s.recircRewrite f) [c]
  if 0 < s.room p d 5 then
    (if f.resume.isSome then s.inc 0x143B p else s).admission p f false (bedTenant f.bed) (s.recircRewrite f) [c]
  else s.refusedPass p f

/-- The end of S7. -/
def Job.leave (j : Job) (p : Nat) : State :=
  if j.gone then j.run.s
  else
    let f := ({ j.f with bed := j.run.bed }).withReason j.run
    if f.wantsPass f.bed then j.run.s.recirculate p f
    else (j.run.s.countS7 p f f.bed).finish p f

/-- The parse of a frame under a version. -/
def State.parse (s : State) (v : Nat) (f : Frame) : Parse := parseFrame (s.slotCfg v) (s.frameTpids f) f

/-- Stages S0 to S7 of a frame under a version. -/
def classify (p v : Nat) (f : Frame) (s : State) : State :=
  let pr := s.parse v f
  let bed := if f.second then bedSecond f pr else bedEntry s v f pr
  let s := if pr.trip then (s.inc 0x100E p).fault 83 p else s
  let f := { f with ipOff := pr.ipOff }
  let run : StageRun := { s := s, bed := bed, stop := false, copyStage := 0xFF, flagStage := 0xFF, tenantWritten := false }
  ((List.range 8).foldl (Job.stage v p s) ⟨run, f, pr, false⟩).leave p

/-! ### Injected frames (15 R479, R480) -/

/-- The offset of the IP header that follows a frame's tags: where the rewrite of an injected frame, which no parser has read, finds the
TTL (06 R199; notes/assumptions/70.md). -/
def State.ipAfterTags (s : State) (f : Frame) : Option Nat :=
  let t := readTags (s.frameTpids f) f.bytes 3 12 []
  if t.ethertype = 0x0800 ∨ t.ethertype = 0x86DD then some (t.off + 2) else none

/-- An injected frame skips S0 to S7; it is resolved under R200 and admitted. Its bed holds tenant and class. At Sill nothing is
flooded and no ECMP group acts (03 R67). -/
def State.injected (s : State) (p : Nat) (f : Frame) (mode value queue : Nat) : State :=
  let f := { f with ipOff := s.ipAfterTags f }
  let dtype := if mode = 0 then 1 else if mode = 1 then 3 else 2
  let bed := bedSet (bedSet f.bed 187 186 dtype) 185 168 value
  let bed := if queue = 0xFFFF then bed else bedSet (bedSet bed 146 132 queue) 64 64 1
  if s.beyondSill dtype (bedDestValue bed) = true then s.handOver p { f with bed := bedSet bed 131 131 1 } [] false false 0
  else
    match s.resolve p bed (bedHash bed) (getBE f.bytes 0 6) f.port with
    | (s, some (l, u, rw)) => s.handOver p { f with bed := bed } l u false rw
    | (s, none) => s.handOver p { f with bed := bedSet bed 131 131 1 } [] false false 0

/-! ### Commands -/

/-- Takes the first element that satisfies a test. -/
def takeFirst {α : Type} (f : α → Bool) : List α → Option (α × List α)
  | [] => none
  | x :: t => if f x then some (x, t) else (takeFirst f t).map (fun r => (r.1, x :: r.2))

/-- A first pass: the oldest frame that waits for a pipeline, once its parse window has arrived (R135, 08 R251),
and its end where the window leaves its error class open (R140). -/
def frameClassify (p pipe : Nat) (s : State) : State :=
  match takeFirst (fun (f : Frame) => f.pipe == pipe) (s.pl p).ingress with
  | none => s
  | some (f, rest) =>
    if f.ended = false ∧ f.bytes.length < 256 then s
    else
      match f.inject with
      | some (m, v, q) => (s.updPl p (fun x => { x with ingress := rest })).injected p f m v q
      | none =>
        match s.versionFor p f.rc with
        | none => (s.updPl p (fun x => { x with ingress := rest })).inc 0x3C20 p
        | some v =>
          if (s.parse v f).open_ then s
          else classify p v { f with verGen := (s.slot v).gen } ((s.updPl p (fun x => { x with ingress := rest })).inc 0x102D (4 * p + v))

/-- FRAME_CLASSIFY (R135). -/
def execFrameClassify (el : Nat) (plane : PlaneNo) (turn : PipeTurn) (s : State) : Out :=
  s.run el (contested plane.val turn.rivals.toNat (frameClassify plane.val turn.pipe.val))

/-- Whether a frame's version slot is still the one it was classified under (R162, R167). -/
def State.sameVersion (s : State) (f : Frame) : Bool :=
  let x := s.slot (bedGet f.bed 243 242)
  x.state.usable && x.gen == f.verGen

/-- A second pass: the oldest recirculated frame of a pipeline, under the version in its bed (R135, R145, R162). -/
def secondPass (p pipe : Nat) (s : State) : State :=
  match takeFirst (fun (f : Frame) => f.pipe == pipe) (s.pl p).recirc with
  | none => s
  | some (f, rest) =>
    let s := s.updPl p (fun q => { q with recirc := rest })
    if s.sameVersion f = true then classify p (bedGet f.bed 243 242) f s else s.inc 0x3C20 p

/-- SECOND_PASS (R145). -/
def execSecondPass (el : Nat) (plane : PlaneNo) (turn : PipeTurn) (s : State) : Out :=
  s.run el (contested plane.val turn.rivals.toNat (secondPass plane.val turn.pipe.val))

/-- When the active controller has rewritten what a memory error spoilt (R154, 06 R216): at a free instant within 1 ms; without an
active controller it waits for one. -/
def State.rewriteBy (s : State) : State × Option Nat :=
  match s.holder with
  | some _ => let (s, d) := s.draw; (s, some (s.rc + Config.freeValue d % 400001))
  | none => (s, none)

/-- An uncorrectable error in a rule entry (R154): non-matching in the plane until the active controller rewrites it. An entry is
named by a tile and its place in the tile; the tiles of a gang hold one entry together (R150). -/
def ruleMemoryError (p x : Nat) (s : State) : State :=
  let x := 256 * tileLead s.latest (x / 256) + x % 256
  let (s, until_) := s.rewriteBy
  ((s.updPl p (fun q => { q with badRules := Tab.set q.badRules x until_ })).inc 0x3C22 p).fault 80 p

/-- RULE_MEMORY_ERROR (R154). -/
def execRuleMemoryError (el : Nat) (plane : PlaneNo) (entry : Fin 49152) (s : State) : Out := s.run el (ruleMemoryError plane.val entry.val)

end Sys2Proof.Machine
end

