-- ==== Sys2Proof/Machine/Sched.lean ====
section
/-! DEFINITION. Scheduling in a plane (10 R296 to R311): eligibility, the choice of the next copy, shapers, transmit credit,
readout, ageing (08 R259 to R264) and the internal scheduler ports. -/

namespace Sys2Proof.Machine

/-! ### Ageing (08 R259, R260) -/

/-- The residence limit of a queue in ticks (R259), and whether it is the ceiling. -/
def State.residence (s : State) (q : Nat) : Nat × Bool :=
  let l := s.rd 0x1A0B (s.profile q) * 400
  let c := s.rd 0x1428 0 * 400000
  if l ≠ 0 ∧ l < c then (l, false) else (c, true)

/-- The RC from which a copy is aged by its deadline, while its queue's profile has deadline ageing enabled (R262, R269). -/
def State.deadlineOf (s : State) (c : Copy) : Option Nat := if s.flag 0x1A0C (s.profile c.queue) then c.deadline else none

/-- Whether a copy is aged now: `some true` by residence, `some false` by deadline, whichever held first (R260, R264). -/
def State.aged (s : State) (c : Copy) : Option Bool :=
  let r := c.rc + (s.residence c.queue).1
  match s.deadlineOf c with
  | some d => if r ≤ s.rc ∧ r ≤ d then some true else if d ≤ s.rc then some false else if r ≤ s.rc then some true else none
  | none => if r ≤ s.rc then some true else none

/-- The longest residence observed, in µs (PID 1A2Dh): from queuing to the start of transmission or the discard by age. -/
def State.noteResidence (s : State) (p : Nat) (c : Copy) : State := s.high 0x1A2D p ((s.rc - c.rc) / 400)

/-- Discards an aged copy with its count (R260, R273). -/
def State.ageOut (s : State) (p : Nat) (c : Copy) (byResidence : Bool) : State :=
  let s := s.noteResidence p c
  if byResidence then
    let s := s.discard p c 0x1A20
    if (s.residence c.queue).2 then s.fault 128 p else s
  else s.discard p c 0x1A21

/-- The ager at a queue: discards in order every aged copy up to the first that is not, past a copy in transmission (R260). -/
def State.ageQueue (p : Nat) : List Copy → State → State
  | [], s => s
  | c :: t, s =>
    if (s.pl p).inTransmission c = true ∨ (s.pl p).queued c = false then State.ageQueue p t s
    else
      match s.aged c with
      | some r => State.ageQueue p t (s.ageOut p c r)
      | none => s

/-- Whether a profile has deadline ageing enabled while the servo has been neither locked nor in holdover for 1 s (R273). -/
def State.timeless (s : State) : Bool :=
  !s.timed && decide (s.servo.idleSince + 400000000 ≤ s.clk) && (List.range 64).any (fun k => s.flag 0x1A0C k)

/-- Fault bit 129, once while its condition lasts. -/
def State.noteTimeless (s : State) (p : Nat) : State :=
  let t := s.timeless
  let s' := { s with servo := { s.servo with timeless := t } }
  if t = true ∧ s.servo.timeless = false then s'.fault 129 p else s'

/-- AGER_VISIT (R260): the queue is aged; the condition of fault bit 129 is looked at. -/
def execAgerVisit (el : Nat) (plane : PlaneNo) (queue : Fin 32768) (s : State) : Out :=
  s.run el (fun s => State.ageQueue plane.val ((s.pl plane.val).queue queue.val) (s.noteTimeless plane.val))

/-! ### Eligibility (R302) -/

/-- The length of a stored frame as the scheduler charges it: known, or the port's admission estimate (R304). -/
def State.chargeLen (s : State) (f : Frame) (e : Nat) : Nat :=
  match f.length? with
  | some l => l
  | none => (if e < 144 then s.rd 0x1A04 e else 1) * 256

/-- A copy is ready: stored whole and good, or cut-through (R266, R267). -/
def Plane.ready (q : Plane) (c : Copy) : Bool :=
  match Tab.find? q.desc c.head with
  | some d => !c.bad && (c.cut || (d.frame.ended && !d.frame.bad && !d.holders.testBit 148))
  | none => false

/-- The gate of a class lets a copy through to selection: it fits, or can never fit and is discarded there (R315, R316). -/
def State.gatePasses (s : State) (p e k l : Nat) : Bool :=
  144 ≤ e || s.gateShut (domPlane p) 2 || s.gateNever e k l || s.gateFits e k l

/-- The shapers above a queue have tokens (R302); none acts before Bonded (R306). -/
def State.shaped (s : State) (p q e k : Nat) : Bool :=
  !s.scheduled || (s.shapersAbove q e k).all (fun x => decide (0 < s.shaperTokens p x))

/-- What may hold a class of a port: a pause, a yield of the plane's calendar, and for port 147 the gate of the test loop. -/
def State.classFree (s : State) (p e k : Nat) : Bool :=
  if e < 144 then !s.pausedClass e k && (!s.yields e k || s.gateShut (domPlane p) 1)
  else e != 147 || !s.gateShut (domPlane p) 3

/-- The conditions of R302 on a head copy, but for its gate. -/
def State.eligibleButGate (s : State) (p : Nat) (c : Copy) : Bool :=
  (s.pl p).ready c && s.classFree p c.port c.cls && s.shaped p c.queue c.port c.cls && (144 ≤ c.port || s.link c.port != 4)

/-- The length of a copy's frame as charged. -/
def State.copyLen (s : State) (p : Nat) (c : Copy) : Nat :=
  match Tab.find? (s.pl p).desc c.head with
  | some d => s.chargeLen d.frame c.port
  | none => 0

/-- Whether a head copy is eligible (R302). -/
def State.eligible (s : State) (p : Nat) (c : Copy) : Bool :=
  s.eligibleButGate p c && s.gatePasses p c.port c.cls (s.copyLen p c)

/-- The head copies of the queues of a port, by queue number. -/
def State.heads (s : State) (p e : Nat) : List Copy :=
  (s.pl p).queues.filterMap (fun x => match x.2 with
    | c :: _ => if c.port = e then some c else none
    | [] => none)

/-! ### The choice (R303, R304, R306) -/

/-- An eligible head copy with the elements from below its class down to its queue. -/
structure Choice where
  copy : Copy
  charge : Nat
  below : List Nat
  deriving DecidableEq, Repr

/-- An element's place among its parent's children: service nodes, subscriber nodes, queues, each ascending (R304). -/
def childRank (e : Nat) : Nat := (match e / 2 ^ 20 with | 2 => 0 | 1 => 1 | _ => 2) * 2 ^ 20 + e % 2 ^ 20

/-- Priority of an element (PIDs 200Dh, 2006h, 2002h). -/
def State.elemPrio (s : State) (e : Nat) : Nat :=
  s.rd (match e / 2 ^ 20 with | 2 => 0x200D | 1 => 0x2006 | _ => 0x2002) (e % 2 ^ 20)

/-- Weight of an element (PIDs 200Eh, 2007h, 2003h). -/
def State.elemWeight (s : State) (e : Nat) : Nat :=
  s.rd (match e / 2 ^ 20 with | 2 => 0x200E | 1 => 0x2007 | _ => 0x2003) (e % 2 ^ 20)

/-- Mode of a parent: strict among priorities. Before Bonded every level is (R306). -/
def State.elemStrict (s : State) (e : Nat) : Bool :=
  !s.scheduled ||
    (match e / 2 ^ 20 with
     | 3 => s.rd (0x2020 + e % 8) (e % 2 ^ 20 / 8) == 1
     | 2 => s.rd 0x200C (e % 2 ^ 20) == 1
     | _ => s.rd 0x2005 (e % 2 ^ 20) == 1)

/-- The member after `c` in a rising list by rank, wrapping. -/
def nextMember (l : List Nat) (c : Option Nat) : Nat :=
  match c with
  | some c => ((l.find? (fun x => decide (childRank c < childRank x))).or l.head?).getD 0
  | none => l.headD 0

/-- Inserts an element by rank, once. -/
def insertRank (x : Nat) : List Nat → List Nat
  | [] => [x]
  | y :: t => if x = y then y :: t else if childRank x < childRank y then x :: y :: t else y :: insertRank x t

/-- The loop of R304 at a node: members with their charges; visits left. -/
def dwrrLoop (weight : Nat → Nat) (charge : Nat → Nat) (l : List Nat) : Nat → Nat → Tab Int → Nat × Tab Int
  | 0, c, d => (c, d)
  | n + 1, c, d =>
    let have_ := Tab.get 0 d c
    if (charge c : Int) ≤ have_ then (c, Tab.set d c (have_ - charge c))
    else
      let c' := nextMember l (some c)
      dwrrLoop weight charge l n c' (Tab.set d c' (Tab.get 0 d c' + (weight c' : Int) * 256))

/-- Laps within which the loop of R304 ends, each adding at least 256 bytes (weight 1 at least) to every member: 37 from deficits
of 0 or more, further ones where a correction has left a deficit negative. -/
def dwrrLaps (charge : Nat → Nat) (l : List Nat) (deficit : Tab Int) : Nat :=
  2 + l.foldl (fun a k => max a ((charge k : Int) - Tab.get 0 deficit k).toNat) 0 / 256

/-- Chooses among the members of a node: (child, deficits). Before Bonded one copy per child per turn (R306). -/
def State.chooseChild (s : State) (sched : PlaneSched) (node : Nat) (charge : Nat → Nat) (l : List Nat) : Nat × PlaneSched :=
  let cur := Tab.find? sched.current node
  if s.scheduled then
    let start : Nat × Tab Int := match cur with
      | some c => if l.contains c then (c, sched.deficit)
        else let c' := nextMember l (some c); (c', Tab.set sched.deficit c' (Tab.get 0 sched.deficit c' + (s.elemWeight c' : Int) * 256))
      | none => let c' := nextMember l none; (c', Tab.set sched.deficit c' (Tab.get 0 sched.deficit c' + (s.elemWeight c' : Int) * 256))
    let r := dwrrLoop s.elemWeight charge l (dwrrLaps charge l start.2 * l.length) start.1 start.2
    (r.1, { sched with deficit := r.2, current := Tab.set sched.current node r.1 })
  else
    let c := nextMember l cur
    (c, { sched with current := Tab.set sched.current node c })

/-- Picks below a node at depth `n`: the copy and the scheduler state after it (R303). -/
def State.pick (s : State) : Nat → PlaneSched → Nat → List Choice → Option (Choice × PlaneSched)
  | 0, sched, _, l => l.head?.map (fun c => (c, sched))
  | n + 1, sched, node, l =>
    let kids := l.foldl (fun a c => match c.below with | k :: _ => insertRank k a | [] => a) []
    let best := kids.foldl (fun a k => max a (s.elemPrio k)) 0
    let kids := if s.elemStrict node then kids.filter (fun k => s.elemPrio k == best) else kids
    let sub (k : Nat) : List Choice :=
      (l.filter (fun c => c.below.head? == some k)).map (fun c => { c with below := c.below.drop 1 })
    let inner (k : Nat) : Option (Choice × PlaneSched) :=
      match sub k with
      | [] => none
      | c :: t => if c.below.isEmpty then some (c, sched) else s.pick n sched k (c :: t)
    let charge (k : Nat) : Nat := ((inner k).map (fun r => r.1.charge)).getD 0
    if kids.isEmpty then none
    else
      let (k, sched') := s.chooseChild sched node charge kids
      (inner k).map (fun r => (r.1,
        { sched' with
          deficit := r.2.deficit.foldl (fun d e => if kids.contains e.1 then d else Tab.set d e.1 e.2) sched'.deficit
          current := r.2.current.foldl (fun d e => if e.1 = node then d else Tab.set d e.1 e.2) sched'.current }))

/-- Whether the output of a copy may take it: on port 146 one output per pipeline, free while it reads nothing out and its
pipeline has a free input slot (R310; 08 R251 gives no number of slots: one at least, further ones free). -/
def State.outputFree (s : State) (p : Nat) (c : Copy) : Bool :=
  let e := (s.pl p).outputOf c
  let waiting := countOf (s.pl p).recirc (fun f => f.pipe + 148 == e)
  e < 148 || ((Tab.find? (s.pl p).sending e).isNone && (waiting == 0 || decide (waiting ≤ Config.inputSlots)))

/-- The eligible choices of a class. -/
def State.choices (s : State) (p e k : Nat) : List Choice :=
  ((s.heads p e).filter (fun c => c.cls == k && s.eligible p c && s.outputFree p c)).map (fun c =>
    ⟨c, s.copyLen p c + s.rd 0x2014 e, s.nodesAbove c.queue ++ [elem 0 c.queue]⟩)

/-- The next copy of a port with its class's scheduler state, highest class first (R303). -/
def State.choose (s : State) (p e : Nat) : List Nat → Option (Choice × PlaneSched)
  | [] => none
  | k :: t =>
    match s.pick 4 (s.pl p).sched (elem 3 (8 * e + k)) (s.choices p e k) with
    | some r => some r
    | none => s.choose p e t

/-- Charges the shapers above a chosen copy (R303, R307); unshaped elements keep no count. -/
def State.chargeShapers (s : State) (p charge : Nat) (els : List Nat) : State :=
  els.foldl (fun s e =>
    match Tab.find? (s.pl p).sched.rates e with
    | some _ => s.updPl p (fun q => { q with sched := { q.sched with
        tokens := Tab.set q.sched.tokens e (s.shaperTokens p e - (charge : Int) * 1000000) } })
    | none => s) s

/-- Counts a chosen copy on its elements (R322). -/
def State.countSent (s : State) (p : Nat) (els : List Nat) : State :=
  els.foldl (fun s e => let c := byteCounter p e; s.inc (c.1 - 1) c.2) s

/-- Counts the heads that their gate holds by length alone (R315): once for each copy held. -/
def State.countHolds (s : State) (p e : Nat) : State :=
  if 144 ≤ e ∨ s.rd 0x221F e = 0 ∨ s.gateShut (domPlane p) 2 = true then s
  else
    (s.heads p e).foldl (fun s c =>
      let l := s.copyLen p c
      if !c.gateHeld && s.eligibleButGate p c && s.gateOpen e c.cls && !s.gateNever e c.cls l && !s.gateFits e c.cls l then
        (s.inc 0x2219 (1152 * p + 8 * e + c.cls)).updPl p (fun q => { q with
          queues := Tab.upd [] q.queues c.queue (fun l => match l with
            | x :: t => { x with gateHeld := true } :: t
            | [] => []) })
      else s) s

/-! ### Credit and start (R305, 11 R335, R336) -/

/-- Bytes of the egress FIFO, in 1/3,200 byte: a port of m Mb/s takes m of them per tick. -/
def fifoSize : Nat := 16384 * 3200

/-- A bond unit. -/
def State.bond (s : State) (e : Nat) : Bond := Tab.get Bond.init s.bonds e
/-- Changes a bond unit. -/
def State.updBond (s : State) (e : Nat) (f : Bond → Bond) : State := { s with bonds := Tab.upd Bond.init s.bonds e f }

/-- Ticks in which the transmit MAC of a port sends `n` bytes. -/
def State.byteTicks (s : State) (e n : Nat) : Nat := (3200 * n + s.portRate e - 1) / s.portRate e

/-- Departure RCs, in order, of the frames of a FIFO that have not started, from the RC at which the MAC is free: each starts as
the one before it ends, and none before `now`, or before a pause ends (04 R106). With them the RC at which all have left. -/
def retimeFrom (now pause : Nat) (ticks : Nat → Nat) : Nat → List FifoItem → Nat × List FifoItem
  | free, [] => (free, [])
  | free, x :: t =>
    if x.held = true ∨ x.te ≤ now then let r := retimeFrom now pause ticks free t; (r.1, x :: r.2)
    else
      let te := max free (max now pause)
      let r := retimeFrom now pause ticks (te + ticks x.room) t
      (r.1, { x with te := te } :: r.2)

/-- The end of a port-level pause, 0 without one. -/
def State.pauseEnd (s : State) (e : Nat) : Nat := (s.port e).pauseUntil.getD 0

/-- The FIFO of a port with its departure RCs, and the RC at which all of it has left. -/
def State.retimed (s : State) (e : Nat) : Nat × List FifoItem :=
  let b := s.bond e
  let free := b.fifo.foldl (fun a x => if x.held = false ∧ x.te ≤ s.rc then max a (x.te + s.byteTicks e x.room) else a) b.busyUntil
  retimeFrom s.rc (s.pauseEnd e) (s.byteTicks e) free b.fifo

/-- Sets the departure RCs of the frames that wait in a port's FIFO anew. -/
def State.retime (s : State) (e : Nat) : State := s.updBond e (fun b => { b with fifo := (s.retimed e).2 })

/-- The departure RC of a copy that enters the FIFO now (12 R375). -/
def State.departRC (s : State) (e : Nat) : Nat := max (s.retimed e).1 (max s.rc (s.pauseEnd e))

/-- Bytes in the FIFO of a port that the MAC has not taken, but for held twins, in 1/3,200 byte: a frame in transmission leaves
at line rate, also during a pause (04 R106). -/
def State.fifoUsed (s : State) (e : Nat) : Nat :=
  (s.bond e).fifo.foldl (fun a x => if x.held then a else a + (3200 * x.room - s.portRate e * (s.rc - x.te)))
    (s.portRate e * ((s.bond e).busyUntil - s.rc))

/-- The room held twins take in the FIFO, in 1/3,200 byte. -/
def Bond.heldRoom (b : Bond) : Nat := b.fifo.foldl (fun a x => if x.held then a + 3200 * x.room else a) 0

/-- Free bytes of the FIFO of a port. -/
def State.fifoFree (s : State) (e : Nat) : Nat := (fifoSize - s.fifoUsed e - (s.bond e).heldRoom) / 3200

/-- The length of a copy as it leaves the plane, without FCS, once its frame's length is known (11 R327). -/
def State.copyBytes (s : State) (c : Copy) (d : Desc) : Option Nat :=
  if d.frame.ended then some (s.egressBytes d c d.frame.body).length else none

/-- The bytes that a start counts against the last report (11 R336): 9,216 of a copy of unknown length
(notes/assumptions/65.md). -/
def startedBytes (len : Option Nat) : Nat := len.getD 9216

/-- Whether a plane has transmit credit for a copy (R336): its length plus 20 bytes, or 9,236 bytes. -/
def State.hasCredit (s : State) (p e : Nat) (len : Option Nat) : Bool :=
  let (free, started) := Tab.get (16384, 0) (s.pl p).sched.credit e
  144 ≤ e || decide (startedBytes len + 20 + started ≤ free)

/-- Starts the committed copy of an output (R266, R305): its head, with the header status (11 R328), goes to the bond unit or the
controller's receive interface. -/
def State.startCopy (s : State) (p e : Nat) : State :=
  match Tab.find? (s.pl p).sending e with
  | some x =>
    match Tab.find? (s.pl p).desc x.copy.head with
    | some d =>
      let len := s.copyBytes x.copy d
      let lc : LinkCopy := { frame := d.frame, bytes := [], cls := x.copy.cls, queue := x.copy.queue, headLen := len.getD 0
                             headerOk := crc32c (d.frame.bytes.take 128) == d.headerCode
                             status := none, digest := 0, role := .waiting }
      (s.noteResidence p x.copy).updPl p (fun q => { q with
        sending := Tab.set q.sending e { x with started := true, startRC := s.rc, rate := s.paceRate e }
        links := if e < 146 then Tab.upd [] q.links e (· ++ [lc]) else q.links
        sched := { q.sched with
          credit := (if e < 144 then Tab.upd (16384, 0) q.sched.credit e (fun c => (c.1, c.2 + startedBytes len)) else q.sched.credit) } })
    | none => s
  | none => s

/-- A committed copy starts once its credit suffices, and, on an external port, it fits its gate at that instant (R315). -/
def State.tryStart (s : State) (p e : Nat) : State :=
  match Tab.find? (s.pl p).sending e with
  | some x =>
    if x.started then s
    else if e < 144 ∧ s.gateShut (domPlane p) 2 = false ∧ s.gateFits e x.copy.cls (s.copyLen p x.copy) = false then s
    else if s.hasCredit p e (match Tab.find? (s.pl p).desc x.copy.head with | some d => s.copyBytes x.copy d | none => none) then s.startCopy p e
    else s
  | none => s

/-! ### SCHEDULER_SELECT (R303, R305) -/

/-- Commits a chosen copy to its output: charges, counts, and the start where credit allows. -/
def State.commit (s : State) (p e : Nat) (c : Choice) (sched : PlaneSched) : State :=
  let els := s.shapersAbove c.copy.queue e c.copy.cls
  let known := match Tab.find? (s.pl p).desc c.copy.head with
    | some d => d.frame.ended
    | none => true
  let len := s.copyLen p c.copy
  let s := s.updPl p (fun q => { q with sched := sched })
  let s := (if s.scheduled then s.chargeShapers p c.charge els else s).countSent p els
  let out := (s.pl p).outputOf c.copy
  let s := s.updPl p (fun q => { q with
    sending := Tab.set q.sending out
      { copy := c.copy, started := false, startRC := 0, path := els ++ [elem 0 c.copy.queue], charged := len, counted := known } })
  let s := if known then s.countBytes p len els else s
  s.tryStart p out

/-- The choice with the discards that precede it (R303): an aged copy, one whose TTL has run out (06 R199), and one that can
never fit its gate (R316) are discarded when chosen, and the selection restarts; `n` bounds the restarts. -/
def State.select (p e : Nat) : Nat → State → State
  | 0, s => s
  | n + 1, s =>
    match s.choose p e [7, 6, 5, 4, 3, 2, 1, 0] with
    | none => s
    | some (c, sched) =>
      let x := c.copy
      let ttl := match Tab.find? (s.pl p).desc x.head with
        | some d => x.rewritten && ttlExpired d.frame.bytes (s.rwContent d.rewrite) d.frame.ipOff
        | none => false
      match s.aged x with
      | some r => State.select p e n (s.ageOut p x r)
      | none =>
        if ttl then State.select p e n (((s.unqueue p x).release p x.head x.gen e).inc 0x142E p)
        else if e < 144 ∧ s.gateShut (domPlane p) 2 = false ∧ s.gateNever e x.cls (s.copyLen p x) then
          State.select p e n ((((s.unqueue p x).release p x.head x.gen e).inc 0x221A (1152 * p + 8 * e + x.cls)).fault 145 p)
        else s.commit p e c sched

/-- Whether a plane may start a copy on a port: nothing committed, and the line time of the last copy past (R305). -/
def State.mayStart (s : State) (p e : Nat) : Bool :=
  s.isOn (domPlane p) && (Tab.find? (s.pl p).sending e).isNone && decide (Tab.get 0 (s.pl p).sched.lineEnd e ≤ s.rc)

/-- SCHEDULER_SELECT (R303). -/
def schedulerSelect (p e : Nat) (s : State) : State :=
  if s.mayStart p e then
    let s := s.countHolds p e
    State.select p e (((s.pl p).copiesOf e).length + 1) s
  else s

/-- SCHEDULER_SELECT (R303). -/
def execSchedulerSelect (el : Nat) (plane : PlaneNo) (port : Fin 148) (s : State) : Out :=
  s.run el (schedulerSelect plane.val port.val)

/-! ### Hold times (R322, 09 R293), and the start of a committed copy -/

/-- Adds the 40 ns since the last report to a time counter in µs. -/
def State.hold (s : State) (pid inst : Nat) : State :=
  let k := regKey pid inst
  let t := Tab.get 0 s.heldTicks k + 16
  if 400 ≤ t then { s with heldTicks := Tab.set s.heldTicks k (t - 400) }.inc pid inst else { s with heldTicks := Tab.set s.heldTicks k t }

/-- The hold times of one class of a port in a plane. -/
def State.holdClass (s : State) (p e k : Nat) (l : List Copy) : State :=
  if l.isEmpty then s
  else
    let i := 8 * e + k
    let s := if e < 144 ∧ s.pausedClass e k then s.hold 0x2045 (1184 * p + i) else s
    let s := if l.all (fun c => !s.shaped p c.queue e k) then s.hold 0x2046 (1184 * p + i) else s
    if e < 144 ∧ l.any (fun c => s.eligibleButGate p c && !s.gatePasses p e k (s.copyLen p c)) then s.hold 0x2218 (1152 * p + i) else s

/-- The hold times of a port in a plane: the yield's once, whatever number of held classes waits. -/
def State.holdPort (s : State) (p e : Nat) : State :=
  let hs := s.heads p e
  if hs.isEmpty then s
  else
    let s := (List.range 8).foldl (fun s k => s.holdClass p e k (hs.filter (fun c => c.cls == k))) s
    let s := if e < 144 ∧ s.gateShut (domPlane p) 1 = false ∧ hs.any (fun c => s.yields e c.cls) then s.hold 0x1C1E (pInst p e) else s
    if hs.any (s.eligible p) then s else s.hold 0x204E (148 * p + e)

/-- The scheduler ports that have copies in a plane, rising. -/
def Plane.busyPorts (q : Plane) : List Nat :=
  q.queues.foldl (fun a x => match x.2 with
    | c :: _ => insertRising a c.port
    | [] => a) []

/-- A committed copy that has not started: aged, or started when its credit suffices (R305, R336). -/
def State.credited (s : State) (p e : Nat) : State :=
  match Tab.find? (s.pl p).sending e with
  | some x =>
    if x.started then s
    else
      match s.aged x.copy with
      | some r => s.ageOut p x.copy r
      | none => s.tryStart p e
  | none => s

/-! ### COPY_READOUT_COMPLETE (07 R223, R235) -/

/-- A frame as it re-enters its pipeline (05 R145): its bytes after the recirculation rewrite, with the FCS received; its stamp's
CRC-32C covers the bytes it now has (notes/assumptions/63.md). -/
def State.passAgain (s : State) (d : Desc) (c : Copy) : Frame :=
  let f := d.frame
  let f := { f with bytes := s.egressBytes d c f.body ++ f.bytes.drop (f.bytes.length - 4), second := true }
  { f with stampCrc := f.crcOf }

/-- Where a copy read out whole goes: to the bond, a controller, its pipeline, or nowhere (R9, R310, R311). It ends with status 3
where the stamp's CRC-32C does not match what is read out (11 R329). -/
def State.deliver (s : State) (p : Nat) (c : Copy) (d : Desc) : State :=
  if c.port < 146 then s.endLink p c d d.frame.body (if d.frame.crcOk then 0 else Bad.link.status)
  else if c.port = 146 then s.updPl p (fun q => { q with recirc := q.recirc ++ [s.passAgain d c] })
  else (s.inc 0x2047 (8 * p + c.cls)).incBy 0x2048 (8 * p + c.cls) d.frame.bytes.length

/-- COPY_READOUT_COMPLETE (R235): the copy in transmission on an output, its frame stored whole and good. -/
def copyReadoutComplete (p e : Nat) (s : State) : State :=
  match Tab.find? (s.pl p).sending e with
  | some x =>
    match Tab.find? (s.pl p).desc x.copy.head with
    | some d =>
      if x.started = true ∧ d.frame.ended = true ∧ d.frame.bad = false ∧ d.holders.testBit 148 = false then
        let s := (s.deliver p x.copy d).setLineEnd p e d.frame.bytes.length
        let s := s.inc 0x1A1B (qInst p x.copy.queue)
        (s.unqueue p x.copy).release p x.copy.head x.copy.gen x.copy.port
      else s
    | none => s
  | none => s

/-- COPY_READOUT_COMPLETE (R235). -/
def execCopyReadoutComplete (el : Nat) (plane : PlaneNo) (output : Fin 156) (s : State) : Out :=
  s.run el (copyReadoutComplete plane.val output.val)

/-! ### Shapers (R307 to R309) -/

/-- The element of a shaper reference. -/
def shaperElem : ShaperRef → Nat
  | .subscriber n => elem 1 n.val
  | .service n => elem 2 n.val
  | .class e k => elem 3 (8 * e.val + k.val)
  | .port e => elem 4 e.val

/-- The element and burst PID of a rate parameter, where it is one (R324). -/
def shaperOf (pid inst : Nat) : Option (Nat × Nat) :=
  if pid = 0x2009 then some (elem 1 inst, 0x200A)
  else if pid = 0x2010 then some (elem 2 inst, 0x2011)
  else if pid = 0x2012 then some (elem 4 inst, 0x2013)
  else if 0x2028 ≤ pid ∧ pid ≤ 0x202F then some (elem 3 (8 * inst + (pid - 0x2028)), pid + 8)
  else none

/-- The rates and bursts configured, by element (R307, R308). -/
def State.shaperRates (s : State) : Tab (Nat × Nat) :=
  s.regs.foldl (fun t e =>
    match shaperOf (e.1 / 2 ^ 32) (e.1 % 2 ^ 32) with
    | some (el, bp) => if e.2 = 0 then t else Tab.set t el (e.2, s.rd bp (e.1 % 2 ^ 32))
    | none => t) []

/-- The shapers configured act in a plane from here on (R306): the entry to Bonded, and a plane that joins. -/
def State.loadShapers (s : State) (p : Nat) : State :=
  let r := s.shaperRates
  s.updPl p (fun q => { q with sched := { q.sched with rates := r } })

/-- A refill in one plane: 32 units per kb/s, capped at the burst (R307). -/
def State.refillShapers (s : State) (p : Nat) (rates : Tab (Nat × Nat)) : State :=
  s.updPl p (fun q => { q with sched := { q.sched with
    rates := rates
    tokens := rates.foldl (fun t e =>
      let cap : Int := (e.2.2 : Int) * 1000000
      Tab.set t e.1 (min (Tab.get cap t e.1 + 32 * e.2.1) cap)) q.sched.tokens } })

/-- SHAPER_REFILL (R307): at a refill tick, from the entry to Bonded on. -/
def shaperRefill (s : State) : State :=
  if [0, 102, 205, 307, 410].contains (s.rc % 512) ∧ s.scheduled then
    let r := s.shaperRates
    (s.refillShapers 0 r).refillShapers 1 r
  else s

/-- SHAPER_REFILL (R307). -/
def execShaperRefill (el : Nat) (s : State) : Out := s.run el shaperRefill

/-- SHAPER_MEMORY_ERROR (R309): a full bucket at the configured values. -/
def shaperMemoryError (p el : Nat) (s : State) : State :=
  let r := s.shaperRates
  let s := s.updPl p (fun q => { q with sched := { q.sched with
    rates := match Tab.find? r el with
      | some x => Tab.set q.sched.rates el x
      | none => Tab.del q.sched.rates el
    tokens := match Tab.find? r el with
      | some x => Tab.set q.sched.tokens el ((x.2 : Int) * 1000000)
      | none => Tab.del q.sched.tokens el } })
  (s.inc 0x204F p).fault 144 p

/-- SHAPER_MEMORY_ERROR (R309). -/
def execShaperMemoryError (el : Nat) (plane : PlaneNo) (shaper : ShaperRef) (s : State) : Out :=
  s.run el (shaperMemoryError plane.val (shaperElem shaper))

end Sys2Proof.Machine
end

