-- ==== Sys2Proof/Machine/Sampler.lean ====
section
/-! DEFINITION. The latency sampler (10 R318 to R320). -/

namespace Sys2Proof.Machine

/-- The histogram bin of a head sojourn of `t` ticks with bin shift `sh` (R319). -/
def sojournBin (t sh : Nat) : Nat :=
  if t < 2 ^ (7 + sh) then 0 else min 15 (Nat.log2 (t / 2 ^ sh) - 6)

/-- A 128-byte histogram with one more in a bin: bin k is its bytes 8k to 8k + 7 (PID 2408h). -/
def bumpBin (h k : Nat) : Nat :=
  let sh := 64 * (15 - k)
  let old := (h >>> sh) % 2 ^ 64
  h - old * 2 ^ sh + (old + 1) % 2 ^ 64 * 2 ^ sh

/-- The watched slots of a queue (PID 2405h). -/
def State.slotsWatching (s : State) (q : Nat) : List Nat :=
  (s.regs.filter (fun e => e.1 / 2 ^ 32 == 0x2405 && e.2 == q)).map (fun e => e.1 % 2 ^ 32)

/-- A visit as a watched slot counts it (R319, R320): depth in tiles, sojourn in ns and ticks, `none` of an empty queue. -/
def State.sampleSlot (s : State) (p depth : Nat) (sojourn : Option (Nat × Nat)) (slot : Nat) : State :=
  let i := 512 * p + slot
  let s := (s.inc 0x240A i).incBy 0x2411 i depth
  match sojourn with
  | none => s.inc 0x2409 i
  | some (ns, ticks) =>
    let s := s.wr 0x2408 i (bumpBin (s.rd 0x2408 i) (sojournBin ticks (s.rd 0x2406 slot)))
    let s := (s.incBy 0x2410 i ns).high 0x2412 i ns
    if s.rd 0x2407 slot ≠ 0 ∧ s.rd 0x2407 slot ≤ ns then ((s.inc 0x240B i).inc 0x2417 p).fault 146 p else s

/-- A visit of a queue (R318). -/
def samplerVisit (p q : Nat) (s : State) : State :=
  if s.flag 0x240D 0 = false ∨ s.isOn (domPlane p) = false ∨ s.gateShut (domPlane p) 0 = true then s
  else
    let l := (s.pl p).queue q
    let depth := (s.pl p).tilesOf l
    let sojourn := l.head?.map (fun c => ((s.rc - c.rc) * 5 / 2, s.rc - c.rc))
    let ns := (sojourn.map Prod.fst).getD 0
    let i := qInst p q
    let s := if q = 0 then s.stamp 0x240F p else s
    let s := ((s.wr 0x2400 i depth).wr 0x2401 i ns).high 0x2402 i depth
    let s := if s.rd 0x2403 i < ns then (s.wr 0x2403 i ns).stamp 0x2404 i else s
    let s := (s.slotsWatching q).foldl (fun s k => s.sampleSlot p depth sojourn k) s
    if q = 32767 then s.inc 0x240E p else s

/-- SAMPLER_VISIT (R318). -/
def execSamplerVisit (el : Nat) (plane : PlaneNo) (queue : Fin 32768) (s : State) : Out :=
  s.run el (samplerVisit plane.val queue.val)

/-- Clears a slot's histograms, sums and counts in both planes (R319, R322). -/
def clearSlot (slot : Nat) (s : State) : State :=
  let s := [0, 1].foldl (fun s p =>
    [0x2408, 0x2409, 0x240A, 0x240B, 0x2410, 0x2411, 0x2412].foldl (fun s pid => s.wr pid (512 * p + slot) 0) s) s
  s.stamp 0x2413 slot

end Sys2Proof.Machine
end

