-- ==== Sys2Proof/Machine/Inject.lean ====
section
/-! DEFINITION. Frames that the active controller originates or resolves (01 R12, 15 R479, R480): one stamp, identical copies to
the named pipeline of both planes. -/

namespace Sys2Proof.Machine

/-- A transmit header of R479, without its stamp. -/
structure TxHead where
  mode : Nat
  cls : Nat
  value : Nat
  rewrite : Nat
  tenant : Nat
  pipe : Nat
  queue : Nat
  oneStep : Bool
  departure : Bool
  deriving DecidableEq, Repr

/-- Whether a header keeps the rules of R479. -/
def TxHead.ok (h : TxHead) : Bool :=
  decide (h.cls < 8) && decide (h.pipe < 8) && decide (h.rewrite < 2 ^ 18) &&
    (match h.mode with
     | 0 => decide (h.value < 144)
     | 1 => decide (h.value < 65536)
     | 2 => decide (h.value < 16384)
     | _ => false) &&
    (decide (h.tenant < 16) || (h.tenant == 0xFF && h.mode == 0)) && (decide (h.queue < 32768) || h.queue == 0xFFFF)

/-- The frame of an injection by controller `c` before its stamp's CRC-32C: `bytes` without FCS, which the module computes
at egress. -/
def TxHead.unstamped (h : TxHead) (c seq rc : Nat) (bytes : List Byte) : Frame where
  port := 144 + c
  seq := seq
  rc := rc
  frac := 0
  bytes := bytes ++ List.replicate 4 0
  ended := true
  bad := false
  oversize := false
  icls := h.cls
  colour := 0
  ctl := false
  frer := none
  tagless := false
  pipe := h.pipe
  bed := bedSet (bedSet (bedSet (bedSet 0 255 248 (144 + c)) 247 244 (if h.tenant = 0xFF then 0 else h.tenant)) 149 147 h.cls) 167 150 h.rewrite
  second := false
  resume := none
  routeVrf := 0
  label := none
  inject := some (h.mode, h.value, h.queue)
  tc := false
  tcSat := false
  moduleFrame := h.tenant == 0xFF
  oneStep := h.oneStep
  departure := h.departure
  stage := 0xFF
  reason := 0
  ipOff := none
  sole := false
  stampCrc := 0
  verGen := 0

/-- The frame of an injection with its stamp complete (04 R122). -/
def TxHead.frame (h : TxHead) (c seq rc : Nat) (bytes : List Byte) : Frame :=
  let f := h.unstamped c seq rc bytes
  { f with stampCrc := f.crcOf }

/-- Stamps a frame and offers it to both planes (R480); a plane that is not on takes none. The stamp's sequence number is the
result. -/
def State.offer (s : State) (c : Nat) (h : TxHead) (bytes : List Byte) : State × Nat :=
  let seq := s.rd 0x3827 c
  let s := (s.wr 0x3827 c (seq + 1)).inc 0x3825 c
  let planes := s.replicationSet s.rc
  let f := { h.frame c seq s.rc bytes with sole := planes.length == 1 }
  (planes.foldl (fun s p => s.updPl p (fun q => { q with ingress := q.ingress ++ [f] })) s, seq)

/-- The header of a module frame of the module's own to a port (R12, R479). -/
def moduleHead (port cls : Nat) (oneStep departure : Bool) : TxHead :=
  ⟨0, cls, port, 0, 0xFF, groupOf port, 0xFFFF, oneStep, departure⟩

/-- A frame that the active controller originates toward a port (R12): padded to 60 bytes; none without an active
controller. -/
def State.originate (s : State) (port cls : Nat) (oneStep departure : Bool) (bytes : List Byte) : State × Option Nat :=
  match s.holder with
  | some c =>
    let (s, n) := s.offer c (moduleHead port cls oneStep departure) (bytes ++ List.replicate (60 - bytes.length) 0)
    (s, some n)
  | none => (s, none)

end Sys2Proof.Machine
end

