-- ==== Sys2Proof/Machine/Divider.lean ====
section
/-! DEFINITION. The worst-case frame rate of the port groups and the floor divider it allows (13 R421, R422). -/

namespace Sys2Proof.Machine

/-- The line rate in Mb/s at which a port counts (R421): operating while up, its target while it trains or steps. -/
def State.countedRate (s : State) (i : Nat) : Nat :=
  match s.link i with
  | 2 => speedMbps (s.rd 0x0801 i)
  | 3 => s.portRate i
  | 4 => speedMbps (s.port i).step.target
  | _ => 0

/-- The line rates of a port group together. -/
def State.groupLoad (s : State) (g : Nat) : Nat := (List.range 18).foldl (fun a k => a + s.countedRate (18 * g + k)) 0

/-- Whether a divider allows the worst case of every port group: 4,800 / d MHz against rate / 672 bits. -/
def State.dividerAllowed (s : State) (d : Nat) : Bool :=
  (List.range 8).all (fun g => decide (s.groupLoad g * d ≤ 4800 * 672))

/-- The floor divider (PID 0215h): the largest from 4 up to the deepest allowed. -/
def State.floorDivider (s : State) : Nat :=
  (((List.range 5).map (fun k => 8 - k)).find? (fun d => decide (d ≤ s.rd 0x0216 0) && s.dividerAllowed d)).getD 4

/-- Both planes are at or above the floor (R422). -/
def State.coreFastEnough (s : State) : Bool :=
  (List.range 2).all (fun p => !s.isOn (domPlane p) || decide (s.rd 0x0214 p ≤ s.floorDivider))

end Sys2Proof.Machine
end

