-- ==== Sys2Proof/Machine/Ports.lean ====
section
/-! DEFINITION. Port groups (04): the receive MAC and the end of a frame, MAC control frames and pauses, the link, the laser bank,
and rate stepping. -/

namespace Sys2Proof.Machine

/-! ### The end of a frame (R100 to R102, R117 to R123) -/

/-- Adds a frame's bits to the port's 1 ms window (R126, R127). A window at or above the step-down threshold in force restarts
the dwell at its end. -/
def State.noteRx (s : State) (i len : Nat) : State :=
  let w := s.rc / 400000
  let q := s.port i
  let bits := (if q.rxWin = w then q.rxBits else 0) + 8 * len
  let prev := if q.rxWin = w then q.rxPrev else if q.rxWin + 1 = w then q.rxBits else 0
  s.updPort i (fun q => { q with rxWin := w, rxBits := bits, rxPrev := prev
                                 dwellSince := if s.rd 0x083B i * 1000 ≤ bits then (w + 1) * 400000 else q.dwellSince })

/-- The received bit rate of a port, in bits per 1 ms window: the greater of the present window and the one before it. -/
def State.rxBits (s : State) (i : Nat) : Nat :=
  let q := s.port i
  if q.rxWin = s.rc / 400000 then max q.rxBits q.rxPrev else if q.rxWin + 1 = s.rc / 400000 then q.rxBits else 0

/-- Counts a frame accepted by the MAC (17 R513). -/
def State.countReceived (s : State) (i len da : Nat) : State :=
  let s := (s.inc 0x3C00 i).incBy 0x3C01 i len
  if da = 0xFFFFFFFFFFFF then s.inc 0x3C03 i else if da.testBit 40 then s.inc 0x3C02 i else s

/-- The end of a replicated frame reaches every plane it was replicated to. -/
def State.endInPlanes (s : State) (i : Nat) (f : RxFrame) (bytes : List Byte) (bad oversize : Bool) : State :=
  match f.seq with
  | some n => f.planes.foldl (fun s p => s.planeEnd p i n bytes bad oversize) s
  | none => s

/-- A frame in reception ends without a place to go: the port has none. -/
def State.clearRx (s : State) (i : Nat) : State := s.updPort i (fun q => { q with rx := none })

/-- Sets DEI in the outermost recognised tag (R119). -/
def withDei (t : Tags) (bs : List Byte) : List Byte :=
  match t.tags with
  | [] => bs
  | (_, c) :: _ => putBE bs 14 2 (setBit c 12 true)

/-- Replicates a frame received whole (R117), and ends it. -/
def State.replicateWhole (s : State) (i : Nat) (f : RxFrame) : State :=
  let (s, f) := s.replicate i f (s.tagsOf (groupOf i) f.bytes)
  s.endInPlanes i f f.bytes false false

/-- A policed frame, received whole: charged, then forwarded, forwarded with DEI set, or discarded (R118, R119). -/
def State.police (s : State) (i n len : Nat) (f : RxFrame) : State :=
  let (s, colour) := s.charge n f.rc len f.colour
  match s.rd (0x0A08 + colour) n with
  | 2 => s
  | 1 => s.replicateWhole i { f with colour := colour, bytes := withDei (s.tagsOf (groupOf i) f.bytes) f.bytes }
  | _ => s.replicateWhole i { f with colour := colour }

/-! ### MAC control frames (R103 to R109) -/

/-- A pause of `quanta` in ticks: 512 bit times each, rounded up (R104). -/
def pauseTicks (mbps quanta : Nat) : Nat := (quanta * 512 * 400 + mbps - 1) / mbps

/-- Loads the port-level pause timer (R104 to R106): the frame in transmission completes, and those that wait start later. -/
def State.loadPause (s : State) (i quanta : Nat) : State :=
  let t := if quanta = 0 then none else some (s.rc + pauseTicks (s.portRate i) quanta)
  (s.updPort i (fun q => { q with pauseUntil := t })).retime i

/-- Loads the timer of a priority (R104, R105, R109). -/
def State.loadPfc (s : State) (i k quanta : Nat) : State :=
  let s := (s.inc 0x3C0D (8 * i + k)).wr 0x084B (8 * i + k) quanta
  s.updPort i (fun q =>
    if quanta = 0 then { q with pfcUntil := Tab.del q.pfcUntil k, pfcSince := Tab.del q.pfcSince k }
    else { q with
      pfcUntil := Tab.set q.pfcUntil k (s.rc + pauseTicks (s.portRate i) quanta)
      pfcSince := if s.pausedClass i k then q.pfcSince else Tab.set q.pfcSince k s.rc })

/-- One priority of a good PFC frame. -/
def State.pfcOne (s : State) (i k quanta : Nat) : State :=
  if (s.rd 0x0832 i).testBit k = false then s.inc 0x3C10 i
  else if (Tab.find? (s.port i).pfcIgnore k).isSome then s
  else s.loadPfc i k quanta

/-- The effect of a good MAC control frame (R104). -/
def State.macControl (s : State) (i : Nat) (bs : List Byte) : State :=
  let op := getBE bs 14 2
  if op = 1 then
    if s.flag 0x0830 i then (s.inc 0x3C0C i).loadPause i (getBE bs 16 2) else s.inc 0x3C10 i
  else if op = 0x0101 then
    (bitsOf 8 (getBE bs 16 2)).foldl (fun s k => s.pfcOne i k (getBE bs (18 + 2 * k) 2)) s
  else s.inc 0x3C11 i

/-- What the receive MAC makes of a whole frame (R100): runt, oversize, bad, good. -/
inductive MacResult where
  | runt | oversize | bad | good
  deriving DecidableEq, Repr

/-- The outcome of R100 for a length and a maximum. -/
def macResult (len max : Nat) (fcsGood : Bool) : MacResult :=
  if len ≤ 63 then .runt else if max < len then .oversize else if fcsGood then .good else .bad

/-- A MAC control frame received whole (R103). -/
def State.controlReceived (s : State) (i : Nat) (bs : List Byte) (fcsGood : Bool) : State :=
  let s := s.noteRx i bs.length
  match macResult bs.length (s.rd 0x0803 i) fcsGood with
  | .runt => s.inc 0x3C08 i
  | .oversize => s.inc 0x3C0A i
  | .bad => s.inc 0x3C09 i
  | .good => (s.countReceived i bs.length (getBE bs 0 6)).macControl i bs

/-- An oversize frame as held (R100): cut to `n` bytes, the last four replaced by the inverted FCS of the bytes before them. -/
def cutFrame (n : Nat) (bs : List Byte) : List Byte := bs.take (n - 4) ++ fcsBytes true (bs.take (n - 4))

/-- The end of the frame in reception on a port (R100 to R102). A policer that has been switched off since lets the frame pass
with its marked colour (R120). -/
def State.frameEnds (s : State) (i : Nat) (f : RxFrame) (rest : List Byte) (fcsGood : Bool) : State :=
  let bytes := f.bytes ++ rest
  let cut := if f.frer.any (fun w => w.testBit 30) && !f.tagless then 6 else 0
  let len := bytes.length + cut
  let max := s.rd 0x0803 i
  let s := if f.macControl then s else s.noteRx i len
  if f.macControl then s.controlReceived i bytes fcsGood
  else
    match macResult len max fcsGood with
    | .runt => s.inc 0x3C08 i
    | .oversize => (s.inc 0x3C0A i).endInPlanes i f (cutFrame (max - cut) bytes) true true
    | .bad => (s.inc 0x3C09 i).endInPlanes i f bytes true false
    | .good =>
      let s := s.countReceived i len (getBE bytes 0 6)
      let f := { f with bytes := bytes }
      if f.drop then s
      else if f.seq.isSome then s.endInPlanes i f bytes false false
      else match f.policer with
        | some n => if s.rd 0x0A00 n = 1 ∨ s.rd 0x0A00 n = 2 then s.police i n len f else s.replicateWhole i f
        | none => s.replicateWhole i f

/-- FRAME_END (R101): the rest of the frame after its head, FCS included. -/
def frameEnd (i : Nat) (rest : List Byte) (fcsGood : Bool) (s : State) : State :=
  match (s.port i).rx with
  | some f => (s.clearRx i).frameEnds i f rest fcsGood
  | none => s

/-- FRAME_END (R101). -/
def execFrameEnd (el : Nat) (port : PortNo) (rest : List Byte) (fcsGood : Bool) (s : State) : Out :=
  s.run el (frameEnd port.val rest fcsGood)

/-- MAC_CONTROL_FRAME (R104): a whole frame with EtherType 8808h. -/
def macControlFrame (i : Nat) (bytes : List Byte) (fcsGood : Bool) (s : State) : State :=
  if s.receives i = true ∧ (s.port i).rx = none ∧ getBE bytes 12 2 = 0x8808 then s.controlReceived i bytes fcsGood else s

/-- MAC_CONTROL_FRAME (R104). -/
def execMacControlFrame (el : Nat) (port : PortNo) (bytes : List Byte) (fcsGood : Bool) (s : State) : Out :=
  s.run el (macControlFrame port.val bytes fcsGood)

/-- PAUSE_TIMER_EXPIRY (R105): of a priority, or of the port-level timer (8). -/
def pauseTimerExpiry (i k : Nat) (s : State) : State :=
  if k = 8 then
    match (s.port i).pauseUntil with
    | some t => if t ≤ s.rc then s.updPort i (fun q => { q with pauseUntil := none }) else s
    | none => s
  else if s.pausedClass i k then s
  else s.updPort i (fun q => { q with pfcUntil := Tab.del q.pfcUntil k, pfcSince := Tab.del q.pfcSince k })

/-- PAUSE_TIMER_EXPIRY (R105). -/
def execPauseTimerExpiry (el : Nat) (port : PortNo) (prio : Fin 9) (s : State) : Out :=
  s.run el (pauseTimerExpiry port.val prio.val)

/-- PFC_WATCHDOG (R109): the pause ends and received PFC is ignored for one more watchdog time. -/
def pfcWatchdog (i k : Nat) (s : State) : State :=
  match Tab.find? (s.port i).pfcSince k with
  | some t =>
    let w := s.rd 0x0849 i * 400000
    if w ≠ 0 ∧ t + w ≤ s.rc ∧ s.pausedClass i k = true then
      let s := s.updPort i (fun q => { q with
        pfcUntil := Tab.del q.pfcUntil k, pfcSince := Tab.del q.pfcSince k, pfcIgnore := Tab.set q.pfcIgnore k s.rc })
      (s.inc 0x084A (8 * i + k)).fault 69 (groupOf i)
    else s
  | none => s

/-- PFC_WATCHDOG (R109). -/
def execPfcWatchdog (el : Nat) (port : PortNo) (prio : Fin 8) (s : State) : Out := s.run el (pfcWatchdog port.val prio.val)

/-- PFC_WATCHDOG_EXPIRY (R109). -/
def pfcWatchdogExpiry (i k : Nat) (s : State) : State :=
  match Tab.find? (s.port i).pfcIgnore k with
  | some t => if t + s.rd 0x0849 i * 400000 ≤ s.rc then s.updPort i (fun q => { q with pfcIgnore := Tab.del q.pfcIgnore k }) else s
  | none => s

/-- PFC_WATCHDOG_EXPIRY (R109). -/
def execPfcWatchdogExpiry (el : Nat) (port : PortNo) (prio : Fin 8) (s : State) : Out :=
  s.run el (pfcWatchdogExpiry port.val prio.val)

/-! ### Policer and limiter faults (R131, R134) -/

/-- Fills both buckets of a policer (PID 0A1Eh), whose state is then good again (notes/assumptions/66.md). -/
def bucketReset (n : Nat) (s : State) : State := s.setPolicer n { s.policer n with full := true, lost := false }

/-- A policer's state is lost: it goes on with full buckets, and PID 0A1Ch shows the error (R131, R134). -/
def policerMemoryError (n : Nat) (s : State) : State :=
  (s.setPolicer n { s.policer n with full := true, lost := true }).fault 71 (n / 2048)

/-- POLICER_MEMORY_ERROR (R131). -/
def execPolicerMemoryError (el : Nat) (policer : Fin 16384) (s : State) : Out := s.run el (policerMemoryError policer.val)

/-- CONTROLLER_PATH_LIMIT_FAULT (R131). -/
def execControllerPathLimitFault (el : Nat) (group : Fin 8) (s : State) : Out :=
  s.run el (fun s => s.sustained 70 group.val 400000 1000)

/-- PORT_GROUP_OVERTEMPERATURE (R131): a reading of the die temperature in 0.1 °C. -/
def portGroupOvertemperature (g temp : Nat) (s : State) : State :=
  let was := signed 16 (s.rd 0x082E g)
  let s := s.wr 0x082E g temp
  if was ≤ 1350 ∧ 1350 < signed 16 temp then s.fault 67 g else s

/-- PORT_GROUP_OVERTEMPERATURE (R131). -/
def execPortGroupOvertemperature (el : Nat) (group : Fin 8) (temp : BitVec 16) (s : State) : Out :=
  s.run el (portGroupOvertemperature group.val temp.toNat)

/-! ### The link (R92 to R94, 08 R269) -/

/-- Changes the link state, with the DT of the change (PID 0809h). -/
def State.setLink (s : State) (i v : Nat) : State := if s.link i = v then s else (s.wr 0x0805 i v).stamp 0x0809 i

/-- Reception stops: the frame in reception is discarded, and the planes end its copies as bad. -/
def State.stopReception (s : State) (i : Nat) : State :=
  match (s.port i).rx with
  | some f => (s.clearRx i).endInPlanes i f f.bytes true false
  | none => s

/-- Counts a port-disable discard of the frame in reception (R93). -/
def State.countRxDiscard (s : State) (i : Nat) : State := if (s.port i).rx.isSome then s.inc 0x3C0B i else s

/-- What a port forgets with its link: pauses, XOFF and stepping. -/
def State.quietPort (s : State) (i : Nat) : State :=
  (s.updPort i (fun q => { q with pauseUntil := none, pfcUntil := [], pfcSince := [], pfcIgnore := [], xoff := [], step := ⟨q.step.exchange, 0, 0, 0, 0⟩
                                  holdDrops := [] })).wr 0x0840 i 0

/-- The link state of an enabled port that is not up: training, or test (PID 080Bh), where the gate of the test block lets it run
(13 R426). -/
def State.trainState (s : State) (i : Nat) : Nat :=
  if s.rd 0x080B i = 0 ∨ s.gateShut (domGroup (groupOf i)) 5 = true then 2 else 5

/-- Some plane forwards: on, and bonded or sole (03 R72). -/
def State.forwards (s : State) : Bool := [0, 1].any (fun p => s.isOn (domPlane p) && (s.rd 0x281F p == 2 || s.rd 0x281F p == 3))

/-- The state of laser `k` of a port group (PIDs 0815h to 0828h). -/
def State.laser (s : State) (g k : Nat) : Nat := s.rd (0x0815 + k) g

/-- A port lights its laser and trains at once, from Sill on (03 R562). With no plane to forward, and without a laser in service
(R99), its laser stays dark and it reports down (03 R72). -/
def State.light (s : State) (i : Nat) : State :=
  if s.stageAtLeast 1 = true ∧ s.isOn (domGroup (groupOf i)) = true then
    if s.forwards = true ∧ s.laser (groupOf i) (s.rd 0x0810 i) = 0 then
      (s.updPort i (fun q => { q with training := true })).setLink i (s.trainState i)
    else s.setLink i 1
  else s

/-- PORT_ENABLE's effect (R562). -/
def State.enablePort (s : State) (i : Nat) : State :=
  if s.flag 0x0800 i then s else (s.wr 0x0800 i 1).light i

/-- The frame in transmission on a port (R93): the one the transmit MAC sends, or else one that a plane has started. -/
def State.inFlight (s : State) (i : Nat) : Option (Nat × Nat) :=
  match (s.bond i).fifo.find? (fun x => !x.held && decide (x.te ≤ s.rc)) with
  | some x => some (x.frame.port, x.frame.seq)
  | none =>
    let started (q : Plane) : Option (Nat × Nat) := match Tab.find? q.sending i with
      | some x => if x.started then (Tab.find? q.desc x.copy.head).map (fun d => (d.frame.port, d.frame.seq)) else none
      | none => none
    (started s.pa).or (started s.pb)

/-- Transmission stops after the frame in transmission (R93): what else the egress FIFO holds is not sent. -/
def State.stopTransmission (s : State) (i : Nat) : State :=
  let k := s.inFlight i
  (s.updPort i (fun q => { q with finishing := k })).updBond i (fun b =>
    { b with fifo := b.fifo.filter (fun x => k == some (x.frame.port, x.frame.seq)) })

/-- A port leaves service at once (R93): reception stops, queued copies are discarded, the frame in transmission completes, the
laser goes dark. -/
def State.darken (s : State) (i v : Nat) : State :=
  let s := (((s.countRxDiscard i).stopReception i).setLink i v).stopTransmission i
  ((s.flushPort i).quietPort i).updPort i (fun q => { q with training := false })

/-- PORT_DISABLE's effect (R93). -/
def State.disablePort (s : State) (i : Nat) : State := (s.wr 0x0800 i 0).darken i 0

/-- The speed and FEC combinations of R91. -/
def speedFecOk (i speed fec : Nat) : Bool :=
  if isFastPort i then speed == 2 && fec == 3
  else (speed == 0 && decide (fec ≤ 2)) || (speed == 1 && decide (fec ≤ 1))

/-- A write of speed or FEC that is allowed (R92, R93): where it changes one, an enabled port retrains. -/
def State.retrain (s : State) (i speed fec : Nat) : State :=
  if s.rd 0x0801 i = speed ∧ s.rd 0x0802 i = fec then s
  else
  let s := (s.wr 0x0801 i speed).wr 0x0802 i fec
  if s.flag 0x0800 i then ((s.darken i 1).wr 0x0806 i speed).light i else s.wr 0x0806 i speed

/-- A port's link goes down (R94, 08 R269). -/
def State.dropLink (s : State) (i : Nat) : State :=
  let s := (s.stopReception i).setLink i 1
  let s := (s.cutPort i).flushPort i
  ((s.wr 0x0806 i (s.rd 0x0801 i)).quietPort i).updPort i (fun q => { q with dwellSince := s.rc, finishing := none })

/-- LINK_DOWN (R94): loss of signal, lock or alignment that has lasted `lasted` ticks takes the link down once that is the
hold-off; `status` is the fault status read (PID 0807h). -/
def linkDown (i status lasted : Nat) (s : State) : State :=
  if s.link i = 3 ∧ s.rd 0x080A i * 400 ≤ lasted then (s.wr 0x0807 i status).dropLink i else s

/-- LINK_DOWN (R94). -/
def execLinkDown (el : Nat) (port : PortNo) (reading : LinkReading) (s : State) : Out :=
  s.run el (linkDown port.val reading.status.toNat reading.lasted)

/-- LINK_UP (R94): the link has been clean for `clean` ticks, and is up once that is the debounce; it waits for both planes'
core clocks (13 R422). -/
def linkUp (i status clean : Nat) (s : State) : State :=
  if (s.link i = 1 ∨ s.link i = 2) ∧ s.flag 0x0800 i = true ∧ (s.port i).training = true ∧ s.isOn (domGroup (groupOf i)) = true ∧
      s.rd 0x0848 i * 400000 ≤ clean ∧ s.coreFastEnough = true then
    let s := { s with synce := { s.synce with heard := Tab.upd s.clk s.synce.heard i id } }
    (((s.setLink i 3).inc 0x0808 i).wr 0x0807 i status).updPort i (fun q => { q with dwellSince := s.rc, finishing := none })
  else s

/-- LINK_UP (R94). -/
def execLinkUp (el : Nat) (port : PortNo) (reading : LinkReading) (s : State) : Out :=
  s.run el (linkUp port.val reading.status.toNat reading.lasted)

/-- The FEC a port runs: at 10 Gb/s of a stepped port, Clause 74 where the 25 Gb/s FEC is Clause 74 or 108 (R128). -/
def State.runningFec (s : State) (i : Nat) : Nat :=
  let stepped := s.rd 0x0801 i = 0 ∧ (if s.link i = 4 then (s.port i).step.target = 1 else s.rd 0x0806 i = 1)
  if stepped then min 1 (s.rd 0x0802 i) else s.rd 0x0802 i

/-- The fault status of a port (PID 0807h): as declared with its link, with FEC degrade and receive power low as the present
readings stand to PIDs 0846h and 0844h (R132; notes/assumptions/67.md). -/
def State.faultStatus (s : State) (i : Nat) : Nat :=
  let degraded := s.runningFec i ≠ 0 ∧ (Config.errorRatio i s.clk).toNat < s.rd 0x0846 i
  let weak := signed 16 (Config.receivePower i s.clk).toNat < signed 16 (s.rd 0x0844 i)
  s.rd 0x0807 i % 16 + (if degraded then 16 else 0) + (if weak then 32 else 0)

/-! ### The laser bank (R95 to R99) -/

/-- Sets the state of a laser. -/
def State.setLaser (s : State) (g k v : Nat) : State := s.wr (0x0815 + k) g v
/-- The lowest laser of a group in a state. -/
def State.laserIn (s : State) (g v : Nat) : Option Nat := (List.range 20).find? (fun k => s.laser g k == v)
/-- Spares remaining: warm, cold or warming. -/
def State.hasSpare (s : State) (g : Nat) : Bool := (s.laserIn g 1).isSome || (s.laserIn g 2).isSome || (s.laserIn g 3).isSome

/-- A group with a cold spare and no warm one warms it at once (R96). -/
def State.keepSpare (s : State) (g : Nat) : State :=
  if (s.laserIn g 1).isSome ∨ (s.laserIn g 3).isSome then s
  else match s.laserIn g 2 with
    | some k => s.setLaser g k 3
    | none => s

/-- A swap of a port's modulator to the warm spare `k` (R97, R98). -/
def State.swapTo (s : State) (i k outgoing : Nat) : State :=
  let g := groupOf i
  let s := ((s.setLaser g (s.rd 0x0810 i) outgoing).setLaser g k 0).wr 0x0810 i k
  let s := (s.inc 0x082C g).updPort i (fun q => { q with swapHit := some s.rc, swapWait := none })
  let s := s.keepSpare g
  if s.hasSpare g then s else s.fault 65 g

/-- The state the outgoing laser takes (R97). -/
def SwapCause.outgoing : SwapCause → Nat
  | .loss => 5
  | _ => 4

/-- A swap that proceeds with the warm spare, or waits for one (R97, R99); a loss of output that waits already stays what
waits. -/
def State.swapOrWait (s : State) (i : Nat) (cause : SwapCause) : State :=
  if (s.port i).swapWait = some .loss then s
  else match s.laserIn (groupOf i) 1 with
    | some k => s.swapTo i k cause.outgoing
    | none => s.updPort i (fun q => { q with swapWait := some cause })

/-- LASER_SWAP_WEAR_OUT (R97): the bias rise read, in 0.1 %. -/
def laserSwapWearOut (i rise : Nat) (s : State) : State :=
  let g := groupOf i
  let s := s.wr 0x0812 i rise
  if s.isOn (domGroup g) = true ∧ 10 * s.rd 0x082A g < rise ∧ s.flag 0x0829 g = true ∧ s.laser g (s.rd 0x0810 i) = 0 then
    let s := if s.hasSpare g then s else s.fault 66 g
    s.swapOrWait i .wearOut
  else s

/-- LASER_SWAP_WEAR_OUT (R97). -/
def execLaserSwapWearOut (el : Nat) (port : PortNo) (rise : BitVec 16) (s : State) : Out :=
  s.run el (laserSwapWearOut port.val rise.toNat)

/-- LASER_LOSS_OF_OUTPUT (R97, R99). -/
def laserLossOfOutput (i : Nat) (s : State) : State :=
  let g := groupOf i
  if s.isOn (domGroup g) = true ∧ s.laser g (s.rd 0x0810 i) = 0 then
    match s.laserIn g 1 with
    | some k => s.swapTo i k 5
    | none =>
      let s := (s.setLaser g (s.rd 0x0810 i) 5).fault 64 g
      let s := s.updPort i (fun q => { q with swapWait := some .loss })
      let s := if s.link i = 3 ∨ s.link i = 4 then s.dropLink i else if s.link i = 2 then s.setLink i 1 else s
      s.updPort i (fun q => { q with training := false })
  else s

/-- LASER_LOSS_OF_OUTPUT (R97). -/
def execLaserLossOfOutput (el : Nat) (port : PortNo) (s : State) : Out := s.run el (laserLossOfOutput port.val)

/-- SWAP_HIT_END (R98): the hit in ns is recorded. -/
def swapHitEnd (i : Nat) (s : State) : State :=
  match (s.port i).swapHit with
  | some t => (s.wr 0x082D (groupOf i) ((s.rc - t) * 5 / 2)).updPort i (fun q => { q with swapHit := none })
  | none => s

/-- SWAP_HIT_END (R98). -/
def execSwapHitEnd (el : Nat) (port : PortNo) (s : State) : Out := s.run el (swapHitEnd port.val)

/-- The port whose swap waits in a group: one that lost its output first, else the lowest. -/
def State.waitingSwap (s : State) (g : Nat) : Option (Nat × SwapCause) :=
  let l := (List.range 18).filterMap (fun k => (s.port (18 * g + k)).swapWait.map (fun c => (18 * g + k, c)))
  (l.find? (fun x => x.2 == .loss)).or l.head?

/-- SPARE_WARMED (R96, R99): the waiting swap proceeds, and a port that lost its output retrains. -/
def spareWarmed (g : Nat) (s : State) : State :=
  match s.laserIn g 3 with
  | some k =>
    let s := s.setLaser g k 1
    match s.waitingSwap g with
    | some (i, cause) =>
      let s := s.swapTo i k cause.outgoing
      if cause = .loss ∧ s.flag 0x0800 i = true then s.light i else s
    | none => s
  | none => s

/-- SPARE_WARMED (R96). -/
def execSpareWarmed (el : Nat) (group : Fin 8) (s : State) : Out := s.run el (spareWarmed group.val)

/-! ### Rate stepping (R125 to R128) -/

/-- A step message in its 64-byte frame (R125). -/
def State.stepFrame (s : State) (i msg exchange target : Nat) : List Byte :=
  toBytes 6 0x0180C2000002 ++ toBytes 6 (s.portMac i) ++ toBytes 2 0x8809 ++ toBytes 1 0x0A ++
    toBytes 3 (s.rd 0x0842 0) ++ toBytes 1 1 ++ toBytes 1 msg ++ toBytes 1 exchange ++ toBytes 1 target ++ toBytes 1 0

/-- The active controller sends a step message on a port. -/
def State.sendStep (s : State) (i msg exchange target : Nat) : State :=
  (s.originate i 7 false false (s.stepFrame i msg exchange target)).1

/-- Changes the stepping state of a port. -/
def State.updStep (s : State) (i : Nat) (f : Stepping → Stepping) : State := s.updPort i (fun q => { q with step := f q.step })

/-- The first two conditions of R126: stepping set and not failed, and nothing queued to the port in either plane. -/
def State.mayStepDown (s : State) (i : Nat) : Bool :=
  s.flag 0x083A i && !s.flag 0x084F i && (s.pa.copiesOf i).isEmpty && (s.pb.copiesOf i).isEmpty

/-- A step starts (R128): both planes stop scheduling the port, until lock at the target speed. -/
def State.startStep (s : State) (i target : Nat) : State :=
  (((s.setLink i 4).wr 0x0840 i (if target = 1 then 2 else 4)).updPort i (fun q => { q with holdDrops := [] })).updStep i (fun q => { q with asked := 0, target := target, since := s.rc })

/-- Sends a request and waits for its answer: 1 step-down, 2 step-up (R126, R127). -/
def State.requestStep (s : State) (i kind attempts exchange : Nat) : State :=
  ((s.wr 0x0840 i 1).updStep i (fun q => { q with exchange := exchange, attempts := attempts, asked := kind, since := s.rc })).sendStep i
    (if kind = 1 then 1 else 4) exchange kind

/-- STEP_DOWN_REQUEST (R126): on a 25 Gb/s port; the dwell has passed with the received rate below the threshold, which no rate
is at a threshold of 0. -/
def stepDownRequest (i : Nat) (s : State) : State :=
  let q := s.port i
  if s.link i = 3 ∧ s.rd 0x0806 i = 0 ∧ s.rd 0x0840 i = 0 ∧ s.scheduled = true ∧ s.mayStepDown i = true ∧
      s.rd 0x083B i ≠ 0 ∧ q.dwellSince + s.rd 0x083C i * 400000000 ≤ s.rc then
    s.requestStep i 1 1 ((q.step.exchange + 1) % 256)
  else s

/-- STEP_DOWN_REQUEST (R126). -/
def execStepDownRequest (el : Nat) (port : PortNo) (s : State) : Out := s.run el (stepDownRequest port.val)

/-- Whether what a step-up request comes from has occurred (R127): the rate of a 1 ms window above PID 083Dh, the egress occupancy
in either plane above PID 0845h, or PID 083Ah cleared. -/
def State.stepUpDue (s : State) (i : Nat) : StepUpCause → Bool
  | .rate => decide (s.rd 0x083D i * 1000 < s.rxBits i)
  | .occupancy => decide (s.rd 0x0845 i < max (s.pa.tilesE i) (s.pb.tilesE i))
  | .cleared => !s.flag 0x083A i

/-- STEP_UP_REQUEST (R127). -/
def stepUpRequest (i : Nat) (cause : StepUpCause) (s : State) : State :=
  if s.link i = 3 ∧ s.rd 0x0840 i = 3 ∧ s.stepUpDue i cause = true then
    s.requestStep i 2 1 (((s.port i).step.exchange + 1) % 256)
  else s

/-- STEP_UP_REQUEST (R127). -/
def execStepUpRequest (el : Nat) (port : PortNo) (cause : StepUpCause) (s : State) : Out :=
  s.run el (stepUpRequest port.val cause)

/-- A refusal or the last silence: the dwell restarts (R126). -/
def State.restartDwell (s : State) (i : Nat) : State :=
  ((s.wr 0x0840 i 0).updStep i (fun q => { q with asked := 0 })).updPort i (fun q => { q with dwellSince := s.rc })

/-- The effect of a step message (R126, R127). -/
def State.stepReceived (s : State) (i msg exchange target : Nat) : State :=
  let q := (s.port i).step
  match msg with
  | 1 =>
    if s.mayStepDown i = true ∧ s.rd 0x0806 i = 0 ∧ target = 1 ∧ isFastPort i = false then (s.sendStep i 2 exchange 1).startStep i 1
    else s.sendStep i 3 exchange target
  | 2 => if q.asked = 1 ∧ q.exchange = exchange then (s.wr 0x083F i 1).startStep i 1 else s
  | 3 => if q.asked = 1 ∧ q.exchange = exchange then (s.wr 0x083F i 2).restartDwell i else s
  | 4 =>
    let s := s.sendStep i 5 exchange target
    if s.rd 0x0806 i = 1 ∧ s.rd 0x0801 i = 0 then s.startStep i 0 else s
  | 5 => if q.asked = 2 ∧ q.exchange = exchange then (s.wr 0x083F i 1).startStep i 0 else s
  | _ => s

/-- STEP_MESSAGE (R125): the fields that follow the subtype. A message of another company or version is not one. -/
def stepMessage (i company version msg exchange target : Nat) (s : State) : State :=
  if s.link i = 3 ∧ s.scheduled = true ∧ s.holder.isSome = true ∧ company = s.rd 0x0842 0 % 2 ^ 24 ∧ version = 1 then
    s.stepReceived i msg exchange target
  else s

/-- STEP_MESSAGE (R125). -/
def execStepMessage (el : Nat) (port : PortNo) (company : BitVec 24) (version msg exchange target : Byte) (s : State) : Out :=
  s.run el (stepMessage port.val company.toNat version.toNat msg.toNat exchange.toNat target.toNat)

/-- STEP_NEGOTIATION_TIMEOUT (R126, R127). -/
def stepNegotiationTimeout (i : Nat) (s : State) : State :=
  let q := (s.port i).step
  if q.asked ≠ 0 ∧ s.rd 0x0840 i = 1 ∧ q.since + s.rd 0x0847 i * 400000 ≤ s.rc then
    if q.asked = 2 then s.startStep i 0
    else if q.attempts < 3 then s.requestStep i 1 (q.attempts + 1) q.exchange
    else s.restartDwell i
  else s

/-- STEP_NEGOTIATION_TIMEOUT (R126). -/
def execStepNegotiationTimeout (el : Nat) (port : PortNo) (s : State) : Out := s.run el (stepNegotiationTimeout port.val)

/-- STEP_LOCK (R128): the link is up at the new speed; a step-up waits for both planes' core clocks (13 R422). -/
def stepLock (i : Nat) (s : State) : State :=
  if s.link i = 4 ∧ ((s.port i).step.target = 1 ∨ s.coreFastEnough = true) then
    let t := (s.port i).step.target
    (((s.setLink i 3).wr 0x0806 i t).wr 0x0840 i (if t = 1 then 3 else 0)).inc 0x0841 i |>.updPort i (fun q => { q with dwellSince := s.rc })
  else s

/-- STEP_LOCK (R128). -/
def execStepLock (el : Nat) (port : PortNo) (s : State) : Out := s.run el (stepLock port.val)

/-- STEP_FAILURE (R128): no lock within 50 ms; the port retrains at 25 Gb/s. -/
def stepFailure (i : Nat) (s : State) : State :=
  if s.link i = 4 ∧ (s.port i).step.since + 20000000 ≤ s.rc then
    let s := ((s.setLink i 2).wr 0x0806 i 0).wr 0x084F i 1
    let s := (((s.cutPort i).flushPort i).quietPort i).inc 0x3C17 i
    s.fault 68 (groupOf i)
  else s

/-- STEP_FAILURE (R128). -/
def execStepFailure (el : Nat) (port : PortNo) (s : State) : Out := s.run el (stepFailure port.val)

end Sys2Proof.Machine
end

