-- ==== Sys2Proof/Machine/Departure.lean ====
section
/-! DEFINITION. What the egress port group does to a frame as it leaves (11 R354; 12 R375, R386, R387): the R-TAG, the
departure time of a one-step Sync, the transit correction, and the port statistics (17 R513). -/

namespace Sys2Proof.Machine

/-- The DT of a departure timestamp in units of 2^-16 ns: a fraction is 640 units (R373). -/
def State.departureDT (s : State) (te fe : Nat) : Int := s.time.triple.dtOf te + 640 * fe

/-- A UDP checksum at `o` updated for a message field of `n` bytes that changes to `v` (R387). -/
def udpUpdate (v6 : Bool) (bs : List Byte) (o n v : Nat) (before : Nat) : List Byte :=
  let c := getBE bs o 2
  if c = 0 ∧ v6 = false then bs
  else
    let c' := (List.range (n / 2)).foldl (fun c k => checksumUpdate c (field before (8 * n - 16 * k - 1) (8 * n - 16 * k - 16))
      (field v (8 * n - 16 * k - 1) (8 * n - 16 * k - 16))) c
    putBE bs o 2 (if c' = 0 then 0xFFFF else c')

/-- Replaces a field of a PTP message, whose value was `before`, with its UDP checksum where it is carried in UDP. -/
def putPtp (bs : List Byte) (udp : Option Nat) (v6 : Bool) (f n v before : Nat) : List Byte :=
  let b := match udp with
    | some u => udpUpdate v6 bs (u + 6) n v before
    | none => bs
  putBE b f n v

/-- Whether the network header before a UDP header is version 6. -/
def overV6 (tpids : List Nat) (bs : List Byte) : Bool := (readTags tpids bs 3 12 []).ethertype == 0x86DD

/-- The transit correction at egress (R387): the frame's bytes, and the counts of the egress port. -/
def State.tcEgress (s : State) (e : Nat) (f : Frame) (te fe : Nat) (bs : List Byte) : State × List Byte :=
  let tp := s.frameTpids f
  match ptpEvent tp bs with
  | some (o, u) =>
    if f.tcSat then (s.inc 0x3128 e, bs)
    else
      let c := signed 64 (getBE bs (o + 8) 8)
      let before := unsignedOf 64 (c + 640 * f.frac)
      let rho : Int := if s.rd 0x3129 0 = 0 ∨ s.dtValid = false then 0 else s.time.triple.rho
      let c' := signed 64 before - 640 * f.frac + floorDiv (163840 * ((te : Int) - f.rc) * ((2 : Int) ^ 60 + rho)) ((2 : Int) ^ 60) + 640 * fe
      if c' < -(2 : Int) ^ 63 ∨ (2 : Int) ^ 63 ≤ c' then
        (s.inc 0x3128 e, putPtp bs u (overV6 tp bs) (o + 8) 8 cfSaturated before)
      else (s.inc 0x3127 e, putPtp bs u (overV6 tp bs) (o + 8) 8 (unsignedOf 64 c') before)
  | none => (s, bs)

/-- The departure time in a one-step Sync (R386): originTimestamp, and the fraction added to correctionField. -/
def State.oneStepSync (s : State) (f : Frame) (te fe : Nat) (bs : List Byte) : List Byte :=
  let tp := s.frameTpids f
  match ptpEvent tp bs with
  | some (o, u) =>
    let d := encDT (s.departureDT te fe)
    let v6 := overV6 tp bs
    let ts := d / 65536
    let c := getBE bs (o + 8) 8
    let b := putPtp bs u v6 (o + 34) 10 ts (getBE bs (o + 34) 10)
    putPtp b u v6 (o + 8) 8 (unsignedOf 64 (signed 64 c + (d % 65536 : Nat))) c
  | none => bs

/-- A copy's R-TAG (R354): after the last VLAN tag, on a member port of its generation stream. -/
def State.rTag (s : State) (e : Nat) (f : Frame) (bs : List Byte) : List Byte :=
  match f.frer with
  | some w =>
    let r := s.rd 0x282C (field w 29 16)
    if w.testBit 30 = false ∧ (byteAt 16 r 10 = e ∨ byteAt 16 r 11 = e) then
      let o := (readTags (s.frameTpids f) bs 3 12 []).off
      bs.take o ++ toBytes 2 (s.rd 0x283C 0) ++ toBytes 2 0 ++ toBytes 2 (field w 15 0) ++ bs.drop o
    else bs
  | none => bs

/-- A message whose departure is recorded (R375). -/
def departing (tpids : List Nat) (f : Frame) (te fe : Nat) (bs : List Byte) : Option Departure :=
  match f.departure, ptpEvent tpids bs with
  | true, some (o, _) => some ⟨getBE bs o 1 % 16, getBE bs (o + 4) 1, getBE bs (o + 30) 2, te, fe⟩
  | _, _ => none

/-- The port statistics of a frame sent with a good FCS (17 R513). -/
def State.countTx (s : State) (e : Nat) (bs : List Byte) : State :=
  let s := (s.inc 0x3C04 e).incBy 0x3C05 e (bs.length + 4)
  let da := getBE bs 0 6
  if da = 2 ^ 48 - 1 then s.inc 0x3C07 e else if da.testBit 40 then s.inc 0x3C06 e else s

/-- A finished copy leaves on its port. -/
def State.depart (s : State) (e : Nat) (x : FifoItem) : State :=
  let bs := s.rTag e x.frame x.bytes
  let (s, bs) := if x.frame.tc then s.tcEgress e x.frame x.te x.fe bs else (s, bs)
  let bs := if x.frame.oneStep then s.oneStepSync x.frame x.te x.fe bs else bs
  if bs.length ≠ x.bytes.length ∧ s.rd 0x0803 e < bs.length + 4 then s.inc 0x1A28 (pInst x.plane e)
  else
    let good := x.status == some 0
    let s := { s with tx := s.tx ++ [⟨e, bs, !good, fcsBytes (!good) bs, x.te⟩] }
    let s := if good then s.countTx e bs else s
    match departing (s.frameTpids x.frame) x.frame x.te x.fe bs with
    | some d => if good then { s with leaving := Tab.upd [] s.leaving e (· ++ [d]) } else s
    | none => s

end Sys2Proof.Machine
end

