-- ==== Sys2Proof/Machine/Bond.lean ====
section
/-! DEFINITION. The bond unit (11 R327 to R337): the window, the retired list, the egress FIFO, and vector recovery (R357). -/

namespace Sys2Proof.Machine

/-! ### What the judgements count (R339, R340) -/

/-- Nothing counted. -/
def WinCount.none : WinCount := ⟨0, 0, 0⟩

/-- After one more in window `w`. -/
def WinCount.bump (c : WinCount) (w : Nat) : WinCount :=
  if c.win = w then { c with now := c.now + 1 } else ⟨w, 1, if c.win + 1 = w then c.now else 0⟩

/-- The count of window `w`: the one last counted in, or the one before it. -/
def WinCount.inWin (c : WinCount) (w : Nat) : Nat := if c.win = w then c.now else if c.win = w + 1 then c.prev else 0

/-- One integrity failure, header failures included, of plane `p` (R339). -/
def State.noteIntegrity (s : State) (p : Nat) : State :=
  { s with judge := { s.judge with integ := Tab.upd .none s.judge.integ p (WinCount.bump · (s.rc / 400000000)) } }

/-- One divergence (R340). -/
def State.noteDivergence (s : State) : State :=
  { s with judge := { s.judge with div := s.judge.div.bump (s.rc / 400000000) } }

/-- A copy from plane `p` delivered to port `e` (R339). -/
def State.noteCopy (s : State) (p e : Nat) : State :=
  { s with judge := { s.judge with
      copies := Tab.upd .none s.judge.copies p (WinCount.bump · (s.rc / 400000))
      byPort := Tab.upd .none s.judge.byPort (pInst p e) (WinCount.bump · (s.rc / 4000000)) } }

/-! ### Keys -/

/-- A plane is bonded (R337). -/
def State.bonded (s : State) (p : Nat) : Bool := s.isOn (domPlane p) && s.rd 0x281F p == 2

/-- The window entry of a key. -/
def Bond.entry (b : Bond) (port seq : Nat) : Option BondEntry := b.window.find? (fun x => x.port == port && x.seq == seq)

/-- Replaces the entry of a key, in its place. -/
def Bond.put (b : Bond) (x : BondEntry) : Bond :=
  { b with window := b.window.map (fun y => if y.port = x.port ∧ y.seq = x.seq then x else y) }

/-- The window without a key. -/
def Bond.drop (b : Bond) (port seq : Nat) : Bond := { b with window := b.window.filter (fun y => y.port != port || y.seq != seq) }

/-- Whether a retired key has outlived the residence ceiling and the margin (R331). -/
def State.outlived (s : State) (arrival : Nat) : Bool := decide (arrival + s.rd 0x1428 0 * 400000 + 16192 < s.rc)

/-- Drops the retired keys that have outlived their use (R331). -/
def State.purgeRetired (s : State) (e : Nat) : State :=
  s.updBond e (fun b => { b with retired := b.retired.filter (fun r => !s.outlived r.2.2.1) })

/-! ### Vector recovery (R357) -/

/-- Record `f` of PID 2832h (R356). -/
def State.recoveryRecord (s : State) (f : Nat) : Nat := s.rd 0x2832 f

/-- Resets a recovery function (R357). -/
def State.resetRecovery (s : State) (f : Nat) : State := ({ s with recovery := Tab.del s.recovery f }).inc 0x283A f

/-- An acceptance of a function's sequence (R357). -/
def State.accept (s : State) (f sq hist : Nat) (newest : Bool) : State :=
  let last := if newest then sq else ((Tab.find? s.recovery f).map Recovery.last).getD sq
  (({ s with recovery := Tab.set s.recovery f ⟨last, hist, s.rc⟩ }).wr 0x283B f sq).inc 0x2834 f

/-- The signed distance of R357, modulo 65,536. -/
def seqDistance (sq last : Nat) : Int :=
  let d := (65536 + sq - last) % 65536
  if d < 32768 then (d : Int) else (d : Int) - 65536

/-- Whether recovery passes a copy that port `e` would send (R357). -/
def State.recover (s : State) (e : Nat) (f : Frame) : State × Bool :=
  match f.frer with
  | some w =>
    let fn := field w 25 16
    let r := s.recoveryRecord fn
    let fl := byteAt 8 r 1
    if w.testBit 30 = true ∧ byteAt 8 r 0 = e ∧ fl.testBit 7 = true then
      if f.tagless then (s.inc 0x2839 fn, fl.testBit 6)
      else
        let sq := field w 15 0
        match Tab.find? s.recovery fn with
        | none => (s.accept fn sq 1 true, true)
        | some h =>
          let d := seqDistance sq h.last
          let n := byteAt 8 r 2
          if (n : Int) ≤ (d.natAbs : Int) then (s.inc 0x2837 fn, false)
          else if 0 < d then
            let k := d.toNat
            let lost := ((List.range k).filter (fun i => !h.history.testBit (n - 1 - i))).length
            ((s.incBy 0x2838 fn lost).accept fn sq ((h.history * 2 ^ k + 1) % 2 ^ n) true, true)
          else if h.history.testBit d.natAbs then (s.inc 0x2835 fn, false)
          else ((s.accept fn sq (setBit h.history d.natAbs true) false).inc 0x2836 fn, true)
    else (s, true)
  | none => (s, true)

/-- RECOVERY_RESET_TIMEOUT (R357). -/
def recoveryResetTimeout (f : Nat) (s : State) : State :=
  match Tab.find? s.recovery f with
  | some h => if h.accepted + bytesAt 8 (s.recoveryRecord f) 4 5 * 400000 ≤ s.rc then s.resetRecovery f else s
  | none => s

/-- RECOVERY_RESET_TIMEOUT (R357). -/
def execRecoveryResetTimeout (el : Nat) (f : Fin 1024) (s : State) : Out := s.run el (recoveryResetTimeout f.val)

/-! ### The egress FIFO (R335) -/

/-- The room a head asks for: its length plus 20 bytes, or 9,236 bytes when the length is not yet known. -/
def headRoom (len : Nat) : Nat := if len = 0 then 9236 else len + 20

/-- Departs the finished copies at the front of the FIFO that the transmit MAC has started, up to one under way; a held twin does
not stand in the order (R332, R334). -/
def State.popFifo (e : Nat) : Nat → State → State
  | 0, s => s
  | n + 1, s =>
    match takeFirst (fun (x : FifoItem) => !x.held) (s.bond e).fifo with
    | some (x, rest) =>
      if x.status.isSome = true ∧ x.te ≤ s.rc then
        State.popFifo e n ((s.depart e x).updBond e (fun b => { b with fifo := rest, busyUntil := max b.busyUntil (x.te + s.byteTicks e x.room) }))
      else s
    | none => s

/-- Departs what can depart. -/
def State.pop (s : State) (e : Nat) : State := State.popFifo e (s.bond e).fifo.length s

/-- Appends a copy to the FIFO, held or passed. -/
def State.enFifo (s : State) (p e fe : Nat) (x : LinkCopy) (held : Bool) : State :=
  let room := headRoom x.headLen
  let item : FifoItem := ⟨x.frame, p, room, s.departRC e, fe, [], none, held⟩
  let s := s.updBond e (fun b => { b with fifo := b.fifo ++ [item] })
  s.high 0x2803 e (16384 - s.fifoFree e)

/-- How the FIFO and recovery take a copy to be sent. -/
inductive Taken where
  | rejected | eaten | passed
  deriving DecidableEq, Repr

/-- Takes back a tentative acceptance (R357): the copy ended badly and no replacement follows, or the FIFO rejected it. -/
def State.unaccept (s : State) (e : Nat) (f : Frame) : State :=
  match f.frer with
  | some w =>
    let fn := field w 25 16
    match Tab.find? s.recovery fn with
    | some h =>
      let d := seqDistance (field w 15 0) h.last
      if w.testBit 30 = true ∧ f.tagless = false ∧ byteAt 8 (s.recoveryRecord fn) 0 = e ∧ d ≤ 0 then
        { s with recovery := Tab.set s.recovery fn { h with history := setBit h.history d.natAbs false } }
      else s
    | none => s
  | none => s

/-- Sends a copy (R332): recovery must pass it, then the FIFO must have room (R335); a rejected copy's acceptance is taken back
(notes/assumptions/64.md). A replacement bypasses recovery (R357). -/
def State.sendCopy (s : State) (p e fe : Nat) (x : LinkCopy) (bypass : Bool) : State × Taken :=
  let r := if bypass then (s, true) else s.recover e x.frame
  if r.2 = false then (r.1, .eaten)
  else if r.1.fifoFree e < headRoom x.headLen then
    ((if bypass then r.1 else r.1.unaccept e x.frame).inc 0x280E (pInst p e), .rejected)
  else (r.1.enFifo p e fe x false, .passed)

/-- Changes the FIFO's copy of a key from plane `p`. -/
def State.updItem (s : State) (e p port seq : Nat) (f : FifoItem → FifoItem) : State :=
  s.updBond e (fun b => { b with fifo := b.fifo.map (fun x =>
    if x.plane = p ∧ x.frame.port = port ∧ x.frame.seq = seq then f x else x) })

/-- Frees a held twin's room. -/
def State.unhold (s : State) (e port seq : Nat) : State :=
  (s.updBond e (fun b => { b with fifo := b.fifo.filter (fun x => !(x.held && x.frame.port == port && x.frame.seq == seq)) })).pop e

/-- A held twin is sent at once (R332), behind the frames already in the FIFO (R334). -/
def State.releaseHeld (s : State) (e port seq : Nat) : State :=
  let hit (x : FifoItem) : Bool := x.held && x.frame.port == port && x.frame.seq == seq
  let te := s.departRC e
  let sent (l : List FifoItem) : List FifoItem :=
    l.filter (fun x => !hit x) ++ (l.filter hit).map (fun x => { x with held := false, te := te })
  (s.updBond e (fun b => { b with fifo := sent b.fifo })).pop e

/-! ### Entries -/

/-- An entry is complete (R332). -/
def State.completeEntry (s : State) (e : Nat) (x : BondEntry) : State :=
  let s := if x.held then s.unhold e x.port x.seq else s
  let s := s.updBond e (fun b => b.drop x.port x.seq)
  if x.seen = 3 then s.inc 0x2805 e else s

/-- The plane that has not been seen. -/
def BondEntry.missing (x : BondEntry) : Nat := if x.seen.testBit 0 then 1 else 0

/-- Adds a key to the retired list (R331). -/
def State.retire (s : State) (e : Nat) (x : BondEntry) : State :=
  let full := decide (8192 ≤ (s.bond e).retired.length)
  let s := s.updBond e (fun b => { b with retired := pushRing 8192 b.retired (x.port, x.seq, x.arrival, x.sent) })
  if full then (s.inc 0x2813 e).fault 166 e else s

/-- An entry leaves by the time bound or by eviction (R331, R332); lone copies count from Bonded on, for a plane that is on
(03 R70, R85). -/
def State.leaveEntry (s : State) (e : Nat) (x : BondEntry) : State :=
  let s := if x.held then s.unhold e x.port x.seq else s
  let s := s.updBond e (fun b => b.drop x.port x.seq)
  let other := if x.state = .replace then 1 - x.first else x.missing
  let alone := if x.state = .replace then x.twin = false else x.seen = 1 ∨ x.seen = 2
  let lone := alone ∧ x.state ≠ .bad ∧ s.stageAtLeast 2 = true ∧ s.isOn (domPlane other) = true
  let s := if lone then s.inc 0x2806 (pInst other e) else s
  let s := if alone ∧ x.state = .replace then s.inc 0x280D e else s
  let s := if x.rejected = true ∧ x.sent = false then (s.inc 0x280F e).noteDrop 165 e 400000 else s
  s.retire e x

/-- BOND_TIME_BOUND (R331): every entry of the port that is 50 µs old leaves. -/
def bondTimeBound (e : Nat) (s : State) : State :=
  ((s.bond e).window.filter (fun x => decide (x.created + 20000 ≤ s.rc))).foldl (fun s x => s.leaveEntry e x) s

/-- BOND_TIME_BOUND (R331). -/
def execBondTimeBound (el : Nat) (port : PortNo) (s : State) : Out := s.run el (bondTimeBound port.val)

/-- BOND_DROPS_SUSTAINED (R361). -/
def execBondDropsSustained (el : Nat) (port : PortNo) (s : State) : Out :=
  s.run el (fun s => s.sustained 165 port.val 400000 1000)

/-! ### BOND_COPY_HEAD (R332, R337) -/

/-- A new entry, in state W until its first copy is sent. -/
def LinkCopy.newEntry (x : LinkCopy) (now p : Nat) : BondEntry :=
  ⟨x.frame.port, x.frame.seq, x.frame.rc, now, .wait, p, 2 ^ p, false, false, 0, false, false, none, false⟩

/-- A header failure (R332). -/
def State.headerFailure (s : State) (p e : Nat) : State := (s.inc 0x2809 (pInst p e)).noteIntegrity p

/-- A first copy: sent from state W (R332, R335). -/
def State.leadCopy (s : State) (p e fe : Nat) (x : LinkCopy) (n : BondEntry) : State × Role :=
  let (s, t) := s.sendCopy p e fe x false
  match t with
  | .rejected => (s.updBond e (fun b => b.put { n with state := .wait, rejected := true }), .discarded)
  | t => ((s.updBond e (fun b => b.put { n with state := .sending, first := p, sent := true, eaten := t == .eaten })).inc 0x2804 (pInst p e), .lead)

/-- A copy whose key has an entry (R332). -/
def State.knownKey (s : State) (p e fe : Nat) (x : LinkCopy) (good : Bool) (n : BondEntry) : State × Role :=
  let again := n.seen.testBit p
  let n' := { n with seen := setBit n.seen p true }
  match n.state with
  | .wait =>
    if good then s.leadCopy p e fe x n'
    else ((s.updBond e (fun b => b.put n')).headerFailure p e, .discarded)
  | .bad => (s.completeEntry e n', .discarded)
  | .replace =>
    if again then ((s.inc 0x280A (pInst p e)).noteIntegrity p, .discarded)
    else if good then
      if n.eaten then (s.completeEntry e n', .discarded)
      else
        let (s, t) := s.sendCopy p e fe x true
        match t with
        | .rejected => (s.updBond e (fun b => b.put { n' with state := .wait, rejected := true }), .discarded)
        | _ => ((s.inc 0x280C e).completeEntry e n', .replacement)
    else (((s.headerFailure p e).inc 0x280D e).completeEntry e n', .discarded)
  | st =>
    if again then ((s.inc 0x280A (pInst p e)).noteIntegrity p, .discarded)
    else if !good then ((s.headerFailure p e).completeEntry e n', .discarded)
    else if st = .good then (s.updBond e (fun b => b.put { n' with twin := true }), .twin)
    else if headRoom x.headLen ≤ s.fifoFree e then
      ((s.enFifo p e fe x true).updBond e (fun b => b.put { n' with twin := true, held := true }), .twin)
    else ((s.updBond e (fun b => b.put { n' with twin := true })).inc 0x2810 e, .twin)

/-- A copy whose key is retired (R332). -/
def State.retiredKey (s : State) (p e fe : Nat) (x : LinkCopy) (good sent : Bool) : State × Role :=
  let s := s.inc 0x2807 (pInst p e)
  if sent then (s, .discarded)
  else if !good then (s.headerFailure p e, .discarded)
  else
    let (s, t) := s.sendCopy p e fe x false
    if t = .rejected then (s, .discarded)
    else (s.updBond e (fun b => { b with retired := b.retired.map (fun r =>
      if r.1 = x.frame.port ∧ r.2.1 = x.frame.seq then (r.1, r.2.1, r.2.2.1, true) else r) }), .lead)

/-- A copy that no entry and no retired key knows (R331, R332, R337). -/
def State.newKey (s : State) (p e fe : Nat) (x : LinkCopy) (good : Bool) : State × Role :=
  if s.bonded 0 = true ∧ s.bonded 1 = true ∧ Tab.get 0 s.joins (1 - p) ≤ x.frame.rc then
    let s := if 2048 ≤ (s.bond e).window.length then
        match (s.bond e).window with
        | o :: _ => (s.leaveEntry e o).inc 0x2812 e
        | [] => s
      else s
    let n := x.newEntry s.rc p
    let s := s.updBond e (fun b => { b with window := b.window ++ [n] })
    if good then s.leadCopy p e fe x n else (s.headerFailure p e, .discarded)
  else if good then
    let (s, t) := s.sendCopy p e fe x false
    if t = .rejected then (s, .discarded) else (s.inc 0x2814 e, .lead)
  else (s.headerFailure p e, .discarded)

/-- Whether a port sends a frame: its link is up or steps (04 R128), its port group drains (03 R85), or the frame was in transmission as the port left service
(04 R93). -/
def State.sends (s : State) (e : Nat) (f : Frame) : Bool :=
  s.link e == 3 || s.link e == 4 || (s.dom (domGroup (groupOf e)) == 3 && (s.port e).training) || (s.port e).finishing == some (f.port, f.seq)

/-- Whether the bond units take copies from a plane: bonded or sole; before Bonded the first plane's alone (03 R70, R337). -/
def State.takesFrom (s : State) (p : Nat) : Bool :=
  s.isOn (domPlane p) && (s.rd 0x281F p == 3 || (s.rd 0x281F p == 2 && s.stageAtLeast 2))

/-- What the bond unit of port `e` makes of a copy's head (R332, R337, R338). -/
def State.takeHead (s : State) (p e fe : Nat) (x : LinkCopy) (good : Bool) : State × Role :=
  let st := s.rd 0x281F p
  if s.isOn (domPlane p) = true ∧ (st = 1 ∨ st = 2) ∧ x.frame.rc < Tab.get 0 s.joins p then (s.inc 0x2811 (pInst p e), .discarded)
  else if s.takesFrom p = false ∨ s.sends e x.frame = false then (s, .discarded)
  else
    let s := (if s.bonded p then s.noteCopy p e else s).purgeRetired e
    match (s.bond e).entry x.frame.port x.frame.seq with
    | some n => s.knownKey p e fe x good n
    | none =>
      match (s.bond e).retired.find? (fun r => r.1 == x.frame.port && r.2.1 == x.frame.seq) with
      | some r => s.retiredKey p e fe x good r.2.2.2
      | none => s.newKey p e fe x good

/-- Gives the oldest waiting copy of a link its role. -/
def giveRole (r : Role) : List LinkCopy → List LinkCopy
  | [] => []
  | x :: t => if x.role = .waiting then { x with role := r } :: t else x :: giveRole r t

/-- The oldest copy of a link whose head has not arrived. -/
def nextHead (l : List LinkCopy) : Option LinkCopy := l.find? (fun x => x.role == .waiting)

/-- A copy's head reaches the bond unit (R332): the oldest copy under way from the plane. It passes the header check when its
header status is 1 and the link check of its head is good (R328). -/
def State.copyHead (s : State) (e p : Nat) (linkGood : Bool) (fe : Nat) : State :=
  match nextHead (Tab.get [] (s.pl p).links e) with
  | some x =>
    let (s, r) := s.takeHead p e fe x (x.headerOk && linkGood)
    s.updPl p (fun q => { q with links := Tab.upd [] q.links e (giveRole r) })
  | none => s

/-- BOND_COPY_HEAD (R332): `other` where the other plane's head arrives in the same port-group clock, with its link check; plane
A's copy is then taken first (R333). -/
def bondCopyHead (e p : Nat) (linkGood : Bool) (other : Option Bool) (fe : Nat) (s : State) : State :=
  match other with
  | none => s.copyHead e p linkGood fe
  | some g => (s.copyHead e 0 (if p = 0 then linkGood else g) fe).copyHead e 1 (if p = 0 then g else linkGood) fe

/-- BOND_COPY_HEAD (R332). -/
def execBondCopyHead (el : Nat) (port : PortNo) (plane : PlaneNo) (check : HeadCheck) (frac : BitVec 8) (s : State) : Out :=
  s.run el (bondCopyHead port.val plane.val check.good check.other frac.toNat)

/-! ### BOND_COPY_END (R332) -/

/-- Counts a body that ended badly against its plane (R332, R360). -/
def State.countBody (s : State) (p e status : Nat) : State :=
  if status = 3 then (s.inc 0x280A (pInst p e)).noteIntegrity p
  else if status = 2 then s.inc 0x280B (pInst p e)
  else s

/-- Records a divergence (R332, R362). -/
def State.diverge (s : State) (e : Nat) (n : BondEntry) : State :=
  ((s.inc 0x2808 e).noteDivergence).wr 0x2815 e ((((n.port * 2 ^ 32 + n.seq) * 2 ^ 72 + n.arrival) * 256 + n.first) * 256)

/-- Compares the digests of a pair that both ended good, and completes the entry. -/
def State.compare (s : State) (e : Nat) (n : BondEntry) (d d' : Nat) : State :=
  (if d = d' then s else s.diverge e n).completeEntry e n

/-- The twin of an entry that wants a replacement has ended (R332). -/
def State.secondChance (s : State) (e : Nat) (n : BondEntry) (status : Nat) : State :=
  if n.eaten then s.completeEntry e n
  else if n.held = true ∧ status = 0 then ((s.releaseHeld e n.port n.seq).inc 0x280C e).completeEntry e { n with held := false }
  else (s.inc 0x280D e).completeEntry e n

/-- The entry after its first copy has ended (R332). -/
def State.firstEnded (s : State) (e : Nat) (x : LinkCopy) (n : BondEntry) (status : Nat) : State :=
  match status with
  | 0 =>
    let s := if n.held then s.unhold e n.port n.seq else s
    let n := { n with state := .good, digest := x.digest, held := false }
    match n.twinEnd with
    | some (st, d) => if st = 0 then s.compare e n x.digest d else s.completeEntry e n
    | none => s.updBond e (fun b => b.put n)
  | 1 =>
    let s := s.unaccept e x.frame
    if n.twin then s.completeEntry e n else s.updBond e (fun b => b.put { n with state := .bad })
  | _ =>
    let n := { n with state := .replace }
    if n.twin then
      match n.held, n.twinEnd with
      | true, none => s.updBond e (fun b => b.put n)
      | true, some (st, _) => s.secondChance e n st
      | false, _ => (s.unaccept e x.frame).secondChance e n 3
    else s.updBond e (fun b => b.put n)

/-- The entry after its twin has ended (R332). -/
def State.twinEnded (s : State) (e : Nat) (x : LinkCopy) (n : BondEntry) (status : Nat) : State :=
  match n.state with
  | .good => if status = 0 then s.compare e n n.digest x.digest else s.completeEntry e n
  | .replace => s.secondChance e n status
  | .sending =>
    let s := if n.held = true ∧ status ≠ 0 then s.unhold e n.port n.seq else s
    s.updBond e (fun b => b.put { n with held := n.held && status == 0, twinEnd := some (status, x.digest) })
  | _ => s

/-- Completes the FIFO's copy at its end word: its bytes, its status, and the room it did not need. -/
def State.fillItem (s : State) (p e : Nat) (x : LinkCopy) (status : Nat) : State :=
  (s.updItem e p x.frame.port x.frame.seq (fun y =>
    { y with bytes := x.bytes, status := some status, room := min y.room (x.bytes.length + 20) })).retime e

/-- A copy's end word reaches the bond unit (R332): the oldest copy under way whose head has arrived. -/
def State.takeEnd (s : State) (p e : Nat) (x : LinkCopy) (status : Nat) : State :=
  match x.role with
  | .lead =>
    let s := (s.fillItem p e x status).countBody p e status
    let s := match (s.bond e).entry x.frame.port x.frame.seq with
      | some n =>
        if n.state = BondState.sending ∧ n.first = p then s.firstEnded e x n status
        else if status = 0 then s else s.unaccept e x.frame
      | none => if status = 0 then s else s.unaccept e x.frame
    s.pop e
  | .replacement => ((s.fillItem p e x status).countBody p e status).pop e
  | .twin =>
    let s := (s.fillItem p e x status).countBody p e status
    match (s.bond e).entry x.frame.port x.frame.seq with
    | some n => (s.twinEnded e x n status).pop e
    | none => s.pop e
  | _ => s

/-- The oldest copy of a link whose head has arrived and whose end word is there, with the others. -/
def takeDone : List LinkCopy → Option (LinkCopy × List LinkCopy)
  | [] => none
  | x :: t =>
    if x.role = .waiting then none
    else if x.status.isSome then some (x, t)
    else (takeDone t).map (fun r => (r.1, x :: r.2))

/-- A copy's end reaches the bond unit (R332); a copy whose link check fails ends with status 3 (R327). -/
def bondCopyEnd (e p : Nat) (intact : Bool) (s : State) : State :=
  match takeDone (Tab.get [] (s.pl p).links e) with
  | some (x, rest) =>
    let s := s.updPl p (fun q => { q with links := if rest.isEmpty then Tab.del q.links e else Tab.set q.links e rest })
    s.takeEnd p e x (if intact then x.status.getD 0 else 3)
  | none => s

/-- BOND_COPY_END (R332). -/
def execBondCopyEnd (el : Nat) (port : PortNo) (plane : PlaneNo) (intact : Bool) (s : State) : Out :=
  s.run el (bondCopyEnd port.val plane.val intact)

/-! ### CREDIT_REPORT (R336), with the hold times (10 R322, 09 R293) -/

/-- The bond unit of a port sends what it can; both planes take the free space it measures (R336). -/
def State.reportPort (s : State) (e : Nat) : State :=
  let s := s.pop e
  let free := s.fifoFree e
  [0, 1].foldl (fun s p => s.updPl p (fun q => { q with sched := { q.sched with
    credit := if free = 16384 then Tab.del q.sched.credit e else Tab.set q.sched.credit e (free, 0) } })) s

/-- CREDIT_REPORT (R336): on a tick that is a multiple of 16. -/
def creditReport (s : State) : State :=
  if s.rc % 16 = 0 then
    let ports := Tab.keys s.bonds ++ Tab.keys s.pa.sched.credit ++ Tab.keys s.pb.sched.credit
    let s := ports.foldl State.reportPort s
    [0, 1].foldl (fun s p =>
      let s := (s.pl p).busyPorts.foldl (fun s e => s.holdPort p e) s
      (Tab.keys (s.pl p).sending).foldl (fun s e => s.credited p e) s) s
  else s

/-- CREDIT_REPORT (R336). -/
def execCreditReport (el : Nat) (s : State) : Out := s.run el creditReport

end Sys2Proof.Machine
end

