-- ==== Sys2Proof/Machine/Mail.lean ====
section
/-! DEFINITION. Messages of the mailbox, answers and what waits for them (14 R438 to R457), and the flash of the controllers
(16 R498; 03 R77). -/

namespace Sys2Proof.Machine

/-! ### Status codes (R444) -/

def stOk : Nat := 0x00
def stPending : Nat := 0x01
def stAccepted : Nat := 0x02
def stBadPid : Nat := 0x10
def stBadInstance : Nat := 0x11
def stReadOnly : Nat := 0x12
def stRange : Nat := 0x13
def stGated : Nat := 0x14
def stBusy : Nat := 0x15
def stVersionLimit : Nat := 0x16
def stTableFull : Nat := 0x20
def stNotFound : Nat := 0x21
def stNotActive : Nat := 0x30
def stInterlock : Nat := 0x31
def stFailover : Nat := 0x32
def stAuth : Nat := 0x40
def stStage : Nat := 0x41
def stInternal : Nat := 0x7F

/-! ### Sessions and messages -/

/-- A session, by 4 × controller + number. -/
def State.session (s : State) (k : Nat) : Session := Tab.get Session.init s.sessions k
/-- Changes a session. -/
def State.updSession (s : State) (k : Nat) (f : Session → Session) : State :=
  { s with sessions := Tab.upd Session.init s.sessions k f }

/-- The fragments of a payload (R443). -/
def fragments (payload : List Byte) : Nat := max 1 ((payload.length + 4095) / 4096)

/-- Bytes in pieces of at most `size`; `n` bounds their number. -/
def pieces (size : Nat) : Nat → List Byte → List (List Byte)
  | 0, l => [l]
  | n + 1, l => if l.length ≤ size then [l] else l.take size :: pieces size n (l.drop size)

/-- The fragments of a message: bit 5 of the flags is set in the last one only (R443). -/
def Msg.split (m : Msg) : List Msg :=
  let l := pieces 4096 m.payload.length m.payload
  l.dropLast.map (fun b => { m with flags := m.flags &&& 0xDF, payload := b }) ++ [{ m with payload := l.getLast?.getD [] }]

/-- Sends a message on a session in its fragments, and counts them (R443, R461). -/
def State.sendMsg (s : State) (k : Nat) (flags tag op status pid inst : Nat) (payload : List Byte) : State :=
  let s := { s with out := s.out ++ Msg.split ⟨k / 4, flags, k % 4, tag, op, status, pid, inst, payload⟩ }
  if s.holder = some (k / 4) then s.incBy 0x0414 (2 * (k % 4) + 1) (fragments payload) else s

/-- A request of a session. -/
def Session.request (x : Session) (tag : Nat) : Option Request := x.requests.find? (fun r => r.tag == tag)

/-- Changes a request of a session. -/
def State.updRequest (s : State) (k tag : Nat) (f : Request → Request) : State :=
  s.updSession k (fun x => { x with requests := x.requests.map (fun r => if r.tag = tag then f r else r) })

/-- Sends the final answer of a request: a response, or its completion event when it was accepted (R446, R452). The tag is
free from then on; what is still to come of the request is discarded (R442). -/
def State.reply (s : State) (k : Nat) (r : Request) (status : Nat) (payload : List Byte) : State :=
  let s := s.updSession k (fun x => { x with
    requests := x.requests.filter (fun y => y.tag != r.tag)
    skip := if x.requests.any (fun y => y.tag == r.tag && !y.last) then r.tag :: x.skip else x.skip })
  s.sendMsg k (if r.accepted then 0xE0 else 0xA0) r.tag r.op status r.pid r.inst payload

/-- Sends ACCEPTED (R454). -/
def State.accept2 (s : State) (k : Nat) (r : Request) : State :=
  (s.updRequest k r.tag (fun y => { y with accepted := true })).sendMsg k 0xA0 r.tag r.op stAccepted r.pid r.inst []

/-- Bytes in fragments of up to 85 records of 48 bytes (06 R212). -/
def recordFragments (l : List Byte) : List (List Byte) := pieces 4080 l.length l

/-- The answer of a bulk read: event fragments, of which the last one completes the request (06 R212). -/
def State.replyRecords (s : State) (k : Nat) (r : Request) (status : Nat) (l : List (List Byte)) : State :=
  let s := (l.dropLast).foldl (fun s b => s.sendMsg k 0xC0 r.tag r.op status r.pid r.inst b) s
  s.reply k r status (l.getLast?.getD [])

/-- Gives the final answer due to a requester: discarded when its session has closed since (R455). -/
def State.settleOne (s : State) (o : Owed) : State :=
  let x := s.session o.who.key
  if x.isOpen = true ∧ x.gen = o.who.gen then
    match x.request o.who.tag with
    | some r => if r.op = 0x16 then s.replyRecords o.who.key r o.status (recordFragments o.payload) else s.reply o.who.key r o.status o.payload
    | none => s
  else s

/-- Notes a final answer that is due. -/
def State.owe (s : State) (w : Option Who) (status : Nat) (payload : List Byte) : State :=
  match w with
  | some w => { s with owed := s.owed ++ [⟨w, status, payload⟩] }
  | none => s

/-! ### Controllers (11 R344) -/

/-- A controller. -/
def State.ctl (s : State) (c : Nat) : Ctl := Tab.get Ctl.init s.ctls c
/-- Changes a controller. -/
def State.updCtl (s : State) (c : Nat) (f : Ctl → Ctl) : State := { s with ctls := Tab.upd Ctl.init s.ctls c f }
/-- The state of a controller (PID 0301h). -/
def State.ctlState (s : State) (c : Nat) : Nat := s.rd 0x0301 c
/-- The standby is ready (PID 0301h value 4). -/
def State.standbyReady (s : State) : Bool := s.ctlState 0 == 4 || s.ctlState 1 == 4
/-- A controller runs Pyrmon as active or standby. -/
def State.runs (s : State) (c : Nat) : Bool := decide (3 ≤ s.ctlState c ∧ s.ctlState c ≤ 5)

/-! ### Flash -/

/-- The flash of a controller. -/
def State.flashOf (s : State) (c : Nat) : Flash := Tab.get Flash.init s.flash c
/-- A controller's flash takes the changes: it is active, or a standby that is not synchronising (11 R350, 17 R520). -/
def State.mirrored (s : State) (c : Nat) : Bool := s.ctlState c == 4 || s.ctlState c == 5
/-- Changes the flash of the controllers that a test names. -/
def State.updFlashOf (s : State) (on : Nat → Bool) (f : Flash → Flash) : State :=
  [0, 1].foldl (fun s c => if on c then { s with flash := Tab.upd Flash.init s.flash c f } else s) s
/-- Changes the flash of every controller that takes the changes. -/
def State.updFlash (s : State) (f : Flash → Flash) : State := s.updFlashOf s.mirrored f

/-- A PID in the anchor record (14 R436). -/
def anchored (pid : Nat) : Bool := pid == 0x0408 || pid == 0x0409

/-- A sparse table of values with one written: absent when it is the default. -/
def regSetTo (t : Tab Nat) (pid inst v : Nat) : Tab Nat := regSet t pid inst v

/-- Writes a stored value to flash (16 R498, R500): the active controller's fallback record takes it, its generation rises, and it is
written whole to both controllers. Sill hold goes to every controller that runs Pyrmon, ready or not (03 R68). -/
def State.store (s : State) (pid inst v : Nat) : State :=
  if anchored pid then s.updFlash (fun f => { f with anchors := regSetTo f.anchors pid inst v })
  else
    let t := regSetTo s.power.record pid inst v
    let g := (s.power.recordGen + 1) % 2 ^ 32
    let s := { s with power := { s.power with record := t, recordGen := g } }
    s.updFlashOf (fun c => s.mirrored c || (pid == 0x0108 && s.runs c)) (fun f => { f with stored := t, gen := g, good := true })

/-! ### The fault record in flash (17 R520) -/

/-- Writes the record to the flash of both controllers that run, with the generation of R520. -/
def State.writeRecord (s : State) : State :=
  let g := s.rd 0x3E0A 0 + 1
  let s := ((s.wr 0x3E0A 0 g).inc 0x3E07 0).stamp 0x3E08 0
  let s := s.updFlash (fun f => { f with faults := s.faults, faultGen := g, faultGood := true })
  { s with recordAt := s.clk }

end Sys2Proof.Machine
end

