-- ==== Sys2Proof/Machine/Versions.lean ====
section
/-! DEFINITION. Versions and commits (05 R155 to R166): checks, placement, conversion, arming, activation, draining. -/

namespace Sys2Proof.Machine

/-! ### Images -/

/-- A version's image after a bundle: the factory graph where the bundle carries PID 1004h (R139). -/
def applyBundle (image bundle : Tab Nat) : Tab Nat :=
  let m := bundle.foldl (fun t e => if e.1 / 2 ^ 32 = 0x1004 then t else regSetTo t (e.1 / 2 ^ 32) (e.1 % 2 ^ 32) e.2) image
  if (Tab.find? bundle (regKey 0x1004 0)).isSome then m.filter (fun e => e.1 / 2 ^ 32 != 0x1000 && e.1 / 2 ^ 32 != 0x1001) else m

/-- Lookup of an assigned tile. -/
def tileLookup (a : Nat) : Nat := 2 * field a 10 8 + field a 4 4

/-- Whether a tile's assignment keeps R150. -/
def tileOk (image : Tab Nat) (t : Nat) : Bool :=
  let a := imageCfg image 0x1018 t
  let same (u : Nat) : Bool :=
    let b := imageCfg image 0x1018 u
    b.testBit 15 && tileLookup b == tileLookup a
  let member (u : Nat) : Bool := same u && imageCfg image 0x1018 u % 4 == 3
  if !a.testBit 15 then true
  else
    match a % 4 with
    | 0 => true
    | 1 => t % 2 == 0 && member (t + 1)
    | 2 => t % 4 == 0 && member (t + 1) && member (t + 2) && member (t + 3)
    | _ =>
      (t % 4 != 0 && same (t / 4 * 4) && imageCfg image 0x1018 (t / 4 * 4) % 4 == 2) ||
        (t % 2 == 1 && same (t - 1) && imageCfg image 0x1018 (t - 1) % 4 == 1)

/-- Width of a tile's gang in 160-bit entries. -/
def tileWidth (image : Tab Nat) (t : Nat) : Nat :=
  match imageCfg image 0x1018 (tileLead image t) % 4 with
  | 1 => 2
  | 2 => 4
  | _ => 1

/-- The assigned tiles of an image. -/
def assignedTiles (image : Tab Nat) : List Nat := (List.range 192).filter (fun t => (imageCfg image 0x1018 t).testBit 15)

/-- Every tile of one lookup has the same width, and keeps R150. -/
def tilesOk (image : Tab Nat) : Bool :=
  let l := assignedTiles image
  l.all (fun t => tileOk image t && l.all (fun u =>
    tileLookup (imageCfg image 0x1018 u) != tileLookup (imageCfg image 0x1018 t) || tileWidth image u == tileWidth image t))

/-- The rules live in an image. -/
def liveRules (image : Tab Nat) : List Nat :=
  (image.filter (fun e => e.1 / 2 ^ 32 == 0x1020 && decide (e.2 < 16))).map (fun e => e.1 % 2 ^ 32)

/-- Whether a live rule keeps R151 and R153. -/
def ruleOk (image : Tab Nat) (r : Nat) : Bool :=
  let st := imageCfg image 0x1020 r / 2
  let ten := imageCfg image 0x1022 r
  let act := imageCfg image 0x1025 r
  (if 2 ≤ st then ten != 0xFF else ten == 0xFF) && codeWritable (field act 57 53) st && codeWritable (field act 28 24) st &&
    (decide (2 ≤ st) || !act.testBit 58)

/-- The leads and single tiles of a lookup, rising. -/
def lookupTiles (image : Tab Nat) (sl : Nat) : List Nat :=
  (assignedTiles image).filter (fun t => tileLookup (imageCfg image 0x1018 t) == sl && imageCfg image 0x1018 t % 4 != 3)

/-- The parameters of a rule. -/
def ruleImage (image : Tab Nat) (r : Nat) : List Nat := (List.range 6).map (fun k => imageCfg image (0x1020 + k) r)

/-! ### Placement (R157) -/

/-- The physical entry of a rule in a slot. -/
def State.entryOf (s : State) (r slot : Nat) : Option Nat :=
  (Tab.search (fun e => e.2.1 == r && e.2.2.testBit slot) s.ruleAt).map Prod.fst

/-- The free entries of a lookup. -/
def State.freeEntries (s : State) (image : Tab Nat) (sl : Nat) : List Nat :=
  (lookupTiles image sl).flatMap (fun t => ((List.range 256).map (fun n => 256 * t + n)).filter (fun x => (Tab.find? s.ruleAt x).isNone))

/-- The rules of an image that need a new entry, given the slot of the latest committed version. -/
def State.newRules (s : State) (image : Tab Nat) : List Nat :=
  (liveRules image).filter (fun r => ruleImage image r != ruleImage s.latest r || (s.entryOf r s.latestSlot).isNone)

/-- Every lookup holds its new rules. -/
def State.fits (s : State) (image : Tab Nat) : Bool :=
  (List.range 16).all (fun sl =>
    let need := ((s.newRules image).filter (fun r => imageCfg image 0x1020 r == sl)).length
    need == 0 || decide (need ≤ (s.freeEntries image sl).length))

/-- Whether a bundle reassigns a tile that holds an entry live in some slot. -/
def State.reassigns (s : State) (image : Tab Nat) : Bool :=
  (List.range 192).any (fun t => imageCfg image 0x1018 t != imageCfg s.latest 0x1018 t &&
    s.ruleAt.any (fun e => e.1 / 256 == tileLead s.latest t))

/-- Places one rule at a free entry: which one is the module's choice (R152). -/
def State.place (s : State) (image : Tab Nat) (slot r : Nat) : State :=
  let free := s.freeEntries image (imageCfg image 0x1020 r)
  let (s, d) := s.draw
  match free[Config.slotChoice d % free.length]? with
  | some x =>
    let s := [0, 1].foldl (fun s p => s.updPl p (fun q => { q with badRules := Tab.del q.badRules x })) s
    { s with ruleAt := Tab.set s.ruleAt x (r, 2 ^ slot) }
  | none => s

/-- Gives every unchanged live entry the slot's bit, and places changed and new rules. -/
def State.placeAll (s : State) (image : Tab Nat) (slot : Nat) : State :=
  let fresh := s.newRules image
  let keep := (liveRules image).filter (fun r => !fresh.contains r)
  let s := { s with ruleAt := s.ruleAt.map (fun e =>
    if keep.contains e.2.1 && e.2.2.testBit s.latestSlot then (e.1, e.2.1, setBit e.2.2 slot true) else e) }
  fresh.foldl (fun s r => s.place image slot r) s

/-- Clears a slot's bit in every mask; entries whose mask becomes zero are free (R160). -/
def State.unplace (s : State) (slot : Nat) : State :=
  { s with ruleAt := (s.ruleAt.map (fun e => (e.1, e.2.1, setBit e.2.2 slot false))).filter (fun e => e.2.2 != 0) }

/-! ### Conversion (R158) -/

/-- The triple that will be in force at an instant. -/
def State.tripleAt (s : State) (u : Int) : Triple :=
  let step (t : Triple) (n : Option (Triple × Nat)) : Triple :=
    match n with
    | some (t', rc) => if rc ≤ t.rcOf u then t' else t
    | none => t
  step (step s.time.triple s.time.next) s.time.queued

/-- The lead in ticks (PID 102Fh). -/
def State.lead (s : State) : Nat := s.rd 0x102F 0 * 400

/-- The activation RC of an instant, and whether it moved later (R157, R158). -/
def State.convert (s : State) (d : Option Int) : Nat × Bool :=
  let soon := s.rc + s.lead
  match d with
  | some u => let a := (s.tripleAt u).rcOf u; if a < soon then (soon, true) else (a, false)
  | none => (soon, true)

/-! ### COMMIT (R157) -/

/-- A slot that is free, lowest first. -/
def State.freeSlot (s : State) : Option Nat := (List.range 4).find? (fun v => (s.slot v).state == .free)

/-- The latest activation DT among the armed slots. -/
def State.lastArmed (s : State) : Option Int :=
  ((List.range 4).filter (fun v => (s.slot v).state == .armed)).foldl (fun m v =>
    let d := s.time.triple.dtOf (s.slot v).actRC
    match m with
    | some x => some (max x d)
    | none => some d) none

/-- The status of the first check that fails (R157); restored bundles keep their order by themselves (03 R78). -/
def State.commitStatus (s : State) (bundle : Tab Nat) (instant : Option Int) (restored : Bool) : Nat :=
  let image := applyBundle s.latest bundle
  let late : Bool := match instant, s.lastArmed with
    | some d, some l => !restored && decide (d ≤ l)
    | _, _ => false
  if s.freeSlot.isNone then stVersionLimit
  else if late then stRange
  else if !(tilesOk image && (liveRules image).all (ruleOk image)) then stRange
  else if !s.fits image then stTableFull
  else if s.reassigns image then stBusy
  else stOk

/-- Records a COMMIT's outcome (PIDs 1034h, 1035h, 103Fh). -/
def State.commitDone (s : State) (status : Nat) : State :=
  (if status = stOk then s.wr 0x1034 0 (s.rd 0x1034 0 + 1) else s.wr 0x1035 0 (s.rd 0x1035 0 + 1)).wr 0x103F 0 status

/-- Writes slot `n` in both planes, in state loading; phase 1 goes to the standby. -/
def State.load (s : State) (c : Commit) : State :=
  let image := applyBundle s.latest c.bundle
  let s := s.placeAll image c.slot
  let s := s.updSlot c.slot (fun x => { x with state := .loading, image := image, bundle := c.bundle, token := c.token })
  { s.wr 0x103E 0 2 with committing := some c }

/-- A commit begins: loaded, or the status of the check it fails. -/
def State.beginCommit (s : State) (origin : Origin) (token : Nat) (bundle : Tab Nat) (instant : Option Int) : State × Nat :=
  let st := s.commitStatus bundle instant (origin == .restored)
  match st, s.freeSlot with
  | 0, some n => (s.load ⟨origin, n, token, bundle, instant⟩, stOk)
  | st, _ => (s.commitDone st, st)

/-- The answer of R156. -/
def commitAnswer (token slot : Nat) (moved : Bool) (a : Nat) (dt : Int) : List Byte :=
  toBytes 4 token ++ toBytes 1 slot ++ toBytes 1 (if moved then 1 else 0) ++ toBytes 2 0 ++ toBytes 9 a ++ toBytes 1 0 ++ toBytes 14 (encDT dt)

/-- A late activation (R163, R165). -/
def State.lateActivation (s : State) : State := (s.inc 0x1036 0).fault 84 moduleInst

/-- A commit that is armed a second time: after a start (03 R78), or by a new active controller (R163). -/
def Origin.again : Origin → Bool
  | .restored => true
  | .taken _ => true
  | _ => false

/-- The bundle in the flash of both controllers with the instant at which it is armed (03 R78): one that flash holds already stays in
its place, and waits no longer; the restored state of a start is no bundle of its own. -/
def State.keepBundle (s : State) (c : Commit) (dt : Int) : State :=
  match c.origin, c.instant with
  | .restored, none => s
  | .restored, some u =>
    let same (k : Kept) : Bool := k.token == c.token && k.instant == u && k.bundle == c.bundle
    let s := s.updFlash (fun f => { f with kept := f.kept.map (fun k => if same k then { k with instant := dt } else k) })
    { s with power := { s.power with rearm := s.power.rearm.filter (fun k => !same k) } }
  | _, _ => s.updFlash (fun f => { f with kept := f.kept ++ [⟨c.token, dt, c.bundle⟩] })

/-- A SET of PIDs 101Dh to 101Fh is stored once its commit is armed (R164). -/
def State.setSingle (s : State) (k v : Nat) : State := (s.wr (k / 2 ^ 32) (k % 2 ^ 32) v).store (k / 2 ^ 32) (k % 2 ^ 32) v

/-- Converts and arms the slot of a commit, and answers (R157, R163): phase 2. -/
def State.armCommit (s : State) (c : Commit) : State :=
  let (a, moved) := s.convert c.instant
  let dt := s.time.triple.dtOf a
  let x := s.slot c.slot
  let act (p old : Nat) : Nat := if s.isOn (domPlane p) then a else old
  let late := moved && c.instant.isSome && c.origin.again
  let s := s.updSlot c.slot (fun x => { x with state := .armed, actRC := a, actA := act 0 x.actA, actB := act 1 x.actB, instant := dt })
  let s := { s with latest := x.image, latestSlot := c.slot, committing := none }
  let s := (s.wr 0x103E 0 0).wr 0x1031 0 c.token
  let s := s.keepBundle c dt
  let s := if late then s.lateActivation else s
  let s := s.commitDone stOk
  match c.origin with
  | .host w => (s.updSession w.key (fun y => { y with bundle := none })).owe (some w) stOk (commitAnswer c.token c.slot moved a dt)
  | .single k v w => (s.setSingle k v).owe (some w) stOk []
  | .taken (some (k, v)) => s.setSingle k v
  | .taken none => s
  | .restored => s

/-- A commit goes on without an acknowledgement where no standby is ready and changes by a single controller are allowed (11 R350),
or where it only restores what flash holds (03 R78). -/
def State.advanceCommit (s : State) : State :=
  match s.committing with
  | some c => if s.standbyReady = false ∧ (s.flag 0x0313 0 = true ∨ c.origin = .restored) then s.armCommit c else s
  | none => s

/-- The standby acknowledges phase 1: the commit is armed (R157). -/
def State.ackCommit (s : State) : State :=
  match s.committing with
  | some c => if s.standbyReady then s.armCommit c else s
  | none => s

/-- A commit that ends before its acknowledgement (R160, R163): the slot is free again. -/
def State.dropCommit (s : State) (status : Nat) : State :=
  match s.committing with
  | some c =>
    let s := (s.unplace c.slot).updSlot c.slot Slot.freed
    let s := ({ s with committing := none }.wr 0x103E 0 0).commitDone status
    match c.origin with
    | .host w => s.owe (some w) status []
    | .single _ _ w => s.owe (some w) status []
    | .restored => s
    | .taken _ => s
  | none => s

/-- A commit at a switchover (R163): answered FAILOVER; converted and armed where the standby had acknowledged phase 1, else its slot is
free again. -/
def State.takeCommit (s : State) (acked : Bool) : State :=
  match s.committing with
  | some c =>
    if acked then
      match c.origin with
      | .host w => (s.armCommit { c with origin := .taken none }).owe (some w) stFailover []
      | .single k v w => (s.armCommit { c with origin := .taken (some (k, v)) }).owe (some w) stFailover []
      | _ => s.armCommit c
    else s.dropCommit stFailover
  | none => s

/-! ### Activation and draining (R160 to R162) -/

/-- Frees a slot (R160). -/
def State.freeSlotOf (s : State) (v : Nat) : State :=
  let s := (s.unplace v).updSlot v Slot.freed
  [0, 1].foldl (fun s p => s.wr 0x102D (4 * p + v) 0) s

/-- Slot `v` becomes active: its predecessor drains, and flash holds it as the last activated state (R78, R160). -/
def State.activateSlot (s : State) (v : Nat) : State :=
  let x := s.slot v
  let s := (List.range 4).foldl (fun s u => if (s.slot u).state = .active then
    s.updSlot u (fun y => { y with state := .draining, succRC := x.actRC }) else s) s
  let s := s.updSlot v (fun y => { y with state := .active })
  s.updFlash (fun f => { f with active := x.image, kept := f.kept.filter (fun k => k.token != x.token || k.instant != x.instant) })

/-- SLOT_ACTIVATE (R160). -/
def slotActivate (v : Nat) (s : State) : State :=
  if (s.slot v).state = .armed ∧ (s.slot v).actRC ≤ s.rc then s.activateSlot v else s

/-- SLOT_ACTIVATE (R160). -/
def execSlotActivate (el : Nat) (slot : Fin 4) (s : State) : Out := s.run el (slotActivate slot.val)

/-- Whether a frame that makes another pass belongs to the present use of a slot. -/
def State.underSlot (s : State) (v : Nat) (f : Frame) : Bool := field f.bed 243 242 == v && f.verGen == (s.slot v).gen

/-- PID 102Ch: the frames in flight in a plane under a slot (R135). A pass ends in the step in which it begins, so they are those that
wait for their second one, in their queue or at their pipeline. -/
def State.framesUnder (s : State) (p v : Nat) : Nat :=
  countOf (s.pl p).desc (fun e => e.2.holders.testBit 146 && s.underSlot v e.2.frame) + countOf (s.pl p).recirc (s.underSlot v)

/-- No frame is in flight under a slot, in a plane that is on. -/
def State.idleSlot (s : State) (v : Nat) : Bool :=
  [0, 1].all (fun p => !s.isOn (domPlane p) || s.framesUnder p v == 0)

/-- SLOT_FREE (R160): the settle time has passed and nothing is in flight. -/
def slotFree (v : Nat) (s : State) : State :=
  if (s.slot v).state = .draining ∧ (s.slot v).succRC + 8000 ≤ s.rc ∧ s.idleSlot v = true then (s.freeSlotOf v).inc 0x1038 0 else s

/-- SLOT_FREE (R160). -/
def execSlotFree (el : Nat) (slot : Fin 4) (s : State) : Out := s.run el (slotFree slot.val)

/-- VERSION_STALL (R162): freed by force; the planes with frames in flight are recorded. A slot with nothing in flight was due under
R160 long before, and is freed with no fault. -/
def versionStall (v : Nat) (s : State) : State :=
  if (s.slot v).state = .draining ∧ (s.slot v).succRC + s.rd 0x1030 0 * 400000 ≤ s.rc then
    let ps := [0, 1].filter (fun p => s.framesUnder p v != 0)
    (ps.foldl (fun s p => s.fault 81 p) (s.freeSlotOf v)).inc 0x1038 0
  else s

/-- VERSION_STALL (R162). -/
def execVersionStall (el : Nat) (slot : Fin 4) (s : State) : Out := s.run el (versionStall slot.val)

/-- The latest committed version that remains: the armed slot of latest activation, else the active one. -/
def State.latestLeft (s : State) : Nat :=
  match (List.range 4).foldl (fun (m : Option Nat) v =>
      if (s.slot v).state = .armed then
        match m with
        | some u => if (s.slot u).actRC < (s.slot v).actRC then some v else m
        | none => some v
      else m) none with
  | some v => v
  | none => ((List.range 4).find? (fun v => (s.slot v).state == .active)).getD 0

/-- CANCEL_ARMED_SLOT's effect (R161): OK, or BUSY. -/
def State.cancelSlot (s : State) (v : Nat) : State × Nat :=
  let x := s.slot v
  if x.state = .armed ∧ s.latestSlot = v ∧ s.rc + s.lead < x.actRC then
    let s := s.freeSlotOf v
    let s := s.updFlash (fun f => { f with kept := f.kept.filter (fun k => k.token != x.token || k.instant != x.instant) })
    let u := s.latestLeft
    ({ s with latest := (s.slot u).image, latestSlot := u }, stOk)
  else (s, stBusy)

end Sys2Proof.Machine
end

