-- ==== Sys2Proof/Machine/Tables.lean ====
section
/-! DEFINITION. The forwarding tables as the host reaches them (06 R175 to R182, R197 to R212): records, static entries, next
hops, groups, rewrite entries, iterations, flushes, bulk operations, and the copy to a reseeded plane. -/

namespace Sys2Proof.Machine

/-! ### Entry records (R175 to R177) -/

/-- A record of 48 bytes. -/
structure Record where
  ktype : Nat
  flags : Nat
  tenant : Nat
  plane : Nat
  slot : Nat
  gen : Nat
  zero : Nat
  key : Nat
  result : Nat
  deriving DecidableEq, Repr

/-- The record that 48 bytes spell. -/
def readRecord (bs : List Byte) : Record :=
  ⟨getBE bs 0 1, getBE bs 1 1, getBE bs 2 1, getBE bs 3 1, getBE bs 4 4, getBE bs 8 2, getBE bs 10 2, getBE bs 12 20, getBE bs 32 16⟩

/-- The record of an entry in plane `p`. -/
def entryRecord (p slot : Nat) (e : Entry) : List Byte :=
  let fl := (if e.static then 128 else 0) + (if e.activity then 64 else 0) + (if e.learned then 32 else 0) + (if e.frozen then 16 else 0)
  toBytes 1 e.ktype ++ toBytes 1 fl ++ toBytes 1 e.tenant ++ toBytes 1 p ++ toBytes 4 slot ++ toBytes 2 e.gen ++ toBytes 2 0 ++
    toBytes 20 e.key ++ toBytes 16 e.result

/-- The bits a key of a type uses (R176). -/
def keyBits : Nat → Nat
  | 1 => 60 | 2 => 50 | 3 => 148 | 4 => 20 | 5 => 20 | 6 => 76 | _ => 0

/-- Whether a key keeps R176: no unused bit set, a length in range, no address bit beyond it. -/
def keyOk (ktype key : Nat) : Bool :=
  decide (1 ≤ ktype ∧ ktype ≤ 6) && decide (key < 2 ^ keyBits ktype) &&
    (match ktype with
     | 2 => decide (field key 37 32 ≤ 32) && maskAddr false (field key 37 32) (field key 31 0) == field key 31 0
     | 3 => decide (field key 135 128 ≤ 128) && maskAddr true (field key 135 128) (field key 127 0) == field key 127 0
     | _ => true)

/-- The fields a request holds at fixed values (R175). -/
def Record.requestOk (r : Record) : Bool :=
  r.plane == 0 && r.slot == 0xFFFFFFFF && r.gen == 0 && r.zero == 0 && r.flags % 16 == 0 && decide (r.tenant < 16)

/-- Whether a record can be inserted (R176, R208). -/
def Record.insertable (r : Record) : Bool :=
  r.requestOk && keyOk r.ktype r.key && !r.flags.testBit 5 && r.result % 2 ^ 13 == 0

/-- Whether a static record is accepted (R205). -/
def Record.staticOk (r : Record) : Bool := r.insertable && r.ktype == 1 && r.flags == 128

/-- The entry of a record. -/
def Record.entry (r : Record) : Entry := hostEntry r.ktype r.tenant r.key r.result (r.flags.testBit 7) (r.flags.testBit 6)

/-! ### Commands (R208) -/

/-- The planes that a reading command selects by instance bits [1:0]. -/
def selected (inst : Nat) : List Nat := if inst % 4 = 1 then [0] else if inst % 4 = 2 then [1] else [0, 1]

/-- TBL_INSERT of a record: the status, and the record as placed in the first plane in service. -/
def State.tblInsert (s : State) (r : Record) : State × Nat × List Byte :=
  if r.insertable then
    match s.insertHost r.entry with
    | (s, .ok) =>
      let p := if s.inService.contains 0 then 0 else 1
      (s, stOk, match findEntry (s.pl p).store r.ktype r.tenant r.key with
        | some (k, e) => entryRecord p k e
        | none => [])
    | (s, .full) => (s, stTableFull, [])
    | (s, .noPlane) => (s, stInterlock, [])
  else (s, stRange, [])

/-- TBL_DELETE of a record's key. -/
def State.tblDelete (s : State) (r : Record) : State × Nat :=
  if !keyOk r.ktype r.key || decide (16 ≤ r.tenant) then (s, stRange)
  else if s.inService.isEmpty then (s, stInterlock)
  else
    let (s, held) := s.deleteKey r.ktype r.tenant r.key
    (s, if held then stOk else stNotFound)

/-- TBL_SEARCH: one record per selected plane in service that holds the key. -/
def State.tblSearch (s : State) (inst : Nat) (r : Record) : Nat × List Byte :=
  let l := ((selected inst).filter (s.inService.contains ·)).flatMap (fun p =>
    match findEntry (s.pl p).store r.ktype r.tenant r.key with
    | some (k, e) => entryRecord p k e
    | none => [])
  if !keyOk r.ktype r.key || decide (16 ≤ r.tenant) then (stRange, []) else if l.isEmpty then (stNotFound, []) else (stOk, l)

/-- A filter of R209: key type, tenant, flags. -/
def entryMatches (ktype tenant flags : Nat) (e : Entry) : Bool :=
  (ktype == 0 || e.ktype == ktype) && (tenant == 0xFF || e.tenant == tenant) &&
    (!flags.testBit 0 || e.learned) && (!flags.testBit 1 || e.static)

/-- The entries of the selected planes at or above a cursor, with their places: plane A's slots, then plane B's. -/
def State.entriesFrom (s : State) (inst cursor : Nat) : List (Nat × Nat × Nat × Entry) :=
  ((selected inst).filter (s.inService.contains ·)).flatMap (fun p =>
    ((s.pl p).store.map (fun e => (1048576 * p + e.1, p, e.1, e.2))).filter (fun x => decide (cursor ≤ x.1)))

/-- The crossed entries of a session's iteration, as they stand now (R210). -/
def State.crossedOf (s : State) (j : Nat) : List (Nat × Nat × Entry) :=
  [0, 1].flatMap (fun p => (Tab.get [] (s.pl p).crossed j).filterMap (fun e =>
    (findEntry (s.pl p).store e.ktype e.tenant e.key).map (fun r => (p, r.1, r.2))))

/-- Opens a session's iteration with empty crossed lists. -/
def State.openIter (s : State) (j : Nat) : State :=
  [0, 1].foldl (fun s p => s.updPl p (fun q => { q with crossed := Tab.set q.crossed j [] })) (s.wr 0x1440 j 0)

/-- Closes a session's iteration. -/
def State.closeIter (s : State) (j : Nat) : State :=
  [0, 1].foldl (fun s p => s.updPl p (fun q => { q with crossed := Tab.del q.crossed j })) (s.wr 0x1440 j 0xFFFFFFFF)

/-- TBL_NEXT of session `j` (R209): crossed entries first, then by slot from the cursor. -/
def State.tblNext (s : State) (j inst cursor ktype tenant flags : Nat) : State × Nat × List Byte :=
  if cursor ≠ 0 ∧ cursor ≠ s.rd 0x1440 j then (s, stRange, [])
  else
    let s := if cursor = 0 then s.openIter j else s
    let crossed := (s.crossedOf j).filter (fun x => entryMatches ktype tenant flags x.2.2)
    let first := crossed.take 80
    let kept := crossed.drop 80
    let left (p : Nat) : List Entry := (kept.filter (fun x => x.1 == p)).map (fun x => x.2.2)
    let s := [0, 1].foldl (fun s p => s.updPl p (fun q => { q with crossed := Tab.set q.crossed j (left p) })) s
    let rest := (s.entriesFrom inst cursor).filter (fun x => entryMatches ktype tenant flags x.2.2.2)
    let n := 80 - first.length
    let next := if kept.isEmpty then
        match rest[n]? with
        | some x => x.1
        | none => 0xFFFFFFFF
      else cursor
    let out := first.map (fun x => entryRecord x.1 x.2.1 x.2.2) ++
      (if kept.isEmpty then (rest.take n).map (fun x => entryRecord x.2.1 x.2.2.1 x.2.2.2) else [])
    let s := if next = 0xFFFFFFFF then s.closeIter j else s.wr 0x1440 j next
    (s, stOk, toBytes 4 next ++ toBytes 2 out.length ++ out.flatten)

/-! ### Flushes and bulk operations (R211, R212) -/

/-- Whether a flush removes an entry. -/
def Flush.hits (f : Flush) (e : Entry) : Bool :=
  e.ktype == 1 && e.learned && e.onPort f.port && (!f.flags.testBit 0 || e.key / 2 ^ 48 == f.fid) && (!f.flags.testBit 1 || e.tenant == f.tenant)

/-- The removal of a flush in one plane, with its count. -/
def State.flushPlane (s : State) (p : Nat) (f : Flush) : State × Nat :=
  let gone := (s.pl p).store.filter (fun e => f.hits e.2)
  (s.updPl p (fun q => { q with store := q.store.filter (fun e => !f.hits e.2) }), gone.length)

/-- The removal of a flush that a switchover stopped, in both planes: the entries that were already gone (R213). -/
def State.stopFlush (s : State) (f : Flush) : State :=
  let (s, d) := s.draw
  let gone (e : Entry) : Bool := f.hits e && Config.flushed d (hostKey e.ktype e.tenant e.key)
  s.inService.foldl (fun s p => s.updPl p (fun q => { q with store := q.store.filter (fun e => !gone e.2) })) s

/-- Records of a filter from the selected planes (TBL_BULK_READ). -/
def State.bulkRecords (s : State) (inst ktype tenant flags : Nat) : List Byte :=
  ((s.entriesFrom inst 0).filter (fun x => entryMatches ktype tenant flags x.2.2.2)).flatMap (fun x => entryRecord x.2.1 x.2.2.1 x.2.2.2)

/-- Cuts bytes into records of 48. -/
def cutRecords : Nat → List Byte → List (List Byte)
  | 0, _ => []
  | n + 1, bs => if 48 ≤ bs.length then bs.take 48 :: cutRecords n (bs.drop 48) else []

/-- Inserts the records of a fragment in order (R212). -/
def State.bulkInsert (s : State) (b : Bulk) (bs : List Byte) : State × Bulk :=
  (cutRecords bs.length bs).foldl (fun (s, b) r =>
    match s.tblInsert (readRecord r) with
    | (s, 0, _) => (s, { b with done := b.done + 1, index := b.index + 1 })
    | (s, _, _) => (s, { b with failed := b.failed + 1, firstBad := if b.failed = 0 then b.index else b.firstBad, index := b.index + 1 })) (s, b)

/-! ### Static entries (R205) -/

/-- A SET of PID 1414h: the status; nothing changes unless it is OK. -/
def State.setStatic (s : State) (n v : Nat) : State × Nat :=
  let old := readRecord (toBytes 48 (s.rd 0x1414 n))
  let r := readRecord (toBytes 48 v)
  let drop (s : State) : State :=
    if s.rd 0x1414 n = 0 ∨ (old.key = r.key ∧ old.tenant = r.tenant ∧ v ≠ 0) then s else (s.deleteKey 1 old.tenant old.key).1
  if v = 0 then ((drop s).wr 0x1414 n 0, stOk)
  else if !r.staticOk then (s, stRange)
  else
    match s.insertHost r.entry with
    | (s, .full) => (s, stTableFull)
    | (s, _) => ((drop s).wr 0x1414 n v, stOk)

/-- The stored static entries, installed where they are missing (R205, R76). -/
def State.installStatic (s : State) : State :=
  ((s.regs.filter (fun e => e.1 / 2 ^ 32 == 0x1414)).map Prod.snd).foldl (fun s v => (s.insertHost (readRecord (toBytes 48 v)).entry).1) s

/-! ### Next hops, groups, rewrite entries (R197 to R201) -/

/-- Whether a next-hop record keeps R197. -/
def nextHopOk (v : Nat) : Bool :=
  v % 2 ^ 88 == 0 && decide (nhRewrite v ≤ 131071) && (nhKind v != 0 || decide (nhPort v < 144))

/-- A SET of PID 1420h (R201). -/
def State.nextHopSet (s : State) (nh v : Nat) : State × Nat :=
  if nextHopOk v then
    match s.setNextHop nh v with
    | some s => (s, stOk)
    | none => (s.fault 99 moduleInst, stBusy)
  else (s, stRange)

/-- A SET of PID 1422h (R198): the members listed are of kind 0. -/
def State.ecmpSet (s : State) (g v : Nat) : State × Nat :=
  let n := byteAt 130 v 0
  let member (k : Nat) : Nat := bytesAt 130 v (2 + 2 * k) (3 + 2 * k)
  if n ≤ 64 ∧ byteAt 130 v 1 = 0 ∧ (List.range n).all (fun k => nhKind (s.nextHop (member k)) == 0) then (s.wr 0x1422 g v, stOk)
  else (s, stRange)

/-- Whether a rewrite record keeps R199. -/
def rewriteOk (v : Nat) : Bool :=
  decide (byteAt 32 v 0 < 32) && decide (byteAt 32 v 1 ≤ 3) && !(bytesAt 32 v 4 5).testBit 12 && bytesAt 32 v 18 31 == 0

/-- A SET of PID 1424h (R201). -/
def State.rewriteSet (s : State) (rw v : Nat) : State × Nat :=
  if rewriteOk v then
    match s.setRewrite rw v with
    | some s => (s, stOk)
    | none => (s.fault 99 moduleInst, stBusy)
  else (s, stRange)

/-! ### The copy to a reseeded plane (R207) -/

/-- Plane `p` takes the tables of the other plane: the store with headers, activity bits and generations, and the generation
counter. Its learn engine and age scan start. -/
def State.copyTables (s : State) (p : Nat) : State :=
  let src := s.pl (1 - p)
  let above := decide (s.rd 0x1403 0 < slotsUsed (s.pl p).store)
  let s := s.updPl p (fun q => { q with store := src.store, learnQ := [], learnFilter := [], crossed := [], tested := [], aged := none })
  let s := s.watchSlots p above
  (((s.wr 0x141D p (s.rd 0x141D (1 - p))).wr 0x141A p 0).wr 0x1446 0 (1 - p)).stamp 0x1447 0

end Sys2Proof.Machine
end

