-- ==== Sys2Proof/Machine/Channel.lean ====
section
/-! DEFINITION. The controller buffers, the hod's memories and transfers, its channels as other parts stop them, and what a domain's clocks lose with its power
(07 R242 to R244; 13 R425 to R427; 15 R465 to R476). -/

namespace Sys2Proof.Machine

/-! ### Times in ticks of 2.5 ns -/

def ticksPerMs : Nat := 400000
def ticksPerSec : Nat := 400000000

/-! ### Controller buffers (07 R242 to R244) -/

/-- Size and count of the buffers of a pool (R242). -/
def poolSize (k : Nat) : Nat := if k = 0 then 256 else if k = 1 then 2048 else 16384
def poolCount (k : Nat) : Nat := if k = 0 then 16384 else if k = 1 then 8192 else 1024

/-- The code of a buffer: controller, pool and number. -/
def bufCode (c k i : Nat) : Nat := c * 2 ^ 20 + k * 2 ^ 16 + i

/-- The free buffers of a pool (PID 182Eh). -/
def State.freeBuffers (s : State) (c k : Nat) : Nat :=
  poolCount k - (s.bufs.filter (fun e => e.1 / 2 ^ 16 == c * 16 + k)).length

/-- The prefetch cache of a hod channel for a pool (R243): at first it holds 8 buffers of the free map. -/
def State.bufCache (s : State) (c ch k : Nat) : List Nat :=
  Tab.get ((List.range 8).map (fun i => bufCode c k (8 * ch + i))) s.bufCaches (64 * c + 4 * ch + k)

/-- Changes the prefetch cache of a channel. -/
def State.setBufCache (s : State) (c ch k : Nat) (l : List Nat) : State := { s with bufCaches := Tab.set s.bufCaches (64 * c + 4 * ch + k) l }

/-- The lowest buffer that the free map of a pool holds: neither allocated or quarantined nor in a prefetch cache. -/
def State.mapBuffer (s : State) (c k : Nat) : Option Nat :=
  let out := (List.range 16).flatMap (fun ch => s.bufCache c ch k)
  ((List.range (poolCount k)).map (bufCode c k)).find? (fun a => !out.contains a && (Tab.find? s.bufs a).isNone)

/-- Refills a channel's cache, to 8 buffers, from the free map. -/
def State.fillBufCache (c ch k : Nat) : Nat → State → State
  | 0, s => s
  | n + 1, s =>
    if 8 ≤ (s.bufCache c ch k).length then s
    else match s.mapBuffer c k with
      | some a => State.fillBufCache c ch k n (s.setBufCache c ch k (s.bufCache c ch k ++ [a]))
      | none => s

/-- A channel takes a buffer of a pool (R243): from its cache, which the free map refills. -/
def State.takeBuffer (s : State) (c ch k : Nat) : State × Option Nat :=
  let s := State.fillBufCache c ch k 8 s
  match s.bufCache c ch k with
  | a :: rest => (State.fillBufCache c ch k 8 (s.setBufCache c ch k rest), some a)
  | [] => (s, none)

/-- Allocates a buffer for `n` bytes to a channel: of the smallest pool that holds them, or of a larger one (R243). -/
def State.allocBuffer (s : State) (c n : Nat) (b : Buffer) : State × Option Nat :=
  let first := if n ≤ 256 then 0 else if n ≤ 2048 then 1 else 2
  let got (x : State × Option Nat) (k : Nat) : State × Option Nat :=
    match x with
    | (s, none) =>
      match s.takeBuffer c b.holder k with
      | (s, some a) => (if k = first then s else s.inc 0x3C29 (3 * c + first), some a)
      | (s, none) => (s, none)
    | x => x
  match ((List.range 3).filter (fun k => decide (first ≤ k))).foldl got (s, none) with
  | (s, some a) => ({ s with bufs := Tab.set s.bufs a b }, some a)
  | (s, none) => ((s.inc 0x3C2A c).fault 118 c, none)

/-- The quarantined buffers of a controller are released (R244); one that its holder still holds keeps its mark. -/
def State.scrubBuffers (s : State) (c : Nat) : State :=
  { s with bufs := s.bufs.filter (fun e => !(e.1 / 2 ^ 20 == c && e.2.quarantined && !e.2.held)) }

/-- A held buffer is freed; a quarantined one is kept from the pool until a scrub (R244). -/
def State.giveBack (s : State) (a : Nat) : State :=
  match Tab.find? s.bufs a with
  | some b => { s with bufs := if b.quarantined then Tab.set s.bufs a { b with held := false } else Tab.del s.bufs a }
  | none => s

/-- Whether a controller holds a slow-path frame in a buffer (06 R195). -/
def Buffer.slow (b : Buffer) : Bool := b.held && (match b.frame with
  | some f => f.reason == 3
  | none => false)

/-- The address of a buffer, by its code (PID 182Dh). -/
def State.bufAddress (s : State) (a : Nat) : Nat :=
  let c := a / 2 ^ 20
  let k := a / 2 ^ 16 % 16
  s.rd 0x182D (3 * c + k) + poolSize k * (a % 2 ^ 16)

/-- The buffer an address names: none outside the regions, `some none` where it names no first byte of a buffer. -/
def State.bufAt (s : State) (c addr : Nat) : Option (Option Nat) :=
  match (List.range 3).find? (fun k =>
      let base := s.rd 0x182D (3 * c + k)
      decide (base ≤ addr ∧ addr < base + poolSize k * poolCount k)) with
  | some k =>
    let o := addr - s.rd 0x182D (3 * c + k)
    if o % poolSize k = 0 then some (some (bufCode c k (o / poolSize k))) else some none
  | none => none

/-! ### The spaces and their memories (R467) -/

/-- Source and destination space of a descriptor (R466). -/
def descSrc (d : Nat) : Nat := byteAt 32 d 21 / 16
def descDst (d : Nat) : Nat := byteAt 32 d 21 % 16
def descLength (d : Nat) : Nat := bytesAt 32 d 16 19

/-- The memories that controller `c` reaches in a space (R467): 0 and 1 the DRAM, 2 and 3 the flash of C0 and C1, 4 and 5 the
planes, 6 + g port group g, 14 domain K. The frame path is no memory. -/
def spaceMems (c space addr : Nat) : List Nat :=
  match space with
  | 0 => [c]
  | 1 => [2 + c]
  | 2 => [1 - c]
  | 3 => [4]
  | 4 => [5]
  | 5 => [4, 5]
  | 6 => [6 + field addr 47 44]
  | 7 => [14]
  | _ => []

/-- The memories of a descriptor of controller `c`. -/
def descMems (c d : Nat) : List Nat := spaceMems c (descSrc d) (bytesAt 32 d 0 7) ++ spaceMems c (descDst d) (bytesAt 32 d 8 15)

/-- Bytes of an ECC word of a space (15, before R469). -/
def eccWord (space : Nat) : Nat := if space ≤ 2 then 8 else 32

/-- The domains that an access to a space reaches (R467). -/
def spaceDomains (space addr : Nat) : List Nat :=
  match space with
  | 3 => [0]
  | 4 => [1]
  | 5 => [0, 1]
  | 6 => [domGroup (field addr 47 44)]
  | 7 => [12]
  | _ => []

/-- The domains a descriptor targets. -/
def descDomains (d : Nat) : List Nat :=
  spaceDomains (descSrc d) (bytesAt 32 d 0 7) ++ spaceDomains (descDst d) (bytesAt 32 d 8 15)

/-- The address of a byte of a memory in `State.hodMem`. -/
def memKey (m addr : Nat) : Nat := m * 2 ^ 64 + addr % 2 ^ 64

/-- The buffer in use over a byte of a controller's DRAM, with the byte's place in what it holds. -/
def State.bufferOver (s : State) (m addr : Nat) : Option (Nat × Buffer × Nat) :=
  if 2 ≤ m then none
  else
    ((List.range 3).filterMap (fun k =>
      let base := s.rd 0x182D (3 * m + k)
      let o := addr - base
      if base ≤ addr ∧ o < poolSize k * poolCount k then
        match Tab.find? s.bufs (bufCode m k (o / poolSize k)) with
        | some b => if o % poolSize k < b.bytes.length then some (bufCode m k (o / poolSize k), b, o % poolSize k) else none
        | none => none
      else none)).head?

/-- A byte of a memory: of the buffer that holds it, else what the hod last wrote there, else free: other contents come from
Pyrmon and from the planes, groups and domain K themselves (notes/assumptions/40.md). -/
def State.memByte (s : State) (m addr : Nat) : Byte :=
  match s.bufferOver m addr with
  | some (_, b, i) => b.bytes.getD i 0
  | none => (Tab.find? s.hodMem (memKey m addr)).getD (Config.spaceByte (memKey m addr) s.clk)

/-- Writes a byte of a memory. -/
def State.putMemByte (s : State) (m addr : Nat) (v : Byte) : State :=
  match s.bufferOver m addr with
  | some (a, b, i) => { s with bufs := Tab.set s.bufs a { b with bytes := b.bytes.set i v } }
  | none => { s with hodMem := Tab.set s.hodMem (memKey m addr) v }

/-- Writes bytes of a memory from an address on. -/
def State.putMemBytes (m : Nat) : Nat → List Byte → State → State
  | _, [], s => s
  | addr, v :: t, s => State.putMemBytes m (addr + 1) t (s.putMemByte m addr v)

/-- The memories of the hod's spaces are held in their canonical form: addresses rise. -/
def State.memWf (s : State) : Bool := Tab.rising s.hodMem

/-- A memory that its power has left holds nothing the hod wrote. -/
def State.clearMem (s : State) (m : Nat) : State := { s with hodMem := s.hodMem.filter (fun e => e.1 / 2 ^ 64 != m) }

/-! ### Transfer modes (R469, R470) -/

/-- One access of a transfer: `size` bytes at `addr`, of which `count` from byte `first` on lie in the range (those a write
enables). -/
structure HodAccess where
  addr : Nat
  size : Nat
  first : Nat
  count : Nat
  deriving DecidableEq, Repr

/-- Aligned mode (R469): the 64-byte units over `n` bytes from `a`, each with its byte enables. -/
def alignedAccesses (a n : Nat) : List HodAccess :=
  (List.range ((a + n + 63) / 64 - a / 64)).map (fun i =>
    let u := 64 * (a / 64 + i)
    let lo := max a u
    ⟨u, 64, lo - u, min (a + n) (u + 64) - lo⟩)

/-- Funnel mode (R469): narrow accesses of 1, 2 or 4 bytes up to the first ECC word of `w` bytes, full words, and narrow accesses
again at the tail; every byte lies in the range. `fuel` bounds the accesses. -/
def funnelAccesses (w : Nat) : Nat → Nat → Nat → List HodAccess
  | 0, _, _ => []
  | fuel + 1, a, n =>
    if n = 0 then []
    else
      let k := if a % w = 0 ∧ w ≤ n then w else if a % 4 = 0 ∧ 4 ≤ n then 4 else if a % 2 = 0 ∧ 2 ≤ n then 2 else 1
      ⟨a, k, 0, k⟩ :: funnelAccesses w fuel (a + k) (n - k)

/-- The accesses of `n` bytes from `a` in a space. -/
def accessesOf (funnel : Bool) (space a n : Nat) : List HodAccess :=
  if funnel then funnelAccesses (eccWord space) n a n else alignedAccesses a n

/-- The ECC words, by address, that accesses of a space touch: the words in which an uncorrectable error ends the transfer
(R470). -/
def touchedWords (space : Nat) (l : List HodAccess) : List Nat :=
  let w := eccWord space
  l.flatMap (fun x => (List.range ((x.addr + x.size + w - 1) / w - x.addr / w)).map (fun i => w * (x.addr / w + i)))

/-- Whether a descriptor of channel `n` runs in funnel mode (R470). -/
def State.funnelled (s : State) (n d : Nat) : Bool :=
  let recent (t : Nat) : Bool := decide (s.clk < t + ticksPerSec)
  (byteAt 32 d 20).testBit 5 || s.rd 0x3808 n == 1 || !s.stageAtLeast 2 ||
    (s.rd 0x2826 0 != 0 && (match s.reseed with | some r => (descDomains d).contains r.plane | none => false)) ||
    (descDomains d).any (fun x => (Tab.find? s.clocks.poweredAt x).any recent) ||
    (descMems (n / 16) d).any (fun m => (Tab.find? s.clocks.dataErrors m).any recent)

/-- The bytes that reading accesses of memory `m` bring: those in the range, in order; the margin is read and dropped. -/
def State.readAccesses (s : State) (m : Nat) (l : List HodAccess) : List Byte :=
  l.flatMap (fun x => (List.range x.count).map (fun i => s.memByte m (x.addr + x.first + i)))

/-- Writes a stream of bytes by accesses of memory `m`: each takes as many as it enables, wherever they stood at the source (the
byte shifter). -/
def State.writeAccesses (m : Nat) : List HodAccess → List Byte → State → State
  | [], _, s => s
  | x :: t, bs, s => State.writeAccesses m t (bs.drop x.count) (State.putMemBytes m (x.addr + x.first) (bs.take x.count) s)

/-- Moves `k` bytes of a descriptor of channel `n`, from address `a` to address `b` (R469). Of space 5 plane A is read and both
planes are written alike; a frame path reads free and writes nowhere (its frames move at posting and injection). -/
def State.transfer (s : State) (n d a b k : Nat) : State :=
  let c := n / 16
  let f := s.funnelled n d
  let reads := accessesOf f (descSrc d) a k
  let bytes := match (spaceMems c (descSrc d) a).head? with
    | some m => s.readAccesses m reads
    | none => s.readAccesses 15 reads
  (spaceMems c (descDst d) b).foldl (fun s m => State.writeAccesses m (accessesOf f (descDst d) b k) bytes s) s

/-! ### Channels -/

/-- A channel, by 16 × controller + channel. -/
def State.chan (s : State) (n : Nat) : Channel := Tab.get Channel.init s.chans n
/-- Changes a channel. -/
def State.updChan (s : State) (n : Nat) (f : Channel → Channel) : State := { s with chans := Tab.upd Channel.init s.chans n f }
/-- The state of a channel (PID 3800h). -/
def State.chanState (s : State) (n : Nat) : Nat := s.rd 0x3800 n

/-- The counter that a halt raises (R482): timeouts, chain limit, read-back failures, power-down aborts, bus errors. -/
def haltCounter : Nat → Option Nat
  | 1 => some 0x3815
  | 2 => some 0x3815
  | 3 => some 0x3813
  | 5 => some 0x3817
  | 6 => some 0x3817
  | 7 => some 0x3814
  | 8 => some 0x3816
  | _ => none

/-- The fault bit of a halt (R483). -/
def haltBit : Nat → Option Nat
  | 1 => some 226
  | 2 => some 226
  | 3 => some 224
  | 7 => some 225
  | 8 => some 227
  | _ => none

/-- A channel halts with a status (R473). -/
def State.halt (s : State) (n status : Nat) : State :=
  let s := ((s.wr 0x3800 n 4).wr 0x380E n status).inc 0x3812 n
  let s := match haltCounter status with
    | some pid => s.inc pid n
    | none => s
  match haltBit status with
  | some b => s.fault b (n / 16)
  | none => s

/-- The channel has moved the next `k` bytes of its descriptor, and its registers name the byte after them (R473, R474). -/
def State.move (s : State) (n k : Nat) : State :=
  match (s.chan n).cur with
  | some d =>
    let a := s.rd 0x3809 n
    let b := s.rd 0x380A n
    let s := s.transfer n d a b k
    (((s.wr 0x3809 n (a + k)).wr 0x380A n (b + k)).wr 0x380B n (s.rd 0x380B n - k)).incBy 0x3811 n k
  | none => s

/-- Some of the remaining bytes have been moved when a channel stops; how many is free (notes/assumptions/40.md). -/
def State.moveSome (s : State) (n : Nat) : State :=
  let (s, d) := s.draw
  s.move n (Config.freeValue d % (s.rd 0x380B n + 1))

/-- A controller has lost the token, or has isolated itself: its channels stop, without a drain (R476). -/
def State.cutChannels (s : State) (c : Nat) : State :=
  (List.range 16).foldl (fun s k =>
    let n := 16 * c + k
    if (s.chan n).cur.isSome ∧ s.chanState n ≠ 4 then (s.moveSome n).halt n 6 else s) s

/-- The new active controller restarts its channels (R476): those that ended with status 6 run again. -/
def State.restartChannels (s : State) (c : Nat) : State :=
  (List.range 16).foldl (fun s k =>
    let n := 16 * c + k
    if s.chanState n = 4 ∧ s.rd 0x380E n = 6 then s.wr 0x3800 n (if (s.chan n).cur.isSome then 1 else 0) else s) s

/-- A controller has stopped: rings, channels, buffers and receive interface are gone with its DRAM. -/
def State.wipeHod (s : State) (c : Nat) : State :=
  { s with
    regs := s.regs.filter (fun e => !(decide (0x3800 ≤ e.1 / 2 ^ 32 ∧ e.1 / 2 ^ 32 ≤ 0x380F) && e.1 / 2 ^ 32 != 0x3808 && e.1 % 2 ^ 32 / 16 == c))
    chans := s.chans.filter (fun e => e.1 / 16 != c)
    bufs := s.bufs.filter (fun e => e.1 / 2 ^ 20 != c)
    bufCaches := s.bufCaches.filter (fun e => e.1 / 64 != c)
    hodMem := s.hodMem.filter (fun e => e.1 / 2 ^ 64 != c)
    recv := Tab.del s.recv c }

/-- A domain is powered: the channels held at a boundary for it go on (R475). -/
def State.releaseBoundary (s : State) (d : Nat) : State :=
  (List.range 32).foldl (fun s n =>
    if (s.chan n).boundary = some d then (s.updChan n (fun q => { q with boundary := none })).wr 0x3800 n (if s.flag 0x3806 n then 3 else 0)
    else s) s

/-! ### Clocks of a domain -/

/-- Changes the record of the clocks. -/
def State.updClocks (s : State) (f : Clocks → Clocks) : State := { s with clocks := f s.clocks }

/-- The memory that loses its contents with a domain's power: planes, port groups, controllers' DRAM, domain K. -/
def domMem (d : Nat) : Nat := if d < 10 then d + 4 else if d < 12 then d - 10 else 14

/-- A domain has lost its power: its memory, its root and fallback, its ramp and its gates start anew (13 R419 to R427). -/
def State.clockOff (s : State) (d : Nat) : State :=
  (((s.clearMem (domMem d)).wr 0x020E d 0).wr 0x020F d 0).updClocks (fun q => { q with
    fallbackAt := Tab.del q.fallbackAt d
    poweredAt := Tab.del q.poweredAt d
    ramps := if d < 2 then Tab.del q.ramps d else q.ramps
    loads := if d < 2 then q.loads.filter (fun e => e.1 / 8 != d) else q.loads
    meters := if d = 10 ∨ d = 11 then q.meters.filter (fun e => e.1 / 8 != d - 10) else q.meters
    closing := q.closing.filter (fun e => e.1 / 16 != d) })

/-- The root PLL of a domain loses lock, and the domain goes to its fallback oscillator (13 R420). -/
def State.toFallback (s : State) (d : Nat) : State :=
  let s := ((s.wr 0x020E d 3).inc 0x0211 d).wr 0x020F d 1
  ((s.updClocks (fun q => { q with fallbackAt := Tab.set q.fallbackAt d s.clk })).fault 195 d).fault 198 d

/-- A domain is powered: its root has locked (R419). -/
def State.clockOn (s : State) (d : Nat) : State :=
  let s := if d < 2 then ((s.wr 0x0214 d 4).wr 0x0215 d 4).wr 0x021F d 1200000 else s
  ((s.wr 0x020E d 2).wr 0x020F d 0).updClocks (fun q => { q with poweredAt := Tab.set q.poweredAt d s.clk })

end Sys2Proof.Machine
end

