-- ==== Sys2Proof/Machine/Power.lean ====
section
/-! DEFINITION. Mains, power domains, the staged start, restarts, domain control and shutdown (02 R42 to R45; 03). -/

namespace Sys2Proof.Machine

/-- Milliseconds since mains was applied (PIDs 0101h to 0104h). -/
def State.msOfStart (s : State) : Nat := (s.clk - s.power.mains.getD s.clk) / ticksPerMs

/-- Changes the record of the start. -/
def State.updPower (s : State) (f : Power → Power) : State := { s with power := f s.power }

/-- Enters stage `n`, with its entry time (R66). PIDs 0101h to 0104h keep their times at a fall-back (R73), and a stage entered again
gets the time of its last entry (notes/assumptions/58.md). -/
def State.enterStage (s : State) (n : Nat) : State := (s.wr 0x0100 0 n).wr (0x0101 + n) 0 s.msOfStart

/-! ### What a domain holds (16 R492) -/

/-- The domain that holds a value: a plane or a port group; none where a controller or the module does. -/
def heldBy (r : Row) (inst : Nat) : Option Nat :=
  match r.home with
  | .ctl => none
  | .plane st => some (inst / st)
  | .planeLow => some (inst % 2)
  | .port m d => some (domGroup (inst % m / d / 18))
  | .pg d => some (domGroup (inst / d))

/-- The wear of the laser bank, which a restart does not undo (PIDs 0810h to 0812h, 0815h to 0828h, 082Bh, 084Eh). -/
def isWear (pid : Nat) : Bool := (decide (0x0810 ≤ pid) && decide (pid ≤ 0x0812)) || (decide (0x0815 ≤ pid) && decide (pid ≤ 0x0828)) || pid == 0x082B || pid == 0x084E

/-- Whether a restart of domain `d` loses a value. -/
def lostWith (d pid inst : Nat) : Bool :=
  match Catalogue.row? pid with
  | some r => r.cls == .vol && heldBy r inst == some d && !isWear pid
  | none => false

/-- A domain's readings and counters are gone. -/
def State.wipeDomain (s : State) (d : Nat) : State :=
  { s with regs := s.regs.filter (fun e => !lostWith d (e.1 / 2 ^ 32) (e.1 % 2 ^ 32)) }

/-- A domain has restarted: its counter epoch rises (17 R506). -/
def State.raiseEpoch (s : State) (d : Nat) : State := s.inc 0x3C2E d

/-- The counters that the controllers keep restart from zero (17 R506). -/
def State.zeroControllerCounters (s : State) : State :=
  { s with regs := s.regs.filter (fun e =>
      match Catalogue.row? (e.1 / 2 ^ 32) with
      | some r => !(r.counter && r.home == .ctl)
      | none => true) }

/-! ### Removing power -/

/-- The copies of plane `p` on their way to a port end as failed (11 R327). -/
def State.endCopies (s : State) (p : Nat) : State :=
  (s.pl p).links.foldl (fun s e =>
    if e.1 < 144 then
      (e.2.filter (fun x => x.role != .waiting)).foldl (fun s x => s.takeEnd p e.1 x 3) s
    else s) s

/-- No frame is replicated to a plane until it is given a join RC (11 R338). -/
def neverJoins : Nat := 2 ^ 72

/-- The bond state of a plane, which stays held isolated (11 R342). -/
def State.setBond (s : State) (p v : Nat) : State := if s.rd 0x281F p = 5 then s else s.wr 0x281F p v

/-- A plane takes no part in the bond (11 R341). -/
def State.leaveBond (s : State) (p v : Nat) : State := { s.setBond p v with joins := Tab.set s.joins p neverJoins }

/-- Power is removed from a plane: its tables, queues and readings are gone. -/
def State.planeOff (s : State) (p : Nat) : State :=
  let s := ((s.endCopies p).leaveBond p 0).updPl p (fun _ => Plane.init)
  ((s.updPower (fun q => { q with tests := Tab.del q.tests p })).wipeDomain (domPlane p)).clockOff (domPlane p)

/-- Power is removed from a port group: its ports go dark, and its frames in flight and readings are gone (R81, R85). -/
def State.groupOff (s : State) (g : Nat) : State :=
  let ports := (List.range 18).map (fun k => 18 * g + k)
  let mine (e : Nat) : Bool := e / 18 == g
  let s := ports.foldl (fun s i => s.darken i 0) s
  let s := { s with
    ports := s.ports.filter (fun e => !mine e.1)
    groups := Tab.del s.groups g
    bonds := s.bonds.filter (fun e => !mine e.1)
    leaving := s.leaving.filter (fun e => !mine e.1)
    recovery := s.recovery.filter (fun e => !mine (byteAt 8 (s.recoveryRecord e.1) 0)) }
  (s.wipeDomain (domGroup g)).clockOff (domGroup g)

/-- A controller stops: its heartbeat ends, and what it holds in DRAM is gone (11 R345). -/
def State.controllerOff (s : State) (c v : Nat) : State :=
  let s := s.wipeHod c
  (s.wr 0x0301 c v).updCtl c (fun q => { q with beats := false, lastPulse := if q.beats then s.clk else q.lastPulse, asking := none })

/-- A session's connection is gone; its number may be used again. -/
def Session.closed (x : Session) : Session := { Session.init with gen := x.gen + 1 }

/-- The sessions of a controller are closed. -/
def State.closeSessions (s : State) (c : Nat) : State :=
  { s with sessions := s.sessions.map (fun e => if e.1 / 4 = c then (e.1, e.2.closed) else e) }

/-! ### Restarts (R81) -/

/-- Whether a value survives a restart of the module: at a power-on, or a module reset, which leaves domain K alone. -/
def survives (power : Bool) (pid : Nat) : Bool :=
  let g := pid / 256
  let always := g == 0 || pid == 0x0106 || (decide (0x011C ≤ pid) && decide (pid ≤ 0x0124)) || pid == 0x0127 || pid == 0x3C2E || isWear pid
  let reading := match Catalogue.row? pid with
    | some r => r.acc == .ro && !r.counter && r.cls == .vol
    | none => false
  always || (!power && ((decide (0x011A ≤ pid) && decide (pid ≤ 0x0126)) ||
    (reading && (g == 0x02 || g == 0x30 || (decide (0x32 ≤ g) && decide (g ≤ 0x35))))))

/-- The module restarts: at the return of mains (R64, `power`), or by a module reset, which keeps domain K (R81). Its flash
and its history latch keep what they hold. -/
def State.restart (s : State) (power : Bool) (cause : Nat) : State :=
  let t := { State.reset with
    regs := s.regs.filter (fun e : Nat × Nat => survives power (e.1 / 2 ^ 32))
    drawn := s.drawn
    time := if power then Time.init else { s.time with copies := [] }
    flash := s.flash
    sessions := s.sessions.map (fun e : Nat × Session => (e.1, e.2.closed))
    issued := s.issued
    out := s.out
    tx := s.tx
    latch := s.latch
    cart := s.cart
    hodMem := s.hodMem.filter (fun e => e.1 / 2 ^ 64 == 2 || e.1 / 2 ^ 64 == 3 || (!power && e.1 / 2 ^ 64 == 14))
    bay := { s.bay with current := none, unread := [], sentAt := s.clk }
    clocks := if power then Clocks.init else { Clocks.init with agree := s.clocks.agree, late := s.clocks.late, fallbackAt := s.clocks.fallbackAt.filter (fun e => e.1 == 12), poweredAt := s.clocks.poweredAt.filter (fun e => e.1 == 12) }
    swapAt := s.clk
    swapDay := s.swapDay
    servo := if power then { Servo.init with idleSince := s.clk } else s.servo
    gnss := if power then Gnss.init else s.gnss
    synce := if power then Synce.init else s.synce
    tio := if power then Tio.init else s.tio
    power := { Power.init with mains := some s.clk, tc := s.power.tc, warmFrom := s.power.warmFrom, offFor := if power then s.clk - s.power.offAt else 0, onAt := if power then s.clk else s.power.onAt, worked := if power then s.power.worked + (s.power.offAt - s.power.onAt) else s.power.worked }
    rc := s.rc, clk := s.clk, pending := s.pending }
  let t := (t.wr 0x0105 0 cause).inc 0x0106 0
  let t := { t with fw := { Firmware.init with header := s.fw.header, dataPath := s.fw.dataPath } }
  let t := (t.wr 0x000A 0 (if t.rd 0x000A 0 = 3 then 3 else 0)).wr 0x000E 0 (if t.rd 0x000E 0 = 5 then 5 else 0)
  let t := if t.isOn 12 then (t.wr 0x300C 0 1).wr 0x300C 1 1 else t
  (List.range (if power then 13 else 12)).foldl State.raiseEpoch t

/-! ### Mains and the PSUs (02 R42 to R45; R87, R88) -/

/-- The state of a PSU (PID 011Ch). -/
def State.psu (s : State) (p : Nat) : Nat := s.rd 0x011C p
/-- A PSU delivers power, so that the DC bus is in regulation. -/
def State.busUp (s : State) : Bool := s.psu 0 == 1 || s.psu 1 == 1

/-- The DC power that a PSU delivers, in W (02 R44): half of the module's load within 10 % while both run, all of it alone. The load and
the split are free values of each instant. -/
def State.psuOutput (s : State) (p : Nat) : Nat :=
  let load := Config.moduleLoad s.clk
  let first := load * (40 + (Config.loadSplit s.clk).val) / 100
  if s.psu p ≠ 1 then 0 else if s.psu (1 - p) ≠ 1 then load else if p = 0 then first else load - first

/-- MAINS_APPLIED (R64): an input exceeds 80 V while the module is unpowered; readings in 0.1 V and 0.1 °C. -/
def mainsApplied (psu tc volts : Nat) (s : State) : State :=
  if s.power.mains = none ∧ 800 < volts then
    let s := s.restart true 0
    (s.wr 0x011D psu volts).updPower (fun q => { q with tc := signed 16 tc, warmFrom := s.clk })
  else s

/-- MAINS_APPLIED (R64). -/
def execMainsApplied (el : Nat) (psu : Fin 2) (tc volts : BitVec 16) (s : State) : Out :=
  s.run el (mainsApplied psu.val tc.toNat volts.toNat)

/-- PSU_RESUME (02 R42): the input has exceeded 80 V for 100 ms, and does not exceed 300 V. -/
def psuResume (p volts : Nat) (s : State) : State :=
  if s.psu p = 0 ∧ 800 < volts ∧ volts ≤ 3000 then (s.wr 0x011C p 1).wr 0x011D p volts else s

/-- PSU_RESUME (02 R42). -/
def execPsuResume (el : Nat) (psu : Fin 2) (volts : BitVec 16) (s : State) : Out := s.run el (psuResume psu.val volts.toNat)

/-- PSU_STOP (02 R42): the input has stayed below 75 V for 2 ms; its loss is counted and recorded (R87, 17 R516). -/
def psuStop (p volts : Nat) (s : State) : State :=
  if s.psu p = 1 ∧ volts < 750 then (((s.wr 0x011C p 0).wr 0x011D p volts).inc 0x0122 p).fault p p else s

/-- PSU_STOP (02 R42). -/
def execPsuStop (el : Nat) (psu : Fin 2) (volts : BitVec 16) (s : State) : Out := s.run el (psuStop psu.val volts.toNat)

/-- PSU_OVERVOLTAGE_SHUTDOWN (02 R42). -/
def psuOvervoltageShutdown (p volts : Nat) (s : State) : State :=
  if s.psu p ≠ 2 ∧ s.psu p ≠ 3 ∧ 3000 < volts then ((s.wr 0x011C p 2).wr 0x011D p volts).fault 3 p else s

/-- PSU_OVERVOLTAGE_SHUTDOWN (02 R42). -/
def execPsuOvervoltageShutdown (el : Nat) (psu : Fin 2) (volts : BitVec 16) (s : State) : Out :=
  s.run el (psuOvervoltageShutdown psu.val volts.toNat)

/-- PSU_OVERVOLTAGE_RESUME (02 R42): it delivers again, unless the input has fallen below 75 V. -/
def psuOvervoltageResume (p volts : Nat) (s : State) : State :=
  if s.psu p = 2 ∧ volts < 2800 then (s.wr 0x011C p (if 750 ≤ volts then 1 else 0)).wr 0x011D p volts else s

/-- PSU_OVERVOLTAGE_RESUME (02 R42). -/
def execPsuOvervoltageResume (el : Nat) (psu : Fin 2) (volts : BitVec 16) (s : State) : Out :=
  s.run el (psuOvervoltageResume psu.val volts.toNat)

/-- PSU_FAULT (17 R516). -/
def psuFault (p : Nat) (s : State) : State := if s.psu p = 3 then s else (s.wr 0x011C p 3).fault 2 p

/-- PSU_FAULT (17 R516). -/
def execPsuFault (el : Nat) (psu : Fin 2) (s : State) : Out := s.run el (psuFault psu.val)

/-- SHORT_DIP (R87). -/
def shortDip (p : Nat) (s : State) : State := if s.psu p = 1 then s.inc 0x0123 p else s

/-- SHORT_DIP (R87). -/
def execShortDip (el : Nat) (psu : Fin 2) (s : State) : Out := s.run el (shortDip psu.val)

/-- Ticks of lock so far (12 R401). -/
def State.lockTicks (s : State) : Nat :=
  s.servo.lockTicks + (match s.servo.locked with
    | some t => s.clk - t
    | none => 0)

/-- The model as flash keeps it: seconds of lock, 72 h at least once ready (12 R401). -/
def State.modelSeconds (s : State) : Nat :=
  let n := s.lockTicks / ticksPerSec
  if s.rd 0x3404 0 = 1 ∨ s.rd 0x3404 0 = 2 then max n 259200 else n

/-- The last-gasp record, written to the flash of both controllers that run (R88): the fault record, the bypass sense, the holdover
model, DT and the reason. -/
def State.writeGasp (s : State) : State :=
  let model := s.modelSeconds
  let s := ((s.fault 4 moduleInst).stamp 0x0127 0).writeRecord
  let g : Gasp := ⟨s.dtNow, s.latch.closed, model, s.psu 0 + 16 * s.psu 1⟩
  s.updFlashOf s.runs (fun f => { f with
    gasp := some g, lastDT := s.dtNow, model := model, faults := s.faults, faultGen := s.rd 0x3E0A 0, faultGood := true })

/-- LAST_GASP (R88): no PSU delivers; the active controller writes the last-gasp record. -/
def lastGasp (s : State) : State :=
  if s.power.mains.isSome = true ∧ s.power.gasp = none ∧ s.busUp = false ∧ (s.dom 12 ≠ 0 ∨ s.dom 10 ≠ 0 ∨ s.dom 11 ≠ 0) then
    let s := (s.updPower (fun q => { q with gasp := some s.clk, shut := 0 })).inc 0x0124 0
    if s.holder.isSome then s.writeGasp else s
  else s

/-- LAST_GASP (R88). -/
def execLastGasp (el : Nat) (s : State) : Out := s.run el lastGasp

/-- The times of the shutdown table (R88), in ticks from the last PSU stopping. -/
def shutdownTimes : List Nat := [2400000, 3200000, 4000000, 4400000]

/-- A step of the shutdown table (R88): port groups, planes, controllers, K. -/
def State.shutStep (s : State) (k : Nat) : State :=
  match k with
  | 0 => (List.range 8).foldl (fun s g => (s.groupOff g).setDom (domGroup g) 0) s
  | 1 => [0, 1].foldl (fun s p => (s.planeOff p).setDom (domPlane p) 0) s
  | 2 => [0, 1].foldl (fun s c => (((s.controllerOff c 0).clockOff (domCtl c)).closeSessions c).setDom (domCtl c) 0) (s.wr 0x0302 0 0)
  | _ =>
    let s := { ((s.setDom 12 0).clockOff 12).wr 0x3002 0 0 with time := { s.time with running := false } }
    s.updPower (fun q => { q with mains := none, gasp := none, shut := 0, offAt := s.clk })

/-- SHUTDOWN_POWER_DOWN (R88): the next step of the table, at its time; the last leaves the module unpowered. -/
def shutdownPowerDown (s : State) : State :=
  match s.power.gasp, shutdownTimes[s.power.shut]? with
  | some t, some d => if t + d ≤ s.clk then (s.updPower (fun q => { q with shut := q.shut + 1 })).shutStep s.power.shut else s
  | _, _ => s

/-- SHUTDOWN_POWER_DOWN (R88). -/
def execShutdownPowerDown (el : Nat) (s : State) : Out := s.run el shutdownPowerDown

/-! ### The fallback configuration and the fault record at start (R76, R77; 17 R520) -/

/-- The record applied: PID 010Bh's code, generation and values. -/
def State.chooseRecord (s : State) (c : Nat) : Nat × Nat × Tab Nat :=
  let own := s.flashOf c
  let peer := s.flashOf (1 - c)
  if own.good = true ∧ (peer.good = false ∨ peer.gen ≤ own.gen) then (c, own.gen, own.stored)
  else if peer.good then (1 - c, peer.gen, peer.stored)
  else (2, 0, [])

/-- Writes a table of values into the register file. -/
def State.writeAll (s : State) (t : Tab Nat) : State := { s with regs := t.foldl (fun m e => regSet m (e.1 / 2 ^ 32) (e.1 % 2 ^ 32) e.2) s.regs }

/-- The model restored at a power-on (12 R401): re-verified where it was ready, and the module unpowered for less than 7
days. -/
def State.restoreModel (s : State) (c : Nat) : State :=
  if s.rd 0x0105 0 = 0 ∧ 259200 ≤ (s.flashOf c).model ∧ s.power.offFor < 7 * 86400 * ticksPerSec then s.wr 0x3404 0 2 else s

/-- The active controller applies the fallback configuration (R77); what takes effect at a restart takes it now. -/
def State.applyFallback (s : State) (c : Nat) : State :=
  let (src, gen, t) := s.chooseRecord c
  let s := [0, 1].foldl (fun s k => if (s.flashOf k).good then s else s.fault 6 k) s
  let s := ((s.writeAll t).writeAll (s.flashOf c).anchors).wr 0x010B 0 src |>.wr 0x010C 0 gen
  let s := { s with seed := s.rd 0x1404 0 }.wr 0x1428 0 (s.rd 0x1A13 0)
  let s := s.wr 0x3009 0 ((s.servo.utcGnss.or s.servo.utcPtp).getD (s.rd 0x300A 0))
  let s := s.restoreModel c
  s.updPower (fun q => { q with applied := true, first := s.rd 0x010A 0 % 2, record := t, recordGen := gen })

/-- An entry as restored (17 R520): an occurrence since the start is counted in it. -/
def mergeEntry (old now : FaultEntry) : FaultEntry :=
  if old.set then
    let e := { old with restored := true }
    if now.set then e.occur now.inst now.dt true else e
  else now

/-- The fault record of a start (17 R520): its source, content, generation, and whether the records differ in a set entry. -/
def State.chooseFaults (s : State) (c : Nat) : Nat × Tab FaultEntry × Nat × Bool :=
  let own := s.flashOf c
  let peer := s.flashOf (1 - c)
  match own.faultGood, peer.faultGood with
  | true, true =>
    if own.faults = peer.faults then (0, own.faults, max own.faultGen peer.faultGen, false)
    else
      let (hi, lo) := if peer.faultGen ≤ own.faultGen then (own, peer) else (peer, own)
      let t := lo.faults.foldl (fun m e =>
        if e.2.set = true ∧ (Tab.get FaultEntry.clear m e.1).set = false then Tab.set m e.1 e.2 else m) hi.faults
      (2, t, hi.faultGen, (List.range 256).any (fun b =>
        let x := Tab.get FaultEntry.clear own.faults b
        let y := Tab.get FaultEntry.clear peer.faults b
        (x.set || y.set) && x != y))
  | true, false => (0, own.faults, own.faultGen, false)
  | false, true => (1, peer.faults, peer.faultGen, false)
  | false, false => (3, [], 0, false)

/-- The active controller restores the fault record (17 R520). -/
def State.restoreFaults (s : State) (c : Nat) : State :=
  let (src, t, gen, differ) := s.chooseFaults c
  let now := s.faults
  let m := (List.range 256).foldl (fun m b =>
    let e := mergeEntry (Tab.get FaultEntry.clear t b) (Tab.get FaultEntry.clear now b)
    if e.set then Tab.set m b e else m) []
  let s := ({ s with faults := m, recordAt := s.clk }.wr 0x3E09 0 src).wr 0x3E0A 0 gen
  if differ then (s.inc 0x3E0E 0).fault 234 moduleInst else s

/-! ### Powering domains (R64, R65) -/

/-- Every port group is on. -/
def State.groupsOn (s : State) : Bool := (List.range 8).all (fun g => s.isOn (domGroup g))

/-- The condition of R64 under which a domain is powered during the start. -/
def State.startCondition (s : State) (d : Nat) : Bool :=
  if d = 12 ∨ d = 10 ∨ d = 11 then s.power.mains.isSome && !s.stageAtLeast 0
  else if 2 ≤ d then
    s.power.applied && !s.stageAtLeast 1 && s.isOn 12 && (decide (d < 4) || (s.isOn ((d - 2) / 2 * 2) && s.isOn ((d - 2) / 2 * 2 + 1)))
  else if d = s.power.first then s.groupsOn && s.stageAtLeast 0 && !s.stageAtLeast 1
  else s.stageAtLeast 1 && !s.stageAtLeast 2 && !s.flag 0x0108 0 && s.isOn s.power.first && s.rd 0x281F s.power.first == 3

/-- A domain may be powered: the DC bus is in regulation, and the start, a command or the return of its supply calls for it. -/
def State.mayPower (s : State) (d : Nat) : Bool :=
  s.busUp && s.power.gasp.isNone &&
    (s.dom d == 1 || (s.dom d == 0 && (s.power.lost.contains d || s.startCondition d)))

/-- The offset that the majority of the ten local copies shows, 0 where there is none (12 R372). -/
def State.copyMajority (s : State) : Int :=
  let o := (List.range 10).map (fun k => Tab.get 0 s.time.copies k)
  (o.find? (fun x => decide (5 < (o.filter (fun y => y == x)).length))).getD 0

/-- Domain K is powered: RC starts at 0, or at the majority of the local copies, which have gone on counting (12 R364, R372). -/
def State.powerK (s : State) : State × Nat :=
  let s := (s.wr 0x300C 0 1).wr 0x300C 1 1
  if s.time.running then
    let m := s.copyMajority
    let rc := (((s.rc : Int) + m) % (2 : Int) ^ 72).toNat
    let t := { s.time with copies := s.time.copies.map (fun e => (e.1, e.2 - m)) }
    ({ s with time := t, servo := { s.servo with idleSince := if s.timed then s.clk else s.servo.idleSince } }.wr 0x3400 0 1, rc)
  else ({ s with time := { Time.init with running := true } }, 0)

/-- A port group is powered: its ports take the configuration in force and train when the module forwards (R86, R562). Its
lasers have the states they had: notes/assumptions/62.md. -/
def State.powerGroup (s : State) (g : Nat) : State :=
  let ports := (List.range 18).map (fun k => 18 * g + k)
  let s := ports.foldl (fun s i => s.wr 0x0806 i (s.rd 0x0801 i)) s
  ports.foldl (fun s i => if s.flag 0x0800 i then s.light i else s) (s.keepSpare g)

/-- A plane is powered: empty, and its self-test to come; the first plane takes frames from RC 0 on. -/
def State.powerPlane (s : State) (p : Nat) : State :=
  let s := s.updPl p (fun _ => Plane.init)
  (s.updPower (fun q => { q with tests := Tab.del q.tests p })).leaveBond p 0

/-- A controller is powered, and runs boot ROM. -/
def State.powerController (s : State) (c : Nat) : State := s.controllerOff c 1

/-- A domain comes on, after a start or a restart of its own. -/
def State.powerDomain (s : State) (d : Nat) : State × Nat :=
  let again := s.dom d == 1 || s.power.lost.contains d
  let s := (s.setDom d 2).releaseBoundary d
  let s := s.updPower (fun q => { q with lost := q.lost.filter (fun x => x != d) })
  let s := if again && d < 10 then s.raiseEpoch d else s
  if d = 12 then (s.clockOn 12).powerK
  else
    let s := if 10 ≤ d then s.powerController (d - 10)
      else if 2 ≤ d then s.powerGroup (d - 2)
      else s.powerPlane d
    let s := s.clockOn d
    let s := if s.rd 0x281F d = 5 ∧ d < 2 then s.setDom d 4 else s
    match Tab.find? s.domOps d with
    | some o => ({ s with domOps := Tab.del s.domOps d }.owe o.who stOk [], s.rc)
    | none => (s, s.rc)

/-- DOMAIN_POWERED (R64). -/
def domainPowered (d : Nat) (s : State) : State × Nat := if s.mayPower d then s.powerDomain d else (s, s.rc)

/-! ### Controllers start (R75) -/

/-- CONTROLLER_BOOT (R75): the outcome of the bank signatures, and whether the two records' CRCs hold. A controller that had
isolated itself stays so until it sees its peer's heartbeat (11 R347); one that finds no peer running has no counters to
reload (17 R506). -/
def controllerBoot (c : Nat) (bank0 bank1 recordOk faultsOk : Bool) (s : State) : State :=
  if s.isOn (domCtl c) = true ∧ s.ctlState c = 1 then
    let b := s.rd 0x0008 c % 2
    let ok (k : Nat) : Bool := if k = 0 then bank0 else bank1
    let s := { s with flash := Tab.upd Flash.init s.flash c (fun f => { f with good := f.good && recordOk, faultGood := f.faultGood && faultsOk }) }
    if ok b = true ∨ ok (1 - b) = true then
      let cold := (s.ctl c).cold
      let s := ((s.wr 0x0301 c 2).wr 0x0007 c (if ok b then b else 1 - b)).stamp 0x031E c
      let s := s.updCtl c (fun q => { q with beats := true, bootAt := s.clk, cold := false, asking := none })
      if (s.ctl c).lone = true ∧ (s.ctl (1 - c)).beats = false then
        ((s.wr 0x0301 c 6).updCtl c (fun q => { q with beats := false, lastPulse := s.clk })).fault 169 c
      else
        let s := s.updCtl c (fun q => { q with lone := false })
        if cold = false ∧ s.runs (1 - c) = false then (s.zeroControllerCounters).raiseEpoch (domCtl c) else s
    else s.wr 0x0301 c 6
  else s

/-- CONTROLLER_BOOT (R75). -/
def execControllerBoot (el : Nat) (ctl : CtlNo) (bank0 bank1 recordOk faultsOk : Bool) (s : State) : Out :=
  s.run el (controllerBoot ctl.val bank0 bank1 recordOk faultsOk)

/-- A controller becomes active at a start: it applies the fallback configuration and restores the fault record. -/
def State.startActive (s : State) (c : Nat) : State :=
  let s := (s.wr 0x0300 0 c).wr 0x0301 c 5
  if s.stageAtLeast 0 = true ∧ s.power.applied = false then (s.applyFallback c).restoreFaults c else s

/-! ### The stages (R66) -/

/-- ENTER_FOOTING (R66). -/
def enterFooting (s : State) : State :=
  if s.power.mains.isSome = true ∧ s.stageAtLeast 0 = false ∧ s.busUp = true ∧ s.isOn 12 = true ∧ s.isOn 10 = true ∧ s.isOn 11 = true then
    let s := s.enterStage 0
    match s.holder with
    | some c => s.startActive c
    | none => s
  else s

/-- ENTER_FOOTING (R66). -/
def execEnterFooting (el : Nat) (s : State) : Out := s.run el enterFooting

/-- The values that slot V0 holds at Sill (05 R165). -/
def State.sillImage (s : State) : Tab Nat := s.regs.filter (fun e => decide (0x101D ≤ e.1 / 2 ^ 32 ∧ e.1 / 2 ^ 32 ≤ 0x101F))

/-- Plane `p` forwards alone from Sill on (R69, R72): version V0, static entries, then the ports. -/
def State.firstForwards (s : State) (p : Nat) : State :=
  let s := { s.wr 0x281F p 3 with joins := Tab.set s.joins p 0 }
  let s := s.installStatic
  (List.range 144).foldl (fun s i => if s.flag 0x0800 i then s.light i else s) s

/-- Both planes have failed their self-tests (R72). -/
def State.bothFailed (s : State) : Bool := [0, 1].all (fun p => Tab.find? s.power.tests p == some false)

/-- ENTER_SILL (R66). -/
def enterSill (s : State) : State :=
  let p := s.power.first
  if s.stageAtLeast 0 = true ∧ s.stageAtLeast 1 = false ∧ s.power.applied = true ∧ s.groupsOn = true ∧
      (s.bothFailed = true ∨ (s.isOn p = true ∧ Tab.find? s.power.tests p = some true)) then
    let s := s.enterStage 1
    let img := s.sillImage
    let s := { s.updSlot 0 (fun x => { x.freed with state := .active, image := img }) with latest := img, latestSlot := 0 }
    if s.isOn p then s.firstForwards p
    else (List.range 144).foldl (fun s i => if s.flag 0x0800 i then s.light i else s) s
  else s

/-- ENTER_SILL (R66). -/
def execEnterSill (el : Nat) (s : State) : Out := s.run el enterSill

/-- A judgement of plane `p` is recorded (11 R339, R341: PIDs 2823h to 2825h). -/
def State.recordJudgement (s : State) (p cause : Nat) : State := ((s.inc 0x2823 p).wr 0x2824 p cause).stamp 0x2825 p

/-- A plane is judged faulty (11 R342): the judgements of the last 24 h, with this one. -/
def State.noteJudged (s : State) (p : Nat) : State × Nat :=
  let recent := (s.clk :: Tab.get [] s.judge.judged p).filter (fun t => decide (s.clk < t + 86400 * ticksPerSec))
  (({ s with judge := { s.judge with judged := Tab.set s.judge.judged p recent } }).wr 0x282B p recent.length, recent.length)

/-- A plane is left isolated where its judgements reach the repeat limit (11 R342). -/
def State.repeatLimit (s : State) (p n : Nat) : State := if s.rd 0x281E 0 ≤ n then (s.wr 0x281F p 5).fault 163 p else s

/-- A reseed whose copy begins now: the tables take at most the 4 s of 06 R207, to an instant that the spec leaves open, and the store
follows. -/
def State.beginCopy (s : State) (r : Reseed) : State :=
  let (s, d) := s.draw
  { s with reseed := some { r with copyFrom := s.clk, storeFrom := s.clk + Config.freeValue d % (4 * ticksPerSec) } }

/-- A plane's reseed loads: it takes no frames until its join RC (R86, 11 R341). -/
def State.startLoading (s : State) (p cause : Nat) : State :=
  let s := s.beginCopy (s.reseed.getD ⟨p, cause, false, s.clk, none, 0, 0⟩)
  ((s.wr 0x2826 0 3).wr 0x2827 0 p).leaveBond p 1

/-- A plane passes its self-test. -/
def State.testPassed (s : State) (p : Nat) : State :=
  let s := s.updPower (fun q => { q with tests := Tab.set q.tests p true })
  if s.stageAtLeast 1 then
    if s.forwards then s.startLoading p 0
    else ((s.updPower (fun q => { q with first := p })).firstForwards p)
  else s

/-- A plane fails its self-test: isolated and recorded (R69, R71; 11 R339). -/
def State.testFailed (s : State) (p : Nat) : State :=
  let s := s.updPower (fun q => { q with tests := Tab.set q.tests p false, retryAt := s.clk })
  let (s, n) := s.noteJudged p
  let s := (((((s.setDom (domPlane p) 4).leaveBond p 4).recordJudgement p 7).fault 5 p).fault 160 p).repeatLimit p n
  if s.stageAtLeast 1 = false ∧ s.power.first = p ∧ Tab.find? s.power.tests (1 - p) ≠ some false then
    s.updPower (fun q => { q with first := 1 - p })
  else s

/-- SELF_TEST_COMPLETE (R69, R71). -/
def selfTestComplete (p : Nat) (pass : Bool) (s : State) : State :=
  if s.isOn (domPlane p) = true ∧ Tab.find? s.power.tests p = none then
    if pass then s.testPassed p else s.testFailed p
  else s

/-- SELF_TEST_COMPLETE (R69). -/
def execSelfTestComplete (el : Nat) (plane : PlaneNo) (pass : Bool) (s : State) : Out := s.run el (selfTestComplete plane.val pass)

/-- SELF_TEST_RETRY (R72): both planes are cycled every 10 min. -/
def selfTestRetry (s : State) : State :=
  if s.stageAtLeast 1 = true ∧ s.bothFailed = true ∧ s.power.retryAt + 600 * ticksPerSec ≤ s.clk then
    [0, 1].foldl (fun s p => (s.planeOff p).setDom (domPlane p) 1) s
  else s

/-- SELF_TEST_RETRY (R72). -/
def execSelfTestRetry (el : Nat) (s : State) : Out := s.run el selfTestRetry

/-- The restored state of R78, as the changes to V0's image. -/
def State.restoredBundle (s : State) (c : Nat) : Tab Nat :=
  (s.flashOf c).active.filter (fun e => decide (e.1 / 2 ^ 32 < 0x101D) || decide (0x101F < e.1 / 2 ^ 32))

/-- The first bond state of R70 ends: the first plane is bonded. -/
def State.joinFirst (s : State) : State := [0, 1].foldl (fun s p => if s.rd 0x281F p = 3 then s.wr 0x281F p 2 else s) s

/-- Bundles in the order of their activation instants (R78). -/
def byInstant : List Kept → List Kept
  | [] => []
  | k :: l => let r := byInstant l; r.takeWhile (fun x => decide (x.instant < k.instant)) ++ k :: r.dropWhile (fun x => decide (x.instant < k.instant))

/-- The entry into Bonded (R66, R78): the restored state in one version, the bundles to re-arm, gates and coursing. -/
def State.becomeBonded (s : State) : State :=
  let s := (((s.enterStage 2).joinFirst).loadShapers 0).loadShapers 1
  let s := if 40000 < s.msOfStart then s.fault 7 moduleInst else s
  let c := s.active
  let s := s.updPower (fun q => { q with rearm := byInstant (s.flashOf c).kept })
  let b := s.restoredBundle c
  let s := if b.isEmpty then s else ((s.beginCommit .restored 0 b none).1).advanceCommit
  let s := (List.range 144).foldl (fun s i => if s.flag 0x2200 i then s.enableGates i else s) s
  s.startCoursing

/-- ENTER_BONDED (R66): the second plane is bonded, or isolated under R71. -/
def enterBonded (s : State) : State :=
  let p := 1 - s.power.first
  if s.stageAtLeast 1 = true ∧ s.stageAtLeast 2 = false ∧ s.flag 0x0108 0 = false ∧ s.rd 0x281F s.power.first = 3 ∧
      (s.rd 0x281F p = 2 ∨ s.dom (domPlane p) = 4) then s.becomeBonded
  else s

/-- ENTER_BONDED (R66). -/
def execEnterBonded (el : Nat) (s : State) : Out := s.run el enterBonded

/-- SECOND_PLANE_TIMEOUT (R71): isolated, and Bonded with one plane. -/
def secondPlaneTimeout (s : State) : State :=
  let p := 1 - s.power.first
  if s.stageAtLeast 1 = true ∧ s.stageAtLeast 2 = false ∧ s.flag 0x0108 0 = false ∧ s.rd 0x281F s.power.first = 3 ∧
      s.rd 0x281F p ≠ 2 ∧ s.power.mains.getD s.clk + 40 * ticksPerSec ≤ s.clk then
    let (s, n) := s.noteJudged p
    let s := { (((s.setDom (domPlane p) 4).leaveBond p 4).fault 5 p).repeatLimit p n with reseed := none }
    (((s.recordJudgement p 7).wr 0x2826 0 0).wr 0x2827 0 0xFF).becomeBonded
  else s

/-- SECOND_PLANE_TIMEOUT (R71). -/
def execSecondPlaneTimeout (el : Nat) (s : State) : Out := s.run el secondPlaneTimeout

/-- BUNDLE_REARM (R78): the bundle of earliest instant takes a free slot as a COMMIT would. It stays in flash, and waits here, until it
is armed; one that fails a check of R157 is not tried again before the next start. -/
def bundleRearm (s : State) : State :=
  match s.power.rearm with
  | k :: rest =>
    if s.stageAtLeast 2 = true ∧ s.dtValid = true ∧ s.committing = none ∧ s.freeSlot.isSome = true then
      match s.beginCommit .restored k.token k.bundle (some k.instant) with
      | (s, 0) => s.advanceCommit
      | (s, _) => s.updPower (fun q => { q with rearm := rest })
    else s
  | [] => s

/-- BUNDLE_REARM (R78). -/
def execBundleRearm (el : Nat) (s : State) : Out := s.run el bundleRearm

/-- ENTER_TOPPED_OUT (R66, R80). -/
def enterToppedOut (s : State) : State :=
  if s.stageAtLeast 2 = true ∧ s.stageAtLeast 3 = false ∧ s.rd 0x3400 0 = 2 ∧ (s.flag 0x0109 0 = false ∨ s.flag 0x0125 0 = true) then
    s.enterStage 3
  else s

/-- ENTER_TOPPED_OUT (R66). -/
def execEnterToppedOut (el : Nat) (s : State) : Out := s.run el enterToppedOut

/-- STAGE_FALL_BACK (R73): the servo is neither locked nor in holdover. -/
def stageFallBack (s : State) : State := if s.stageAtLeast 3 = true ∧ s.timed = false then s.wr 0x0100 0 2 else s

/-- STAGE_FALL_BACK (R73). -/
def execStageFallBack (el : Nat) (s : State) : Out := s.run el stageFallBack

/-! ### Domain control (R83 to R86) -/

/-- The outcome of a request: answered now; accepted, with its completion owed by an operation; or answered later. -/
inductive Verdict where
  | done (status : Nat) (payload : List Byte)
  | accepted
  | later
  deriving DecidableEq, Repr

/-- A refusal. -/
def Verdict.refuse (status : Nat) : Verdict := .done status []

/-- Step 1 of R85: no new work is aimed at a domain, which reports draining. The links of a port group are down for admission
from now on (08 R269); what its ports already send completes. -/
def State.drainDomain (s : State) (d : Nat) : State :=
  let s := s.setDom d 3
  if d < 2 then s.leaveBond d 0
  else (List.range 18).foldl (fun s k =>
    let i := 18 * (d - 2) + k
    let s := (s.countRxDiscard i).stopReception i
    if s.link i = 0 then s else s.setLink i 1) s

/-- A write of PID 010Dh (R83, R84): 1 down, 2 up, 3 cycle. -/
def State.domainControl (s : State) (d v : Nat) (w : Option Who) : State × Verdict :=
  if s.stageAtLeast 2 = false then (s, .refuse stBusy)
  else if d < 2 ∧ v ≠ 2 ∧ s.isOn (domPlane (1 - d)) = false then (s, .refuse stInterlock)
  else if (Tab.find? s.domOps d).isSome = true ∨ s.dom d = 1 ∨ (d < 2 ∧ s.reseed.isSome = true) then (s, .refuse stBusy)
  else
    let op : DomOp := ⟨v, s.clk, w⟩
    let noted (s : State) : State := { s with domOps := Tab.set s.domOps d op }
    match v with
    | 2 => if s.isOn d then (s.owe w stOk [], .accepted) else (noted (s.setDom d 1), .accepted)
    | _ =>
      if s.dom d = 0 then
        if v = 1 then (s.owe w stOk [], .accepted) else (noted (s.setDom d 1), .accepted)
      else (noted (s.drainDomain d), .accepted)

/-- An operation on a domain ends because its supply failed, or a reseed takes the plane over. -/
def State.failOp (s : State) (d : Nat) : State :=
  match Tab.find? s.domOps d with
  | some o => { s with domOps := Tab.del s.domOps d }.owe o.who stInternal []
  | none => s

/-- Power is removed from a domain. -/
def State.domainOff (s : State) (d : Nat) : State := if d < 2 then s.planeOff d else s.groupOff (d - 2)

/-- A channel is still moving bytes of a descriptor aimed at a domain: neither at a boundary nor aborted (R85, 15 R475). -/
def State.hodBusy (s : State) (d : Nat) : Bool :=
  (List.range 32).any (fun n => match (s.chan n).cur with
    | some x => (descDomains x).contains d && (s.chanState n == 1 || s.chanState n == 3)
    | none => false)

/-- DOMAIN_POWER_DOWN_COMPLETE (R85): off, or powered again by a cycle; a judged plane's cycle goes on (11 R341). -/
def domainPowerDownComplete (d : Nat) (s : State) : State :=
  if s.hodBusy d then s
  else
    match Tab.find? s.domOps d with
    | some o =>
      if s.dom d = 3 then
        let s := s.domainOff d
        if o.kind = 3 then s.setDom d 1 else { s.setDom d 0 with domOps := Tab.del s.domOps d }.owe o.who stOk []
      else s
    | none =>
      match s.reseed with
      | some r => if r.plane = d ∧ r.cycle = true ∧ s.rd 0x2826 0 = 1 then ((s.planeOff d).setDom d 1).wr 0x2826 0 2 else s
      | none => s

/-- Both controllers are without power: the latch reads none (11 R344). -/
def State.loseToken (s : State) : State := { s.wr 0x0302 0 0 with silence := some s.clk }

/-- POWER_DOMAIN_LOSS (01 R17): a plane, a port group or a controller; it returns when its supply does. -/
def powerDomainLoss (d : Nat) (s : State) : State :=
  if s.dom d = 0 then s
  else
    let s := (s.failOp d).updPower (fun q => { q with lost := d :: q.lost })
    let s := if 10 ≤ d then ((s.controllerOff (d - 10) 0).clockOff d).advanceCommit else s.domainOff d
    let s := ((if d < 2 then s.dropCommit stInterlock else s).setDom d 0)
    if 10 ≤ d ∧ s.dom (21 - d) = 0 then s.loseToken else s

end Sys2Proof.Machine
end

