-- ==== Sys2Proof/Machine/Control.lean ====
section
/-! DEFINITION. Judging and reseeding planes, the mortar line and its controllers (11 R338 to R352). -/

namespace Sys2Proof.Machine

/-! ### Reseeds (R338, R341, R343) -/

/-- Both planes are bonded. -/
def State.bothBonded (s : State) : Bool := s.bonded 0 && s.bonded 1

/-- A plane is isolated (R341): refused by the bond, and replicated to no more. -/
def State.isolate (s : State) (p v : Nat) : State := { (s.wr 0x281F p v).setDom (domPlane p) 4 with joins := Tab.set s.joins p neverJoins }

/-- The sequence of R341 begins: with or without a power cycle. A plane without power is powered. A slot that is loading is
given up (05 R160). -/
def State.startReseed (s : State) (p cause : Nat) (cycle : Bool) (w : Option Who) : State :=
  let off := s.dom (domPlane p) == 0
  let s := ((s.failOp (domPlane p)).dropCommit stInterlock).isolate p 4
  let s := s.beginCopy ⟨p, cause, cycle, s.clk, w, 0, 0⟩
  let s := (s.wr 0x2827 0 p).wr 0x2826 0 (if off then 2 else if cycle then 1 else 3)
  if off then s.setDom (domPlane p) 1 else s

/-- A judgement of R339: recorded, and followed by R341, or by R342 at the repeat limit. -/
def State.judgePlane (s : State) (p cause : Nat) : State :=
  let (s, n) := s.noteJudged p
  let s := (s.recordJudgement p cause).fault 160 p
  if s.rd 0x281E 0 ≤ n then (((s.dropCommit stInterlock).isolate p 5).fault 163 p)
  else if s.rd 0x281D 0 = 0 then (s.dropCommit stInterlock).isolate p 4
  else s.startReseed p cause true none

/-- The planes that meet a condition in one window are judged (R339): B alone where both do, A's judgement withheld. -/
def State.judgeBoth (s : State) (a b : Option Nat) : State :=
  if s.bothBonded = true ∧ s.reseed = none then
    match a, b with
    | some x, some y => { s with judge := { s.judge with withheld := some x } }.judgePlane 1 y
    | some x, none => s.judgePlane 0 x
    | none, some y => s.judgePlane 1 y
    | none, none => s
  else s

/-- A request of PLANE_RESEED (R343), its role checked: cause 6. -/
def State.planeReseed (s : State) (p : Nat) (cycle : Bool) (w : Option Who) : State × Verdict :=
  if s.stageAtLeast 2 = false ∨ s.reseed.isSome = true then (s, .refuse stBusy)
  else if s.bonded (1 - p) then ((s.recordJudgement p 6).startReseed p 6 cycle w, .accepted)
  else (s, .refuse stInterlock)

/-- Every slot in use reaches a reseeded plane with its activation RC (05 R165). -/
def State.copySlots (s : State) (p : Nat) : State :=
  { s with slots := s.slots.map (fun e => (e.1, if p = 0 then { e.2 with actA := e.2.actRC } else { e.2 with actB := e.2.actRC })) }

/-- RESEED_COMPLETE (R338): tables and slots are there, and the join RC is set 8,000 ticks ahead. -/
def reseedComplete (p : Nat) (s : State) : State :=
  match s.reseed with
  | some r =>
    if r.plane = p ∧ s.rd 0x2826 0 = 3 ∧ s.isOn (domPlane (1 - p)) = true ∧ (s.dom (domPlane p) = 2 ∨ s.dom (domPlane p) = 4) then
      let join := s.rc + 8000
      let s := s.wr 0x1448 0 ((s.clk - r.copyFrom) / ticksPerMs)
      let s := { ((s.copyTables p).copySlots p).wr 0x281F p 1 with joins := Tab.set s.joins p join }
      ((s.setDom (domPlane p) 2).wr 0x282A 0 join).wr 0x2826 0 4
    else s
  | none => s

/-- RESEED_COMPLETE (R338). -/
def execReseedComplete (el : Nat) (plane : PlaneNo) (s : State) : Out := s.run el (reseedComplete plane.val)

/-- No reseed runs any longer. -/
def State.endReseed (s : State) : State := ({ s with reseed := none }.wr 0x2826 0 0).wr 0x2827 0 0xFF

/-- The duration of a reseed in ms. -/
def State.reseedMs (s : State) (r : Reseed) : Nat := (s.clk - r.since) / ticksPerMs

/-- PLANE_JOIN (R338): the join RC is reached; a judgement withheld from plane A follows when B rejoins (R339). -/
def planeJoin (p : Nat) (s : State) : State :=
  match s.reseed with
  | some r =>
    if r.plane = p ∧ s.rd 0x2826 0 = 4 ∧ Tab.get 0 s.joins p ≤ s.rc then
      let s := (s.wr 0x281F p 2).inc 0x2828 p
      let s := (s.wr 0x2829 p (s.reseedMs r)).endReseed
      let s := { s with judge := { s.judge with reseeded := Tab.set s.judge.reseeded p s.clk } }
      let s := s.owe r.who stOk (toBytes 4 (s.reseedMs r))
      let s := if s.stageAtLeast 2 then s.joinFirst.loadShapers p else s
      match p, s.judge.withheld with
      | 1, some c => { s with judge := { s.judge with withheld := none } }.judgeBoth (some c) none
      | _, _ => s
    else s
  | none => s

/-- RESEED_TIMEOUT (R341): the plane has not rejoined within 30 s. -/
def reseedTimeout (p : Nat) (s : State) : State :=
  match s.reseed with
  | some r =>
    if r.plane = p ∧ s.stageAtLeast 2 = true ∧ r.since + 30 * ticksPerSec ≤ s.clk then
      let s := ((s.isolate p 4).endReseed).fault 164 p
      s.owe r.who stInternal (toBytes 4 (s.reseedMs r))
    else s
  | none => s

/-! ### JUDGEMENT_WINDOW (R339, R340) -/

/-- Silence of plane `p` in the 1 ms window `w`. -/
def State.silent (s : State) (w p : Nat) : Bool :=
  (Tab.get .none s.judge.copies p).inWin w == 0 && decide (s.rd 0x2817 0 ≤ (Tab.get .none s.judge.copies (1 - p)).inWin w)

/-- The ports from which plane `p` is absent in the 10 ms window `w` (PID 2821h). -/
def State.absentPorts (s : State) (w p : Nat) : Nat :=
  ((List.range 144).filter (fun e =>
    (Tab.get .none s.judge.byPort (pInst p e)).inWin w == 0 &&
      decide (s.rd 0x2818 0 ≤ (Tab.get .none s.judge.byPort (pInst (1 - p) e)).inWin w))).length

/-- Counts the 10 ms windows in a row in which a plane is absent from enough ports; a window counts once. -/
def State.countAbsence (s : State) (w p : Nat) : State :=
  let old := Tab.get (0, 0) s.judge.absent p
  if old.1 = w + 1 then s
  else
    let n := s.absentPorts w p
    let k := if n < s.rd 0x2819 0 then 0 else if old.1 = w then old.2 + 1 else 1
    { s.wr 0x2821 p n with judge := { s.judge with absent := Tab.set s.judge.absent p (w + 1, k) } }

/-- The absences of the 10 ms window that has ended. -/
def State.countAbsences (s : State) : State :=
  if s.rc < 4000000 then s else (s.countAbsence (s.rc / 4000000 - 1) 0).countAbsence (s.rc / 4000000 - 1) 1

/-- The consecutive windows of absence of a plane up to the window that has ended. -/
def State.absence (s : State) (p : Nat) : Nat :=
  let a := Tab.get (0, 0) s.judge.absent p
  if a.1 = s.rc / 4000000 then a.2 else 0

/-- The count of a 1 s window: the present one, or the one that has ended. -/
def State.inSecond (s : State) (c : WinCount) : Nat :=
  max (c.inWin (s.rc / 400000000)) (if s.rc < 400000000 then 0 else c.inWin (s.rc / 400000000 - 1))

/-- The condition of R339 that plane `p` meets: in the present 1 s window or the one that has ended, or in the 1 ms and 10 ms
windows that have just ended. -/
def State.judgement (s : State) (p : Nat) : Option Nat :=
  if s.rd 0x2816 0 ≤ s.inSecond (Tab.get .none s.judge.integ p) then some 1
  else if 400000 ≤ s.rc ∧ s.silent (s.rc / 400000 - 1) p = true then some 2
  else if s.rd 0x281A 0 ≤ s.absence p then some 3
  else none

/-- The plane that a systematic divergence reseeds (R340). -/
def State.divergentPlane (s : State) : Nat :=
  let recent (b p : Nat) : Bool :=
    let e := Tab.get FaultEntry.clear s.faults b
    e.set && e.inst == p && decide (s.dt < decDT e.dt + nsUnits 60000000000)
  let n (p : Nat) : Nat := ([80, 96, 113, 144].filter (fun b => recent b p)).length
  let last (p : Nat) : Nat := Tab.get 0 s.judge.reseeded p
  if n 0 ≠ n 1 then (if n 1 < n 0 then 0 else 1)
  else if last 0 ≠ last 1 then (if last 1 < last 0 then 0 else 1)
  else 1 - s.rd 0x010A 0 % 2

/-- JUDGEMENT_WINDOW (R339, R340). -/
def judgementWindow (s : State) : State :=
  if s.holder.isSome = true ∧ s.bothBonded = true then
    let s := s.countAbsences
    let s := s.judgeBoth (s.judgement 0) (s.judgement 1)
    if s.bothBonded = true ∧ s.reseed = none ∧ s.rd 0x281C 0 = 1 ∧ s.rd 0x281B 0 ≤ s.inSecond s.judge.div then
      let p := s.divergentPlane
      ((s.recordJudgement p 5).fault 161 p).startReseed p 5 false none
    else s
  else s

/-- Whether plane `p` holds an activation RC that differs from the controller's record (05 R166). -/
def State.activationDiffers (s : State) (p : Nat) : Bool :=
  s.bonded p && s.slots.any (fun e =>
    (e.2.state == .armed || e.2.state == .active || e.2.state == .draining) && (if p = 0 then e.2.actA else e.2.actB) != e.2.actRC)

/-- ACTIVATION_CHECK (05 R166; R339 cause 4). -/
def activationCheck (s : State) : State :=
  let a := s.activationDiffers 0
  let b := s.activationDiffers 1
  let s := if a then s.fault 82 0 else s
  let s := if b then s.fault 82 1 else s
  s.judgeBoth (if a then some 4 else none) (if b then some 4 else none)

/-! ### Heartbeats and the token (R344 to R348) -/

/-- The heartbeat of a controller is absent at its observers: no pulse for 5 ms. -/
def State.heartAbsent (s : State) (c : Nat) : Bool := !(s.ctl c).beats && decide ((s.ctl c).lastPulse + 2000000 ≤ s.clk)

/-- A controller that may request the token: at start, C1 100 ms after leaving boot ROM (03 R75); a standby whose peer's
heartbeat is absent, or to which a role swap hands over. -/
def State.mayRequest (s : State) (c : Nat) : Bool :=
  (s.ctl c).beats &&
    ((s.ctlState c == 2 && (c == 0 || decide ((s.ctl c).bootAt + 40000000 ≤ s.clk))) ||
      ((s.ctlState c == 3 || s.ctlState c == 4) && (s.heartAbsent (1 - c) || (s.swap.isSome && s.holder.isNone))))

/-- The rewrites that waited for an active controller: of rule entries each at a free instant within 1 ms (05 R154), of host entries
within the step (06 R216; notes/assumptions/11.md). -/
def State.resumeRewrites (s : State) : State :=
  let s := s.inService.foldl State.restoreHosts s
  let (s, d) := s.draw
  let due (x : Option Nat) : Option Nat := x.or (some (s.rc + Config.freeValue d % 400001))
  [0, 1].foldl (fun s p => s.updPl p (fun q => { q with badRules := q.badRules.map (fun e => (e.1, due e.2)) })) s

/-- The token is granted; at a start the controller becomes active at once. -/
def State.grant (s : State) (c : Nat) : State :=
  let s := { (s.wr 0x0302 0 (c + 1)).updCtl c (fun q => { q with asking := none }) with silence := none }
  let s := s.resumeRewrites
  if s.power.applied then s else s.startActive c

/-- A controller becomes standby, and its resynchronisation begins (R350). -/
def State.becomeStandby (s : State) (c : Nat) : State :=
  { (s.wr 0x0301 c 3).updCtl c (fun q => { q with asking := none }) with resync := s.clk }

/-- A request is refused: counted, and held; a starting controller that sees its peer becomes standby. -/
def State.refuseToken (s : State) (c : Nat) : State :=
  let s := s.inc 0x0314 0
  if s.ctlState c = 2 ∧ s.heartAbsent (1 - c) = false then s.becomeStandby c
  else s.updCtl c (fun q => { q with asking := q.asking.or (some s.clk) })

/-- TOKEN_REQUEST (R346); `tie` where both controllers request in the same cycle. -/
def tokenRequest (c : Nat) (tie : Bool) (s : State) : State :=
  if s.mayRequest c then
    match s.holder with
    | some h => if h = c then s else s.refuseToken c
    | none =>
      if tie = true ∧ s.mayRequest (1 - c) = true then ((s.inc 0x0315 0).grant 0).refuseToken 1 else s.grant c
  else s

/-- TOKEN_REQUEST (R346). -/
def execTokenRequest (el : Nat) (ctl : CtlNo) (tie : Bool) (s : State) : Out := s.run el (tokenRequest ctl.val tie)

/-- A controller loses the token: the slow-path frames that it holds unresolved are lost, and counted nowhere (06 R195). -/
def State.loseSlowPath (s : State) (c : Nat) : State :=
  (s.bufs.filter (fun e => e.1 / 2 ^ 20 == c && e.2.slow)).foldl (fun s e => s.giveBack e.1) s

/-- HEARTBEAT_LOSS (R345, R346, R349): the latch releases the token of a silent holder, and a running standby is granted it. -/
def heartbeatLoss (c : Nat) (s : State) : State :=
  if s.holder = some c ∧ s.heartAbsent c = true then
    let s := { ((s.cutChannels c).loseSlowPath c).wr 0x0302 0 0 with silence := some s.clk }
    let o := 1 - c
    if (s.ctl o).beats = true ∧ (s.ctlState o = 3 ∨ s.ctlState o = 4) then (s.fault 168 c).grant o else s
  else s

/-- HEARTBEAT_LOSS (R345). -/
def execHeartbeatLoss (el : Nat) (ctl : CtlNo) (s : State) : Out := s.run el (heartbeatLoss ctl.val)

/-- A controller reboots: to boot ROM; a standby's sessions close with it (03 R81). -/
def State.reboot (s : State) (c : Nat) : State :=
  let standby := s.holder != some c
  let s := s.controllerOff c 1
  if standby then (s.closeSessions c).advanceCommit else s

/-- A controller is out of boot ROM and powered. -/
def State.started (s : State) (c : Nat) : Bool := decide (2 ≤ s.ctlState c ∧ s.ctlState c ≤ 5) && s.isOn (domCtl c)

/-- WATCHDOG_EXPIRY (R345). -/
def execWatchdogExpiry (el : Nat) (ctl : CtlNo) (s : State) : Out :=
  s.run el (fun s => if s.started ctl.val then (s.reboot ctl.val).inc 0x0317 ctl.val else s)

/-- DRAM_UNCORRECTABLE (R345, R361). -/
def execDramUncorrectable (el : Nat) (ctl : CtlNo) (s : State) : Out :=
  s.run el (fun s => if s.started ctl.val then ((s.reboot ctl.val).inc 0x031A ctl.val).fault 172 ctl.val else s)

/-- CONTROLLER_ISOLATION (R347): refused for 2 ms with the peer silent, it reboots. -/
def controllerIsolation (c : Nat) (s : State) : State :=
  match (s.ctl c).asking with
  | some t =>
    if s.started c = true ∧ t + 800000 ≤ s.clk ∧ s.holder = some (1 - c) ∧ s.heartAbsent (1 - c) = true then
      ((s.reboot c).inc 0x0316 c).updCtl c (fun q => { q with lone := true })
    else s
  | none => s

/-- CONTROLLER_ISOLATION (R347). -/
def execControllerIsolation (el : Nat) (ctl : CtlNo) (s : State) : Out := s.run el (controllerIsolation ctl.val)

/-- PEER_HEARTBEAT_SEEN (R347). -/
def peerHeartbeatSeen (c : Nat) (s : State) : State :=
  if s.ctlState c = 6 ∧ (s.ctl c).lone = true ∧ (s.ctl (1 - c)).beats = true then
    (s.updCtl c (fun q => { q with lone := false, beats := true })).becomeStandby c
  else s

/-- PEER_HEARTBEAT_SEEN (R347). -/
def execPeerHeartbeatSeen (el : Nat) (ctl : CtlNo) (s : State) : Out := s.run el (peerHeartbeatSeen ctl.val)

/-- CONTROLLER_PAIR_CYCLE (R348): no token and no heartbeat for 60 s; both controllers lose power for 100 ms. -/
def controllerPairCycle (s : State) : State :=
  match s.silence with
  | some t =>
    let quiet (c : Nat) : Bool := !(s.ctl c).beats && decide ((s.ctl c).lastPulse + 2000000 + 60 * ticksPerSec ≤ s.clk)
    if s.holder = none ∧ quiet 0 = true ∧ quiet 1 = true ∧ t + 60 * ticksPerSec ≤ s.clk then
      let s := [0, 1].foldl (fun s c =>
        (((((s.controllerOff c 0).clockOff (domCtl c)).closeSessions c).updCtl c (fun q => { q with cold := true, lone := false })).setDom (domCtl c) 1).raiseEpoch (domCtl c))
        s.zeroControllerCounters
      let s := { (s.wr 0x0105 0 3).wr 0x0300 0 0xFF with faults := [], silence := none }
      s.fault 173 moduleInst
    else s
  | none => s

/-- CONTROLLER_PAIR_CYCLE (R348). -/
def execControllerPairCycle (el : Nat) (s : State) : Out := s.run el controllerPairCycle

/-! ### The mirror (R350) -/

/-- The standby. -/
def State.standby (s : State) : Nat := 1 - s.active

/-- MIRROR_TIMEOUT (R350): an acknowledgement has taken more than 2 ms. A commit in phase 1 goes on without it where changes by a
single controller are allowed (PID 0313h); else it waits for the acknowledgement of the resynchronised standby (01 R16). -/
def mirrorTimeout (s : State) : State :=
  if s.standbyReady then
    let c := s.standby
    (((s.becomeStandby c).inc 0x0310 0).fault 170 c).advanceCommit
  else s

/-- What the standby's flash takes over from the active controller's: all but the fault record, which each writes when it is
ordered to (17 R520). -/
def Flash.takeOver (f g : Flash) : Flash := { f with stored := g.stored, gen := g.gen, good := true, anchors := g.anchors, active := g.active, kept := g.kept, model := g.model, lastDT := g.lastDT }

/-- RESYNCHRONISATION_COMPLETE (R350). -/
def resynchronisationComplete (s : State) : State :=
  let c := s.standby
  if s.holder.isSome = true ∧ s.ctlState c = 3 then
    let f := s.flashOf s.active
    let s := { s with flash := Tab.upd Flash.init s.flash c (fun g => g.takeOver f) }
    ((s.wr 0x0301 c 4).inc 0x0311 0).wr 0x0312 0 ((s.clk - s.resync) / ticksPerMs)
  else s

/-! ### Role swaps (R352) -/

/-- The conditions under which a swap is refused. -/
def State.swapBarred (s : State) : Bool := !s.standbyReady || s.rd 0x103E 0 != 0 || s.reseed.isSome || s.swap.isSome

/-- A role swap begins: the active controller accepts no further requests. -/
def State.beginSwap (s : State) (cause : Nat) (w : Option Who) : State := { s with swap := some ⟨cause, s.clk, w⟩, swapAt := s.clk }

/-- The UTC day, counted from the time of PID 030Ah. -/
def State.utcDay (s : State) : Int := floorDiv (floorDiv s.dt (nsUnits 1000000000) - signed 16 (s.rd 0x3009 0) - s.rd 0x030A 0) 86400

/-- A scheduled swap is due: at its time of the day, 24 h after the last one while DT is not valid, or a retry. -/
def State.swapDue (s : State) : Bool :=
  s.flag 0x0309 0 && s.fw.step == 0 &&
    (if s.swapTries ≠ 0 then decide (s.swapAt + 60 * ticksPerSec ≤ s.clk)
     else if s.dtValid then decide (s.swapDay < s.utcDay)
     else decide (s.swapAt + 86400 * ticksPerSec ≤ s.clk))

/-- SCHEDULED_ROLE_SWAP (R352): `swapTries` counts the attempts that met an interlock. -/
def scheduledRoleSwap (s : State) : State :=
  if s.holder.isSome = true ∧ s.stageAtLeast 2 = true ∧ s.swapDue = true then
    let s := { s with swapDay := if s.dtValid then s.utcDay else s.swapDay }
    if s.swapBarred then
      if s.swapTries = 60 then ({ s with swapTries := 0, swapAt := s.clk }.inc 0x030D 0).fault 171 s.active
      else { s with swapTries := s.swapTries + 1, swapAt := s.clk }
    else { s with swapTries := 0 }.beginSwap 2 none
  else s

/-- SCHEDULED_ROLE_SWAP (R352). -/
def execScheduledRoleSwap (el : Nat) (s : State) : Out := s.run el scheduledRoleSwap

/-- A ROLE_SWAP request (R352), its role checked. -/
def State.roleSwap (s : State) (w : Option Who) : State × Verdict :=
  if s.swapBarred then (s, .refuse stInterlock) else (s.beginSwap 3 w, .accepted)

/-! ### Resets by request (03 R81, R82) -/

/-- The standby is reset by request (R81): it reboots, and a commit it has not acknowledged may go on (11 R350). -/
def State.rebootStandby (s : State) (c : Nat) : State := s.reboot c

/-- PID 0107h value 2 where the active controller receives it (R82): INTERLOCK, and no effect. -/
def State.resetStandby (s : State) : State × Verdict := (s, .refuse stInterlock)

end Sys2Proof.Machine
end

