-- ==== Sys2Proof/Machine/Servo.lean ====
section
/-! DEFINITION. The timebase and its triples, the servo, its sources and holdover (12 R364 to R382, R400 to R402). -/

namespace Sys2Proof.Machine

/-! ### Triples (R368, R369) -/

/-- A new triple: its switch RC is the switch lead ahead; its base continues the outgoing triple, plus a step. It replaces a
pending one whose switch is 10 µs or more ahead, and waits behind it otherwise. -/
def State.putTriple (s : State) (step rho : Int) : State :=
  let r := s.rc + s.rd 0x3008 0 * 400
  match s.time.next with
  | some (t, r') =>
    if s.rc + 4000 ≤ r' then { s with time := { s.time with next := some (⟨r, s.time.triple.dtOf r + step, rho⟩, r) } }
    else { s with time := { s.time with queued := some (⟨r, t.dtOf r + step, rho⟩, r) } }
  | none => { s with time := { s.time with next := some (⟨r, s.time.triple.dtOf r + step, rho⟩, r) } }

/-- A triple of the servo: its rate, which the spec does not compute, is a free value (R377, R400). -/
def State.servoTriple (s : State) (step : Int) : State :=
  let (s, d) := s.draw
  s.putTriple step (Config.servoRho d).toInt

/-- TRIPLE_SWITCH (R368, R381): every holder changes over; timed outputs resume 1 µs later, and a step sets the day of the
scheduled swap anew. -/
def tripleSwitch (s : State) : State :=
  match s.time.next with
  | some (t, r) =>
    if r ≤ s.rc then
      let before := s.dt
      let s := ({ s with time := { s.time with triple := t, next := s.time.queued, queued := none } }.inc 0x3006 0).stamp 0x3007 0
      let s := { s with tio := { s.tio with notBefore := s.dt + nsUnits 1000 } }
      if s.dt < before ∨ before + nsUnits 1000 < s.dt then { s with swapDay := s.utcDay } else s
    else s
  | none => s

/-- TRIPLE_SWITCH (R368). -/
def execTripleSwitch (el : Nat) (s : State) : Out := s.run el tripleSwitch

/-! ### Units and copies (R370 to R372) -/

/-- LOCAL_COPY_CHECK (R370): the counts by which copy `k` has come to differ. With domain K on, a copy that differs is
realigned; on its fallback oscillator it keeps the difference (R372). -/
def localCopyCheck (k : Nat) (diff : Int) (s : State) : State :=
  if s.isOn 12 = true ∧ s.rd 0x020F (if k < 8 then domGroup k else domPlane (k - 8)) = 0 then
    let found := Tab.get 0 s.time.copies k + diff
    let s := { s with time := { s.time with copies := Tab.del s.time.copies k } }
    if found = 0 then s.wr 0x300E k 0 else ((s.wr 0x300E k 1).inc 0x300F k).fault 177 k
  else
    let s := { s with time := { s.time with copies := Tab.upd 0 s.time.copies k (· + diff) } }
    s.wr 0x300E k 2

/-- LOCAL_COPY_CHECK (R370). -/
def execLocalCopyCheck (el : Nat) (copy : Fin 10) (diff : BitVec 16) (s : State) : Out := s.run el (localCopyCheck copy.val diff.toInt)

/-- TIMEBASE_MISMATCH (R371): unit 0 or 1 is outvoted by the copies; with no majority unit 0 continues. -/
def timebaseMismatch (vote : Nat) (s : State) : State :=
  if s.rd 0x300C 0 = 1 ∧ s.rd 0x300C 1 = 1 then
    let s := s.inc 0x300D 0
    if vote < 2 then (s.wr 0x300C vote 2).fault 176 moduleInst else (s.wr 0x300C 1 2).fault 189 moduleInst
  else s

/-- TIMEBASE_MISMATCH (R371). -/
def execTimebaseMismatch (el : Nat) (vote : Fin 3) (s : State) : Out := s.run el (timebaseMismatch vote.val)

/-! ### The servo's state (R376, R380) -/

/-- Changes the servo's record. -/
def State.updServo (s : State) (f : Servo → Servo) : State := { s with servo := f s.servo }

/-- Enters a servo state (R376); a break in lock longer than 24 h restarts the count of R401. -/
def State.setServo (s : State) (v : Nat) : State :=
  let old := s.rd 0x3400 0
  if old = v then s
  else
    let s := if s.timed then s.updServo (fun q => { q with idleSince := s.clk, timeless := false }) else s
    let s := (s.wr 0x3400 0 v).stamp 0x3417 0
    let s := if old = 3 then s.high 0x3415 0 ((s.clk - s.servo.since) / ticksPerSec) else s
    if v = 2 then
      s.updServo (fun q => { q with locked := some s.clk, lockTicks := if q.lostAt + 86400 * ticksPerSec < s.clk then 0 else q.lockTicks })
    else if old = 2 then
      let n := s.lockTicks
      s.updServo (fun q => { q with locked := none, lockTicks := n, lostAt := s.clk })
    else s

/-- The servo enters holdover (R376). -/
def State.enterHoldover (s : State) : State :=
  let s := s.updServo (fun q => { q with since := s.clk, heldAt := s.clk, before := s.rd 0x3401 0, beyond := false, under := none, excess := 0 })
  (((s.setServo 3).wr 0x3407 0 0).inc 0x3414 0).fault 183 moduleInst

/-- The sources in order of priority (PID 3402h). -/
def State.sourceOrder (s : State) : List Nat := (List.range 3).map (fun k => byteAt 4 (s.rd 0x3402 0) k)

/-- The qualified source that comes first, 0 where there is none (R378). -/
def State.bestSource (s : State) : Nat := (s.sourceOrder.find? (fun c => s.servo.good.contains c)).getD 0

/-- Selects a source (PID 3401h); a change under lock or holdover counts (R380). -/
def State.follow (s : State) (c : Nat) : State :=
  let old := s.rd 0x3401 0
  if old = c then s
  else
    let s := (s.wr 0x3401 0 c).updServo (fun q => { q with under := none, excess := 0 })
    if old ≠ 0 ∧ c ≠ 0 ∧ s.timed = true then s.inc 0x3416 0 else s

/-- The servo runs: from Bonded on, with domain K (03 R67). -/
def State.servoRuns (s : State) : Bool := s.stageAtLeast 2 && s.isOn 12 && s.holder.isSome

/-- The servo takes the best qualified source (R376, R378, R380). -/
def State.reselect (s : State) : State :=
  let b := s.bestSource
  match s.rd 0x3400 0 with
  | 0 => if b = 0 then s else (s.setServo 1).follow b
  | 1 => if b = 0 then (s.setServo 0).follow 0 else s.follow b
  | 2 => if b = s.rd 0x3401 0 then s else s.enterHoldover.follow b
  | _ => s.follow b

/-- A source is no longer qualified; one disqualified is barred for the requalification time (R377). -/
def State.disqualify (s : State) (c : Nat) (barred : Bool) : State :=
  let s := s.updServo (fun q => { q with
    good := q.good.filter (fun x => x != c)
    bar := if barred then Tab.set q.bar c (s.clk + s.rd 0x3312 0 * ticksPerSec) else q.bar })
  let s := if c = 1 then s.wr 0x330E 0 (if s.gnss.out then 3 else if s.rd 0x3314 0 = 2 then 4 else 0) else s
  if s.rd 0x3401 0 = c then s.reselect else s

/-- SERVO_LOCK (R376): within the lock threshold for the lock dwell. -/
def servoLock (s : State) : State :=
  match s.servo.under with
  | some t =>
    if (s.rd 0x3400 0 = 1 ∨ s.rd 0x3400 0 = 3) ∧ s.servo.good.contains (s.rd 0x3401 0) = true ∧ t + s.rd 0x3411 0 * ticksPerSec ≤ s.clk ∧
        s.servoRuns = true then s.setServo 2
    else s
  | none => s

/-- SERVO_LOCK (R376). -/
def execServoLock (el : Nat) (s : State) : Out := s.run el servoLock

/-! ### SOURCE_UPDATE (R377, R379) -/

/-- Applies an offset as a step (R379): the first sets DT valid, every later one sets fault bit 187. -/
def State.timeStep (s : State) (o : Int) : State :=
  let s := s.servoTriple (-o)
  let first := !s.dtValid
  let s := ((s.inc 0x3014 0).wr 0x3015 0 (unsignedOf 64 (floorDiv (-o) 65536))).stamp 0x3016 0
  let s := s.updServo (fun q => { q with under := none })
  if first then s.wr 0x3002 0 1 else s.fault 187 moduleInst

/-- The magnitude of an offset exceeds a number of ns. -/
def exceeds (o : Int) (ns : Nat) : Bool := decide (nsUnits ns < o ∨ o < -nsUnits ns)

/-- An offset of the selected source is used. -/
def State.useOffset (s : State) (c : Nat) (o : Int) : State :=
  let st := s.rd 0x3400 0
  if s.dtValid = false ∨ (exceeds o (s.rd 0x3012 0) = true ∧ s.flag 0x3013 0 = true ∧ st ≠ 2) then s.timeStep o
  else
    let s := if st = 3 then s else s.servoTriple 0
    let small := !exceeds o (s.rd 0x3410 0)
    let s := s.updServo (fun q => { q with
      under := if small then q.under.or (some s.clk) else none
      excess := if exceeds o (s.rd 0x3412 0) then q.excess + 1 else 0 })
    if 3 ≤ s.servo.excess ∧ st ≠ 3 then (s.updServo (fun q => { q with excess := 0 })).disqualify c true else s

/-- SOURCE_UPDATE (R377): the offset last measured of a source. -/
def sourceUpdate (c : Nat) (s : State) : State :=
  match Tab.find? s.servo.offsets c with
  | some o =>
    let s := s.updServo (fun q => { q with offsets := Tab.del q.offsets c })
    if s.servoRuns = true ∧ s.rd 0x3400 0 ≠ 0 ∧ s.rd 0x3401 0 = c then s.useOffset c o else s
  | none => s

/-- SOURCE_UPDATE (R377). -/
def execSourceUpdate (el : Nat) (source : Fin 3) (s : State) : Out := s.run el (sourceUpdate (source.val + 1))

/-! ### Qualification (R378) -/

/-- The ticks of a PTP interval 2^n s, coded as s8. -/
def intervalTicks (v : Nat) : Nat := let n := signed 8 v; if 0 ≤ n then ticksPerSec * 2 ^ n.toNat else ticksPerSec / 2 ^ (-n).toNat

/-- A PTP port. -/
def State.ptpPort (s : State) (i : Nat) : PtpPort := Tab.get PtpPort.init s.ptp i
/-- Changes a PTP port. -/
def State.updPtp (s : State) (i : Nat) (f : PtpPort → PtpPort) : State := { s with ptp := Tab.upd PtpPort.init s.ptp i f }

/-- The port in SLAVE state. -/
def State.slavePort (s : State) : Option Nat := (List.range 144).find? (fun i => s.rd 0x3110 i == 9)

/-- A message last heard at `t` arrives at its interval, within `n` of them. -/
def State.arrives (s : State) (t : Option Nat) (iv n : Nat) : Bool :=
  match t with
  | some t => decide (s.clk ≤ t + n * iv)
  | none => false

/-- The PTP source meets R378, its messages at most `n` intervals old. -/
def State.ptpMeets (s : State) (n : Nat) : Bool :=
  match s.slavePort with
  | some i =>
    decide (s.rd 0x3115 0 ≤ s.rd 0x311C 0) && s.arrives (s.ptpPort i).syncAt (intervalTicks (s.rd 0x310C i)) n &&
      s.arrives (s.ptpPort i).respAt (intervalTicks (s.rd 0x310D i)) n
  | none => false

/-- The receiver criteria of R378 as the last readings give them. -/
def State.gnssReceives (s : State) : Bool :=
  s.flag 0x3300 0 && s.rd 0x3306 0 == 3 && decide (s.rd 0x330C 0 ≤ s.rd 0x3307 0) && (s.rd 0x3309 0 == 0 || s.rd 0x3309 0 == 2) &&
    (s.rd 0x3302 0 == 1 || s.gnss.placed)

/-- The GNSS source meets R378: for 30 s, or for the requalification time after the plumb check refused it (R398). -/
def State.gnssMeets (s : State) : Bool :=
  let held (t : Option Nat) (sec : Nat) : Bool := match t with
    | some t => decide (t + sec * ticksPerSec ≤ s.clk)
    | none => false
  s.gnssReceives && s.rd 0x3314 0 != 2 && held s.gnss.since 30 &&
    (!s.gnss.out || s.rd 0x3314 0 == 1 || (held s.gnss.since (s.rd 0x3312 0) && held s.gnss.passSince (s.rd 0x3312 0)))

/-- A source meets its conditions. -/
def State.sourceMeets (s : State) (c : Nat) : Bool :=
  match c with
  | 1 => s.gnssMeets
  | 2 => s.ptpMeets 1
  | _ => s.rd 0x3516 0 == 3

/-- SOURCE_QUALIFIED (R378, R380). -/
def sourceQualified (c : Nat) (s : State) : State :=
  if s.servoRuns = true ∧ s.servo.good.contains c = false ∧ s.sourceMeets c = true ∧ Tab.get 0 s.servo.bar c ≤ s.clk then
    let s := s.updServo (fun q => { q with good := c :: q.good, bar := Tab.del q.bar c })
    let s := if c = 1 then { s with gnss := { s.gnss with out := false } }.wr 0x330E 0 2 else s
    s.reselect
  else s

/-- SOURCE_QUALIFIED (R378). -/
def execSourceQualified (el : Nat) (source : Fin 3) (s : State) : Out := s.run el (sourceQualified (source.val + 1))

/-- SOURCE_DISQUALIFIED (R378): GNSS has lost its fix, its integrity check or its PPS, Sync or Delay_Resp have stopped, or a PPS input edge or
message is missing (R407). -/
def sourceDisqualified (c : Nat) (s : State) : State :=
  let stopped (t : Nat) : Bool := decide (t + 2 * ticksPerSec ≤ s.clk)
  match c with
  | 1 => if s.servo.good.contains 1 = true ∧ (s.gnssReceives = false ∨ s.gnss.since = none ∨ s.rd 0x3314 0 = 2 ∨ stopped s.gnss.ppsAt = true) then s.disqualify 1 false else s
  | 2 =>
    let n := match s.slavePort with
      | some i => s.rd 0x310F i
      | none => 1
    if s.servo.good.contains 2 = true ∧ s.ptpMeets n = false then s.disqualify 2 false else s
  | _ =>
    let late := stopped s.tio.todAt
    if s.flag 0x3515 0 = true ∧ (late = true ∨ stopped s.tio.edgeAt = true) then
      let s := { s with tio := { s.tio with run := 0, named := none } }.wr 0x3516 0 (if late then 1 else 2)
      s.disqualify 3 false
    else if s.servo.good.contains 3 = true ∧ s.rd 0x3516 0 ≠ 3 then s.disqualify 3 false
    else s

/-- SOURCE_DISQUALIFIED (R378). -/
def execSourceDisqualified (el : Nat) (source : Fin 3) (s : State) : Out := s.run el (sourceDisqualified (source.val + 1))

/-! ### Holdover and its model (R376, R400, R401) -/

/-- HOLDOVER_UPDATE (R400): a triple from the model, and the estimated error, which the spec does not compute, held against
the limit. -/
def holdoverUpdate (s : State) : State :=
  if s.rd 0x3400 0 = 3 ∧ s.servo.heldAt + ticksPerSec ≤ s.clk then
    let (s, d) := (s.servoTriple 0).draw
    let err := Config.freeValue d % 2 ^ 32
    let s := (s.wr 0x3405 0 err).wr 0x3407 0 ((s.clk - s.servo.since) / ticksPerSec)
    let past := decide (s.rd 0x3406 0 < err)
    let again := s.servo.beyond
    let s := s.updServo (fun q => { q with heldAt := s.clk, beyond := past })
    if past then
      let s := if again then s else s.fault 184 moduleInst
      if s.rd 0x3408 0 = 1 then (s.setServo 0).follow 0 |>.reselect else s
    else s
  else s

/-- HOLDOVER_UPDATE (R400). -/
def execHoldoverUpdate (el : Nat) (s : State) : Out := s.run el holdoverUpdate

/-- MODEL_READY (R401): 72 h of lock, or 6 h while re-verifying. -/
def modelReady (s : State) : State :=
  let need := if s.rd 0x3404 0 = 2 then 6 * 3600 * ticksPerSec else 72 * 3600 * ticksPerSec
  if s.rd 0x3404 0 ≠ 1 ∧ need ≤ s.lockTicks then s.wr 0x3404 0 1 else s

/-- MODEL_READY (R401). -/
def execModelReady (el : Nat) (s : State) : Out := s.run el modelReady

/-- MODEL_STORE (R401): every hour, to the flash of both controllers, with the last DT. -/
def modelStore (s : State) : State :=
  if s.holder.isSome = true ∧ s.servo.storedAt + 3600 * ticksPerSec ≤ s.clk then
    let n := s.modelSeconds
    let d := s.dtNow
    let s := s.updFlash (fun f => { f with model := n, lastDT := if s.dtValid then d else f.lastDT })
    (s.updServo (fun q => { q with storedAt := s.clk })).stamp 0x340D 0
  else s

/-- MODEL_STORE (R401). -/
def execModelStore (el : Nat) (s : State) : Out := s.run el modelStore

/-- A write of PID 340Eh (R401): the model is discarded. -/
def State.resetModel (s : State) : State :=
  let s := (s.wr 0x3404 0 0).updServo (fun q => { q with lockTicks := 0, locked := q.locked.map (fun _ => s.clk) })
  s.updFlash (fun f => { f with model := 0 })

/-! ### Manual control and UTC (R382, R410) -/

/-- PID 3010h: a step of DT in free-run. -/
def State.manualStep (s : State) (ns : Int) : State × Verdict :=
  if s.rd 0x3400 0 = 0 then
    let s := s.putTriple (nsUnits ns) s.time.triple.rho
    (((s.wr 0x3015 0 (unsignedOf 64 ns)).stamp 0x3016 0), .done stOk [])
  else (s, .refuse stInterlock)

/-- PID 3011h: the raw rate in free-run. -/
def State.manualRate (s : State) (rho : Int) : State × Verdict :=
  if rho < -(2 : Int) ^ 47 ∨ (2 : Int) ^ 47 < rho then (s, .refuse stRange)
  else if s.rd 0x3400 0 = 0 then (s.putTriple 0 rho, .done stOk [])
  else (s, .refuse stInterlock)

/-- The TAI−UTC offset in use (R382): from GNSS, else from the parent, else as configured. -/
def State.refreshUtc (s : State) : State := s.wr 0x3009 0 ((s.servo.utcGnss.or s.servo.utcPtp).getD (s.rd 0x300A 0))

/-- UTC seconds now. -/
def State.utcSeconds (s : State) : Int := floorDiv s.dt (nsUnits 1000000000) - signed 16 (s.rd 0x3009 0)

/-- A leap second is announced or withdrawn (PID 300Bh): at the end of the current UTC day. -/
def State.announceLeap (s : State) (v : Nat) : State :=
  if s.rd 0x300B 0 = v then s else (s.wr 0x300B 0 v).updServo (fun q => { q with leapDay := floorDiv s.utcSeconds 86400 })

/-- LEAP_SECOND (R382): the end of that day, after its inserted second or before its deleted one. -/
def leapSecond (s : State) : State :=
  let v := s.rd 0x300B 0
  let shift : Int := if v = 1 then 1 else -1
  if (v = 1 ∨ v = 2) ∧ (s.servo.leapDay + 1) * 86400 + shift ≤ s.utcSeconds then
    let n := unsignedOf 16 (signed 16 (s.rd 0x3009 0) + shift)
    let s := s.updServo (fun q => { q with utcGnss := q.utcGnss.map (fun _ => n), utcPtp := q.utcPtp.map (fun _ => n) })
    (s.wr 0x3009 0 n).wr 0x300B 0 0
  else s

/-- LEAP_SECOND (R382). -/
def execLeapSecond (el : Nat) (s : State) : Out := s.run el leapSecond

/-! ### Domain K is lost (R372) -/

/-- DOMAIN_K_LOSS (R372): RC goes on in the local copies; the servo is in free-run. -/
def domainKLoss (s : State) : State :=
  if s.isOn 12 then
    let s := ((s.setDom 12 0).clockOff 12).updPower (fun q => { q with lost := 12 :: q.lost })
    let s := { (s.setServo 0).follow 0 with time := { s.time with next := none, queued := none }, gnss := Gnss.init }
    let s := s.updServo (fun q => { q with good := [], offsets := [], under := none })
    let s := (((s.wr 0x300C 0 0).wr 0x300C 1 0).wr 0x0125 0 0).wr 0x0200 0 0 |>.updClocks (fun q => { q with late := false, agree := [] })
    let s := (List.range 10).foldl (fun s k => s.wr 0x300E k 2) s
    let s := (List.range 12).foldl (fun s d => if s.isOn d = true ∧ s.rd 0x020F d = 0 then s.toFallback d else s) s
    (s.wr 0x3306 0 0 |>.wr 0x330E 0 0).fault 178 moduleInst
  else s

/-- DOMAIN_K_LOSS (R372). -/
def execDomainKLoss (el : Nat) (s : State) : Out := s.run el domainKLoss

end Sys2Proof.Machine
end

