-- ==== Sys2Proof/Machine/Gnss.lean ====
section
/-! DEFINITION. The GNSS receiver, its antenna and the plumb check (02 R57; 12 R396 to R399). -/

namespace Sys2Proof.Machine

/-- A number of 2^-16 ns in ps. -/
def toPs (u : Int) : Int := floorDiv (u * 1000) 65536

/-- Changes the receiver's record. -/
def State.updGnss (s : State) (f : Gnss → Gnss) : State := { s with gnss := f s.gnss }

/-- Parameters of plumb line `k`: period in s, and the PID of its last difference. -/
def plumbPeriod (k : Nat) : Nat := if k = 0 then 600 else 86400
def plumbPid (k : Nat) : Nat := if k = 0 then 0x3313 else 0x3317

/-- One line of the plumb check (R397): whether GNSS passes. The line's prediction and the model's uncertainty are not
computed by the spec: both are free values. A line is re-anchored after a period in which GNSS passed throughout. -/
def State.plumbLine (s : State) (k : Nat) : State × Bool :=
  let (s, a) := s.draw
  let (s, b) := s.draw
  let d : Int := signed 32 (Config.freeValue a % 2 ^ 32)
  let limit := max (s.rd 0x330F 0) (s.rd 0x3310 0 * Config.freeValue b / 10)
  let s := s.wr (plumbPid k) 0 (unsignedOf 32 d)
  let pass := decide (d.natAbs ≤ limit)
  let (anchor, from_) := Tab.get (s.clk, s.clk) s.gnss.lines k
  let p := plumbPeriod k * ticksPerSec
  let line := if !pass then (anchor, s.clk) else if anchor + p ≤ s.clk ∧ from_ + p ≤ s.clk then (s.clk, s.clk) else (anchor, from_)
  (s.updGnss (fun q => { q with lines := Tab.set q.lines k line }), pass)

/-- The plumb check at a PPS (R397, R399): only while the model is ready and the override is 0. -/
def State.plumbCheck (s : State) : State :=
  if s.rd 0x3404 0 = 1 ∧ s.rd 0x3314 0 = 0 then
    let (s, a) := s.plumbLine 0
    let (s, b) := s.plumbLine 1
    if a && b then s.updGnss (fun q => { q with passSince := q.passSince.or (some s.clk) })
    else
      let was := s.gnss.out
      let s := s.updGnss (fun q => { q with out := true, passSince := none })
      if was then s else ((s.inc 0x3311 0).fault 182 moduleInst).disqualify 1 false
  else s

/-- The readings of the receiver at a PPS. -/
structure PpsReading where
  second : Nat
  state : Nat
  used : Nat
  tracked : Nat
  cn0 : Nat
  integrity : Bool
  utc : Option Nat
  leap : Nat

/-- Records the readings, and since when the criteria of R378 hold. -/
def State.receiver (s : State) (r : PpsReading) : State :=
  let s := (((s.wr 0x3306 0 r.state).wr 0x3307 0 r.used).wr 0x3308 0 r.tracked).wr 0x3316 0 r.cn0
  let good := s.gnssReceives && r.integrity
  let s := s.updGnss (fun q => { q with
    ppsAt := s.clk
    since := if good then q.since.or (some s.clk) else none
    surveySince := if r.state = 2 then q.surveySince.or (some s.clk) else q.surveySince })
  let s := if s.servo.good.contains 1 ∨ s.gnss.out then s else s.wr 0x330E 0 (if s.rd 0x3314 0 = 2 then 4 else if good then 1 else 0)
  let s := match r.utc with
    | some v => (s.updServo (fun q => { q with utcGnss := some v })).refreshUtc
    | none => s
  s.announceLeap r.leap

/-- GNSS_PPS (R396, R397): the pulse at RC now and fraction `frac`; GNSS time is the receiver's second less the cable delay. -/
def gnssPps (frac : Nat) (r : PpsReading) (s : State) : State :=
  if s.isOn 12 = true ∧ s.flag 0x3300 0 = true then
    let s := s.receiver r
    let t := nsUnits ((r.second : Int) * 1000000000 - signed 32 (s.rd 0x3305 0))
    let o := s.time.triple.dtOf s.rc + 640 * frac - t
    let s := s.wr 0x3315 0 (unsignedOf 64 (toPs (-o)))
    let s := if r.state = 3 then s.updServo (fun q => { q with offsets := Tab.set q.offsets 1 o }) else s
    s.plumbCheck
  else s

/-- GNSS_PPS (R397). -/
def execGnssPps (el : Nat) (frac : BitVec 8) (second : BitVec 48) (state : Fin 5) (used tracked : BitVec 8) (cn0 : BitVec 16)
    (integrity : Bool) (utc : Option (BitVec 16)) (leap : Fin 3) (s : State) : Out :=
  s.run el (gnssPps frac.toNat
    ⟨second.toNat, state.val, used.toNat, tracked.toNat, cn0.toNat, integrity, utc.map BitVec.toNat, leap.val⟩)

/-- SURVEY_COMPLETE (R396): the averaged position is held. -/
def surveyComplete (pos : Nat) (s : State) : State :=
  match s.gnss.surveySince with
  | some t =>
    if s.rd 0x3302 0 = 0 ∧ t + s.rd 0x3304 0 * 60 * ticksPerSec ≤ s.clk then
      (s.wr 0x330B 0 pos).updGnss (fun q => { q with placed := true, surveySince := none })
    else s
  | none => s

/-- SURVEY_COMPLETE (R396). -/
def execSurveyComplete (el : Nat) (position : BitVec 192) (s : State) : Out := s.run el (surveyComplete position.toNat)

/-- The antenna condition of a bias current in 0.1 mA (02 R57). -/
def antennaCode (current : Nat) : Nat := if current < 20 then 1 else if current ≤ 500 then 0 else if current ≤ 650 then 2 else 3

/-- ANTENNA_CONDITION (02 R57; R399): a short switches the bias off and takes GNSS out of qualification. -/
def antennaCondition (current : Nat) (s : State) : State :=
  if s.isOn 12 = true ∧ s.gnss.biasOff = none then
    let c := antennaCode current
    let was := s.rd 0x3309 0
    let s := (s.wr 0x3309 0 c).wr 0x330A 0 current
    let s := if c = was ∨ c = 0 then s else s.fault (178 + c) moduleInst
    if c = 3 then (s.updGnss (fun q => { q with biasOff := some s.clk, since := none })).disqualify 1 false
    else if c = 1 then s.updGnss (fun q => { q with since := none })
    else s
  else s

/-- ANTENNA_CONDITION (02 R57). -/
def execAntennaCondition (el : Nat) (current : BitVec 16) (s : State) : Out := s.run el (antennaCondition current.toNat)

/-- ANTENNA_BIAS_RETRY (02 R57): 10 s after a short. -/
def antennaBiasRetry (s : State) : State :=
  match s.gnss.biasOff with
  | some t => if t + 10 * ticksPerSec ≤ s.clk then s.updGnss (fun q => { q with biasOff := none }) else s
  | none => s

/-- ANTENNA_BIAS_RETRY (02 R57). -/
def execAntennaBiasRetry (el : Nat) (s : State) : Out := s.run el antennaBiasRetry

end Sys2Proof.Machine
end

