-- ==== Sys2Proof/Machine/Tio.lean ====
section
/-! DEFINITION. Timed outputs, capture inputs, ToD TX and the PPS input source (02 R60; 12 R403 to R407). -/

namespace Sys2Proof.Machine

/-- Changes the record of the TIO connector. -/
def State.updTio (s : State) (f : Tio → Tio) : State := { s with tio := f s.tio }

/-! ### TO0 and TO1 (R403, R404) -/

/-- An output runs (R403). -/
def State.outputRuns (s : State) (o : Nat) : Bool :=
  s.isOn 12 && s.flag 0x3500 o && s.stageAtLeast 3 &&
    (match s.rd 0x3507 o with
     | 0 => s.rd 0x3400 0 == 2
     | 1 => s.timed
     | _ => true)

/-- The state of an output (PID 3508h): high-impedance without K and during Footing, muted, running. -/
def State.outputState (s : State) (o : Nat) : Nat :=
  if s.isOn 12 = false ∨ s.stageAtLeast 1 = false then 0 else if s.outputRuns o then 2 else 1

/-- The state of ToD TX (02 R60), coded as PID 3508h: high-impedance without K and during Footing; muted at the idle level, logic 1, while
both timed outputs are muted; running. -/
def State.todState (s : State) : Nat :=
  if s.isOn 12 = false ∨ s.stageAtLeast 1 = false then 0 else if s.outputRuns 0 = true ∨ s.outputRuns 1 = true then 2 else 1

/-- The level that the ToD TX pin drives between messages (02 R60): none at high impedance, else the idle level. -/
def State.todLevel (s : State) : Option Bool := if s.todState = 0 then none else some true

/-- The level that TO0 or TO1 drives outside its pulses (02 R60): none at high impedance, else logic 0. -/
def State.outputLevel (s : State) (o : Nat) : Option Bool := if s.outputState o = 0 then none else some false

/-- Phase offset less cable compensation, in units of DT. -/
def State.outputOrigin (s : State) (o : Nat) : Int := nsUnits (signed 32 (s.rd 0x3504 o) - s.rd 0x3505 o)

/-- The first grid instant of an output at or after a DT (R404); none for a single pulse that has passed. -/
def State.gridInstant (s : State) (o : Nat) (u : Int) : Option Int :=
  match s.rd 0x3501 o with
  | 0 => some (gridAfter (s.outputOrigin o) (nsUnits 1000000000) u)
  | 1 => some (gridAfter (s.outputOrigin o) (nsUnits (s.rd 0x3502 o)) u)
  | _ => let t := decDT (s.rd 0x3506 o); if u ≤ t then some t else none

/-- TIMED_OUTPUT_EDGE (R404): a grid instant falls within the tick that ends now. Instants before the end of the hold after a
triple switch produce no pulse, and none is repeated (R381). -/
def timedOutputEdge (o : Nat) (s : State) : State :=
  match s.gridInstant o (s.time.triple.dtOf (s.rc - 1) + 1) with
  | some g =>
    let again := match Tab.find? s.tio.lastEdge o with
      | some l => decide (g ≤ l)
      | none => false
    if s.outputRuns o = true ∧ g ≤ s.dt ∧ s.tio.notBefore ≤ g ∧ again = false then
      (s.inc 0x3509 o).updTio (fun q => { q with
        lastEdge := Tab.set q.lastEdge o g
        pulses := Tab.set q.pulses o (g, g + nsUnits (s.rd 0x3503 o)) })
    else s
  | none => s

/-- TIMED_OUTPUT_EDGE (R404). -/
def execTimedOutputEdge (el : Nat) (out : Fin 2) (s : State) : Out := s.run el (timedOutputEdge out.val)

/-! ### TI0 and TI1 (R405) -/

/-- Whether an edge is one of those selected (PID 350Ch). -/
def State.edgeSelected (s : State) (k : Nat) (falling : Bool) : Bool :=
  match s.rd 0x350C k with
  | 0 => !falling
  | 1 => falling
  | _ => true

/-- The edge's timestamp in 1/256 tick, less the input delay compensation. -/
def State.captureStamp (s : State) (k frac : Nat) : Nat := s.rc * 256 + frac - s.rd 0x350D k * 65536 / 640

/-- Writes a capture record in the ring. -/
def State.capture (s : State) (k t : Nat) (falling : Bool) : State :=
  let n := Tab.get 0 s.tio.capCount k + 1
  let i := s.rd 0x350F k
  let v := ((t * 256 + (if falling then 1 else 0)) * 256) * 2 ^ 32 + n % 2 ^ 32
  let s := (s.wr 0x350E (64 * k + i) v).wr 0x350F k ((i + 1) % 64)
  s.updTio (fun q => { q with capLast := Tab.set q.capLast k t, capCount := Tab.set q.capCount k n })

/-- A rising edge on TI0 as the PPS input sees it (R407): 1 s ± 1 µs after the one before, in 1/256 tick. -/
def State.ppsEdge (s : State) (t : Nat) : State :=
  let ok := match s.tio.edge with
    | some e => decide (e + 102400000000 ≤ t + 102400 ∧ t ≤ e + 102400000000 + 102400)
    | none => false
  s.updTio (fun q => { q with edge := some t, edgeOk := ok, edgeAt := s.clk })

/-- CAPTURE_EDGE (R405): an edge at RC now and fraction `frac`. -/
def captureEdge (k frac : Nat) (falling : Bool) (s : State) : State :=
  if s.isOn 12 then
    let t := s.captureStamp k frac
    let s := if k = 0 ∧ falling = false ∧ s.flag 0x3515 0 = true then s.ppsEdge t else s
    if s.flag 0x350B k = true ∧ s.edgeSelected k falling = true then
      match Tab.find? s.tio.capLast k with
      | some l => if t < l + 10240 then (s.inc 0x3510 k).fault 188 moduleInst else s.capture k t falling
      | none => s.capture k t falling
    else s
  else s

/-- CAPTURE_EDGE (R405). -/
def execCaptureEdge (el : Nat) (input : Fin 2) (frac : BitVec 8) (falling : Bool) (s : State) : Out :=
  s.run el (captureEdge input.val frac.toNat falling)

/-- A write of PID 3511h: the ring of an input is cleared. -/
def State.clearCaptures (s : State) (k : Nat) : State :=
  let s := (List.range 64).foldl (fun s n => s.wr 0x350E (64 * k + n) 0) s
  (s.wr 0x350F k 0).updTio (fun q => { q with capCount := Tab.del q.capCount k })

/-! ### ToD TX (R406) -/

/-- The XOR of bytes. -/
def xorBytes (bs : List Byte) : Byte := bs.foldl (fun a b => a ^^^ b) 0

/-- The 16-byte record of format 0. -/
def todRecord (sec utc servo cls leap : Nat) : List Byte :=
  let body := [(1 : Byte), 0x10] ++ toBytes 6 sec ++ toBytes 2 utc ++ toBytes 1 servo ++ toBytes 1 cls ++ toBytes 1 (leap % 4)
  toBytes 2 0xAA55 ++ body ++ [xorBytes body]

/-- The ASCII digits of a number, `n` of them. -/
def digits : Nat → Nat → List Byte
  | 0, _ => []
  | n + 1, v => BitVec.ofNat 8 (48 + v / 10 ^ n % 10) :: digits n v

/-- Year, month and day of a day number counted from 1970-01-01. -/
def civil (days : Nat) : Nat × Nat × Nat :=
  let z := days + 719468
  let era := z / 146097
  let doe := z % 146097
  let yoe := (doe - doe / 1460 + doe / 36524 - doe / 146096) / 365
  let doy := doe - (365 * yoe + yoe / 4 - yoe / 100)
  let mp := (5 * doy + 2) / 153
  let m := if mp < 10 then mp + 3 else mp - 9
  (yoe + era * 400 + (if m ≤ 2 then 1 else 0), m, doy - (153 * mp + 2) / 5 + 1)

/-- A byte as two hexadecimal digits. -/
def hexByte (b : Byte) : List Byte :=
  let h (n : Nat) : Byte := BitVec.ofNat 8 (if n < 10 then 48 + n else 55 + n)
  [h (b.toNat / 16), h (b.toNat % 16)]

/-- The ZDA sentence of a UTC second (format 1). -/
def zdaSentence (utc : Nat) : List Byte :=
  let (y, m, d) := civil (utc / 86400)
  let t := utc % 86400
  let comma : List Byte := [0x2C]
  let body : List Byte := [0x47, 0x50, 0x5A, 0x44, 0x41] ++ comma ++ digits 2 (t / 3600) ++ digits 2 (t / 60 % 60) ++ digits 2 (t % 60) ++
    [0x2E, 0x30, 0x30] ++ comma ++ digits 2 d ++ comma ++ digits 2 m ++ comma ++ digits 4 y ++ comma ++ [0x30, 0x30] ++ comma ++ [0x30, 0x30]
  [(0x24 : Byte)] ++ body ++ [0x2A] ++ hexByte (xorBytes body) ++ [0x0D, 0x0A]

/-- The module's own clockClass as R388 gives it: the first row that applies. `parent` marks the rows that give the
parent's. -/
def State.ownClass (s : State) : Nat × Bool :=
  let st := s.rd 0x3400 0
  let src := s.rd 0x3401 0
  let was := s.servo.before
  let mode := s.rd 0x3100 0
  let slave := s.slavePort.isSome
  if s.flag 0x3107 0 then (255, false)
  else if st ≤ 1 then (248, false)
  else if st = 3 ∧ s.servo.beyond = true then (165, false)
  else if mode = 2 ∧ st = 2 ∧ src = 1 then (6, false)
  else if mode = 2 ∧ st = 2 ∧ src = 3 then (s.tio.todClass, false)
  else if mode = 2 ∧ st = 3 ∧ (was = 1 ∨ was = 3) then (7, false)
  else if mode = 1 ∧ slave = false ∧ ((st = 2 ∧ (src = 1 ∨ src = 3)) ∨ (st = 3 ∧ (was = 1 ∨ was = 3))) then (248, false)
  else if st = 3 ∧ was = 2 then (135, false)
  else if (st = 2 ∧ src = 2) ∨ (mode = 1 ∧ slave = true) then (s.rd 0x3115 0, true)
  else (248, false)

/-- TOD_MESSAGE (R406): 100 ms after a whole DT second, while some timed output is not muted (02 R60). -/
def todMessage (s : State) : State :=
  let sec := floorDiv s.dt (nsUnits 1000000000)
  if s.flag 0x3512 0 = true ∧ s.todState = 2 ∧ s.tio.todSecond < sec ∧
      nsUnits (sec * 1000000000 + 100000000) ≤ s.dt then
    let utc := sec - signed 16 (s.rd 0x3009 0)
    let m := if s.rd 0x3513 0 = 0 then todRecord sec.toNat (s.rd 0x3009 0) (s.rd 0x3400 0) s.ownClass.1 (s.rd 0x300B 0) else zdaSentence utc.toNat
    s.updTio (fun q => { q with todSecond := sec, todOut := q.todOut ++ [m] })
  else s

/-- TOD_MESSAGE (R406). -/
def execTodMessage (el : Nat) (s : State) : Out := s.run el todMessage

/-! ### ToD RX and the PPS input (R407) -/

/-- A format 0 message with a good check byte. -/
def todGood (bs : List Byte) : Bool :=
  bs.length == 16 && getBE bs 0 2 == 0xAA55 && getBE bs 2 1 == 1 && getBE bs 3 1 == 0x10 &&
    xorBytes ((bs.drop 2).take 13) == BitVec.ofNat 8 (getBE bs 15 1)

/-- TOD_RX_MESSAGE (R407): with the TI0 edge of its second; ten good seconds in a row qualify the input. -/
def todRxMessage (bs : List Byte) (s : State) : State :=
  if s.isOn 12 = true ∧ s.flag 0x3515 0 = true then
    let sec := getBE bs 4 6
    let fresh := decide (s.clk < s.tio.edgeAt + ticksPerSec)
    let next := match s.tio.named with
      | some n => n + 1 == sec
      | none => true
    let ok := todGood bs && fresh && s.tio.edgeOk && next && decide (getBE bs 13 1 ≤ 7)
    let run := if ok then s.tio.run + 1 else 0
    let s := s.updTio (fun q => { q with
      run := run, todAt := s.clk, named := if todGood bs then some sec else none
      todClass := if todGood bs then getBE bs 13 1 else q.todClass })
    let s := s.wr 0x3516 0 (if 10 ≤ run then 3 else 2)
    if ok then
      match s.tio.edge with
      | some t =>
        let o := s.time.triple.dtOf (t / 256) + 640 * (t % 256 : Nat) - nsUnits ((sec : Int) * 1000000000)
        (s.wr 0x3517 0 (unsignedOf 32 (floorDiv o 65536))).updServo (fun q => { q with offsets := Tab.set q.offsets 3 o })
      | none => s
    else if s.servo.good.contains 3 then s.disqualify 3 false else s
  else s

/-- TOD_RX_MESSAGE (R407). -/
def execTodRxMessage (el : Nat) (bytes : List Byte) (s : State) : Out := s.run el (todRxMessage bytes)

end Sys2Proof.Machine
end

