-- ==== Sys2Proof/Machine/Synce.lean ====
section
/-! DEFINITION. SyncE: ESMC, the DPLL's selection and the QL sent (12 R390 to R395). The layout of the ESMC PDU and the QL
codes are G.8264's: PRESUMED, notes/assumptions/22.md. -/

namespace Sys2Proof.Machine

/-- Changes the SyncE record. -/
def State.updSynce (s : State) (f : Synce → Synce) : State := { s with synce := f s.synce }

/-! ### Quality levels (R391) -/

def qlFailed : Nat := 0xFFFF

/-- DNU of either coding. -/
def qlDnu (v : Nat) : Bool := v % 16 == 15

/-- The rank of a QL, best first: ePRTC, PRTC, ePRC, PRC, SSU-A, SSU-B, eEEC, EEC1; any other is last. -/
def qlRank (v : Nat) : Nat :=
  let e := v / 256 % 256
  match v % 16 with
  | 2 => if e = 0x21 then 0 else if e = 0x20 then 1 else if e = 0x23 then 2 else 3
  | 4 => 4
  | 8 => 5
  | 11 => if e = 0x22 then 6 else 7
  | _ => 8

/-- The QL of a port as the selection takes it: the override where one is set (PID 3205h). -/
def State.portQl (s : State) (i : Nat) : Nat := if s.rd 0x3205 i = 0xFFFF then s.rd 0x3204 i else s.rd 0x3205 i

/-! ### ESMC (R390, R391) -/

/-- The QL of an ESMC PDU: enhanced SSM code in [15:8], FFh without the TLV, and SSM code in [3:0]. -/
def esmcQl (bs : List Byte) : Option Nat :=
  if getBE bs 12 2 = 0x8809 ∧ getBE bs 14 1 = 0x0A ∧ getBE bs 15 3 = 0x0019A7 ∧ getBE bs 18 2 = 1 ∧ getBE bs 20 1 / 16 = 1 ∧
      getBE bs 24 3 = 0x010004 then
    some ((if getBE bs 28 3 = 0x020014 then getBE bs 31 1 else 0xFF) * 256 + getBE bs 27 1 % 16)
  else none

/-- An ESMC PDU that carries a QL. -/
def State.esmcFrame (s : State) (i ql : Nat) : List Byte :=
  let enhanced := if ql / 256 = 0xFF then [] else
    toBytes 3 0x020014 ++ toBytes 1 (ql / 256) ++ toBytes 8 s.clockIdentity ++ toBytes 1 0 ++ toBytes 1 1 ++ toBytes 1 0 ++ toBytes 5 0
  toBytes 6 0x0180C2000002 ++ toBytes 6 (s.portMac i) ++ toBytes 2 0x8809 ++ toBytes 1 0x0A ++ toBytes 3 0x0019A7 ++ toBytes 2 1 ++
    toBytes 1 0x10 ++ toBytes 3 0 ++ toBytes 3 0x010004 ++ toBytes 1 (ql % 16) ++ enhanced

/-- ESMC_RECEIVED (R391): the PDU's whole frame. -/
def esmcReceived (i : Nat) (bs : List Byte) (s : State) : State :=
  match esmcQl bs with
  | some ql =>
    if s.link i = 3 ∧ s.holder.isSome = true then
      ((s.inc 0x3207 i).wr 0x3204 i ql).updSynce (fun q => { q with heard := Tab.set q.heard i s.clk })
    else s
  | none => s

/-- ESMC_RECEIVED (R391). -/
def execEsmcReceived (el : Nat) (port : PortNo) (bytes : List Byte) (s : State) : Out := s.run el (esmcReceived port.val bytes)

/-- QL_TIMEOUT (R391): no ESMC for 5 s. -/
def qlTimeout (i : Nat) (s : State) : State :=
  match Tab.find? s.synce.heard i with
  | some t =>
    if t + 5 * ticksPerSec ≤ s.clk then
      ((s.inc 0x3208 i).wr 0x3204 i qlFailed).updSynce (fun q => { q with heard := Tab.del q.heard i })
    else s
  | none => s

/-- QL_TIMEOUT (R391). -/
def execQlTimeout (el : Nat) (port : PortNo) (s : State) : Out := s.run el (qlTimeout port.val)

/-! ### The DPLL (R392, R393, R395) -/

/-- A port is a candidate (R392). With selection mode 1 QL is ignored here too (notes/assumptions/22.md). -/
def State.isCandidate (s : State) (i : Nat) : Bool :=
  let ql := s.portQl i
  s.flag 0x3202 i && s.link i == 3 && (s.rd 0x320F 0 == 1 || (!qlDnu ql && ql != qlFailed)) &&
    decide ((signed 32 (s.rd 0x3211 i)).natAbs ≤ s.rd 0x3212 0) && (Tab.find? s.synce.wtr i).isNone

/-- Whether candidate `a` comes before `b`: QL, priority, port number. -/
def State.betterInput (s : State) (a b : Nat) : Bool :=
  let q (i : Nat) : Nat := if s.rd 0x320F 0 = 1 then 0 else qlRank (s.portQl i)
  decide (q a < q b) || (q a == q b && (decide (s.rd 0x3203 a < s.rd 0x3203 b) || (s.rd 0x3203 a == s.rd 0x3203 b && decide (a < b))))

/-- The input that the DPLL takes among the candidates: a forced one while it is one of them. -/
def State.chooseInput (s : State) (l : List Nat) : Option Nat :=
  if l.contains (s.rd 0x3210 0) then some (s.rd 0x3210 0)
  else l.foldl (fun m i => match m with
    | some j => if s.betterInput i j then some i else some j
    | none => some i) none

/-- Ports that were candidates and are none now wait to restore (R392). -/
def State.startWtr (s : State) (l : List Nat) : State :=
  let gone := s.synce.cands.filter (fun i => !l.contains i)
  s.updSynce (fun q => { q with
    cands := l
    wtr := gone.foldl (fun t i => if (Tab.find? t i).isNone then Tab.set t i (s.clk + s.rd 0x320D 0 * ticksPerSec) else t) q.wtr })

/-- The DPLL is locked to an input of QL PRC or better. -/
def State.goodInput (s : State) : Bool := s.rd 0x320A 0 == 2 && decide (qlRank (s.portQl (s.rd 0x3209 0)) ≤ 3)

/-- The time of lock that R395 counts; the qualification falls with it. -/
def State.countSynceLock (s : State) : State :=
  if s.goodInput then s.updSynce (fun q => { q with lockedSince := q.lockedSince.or (some s.clk) })
  else (s.updSynce (fun q => { q with lockedSince := none })).wr 0x3214 0 0

/-- The DPLL without an input: it follows a servo locked to GNSS, holds over after an input, or runs free (R393). -/
def State.dpllIdle (s : State) : Nat := if s.rd 0x3400 0 = 2 ∧ s.rd 0x3401 0 = 1 then 4 else if s.rd 0x320A 0 = 0 then 0 else 3

/-- DPLL_SELECTION (R392): with the frequency measured at one port, in ppb against the kiln. A selection that stands finds the
DPLL locked; a new one is being acquired. -/
def dpllSelection (i ppb : Nat) (s : State) : State :=
  let s := s.wr 0x3211 i ppb
  if s.flag 0x3200 0 = true ∧ s.isOn 12 = true then
    let l := (List.range 144).filter s.isCandidate
    let s := s.startWtr l
    let old := s.rd 0x3209 0
    match s.chooseInput l with
    | some p =>
      if p = old then (s.wr 0x320A 0 2).countSynceLock
      else
        let s := if old ≠ 0xFF ∧ l.contains old = false then s.fault 186 moduleInst else s
        ((((s.wr 0x3209 0 p).wr 0x320A 0 1).inc 0x3213 0).stamp 0x3215 0).countSynceLock
    | none =>
      let s := if old = 0xFF then s else ((s.fault 186 moduleInst).inc 0x3213 0).stamp 0x3215 0
      ((s.wr 0x3209 0 0xFF).wr 0x320A 0 s.dpllIdle).countSynceLock
  else ((s.wr 0x3209 0 0xFF).wr 0x320A 0 0).countSynceLock

/-- DPLL_SELECTION (R392). -/
def execDpllSelection (el : Nat) (port : PortNo) (ppb : BitVec 32) (s : State) : Out := s.run el (dpllSelection port.val ppb.toNat)

/-- WAIT_TO_RESTORE_EXPIRY (R392). -/
def waitToRestoreExpiry (i : Nat) (s : State) : State :=
  match Tab.find? s.synce.wtr i with
  | some t => if t ≤ s.clk then s.updSynce (fun q => { q with wtr := Tab.del q.wtr i }) else s
  | none => s

/-- WAIT_TO_RESTORE_EXPIRY (R392). -/
def execWaitToRestoreExpiry (el : Nat) (port : PortNo) (s : State) : Out := s.run el (waitToRestoreExpiry port.val)

/-- SYNCE_QUALIFIED (R395): locked for 1 h, and its use in holdover allowed. -/
def synceQualified (s : State) : State :=
  match s.synce.lockedSince with
  | some t => if t + 3600 * ticksPerSec ≤ s.clk ∧ s.goodInput = true ∧ s.flag 0x340F 0 = true then s.wr 0x3214 0 1 else s
  | none => s

/-- SYNCE_QUALIFIED (R395). -/
def execSynceQualified (el : Nat) (s : State) : Out := s.run el synceQualified

/-! ### The QL sent (R394) -/

/-- The QL sent on a port that is not the selected input (PID 320Ch). -/
def State.sentQl (s : State) : Nat :=
  match s.rd 0x320A 0 with
  | 2 => s.portQl (s.rd 0x3209 0)
  | 4 => 0x2002
  | _ => if s.rd 0x3201 0 = 0 then 0xFF0B else 0x220B

/-- The QL sent on a port: DNU on the selected input. -/
def State.sentQlOn (s : State) (i : Nat) : Nat := if s.rd 0x3209 0 = i then 0xFF0F else s.sentQl

/-- ESMC_TRANSMIT (R394): once per second on every enabled port that is up. -/
def esmcTransmit (s : State) : State :=
  let due := match s.synce.sentAt with
    | some t => decide (t + ticksPerSec ≤ s.clk)
    | none => true
  if s.flag 0x3200 0 = true ∧ s.holder.isSome = true ∧ s.stageAtLeast 2 = true ∧ due = true then
    let s := s.updSynce (fun q => { q with sentAt := some s.clk })
    ((List.range 144).filter (fun i => s.flag 0x3206 i && s.link i == 3)).foldl (fun s i =>
      (s.originate i 7 false false (s.esmcFrame i (s.sentQlOn i))).1) s
  else s

/-- ESMC_TRANSMIT (R394). -/
def execEsmcTransmit (el : Nat) (s : State) : Out := s.run el esmcTransmit

end Sys2Proof.Machine
end

