-- ==== Sys2Proof/Machine/Ptp.lean ====
section
/-! DEFINITION. PTP: messages, the alternate BMCA, unicast negotiation and departure records (12 R375, R383 to R389). The layout of
messages, the BMCA and the profiles' values are IEEE 1588's and G.8275's: notes/assumptions/23.md. -/

namespace Sys2Proof.Machine

/-! ### Reading messages (R383, R385) -/

/-- Where a frame carries a PTP message: its offset, and the frame's tags. -/
def ptpAt (tpids : List Nat) (bs : List Byte) : Option (Nat × Tags) :=
  let t := readTags tpids bs 3 12 []
  let l3 := t.off + 2
  let udp (u : Nat) : Option (Nat × Tags) :=
    if getBE bs (u + 2) 2 = 319 ∨ getBE bs (u + 2) 2 = 320 then some (u + 8, t) else none
  if t.ethertype = 0x88F7 then some (l3, t)
  else if t.ethertype = 0x0800 ∧ getBE bs (l3 + 9) 1 = 17 then udp (l3 + getBE bs l3 1 % 16 * 4)
  else if t.ethertype = 0x86DD ∧ getBE bs (l3 + 6) 1 = 17 then udp (l3 + 40)
  else none

/-- PTP runs on a port: from Bonded on, in the active controller, in mode 1 or 2 (R383, R389). -/
def State.ptpRuns (s : State) (i : Nat) : Bool :=
  s.flag 0x3108 i && (s.rd 0x3100 0 == 1 || s.rd 0x3100 0 == 2) && s.stageAtLeast 2 && s.holder.isSome && s.link i == 3

/-- A message of the profile that R385 does not discard: VID 0, version 2 with minor version 0 or 1, the domain. -/
def State.ptpKeeps (s : State) (o : Nat) (t : Tags) (bs : List Byte) : Bool :=
  t.tags.all (fun x : Nat × Nat => x.2 % 4096 == 0) && decide (t.tags.length ≤ 1) && getBE bs (o + 1) 1 % 16 == 2 &&
    decide (getBE bs (o + 1) 1 / 16 ≤ 1) && getBE bs (o + 4) 1 == s.rd 0x3102 0

/-- The offset of a message of type `ty` and at least `n` bytes that a port accepts. -/
def State.ptpAccepts (s : State) (i ty n : Nat) (bs : List Byte) : Option Nat :=
  match ptpAt (s.tpids (groupOf i)) bs with
  | some (o, t) =>
    if s.ptpRuns i = true ∧ s.ptpSteers i bs t = true ∧ s.ptpKeeps o t bs = true ∧ getBE bs o 1 % 16 = ty ∧ o + n ≤ bs.length then some o
    else none
  | none => none

/-- PTP_MESSAGE_DISCARD (R385): another domain, version or VID, a Pdelay message or Management. -/
def ptpMessageDiscard (i : Nat) (bs : List Byte) (s : State) : State :=
  match ptpAt (s.tpids (groupOf i)) bs with
  | some (o, t) =>
    if s.holder.isSome = true ∧ s.ptpSteers i bs t = true ∧
        (s.ptpKeeps o t bs = false ∨ [2, 3, 10, 13].contains (getBE bs o 1 % 16) = true) then s.inc 0x3125 i
    else s
  | none => s

/-- PTP_MESSAGE_DISCARD (R385). -/
def execPtpMessageDiscard (el : Nat) (port : PortNo) (bytes : List Byte) (s : State) : Out := s.run el (ptpMessageDiscard port.val bytes)

/-- The units of 2^-16 ns of a 10-byte timestamp. -/
def stampUnits (v : Nat) : Int := decDT (v * 65536)

/-- The correctionField of a message. -/
def correctionOf (bs : List Byte) (o : Nat) : Int := signed 64 (getBE bs (o + 8) 8)

/-- The DT of a timestamp (R373). -/
def State.stampDT (s : State) (rc frac : Nat) : Int := s.time.triple.dtOf rc + 640 * frac

/-- The sourcePortIdentity of a message. -/
def sourceOf (bs : List Byte) (o : Nat) : Nat := getBE bs (o + 20) 10

/-- The port identity of a port (R384). -/
def State.portIdentity (s : State) (i : Nat) : Nat := s.clockIdentity * 65536 + (i + 1)

/-- The unicast peer that sent a frame. -/
def peerOf (bs : List Byte) (t : Tags) : Peer :=
  if t.ethertype = 0x0800 then ⟨getBE bs 6 6, 4, getBE bs (t.off + 14) 4⟩ else ⟨getBE bs 6 6, 6, getBE bs (t.off + 10) 16⟩

/-! ### Sending messages (R384, R386) -/

/-- The ones' complement checksum of a byte string of even length. -/
def onesChecksum (bs : List Byte) : Nat := 65535 - onesSum bs 0 (bs.length / 2)

/-- A UDP datagram of PTP from the port's PTP interface; the identification and the time to live are free. -/
def State.ptpDatagram (s : State) (i : Nat) (p : Peer) (udpPort free : Nat) (msg : List Byte) : List Byte :=
  let r := s.rd 0x311F i
  let n := if p.ty = 4 then 4 else 16
  let src := toBytes n (bytesAt 20 r 1 n)
  let dst := toBytes n p.addr
  let len := 8 + msg.length
  let tos := s.rd 0x312D 0 * 4 % 256
  let udp0 := toBytes 2 udpPort ++ toBytes 2 udpPort ++ toBytes 2 len
  let pseudo := src ++ dst ++ toBytes 4 len ++ toBytes 4 17
  let c := onesChecksum (pseudo ++ udp0 ++ toBytes 2 0 ++ msg ++ (if msg.length % 2 = 1 then toBytes 1 0 else []))
  let udp := udp0 ++ toBytes 2 (if c = 0 then 0xFFFF else c) ++ msg
  if p.ty = 4 then
    let a := toBytes 1 0x45 ++ toBytes 1 tos ++ toBytes 2 (20 + len) ++ toBytes 2 free ++ toBytes 2 0 ++ toBytes 1 (free / 65536) ++ toBytes 1 17
    toBytes 2 0x0800 ++ a ++ toBytes 2 (onesChecksum (a ++ toBytes 2 0 ++ src ++ dst)) ++ src ++ dst ++ udp
  else toBytes 2 0x86DD ++ toBytes 4 (6 * 2 ^ 28 + tos * 2 ^ 20) ++ toBytes 2 len ++ toBytes 1 17 ++ toBytes 1 (free / 65536) ++ src ++ dst ++ udp

/-- Sends a message from a port: to the multicast address of PID 310Bh, or to a unicast peer. -/
def State.sendPtp (s : State) (i : Nat) (peer : Option Peer) (event oneStep departure : Bool) (msg : List Byte) : State :=
  let cls := s.rd 0x312C 0
  match peer with
  | none =>
    let da := if s.rd 0x310B i = 0 then 0x011B19000000 else 0x0180C200000E
    (s.originate i cls oneStep departure (toBytes 6 da ++ toBytes 6 (s.portMac i) ++ toBytes 2 0x88F7 ++ msg)).1
  | some p =>
    let (s, d) := s.draw
    (s.originate i cls oneStep departure (toBytes 6 p.mac ++ toBytes 6 (s.portMac i) ++
      s.ptpDatagram i p (if event then 319 else 320) (Config.freeValue d) msg)).1

/-- A message: header and body. -/
def State.ptpMessage (s : State) (i ty flags : Nat) (corr : Int) (seq control interval : Nat) (body : List Byte) : List Byte :=
  toBytes 1 ty ++ toBytes 1 0x12 ++ toBytes 2 (34 + body.length) ++ toBytes 1 (s.rd 0x3102 0) ++ toBytes 1 0 ++ toBytes 2 flags ++
    toBytes 8 (unsignedOf 64 corr) ++ toBytes 4 0 ++ toBytes 10 (s.portIdentity i) ++ toBytes 2 seq ++ toBytes 1 control ++
    toBytes 1 interval ++ body

/-- The next sequence number of a message type on a port. -/
def State.nextSeq (s : State) (i ty : Nat) : State × Nat :=
  let n := Tab.get 0 (s.ptpPort i).seqs ty
  (s.updPtp i (fun q => { q with seqs := Tab.set q.seqs ty ((n + 1) % 65536) }), n)

/-- The unicast flag of a message. -/
def unicastFlag (peer : Option Peer) : Nat := if peer.isSome then 0x0400 else 0

/-- The addressees of a message whose interval `v` has expired: all, or the unicast peers granted it (R383). -/
def State.dueTargets (s : State) (i ty v : Nat) : State × List (Option Peer) :=
  if s.rd 0x3101 0 = 0 then
    let due := match Tab.find? (s.ptpPort i).sent ty with
      | some t => decide (t + intervalTicks v ≤ s.clk)
      | none => true
    if due then (s.updPtp i (fun q => { q with sent := Tab.set q.sent ty s.clk }), [none]) else (s, [])
  else
    let due (g : Grant) : Bool := g.msg == ty && decide (s.clk < g.ends) && decide (g.sentAt + intervalTicks g.interval ≤ s.clk)
    let l := (s.ptpPort i).grants.filter due
    (s.updPtp i (fun q => { q with grants := q.grants.map (fun g => if due g then { g with sentAt := s.clk } else g) }),
      l.map (fun g : Grant => some g.peer))

/-- SYNC_INTERVAL (R385, R386): a master port sends a one-step Sync, or a two-step one whose departure is recorded. -/
def syncInterval (i : Nat) (s : State) : State :=
  if s.ptpRuns i = true ∧ s.rd 0x3110 i = 6 then
    let (s, l) := s.dueTargets i 0 (s.rd 0x310C i)
    let two := s.rd 0x3106 0 == 1
    l.foldl (fun s p =>
      let (s, n) := s.nextSeq i 0
      let s := if two then s.updPtp i (fun q => { q with under := Tab.set q.under n p }) else s
      s.sendPtp i p true (!two) two
        (s.ptpMessage i 0 (unicastFlag p + if two then 0x0200 else 0) 0 n 0 (s.rd 0x310C i) (toBytes 10 0))) s
  else s

/-- SYNC_INTERVAL (R386). -/
def execSyncInterval (el : Nat) (port : PortNo) (s : State) : Out := s.run el (syncInterval port.val)

/-- DELAY_REQ_INTERVAL (R385): a slave port sends a Delay_Req whose departure is recorded. -/
def delayReqInterval (i : Nat) (s : State) : State :=
  if s.ptpRuns i = true ∧ s.rd 0x3110 i = 9 then
    let due := match Tab.find? (s.ptpPort i).sent 1 with
      | some t => decide (t + intervalTicks (s.rd 0x310D i) ≤ s.clk)
      | none => true
    let peer : Option (Option Peer) :=
      if s.rd 0x3101 0 = 0 then some none
      else ((s.ptpPort i).masters.find? (fun g => g.msg == 9 && decide (s.clk < g.ends))).map (fun g : Grant => some g.peer)
    match due, peer with
    | true, some p =>
      let (s, n) := s.nextSeq i 1
      let s := (s.inc 0x3122 i).updPtp i (fun q => { q with req := some (n, none), sent := Tab.set q.sent 1 s.clk })
      s.sendPtp i p true false true (s.ptpMessage i 1 (unicastFlag p) 0 n 1 0x7F (toBytes 10 0))
    | _, _ => s
  else s

/-- DELAY_REQ_INTERVAL (R385). -/
def execDelayReqInterval (el : Nat) (port : PortNo) (s : State) : Out := s.run el (delayReqInterval port.val)

/-- Uses a departure record (R375, R385): the Follow_Up of a two-step Sync, or t3 of the Delay_Req under way. -/
def State.useDeparture (s : State) (i : Nat) (d : Departure) : State :=
  let t := s.departureDT d.rc d.frac
  if d.msg = 0 then
    match Tab.find? (s.ptpPort i).under d.seqId with
    | some p =>
      let s := s.updPtp i (fun q => { q with under := Tab.del q.under d.seqId })
      let v := encDT t
      s.sendPtp i p false false false
        (s.ptpMessage i 8 (unicastFlag p) (v % 65536 : Nat) d.seqId 2 (s.rd 0x310C i) (toBytes 10 (v / 65536)))
    | none => s
  else
    s.updPtp i (fun q => { q with req := q.req.map (fun r : Nat × Option Int => if r.1 = d.seqId then (r.1, some t) else r) })

/-- DEPARTURE_RECORD (R375): the port group writes a record; the active controller uses it, and while there is none it waits
among at most 64. -/
def departureRecord (i : Nat) (s : State) : State :=
  match Tab.get [] s.leaving i with
  | [] => s
  | d :: rest =>
    let s := { s with leaving := if rest = [] then Tab.del s.leaving i else Tab.set s.leaving i rest }
    if s.holder.isSome ∧ s.ctlState s.active = 5 then s.useDeparture i d
    else if (Tab.get [] s.departures i).length < 64 then { s with departures := Tab.upd [] s.departures i (· ++ [d]) }
    else (s.inc 0x3126 i).fault 185 i

/-- DEPARTURE_RECORD (R375). -/
def execDepartureRecord (el : Nat) (port : PortNo) (s : State) : Out := s.run el (departureRecord port.val)

/-! ### Offset and mean path delay (R385) -/

/-- A new t2 - t1: with the mean path delay it gives the offset, less the asymmetry of PID 3019h. -/
def State.measured (s : State) (i : Nat) (forth : Int) : State :=
  let s := s.updPtp i (fun q => { q with forth := some forth })
  match (s.ptpPort i).delay with
  | some d =>
    let o := forth - d - floorDiv (signed 32 (s.rd 0x3019 i) * 65536) 1000
    (s.wr 0x3119 0 (unsignedOf 64 (toPs o))).updServo (fun q => { q with offsets := Tab.set q.offsets 2 o })
  | none => s

/-- The port is the slave, and its parent sent the message. -/
def State.fromParent (s : State) (i o : Nat) (bs : List Byte) : Bool := s.rd 0x3110 i == 9 && sourceOf bs o == s.rd 0x3113 0

/-- SYNC_RECEIVED (R385): t2 from the ingress timestamp; a one-step Sync gives t1 too. -/
def syncReceived (i : Nat) (bs : List Byte) (rc frac : Nat) (s : State) : State :=
  match s.ptpAccepts i 0 44 bs with
  | some o =>
    let s := (s.inc 0x3121 i).wr 0x312B i (rc * 256 + frac)
    if s.fromParent i o bs then
      let s := s.updPtp i (fun q => { q with syncAt := some s.clk })
      let t2 := s.stampDT rc frac
      let c := correctionOf bs o
      if (getBE bs (o + 6) 1).testBit 1 then s.updPtp i (fun q => { q with sync := some (getBE bs (o + 30) 2, t2, c) })
      else s.measured i (t2 - stampUnits (getBE bs (o + 34) 10) - c)
    else s
  | none => s

/-- SYNC_RECEIVED (R385). -/
def execSyncReceived (el : Nat) (port : PortNo) (bytes : List Byte) (rc : BitVec 72) (frac : BitVec 8) (s : State) : Out :=
  s.run el (syncReceived port.val bytes rc.toNat frac.toNat)

/-- FOLLOW_UP_RECEIVED (R385): t1 of the two-step Sync. -/
def followUpReceived (i : Nat) (bs : List Byte) (s : State) : State :=
  match s.ptpAccepts i 8 44 bs with
  | some o =>
    match (s.ptpPort i).sync with
    | some (n, t2, c) =>
      if s.fromParent i o bs = true ∧ n = getBE bs (o + 30) 2 then
        (s.updPtp i (fun q => { q with sync := none })).measured i (t2 - stampUnits (getBE bs (o + 34) 10) - c - correctionOf bs o)
      else s
    | none => s
  | none => s

/-- FOLLOW_UP_RECEIVED (R385). -/
def execFollowUpReceived (el : Nat) (port : PortNo) (bytes : List Byte) (s : State) : Out := s.run el (followUpReceived port.val bytes)

/-- DELAY_REQ_RECEIVED (R385): a master port answers with t4. -/
def delayReqReceived (i : Nat) (bs : List Byte) (rc frac : Nat) (s : State) : State :=
  match s.ptpAccepts i 1 44 bs, ptpAt (s.tpids (groupOf i)) bs with
  | some o, some (_, t) =>
    let s := s.inc 0x3122 i
    let peer := if s.rd 0x3101 0 = 0 then none else some (peerOf bs t)
    let granted := match peer with
      | some p => (s.ptpPort i).grants.any (fun g => g.msg == 9 && g.peer == p && decide (s.clk < g.ends))
      | none => true
    if s.rd 0x3110 i = 6 ∧ granted = true then
      let v := encDT (s.stampDT rc frac)
      s.sendPtp i peer false false false
        (s.ptpMessage i 9 (unicastFlag peer) (correctionOf bs o - (v % 65536 : Nat)) (getBE bs (o + 30) 2) 3 (s.rd 0x310D i)
          (toBytes 10 (v / 65536) ++ toBytes 10 (sourceOf bs o)))
    else s
  | _, _ => s

/-- DELAY_REQ_RECEIVED (R385). -/
def execDelayReqReceived (el : Nat) (port : PortNo) (bytes : List Byte) (rc : BitVec 72) (frac : BitVec 8) (s : State) : Out :=
  s.run el (delayReqReceived port.val bytes rc.toNat frac.toNat)

/-- DELAY_RESP_RECEIVED (R385): t4 gives the mean path delay. -/
def delayRespReceived (i : Nat) (bs : List Byte) (s : State) : State :=
  match s.ptpAccepts i 9 54 bs with
  | some o =>
    let q := s.ptpPort i
    match q.req, q.forth with
    | some (n, some t3), some forth =>
      if s.fromParent i o bs = true ∧ n = getBE bs (o + 30) 2 ∧ getBE bs (o + 44) 10 = s.portIdentity i then
        let back := stampUnits (getBE bs (o + 34) 10) - correctionOf bs o - t3
        let d := floorDiv (forth + back) 2
        (s.updPtp i (fun q => { q with req := none, delay := some d, respAt := some s.clk })).wr 0x3112 i (toPs d).toNat
      else s
    | _, _ => s
  | none => s

/-- DELAY_RESP_RECEIVED (R385). -/
def execDelayRespReceived (el : Nat) (port : PortNo) (bytes : List Byte) (s : State) : Out := s.run el (delayRespReceived port.val bytes)

/-! ### The alternate BMCA (R385, R388) -/

/-- A data set of the BMCA. -/
structure Dataset where
  cls : Nat
  accuracy : Nat
  variance : Nat
  prio2 : Nat
  prioLocal : Nat
  gm : Nat
  steps : Nat
  sender : Nat
  recv : Nat
  deriving DecidableEq, Repr

/-- The first pair that differs: whether its first number is the less. -/
def lexLess : List (Nat × Nat) → Option Bool
  | [] => none
  | (x, y) :: t => if x < y then some true else if y < x then some false else lexLess t

/-- Which of two data sets is the better, and whether by topology only. -/
def Dataset.beats (a b : Dataset) : Bool × Bool :=
  let quality := [(a.cls, b.cls), (a.accuracy, b.accuracy), (a.variance, b.variance), (a.prio2, b.prio2), (a.prioLocal, b.prioLocal)]
  match lexLess (if a.cls ≤ 127 ∧ b.cls ≤ 127 then quality else quality ++ [(a.gm, b.gm)]) with
  | some x => (x, false)
  | none =>
    if a.steps + 1 < b.steps then (true, false)
    else if b.steps + 1 < a.steps then (false, false)
    else if a.steps < b.steps then (true, !decide (b.recv < b.sender))
    else if b.steps < a.steps then (false, !decide (a.recv < a.sender))
    else ((lexLess [(a.sender, b.sender), (a.recv, b.recv)]).getD true, true)

/-- The module's own clockAccuracy (PID 311Bh) and variance: those of a locked grandmaster, and unknown otherwise. -/
def State.ownQuality (s : State) : Nat × Nat :=
  if s.rd 0x3100 0 = 2 ∧ s.rd 0x3400 0 = 2 ∧ (s.rd 0x3401 0 = 1 ∨ s.rd 0x3401 0 = 3) then (0x21, 0x4E5D) else (0xFE, 0xFFFF)

/-- The module's own data set. -/
def State.ownDataset (s : State) : Dataset :=
  let c := s.ownClass
  ⟨if c.2 then 248 else c.1, s.ownQuality.1, s.ownQuality.2, s.rd 0x3104 0, s.rd 0x3105 0, s.clockIdentity, 0, s.clockIdentity * 65536,
    s.clockIdentity * 65536⟩

/-- A foreign master's data set on a port. -/
def State.foreignDataset (s : State) (i : Nat) (f : Foreign) : Dataset :=
  ⟨f.cls, f.accuracy, f.variance, f.prio2, s.rd 0x3109 i, f.gm, f.steps, f.sender, s.portIdentity i⟩

/-- The better of two foreign masters on a port. -/
def State.betterForeign (s : State) (i : Nat) (a : Option Foreign) (f : Foreign) : Option Foreign :=
  match a with
  | some g => if ((s.foreignDataset i g).beats (s.foreignDataset i f)).1 then some g else some f
  | none => some f

/-- The best qualified foreign master of a port that may be a slave; a master counts once it has sent two Announces within four
intervals. -/
def State.bestForeign (s : State) (i : Nat) : Option Foreign :=
  if s.ptpRuns i = true ∧ s.flag 0x310A i = false then
    ((s.ptpPort i).foreign.filter (fun f => f.before.isSome &&
      decide (s.clk ≤ f.heard + max 4 (s.rd 0x310F i) * intervalTicks (s.rd 0x310E i)))).foldl (s.betterForeign i) none
  else none

/-- The best foreign master of all ports. -/
def State.bestOfAll (s : State) : Option (Nat × Foreign) :=
  (List.range 144).foldl (fun a i =>
    match s.bestForeign i, a with
    | some f, some (j, g) => if ((s.foreignDataset j g).beats (s.foreignDataset i f)).1 then some (j, g) else some (i, f)
    | some f, none => some (i, f)
    | none, a => a) none

/-- The state decision of a port: 3 disabled, 4 listening, 6 master, 7 passive, 9 slave. -/
def State.decidePort (s : State) (best : Option (Nat × Foreign)) (i : Nat) : Nat :=
  if s.ptpRuns i = false then 3
  else
    let st := s.rd 0x3110 i
    let alone := if st = 3 ∨ st = 4 then 4 else 6
    let d0 := s.ownDataset
    let mine := s.bestForeign i
    let isBest := match best with
      | some (j, _) => j == i
      | none => false
    if s.flag 0x3107 0 then (if isBest then 9 else 4)
    else if d0.cls ≤ 127 then
      match mine with
      | some f => if (d0.beats (s.foreignDataset i f)).1 then 6 else 7
      | none => alone
    else
      match mine, best with
      | some f, some (j, g) =>
        if (d0.beats (s.foreignDataset j g)).1 then 6
        else if isBest then 9
        else if ((s.foreignDataset j g).beats (s.foreignDataset i f)) = (true, true) then 7
        else 6
      | _, _ => alone

/-- The parent and grandmaster data (PIDs 3113h to 3118h), and the UTC data of the parent (R382). -/
def State.setParent (s : State) (f : Option Foreign) : State :=
  let c := s.ownDataset
  let old := s.rd 0x3113 0
  let new := match f with
    | some f => f.sender
    | none => s.clockIdentity * 65536
  let s := if old ≠ 0 ∧ old ≠ new then s.inc 0x312E 0 else s
  let s := s.wr 0x3113 0 new
  match f with
  | some f =>
    let s := ((((s.wr 0x3114 0 f.gm).wr 0x3115 0 f.cls).wr 0x3116 0 f.accuracy).wr 0x3117 0 f.variance).wr 0x3118 0 (f.steps + 1)
    let s := s.updServo (fun q => { q with utcPtp := if f.flags.testBit 2 then some f.utc else none })
    let s := if s.servo.utcGnss.isNone then s.announceLeap (if f.flags.testBit 0 then 1 else if f.flags.testBit 1 then 2 else 0) else s
    s.refreshUtc
  | none =>
    let s := ((((s.wr 0x3114 0 c.gm).wr 0x3115 0 c.cls).wr 0x3116 0 c.accuracy).wr 0x3117 0 c.variance).wr 0x3118 0 0
    (s.updServo (fun q => { q with utcPtp := none })).refreshUtc

/-- Sets a port's state (PID 3110h): what the slave side measured ends with a change of the slave state. -/
def State.setPtpState (s : State) (i v : Nat) : State :=
  let old := s.rd 0x3110 i
  if old = v then s
  else
    let s := s.wr 0x3110 i v
    let s := if old = 3 ∨ v = 9 then s.updPtp i (fun q => { q with heard := s.clk }) else s
    if old = 9 ∨ v = 9 then
      s.updPtp i (fun q => { q with sync := none, forth := none, req := none, delay := none, syncAt := none, respAt := none })
    else s

/-- The state decision event: every port, and the parent. -/
def State.runBmca (s : State) : State :=
  let best := s.bestOfAll
  let l := (List.range 144).map (fun i => (i, s.decidePort best i))
  let s := l.foldl (fun s (x : Nat × Nat) => s.setPtpState x.1 x.2) s
  let slave := (l.filter (fun x : Nat × Nat => x.2 == 9)).length
  (s.wr 0x312F 0 slave).setParent (if slave = 0 then none else best.map Prod.snd)

/-- The foreign masters of a port after an Announce. -/
def noteForeign (l : List Foreign) (f : Foreign) (window : Nat) : List Foreign :=
  match l.find? (fun g => g.sender == f.sender) with
  | some g => l.map (fun x => if x.sender = f.sender then { f with before := if f.heard ≤ g.heard + window then some g.heard else none } else x)
  | none => l ++ [f]

/-- ANNOUNCE_RECEIVED (R385): the data of a foreign master go into the BMCA. -/
def announceReceived (i : Nat) (bs : List Byte) (s : State) : State :=
  match s.ptpAccepts i 11 64 bs with
  | some o =>
    let s := s.inc 0x3123 i
    let f : Foreign := ⟨getBE bs (o + 48) 1, getBE bs (o + 49) 1, getBE bs (o + 50) 2, getBE bs (o + 52) 1, getBE bs (o + 53) 8,
      getBE bs (o + 61) 2, sourceOf bs o, getBE bs (o + 7) 1, getBE bs (o + 44) 2, s.clk, none⟩
    if (getBE bs (o + 6) 1).testBit 0 = true ∨ f.sender / 65536 = s.clockIdentity ∨ 255 ≤ f.steps then s
    else
      let s := s.updPtp i (fun q => { q with
        foreign := noteForeign q.foreign f (4 * intervalTicks (s.rd 0x310E i))
        heard := if s.rd 0x3110 i ≠ 9 ∨ f.sender = s.rd 0x3113 0 then s.clk else q.heard })
      s.runBmca
  | none => s

/-- ANNOUNCE_RECEIVED (R385). -/
def execAnnounceReceived (el : Nat) (port : PortNo) (bytes : List Byte) (s : State) : Out := s.run el (announceReceived port.val bytes)

/-- ANNOUNCE_RECEIPT_TIMEOUT (R408, PID 310Fh): the masters not heard any more are dropped. -/
def announceReceiptTimeout (i : Nat) (s : State) : State :=
  let q := s.ptpPort i
  let w := s.rd 0x310F i * intervalTicks (s.rd 0x310E i)
  if s.ptpRuns i = true ∧ [4, 7, 9].contains (s.rd 0x3110 i) = true ∧ q.heard + w ≤ s.clk then
    let s := (s.inc 0x3124 i).updPtp i (fun q => { q with foreign := q.foreign.filter (fun f => decide (s.clk < f.heard + w)), heard := s.clk })
    (s.setPtpState i (if s.flag 0x3107 0 then 4 else 6)).runBmca
  else s

/-- ANNOUNCE_RECEIPT_TIMEOUT (R408). -/
def execAnnounceReceiptTimeout (el : Nat) (port : PortNo) (s : State) : Out := s.run el (announceReceiptTimeout port.val)

/-- The flags of an Announce of the module as grandmaster. -/
def State.announceFlags (s : State) (cls : Nat) : Nat :=
  let leap := s.rd 0x300B 0
  let traced := cls == 6 || cls == 7
  (if leap = 1 then 1 else if leap = 2 then 2 else 0) + (if s.servo.utcGnss.isSome then 4 else 0) + 8 +
    (if traced then 16 else 0) + (if traced then 32 else 0)

/-- The Announce of the module (R388): its parent's grandmaster data, or itself as grandmaster. -/
def State.announceBody (s : State) : Nat × List Byte :=
  let c := s.ownClass
  let fields (utc cls acc var prio2 gm steps src : Nat) : List Byte :=
    toBytes 10 0 ++ toBytes 2 utc ++ toBytes 1 0 ++ toBytes 1 128 ++ toBytes 1 cls ++ toBytes 1 acc ++ toBytes 2 var ++ toBytes 1 prio2 ++
      toBytes 8 gm ++ toBytes 2 steps ++ toBytes 1 src
  match c.2, s.slavePort.bind s.bestForeign with
  | true, some f => (f.flags, fields f.utc f.cls f.accuracy f.variance f.prio2 f.gm (f.steps + 1) 0x40)
  | _, _ =>
    let q := s.ownQuality
    let src := if s.rd 0x3401 0 = 1 then 0x20 else 0xA0
    (s.announceFlags c.1, fields (s.rd 0x3009 0) c.1 q.1 q.2 (s.rd 0x3104 0) s.clockIdentity 0 src)

/-- ANNOUNCE_INTERVAL (R385, R388): the state decision, and a master port's Announce. -/
def announceInterval (i : Nat) (s : State) : State :=
  if s.ptpRuns i then
    let s := s.runBmca
    if s.rd 0x3110 i = 6 then
      let (s, l) := s.dueTargets i 11 (s.rd 0x310E i)
      let b := s.announceBody
      l.foldl (fun s p =>
        let (s, n) := s.nextSeq i 11
        s.sendPtp i p false false false (s.ptpMessage i 11 (unicastFlag p + b.1) 0 n 5 (s.rd 0x310E i) b.2)) s
    else s
  else s

/-- ANNOUNCE_INTERVAL (R388). -/
def execAnnounceInterval (el : Nat) (port : PortNo) (s : State) : Out := s.run el (announceInterval port.val)

/-! ### Unicast negotiation (R383, R385) -/

/-- The type-length-value parts of a Signaling message. -/
def tlvs : Nat → List Byte → List (Nat × List Byte)
  | 0, _ => []
  | n + 1, bs =>
    if bs.length < 4 then []
    else
      let l := getBE bs 2 2
      (getBE bs 0 2, (bs.drop 4).take l) :: tlvs n (bs.drop (4 + l))

/-- Sends a Signaling message to a peer. -/
def State.sendSignaling (s : State) (i : Nat) (p : Peer) (target : Nat) (parts : List Byte) : State :=
  let (s, n) := s.nextSeq i 12
  s.sendPtp i (some p) false false false (s.ptpMessage i 12 0x0400 0 n 5 0x7F (toBytes 10 target ++ parts))

/-- The unicast masters configured on a port (PID 311Eh). -/
def State.unicastMasters (s : State) (i : Nat) : List (Nat × Nat) :=
  ((List.range 4).map (fun n =>
    let r := s.rd 0x311E (4 * i + n)
    let ty := byteAt 20 r 0
    (ty, if ty = 4 then bytesAt 20 r 1 4 else bytesAt 20 r 1 16))).filter (fun x : Nat × Nat => x.1 != 0)

/-- The grants without those of a message type to a peer. -/
def dropGrant (l : List Grant) (p : Peer) (ty : Nat) : List Grant :=
  l.filter (fun g => !(g.msg == ty && g.peer.ty == p.ty && g.peer.addr == p.addr))

/-- The log intervals that may be granted: those of PIDs 310Ch to 310Eh. -/
def grantable (ty v : Nat) : Bool :=
  let n := signed 8 v
  if ty = 11 then decide (-3 ≤ n ∧ n ≤ 1) else (ty == 0 || ty == 9) && decide (-7 ≤ n ∧ n ≤ 0)

/-- One part of a Signaling message: a request is granted for at most PID 3120h, a grant is taken from a configured master, a
cancellation is acknowledged. The parts of the reply follow. -/
def State.signalPart (s : State) (i : Nat) (p : Peer) (x : Nat × List Byte) : State × List Byte :=
  let ty := getBE x.2 0 1 / 16
  let v := getBE x.2 1 1
  let dur := getBE x.2 2 4
  match x.1 with
  | 4 =>
    let d := if grantable ty v then min dur (s.rd 0x3120 0) else 0
    let g : List Grant := if d = 0 then [] else [⟨p, ty, v, s.clk + d * ticksPerSec, 0⟩]
    (s.updPtp i (fun q => { q with grants := dropGrant q.grants p ty ++ g }),
      toBytes 2 5 ++ toBytes 2 8 ++ toBytes 1 (ty * 16) ++ toBytes 1 v ++ toBytes 4 d ++ toBytes 1 0 ++ toBytes 1 1)
  | 5 =>
    if (s.unicastMasters i).contains (p.ty, p.addr) then
      let g : List Grant := if dur = 0 then [] else [⟨p, ty, v, s.clk + dur * ticksPerSec, 0⟩]
      (s.updPtp i (fun q => { q with masters := dropGrant q.masters p ty ++ g }), [])
    else (s, [])
  | 6 =>
    (s.updPtp i (fun q => { q with grants := dropGrant q.grants p ty, masters := dropGrant q.masters p ty }),
      toBytes 2 7 ++ toBytes 2 2 ++ toBytes 1 (ty * 16) ++ toBytes 1 0)
  | _ => (s, [])

/-- SIGNALING_RECEIVED (R385). -/
def signalingReceived (i : Nat) (bs : List Byte) (s : State) : State :=
  match s.ptpAccepts i 12 44 bs, ptpAt (s.tpids (groupOf i)) bs with
  | some o, some (_, t) =>
    let target := getBE bs (o + 34) 10
    if s.rd 0x3101 0 = 1 ∧ s.flag 0x311D i = true ∧ (target = s.portIdentity i ∨ target = 2 ^ 80 - 1) then
      let p := peerOf bs t
      let parts := tlvs 32 ((bs.take (o + getBE bs (o + 2) 2)).drop (o + 44))
      let r := parts.foldl (fun (a : State × List Byte) x => let b := a.1.signalPart i p x; (b.1, a.2 ++ b.2)) (s, [])
      if r.2 = [] then r.1 else r.1.sendSignaling i p (sourceOf bs o) r.2
    else s
  | _, _ => s

/-- SIGNALING_RECEIVED (R385). -/
def execSignalingReceived (el : Nat) (port : PortNo) (bytes : List Byte) (s : State) : Out := s.run el (signalingReceived port.val bytes)

/-- A request for the unicast transmission of a message type. -/
def requestPart (ty v dur : Nat) : List Byte := toBytes 2 4 ++ toBytes 2 6 ++ toBytes 1 (ty * 16) ++ toBytes 1 v ++ toBytes 4 dur

/-- UNICAST_GRANT_REQUEST (R385, PIDs 311Eh and 3120h): Announce, Sync and Delay_Resp are asked of every configured master. -/
def unicastGrantRequest (i : Nat) (s : State) : State :=
  if s.ptpRuns i = true ∧ s.rd 0x3101 0 = 1 ∧ s.flag 0x311D i = true then
    (s.unicastMasters i).foldl (fun s (m : Nat × Nat) =>
      let dur := s.rd 0x3120 0
      s.sendSignaling i ⟨(Config.neighbourMac i m.2).toNat, m.1, m.2⟩ (2 ^ 80 - 1)
        (requestPart 11 (s.rd 0x310E i) dur ++ requestPart 0 (s.rd 0x310C i) dur ++ requestPart 9 (s.rd 0x310D i) dur)) s
  else s

/-- UNICAST_GRANT_REQUEST (R385). -/
def execUnicastGrantRequest (el : Nat) (port : PortNo) (s : State) : Out := s.run el (unicastGrantRequest port.val)

end Sys2Proof.Machine
end

