-- ==== Sys2Proof/Machine/Clocks.lean ====
section
/-! DEFINITION. The kiln and its vote, root PLLs and fallbacks, core step-down, meters and clock gates (13; 03 R79). -/

namespace Sys2Proof.Machine

/-! ### The kiln (03 R79; 13 R416 to R418) -/

/-- KILN_READY (R79, R418): 10 s within 0.05 K with all three resonators agreeing. The duration counts a warm-up from heating. -/
def kilnReady (s : State) : State :=
  if s.isOn 12 = true ∧ s.flag 0x0125 0 = false ∧ s.rd 0x020A 0 = 0 then
    let warm := s.rd 0x0200 0 == 0
    let s := ((s.wr 0x0125 0 1).wr 0x0200 0 1).wr 0x0201 0 140000
    if warm then s.wr 0x0126 0 (saturate 16 ((s.clk - s.power.warmFrom) / ticksPerSec)) else s
  else s

/-- KILN_READY (R79). -/
def execKilnReady (el : Nat) (s : State) : Out := s.run el kilnReady

/-- The bound of R79 in ms between two rows of its table. -/
def between (t t0 m0 t1 m1 : Int) : Int := m0 + floorDiv ((t - t0) * (m1 - m0)) (t1 - t0)

/-- The bound of R79 in ms for a case temperature in 0.1 °C, interpolated; the ends hold beyond the table. -/
def warmUpBound (tc : Int) : Int :=
  if tc ≤ -550 then 240000
  else if tc ≤ -200 then between tc (-550) 240000 (-200) 200000
  else if tc ≤ 250 then between tc (-200) 200000 250 130000
  else if tc ≤ 850 then between tc 250 130000 850 60000
  else if tc ≤ 1250 then between tc 850 60000 1250 25000
  else 25000

/-- KILN_WARM_UP_OVERRUN (17 R516): fault bit 8, once a warm-up. -/
def kilnWarmUpOverrun (s : State) : State :=
  if s.isOn 12 = true ∧ s.rd 0x0200 0 = 0 ∧ s.clocks.late = false ∧
      s.power.warmFrom + (warmUpBound s.power.tc).toNat * ticksPerMs < s.clk then
    (s.updClocks (fun q => { q with late := true })).fault 8 moduleInst
  else s

/-- KILN_WARM_UP_OVERRUN (17 R516). -/
def execKilnWarmUpOverrun (el : Nat) (s : State) : Out := s.run el kilnWarmUpOverrun

/-- OVEN_OUT_OF_REGULATION (R418): outside 140 °C ± 0.5 K for 10 s, with the temperature in m°C. -/
def ovenOutOfRegulation (temp : Nat) (s : State) : State :=
  if s.isOn 12 = true ∧ s.rd 0x0200 0 = 1 ∧ (temp < 139500 ∨ 140500 < temp) then
    (((s.wr 0x0200 0 2).wr 0x0125 0 0).wr 0x0201 0 temp).fault 194 moduleInst
  else s

/-- OVEN_OUT_OF_REGULATION (R418). -/
def execOvenOutOfRegulation (el : Nat) (temp : BitVec 32) (s : State) : Out := s.run el (ovenOutOfRegulation temp.toNat)

/-- Whether two resonators agree: both have output, and their offsets in ppt differ by no more than the tolerance in ppb. -/
def agrees (tol : Nat) (a b : Option Int) : Bool :=
  match a, b with
  | some x, some y => decide ((x - y).natAbs ≤ 1000 * tol)
  | _, _ => false

/-- One resonator in a comparison (R416): excluded when it agrees with neither; readmitted after 100 comparisons in a row in
which it agrees with both. -/
def State.voteOne (s : State) (k : Nat) (mine : Option Int) (a b : Bool) : State :=
  let was := s.rd (0x0203 + k) 0
  let state (v : Nat) (s : State) : State := s.wr (0x0203 + k) 0 (if mine.isNone then 2 else v)
  if was = 0 then
    if a ∨ b then s
    else ((state 1 s).inc 0x020C 0).updClocks (fun q => { q with agree := Tab.del q.agree k }) |>.fault 192 moduleInst
  else
    let n := if a && b then Tab.get 0 s.clocks.agree k + 1 else 0
    let s := s.updClocks (fun q => { q with agree := Tab.set q.agree k n })
    if 100 ≤ n then (s.updClocks (fun q => { q with agree := Tab.del q.agree k })).wr (0x0203 + k) 0 0 else state 1 s

/-- A new reference (R417). -/
def State.selectResonator (s : State) (k : Nat) : State :=
  if s.rd 0x0202 0 = k then s else ((s.wr 0x0202 0 k).inc 0x020B 0).stamp 0x020D 0

/-- The vote and the reference it selects (R416). -/
def State.voteResult (s : State) (out : Nat → Bool) : State :=
  let bad := (List.range 3).filter (fun k => s.rd (0x0203 + k) 0 != 0)
  let sel := s.rd 0x0202 0
  match bad with
  | [] => s.wr 0x020A 0 0
  | [x] =>
    let s := s.wr 0x020A 0 1
    if x = sel then s.selectResonator (if x = 0 then 1 else 0) else s
  | _ =>
    let s := if s.rd 0x020A 0 = 2 then s else (s.wr 0x020A 0 2).fault 193 moduleInst
    if out sel then s
    else
      match (List.range 3).find? out with
      | some k => s.selectResonator k
      | none => s

/-- RESONATOR_VOTE (R416): the offsets of the three resonators from nominal in ppt, none without output. -/
def resonatorVote (r0 r1 r2 : Option Int) (s : State) : State :=
  if s.isOn 12 then
    let tol := s.rd 0x0209 0
    let a01 := agrees tol r0 r1
    let a02 := agrees tol r0 r2
    let a12 := agrees tol r1 r2
    let r (k : Nat) : Option Int := if k = 0 then r0 else if k = 1 then r1 else r2
    let s := (((s.voteOne 0 r0 a01 a02).voteOne 1 r1 a01 a12).voteOne 2 r2 a02 a12).voteResult (fun k => (r k).isSome)
    (List.range 3).foldl (fun s k =>
      match r k, r (s.rd 0x0202 0) with
      | some x, some y => s.wr (0x0206 + k) 0 (unsignedOf 32 (x - y))
      | _, _ => s) s
  else s

/-- RESONATOR_VOTE (R416). -/
def execResonatorVote (el : Nat) (r0 r1 r2 : Option (BitVec 32)) (s : State) : Out :=
  s.run el (resonatorVote (r0.map BitVec.toInt) (r1.map BitVec.toInt) (r2.map BitVec.toInt))

/-! ### Root PLLs (R420, R423) -/

/-- ROOT_PLL_UNLOCK (R420): the domain goes to its fallback oscillator, `ppb` off the reference. -/
def rootPllUnlock (d ppb : Nat) (s : State) : State :=
  if s.isOn d = true ∧ s.rd 0x020F d = 0 then
    (s.toFallback d).wr 0x0212 d ppb
  else s

/-- ROOT_PLL_UNLOCK (R420). -/
def execRootPllUnlock (el : Nat) (dom : Fin 13) (ppb : BitVec 32) (s : State) : Out := s.run el (rootPllUnlock dom.val ppb.toNat)

/-- FALLBACK_RETURN (R420): locked for the fallback return delay. -/
def fallbackReturn (d : Nat) (s : State) : State :=
  match Tab.find? s.clocks.fallbackAt d with
  | some t =>
    let since := max t (Tab.get 0 s.clocks.poweredAt 12)
    if s.isOn 12 = true ∧ since + s.rd 0x022F 0 * ticksPerMs ≤ s.clk ∧ s.rd 0x020F d = 1 then
      ((s.wr 0x020E d 2).wr 0x020F d 0).updClocks (fun q => { q with fallbackAt := Tab.del q.fallbackAt d })
    else s
  | none => s

/-- FALLBACK_RETURN (R420). -/
def execFallbackReturn (el : Nat) (dom : Fin 13) (s : State) : Out := s.run el (fallbackReturn dom.val)

/-- FORCED_SWITCH (R423): 64 incoming cycles with no outgoing edge. -/
def forcedSwitch (d : Nat) (s : State) : State := if s.dom d = 0 then s else (s.inc 0x0210 d).fault 196 d

/-- FORCED_SWITCH (R423). -/
def execForcedSwitch (el : Nat) (dom : Fin 13) (s : State) : Out := s.run el (forcedSwitch dom.val)

/-! ### Core step-down (R421) -/

/-- A plane's ramp. -/
def State.ramp (s : State) (p : Nat) : Ramp := Tab.get Ramp.init s.clocks.ramps p
/-- Changes a plane's ramp. -/
def State.updRamp (s : State) (p : Nat) (f : Ramp → Ramp) : State :=
  s.updClocks (fun q => { q with ramps := Tab.upd Ramp.init q.ramps p f })

/-- Sets the core divider, with the time below ÷4 (PIDs 0214h, 021Dh to 021Fh). -/
def State.setDivider (s : State) (p d : Nat) : State :=
  let r := s.ramp p
  let spent := r.slowTicks + (match r.slowFrom with
    | some t => s.clk - t
    | none => 0)
  let s := s.updRamp p (fun q => { q with stepAt := s.clk, slowFrom := if d = 4 then none else some s.clk, slowTicks := spent % ticksPerMs })
  (((s.wr 0x0214 p d).incBy 0x021D p (spent / ticksPerMs)).stamp 0x021E p).wr 0x021F p (4800000 / d)

/-- Where a ramp leads: the floor, or the full clock. -/
def State.rampEnd (s : State) (p : Nat) : Nat := if (s.ramp p).dir = 2 then 4 else s.rd 0x0215 p

/-- Moves the divider one value toward the end of the ramp; the ramp ends there. -/
def State.rampStep (s : State) (p : Nat) : State :=
  let d := s.rd 0x0214 p
  let e := s.rampEnd p
  let s := if d < e ∧ (s.ramp p).dir = 1 then s.setDivider p (d + 1)
    else if e < d then s.setDivider p (d - 1)
    else s
  if s.rd 0x0214 p = e ∨ (s.rd 0x0214 p < e ∧ (s.ramp p).dir ≠ 1) then s.updRamp p (fun q => { q with dir := 0 }) else s

/-- Starts a ramp, or turns one round at its next boundary. -/
def State.startRamp (s : State) (p dir : Nat) : State :=
  let old := (s.ramp p).dir
  let s := s.inc (if dir = 1 then 0x021B else 0x021C) p
  let s := s.updRamp p (fun q => { q with dir := dir })
  if old = 0 then s.rampStep p else s

/-- DIVIDER_RAMP_STEP (R421): a 4 µs boundary of a ramp. -/
def dividerRampStep (p : Nat) (s : State) : State :=
  if s.isOn (domPlane p) = true ∧ (s.ramp p).dir ≠ 0 ∧ (s.ramp p).stepAt + 1600 ≤ s.clk then s.rampStep p else s

/-- DIVIDER_RAMP_STEP (R421). -/
def execDividerRampStep (el : Nat) (plane : PlaneNo) (s : State) : Out := s.run el (dividerRampStep plane.val)

/-- Adds a measurement of a pipeline to the mean of its millisecond (PID 021Ah). -/
def State.noteLoad (s : State) (i n : Nat) : State :=
  let w := s.rc / ticksPerMs
  let put (x : Nat × Nat × Nat) (s : State) : State := s.updClocks (fun q => { q with loads := Tab.set q.loads i x })
  match Tab.find? s.clocks.loads i with
  | some (w', a, k) => if w' = w then put (w, a + n, k + 1) s else put (w, n, 1) (s.wr 0x021A i (a * 1000 / (1200 * k)))
  | none => put (w, n, 1) s

/-- The ramp that the loads and the floor call for (R421): from the divider, the floor and the direction of the ramp that runs. -/
def rampWanted (high dwelt : Bool) (d floor dir : Nat) : Option Nat :=
  if high && decide (4 < d) && dir != 2 then some 2
  else if decide (floor < d) && dir != 2 && dir != 3 then some 3
  else if dwelt && !high && decide (d < floor) && dir == 0 then some 1
  else none

/-- Every load of a plane has been below the step-down threshold for the dwell time (R421). -/
def State.dwelt (s : State) (p : Nat) : Bool :=
  match (s.ramp p).below with
  | some t => decide (t + s.rd 0x0219 0 * ticksPerMs ≤ s.clk)
  | none => false

/-- LOAD_MEASUREMENT (R421): the frames that each pipeline of a plane was presented in the microsecond, 16 bits for each. -/
def loadMeasurement (p : Nat) (loads : BitVec 128) (s : State) : State :=
  if s.isOn (domPlane p) then
    let n (k : Nat) : Nat := field loads.toNat (16 * k + 15) (16 * k)
    let s := (List.range 8).foldl (fun s k => s.noteLoad (8 * p + k) (n k)) s
    let runs := s.flag 0x0213 0 && s.stageAtLeast 2
    let s := s.wr 0x0215 p (if runs then s.floorDivider else 4)
    let low := (List.range 8).all (fun k => decide (n k * 100 < s.rd 0x0217 0 * 1200))
    let high := (List.range 8).any (fun k => decide (s.rd 0x0218 0 * 1200 < n k * 100))
    let s := s.updRamp p (fun q => { q with below := if low && runs then q.below.or (some s.clk) else none })
    match rampWanted high (s.dwelt p) (s.rd 0x0214 p) (s.rd 0x0215 p) (s.ramp p).dir with
    | some k => s.startRamp p k
    | none => s
  else s

/-- LOAD_MEASUREMENT (R421). -/
def execLoadMeasurement (el : Nat) (plane : PlaneNo) (loads : BitVec 128) (s : State) : Out := s.run el (loadMeasurement plane.val loads)

/-! ### Frequency meters (R424) -/

/-- Nominal frequency of a source code in Hz; 0 where the code names none. -/
def meterNominal (v : Nat) : Nat :=
  if v ≤ 3 then 100000000
  else if (16 ≤ v ∧ v ≤ 28) ∨ (32 ≤ v ∧ v ≤ 44) then 100000000
  else if 48 ≤ v ∧ v ≤ 55 then 156250000
  else if 64 ≤ v ∧ v ≤ 76 then 400000000
  else 0

/-- A source is powered and gives output. -/
def State.meterSource (s : State) (v : Nat) : Bool :=
  if v ≤ 2 then s.isOn 12 && s.rd (0x0203 + v) 0 != 2
  else if v = 3 then s.isOn 12
  else if v ≤ 28 then s.isOn (v - 16) && s.rd 0x020E (v - 16) != 3
  else if v ≤ 44 then s.isOn (v - 32)
  else if v ≤ 55 then s.isOn (domGroup (v - 48))
  else s.isOn (v - 64)

/-- Starts the measurement of a channel whose mode is not stopped; whatever it measured before is discarded. A continuous channel
whose source is absent tries again a gate time later (DESIGN CHOICE, log entry 74). -/
def State.startMeter (s : State) (k : Nat) : State :=
  if s.rd 0x0223 k = 0 ∨ s.gateShut (domCtl (k / 8)) 7 = true then (s.wr 0x0226 k 0).updClocks (fun q => { q with meters := Tab.del q.meters k })
  else if s.meterSource (s.rd 0x0220 k) && s.meterSource (s.rd 0x0221 k) then
    (s.wr 0x0226 k 1).updClocks (fun q => { q with meters := Tab.set q.meters k s.clk })
  else (s.wr 0x0226 k 3).updClocks (fun q => { q with
    meters := if s.rd 0x0223 k = 2 then Tab.set q.meters k s.clk else Tab.del q.meters k })

/-- METER_MEASUREMENT_COMPLETE (R424): the cycles counted of source and reference, in 1/65,536 cycle. -/
def meterMeasurementComplete (k nm nr : Nat) (s : State) : State :=
  match Tab.find? s.clocks.meters k with
  | some t =>
    if t + s.rd 0x0222 k * ticksPerMs ≤ s.clk ∧ s.isOn (domCtl (k / 8)) = true then
      let s := s.updClocks (fun q => { q with meters := Tab.del q.meters k })
      if s.rd 0x0226 k = 3 then s.startMeter k
      else if (s.meterSource (s.rd 0x0220 k) && s.meterSource (s.rd 0x0221 k)) = true ∧ nr ≠ 0 then
        let fm := meterNominal (s.rd 0x0220 k)
        let fr := meterNominal (s.rd 0x0221 k)
        let ratio : Int := floorDiv ((nm * fr * 1000000000000 : Nat) : Int) ((nr * fm : Nat) : Int) - 1000000000000
        let s := ((s.wr 0x0224 k (unsignedOf 64 ratio)).wr 0x0225 k (nm * fr * 1000 / nr)).inc 0x0227 k
        if s.rd 0x0223 k = 2 then s.startMeter k else s.wr 0x0226 k 2
      else if s.rd 0x0223 k = 2 then s.startMeter k
      else s.wr 0x0226 k 3
    else s
  | none => s

/-- METER_MEASUREMENT_COMPLETE (R424). -/
def execMeterMeasurementComplete (el : Nat) (ch : Fin 16) (nm nr : BitVec 64) (s : State) : Out :=
  s.run el (meterMeasurementComplete ch.val nm.toNat nr.toNat)

/-! ### Clock gates (R425 to R427) -/

/-- Whether a gate exists: planes have blocks 0 to 3, port groups 4 to 6, controllers 7. -/
def gateExists (n : Nat) : Bool :=
  let d := n / 16
  let b := n % 16
  if d < 2 then decide (b < 4) else if d < 10 then decide (4 ≤ b ∧ b ≤ 6) else if d < 12 then b == 7 else false

/-- The entries of a table of the register file whose value satisfies a test. -/
def State.anyEntry (s : State) (pid : Nat) (f : Nat → Nat → Bool) : Bool :=
  s.regs.any (fun e => e.1 / 2 ^ 32 == pid && f (e.1 % 2 ^ 32) e.2)

/-- The function of a gate's block is in use, which opens it automatically (R425). -/
def State.blockInUse (s : State) (n : Nat) : Bool :=
  let d := n / 16
  let g := d - 2
  match n % 16 with
  | 0 => s.flag 0x240D 0
  | 1 => (List.range 144).any (fun i => s.flag 0x1C00 i)
  | 2 => (List.range 144).any (fun i => s.flag 0x2200 i)
  | 3 => (List.range 8).any (fun k => s.queuePort (1176 + k) == 147) || s.anyEntry 0x2000 (fun _ v => decide (byteAt 4 v 0 = 147))
  | 4 => s.anyEntry 0x282C (fun i v => decide (i / 256 = g) && (byteAt 16 v 1).testBit 7) ||
      s.anyEntry 0x2830 (fun i v => decide (i / 256 = g) && (byteAt 8 v 1).testBit 7) ||
      s.anyEntry 0x2832 (fun _ v => (byteAt 8 v 1).testBit 7 && groupOf (byteAt 8 v 0) == g)
  | 5 => (List.range 18).any (fun k => s.rd 0x080B (18 * g + k) != 0)
  | 6 => (List.range 18).any (fun k => s.flag 0x3111 (18 * g + k))
  | _ => (List.range 8).any (fun k => s.rd 0x0223 (8 * (d - 10) + k) != 0)

/-- A gate is asked to be open. -/
def State.gateWanted (s : State) (n : Nat) : Bool :=
  s.isOn (n / 16) && (s.rd 0x0228 n == 1 || (s.rd 0x0228 n == 0 && s.blockInUse n))

/-- The state of a gate (PID 0229h): while an access runs on a gate asked to close, it is closing. -/
def State.gateState (s : State) (n : Nat) : Nat :=
  if !gateExists n then 4
  else if (Tab.find? s.clocks.closing n).isSome then 3
  else if s.gateWanted n then 2
  else 0

/-- The channels with an access in progress to a domain. -/
def State.accessing (s : State) (d : Nat) : List Nat :=
  (List.range 32).filter (fun n => s.chanState n == 1 && (match (s.chan n).cur with
    | some x => (descDomains x).contains d
    | none => false))

/-- The gates that exist. -/
def allGates : List Nat := (List.range 192).filter gateExists

/-- A change of parameters from `old` to `s`: gates asked to close with an access in progress start to close (R427). -/
def State.closeGates (s old : State) : State :=
  (allGates.filter (fun n => old.gateState n == 2 && !s.gateWanted n && !(s.accessing (n / 16)).isEmpty)).foldl
    (fun s n => s.updClocks (fun q => { q with closing := Tab.set q.closing n s.clk })) s

/-- The accesses of a domain have ended: its closing gates are closed. -/
def State.gatesSettle (s : State) : State :=
  s.updClocks (fun q => { q with closing := q.closing.filter (fun e => !(s.accessing (e.1 / 16)).isEmpty) })

/-- FORCED_GATE_CLOSE (R427): 512 ticks after the request the access is aborted. -/
def forcedGateClose (n : Nat) (s : State) : State :=
  match Tab.find? s.clocks.closing n with
  | some t =>
    if t + 512 ≤ s.clk then
      let s := (s.accessing (n / 16)).foldl (fun s k => (s.moveSome k).halt k 5) s
      ((s.updClocks (fun q => { q with closing := Tab.del q.closing n })).inc 0x022A n).fault 197 n
    else s
  | none => s

/-- FORCED_GATE_CLOSE (R427). -/
def execForcedGateClose (el : Nat) (gate : Fin 192) (s : State) : Out := s.run el (forcedGateClose gate.val)

end Sys2Proof.Machine
end

