-- ==== Sys2Proof/Machine/Hod.lean ====
section
/-! DEFINITION. The hod: descriptors and channels, frames to and from the controllers, buffers and the slow path (15; 06 R195;
07 R242 to R244; 12 R374). -/

namespace Sys2Proof.Machine

/-! ### Descriptors (R466 to R472) -/

/-- The space codes that exist for memory and frames (R467). -/
def spaceOk (v : Nat) : Bool := decide (v ≤ 7) || v == 9

/-- Whether a descriptor keeps R466 and R467. -/
def descOk (d : Nat) : Bool :=
  byteAt 32 d 20 % 16 == 0 && byteAt 32 d 23 == 0 && descLength d != 0 && spaceOk (descSrc d) && spaceOk (descDst d)

/-- Spaces reached only through the mortar-line gates (R467). -/
def spaceGated (v : Nat) : Bool := (decide (3 ≤ v) && decide (v ≤ 7)) || v == 9

/-- Whether a range lies in its space: DRAM holds 4 GiB, and there are 8 port groups. The sizes of the other spaces are not stated:
there DESCRIPTOR_COMPLETE brings the verdict. -/
def rangeInside (space addr n : Nat) : Bool :=
  if space = 0 ∨ space = 2 then decide (addr + n ≤ 2 ^ 32) else space != 6 || decide (field addr 47 44 < 8)

/-- Whether both ranges of a descriptor lie in their spaces. -/
def descInside (d : Nat) : Bool :=
  rangeInside (descSrc d) (bytesAt 32 d 0 7) (descLength d) && rangeInside (descDst d) (bytesAt 32 d 8 15) (descLength d)

/-- The funnel is forced on a controller (R470, PID 381Ah): before Bonded, while a plane is reseeded, after a domain came on less
than 1 s ago, or after an uncorrectable error in the last 1 s. -/
def State.funnelForced (s : State) : Bool :=
  !s.stageAtLeast 2 || s.rd 0x2826 0 != 0 || s.clocks.poweredAt.any (fun e => decide (s.clk < e.2 + ticksPerSec)) ||
    s.clocks.dataErrors.any (fun e => decide (s.clk < e.2 + ticksPerSec))

/-- Starts the current descriptor of a channel, or halts it: a bad descriptor, the token, an address outside its space. -/
def State.startDesc (s : State) (n : Nat) : State :=
  match (s.chan n).cur with
  | some d =>
    if descOk d = false then s.halt n 9
    else if (spaceGated (descSrc d) || spaceGated (descDst d)) = true ∧ s.holder ≠ some (n / 16) then s.halt n 6
    else if descInside d = false then s.halt n 11
    else s.wr 0x3800 n 1
  | none => s

/-- A channel whose descriptor has ended: at a boundary for a power-down, paused, or idle. -/
def State.restChannel (s : State) (n : Nat) : State :=
  let d := match (s.chan n).boundary with
    | some _ => 5
    | none => if s.flag 0x3806 n then 3 else 0
  s.wr 0x3800 n d

/-- The domains of a descriptor that are asked to power down (R475), each with the clk of the request. -/
def State.draining (s : State) (d : Nat) : Option (Nat × Nat) :=
  ((descDomains d).filterMap (fun x =>
    if s.dom x = 3 then
      match Tab.find? s.domOps x, s.reseed with
      | some o, _ => some (x, o.since)
      | none, some r => if r.plane = x ∧ r.cycle = true ∧ s.rd 0x2826 0 = 1 then some (x, r.since) else none
      | none, none => none
    else if s.rd 0x2826 0 = 1 then
      match s.reseed with
      | some r => if r.plane = x ∧ r.cycle = true then some (x, r.since) else none
      | none => none
    else none)).head?

/-- HOD_DESCRIPTOR (R466, R468): the ring as Pyrmon has filled it, and the next descriptor: the ring entry at the head, or the one
that a link names; its 32 bytes stand in the controller's DRAM. -/
def hodDescriptor (n base size tail desc : Nat) (s : State) : State :=
  let c := s.chan n
  if s.runs (n / 16) = true ∧ s.chanState n = 0 ∧ c.cur = none ∧ s.flag 0x3806 n = false then
    let s := ((s.wr 0x3802 n base).wr 0x3803 n size).wr 0x3804 n (tail % size)
    let head := s.rd 0x3805 n % size
    if (c.link.isNone ∧ head = tail % size) ∨ (byteAt 32 desc 20).testBit 7 = false then s
    else
      match s.draining desc with
      | some (d, _) => (s.updChan n (fun q => { q with boundary := some d })).wr 0x3800 n 5
      | none =>
        let addr := c.link.getD (base + 32 * head)
        let count := if c.link.isSome then s.rd 0x380D n + 1 else 1
        let s := State.putMemBytes (n / 16) addr (toBytes 32 desc) s
        let s := s.updChan n (fun q => { q with cur := some desc, link := none })
        let s := ((((s.wr 0x3809 n (bytesAt 32 desc 0 7)).wr 0x380A n (bytesAt 32 desc 8 15)).wr 0x380B n (descLength desc)).wr 0x380C n addr).wr 0x380D n count
        s.startDesc n
  else s

/-- HOD_DESCRIPTOR (R466). -/
def execHodDescriptor (el : Nat) (chan : Fin 32) (base : BitVec 64) (sizeLog : Fin 9) (tail : BitVec 12) (desc : BitVec 256) (s : State) : Out :=
  s.run el (hodDescriptor chan.val base.toNat (2 ^ (4 + sizeLog.val)) tail.toNat desc.toNat)

/-- The ring's head moves on, and the chain is at its end (R466). -/
def State.nextRing (s : State) (n : Nat) : State := (s.wr 0x3805 n ((s.rd 0x3805 n + 1) % s.rd 0x3803 n)).wr 0x380D n 0

/-- The chain has reached its limit (R468, PID 3819h). -/
def State.chainFull (s : State) (n : Nat) : Bool := decide (s.rd 0x3819 0 ≤ s.rd 0x380D n)

/-- The channel goes on after a descriptor: by its link, or with the next ring entry; it halts at the chain limit (R468). -/
def State.goOn (s : State) (n : Nat) (linked : Bool) : State :=
  if linked && s.chainFull n then (s.wr 0x380D n 0).halt n 7 else s.restChannel n

/-- The hod returns a descriptor (R466): it writes the status, then clears the bit that made it its own. -/
def State.returnDesc (s : State) (n d status : Nat) : State :=
  let a := s.rd 0x380C n
  (s.putMemByte (n / 16) (a + 22) (BitVec.ofNat 8 status)).putMemByte (n / 16) (a + 20) (BitVec.ofNat 8 (byteAt 32 d 20 % 128))

/-- The descriptor ends with a status. -/
def State.endDesc (s : State) (n status : Nat) : State :=
  match (s.chan n).cur with
  | some d =>
    let linked := (byteAt 32 d 20).testBit 6
    let held := (s.draining d).map (fun x : Nat × Nat => x.1)
    let s := ((s.returnDesc n d status).wr 0x380E n status).updChan n (fun q => { q with
      cur := none, link := if linked then some (bytesAt 32 d 24 31) else none, boundary := held.or q.boundary })
    (if linked then s else s.nextRing n).goOn n linked
  | none => s

/-- The results of a descriptor that DESCRIPTOR_COMPLETE brings (R471, R473): done, read-back mismatch, read-back failed,
uncorrectable data, address outside the space. -/
def completionStatus (r : Nat) : Nat := if r = 3 then 4 else if r = 4 then 11 else r

/-- An uncorrectable error has been reported by memories (R470). -/
def State.noteDataError (s : State) (l : List Nat) : State :=
  s.updClocks (fun q => { q with dataErrors := l.foldl (fun t m => Tab.set t m s.clk) q.dataErrors })

/-- A read-back that fails or brings other bytes (R471): what the last ECC word written holds is not known; `s` is the state before
the move, `t` the one after it. -/
def State.unsure (s : State) (n : Nat) (t : State) : State :=
  match (s.chan n).cur with
  | some d =>
    let b := s.rd 0x380A n
    let w := eccWord (descDst d)
    let last := (b + s.rd 0x380B n - 1) / w * w
    (spaceMems (n / 16) (descDst d) b).foldl (fun t m =>
      { t with hodMem := t.hodMem.filter (fun e => !(decide (memKey m last ≤ e.1 ∧ e.1 < memKey m last + w))) }) t
  | none => t

/-- DESCRIPTOR_COMPLETE (R471). -/
def descriptorComplete (n r : Nat) (s : State) : State :=
  match (s.chan n).cur with
  | some d =>
    if s.chanState n = 1 then
      let st := completionStatus r
      if st = 0 then
        (((s.move n (s.rd 0x380B n)).inc 0x3810 n).endDesc n 0).gatesSettle
      else
        let s := if st = 4 then s.noteDataError (spaceMems (n / 16) (descSrc d) (bytesAt 32 d 0 7)) else s
        let s := if st = 1 ∨ st = 2 then s.unsure n (s.move n (s.rd 0x380B n)) else s.moveSome n
        (s.halt n st).gatesSettle
    else s
  | none => s

/-- DESCRIPTOR_COMPLETE (R471). -/
def execDescriptorComplete (el : Nat) (chan : Fin 32) (result : Fin 5) (s : State) : Out := s.run el (descriptorComplete chan.val result.val)

/-- TARGET_TIMEOUT (R472): no answer within 2 µs. -/
def targetTimeout (n : Nat) (s : State) : State :=
  if (s.chan n).cur.isSome ∧ s.chanState n = 1 then ((s.moveSome n).halt n 3).gatesSettle else s

/-- TARGET_TIMEOUT (R472). -/
def execTargetTimeout (el : Nat) (chan : Fin 32) (s : State) : Out := s.run el (targetTimeout chan.val)

/-- A write of PID 3806h (R474): the channel stops at an exact byte, or goes on from it. -/
def State.pauseChannel (s : State) (n : Nat) (on : Bool) : State :=
  let st := s.chanState n
  let s := s.wr 0x3806 n (if on then 1 else 0)
  if on then (if st = 1 then (s.moveSome n).wr 0x3800 n 3 |>.gatesSettle else if st = 0 then s.wr 0x3800 n 3 else s)
  else if st = 3 then (if (s.chan n).cur.isSome then s.startDesc n else s.wr 0x3800 n 0)
  else s

/-- A write of PID 3807h (R473): 1 resumes a halted channel, 2 abandons its descriptor. -/
def State.channelCommand (s : State) (n v : Nat) : State × Verdict :=
  if s.chanState n ≠ 4 then (s, .refuse stBusy)
  else if v = 1 then
    (if (s.chan n).cur.isNone then s.restChannel n else if s.flag 0x3806 n then s.wr 0x3800 n 3 else s.startDesc n, .done stOk [])
  else (if (s.chan n).cur.isNone then s.restChannel n else s.endDesc n 10, .done stOk [])

/-- HOD_POWER_DOWN_ABORT (R475): not at a boundary 100 µs after the request. -/
def hodPowerDownAbort (n : Nat) (s : State) : State :=
  match (s.chan n).cur with
  | some d =>
    match s.draining d with
    | some (_, t) => if (s.chanState n = 1 ∨ s.chanState n = 3) ∧ t + 40000 ≤ s.clk then (s.moveSome n).halt n 8 else s
    | none => s
  | none => s

/-- HOD_POWER_DOWN_ABORT (R475). -/
def execHodPowerDownAbort (el : Nat) (chan : Fin 32) (s : State) : Out := s.run el (hodPowerDownAbort chan.val)

/-! ### Frames to the controller (R477, R478) -/

/-- A controller's receive interface. -/
def State.recvOf (s : State) (c : Nat) : Recv := Tab.get Recv.init s.recv c
/-- Changes a receive interface. -/
def State.updRecv (s : State) (c : Nat) (f : Recv → Recv) : State := { s with recv := Tab.upd Recv.init s.recv c f }

/-- Retires keys (R477). -/
def State.retireRecv (s : State) (c : Nat) (l : List RecvKey) : State :=
  l.foldl (fun s x =>
    let full := decide (4096 ≤ (s.recvOf c).retired.length)
    let s := s.updRecv c (fun q => { q with retired := pushRing 4096 q.retired (x.port, x.seq, x.arrival) })
    if full then s.inc 0x3821 c else s) s

/-- Drops the retired keys that have outlived the residence ceiling. -/
def State.purgeRecv (s : State) (c : Nat) : State :=
  s.updRecv c (fun q => { q with retired := q.retired.filter (fun r => !s.outlived r.2.2) })

/-- RECEIVE_WINDOW_TIME_BOUND (R477): the keys that have reached 50 µs. -/
def receiveWindowTimeBound (c : Nat) (s : State) : State :=
  let old := (s.recvOf c).window.filter (fun x => decide (x.created + 20000 ≤ s.rc))
  (s.updRecv c (fun q => { q with window := q.window.filter (fun x => !decide (x.created + 20000 ≤ s.rc)) })).retireRecv c old

/-- RECEIVE_WINDOW_TIME_BOUND (R477). -/
def execReceiveWindowTimeBound (el : Nat) (ctl : CtlNo) (s : State) : Out := s.run el (receiveWindowTimeBound ctl.val)

/-- RETIRED_KEY_EXPIRY (11 R331; R477): at the bond unit of a port, or at the receive interface of a controller. -/
def execRetiredKeyExpiry (el : Nat) (port : Fin 146) (s : State) : Out :=
  s.run el (fun s => if port.val < 144 then s.purgeRetired port.val else s.purgeRecv (port.val - 144))

/-- RECEIVE_DROPS_SUSTAINED (R483). -/
def execReceiveDropsSustained (el : Nat) (ctl : CtlNo) (s : State) : Out := s.run el (fun s => s.sustained 228 ctl.val 400000 1000)

/-- The receive header of a copy from plane `p` (R478). -/
def recvHeader (f : Frame) (cls p len : Nat) : List Byte :=
  toBytes 1 f.port ++ toBytes 4 f.seq ++ toBytes 9 f.rc ++ toBytes 1 f.reason ++ toBytes 1 f.stage ++
    toBytes 1 (bedTenant f.bed * 16 + cls * 2 + (if f.sole then 1 else 0)) ++ toBytes 1 (2 ^ (p + 1)) ++ toBytes 2 len ++
    toBytes 2 (if f.reason = 3 then f.routeVrf else bedVrf f.bed) ++ toBytes 2 (bedFid f.bed) ++ toBytes 8 0

/-- A frame that the port group steered with a fraction record (12 R374). -/
def State.wantsFraction (s : State) (f : Frame) : Bool :=
  f.ctl && f.port < 144 && (ptpAt (s.tpids (groupOf f.port)) f.bytes).isSome

/-- Pairs a frame with its fraction record (12 R374): one that lacks it is discarded and counted. -/
def State.pairFraction (s : State) (f : Frame) : State × Bool :=
  if s.wantsFraction f then
    let g := groupOf f.port
    let mine (x : Nat × Nat × Nat) : Bool := x.1 == f.port && x.2.1 == f.seq
    if (s.group g).fractions.any mine then (s.updGroup g (fun q => { q with fractions := q.fractions.filter (fun x => !mine x) }), true)
    else (s.inc 0x3125 f.port, false)
  else (s, true)

/-- The channel for a frame's class (R465, PID 381Bh). -/
def State.recvChannel (s : State) (c cls : Nat) : Nat := 16 * c + (if s.rd 0x381B 0 ≤ cls then 1 else 0)

/-- The controller's core takes a posted copy: it keeps the buffer, unless the copy lacks its fraction record (12 R374) or is of an
oversize frame, of which it records a parse error and frees the buffer (04 R102, 05 R143). -/
def State.takePosted (s : State) (p core a : Nat) (b : Buffer) (f : Frame) : State :=
  let (s, keep) := s.pairFraction f
  let freed (s : State) : State := { s with bufs := Tab.del s.bufs a }
  if keep = false then freed s
  else if f.reason = 4 then freed (s.recordError p f 7 (bedTenant f.bed) 0xFF 0)
  else { s with bufs := Tab.set s.bufs a { b with holder := 16 + core } }

/-- Posts a good copy (R477, R478): a buffer, a descriptor of the ring, and the hand-over to the core Pyrmon names. -/
def State.post (s : State) (c p core : Nat) (ring : Bool) (x : LinkCopy) : State × Bool :=
  let n := s.recvChannel c x.cls
  let len := x.bytes.length
  let b : Buffer := ⟨n % 16, true, false, recvHeader x.frame x.cls p len ++ x.bytes, some x.frame⟩
  match s.allocBuffer c (len + 32) b with
  | (s, none) => ((s.inc 0x3822 c).noteDrop 228 c 400000, false)
  | (s, some a) =>
    if ring = false ∨ (s.chanState n ≠ 0 ∧ s.chanState n ≠ 1) then
      (({ s with bufs := Tab.del s.bufs a }.inc 0x3823 c).noteDrop 228 c 400000, false)
    else
      let s := ((((s.inc 0x381D c).inc 0x3810 n).incBy 0x3811 n (len + 32)).wr 0x380E n 0).inc 0x3828 c
      (s.takePosted p core a b x.frame, true)

/-- A key enters the window; the oldest leaves a full one. -/
def State.openRecv (s : State) (c : Nat) (x : RecvKey) : State :=
  let w := (s.recvOf c).window
  let s := if 1024 ≤ w.length then (s.updRecv c (fun q => { q with window := q.window.drop 1 })).retireRecv c (w.take 1) else s
  s.updRecv c (fun q => { q with window := q.window ++ [x] })

/-- What the receive interface does with a copy that has arrived whole (R477). -/
def State.receiveCopy (s : State) (c p core : Nat) (ring : Bool) (x : LinkCopy) : State :=
  let f := x.frame
  let st := s.rd 0x281F p
  let good := x.status == some 0
  if s.isOn (domPlane p) = false ∨ (st ≠ 2 ∧ st ≠ 3) ∨ (st = 2 ∧ f.rc < Tab.get 0 s.joins p) then s
  else if s.holder ≠ some c then s.inc 0x3824 c
  else
    let s := s.purgeRecv c
    let mine (k : RecvKey) : Bool := k.port == f.port && k.seq == f.seq
    let put (posted : Bool) (s : State) : State :=
      if (s.recvOf c).window.any mine then
        s.updRecv c (fun q => { q with window := q.window.map (fun k => if mine k then { k with posted := k.posted || posted } else k) })
      else s.openRecv c ⟨f.port, f.seq, f.rc, s.rc, posted⟩
    let pair := s.bonded 0 && s.bonded 1
    if (s.recvOf c).window.any (fun k => mine k && k.posted) then s.inc 0x381E c
    else if (s.recvOf c).retired.any (fun r => r.1 == f.port && r.2.1 == f.seq) then s.inc 0x3820 c
    else if good = false then (if pair then put false (s.inc 0x381F c) else s.inc 0x381F c)
    else
      let (s, posted) := s.post c p core ring x
      if pair then put posted s else s

/-- CONTROLLER_COPY_RECEIVED (R477): the oldest copy under way from a plane to a controller, once it has come to its end.
`ring` says whether the channel's ring has a descriptor, `core` is the core that Pyrmon names. -/
def controllerCopyReceived (c p core : Nat) (ring : Bool) (s : State) : State :=
  match Tab.get [] (s.pl p).links (144 + c) with
  | x :: rest =>
    if x.status.isSome then (s.updPl p (fun q => { q with links := Tab.set q.links (144 + c) rest })).receiveCopy c p core ring x else s
  | [] => s

/-- CONTROLLER_COPY_RECEIVED (R477). -/
def execControllerCopyReceived (el : Nat) (ctl : CtlNo) (plane : PlaneNo) (core : Fin 4) (ring : Bool) (s : State) : Out :=
  s.run el (controllerCopyReceived ctl.val plane.val core.val ring)

/-! ### Frames from the controller (R479, R480) -/

/-- The transmit header that 16 bytes spell. -/
def txHeadOf (v : Nat) : TxHead :=
  ⟨byteAt 16 v 0, byteAt 16 v 1, bytesAt 16 v 2 3, bytesAt 16 v 4 7, byteAt 16 v 8, byteAt 16 v 9, bytesAt 16 v 10 11,
    (byteAt 16 v 14).testBit 0, (byteAt 16 v 14).testBit 1⟩

/-- Whether the header keeps R479 for a frame of `len` bytes. -/
def txHeadOk (v len : Nat) : Bool :=
  (txHeadOf v).ok && bytesAt 16 v 12 13 == len && decide (byteAt 16 v 14 < 4) && byteAt 16 v 15 == 0 && decide (bytesAt 16 v 4 7 < 2 ^ 18)

/-- FRAME_INJECTION (R479, R480): Pyrmon's buffer is sent to both planes and freed. -/
def frameInjection (c v : Nat) (bytes : List Byte) (s : State) : State :=
  let h := txHeadOf v
  let n := 16 * c + (if 6 ≤ h.cls then 3 else 2)
  if s.runs c = true ∧ s.chanState n = 0 then
    let b : Buffer := ⟨n % 16, true, false, toBytes 16 v ++ toBytes 16 0 ++ bytes, none⟩
    match s.allocBuffer c (bytes.length + 32) b with
    | (s, some a) =>
      if s.holder ≠ some c then s.halt n 6
      else if txHeadOk v bytes.length then
        let s := { s with bufs := Tab.del s.bufs a }
        let s := ((s.inc 0x3810 n).incBy 0x3811 n (bytes.length + 32)).wr 0x380E n 0
        (s.offer c h bytes).1
      else (s.inc 0x3826 c).halt n 9
    | (s, none) => s
  else s

/-- FRAME_INJECTION (R480): the first 16 bytes of the transmit header, and the frame without FCS. -/
def execFrameInjection (el : Nat) (ctl : CtlNo) (head : BitVec 128) (bytes : List Byte) (s : State) : Out :=
  s.run el (frameInjection ctl.val head.toNat bytes)

/-! ### Buffers (07 R244; R481) -/

/-- A free that is refused (07 R244). -/
def State.refuseFree (s : State) (c kind : Nat) (a : Option Nat) : State :=
  let s := (s.inc 0x182F (4 * c + kind)).fault 117 c
  match a with
  | some a =>
    let b := (Tab.find? s.bufs a).getD ⟨0, false, true, [], none⟩
    { s with bufs := Tab.set s.bufs a { b with quarantined := true } }
  | none => s

/-- CONTROLLER_BUFFER_FREE (07 R244): a quarantined buffer that its holder frees is kept from the pool until a scrub. -/
def controllerBufferFree (c addr client : Nat) (s : State) : State :=
  if s.runs c then
    match s.bufAt c addr with
    | none => s.refuseFree c 0 none
    | some none => s.refuseFree c 1 none
    | some (some a) =>
      match Tab.find? s.bufs a with
      | none => s.refuseFree c 2 (some a)
      | some b =>
        if b.held = false then s.refuseFree c 2 (some a)
        else if b.holder ≠ client then s.refuseFree c 3 (some a)
        else s.giveBack a
  else s

/-- CONTROLLER_BUFFER_FREE (07 R244). -/
def execControllerBufferFree (el : Nat) (ctl : CtlNo) (addr : BitVec 64) (client : Fin 20) (s : State) : Out :=
  s.run el (controllerBufferFree ctl.val addr.toNat client.val)

/-- HAND_OVER (R481). -/
def handOverBuffer (c addr giver taker : Nat) (s : State) : State :=
  if s.runs c then
    match s.bufAt c addr with
    | some (some a) =>
      match Tab.find? s.bufs a with
      | some b =>
        if b.holder = giver ∧ b.held = true then { s with bufs := Tab.set s.bufs a { b with holder := taker } }.inc 0x3828 c
        else s.inc 0x3829 c
      | none => s.inc 0x3829 c
    | _ => s.inc 0x3829 c
  else s

/-- HAND_OVER (R481). -/
def execHandOver (el : Nat) (ctl : CtlNo) (addr : BitVec 64) (giver taker : Fin 20) (s : State) : Out :=
  s.run el (handOverBuffer ctl.val addr.toNat giver.val taker.val)

/-! ### The slow path (06 R195) -/

/-- The longest prefix among the controller's own routes that holds an address: the result of its entry. -/
def longestPrefix (tab : Tab (Nat × Bool)) (v6 : Bool) (tenant vrf a : Nat) : Nat → Option Nat
  | 0 => (Tab.find? tab ((prefixType v6 * 16 + tenant) * 2 ^ 160 + prefixKey v6 vrf 0 a)).map Prod.fst
  | n + 1 =>
    match Tab.find? tab ((prefixType v6 * 16 + tenant) * 2 ^ 160 + prefixKey v6 vrf (n + 1) a) with
    | some r => some r.1
    | none => longestPrefix tab v6 tenant vrf a n

/-- The route of a slow-path frame in the controller's own tables. -/
def State.slowRoute (s : State) (f : Frame) : Option Nat :=
  match f.ipOff with
  | some o =>
    let v6 := getBE f.bytes o 1 / 16 == 6
    let a := if v6 then getBE f.bytes (o + 24) 16 else getBE f.bytes (o + 16) 4
    longestPrefix s.hostTab v6 (bedTenant f.bed) f.routeVrf a (if v6 then 128 else 32)
  | none => none

/-- The transmit header for a route's result (R479): a port, a next hop or a group. -/
def slowHead (f : Frame) (cls r : Nat) : Option TxHead :=
  let d := resDest r
  let mode := if field d 19 18 = 1 then some 0 else if field d 19 18 = 3 then some 1 else if field d 19 18 = 2 then some 2 else none
  mode.map (fun m => ⟨m, cls, field d 17 0, resRewrite r, bedTenant f.bed, if f.port < 144 then groupOf f.port else 0, 0xFFFF, false, false⟩)

/-- SLOW_PATH_RESOLVE (06 R195): the oldest slow-path frame of the active controller is routed and injected; a miss is discarded or
kept as a route-miss frame. -/
def slowPathResolve (s : State) : State :=
  match s.holder with
  | some c =>
    match Tab.search (fun e : Nat × Buffer => e.1 / 2 ^ 20 == c && e.2.slow) s.bufs with
    | some (a, b) =>
      match b.frame with
      | some f =>
        let cls := getBE b.bytes 16 1 % 16 / 2
        let gone (s : State) : State := s.giveBack a
        match (s.slowRoute f).bind (slowHead f cls) with
        | some h => if h.ok then ((gone s).offer c h (b.bytes.drop 32)).1 else (gone s).inc 0x3826 c
        | none =>
          if s.rd 0x1430 (4096 * bedTenant f.bed + f.routeVrf) = 1 then
            { s with bufs := Tab.set s.bufs a { b with bytes := putBE b.bytes 14 1 5, frame := some { f with reason := 5 } } }
          else (gone s).inc 0x3C24 (if getBE b.bytes 17 1 = 4 then 1 else 0)
      | none => s
    | none => s
  | none => s

/-- SLOW_PATH_RESOLVE (06 R195). -/
def execSlowPathResolve (el : Nat) (s : State) : Out := s.run el slowPathResolve

end Sys2Proof.Machine
end

