-- ==== Sys2Proof/Machine/Sha.lean ====
section
/-! DEFINITION. SHA-256, which the module uses for images, keys and certificates (14 R458, 18 R529). The algorithm is that of
FIPS 180-4 (notes/assumptions/24.md). -/

namespace Sys2Proof.Machine

/-- The greatest number of the form `a` + (below 2 ^ n) whose k-th power does not pass `x`: a root, bit by bit. -/
def rootBits (k x : Nat) : Nat → Nat → Nat
  | 0, a => a
  | n + 1, a => rootBits k x n (if (a + 2 ^ n) ^ k ≤ x then a + 2 ^ n else a)

/-- The first 32 bits of the fractional part of the k-th root of a number below 2 ^ (3 * k). -/
def rootFraction (k p : Nat) : BitVec 32 := BitVec.ofNat 32 (rootBits k (p * 2 ^ (32 * k)) 35 0)

/-- The first 64 primes. -/
def shaPrimes : List Nat :=
  [2, 3, 5, 7, 11, 13, 17, 19, 23, 29, 31, 37, 41, 43, 47, 53] ++
  [59, 61, 67, 71, 73, 79, 83, 89, 97, 101, 103, 107, 109, 113, 127, 131] ++
  [137, 139, 149, 151, 157, 163, 167, 173, 179, 181, 191, 193, 197, 199, 211, 223] ++
  [227, 229, 233, 239, 241, 251, 257, 263, 269, 271, 277, 281, 283, 293, 307, 311]

/-- The round constants: of the cube roots of the first 64 primes. -/
def shaK : List (BitVec 32) := shaPrimes.map (rootFraction 3)

/-- The eight working words. -/
structure Sha where
  a : BitVec 32
  b : BitVec 32
  c : BitVec 32
  d : BitVec 32
  e : BitVec 32
  f : BitVec 32
  g : BitVec 32
  h : BitVec 32
  deriving DecidableEq, Repr

/-- The working words that a list of eight spells. -/
def Sha.ofWords (l : List (BitVec 32)) : Sha :=
  let w (k : Nat) : BitVec 32 := l.getD k 0
  ⟨w 0, w 1, w 2, w 3, w 4, w 5, w 6, w 7⟩

/-- The initial value: of the square roots of the first eight primes. -/
def Sha.init : Sha := Sha.ofWords ((shaPrimes.take 8).map (rootFraction 2))

/-- One round. -/
def Sha.round (s : Sha) (x : BitVec 32 × BitVec 32) : Sha :=
  let e := s.e
  let a := s.a
  let t1 := s.h + (e.rotateRight 6 ^^^ e.rotateRight 11 ^^^ e.rotateRight 25) + ((e &&& s.f) ^^^ (~~~e &&& s.g)) + x.1 + x.2
  let t2 := (a.rotateRight 2 ^^^ a.rotateRight 13 ^^^ a.rotateRight 22) + ((a &&& s.b) ^^^ (a &&& s.c) ^^^ (s.b &&& s.c))
  ⟨t1 + t2, a, s.b, s.c, s.d + t1, e, s.f, s.g⟩

/-- The words of a value, in order. -/
def Sha.words (s : Sha) : List (BitVec 32) := [s.a, s.b, s.c, s.d, s.e, s.f, s.g, s.h]

/-- The sum of two values, word by word. -/
def Sha.add (s t : Sha) : Sha := Sha.ofWords (List.zipWith (· + ·) s.words t.words)

/-- The message schedule, newest word first, extended by `n` words. -/
def shaSchedule : Nat → List (BitVec 32) → List (BitVec 32)
  | 0, w => w
  | n + 1, w =>
    let x (k : Nat) : BitVec 32 := w.getD k 0
    let s0 := (x 14).rotateRight 7 ^^^ (x 14).rotateRight 18 ^^^ (x 14) >>> 3
    let s1 := (x 1).rotateRight 17 ^^^ (x 1).rotateRight 19 ^^^ (x 1) >>> 10
    shaSchedule n ((s1 + x 6 + s0 + x 15) :: w)

/-- One block of 64 bytes. -/
def Sha.block (s : Sha) (bs : List Byte) : Sha :=
  let w := (List.range 16).map (fun k => BitVec.ofNat 32 (getBE bs (4 * k) 4))
  s.add ((shaK.zip (shaSchedule 48 w.reverse).reverse).foldl Sha.round s)

/-- The blocks of a padded message. -/
def Sha.blocks : Nat → List Byte → Sha → Sha
  | 0, _, s => s
  | n + 1, bs, s => Sha.blocks n (bs.drop 64) (s.block (bs.take 64))

/-- The SHA-256 digest of a byte string, as a number of 256 bits. -/
def sha256 (bs : List Byte) : Nat :=
  let n := bs.length
  let padded := bs ++ [0x80] ++ List.replicate ((119 - n % 64) % 64) 0 ++ toBytes 8 (8 * n)
  let s := Sha.blocks (padded.length / 64) padded Sha.init
  s.words.foldl (fun v w => v * 2 ^ 32 + w.toNat) 0

end Sys2Proof.Machine
end

