-- ==== Sys2Proof/Machine/Cartridge.lean ====
section
/-! DEFINITION. The meter cartridge, the relay of its readings, its time discipline, and the bypass sense with its history latch
(18; 02 R50 to R53). -/

namespace Sys2Proof.Machine

/-! ### The cartridge's clock and log (R526, R536) -/

/-- Changes the cartridge. -/
def State.updCart (s : State) (f : Cartridge → Cartridge) : State := { s with cart := f s.cart }
/-- Changes the module's record of the bay. -/
def State.updBay (s : State) (f : Bay → Bay) : State := { s with bay := f s.bay }

/-- The cartridge's TAI now, in ticks. -/
def State.cartTai (s : State) : Int := s.cart.tai + ((s.clk : Int) - s.cart.taiAt)
/-- The cartridge's UTC second now (R526). -/
def State.cartUtc (s : State) : Int := floorDiv s.cartTai ticksPerSec - s.cart.utcOff

/-- Ticks as ms. -/
def ticksMs (t : Int) : Int := floorDiv t ticksPerMs

/-- The cartridge's public key, and its identifier (R529, R530). -/
def cartKey (identity : Nat) : Nat := bytesAt 128 identity 72 103
def cartIdentifier (identity : Nat) : Nat := sha256 (toBytes 32 (cartKey identity)) / 2 ^ 192

/-- Writes a log entry (R536): the ring keeps 1,024. -/
def State.logEvent (s : State) (code chan : Nat) (data : Int) : State :=
  let e : LogEntry := ⟨s.cart.nextLog, s.cartUtc, code, chan, data⟩
  s.updCart (fun q => { q with log := pushRing 1024 q.log e, nextLog := q.nextLog + 1 })

/-- A log entry as it is delivered: 24 bytes and their signature. -/
def LogEntry.bytes (e : LogEntry) (key : Nat) : List Byte :=
  let b := toBytes 4 e.seq ++ toBytes 8 (unsignedOf 64 e.utc) ++ toBytes 1 e.code ++ toBytes 1 e.chan ++ toBytes 2 0 ++ toBytes 8 (unsignedOf 64 e.data)
  b ++ toBytes 64 (Config.signature key (beNat b)).toNat

/-- An interval record as it is delivered: 44 bytes and their signature (R529). -/
def recordBytes (key content : Nat) : List Byte := toBytes 44 content ++ toBytes 64 (Config.signature key content).toNat

/-- The sequence number and the start of a record. -/
def recordSeq (r : Nat) : Nat := bytesAt 44 r 12 15
def recordStart (r : Nat) : Nat := bytesAt 44 r 16 23

/-- The link to the active controller is up. -/
def State.linkUp? (s : State) : Bool := s.holder.isSome && s.rd 0x4000 0 == 1

/-- The fault that reading an entry sets (R544). -/
def logFault (e : LogEntry) : Option (Nat × Nat) :=
  if e.code = 0x07 then some (248, moduleInst)
  else if e.code = 0x0E then some (249, moduleInst)
  else if e.code = 0x0B then some (250, e.chan)
  else if e.code = 0x0D then some (251, e.chan)
  else none

/-- The module reads the log entries it has not read, while the link is up (R523, R544). -/
def State.readLog (s : State) : State :=
  if s.linkUp? then
    let new := s.cart.log.filter (fun e => decide (s.bay.logRead ≤ e.seq))
    let s := new.foldl (fun s e => match logFault e with
      | some (b, i) => s.fault b i
      | none => s) s
    (s.updBay (fun q => { q with logRead := s.cart.nextLog })).wr 0x401C 0 s.cart.nextLog
  else s

/-! ### Intervals (R527 to R529) -/

/-- What a channel has measured over its open interval, 88 bits for each: energy, current, voltages, and bit 0 reverse current, bit
1 below rated current. -/
def chanMeas (meas c : Nat) : Nat := field meas (88 * c + 87) (88 * c)

/-- The record of a channel's open interval (R529). -/
def State.intervalContent (s : State) (meas c extra : Nat) : Nat :=
  let m := chanMeas meas c
  let fl := s.cart.flags ||| extra ||| Tab.get 0 s.cart.chanFlags c ||| (if m.testBit 0 then 16 else 0) ||| (if m.testBit 1 then 128 else 0) |||
    (if s.cart.valid then 0 else 64)
  let cum := Tab.get 0 s.cart.regs c + field m 87 56
  beNat (toBytes 1 1 ++ toBytes 1 1 ++ toBytes 1 c ++ toBytes 1 fl ++ toBytes 8 (cartIdentifier s.cart.identity) ++
    toBytes 4 (Tab.get 0 s.cart.seqs c) ++ toBytes 8 (unsignedOf 64 s.cart.start) ++ toBytes 4 (field m 87 56) ++ toBytes 8 cum ++
    toBytes 2 (field m 55 40) ++ toBytes 2 (field m 39 24) ++ toBytes 2 (field m 23 8) ++ toBytes 2 0)

/-- Closes the open interval of every channel with a record (R527), of which 38,400 are kept. -/
def State.closeInterval (s : State) (meas extra : Nat) : State :=
  if s.cart.checked then
    (List.range 16).foldl (fun s c =>
      let r := s.intervalContent meas c extra
      s.updCart (fun q => { q with
        records := Tab.upd [] q.records c (fun l => pushRing 38400 l r)
        seqs := Tab.upd 0 q.seqs c (· + 1)
        regs := Tab.upd 0 q.regs c (fun v => v + field (chanMeas meas c) 87 56) })) s
  else s

/-- Opens an interval. -/
def State.openInterval (s : State) (start : Int) (flags : Nat) : State :=
  s.updCart (fun q => { q with
    start := start
    flags := flags ||| (if q.partialAt.isSome then 1 else 0)
    chanFlags := q.overload.map (fun e => (e.1, 4)) })

/-- The end of the open interval: the next quarter of an hour (R527). -/
def Cartridge.boundary (q : Cartridge) : Int := (floorDiv q.start 900 + 1) * 900

/-- The UTC day's slew is logged once the day is over (R534). -/
def State.endSlewDay (s : State) : State :=
  let day := floorDiv s.cartUtc 86400
  if s.cart.slewDay = day then s
  else
    let s := if s.cart.slewed = 0 then s else s.logEvent 0x03 0xFF (ticksMs s.cart.slewed)
    (s.updCart (fun q => { q with slewDay := day, slewed := 0 })).wr 0x400F 0 0

/-- INTERVAL_END (R527). -/
def intervalEnd (meas : Nat) (s : State) : State :=
  if s.cart.on = true ∧ s.cart.boundary ≤ s.cartUtc then
    let b := s.cart.boundary
    ((s.closeInterval meas 0).openInterval b 0).endSlewDay.readLog
  else s

/-- INTERVAL_END (R527): what every channel has measured. -/
def execIntervalEnd (el : Nat) (meas : BitVec 1408) (s : State) : Out := s.run el (intervalEnd meas.toNat)

/-- FIRMWARE_SELF_CHECK (R522): metering stops on a failure. -/
def firmwareSelfCheck (ok : Bool) (s : State) : State :=
  if s.cart.on then
    if ok then s.updCart (fun q => { q with checked := true })
    else if s.cart.checked then ((s.updCart (fun q => { q with checked := false })).logEvent 0x0E 0xFF 0).readLog
    else s
  else s

/-- FIRMWARE_SELF_CHECK (R522). -/
def execFirmwareSelfCheck (el : Nat) (ok : Bool) (s : State) : Out := s.run el (firmwareSelfCheck ok)

/-- The latch has its power: it started, and its backup store lasts 72 h. -/
def State.latchRuns (s : State) : Bool :=
  s.latch.on && (match s.latch.dark with
    | some t => decide (s.clk < t + 259200 * ticksPerSec)
    | none => true)

/-- The part number of a cartridge's identity record, bytes 0 to 15 (R530): SVN-16D, zero-padded. No other designates one (00 R1). -/
def partNumber : Nat := 0x53564E2D313644 * 2 ^ 72

/-- An identity record as a cartridge carries it: its part number is SVN-16D. -/
def asCartridge (identity : Nat) : Nat := partNumber * 2 ^ 896 + identity % 2 ^ 896

/-- CARTRIDGE_POWER_UP (R525, R526, R528): a channel reaches 38 V. `fresh` is the identity of another cartridge seated since; `clock`
says whether the clock's store has lasted, as it does for 72 h, `ok` the firmware check; how long another cartridge was stopped is not
known. A latch that has stopped stays so until LATCH_RESTART. -/
def cartridgePowerUp (fresh : Option Nat) (clock ok : Bool) (s : State) : State :=
  if s.cart.on then s
  else
    let s := match fresh with
      | some i => { s with cart := Cartridge.init (asCartridge i) }
      | none => s
    let s := if s.latchRuns then { s with latch := { s.latch with dark := none } } else s
    let stopped := (s.clk - s.cart.stoppedAt) / ticksPerSec
    let clock := clock || (fresh.isNone && decide (stopped < 259200))
    let s := s.updCart (fun q => { q with on := true, checked := true, partialAt := if s.latch.closed then some s.clk else none })
    let s := if clock then s
      else
        let s := s.updCart (fun q => { q with tai := (q.saved + q.utcOff) * ticksPerSec, taiAt := s.clk, valid := false })
        s.logEvent 0x0F 0xFF s.cart.saved
    let s := s.logEvent 0x01 0xFF (if clock = true ∧ fresh = none then (stopped : Int) else -1)
    (firmwareSelfCheck ok (s.openInterval s.cartUtc 32)).readLog

/-- CARTRIDGE_POWER_UP (R525). -/
def execCartridgePowerUp (el : Nat) (fresh : Option (BitVec 1024)) (clock ok : Bool) (s : State) : Out :=
  s.run el (cartridgePowerUp (fresh.map BitVec.toNat) clock ok)

/-- CARTRIDGE_POWER_DOWN (R525, R528): every channel is below 35 V at the cartridge, which stops where it ran; `live` where a channel is
still live ahead of the blades, the cartridge being withdrawn, so that the latch keeps its supply (02 R53). -/
def cartridgePowerDown (meas : Nat) (live : Bool) (s : State) : State :=
  let s := if s.cart.on then
      let s := (s.closeInterval meas 32).logEvent 0x02 0xFF 0
      let utc := s.cartUtc
      s.updCart (fun q => { q with on := false, stoppedAt := s.clk, saved := utc, auth := none, partialAt := none, overload := [] })
    else s
  if live then s else { s with latch := { s.latch with dark := s.latch.dark.or (some s.clk) } }

/-- CARTRIDGE_POWER_DOWN (R525). -/
def execCartridgePowerDown (el : Nat) (stop : CartridgeStop) (s : State) : Out :=
  s.run el (cartridgePowerDown stop.meas.toNat stop.live)

/-- COVER_SWITCH_OPENED (R540): powered or not. -/
def execCoverSwitchOpened (el : Nat) (s : State) : Out := s.run el (fun s => (s.logEvent 0x07 0xFF 0).readLog)

/-- CHANNEL_OVERLOAD (R536): the current in 0.01 A. -/
def channelOverload (c amps : Nat) (s : State) : State :=
  if s.cart.on then
    let s := if s.linkUp? then s.wr 0x4007 c amps else s
    match Tab.find? s.cart.overload c with
    | none =>
      if 4000 < amps then
        (((s.updCart (fun q => { q with overload := Tab.set q.overload c amps, chanFlags := Tab.upd 0 q.chanFlags c (· ||| 4) })).logEvent 0x0B c amps)).readLog
      else s
    | some peak =>
      if 4000 < amps then s.updCart (fun q => { q with overload := Tab.set q.overload c (max peak amps) })
      else ((s.updCart (fun q => { q with overload := Tab.del q.overload c })).logEvent 0x0C c peak).readLog
  else s

/-- CHANNEL_OVERLOAD (R536). -/
def execChannelOverload (el : Nat) (channel : Fin 16) (amps : BitVec 16) (s : State) : Out := s.run el (channelOverload channel.val amps.toNat)

/-- CHANNEL_VOLTAGE_OUT_OF_RANGE (R536): the voltage in 0.01 V leaves 40 to 60 V. -/
def channelVoltage (c volts : Nat) (s : State) : State :=
  if s.cart.on = true ∧ (volts < 4000 ∨ 6000 < volts) then
    let s := if s.linkUp? then s.wr 0x4008 c volts else s
    ((s.updCart (fun q => { q with chanFlags := Tab.upd 0 q.chanFlags c (· ||| 8) })).logEvent 0x0D c volts).readLog
  else s

/-- CHANNEL_VOLTAGE_OUT_OF_RANGE (R536). -/
def execChannelVoltageOutOfRange (el : Nat) (channel : Fin 16) (volts : BitVec 16) (s : State) : Out :=
  s.run el (channelVoltage channel.val volts.toNat)

/-! ### Time discipline (R533 to R535) -/

/-- The discipline has valid time (R533), which it uses from Bonded on (03 R67): DT valid, and the servo locked or in holdover within its limit. -/
def State.disciplineTime (s : State) : Bool := s.stageAtLeast 2 && s.dtValid && (s.rd 0x3400 0 == 2 || (s.rd 0x3400 0 == 3 && !s.servo.beyond))

/-- The most that one message slews, in ticks: 11.57 ppm of the discipline interval. -/
def State.slewStep (s : State) : Int := ((s.rd 0x400C 0 * 400000000 * 1157 / 100000000 : Nat) : Int)

/-- Slews the clock toward the message (R534): within the rate, and 1 s in a UTC day. -/
def State.slewBy (s : State) (d : Int) : State :=
  let s := s.endSlewDay
  let room := (ticksPerSec : Int) - s.cart.slewed.natAbs
  let most := min s.slewStep (max room 0)
  let a := if d < 0 then max d (-most) else min d most
  let s := s.updCart (fun q => { q with tai := q.tai + a, slewed := q.slewed + a, slewing := a != d, refused := none })
  s.wr 0x400F 0 (unsignedOf 32 (ticksMs s.cart.slewed))

/-- Steps the clock (R534, R528): forward past a boundary the open interval closes. -/
def State.stepCart (s : State) (d : Int) (mark : Bool) (meas : Nat) : State :=
  let b := s.cart.boundary
  let after := floorDiv (s.cartTai + d) ticksPerSec - s.cart.utcOff
  let past := decide (b ≤ after)
  let s := if past then s.closeInterval meas 2 else s
  let s := s.updCart (fun q => { q with tai := q.tai + d, valid := true, refused := none, auth := none, slewing := false, flags := q.flags ||| 2 })
  let s := s.logEvent 0x04 0xFF (if mark then (unsignedOf 64 (ticksMs d) ||| 2 ^ 63 : Nat) else ticksMs d)
  if past then s.openInterval after 0 else s

/-- A refusal (R534): logged at first and every 24 h; the fault is one occurrence for as long as steps are refused (17 R517). -/
def State.refuseStep (s : State) (d : Int) : State :=
  let refused := s.cart.refused
  let log := match s.cart.refused with
    | some (_, t) => decide (t + 86400 * ticksPerSec ≤ s.clk)
    | none => true
  let at' := match s.cart.refused with
    | some (_, t) => if log then s.clk else t
    | none => s.clk
  let s := s.updCart (fun q => { q with refused := some (d, at'), auth := none })
  let s := if log then s.logEvent 0x05 0xFF (ticksMs d) else s
  let first := refused.isNone
  let s := s.inc 0x4015 0
  if first then s.fault 244 moduleInst else s

/-- What the cartridge does with a time message (R533 to R535): TAI in ticks, the TAI−UTC offset and the leap flag. -/
def State.takeTime (s : State) (tai off : Int) (leap : Nat) (meas : Nat) : State :=
  let early := match s.cart.heard with
    | some t => decide (s.clk < t + 60 * ticksPerSec)
    | none => false
  if early then s.updCart (fun q => { q with ignored := q.ignored + 1 })
  else
    let announced := s.cart.announced
    let s := s.updCart (fun q => { q with heard := some s.clk, announced := if leap = 0 then 0 else q.announced + 1 })
    let d := tai - s.cartTai
    let s := if s.cart.valid = true ∧ (off - s.cart.utcOff).natAbs = 1 ∧ 2 ≤ announced ∧ s.cartUtc % 86400 < 3600 then
        (s.updCart (fun q => { q with utcOff := off })).logEvent 0x0A 0xFF off
      else s
    if s.cart.valid = false then (s.updCart (fun q => { q with utcOff := off })).stepCart d true meas
    else if d.natAbs ≤ 5 * ticksPerSec then s.slewBy d
    else
      let granted := match s.cart.auth, s.cart.refused with
        | some t, some (d', _) => decide (s.clk ≤ t + 600 * ticksPerSec) && decide ((d - d').natAbs ≤ ticksPerSec)
        | _, _ => false
      if granted then s.stepCart d false meas else s.refuseStep d

/-- DISCIPLINE_MESSAGE (R533): `drift` is what the cartridge's clock has gained since the last one, in µs, within 0.5 s a day. -/
def disciplineMessage (drift : Int) (meas : Nat) (s : State) : State :=
  if s.linkUp? = true ∧ s.flag 0x400B 0 = true ∧ s.disciplineTime = true ∧ s.bay.sentAt + s.rd 0x400C 0 * ticksPerSec ≤ s.clk then
    let most : Int := ((s.clk - s.bay.sentAt : Nat) : Int) / 172800
    let gain := max (-most) (min most (drift * 400))
    let s := (((s.updBay (fun q => { q with sentAt := s.clk })).updCart (fun q => { q with tai := q.tai + gain })).inc 0x4014 0).stamp 0x4010 0
    let tai := floorDiv s.dt 163840
    let s := if s.cart.on then s.takeTime tai (signed 16 (s.rd 0x3009 0)) (s.rd 0x300B 0) meas else s
    let diff := ticksMs (s.cartTai - tai)
    let was := signed 32 (s.rd 0x400D 0)
    let s := (s.wr 0x400D 0 (unsignedOf 32 diff)).readLog
    if was.natAbs ≤ 5000 ∧ 5000 < diff.natAbs then s.fault 245 moduleInst else s
  else s

/-- DISCIPLINE_MESSAGE (R533). -/
def execDisciplineMessage (el : Nat) (drift : BitVec 32) (meas : BitVec 1408) (s : State) : Out :=
  s.run el (disciplineMessage drift.toInt meas.toNat)

/-- STEP_AUTHORISATION_LAPSE (R535). -/
def stepAuthorisationLapse (s : State) : State :=
  match s.cart.auth with
  | some t => if t + 600 * ticksPerSec ≤ s.clk then s.updCart (fun q => { q with auth := none }) else s
  | none => s

/-- STEP_AUTHORISATION_LAPSE (R535). -/
def execStepAuthorisationLapse (el : Nat) (s : State) : Out := s.run el stepAuthorisationLapse

/-- The discipline state (PID 400Eh). -/
def State.disciplineState (s : State) : Nat :=
  if s.flag 0x400B 0 = false then 0
  else if s.disciplineTime = false then 4
  else if s.cart.refused.isSome then 3
  else if s.cart.slewing then 2
  else 1

/-- The cartridge's status (PID 4004h). -/
def State.cartStatus (s : State) : Nat :=
  let q := s.cart
  (if q.on && q.checked then 1 else 0) + (if q.valid then 2 else 0) + (if q.slewing then 4 else 0) + (if q.refused.isSome then 8 else 0) +
    (if q.partialAt.isSome then 16 else 0) + (if q.checked then 0 else 32)

/-! ### The bypass sense and its latch (02 R51 to R53; R541) -/

/-- The second of the latch's clock. -/
def State.latchSecond (s : State) : Nat := s.latch.second + (s.clk - s.latch.since) / ticksPerSec

/-- The latch records a change: the oldest of 32 entries is overwritten, with the overflow flag where it was unread. -/
def State.latchRecord (s : State) (e : LatchEntry) : State :=
  let full := decide (32 ≤ s.latch.ring.length)
  let lost := full && (match s.latch.ring.head? with
    | some x => !x.read
    | none => false)
  { s with latch := { s.latch with ring := pushRing 32 s.latch.ring e, overflow := s.latch.overflow || lost } }

/-- Starts an unmetered-interval record (R541): the ring of 64 overwrites its oldest. -/
def State.startUnmetered (s : State) (start flags : Nat) : State :=
  let n := s.bay.next
  let s := if s.bay.unread.contains n then s.fault 252 moduleInst else s
  let s := s.updBay (fun q => { q with next := (n + 1) % 64, current := some n, unread := n :: q.unread.filter (· != n) })
  ((s.wr 0x4017 n (start * 2 ^ (8 * 34) + s.bay.seen * 2 ^ (8 * 12) + (flags + 4) * 2 ^ 24)).inc 0x4018 0).wr 0x4019 0 1

/-- Ends the record in progress. -/
def State.endUnmetered (s : State) (stop flags : Nat) : State :=
  match s.bay.current with
  | some n =>
    let r := s.rd 0x4017 n
    let fl := (bytesAt 48 r 44 44 ||| flags) &&& 0xFB
    let r' := bytesAt 48 r 0 13 * 2 ^ (8 * 34) + stop * 2 ^ (8 * 20) + bytesAt 48 r 28 43 * 2 ^ 32 + fl * 2 ^ 24
    ((s.updBay (fun q => { q with current := none })).wr 0x4017 n r').wr 0x4019 0 0
  | none => s

/-- BYPASS_SENSE_CHANGE (02 R51, R53): the latch records it; a module with an active controller starts or ends a record; a cartridge
with power notes the bypass partial. -/
def bypassSenseChange (closed : Bool) (s : State) : State :=
  if s.latch.closed = closed then s
  else
    let up := s.holder.isSome
    let s := if s.latchRuns then s.latchRecord ⟨closed, s.latchSecond, !s.latch.valid, up⟩ else s
    let s := { s with latch := { s.latch with closed := closed } }
    let s := if up then
        if closed then ((s.wr 0x4000 0 2).startUnmetered s.dtNow 0).fault 241 moduleInst else (s.wr 0x4000 0 0).endUnmetered s.dtNow 0
      else s
    if s.cart.on then
      if closed then (s.updCart (fun q => { q with partialAt := some s.clk, flags := q.flags ||| 1 })).logEvent 0x08 0xFF 0
      else
        match s.cart.partialAt with
        | some t => (s.updCart (fun q => { q with partialAt := none })).logEvent 0x09 0xFF ((s.clk - t) / ticksPerSec : Nat)
        | none => s
    else s

/-- BYPASS_SENSE_CHANGE (02 R51). -/
def execBypassSenseChange (el : Nat) (closed : Bool) (s : State) : Out := s.run el (bypassSenseChange closed)

/-- LATCH_RESTART (02 R53): a channel is live again after the loss of channels and store, or for the first time. Its clock runs on from
the later of the second last set and the second of its last entry; an empty ring is compared as open (notes/assumptions/43.md). -/
def latchRestart (s : State) : State :=
  if s.latchRuns then s
  else
    let sec := match s.latch.ring.getLast? with
      | some e => max s.latch.second e.second
      | none => s.latch.second
    let was := match s.latch.ring.getLast? with
      | some e => e.closed
      | none => false
    let s := { s with latch := { s.latch with on := true, valid := false, second := sec, since := s.clk, dark := none } }
    if was = s.latch.closed then s else s.latchRecord ⟨s.latch.closed, sec, true, false⟩

/-- LATCH_RESTART (02 R53). -/
def execLatchRestart (el : Nat) (s : State) : Out := s.run el latchRestart

/-- LATCH_CLOCK_SET (02 R53): once an hour while DT is valid. -/
def latchClockSet (s : State) : State :=
  let due := match s.bay.latchSet with
    | some t => decide (t + 3600 * ticksPerSec ≤ s.clk)
    | none => true
  if s.holder.isSome = true ∧ s.dtValid = true ∧ s.latchRuns = true ∧ due = true then
    let sec := (floorDiv s.dt (nsUnits 1000000000)).toNat
    { s with latch := { s.latch with second := sec, since := s.clk, valid := true } }.updBay (fun q => { q with latchSet := some s.clk })
  else s

/-- LATCH_CLOCK_SET (02 R53). -/
def execLatchClockSet (el : Nat) (s : State) : Out := s.run el latchClockSet

/-- A change that the latch holds: its DT, and flag bit 4 of R541 where its time is not valid. -/
def LatchEntry.instant (e : LatchEntry) : Nat := encDT (nsUnits (e.second * 1000000000))
def LatchEntry.mark (e : LatchEntry) : Nat := if e.invalid then 16 else 0

/-- Starts a record at the change to closed that the latch holds; at no known time where it holds none. -/
def State.startFromLatch (s : State) (e : Option LatchEntry) : State :=
  match e with
  | some e => s.startUnmetered e.instant (1 + e.mark)
  | none => s.startUnmetered 0 0

/-- An unread entry of the latch becomes the start or the end of a record (R541). A change to open ends the record of the change to
closed before it, which the module may have read before it restarted (R51, R52). -/
def State.fromLatch (s : State) (before : Option LatchEntry) (e : LatchEntry) : State :=
  if e.read then s
  else if e.closed then (if s.bay.current.isSome then s else s.startFromLatch (some e))
  else (if s.bay.current.isSome then s else s.startFromLatch (before.filter LatchEntry.closed)).endUnmetered e.instant (2 + e.mark)

/-- The entries of the ring in order, each with the one before it. -/
def State.readRing (s : State) : Option LatchEntry → List LatchEntry → State
  | _, [] => s
  | before, e :: l => State.readRing (s.fromLatch before e) (some e) l

/-- The bypass as a start finds it: closed, fault bit 241 and a record from the change to closed, or from now where the latch holds none. -/
def State.findBypass (s : State) : State :=
  if s.latch.closed = true ∧ ¬(s.rd 0x4000 0 = 2 ∧ s.bay.current.isSome = true) then
    let s := (s.wr 0x4000 0 2).fault 241 moduleInst
    if s.bay.current.isSome then s
    else
      match s.latch.ring.getLast? with
      | some e => if e.closed then s.startFromLatch (some e) else s.startUnmetered s.dtNow 0
      | none => s.startUnmetered s.dtNow 0
  else if s.latch.closed = false ∧ s.rd 0x4000 0 = 2 then s.wr 0x4000 0 0
  else s

/-- HISTORY_LATCH_READ (02 R53): at a start, the active controller reads the latch and rebuilds the records; after an overflow, the
first record that its entries start or end says so. -/
def historyLatchRead (s : State) : State :=
  if s.holder.isSome then
    let lost := s.latch.overflow
    let first := s.bay.current.getD s.bay.next
    let new := s.latch.ring.filter (fun e => !e.read)
    let s := s.readRing none s.latch.ring
    let s := { s with latch := { s.latch with ring := s.latch.ring.map (fun e : LatchEntry => { e with read := true }), overflow := false } }
    let s := if lost then (s.fault 253 moduleInst).wr 0x4017 first (s.rd 0x4017 first ||| (if new.isEmpty then 0 else 32 * 2 ^ 24)) else s
    s.findBypass
  else s

/-- HISTORY_LATCH_READ (02 R53). -/
def execHistoryLatchRead (el : Nat) (s : State) : Out := s.run el historyLatchRead

/-! ### The link (R523, R531, R542, R544) -/

/-- The records of the cartridge not yet fetched (PID 401Ah). -/
def State.backlog (s : State) : Nat :=
  (List.range 16).foldl (fun a c =>
    a + ((Tab.get [] s.cart.records c).filter (fun r => decide (Tab.get 0 s.bay.fetched c ≤ recordSeq r))).length) 0

/-- The identifier of the cartridge now seated goes into the records that lack it (R541). -/
def State.fillAfter (s : State) (id : Nat) : State :=
  (List.range 64).foldl (fun s n =>
    let r := s.rd 0x4017 n
    if r ≠ 0 ∧ bytesAt 48 r 36 43 = 0 ∧ (bytesAt 48 r 44 44).testBit 2 = false then
      s.wr 0x4017 n (r + id * 2 ^ 32 + (if bytesAt 48 r 28 35 = id then 0 else 8 * 2 ^ 24))
    else s) s

/-- CARTRIDGE_LINK_UP (R542): the identity is read; another identifier counts an exchange. -/
def cartridgeLinkUp (s : State) : State :=
  if s.holder.isSome = true ∧ s.stageAtLeast 1 = true ∧ s.cart.on = true ∧ s.latch.closed = false ∧ s.rd 0x4000 0 ≠ 1 then
    let i := s.cart.identity
    let id := cartIdentifier i
    let old := s.bay.seen
    let s := (((s.wr 0x4000 0 1).wr 0x4001 0 i).wr 0x4002 0 (cartKey i)).wr 0x4003 0 (bytesAt 128 i 120 127 * 2 ^ 48)
    let s := s.fillAfter id
    let s := if id = old then s
      else
        let s := if old = 0 then s else (s.inc 0x401D 0).fault 243 moduleInst
        let s := s.updBay (fun q => { q with seen := id, fetched := s.cart.seqs, logRead := 0, sentAt := s.clk })
        (List.range 16).foldl (fun s c =>
          let l := (Tab.get [] s.cart.records c).getLast?
          let s := match l with
            | some r => ((s.wr 0x400A c (beNat (recordBytes (cartKey i) r))).wr 0x4009 c (bytesAt 44 r 28 35)).wr 0x401B c (recordSeq r)
            | none => ((s.wr 0x400A c 0).wr 0x4009 c 0).wr 0x401B c 0
          s) s
    s.readLog
  else s

/-- CARTRIDGE_LINK_UP (R542). -/
def execCartridgeLinkUp (el : Nat) (s : State) : Out := s.run el cartridgeLinkUp

/-- CARTRIDGE_LINK_LOST (R544): no valid frame for 1 s with the bypass open. -/
def cartridgeLinkLost (s : State) : State :=
  if s.rd 0x4000 0 = 1 ∧ s.latch.closed = false then (s.wr 0x4000 0 0).fault 240 moduleInst else s

/-- CARTRIDGE_LINK_LOST (R544). -/
def execCartridgeLinkLost (el : Nat) (s : State) : Out := s.run el cartridgeLinkLost

/-- RECORD_FETCH (R531): the oldest record of a channel not yet fetched. `result` 0 verifies, 1 fails, 2 a link frame fails its check. -/
def recordFetch (c result : Nat) (s : State) : State :=
  if s.linkUp? then
    if result = 2 then s.inc 0x4013 0
    else
      match (Tab.get [] s.cart.records c).find? (fun r => decide (Tab.get 0 s.bay.fetched c ≤ recordSeq r)) with
      | some r =>
        let s := s.updBay (fun q => { q with fetched := Tab.set q.fetched c (recordSeq r + 1) })
        let s := (((s.inc 0x4011 0).wr 0x400A c (beNat (recordBytes (cartKey s.cart.identity) r))).wr 0x4009 c (bytesAt 44 r 28 35)).wr 0x401B c (recordSeq r)
        if result = 1 ∧ s.rd 0x401F 0 = 1 then (s.inc 0x4012 0).fault 242 moduleInst else s
      | none => s
  else s

/-- RECORD_FETCH (R531). -/
def execRecordFetch (el : Nat) (channel : Fin 16) (result : Fin 3) (s : State) : Out := s.run el (recordFetch channel.val result.val)

/-- VERIFICATION_DUE (R544): the end of the verification period is within the lead, or has passed. -/
def verificationDue (s : State) : State :=
  let stop : Int := (s.rd 0x4003 0 / 2 ^ 48 : Nat)
  let isSet (b : Nat) : Bool := (Tab.get FaultEntry.clear s.faults b).set
  if s.holder.isSome = true ∧ s.rd 0x4003 0 ≠ 0 ∧ s.dtValid = true then
    if stop ≤ s.utcSeconds then (if isSet 247 then s else s.fault 247 moduleInst)
    else if stop ≤ s.utcSeconds + s.rd 0x401E 0 * 86400 then (if isSet 246 then s else s.fault 246 moduleInst)
    else s
  else s

/-- VERIFICATION_DUE (R544). -/
def execVerificationDue (el : Nat) (s : State) : Out := s.run el verificationDue

/-! ### Reading (R532, R537, R539) -/

/-- The records of a channel in a range of starts, or of sequence numbers. -/
def Cartridge.byStart (q : Cartridge) (c lo hi : Nat) : List Nat :=
  (Tab.get [] q.records c).filter (fun r => decide (lo ≤ recordStart r ∧ recordStart r ≤ hi))
def Cartridge.bySeq (q : Cartridge) (c lo n : Nat) : List Nat :=
  (Tab.get [] q.records c).filter (fun r => decide (lo ≤ recordSeq r ∧ recordSeq r < lo + n))

/-- The answer to METER_READ of kinds 0 and 1 for a list of channels (R532). -/
def State.meterRecords (s : State) (kind : Nat) (chans : List Nat) (payload : List Byte) : Nat × List Byte :=
  let l := chans.flatMap (fun c => if kind = 0 then s.cart.byStart c (getBE payload 4 8) (getBE payload 12 8)
    else s.cart.bySeq c (getBE payload 4 4) (getBE payload 8 4))
  if 9600 < l.length then (stRange, []) else (stOk, l.flatMap (recordBytes (cartKey s.cart.identity)))

/-- The answer to METER_LOG (R537) for the channels `f` allows. -/
def State.meterLog (s : State) (first count : Nat) (f : Nat → Bool) : List Byte :=
  let lo := if first = 0 then ((s.cart.log.head?).map LogEntry.seq).getD 0 else first
  (s.cart.log.filter (fun e => decide (lo ≤ e.seq ∧ e.seq < lo + count) && f e.chan)).flatMap (fun e => e.bytes (cartKey s.cart.identity))

/-- OPTICAL_READOUT (R539): 0 identity, 1 cumulative registers, 2 the load profile of a channel, 3 the event log. -/
def opticalReadout (kind c : Nat) (s : State) : State :=
  if s.cart.on then
    let key := cartKey s.cart.identity
    let b := match kind with
      | 0 => toBytes 128 s.cart.identity
      | 1 => (List.range 16).flatMap (fun k => toBytes 8 (Tab.get 0 s.cart.regs k))
      | 2 => (Tab.get [] s.cart.records c).flatMap (recordBytes key)
      | _ => s.meterLog 0 1024 (fun _ => true)
    s.updBay (fun q => { q with optical := q.optical ++ [b] })
  else s

/-- OPTICAL_READOUT (R539). -/
def execOpticalReadout (el : Nat) (kind : Fin 4) (channel : Fin 16) (s : State) : Out := s.run el (opticalReadout kind.val channel.val)

end Sys2Proof.Machine
end

