-- ==== Sys2Proof/Machine/Record.lean ====
section
/-! DEFINITION. The sticky fault record as it is read, cleared and written, and the latching of counters (17 R505 to R521). -/

namespace Sys2Proof.Machine

/-! ### The fault record (R515 to R519) -/

/-- The entry of a bit. -/
def State.entryAt (s : State) (b : Nat) : FaultEntry := Tab.get FaultEntry.clear s.faults b

/-- The place of bit k in a 32-byte mask read as one number: byte 31 - ⌊k / 8⌋, bit k mod 8 (R518). -/
def summaryOf (p : Nat → Bool) : Nat := (List.range 256).foldl (fun a b => if p b then a + 2 ^ b else a) 0

/-- PID 3E00h. -/
def State.faultSummary (s : State) : Nat := summaryOf (fun b => (s.entryAt b).set)

/-- PID 3E01h (R517). -/
def FaultEntry.bytes (b : Nat) (e : FaultEntry) : List Byte :=
  let fl := (if e.set then 1 else 0) + (if e.dtInvalid then 2 else 0) + (if e.saturated then 4 else 0) + (if e.restored then 8 else 0)
  toBytes 1 b ++ toBytes 1 fl ++ toBytes 4 e.count ++ toBytes 4 e.inst ++ toBytes 14 e.dt

/-- The allocated bits (R515, PID 3E0Fh), as ranges. -/
def allocatedRanges : List (Nat × Nat) :=
  [(0, 8), (64, 71), (80, 84), (96, 101), (112, 118), (128, 130), (136, 138), (144, 146), (160, 161), (163, 166), (168, 173),
   (176, 189), (192, 198), (208, 212), (224, 228), (232, 234), (240, 253)]

/-- Whether a bit is allocated. -/
def allocated (b : Nat) : Bool := allocatedRanges.any (fun r => decide (r.1 ≤ b ∧ b ≤ r.2))

/-- A group, plane or port below `n` that satisfies a test. -/
def firstOf (n : Nat) (f : Nat → Bool) : Option Nat := (List.range n).find? f

/-- The module, where a condition holds. -/
def ifHolds (b : Bool) : Option Nat := if b then some moduleInst else none

/-- The end of the verification period has passed, or is within the lead of PID 401Eh (18 R544). -/
def State.overdue (s : State) : Bool := s.rd 0x4003 0 != 0 && s.dtValid && decide (((s.rd 0x4003 0 / 2 ^ 48 : Nat) : Int) ≤ s.utcSeconds)
def State.dueSoon (s : State) : Bool :=
  s.rd 0x4003 0 != 0 && s.dtValid && !s.overdue && decide (((s.rd 0x4003 0 / 2 ^ 48 : Nat) : Int) ≤ s.utcSeconds + s.rd 0x401E 0 * 86400)

/-- The condition of a fault bit, where it is one that lasts, with its instance (R519). -/
def State.standing (s : State) (b : Nat) : Option Nat :=
  let powered := s.power.mains.isSome
  let k := s.isOn 12
  match b with
  | 0 => if s.psu 0 = 0 ∧ powered = true then some 0 else none
  | 1 => if s.psu 1 = 0 ∧ powered = true then some 1 else none
  | 2 => firstOf 2 (fun p => s.psu p == 3)
  | 3 => firstOf 2 (fun p => s.psu p == 2)
  | 5 => firstOf 2 (fun p => Tab.find? s.power.tests p == some false)
  | 6 => firstOf 2 (fun c => !(s.flashOf c).good)
  | 8 => ifHolds (s.clocks.late && s.rd 0x0200 0 == 0)
  | 64 => firstOf 8 (fun g => (List.range 18).any (fun k => (s.port (18 * g + k)).swapWait == some .loss))
  | 67 => firstOf 8 (fun g => decide (1350 < signed 16 (s.rd 0x082E g)))
  | 68 => firstOf 8 (fun g => (List.range 18).any (fun k => s.flag 0x084F (18 * g + k)))
  | 97 => firstOf 2 (fun p => decide (s.rd 0x1403 0 < slotsUsed (s.pl p).store))
  | 129 => if s.timeless then some 0 else none
  | 136 => ifHolds (s.rd 0x1C11 0 == 2)
  | 163 => firstOf 2 (fun p => s.rd 0x281F p == 5)
  | 169 => firstOf 2 (fun c => s.ctlState c == 6)
  | 176 => ifHolds (k && (s.rd 0x300C 0 == 2 || s.rd 0x300C 1 == 2))
  | 178 => ifHolds (powered && !k)
  | 179 => ifHolds (s.rd 0x3309 0 == 1)
  | 180 => ifHolds (s.rd 0x3309 0 == 2)
  | 181 => ifHolds (s.rd 0x3309 0 == 3)
  | 182 => ifHolds s.gnss.out
  | 183 => ifHolds (s.rd 0x3400 0 == 3)
  | 184 => ifHolds (s.rd 0x3400 0 == 3 && s.servo.beyond)
  | 192 => ifHolds ((List.range 3).any (fun r => s.rd (0x0203 + r) 0 != 0))
  | 193 => ifHolds (s.rd 0x020A 0 == 2)
  | 194 => ifHolds (s.rd 0x0200 0 == 2)
  | 195 => firstOf 13 (fun d => s.isOn d && s.rd 0x020E d == 3)
  | 198 => firstOf 13 (fun d => s.isOn d && s.rd 0x020F d == 1)
  | 240 => ifHolds (s.rd 0x4000 0 == 0 && !s.latch.closed)
  | 241 => ifHolds (s.rd 0x4000 0 == 2)
  | 244 => ifHolds s.cart.refused.isSome
  | 245 => ifHolds (decide (5000 < (signed 32 (s.rd 0x400D 0)).natAbs))
  | 246 => ifHolds s.dueSoon
  | 247 => ifHolds s.overdue
  | _ => none

/-- FAULT_CLEAR's effect (R519): every masked entry is cleared at one instant, and what still holds comes back at once; the
answer is the mask of the entries that were set. -/
def State.clearFaults (s : State) (mask : Nat) : State × Nat :=
  let hit := (List.range 256).filter (fun b => mask.testBit b && (s.entryAt b).set)
  let s' := { s with faults := s.faults.filter (fun e => !hit.contains e.1) }
  let s' := (s'.stamp 0x3E05 0).inc 0x3E06 0
  let s' := hit.foldl (fun s b => match s.standing b with
    | some i => s.fault b i
    | none => s) s'
  (s'.writeRecord, summaryOf (fun b => hit.contains b))

/-- FAULT_READ's answer (R518). -/
def State.readFaults (s : State) (first n : Nat) : List Byte :=
  toBytes 32 s.faultSummary ++ (List.range n).flatMap (fun k => (s.entryAt (first + k)).bytes (first + k))

/-! ### RECORD_WRITE (R520) -/

/-- A bit has been set that the record in the active controller's flash does not hold. -/
def State.newBits (s : State) : Bool :=
  let f := s.flashOf s.active
  s.faults.any (fun e => e.2.set && !(Tab.get FaultEntry.clear f.faults e.1).set)

/-- RECORD_WRITE (R520): due when a bit is first set, and every write interval while counts have changed. A write that fails in
one controller leaves its record as it was, and is recorded (R516). -/
def recordWrite (fail : Option Nat) (s : State) : State :=
  if s.holder.isSome = true ∧ s.faults ≠ (s.flashOf s.active).faults ∧
      (s.newBits = true ∨ s.recordAt + s.rd 0x3E0C 0 * ticksPerSec ≤ s.clk) then
    match fail with
    | none => s.writeRecord
    | some c =>
      let old := s.flashOf c
      let s := s.writeRecord
      { s with flash := Tab.upd Flash.init s.flash c (fun f => { f with faults := old.faults, faultGen := old.faultGen, faultGood := old.faultGood }) }.fault 233 c
  else s

/-- RECORD_WRITE (R520). -/
def execRecordWrite (el : Nat) (fail : Option CtlNo) (s : State) : Out := s.run el (recordWrite (fail.map Fin.val))

/-! ### Blocks behind clock gates (13 R425, R426) -/

/-- The block of a domain that holds a PID's values itself. -/
def blockOf (pid : Nat) : Option Nat :=
  if (0x2400 ≤ pid ∧ pid ≤ 0x2404) ∨ (0x2408 ≤ pid ∧ pid ≤ 0x240B) ∨ (0x240E ≤ pid ∧ pid ≤ 0x2412) ∨ pid = 0x2417 then some 0
  else if (0x1C15 ≤ pid ∧ pid ≤ 0x1C1C) ∨ pid = 0x1C1E ∨ pid = 0x1C1F ∨ pid = 0x1C21 ∨ pid = 0x1C27 then some 1
  else if 0x2218 ≤ pid ∧ pid ≤ 0x221A then some 2
  else if pid = 0x2047 ∨ pid = 0x2048 then some 3
  else if pid = 0x282D ∨ pid = 0x282F ∨ pid = 0x2831 ∨ (0x2834 ≤ pid ∧ pid ≤ 0x283B) then some 4
  else if pid = 0x080C then some 5
  else if pid = 0x3127 ∨ pid = 0x3128 ∨ pid = 0x312A then some 6
  else if 0x0224 ≤ pid ∧ pid ≤ 0x0227 then some 7
  else none

/-- The gate that a value is read through. -/
def gateOf (r : Row) (pid inst : Nat) : Option Nat :=
  match blockOf pid with
  | some 7 => some (16 * domCtl (inst / 8) + 7)
  | some b => (heldBy r inst).map (fun d => 16 * d + b)
  | none => none

/-- An instance is behind a closed gate. -/
def State.gated (s : State) (r : Row) (pid inst : Nat) : Option Nat :=
  match gateOf r pid inst with
  | some n => if s.gateState n = 2 then none else some n
  | none => none

/-! ### Counters (R505 to R512) -/

/-- Whether a PID is a counter that COUNTER_SNAPSHOT reads and clears (R508). -/
def isCounter (pid : Nat) : Bool :=
  match Catalogue.row? pid with
  | some r => r.counter
  | none => false

/-- Counters of a PID from `first` on are zeroed, `n` instances. -/
def State.zeroCounters (s : State) (pid first n : Nat) : State :=
  { s with regs := s.regs.filter (fun e => !(e.1 / 2 ^ 32 == pid && decide (first ≤ e.1 % 2 ^ 32 ∧ e.1 % 2 ^ 32 < first + n))) }

/-- A counter that a clear zeroes (R506): the frames classified under a slot are cleared by the slot's becoming free alone (05 R168). -/
def clearable (pid : Nat) : Bool := isCounter pid && pid != 0x102D

/-- Every counter that a clear zeroes is zeroed (PID 3C2Dh, R511). -/
def State.zeroAllCounters (s : State) : State := { s with regs := s.regs.filter (fun e => !clearable (e.1 / 2 ^ 32)) }

/-- Whether an instance can be read now: its domain is on (16 R492). -/
def State.readable (s : State) (r : Row) (inst : Nat) : Bool :=
  match heldBy r inst with
  | some d => s.isOn d
  | none => true

/-- The status at which a run of instances ends, and the instances before it (R510, 14 R450). -/
def State.runOf (s : State) (r : Row) (pid : Nat) : Nat → Nat → List Nat × Nat
  | _, 0 => ([], stOk)
  | i, n + 1 =>
    if r.sel.has i = false then ([], stBadInstance)
    else if s.readable r i = false then ([], stInterlock)
    else if (s.gated r pid i).isSome then ([], stGated)
    else
      let (l, st) := s.runOf r pid (i + 1) n
      (i :: l, st)

/-- The 56-byte header of a snapshot (R510). -/
def State.snapHeader (s : State) (rc : Nat) : List Byte :=
  toBytes 9 rc ++ toBytes 1 0 ++ toBytes 14 (encDT (s.time.triple.dtOf rc)) ++
    (List.range 14).flatMap (fun d => toBytes 2 (s.rd 0x3C2E d)) ++ toBytes 4 0

/-- The answer to a snapshot: header and values, with the status at which they end. -/
def State.snapAnswer (s : State) (x : Snap) : Nat × List Byte :=
  match if x.pid = 0x3C2D then none else Catalogue.row? x.pid with
  | some r =>
    let (l, st) := s.runOf r x.pid x.inst x.count
    (st, s.snapHeader x.rc ++ l.flatMap (fun i => toBytes r.ty.size (s.rd x.pid i)))
  | none => (stOk, [])

/-- The clear of a snapshot. -/
def State.snapClear (s : State) (x : Snap) : State :=
  if x.pid = 0x3C2D then (s.zeroAllCounters).stamp 0x3C2C 0
  else if x.clear = true ∧ clearable x.pid = true then
    match Catalogue.row? x.pid with
    | some r => (s.zeroCounters x.pid x.inst (s.runOf r x.pid x.inst x.count).1.length).stamp 0x3C2C 0
    | none => s
  else s

/-- SNAPSHOT_LATCH (R509): every snapshot whose RC has come reads the same instant, and then clears. -/
def snapshotLatch (s : State) : State :=
  let due := s.snaps.filter (fun x => decide (x.rc ≤ s.rc))
  if due.isEmpty then s
  else
  let answers := due.map (fun x => let (st, b) := s.snapAnswer x; (⟨x.who, st, b⟩ : Owed))
  let s := { s with snaps := s.snaps.filter (fun x => !decide (x.rc ≤ s.rc)), owed := s.owed ++ answers }
  let s := s.incBy 0x3C2B 0 (due.filter (fun x => x.pid != 0x3C2D)).length
  due.foldl State.snapClear s

/-- A uncorrectable error in a counter's storage (R512). -/
def counterMemoryError (pid inst : Nat) (s : State) : State :=
  match Catalogue.row? pid with
  | some r =>
    if r.counter = true ∧ r.sel.has inst = true ∧ s.readable r inst = true then
      ((s.wr pid inst 0).inc 0x3C2F 0).fault 232 moduleInst
    else s
  | none => s

/-- COUNTER_MEMORY_ERROR (R512). -/
def execCounterMemoryError (el : Nat) (pid : BitVec 16) (inst : BitVec 32) (s : State) : Out :=
  s.run el (counterMemoryError pid.toNat inst.toNat)

end Sys2Proof.Machine
end

