-- ==== Sys2Proof/Machine/Readout.lean ====
section
/-! DEFINITION. What a GET of a parameter reads (16 R491, R492): the register file for what is held there, and what the module
measures or derives from the rest of its state. -/

namespace Sys2Proof.Machine

/-- The sum of the values listed under the keys that satisfy a test. -/
def sumWhere (t : Tab Nat) (f : Nat → Bool) : Nat := t.foldl (fun a e => if f e.1 then a + e.2 else a) 0

/-- A number of two's complement size `n` bytes. -/
def putInt (n : Nat) (i : Int) : Nat := unsignedOf (8 * n) i

/-- A set of flags as a number, lowest bit first. -/
def flagsOf (l : List Bool) : Nat := l.foldr (fun b a => 2 * a + (if b then 1 else 0)) 0

/-- The session that the active controller numbers `j`. -/
def State.hostSession (s : State) (j : Nat) : Session := s.session (4 * s.active + j)

/-- Whether every power domain is on; the cartridge's while its link is up. -/
def State.allOn (s : State) : Bool := (List.range 13).all s.isOn && s.rd 0x4000 0 == 1

/-- Hours of operation (PID 001Ch, 19 R560): under mains, since manufacture. -/
def State.hoursWorked (s : State) : Nat :=
  (s.power.worked + (if s.power.mains.isSome then s.clk else s.power.offAt) - s.power.onAt) / (3600 * ticksPerSec)

/-- Hours of operation with TC above 110 °C (PID 001Dh). -/
def State.hotHours (s : State) : Nat := countOf (List.range s.hoursWorked) (fun h => decide (1100 < (Config.hourTemp h).toInt))

/-- The mean of TC over the hours of operation (PID 001Eh); the present TC before the first has passed. -/
def State.meanTemp (s : State) : Nat :=
  if s.hoursWorked = 0 then (Config.caseTemp s.clk).toNat
  else unsignedOf 16 (floorDiv (((List.range s.hoursWorked).map (fun h => (Config.hourTemp h).toInt)).sum) s.hoursWorked)

/-- The instance's entries of the register file for a PID. -/
def State.valuesOf (s : State) (pid : Nat) : List (Nat × Nat) :=
  (s.regs.filter (fun e => e.1 / 2 ^ 32 == pid)).map (fun e => (e.1 % 2 ^ 32, e.2))

/-- A triple record (12 R367). -/
def tripleRecord (t : Triple) : Nat := (t.baseRC * 256 * 2 ^ 112 + encDT t.baseDT) * 2 ^ 64 + unsignedOf 64 t.rho

/-- A trust anchor is installed (14 R436). -/
def State.enrolled (s : State) : Bool := s.anyEntry 0x0408 (fun _ _ => true)

/-! ### By group -/

/-- Groups 00h to 04h. -/
def State.derivedLow (s : State) (pid inst : Nat) : Option Nat :=
  match pid with
  | 0x0005 => some (s.rd 0x0006 (2 * s.active + s.rd 0x0007 s.active))
  | 0x0014 => some (flagsOf [s.allOn, s.rd 0x281F 0 == 2 && s.rd 0x281F 1 == 2, s.standbyReady, s.rd 0x3400 0 == 2,
      s.faults.any (fun e => e.2.set), s.rd 0x4000 0 == 1, s.rd 0x010B 0 == 2])
  | 0x0016 => some (Config.caseTemp s.clk).toNat
  | 0x001C => some s.hoursWorked
  | 0x001D => some s.hotHours
  | 0x001E => some s.meanTemp
  | 0x0015 => some ((s.clk - s.power.onAt) / ticksPerSec)
  | 0x011F => some (s.psuOutput inst)
  | 0x011B => some (if s.rd 0x4000 0 = 1 then 2 else 5)
  | 0x0200 => some (if s.isOn 12 then s.rd 0x0200 0 else 3)
  | 0x0229 => some (s.gateState inst)
  | 0x022E => some (flagsOf [s.flag 0x0125 0, s.rd 0x020A 0 == 0, (List.range 13).any (fun d => s.rd 0x020F d == 1),
      (List.range 2).any (fun p => decide (4 < s.rd 0x0214 p)), (s.entryAt 196).set])
  | 0x0303 => some (if s.heartAbsent (1 - inst) then 0 else 1)
  | 0x0304 => some (if s.heartAbsent inst then 0 else 1)
  | 0x030B => some (
      if s.flag 0x0309 0 then
        if s.swapTries ≠ 0 ∨ s.dtValid = false then
          encDT (s.dt + ((s.swapAt : Int) + (if s.swapTries ≠ 0 then 60 else 86400) * ticksPerSec - s.clk) * 163840)
        else encDT (nsUnits (((max (s.utcDay + 1) (s.swapDay + 1)) * 86400 + s.rd 0x030A 0 + signed 16 (s.rd 0x3009 0)) * 1000000000))
      else 0)
  | 0x030E => some (match s.ctlState s.standby with | 3 => 1 | 4 => 2 | _ => 0)
  | 0x031D => some (if 2 ≤ s.ctlState inst ∧ s.ctlState inst ≤ 5 then (s.clk - (s.ctl inst).bootAt) / ticksPerSec else 0)
  | 0x0405 =>
    match inst with
    | 0 => if s.rd 0x0400 0 = 0 then some 0
        else if s.rd 0x0400 0 = 2 then some (4 * 2 ^ 152 + bytesAt 12 (s.rd 0x0401 0) 0 3 * 2 ^ 120 + byteAt 12 (s.rd 0x0401 0) 4 * 2 ^ 16)
        else none
    | 1 => if s.rd 0x0402 0 = 0 then some 0
        else if s.rd 0x0402 0 = 2 then some (6 * 2 ^ 152 + bytesAt 36 (s.rd 0x0403 0) 0 15 * 2 ^ 24 + byteAt 36 (s.rd 0x0403 0) 16 * 2 ^ 16)
        else none
    | _ => some (s.rd 0x0404 0)
  | 0x040B => some (if s.enrolled then 1 else 0)
  | 0x040E => some (if (s.hostSession inst).isOpen then 2 else 0)
  | 0x040F => some (if (s.hostSession inst).isOpen then (s.hostSession inst).role else 0xFF)
  | 0x0412 => some (s.hostSession inst).requests.length
  | 0x0413 => some (s.hostSession inst).subs.length
  | _ => none

/-- Groups 08h and 0Ah. -/
def State.derivedPort (s : State) (pid inst : Nat) : Option Nat :=
  match pid with
  | 0x0807 => some (s.faultStatus inst)
  | 0x080D => some (Config.errorRatio inst s.clk).toNat
  | 0x080E => some (Config.receivePower inst s.clk).toNat
  | 0x082B => some (countOf (List.range 20) (fun k => s.laser inst k == 1 || s.laser inst k == 2))
  | 0x0835 => some (if s.pausedPort inst then 0xFF else flagsOf ((List.range 8).map (fun k => s.pausedClass inst k)))
  -- the larger of the two planes' counts, frames of any path in reception, and policers not off: notes/assumptions/62.md
  | 0x0839 => some (max (Tab.get 0 s.pa.pools.h inst) (Tab.get 0 s.pb.pools.h inst))
  | 0x084C => some (flagsOf ([0, 1].map (s.replicationSet s.rc).contains))
  | 0x084D => some (match (s.port inst).rx with
      | some f => if f.seq.isNone then f.bytes.length else 0
      | none => 0)
  | 0x0A10 => some (putInt 4 ((s.policerRefill inst s.rc).1 / 256))
  | 0x0A11 => some (putInt 4 ((s.policerRefill inst s.rc).2 / 256))
  | 0x0A1B => some (countOf (s.valuesOf 0x0A00) (fun e => e.1 / 2048 == inst && e.2 != 0))
  | 0x0A1C => some (if (s.policer inst).lost then 2 else if s.rd 0x0A00 inst = 0 then 0 else 1)
  | _ => none

/-- The code of a slot state (05 R160). -/
def SlotState.code : SlotState → Nat
  | .free => 0 | .loading => 1 | .armed => 2 | .active => 3 | .draining => 4

/-- The active slot. -/
def State.activeSlot (s : State) : Nat := ((List.range 4).find? (fun v => (s.slot v).state == .active)).getD 0

/-- Group 10h. -/
def State.derivedBed (s : State) (pid inst : Nat) : Option Nat :=
  let image := (s.slot s.activeSlot).image
  match pid with
  | 0x1027 =>
    let l := s.ruleAt.filter (fun e => e.2.1 == inst)
    some (match (l.find? (fun e => e.2.2.testBit s.latestSlot)).or l.head? with
      | some e => e.2.2 * 2 ^ 28 + e.1
      | none => 0xFFFF)
  | 0x1028 => some (s.slot inst).state.code
  | 0x1029 => some (s.slot inst).actRC
  | 0x102A => some (if (s.slot inst).state = .free then 0 else encDT (s.time.triple.dtOf (s.slot inst).actRC))
  | 0x102B => some (s.slot inst).token
  | 0x102C => some (s.framesUnder (inst / 4) (inst % 4))
  | 0x102E => some s.activeSlot
  | 0x1033 => some (match (s.hostSession inst).bundle with | some b => b.length | none => 0)
  | 0x1037 => some (49152 - s.ruleAt.foldl (fun a e => a + tileWidth s.latest (e.1 / 256)) 0)
  | 0x103B => some (match (lookupTiles image inst).head? with
      | some t => (match tileWidth image t with | 1 => 1 | 2 => 2 | _ => 3)
      | none => 0)
  | 0x103C => some (256 * (lookupTiles image inst).length)
  | 0x103D => some (countOf (liveRules image) (fun r => imageCfg image 0x1020 r == inst))
  | _ => none

/-- Group 14h. -/
def State.derivedTables (s : State) (pid inst : Nat) : Option Nat :=
  let store (p : Nat) : Tab Entry := (s.pl p).store
  let prefixes (v6 : Bool) : Nat :=
    let p := if s.inService.contains 0 then 0 else 1
    countOf (store p) (fun e => e.2.ktype == prefixType v6)
  match pid with
  | 0x1400 => some (slotsUsed (store inst))
  | 0x1401 => some ((store (inst / 8)).foldl (fun a e => if e.2.ktype = inst % 8 then a + slotsOf e.2.ktype else a) 0)
  | 0x1413 => some (learnedCount (store (inst / 65536)) (fun e => e.tenant == inst / 4096 % 16 && e.key / 2 ^ 48 == inst % 4096))
  | 0x1415 => some (learnedCount (store (inst / 16)) (fun e => e.tenant == inst % 16))
  | 0x1416 => some (learnedCount (store (inst / 144)) (fun e => e.onPort (inst % 144)))
  | 0x1417 => some (s.pl inst).learnQ.length
  | 0x141C => some (countOf (store inst) (fun e => e.2.frozen))
  | 0x1427 => some (2 * s.rd 0x1428 0)
  | 0x1429 => some (81920 - 65536 - s.quietNh.length)
  | 0x142A => some (163840 - 131072 - s.quietRw.length)
  | 0x142B => some s.quietNh.length
  | 0x142C => some s.quietRw.length
  | 0x142F => some (s.valuesOf 0x1426).length
  | 0x1432 => some (prefixes false)
  | 0x1433 => some (prefixes true)
  | 0x1434 => some (match s.bankOwner inst with
      | some fl => 32768 + (if fl < 33 then fl else 256 + (fl - 33))
      | none => 0)
  | 0x1435 => some ((s.banksOf inst).1 * 256 + (s.banksOf inst).2)
  | 0x1436 =>
    let p := if s.inService.contains 0 then 0 else 1
    some (if inst < 33 then prefixCount (store p) false inst else prefixCount (store p) true (inst - 33))
  | 0x1442 => some (if s.flushes.any (fun f => f.who.key == 4 * s.active + inst) then 1 else 0)
  | 0x1444 => some (if s.bulks.any (fun b => b.who.key == 4 * s.active + inst) then 1 else 0)
  | 0x1445 => some (match s.rd 0x2826 0, s.reseed with
      | 3, some r => if s.clk < r.storeFrom then 1 else 2
      | 3, none => 2
      | 4, _ => 3
      | _, _ => 0)
  | _ => none

/-- Group 18h. -/
def State.derivedTiles (s : State) (pid inst : Nat) : Option Nat :=
  let q (p : Nat) : Pools := (s.pl p).pools
  match pid with
  | 0x1802 => some (24576 - (s.pl inst).taken.length + (s.pl inst).cachedTiles.length)
  | 0x1803 => some (q inst).total
  | 0x1806 => some (Tab.get 0 (q (inst / 2048)).g (inst % 2048))
  | 0x1808 => some (Tab.get 0 (q (inst / 16)).t (inst % 16))
  | 0x180A => some (Tab.get 0 (q (inst / 16)).st (inst % 16))
  | 0x180B => some s.sSize
  | 0x180C => some (q inst).s
  | 0x180E => some (sumWhere (q inst).k (fun _ => true))
  | 0x180F => some (s.lent inst)
  | 0x1810 => some (q inst).loan
  | 0x1814 => some (Tab.get 0 (q (inst / 3)).x (inst % 3))
  | 0x1816 => some (q inst).o
  | 0x1817 => some (s.sumOf 0x0838)
  | 0x1819 => some ((s.pl (inst / 8)).cache (inst % 8)).length
  | 0x1821 => some (s.pl inst).quar.length
  | 0x182E => some (s.freeBuffers (inst / 3) (inst % 3))
  | _ => none

/-- Groups 1Ah and 1Ch. -/
def State.derivedCore (s : State) (pid inst : Nat) : Option Nat :=
  match pid with
  | 0x1A03 => some ((s.pl (inst / 1152)).tilesEK (inst % 1152 / 8) (inst % 8))
  | 0x1A16 => some (if s.timed then 0 else 1)
  | 0x1A17 => some ((s.pl (inst / 32768)).tilesQ (inst % 32768))
  | 0x1A18 => some ((s.pl (inst / 32768)).queue (inst % 32768)).length
  | 0x1C15 => some ((s.pl (inst / 144)).heldK (inst % 144))
  | 0x1C16 => some (sumWhere (s.pl (inst / 144)).sched.short (fun k => k / 64 == inst % 144))
  | 0x1C21 => some (countOf (s.pl inst).queues (fun e => e.2.any (fun c => ((s.pl inst).codesOf c.head).contains 3)))
  | _ => none

/-- Tokens in bytes, and a deficit, as a scheduler parameter shows them. -/
def State.tokenBytes (s : State) (p el : Nat) : Nat := putInt 4 (floorDiv (s.shaperTokens p el) 1000000)

/-- The queues attached beneath a scheduler element that satisfy a test. -/
def State.attached (s : State) (pid : Nat) (f : Nat → Bool) : Nat := countOf (s.valuesOf pid) (fun e => e.2 / 2 ^ 24 != 0xFF && f e.2)

/-- Groups 20h to 28h. -/
def State.derivedSched (s : State) (pid inst : Nat) : Option Nat :=
  let under (p node : Nat) : Nat := ((s.pl p).queues.filter (fun x => (s.nodesAbove x.1).contains node)).foldl (fun a x => a + (s.pl p).tilesOf x.2) 0
  match pid with
  | 0x201B => some (countOf (s.valuesOf 0x2008) (fun e => e.2 == inst))
  | 0x201C => some (countOf (s.valuesOf 0x200F) (fun e => e.2 == inst))
  | 0x201D => some (if s.scheduled then 1 else 0)
  | 0x2038 => some (s.tokenBytes (inst / 4096) (elem 1 (inst % 4096)))
  | 0x2039 => some (s.tokenBytes (inst / 1024) (elem 2 (inst % 1024)))
  | 0x203A => some (s.tokenBytes (inst / 1184) (elem 3 (inst % 1184)))
  | 0x203B => some (s.tokenBytes (inst / 148) (elem 4 (inst % 148)))
  | 0x203C => some (putInt 4 (Tab.get 0 (s.pl (inst / 32768)).sched.deficit (elem 0 (inst % 32768))))
  | 0x2049 => some (s.attached 0x2000 (fun a => !a.testBit 15 && a % 4096 == inst))
  | 0x204A => some (s.attached 0x2004 (fun a => !a.testBit 15 && a % 1024 == inst))
  | 0x204B =>
    let here (a : Nat) : Bool := field a 31 24 == inst / 8 && field a 18 16 == inst % 8
    some (1 + s.attached 0x2000 (fun a => a.testBit 15 && here a) + s.attached 0x2004 (fun a => a.testBit 15 && here a) + s.attached 0x200B here)
  | 0x204C => some (under (inst / 4096) (elem 1 (inst % 4096)))
  | 0x204D => some (under (inst / 1024) (elem 2 (inst % 1024)))
  | 0x2414 => some (countOf (s.valuesOf 0x2405) (fun e => e.2 != 0xFFFF))
  | 0x2800 => some (s.bond inst).window.length
  | 0x2801 => some (s.bond inst).retired.length
  | 0x2802 => some (16384 - s.fifoFree inst)
  | 0x2820 => some ((Tab.get .none s.judge.integ inst).inWin (s.rc / 400000000))
  | 0x2822 => some (s.judge.div.inWin (s.rc / 400000000))
  | 0x283D => some (countOf (s.valuesOf 0x282C) (fun e => e.2.testBit 119))
  | 0x283E => some (countOf (s.valuesOf 0x2832) (fun e => e.2.testBit 55))
  | _ => none

/-- Groups 30h to 35h. -/
def State.derivedTime (s : State) (pid inst : Nat) : Option Nat :=
  match pid with
  | 0x3000 => some s.rc
  | 0x3001 => some s.dtNow
  | 0x3003 => some (tripleRecord s.time.triple)
  | 0x3004 => some (match s.time.next with | some (t, _) => tripleRecord t | none => 0)
  | 0x3005 => some (match s.time.next with | some (_, rc) => rc | none => 2 ^ 72 - 1)
  | 0x301B => some (putInt 4 (floorDiv (s.time.triple.rho * 1000000000000) ((2 : Int) ^ 60)))
  | 0x301D => some (encDT (s.time.triple.dtOf 0))
  | 0x301E => some (flagsOf [s.dtValid, s.rd 0x3400 0 == 2, s.rd 0x3400 0 == 3, s.rd 0x300C 0 == 1 && s.rd 0x300C 1 == 1, s.isOn 12])
  | 0x301F => some (if (List.range 10).any (fun d => s.isOn d && (s.rd 0x020F d == 1 || !s.isOn 12)) then 1 else 0)
  | 0x3103 => some s.clockIdentity
  | 0x311A => some s.ownClass.1
  | 0x311B => some s.ownQuality.1
  | 0x320C => some s.sentQl
  | 0x320E => some (match Tab.find? s.synce.wtr inst with | some t => (t - s.clk + ticksPerSec - 1) / ticksPerSec | none => 0)
  | 0x3216 => some (if s.rd 0x3201 0 = 0 then 3000 else 1000)
  | 0x3217 => some (countOf (List.range 144) s.isCandidate)
  | 0x3403 => some (s.lockTicks / (3600 * ticksPerSec))
  | 0x3508 => some (s.outputState inst)
  | 0x350A => some (if s.outputState inst = 2 then (match s.gridInstant inst s.dt with | some g => encDT g | none => 0) else 0)
  | _ => none

/-- Groups 38h to 40h. -/
def State.derivedHigh (s : State) (pid inst : Nat) : Option Nat :=
  match pid with
  | 0x381A => some (if s.funnelForced then 1 else 0)
  | 0x381C => some (s.recvOf inst).window.length
  | 0x3E00 => some s.faultSummary
  | 0x3E01 => some (beNat ((s.entryAt inst).bytes inst))
  | 0x3E02 => some (countOf s.faults (fun e => e.2.set))
  | 0x3E0B => some (countOf s.faults (fun e => e.2.saturated))
  | 0x3E0F => some (summaryOf allocated)
  | 0x4004 => some s.cartStatus
  | 0x400E => some s.disciplineState
  | 0x401A => some s.backlog
  | _ => none

/-- The PIDs that the module measures by means the spec does not describe (R503): each reading is a free value. -/
def measuredPids : List Nat :=
  [0x011E, 0x0120, 0x0121, 0x030F, 0x0319, 0x031B, 0x031C, 0x0405, 0x080C,
   0x080F, 0x0811, 0x082F, 0x084E, 0x320B, 0x3409, 0x340A, 0x340B, 0x340C, 0x382A, 0x382D, 0x3C1A, 0x3C1B, 0x4007, 0x4008]

/-- What the module derives for a PID, where it does not hold the value in the register file. -/
def State.derived (s : State) (pid inst : Nat) : Option Nat :=
  let g := pid / 256
  if g ≤ 0x04 then s.derivedLow pid inst
  else if g ≤ 0x0A then s.derivedPort pid inst
  else if g = 0x10 then s.derivedBed pid inst
  else if g = 0x14 then s.derivedTables pid inst
  else if g = 0x18 then s.derivedTiles pid inst
  else if g ≤ 0x1C then s.derivedCore pid inst
  else if g ≤ 0x28 then s.derivedSched pid inst
  else if g ≤ 0x35 then s.derivedTime pid inst
  else s.derivedHigh pid inst

/-- A bundle parameter as the active slot holds it: of a rule's key value and mask only the key width of its lookup reads back
(05 R151), whole where the rule's lookup has no tile. -/
def State.bundleValue (s : State) (pid inst : Nat) : Nat :=
  let cfg := imageCfg (s.slot s.activeSlot).image
  let v := cfg pid inst
  if pid = 0x1023 ∨ pid = 0x1024 then
    let n := keyChunks cfg (cfg 0x1020 inst)
    if n = 0 then v else v / 2 ^ (16 * (40 - n)) * 2 ^ (16 * (40 - n))
  else v

/-- The value of a parameter that a GET returns; a bundle parameter's is the one of the active slot (R501). A measured value
draws a free value. -/
def State.read (s : State) (pid inst : Nat) : State × Nat :=
  let w := 2 ^ Catalogue.width pid
  match Catalogue.row? pid with
  | some r =>
    if r.cls = .bundle then (s, s.bundleValue pid inst)
    else
      match s.derived pid inst with
      | some v => (s, v % w)
      | none =>
        if measuredPids.contains pid then
          let (s, d) := s.draw
          (s, Config.freeValue d % w)
        else (s, s.rd pid inst)
  | none => (s, 0)

end Sys2Proof.Machine
end

