-- ==== Sys2Proof/Machine/Scope.lean ====
section
/-! DEFINITION. Roles and tenants: what a session may do (14 R439, R440; 16 R504, with the rules of the owning chapters). -/

namespace Sys2Proof.Machine

/-- Role codes (PID 040Fh). -/
def roleSite : Nat := 0
def roleObserver : Nat := 1
def roleInspector : Nat := 2

/-- The tenant of a role. -/
def roleTenant (role : Nat) : Option Nat := if 16 ≤ role ∧ role < 32 then some (role - 16) else none

/-- The identity parameters, which every role reads (R440). -/
def isIdentity (pid : Nat) : Bool := decide (pid ≤ 0x0005)

/-- A port all of whose frames are one tenant's: its membership mask (PID 0911h) holds only bit n (17 R514). -/
def State.portOf (s : State) (n i : Nat) : Bool := s.rd 0x0911 i == 2 ^ n

/-- A queue of tenant n (10 R301). -/
def State.queueOfTenant (s : State) (n q : Nat) : Bool := s.rd 0x2001 q == n

/-- A course of tenant n alone: the mask of its live record (09 R293). -/
def State.courseOfTenant (s : State) (n k : Nat) : Bool := courseTenants (s.rd 0x1C0D k) == 2 ^ n

/-- The instances of groups 0Ah to 18h that tenant n reads. -/
def State.tenantReadsLow (s : State) (n pid inst : Nat) : Bool :=
  let policer (k : Nat) : Bool := s.rd 0x0A0B k == n
  if 0x0A00 ≤ pid ∧ pid ≤ 0x0A0B then policer inst
  else if 0x0A0C ≤ pid ∧ pid ≤ 0x0A0F then inst == n
  else if pid = 0x0A10 ∨ pid = 0x0A11 ∨ pid = 0x0A1C ∨ pid = 0x0A1D then policer inst
  else if pid = 0x0A1A ∨ pid = 0x0A1F then inst == n
  else if pid = 0x1006 then true
  else if pid = 0x101C then inst == n
  else if pid = 0x1026 then imageCfg (s.slot s.activeSlot).image 0x1022 (inst % 65536) == n
  else if pid = 0x1039 then s.rd 0x1039 inst == n
  else if 0x140A ≤ pid ∧ pid ≤ 0x140C then inst == n
  else if pid = 0x1411 ∨ pid = 0x1412 ∨ pid = 0x1430 then inst / 4096 == n
  else if pid = 0x1413 then inst / 4096 % 16 == n
  else if pid = 0x1415 then inst % 16 == n
  else if pid = 0x1807 ∨ pid = 0x1809 then inst == n
  else if pid = 0x1808 ∨ pid = 0x180A then inst % 16 == n
  else false

/-- The instances of groups 1Ah to 24h that tenant n reads. -/
def State.tenantReadsMid (s : State) (n pid inst : Nat) : Bool :=
  let sub (k : Nat) : Bool := s.rd 0x2008 k == n
  let svc (k : Nat) : Bool := s.rd 0x200F k == n
  if (0x1A17 ≤ pid ∧ pid ≤ 0x1A23) ∨ pid = 0x1A2E then s.queueOfTenant n (inst % 32768)
  else if 0x1C17 ≤ pid ∧ pid ≤ 0x1C1C then s.courseOfTenant n (inst % 9216)
  else if pid = 0x1C1D then s.courseOfTenant n inst
  else if pid = 0x1C1F then s.queueOfTenant n (inst % 32768)
  else if pid ≤ 0x2003 ∧ 0x2000 ≤ pid then s.queueOfTenant n inst
  else if (0x2004 ≤ pid ∧ pid ≤ 0x200A) ∨ pid = 0x2049 then sub inst
  else if (0x200B ≤ pid ∧ pid ≤ 0x2011) ∨ pid = 0x204A then svc inst
  else if pid = 0x2038 ∨ pid = 0x203D ∨ pid = 0x203E ∨ pid = 0x204C then sub (inst % 4096)
  else if pid = 0x2039 ∨ pid = 0x203F ∨ pid = 0x2040 ∨ pid = 0x204D then svc (inst % 1024)
  else if pid = 0x203C then s.queueOfTenant n (inst % 32768)
  else if 0x2016 ≤ pid ∧ pid ≤ 0x201C then inst == n
  else if 0x2400 ≤ pid ∧ pid ≤ 0x2404 then s.queueOfTenant n (inst % 32768)
  else if (0x2405 ≤ pid ∧ pid ≤ 0x2407) ∨ pid = 0x2413 ∨ pid = 0x2415 then s.rd 0x2415 inst == n
  else if (0x2408 ≤ pid ∧ pid ≤ 0x240B) ∨ (0x2410 ≤ pid ∧ pid ≤ 0x2412) then s.rd 0x2415 (inst % 512) == n
  else false

/-- The instances of groups 3Ch and 40h that tenant n reads. -/
def State.tenantReadsHigh (s : State) (n pid inst : Nat) : Bool :=
  if pid = 0x3C0D ∨ pid = 0x3C0F then s.portOf n (inst / 8)
  else if pid = 0x3C14 then false
  else if 0x3C00 ≤ pid ∧ pid ≤ 0x3C17 then s.portOf n inst
  else if pid = 0x3C18 ∨ pid = 0x3C19 then s.rd 0x0A0B (inst / 3) == n
  else if pid = 0x3C1E ∨ pid = 0x3C1F then s.rd 0x1039 (inst % 65536 / 256) == n
  else if 0x4000 ≤ pid ∧ pid ≤ 0x4004 then true
  else if (0x4005 ≤ pid ∧ pid ≤ 0x400A) ∨ pid = 0x401B then s.rd 0x4005 inst == n
  else false

/-- Whether tenant n reads an instance (R440). -/
def State.tenantReads (s : State) (n pid inst : Nat) : Bool :=
  isIdentity pid ||
    (if pid / 256 ≤ 0x18 then s.tenantReadsLow n pid inst
     else if pid / 256 ≤ 0x24 then s.tenantReadsMid n pid inst
     else s.tenantReadsHigh n pid inst)

/-- Whether a role reads an instance (R439, R440; 18 R538). -/
def State.mayRead (s : State) (role pid inst : Nat) : Bool :=
  match roleTenant role with
  | some n => s.tenantReads n pid inst
  | none => if role = roleInspector then isIdentity pid || pid / 256 == 0x40 else true

/-- Whether a role may SET an instance; a slot takes a queue of its owner only (04 R121, 10 R301, R319). -/
def State.mayWrite (s : State) (role pid inst v : Nat) : Bool :=
  match roleTenant role with
  | some n =>
    if 0x0A01 ≤ pid ∧ pid ≤ 0x0A04 then s.rd 0x0A0B inst == n
    else if pid = 0x2009 ∨ pid = 0x200A then s.rd 0x2008 inst == n
    else if pid = 0x2010 ∨ pid = 0x2011 then s.rd 0x200F inst == n
    else if pid = 0x2405 then s.rd 0x2415 inst == n && (v == 0xFFFF || s.queueOfTenant n v)
    else if pid = 0x2406 ∨ pid = 0x240C then s.rd 0x2415 inst == n
    else false
  | none => role == roleSite

/-- The opcodes of R444. -/
def opcodes : List Nat :=
  [0x01, 0x02, 0x03, 0x04, 0x05, 0x06, 0x07, 0x08, 0x10, 0x11, 0x12, 0x13, 0x14, 0x15, 0x16, 0x20, 0x21, 0x22, 0x30, 0x31, 0x40, 0x41,
   0x50, 0x51, 0x7F]

/-- The opcodes that a role may use at all (R439). -/
def roleOpcodes (role : Nat) : List Nat :=
  if role = roleSite then opcodes
  else if role = roleObserver then [0x01, 0x03, 0x06, 0x07, 0x08, 0x10, 0x11, 0x16, 0x20, 0x21, 0x40, 0x41, 0x7F]
  else if role = roleInspector then [0x01, 0x03, 0x06, 0x07, 0x08, 0x40, 0x41, 0x7F]
  else [0x01, 0x02, 0x03, 0x06, 0x07, 0x08, 0x10, 0x11, 0x16, 0x20, 0x40, 0x41, 0x7F]

/-- A tenant's value above its cap (04 R121, 10 R301): the cap's PID, and the PID that counts the violation. -/
def tenantCap (pid : Nat) : Option (Nat × Nat) :=
  if 0x0A01 ≤ pid ∧ pid ≤ 0x0A04 then some (pid + 0xB, 0x0A1F)
  else if pid = 0x2009 ∨ pid = 0x2010 then some (0x2016, 0x201A)
  else if pid = 0x200A ∨ pid = 0x2011 then some (0x2017, 0x201A)
  else none

end Sys2Proof.Machine
end

