-- ==== Sys2Proof/Machine/Settings.lean ====
section
/-! DEFINITION. What a SET is checked against and what it does: the types of 16 R490, the checks of the owning chapters, and the
effect of each parameter that has one beyond its value. -/

namespace Sys2Proof.Machine

/-! ### Types and ranges (16 R490, R494) -/

/-- One byte of a UTF-8 string: continuation bytes still due, and the range of the next one. -/
def utf8Step (st : Option (Nat × Nat × Nat)) (b : Byte) : Option (Nat × Nat × Nat) :=
  let v := b.toNat
  match st with
  | none => none
  | some (0, _, _) =>
    if v < 0x80 then some (0, 0x80, 0xBF)
    else if 0xC2 ≤ v ∧ v ≤ 0xDF then some (1, 0x80, 0xBF)
    else if v = 0xE0 then some (2, 0xA0, 0xBF)
    else if v = 0xED then some (2, 0x80, 0x9F)
    else if 0xE1 ≤ v ∧ v ≤ 0xEF then some (2, 0x80, 0xBF)
    else if v = 0xF0 then some (3, 0x90, 0xBF)
    else if 0xF1 ≤ v ∧ v ≤ 0xF3 then some (3, 0x80, 0xBF)
    else if v = 0xF4 then some (3, 0x80, 0x8F)
    else none
  | some (n + 1, lo, hi) => if lo ≤ v ∧ v ≤ hi then some (n, 0x80, 0xBF) else none

/-- A string is UTF-8, padded with 00h (R490). -/
def stringOk (bs : List Byte) : Bool :=
  let text := bs.takeWhile (fun b => b != 0)
  (bs.drop text.length).all (fun b => b == 0) &&
    (match text.foldl utf8Step (some (0, 0x80, 0xBF)) with
     | some (0, _, _) => true
     | _ => false)

/-- The refusals that a type makes by itself (R490). -/
def Ty.ok : Ty → Nat → Bool
  | .bool, v => decide (v ≤ 1)
  | .dt, v => decide (v / 2 ^ 16 % 2 ^ 32 ≤ 999999999)
  | .str n, v => stringOk (toBytes n v)
  | _, _ => true

/-- The range of a row (R490, R494), for a value of `size` bytes. -/
def Chk.ok (size : Nat) : Chk → Nat → Bool
  | .any, _ => true
  | .rng lo hi, v => decide (lo ≤ v ∧ v ≤ hi)
  | .srng lo hi, v => decide (lo ≤ signed (8 * size) v ∧ signed (8 * size) v ≤ hi)
  | .rngOr lo hi x, v => decide (lo ≤ v ∧ v ≤ hi) || v == x
  | .codes l, v => l.contains v
  | .special, _ => true

/-- A value keeps its row's type and range. -/
def Row.valueOk (r : Row) (v : Nat) : Bool := r.ty.ok v && r.chk.ok r.ty.size v

/-! ### Checks of the owning chapters -/

/-- OK where a test holds, RANGE otherwise. -/
def need (b : Bool) : Nat := if b then stOk else stRange

/-- A source of a meter channel (13 R424). -/
def meterCode (v : Nat) : Bool :=
  decide (v ≤ 3) || decide (16 ≤ v ∧ v ≤ 28) || decide (32 ≤ v ∧ v ≤ 44) || decide (48 ≤ v ∧ v ≤ 55) || decide (64 ≤ v ∧ v ≤ 76)

/-- An address in the 20-byte format of PIDs 0404h and 311Fh: type 0, 4 or 6, address, prefix length, two zero bytes. -/
def addressOk (v : Nat) : Bool :=
  let ty := byteAt 20 v 0
  (ty == 0 || (ty == 4 && decide (byteAt 20 v 17 ≤ 32)) || (ty == 6 && decide (byteAt 20 v 17 ≤ 128))) && bytesAt 20 v 18 19 == 0

/-- A source byte of a key profile (05 R149). -/
def sourceByteOk (b : Nat) : Bool := b == 0xFF || (field b 6 5 == 0 && (!b.testBit 7 || !b.testBit 4))

/-- The width of the field that a code names (05 R145). -/
def codeWidth (code : Nat) : Nat := ((fieldCode code).map (fun x => x.1 + 1 - x.2)).getD 0

/-- A write of an action word: a field code below 16, and a value within the field (05 R153). -/
def writeOk (code value : Nat) : Bool := decide (code < 16) && (code == 0 || decide (value < 2 ^ codeWidth code))

/-- What a SET of an action word is checked for (05 R153). -/
def actionOk (a : Nat) : Bool := writeOk (field a 57 53) (field a 52 29) && writeOk (field a 28 24) (field a 23 0)

/-- A parse node record (05 R136, R138). -/
def nodeOk (v : Nat) : Bool := byteAt 48 v 0 % 128 == 0 && decide (byteAt 48 v 1 < 14) && byteAt 48 v 35 == 0

/-- The shape of an attachment record (10 R297): bits that must be zero, `w` parent bits, and the direct bit where there is one. -/
def attachShape (w : Nat) (v : Nat) : Bool :=
  let direct := v.testBit 15
  let port := field v 31 24
  if port = 0xFF then v == 0xFF000000
  else decide (port < 148) && field v 23 19 == 0 && v / 2 ^ w % 2 ^ (15 - w) == 0 &&
    (if w = 0 then !direct else !direct || v % 2 ^ w == 0)

/-- The parent that an attachment record names, by its PID: a node PID and index; none for a class. -/
def attachParent (pid v : Nat) : Option (Nat × Nat) :=
  if field v 31 24 = 0xFF ∨ v.testBit 15 = true then none
  else match pid with
    | 0x2000 => some (0x2004, v % 4096)
    | 0x2004 => some (0x200B, v % 1024)
    | _ => none

/-- An attachment record agrees with its parent (10 R297). -/
def State.attachOk (s : State) (pid v : Nat) : Bool :=
  attachShape (match pid with | 0x2000 => 12 | 0x2004 => 10 | _ => 0) v &&
    (match attachParent pid v with
     | some (q, n) =>
       let a := s.rd q n
       field a 31 24 != 0xFF && field a 31 24 == field v 31 24 && field a 18 16 == field v 18 16
     | none => true)

/-- The key of a node in the scheduler, by its attachment PID. -/
def nodeElem (pid n : Nat) : Nat := elem (if pid = 0x2004 then 1 else 2) n

/-- A node has attached children. -/
def State.hasChildren (s : State) (pid n : Nat) : Bool :=
  s.anyEntry (if pid = 0x2004 then 0x2000 else 0x2004) (fun _ v =>
    attachParent (if pid = 0x2004 then 0x2000 else 0x2004) v == some (pid, n))

/-- A change of attachment must wait (10 R300). -/
def State.attachBusy (s : State) (pid n v : Nat) : Bool :=
  v != s.rd pid n &&
    (if pid = 0x2000 then s.flag 0x1A07 n || !(s.pa.queue n).isEmpty || !(s.pb.queue n).isEmpty
     else s.beneath 0 (nodeElem pid n) || s.beneath 1 (nodeElem pid n) || (v == 0xFF000000 && s.hasChildren pid n))

/-- The status of a SET of PIDs 2000h, 2004h and 200Bh (10 R297, R298, R300). -/
def State.attachStatus (s : State) (pid n v : Nat) : Nat :=
  if pid = 0x2000 ∧ n < 1184 then stReadOnly
  else if s.attachOk pid v = false then stRange
  else if s.attachBusy pid n v then stBusy
  else stOk

/-- Instances of an owner PID, other than one, that tenant `t` owns. -/
def State.owned (s : State) (pid inst t : Nat) : Nat := countOf (s.valuesOf pid) (fun e => e.2 == t && e.1 != inst)

/-- Whether an owner may be set, within the tenant's quota (04 R121, 10 R301). -/
def State.quotaOk (s : State) (pid quota inst v : Nat) : Bool := decide (16 ≤ v) || decide (s.owned pid inst v < s.rd quota v)

/-- S stays at 0 or more, and K at the sum of the shares, those that swaps under way bring
included, or more (07 R227; 09 R282, R292). -/
def State.poolsOk (s : State) : Bool := decide (0 ≤ s.sBudget) && decide (s.sharesDue 144 ≤ s.rd 0x180D 0)

/-- A generation stream record of port group `g` (11 R353). -/
def streamOk (g v : Nat) : Bool :=
  groupOf (byteAt 16 v 0) == g && byteAt 16 v 1 % 32 == 0 && decide (bytesAt 16 v 2 3 < 4096) &&
    decide (byteAt 16 v 10 < 144) && decide (byteAt 16 v 11 < 144) && groupOf (byteAt 16 v 10) != groupOf (byteAt 16 v 11) && v % 2 ^ 32 == 0

/-- A recovery identification entry of port group `g` (11 R355). -/
def identificationOk (g v : Nat) : Bool :=
  v == 0 || (groupOf (byteAt 8 v 0) == g && byteAt 8 v 1 % 64 == 0 && decide (bytesAt 8 v 2 3 < 4096) &&
    decide (bytesAt 8 v 4 5 < 1024) && bytesAt 8 v 6 7 == 0)

/-- A recovery function (11 R356). -/
def recoveryOk (v : Nat) : Bool :=
  v == 0 || (decide (byteAt 8 v 0 < 144) && byteAt 8 v 1 % 64 == 0 && decide (2 ≤ byteAt 8 v 2 ∧ byteAt 8 v 2 ≤ 64) &&
    byteAt 8 v 3 == 0 && bytesAt 8 v 4 5 != 0 && bytesAt 8 v 6 7 == 0)

/-- A period and a pulse width of a timed output (12 R404). -/
def pulseOk (period width : Nat) : Bool :=
  decide (100 ≤ period) && 1000000000 % period == 0 && decide (10 ≤ width ∧ width + 10 ≤ period)

/-- The status of the checks of groups 02h to 0Ah. -/
def State.lowStatus (s : State) (pid inst v : Nat) : Nat :=
  match pid with
  | 0x0217 => need (decide (v + 5 ≤ s.rd 0x0218 0))
  | 0x0218 => need (decide (s.rd 0x0217 0 + 5 ≤ v))
  | 0x0220 => need (meterCode v)
  | 0x0221 => need (meterCode v)
  | 0x0228 => if v = 2 ∧ s.blockInUse inst = true then stInterlock else stOk
  | 0x0401 => need (decide (byteAt 12 v 4 ≤ 32) && bytesAt 12 v 5 7 == 0)
  | 0x0403 => need (decide (byteAt 36 v 16 ≤ 128) && bytesAt 36 v 17 19 == 0)
  | 0x0404 => need (addressOk v)
  | 0x0801 => need (speedFecOk inst v (s.rd 0x0802 inst))
  | 0x0802 => need (speedFecOk inst (s.rd 0x0801 inst) v)
  | 0x0830 => need (v == 0 || s.rd 0x0832 inst == 0)
  | 0x0831 => need (v == 0 || s.rd 0x0832 inst == 0)
  | 0x0832 => need (decide ((bitsOf 8 v).length ≤ 4) && (v == 0 || (!s.flag 0x0830 inst && !s.flag 0x0831 inst)))
  | 0x0838 => need ((s.wr pid inst v).poolsOk)
  | 0x083A => need (v == 0 || !s.flag 0x2200 inst)
  | 0x0918 => need ((List.range 16).all (fun k => field v (2 * k + 1) (2 * k) != 3))
  | 0x0A08 => need (decide (v ≤ 2))
  | 0x0A09 => need (decide (v ≤ 2))
  | 0x0A0A => need (decide (v ≤ 2))
  | 0x0A0B => need (s.quotaOk 0x0A0B 0x0A1A inst v)
  | _ => stOk

/-- The status of the checks of group 10h. -/
def bedStatus (pid inst v : Nat) : Nat :=
  match pid with
  | 0x1000 => need (nodeOk v)
  | 0x1018 => need (field v 14 11 == 0 && field v 7 5 == 0 && field v 3 2 == 0)
  | 0x1019 => need ((List.range 40).all (fun k => sourceByteOk (byteAt 40 v k)))
  | 0x101B => need (actionOk v && codeWritable (field v 57 53) (inst / 2) && codeWritable (field v 28 24) (inst / 2) &&
      (!v.testBit 58 || decide (2 ≤ inst / 2)))
  | 0x101E => need (field v 14 12 == 0)
  | 0x1025 => need (actionOk v)
  | _ => need (!(decide (0x1008 ≤ pid) && decide (pid ≤ 0x100D)) || decide (v ≤ 2))

/-- The PIDs that the budget of a plane's tiles depends on (07 R227). -/
def budgetPids : List Nat := [0x1805, 0x1807, 0x180D, 0x1811, 0x1812, 0x1813, 0x1815]

/-- The status of the checks of groups 18h to 35h. -/
def State.highStatus (s : State) (pid inst v : Nat) : Nat :=
  match pid with
  | 0x1C01 => need (decide (s.rd 0x1C02 inst < v))
  | 0x1C02 => need (decide (v < s.rd 0x1C01 inst))
  | 0x1C05 => need (courseRecordOk (inst % 64) v)
  | 0x2000 => s.attachStatus pid inst v
  | 0x2004 => s.attachStatus pid inst v
  | 0x200B => s.attachStatus pid inst v
  | 0x2008 => need (s.quotaOk 0x2008 0x2018 inst v)
  | 0x200F => need (s.quotaOk 0x200F 0x2019 inst v)
  | 0x282C => need (streamOk (inst / 256) v)
  | 0x2830 => need (identificationOk (inst / 256) v)
  | 0x2832 => need (recoveryOk v)
  | 0x3102 => need (if s.rd 0x3101 0 = 0 then decide (24 ≤ v ∧ v ≤ 43) else decide (44 ≤ v ∧ v ≤ 63))
  | 0x311E => need ((byteAt 20 v 0 == 0 || byteAt 20 v 0 == 4 || byteAt 20 v 0 == 6) && bytesAt 20 v 17 19 == 0)
  | 0x311F => need (addressOk v)
  | 0x3205 => need (v == 0xFFFF || field v 7 4 == 0)
  | 0x3402 => need (byteAt 4 v 3 == 0 && (List.range 3).all (fun k => decide (1 ≤ byteAt 4 v k ∧ byteAt 4 v k ≤ 3)))
  | 0x3502 => need (pulseOk v (s.rd 0x3503 inst))
  | 0x3503 => need (pulseOk (s.rd 0x3502 inst) v)
  | 0x3507 => need (decide (v ≤ 2))
  | _ => if budgetPids.contains pid then need ((s.wr pid inst v).poolsOk) else stOk

/-- The status of the owning chapter's checks of a SET (14 R445, last step). -/
def State.ownerStatus (s : State) (pid inst v : Nat) : Nat :=
  if pid / 256 ≤ 0x0A then s.lowStatus pid inst v
  else if pid / 256 = 0x10 then bedStatus pid inst v
  else s.highStatus pid inst v

/-! ### Effects -/

/-- A status as the outcome of a SET. -/
def withStatus (x : State × Nat) : State × Verdict := (x.1, .done x.2 [])

/-- A command that cannot be refused. -/
def State.ok (s : State) : State × Verdict := (s, .done stOk [])

/-- SCRUB_REQUEST (07 R239, R244): both planes that are on, and the controllers' pools. -/
def State.scrubAll (s : State) : State :=
  let s := [0, 1].foldl (fun s p => if s.isOn (domPlane p) then s.startScrub p else s) s
  (s.scrubBuffers 0).scrubBuffers 1

/-- A write of a command parameter (16 R493 WO), its value checked. -/
def State.command (s : State) (pid inst v : Nat) (w : Who) : State × Verdict :=
  match pid with
  | 0x0107 => if v = 1 then s.ok else s.resetStandby
  | 0x010D => s.domainControl inst v (some w)
  | 0x0813 => (s.swapOrWait inst .request).ok
  | 0x0A1E => (bucketReset inst s).ok
  | 0x1032 => withStatus (s.cancelSlot inst)
  | 0x143E => (filterRebuild s).ok
  | 0x1824 => s.scrubAll.ok
  | 0x1A08 => (queueFlush inst s).ok
  | 0x1C06 => withStatus (let (s, ok) := s.requestSwap inst; (s, need ok))
  | 0x2205 => withStatus (let (s, ok) := s.requestGates inst; (s, need ok))
  | 0x240C => (clearSlot inst s).ok
  | 0x282E => (s.wr 0x282D inst 0).ok
  | 0x2833 => (s.resetRecovery inst).ok
  | 0x3010 => s.manualStep (signed 64 v)
  | 0x3011 => s.manualRate (signed 64 v)
  | 0x340E => s.resetModel.ok
  | 0x3511 => (s.clearCaptures inst).ok
  | 0x3807 => s.channelCommand inst v
  | 0x3C2D => ({ s with snaps := s.snaps ++ [⟨s.rc + 800, 0x3C2D, 0, 0, true, w⟩] }, .later)
  | 0x3E0D => ((s.clearFaults (2 ^ 256 - 1)).1).ok
  | _ => s.ok

/-- A port's test mode is set (PID 080Bh): an enabled port leaves service and trains or tests anew. -/
def State.setTest (s : State) (i v : Nat) : State :=
  if s.rd 0x080B i = v then s
  else if s.flag 0x0800 i then ((s.wr 0x080B i v).darken i 1).light i
  else s.wr 0x080B i v

/-- A gate is no longer forced closed (13 R426): the parameters held for its block are loaded into it. -/
def State.openGate (s : State) (n : Nat) : State :=
  let d := n / 16
  if n % 16 = 5 then
    ((List.range 18).map (fun k => 18 * (d - 2) + k)).foldl (fun s i =>
      if s.rd 0x080B i ≠ 0 ∧ s.flag 0x0800 i = true then (s.darken i 1).light i else s) s
  else if n % 16 = 7 then ((List.range 8).map (fun k => 8 * (d - 10) + k)).foldl State.startMeter s
  else s

/-- A gate's control is set (PID 0228h). -/
def State.setGateControl (s : State) (n v : Nat) : State :=
  let t := s.wr 0x0228 n v
  if s.rd 0x0228 n = 2 ∧ v ≠ 2 ∧ gateExists n = true then t.openGate n else t

/-- A gate list is enabled or disabled (10 R317): RANGE where the request it makes fails. -/
def State.setGates (s : State) (e v : Nat) : State × Nat :=
  if v = 0 then (s.disableGates e, stOk)
  else if s.flag 0x2200 e then (s, stOk)
  else
    let s := s.enableGates e
    (s, need (s.flag 0x2200 e))

/-- Coursing is enabled or disabled on a port (09 R282, R292). -/
def State.setCoursing (s : State) (i v : Nat) : State × Nat :=
  if v = 0 then (s.disableCoursing i, stOk)
  else match s.enableCoursing i with
    | some s => (s, stOk)
    | none => (s, stRange)

/-- What follows a value that has been written: a function that depends on it is run again. -/
def State.after (s : State) (pid inst v : Nat) : State :=
  match pid with
  | 0x0831 => s.dropXoff inst
  | 0x0832 => s.dropXoff inst
  | 0x0309 => { s with swapDay := s.utcDay }
  | 0x030A => { s with swapDay := s.utcDay }
  | 0x0220 => s.startMeter inst
  | 0x0221 => s.startMeter inst
  | 0x0222 => s.startMeter inst
  | 0x0223 => s.startMeter inst
  | 0x1437 => (s.banks.map Prod.fst).foldl State.checkBanks s
  | 0x180D => s.settleShorts
  | 0x1C10 => s.settleShorts
  | 0x2000 => s.inc 0x201F 0
  | 0x2004 => s.inc 0x201F 0
  | 0x200B => s.inc 0x201F 0
  | 0x2832 => if (byteAt 8 v 1).testBit 7 then s else { s with recovery := Tab.del s.recovery inst }
  | 0x2405 => clearSlot inst s
  | 0x2406 => clearSlot inst s
  | 0x300A => s.refreshUtc
  | 0x3300 => if v = 0 then (((s.wr 0x3306 0 0).updGnss (fun q => { q with since := none })).updServo (fun q => { q with utcGnss := none })).refreshUtc.disqualify 1 false
    else s
  | 0x340F => if v = 0 then s.wr 0x3214 0 0 else s
  | 0x3402 => if s.servoRuns then s.reselect else s
  | 0x3515 => if v = 0 then (s.wr 0x3516 0 0).disqualify 3 false else if s.rd 0x3516 0 = 0 then s.wr 0x3516 0 1 else s
  | _ =>
    if (0x3100 ≤ pid ∧ pid ≤ 0x3105 ∧ pid ≠ 0x3103) ∨ (0x3107 ≤ pid ∧ pid ≤ 0x310A) then s.runBmca
    else if 0x0A00 ≤ pid ∧ pid ≤ 0x0A0B then s.stamp 0x0A1D inst
    else s

/-- A parameter takes a value that its checks have passed: the state, and the status where the function behind it refuses. -/
def State.put (s : State) (pid inst v : Nat) : State × Nat :=
  match pid with
  | 0x0800 => (if v = 1 then s.enablePort inst else if s.flag 0x0800 inst then s.disablePort inst else s, stOk)
  | 0x0801 => (s.retrain inst v (s.rd 0x0802 inst), stOk)
  | 0x0802 => (s.retrain inst (s.rd 0x0801 inst) v, stOk)
  | 0x0228 => (s.setGateControl inst v, stOk)
  | 0x080B => (s.setTest inst v, stOk)
  | 0x0A02 => (((s.keepTokens inst).wr pid inst v).after pid inst v, stOk)
  | 0x0A04 => (((s.keepTokens inst).wr pid inst v).after pid inst v, stOk)
  | 0x1403 => ([0, 1].foldl (fun t p => t.watchSlots p (decide (s.rd pid 0 < slotsUsed (s.pl p).store))) (s.wr pid 0 v), stOk)
  | 0x1414 => s.setStatic inst v
  | 0x1420 => s.nextHopSet inst v
  | 0x1422 => s.ecmpSet inst v
  | 0x1424 => s.rewriteSet inst v
  | 0x1C00 => s.setCoursing inst v
  | 0x2200 => s.setGates inst v
  | 0x3806 => (s.pauseChannel inst (v == 1), stOk)
  | _ => ((s.wr pid inst v).after pid inst v, stOk)

end Sys2Proof.Machine
end

