-- ==== Sys2Proof/Machine/Firmware.lean ====
section
/-! DEFINITION. Staging and activating firmware (14 R458 to R460). -/

namespace Sys2Proof.Machine

/-- Changes the firmware operations. -/
def State.updFw (s : State) (f : Firmware → Firmware) : State := { s with fw := f s.fw }

/-- The bank a controller runs, and the other one. -/
def State.runningBank (s : State) (c : Nat) : Nat := s.rd 0x0007 c % 2
def State.idleBank (s : State) (c : Nat) : Nat := 1 - s.runningBank c

/-! ### FW_STAGE (R458, R459) -/

/-- Bytes a to b of an image, as a number. -/
def imageField (img : List Byte) (a b : Nat) : Nat := getBE img a (b + 1 - a)

/-- The first check of R459 that an image fails, but for the write of the banks. -/
def State.imageReason (s : State) (img : List Byte) : Option Nat :=
  let len := imageField img 8 11
  if imageField img 0 3 ≠ 0x5059524D ∨ 67108864 < len ∨ img.length ≠ 192 + len ∨ imageField img 7 7 ≠ 0 ∨ imageField img 15 15 ≠ 0 ∨
      imageField img 112 127 ≠ 0 then some 1
  else if !(((img.drop 16).take 24).map BitVec.toNat).contains (s.rd 0x0001 0) then some 2
  else if imageField img 4 7 < s.rd 0x001F 0 then some 3
  else if sha256 ((img.drop 128).take len) ≠ imageField img 48 79 then some 4
  else if Config.imageSigned (beNat img) = false then some 5
  else none

/-- Gives both inactive banks a state and a version. -/
def State.setBanks (s : State) (st version : Nat) : State :=
  [0, 1].foldl (fun s c =>
    let i := 2 * c + s.idleBank c
    (s.wr 0x0009 i st).wr 0x0006 i version) s

/-- A stage is refused with a reason (R459, R462). -/
def State.stageRefused (s : State) (reason : Nat) : State :=
  ((s.wr 0x000A 0 4).wr 0x000D 0 (stStage * 256 + reason)).fault 208 moduleInst

/-- The image is complete: it is checked, and written to both inactive banks. -/
def State.checkImage (s : State) (flashOk : Bool) : State × Nat × List Byte :=
  let img := s.fw.image
  let s := s.updFw (fun q => { q with image := [], stager := none })
  match s.imageReason img with
  | some n => (s.stageRefused n, stStage, toBytes 1 n)
  | none =>
    if flashOk then
      let version := imageField img 4 7
      let s := (s.setBanks 2 version).updFw (fun q => { q with header := img.take 128 })
      let s := ((s.wr 0x000A 0 3).wr 0x000B 0 version).wr 0x000D 0 0
      (s.wr 0x0012 0 (imageField img 16 39), stOk, [])
    else ((((s.setBanks 3 0).updFw (fun q => { q with header := [] })).stageRefused 6), stStage, toBytes 1 6)

/-- A fragment of the image arrives: collected, and after the last one checked. -/
def State.stageFragment (s : State) (bs : List Byte) (last flashOk : Bool) : State × Option (Nat × List Byte) :=
  let s := (s.updFw (fun q => { q with image := q.image ++ bs }))
  let s := s.wr 0x000C 0 s.fw.image.length
  if last then
    let (s, st, p) := s.checkImage flashOk
    (s, some (st, p))
  else (s, none)

/-- FW_STAGE starts with what has arrived of it. -/
def State.fwStage (s : State) (w : Who) (bs : List Byte) (last flashOk : Bool) : State × Verdict :=
  if s.fw.stager.isSome = true ∨ s.fw.step ≠ 0 then (s, .refuse stBusy)
  else if s.standbyReady = false then (s, .refuse stInterlock)
  else
    let s := (s.updFw (fun q => { q with image := [], stager := some w })).wr 0x000A 0 1
    match s.stageFragment bs last flashOk with
    | (s, some (st, p)) => (s, .done st p)
    | (s, none) => (s, .later)

/-- A stage that is still receiving ends without a check (R455): no bank changes. -/
def State.dropStage (s : State) : State :=
  if s.fw.stager.isSome then (s.updFw (fun q => { q with image := [], stager := none })).wr 0x000A 0 (if s.fw.header.isEmpty then 0 else 3) else s

/-! ### FW_ACTIVATE (R460) -/

/-- An image is staged in both inactive banks. -/
def State.isStaged (s : State) : Bool := !s.fw.header.isEmpty && [0, 1].all (fun c => s.rd 0x0009 (2 * c + s.idleBank c) == 2)

/-- The data-path identifier of the staged image, and whether it differs from the running one. -/
def State.stagedPath (s : State) : Nat := getBE s.fw.header 40 8
def State.pathDiffers (s : State) : Bool := s.stagedPath != s.fw.dataPath

/-- A controller boots the other bank than the one it runs. -/
def State.bootOther (s : State) (c : Nat) : State := (s.wr 0x0008 c (s.idleBank c)).reboot c

/-- Step 1 or 3 of R460: a controller boots the staged bank, and must be standby-ready within 300 s. -/
def State.bootStaged (s : State) (c step : Nat) : State :=
  ((s.bootOther c).wr 0x000E 0 step).updFw (fun q => { q with step := step, standby := c, stepAt := s.clk })

/-- FW_ACTIVATE, its flags checked. -/
def State.fwActivate (s : State) (w : Who) (flags : Nat) : State × Verdict :=
  if s.isStaged = false ∨ (s.pathDiffers = true ∧ flags = 0) ∨ s.standbyReady = false ∨ s.rd 0x103E 0 ≠ 0 ∨ s.reseed.isSome = true ∨
      s.fw.step ≠ 0 then (s, .refuse stInterlock)
  else
    let s := s.updFw (fun q => { q with who := some w, since := s.clk })
    (s.bootStaged s.standby 1, .accepted)

/-- The activation is complete (R460): outcome and count, and the rollback floor. -/
def State.activated (s : State) : State :=
  let s := [0, 1].foldl (fun s c => s.wr 0x0009 (2 * c + s.runningBank c) 1) s
  let s := ((s.wr 0x000F 0 0).inc 0x0010 0).high 0x001F 0 (getBE s.fw.header 12 4)
  let path := s.stagedPath
  s.updFw (fun q => { q with step := 0, who := none, header := [], dataPath := path })

/-- Steps 4 and 5: a module reset of cause 2, or the completion event with the version and the duration in s. -/
def State.finishActivation (s : State) : State :=
  let w := s.fw.who
  let n := (s.clk - s.fw.since) / ticksPerSec
  let reset := s.pathDiffers
  let s := s.activated
  if reset then s.restart false 2
  else (s.wr 0x000E 0 0).owe w stOk (toBytes 4 (s.rd 0x0006 (2 * s.active + s.runningBank s.active)) ++ toBytes 4 n)

/-- ACTIVATION_STANDBY_READY (R460): steps 1 and 3 end; the swap of step 2 waits while R352 bars it. -/
def activationStandbyReady (s : State) : State :=
  let c := s.fw.standby
  if (s.ctlState c = 4 ∨ (s.ctlState c = 5 ∧ s.fw.step = 3)) ∧ s.rd 0x0007 c = s.rd 0x0008 c then
    match s.fw.step with
    | 1 => if s.swapBarred then s else ((s.wr 0x000E 0 2).updFw (fun q => { q with step := 2 })).beginSwap 4 none
    | 3 => s.finishActivation
    | _ => s
  else s

/-- The activation is reverted (R460): its outcome, count, fault and completion event. -/
def State.revert (s : State) : State :=
  let c := s.fw.standby
  let reason := if s.fw.step = 1 then 7 else 8
  let w := s.fw.who
  let s := (((s.wr 0x000E 0 5).wr 0x000F 0 (stStage * 256 + reason)).inc 0x0011 0).fault 209 c
  (s.updFw (fun q => { q with step := 0, who := none })).owe w stStage (toBytes 1 reason)

/-- ACTIVATION_TIMEOUT (R460): the controller boots its previous bank, and the activation is reverted. -/
def activationTimeout (s : State) : State :=
  let c := s.fw.standby
  let step := s.fw.step
  if (step = 1 ∨ step = 3) ∧ s.fw.stepAt + 300 * ticksPerSec ≤ s.clk ∧ s.ctlState c ≠ 4 ∧ s.ctlState c ≠ 5 then
    ((s.wr 0x0008 c (1 - s.rd 0x0008 c % 2)).reboot c).revert
  else s

end Sys2Proof.Machine
end

