-- ==== Sys2Proof/Machine/Requests.lean ====
section
/-! DEFINITION. What each request of the mailbox does once its order lets it start (14 R445, R450 to R454, with the rules of the
owning chapters). -/

namespace Sys2Proof.Machine

/-- The requester. -/
def State.whoOf (s : State) (k : Nat) (r : Request) : Who := ⟨k, (s.session k).gen, r.tag⟩

/-- Opcodes whose header names a parameter (R441). -/
def namesPid (op : Nat) : Bool := [0x01, 0x02, 0x03, 0x07, 0x20].contains op

/-- Opcodes that read a parameter. -/
def readsPid (op : Nat) : Bool := [0x01, 0x03, 0x07].contains op

/-- Table commands (R444). -/
def isTable (op : Nat) : Bool := decide (0x10 ≤ op ∧ op ≤ 0x16)

/-- A change of stored or bundle state must wait for a ready standby (11 R350); Sill hold does not at Sill (03 R68). -/
def State.mirrorBars (s : State) : Bool := !s.standbyReady && s.rd 0x0313 0 == 0

/-! ### Checks before the payload (R445, steps 3 to 6) -/

/-- At Sill, the requests that are carried out (03 R68). -/
def atSill (role : Nat) (r : Request) : Bool :=
  [0x01, 0x03, 0x7F, 0x21, 0x20, 0x07, 0x08].contains r.op || (r.op == 0x02 && r.pid == 0x0108 && role == roleSite)

/-- The status of an instance that a session reads: BAD_INSTANCE, AUTH or OK (R440; 05 R143). -/
def State.scopeStatus (s : State) (role pid inst : Nat) : Nat :=
  if pid = 0x1006 then
    match roleTenant role with
    | some n => if byteAt 16 (s.rd pid inst) 11 = n then stOk else stBadInstance
    | none => if s.mayRead role pid inst then stOk else stAuth
  else if s.mayRead role pid inst then stOk
  else stAuth

/-- PID and instance (steps 4 and 5). -/
def pidStatus (r : Request) : Nat :=
  if namesPid r.op then
    match Catalogue.row? r.pid with
    | none => stBadPid
    | some row =>
      if row.acc = .wo ∧ readsPid r.op = true then stBadPid
      else if row.sel.has r.inst = false ∨ (r.pid = 0x010D ∧ 10 ≤ r.inst) then stBadInstance
      else stOk
  else if (r.op = 0x10 ∨ r.op = 0x11 ∨ r.op = 0x16) ∧ 2 < r.inst then stBadInstance
  else if r.op = 0x40 ∧ 16 < r.inst then stBadInstance
  else if r.op = 0x41 ∧ r.inst ≠ 0 then stBadInstance
  else stOk

/-- Role and scope of the first instance (step 6). -/
def State.roleStatus (s : State) (x : Session) (r : Request) : Nat :=
  if (roleOpcodes x.role).contains r.op = false then stAuth
  else if x.enrol = .given ∧ r.op ≠ 0x01 ∧ r.op ≠ 0x03 ∧ ¬(r.op = 0x02 ∧ r.pid / 256 = 0x04) then stAuth
  else if r.op = 0x02 then (if s.mayWrite x.role r.pid r.inst (beNat r.data) then stOk else stAuth)
  else if namesPid r.op then s.scopeStatus x.role r.pid r.inst
  else stOk

/-- The first status of steps 3 to 6. -/
def State.precheck (s : State) (x : Session) (r : Request) : Nat :=
  if s.rd 0x0100 0 = 1 ∧ atSill x.role r = false then stBusy
  else if pidStatus r ≠ stOk then pidStatus r
  else s.roleStatus x r

/-! ### GET and GET_RANGE (R450; 16 R491, R492) -/

/-- Reads a value for a host; the unmetered-interval records are given once (18 R541). -/
def State.readFor (s : State) (pid inst : Nat) : State × Nat :=
  let (s, v) := s.read pid inst
  (if pid = 0x4017 then { s with bay := { s.bay with unread := s.bay.unread.filter (fun n => n != inst) } } else s, v)

/-- Why an instance cannot be read now: its domain is not on, or its block is behind a closed gate, which counts (13 R426). -/
def State.heldStatus (s : State) (row : Row) (pid inst : Nat) : State × Nat :=
  if s.readable row inst = false then (s, stInterlock)
  else match s.gated row pid inst with
    | some n => (s.inc 0x022B n, stGated)
    | none => (s, stOk)

/-- GET. -/
def State.doGet (s : State) (r : Request) : State × Verdict :=
  match Catalogue.row? r.pid with
  | some row =>
    if r.data ≠ [] then (s, .refuse stRange)
    else match s.heldStatus row r.pid r.inst with
      | (s, 0) => let (s, v) := s.readFor r.pid r.inst; (s, .done stOk (toBytes row.ty.size v))
      | (s, st) => (s, .refuse st)
  | none => (s, .refuse stBadPid)

/-- The values of a range, up to the first instance that fails a check, and its status. -/
def State.getRange (s : State) (role pid : Nat) (row : Row) : Nat → Nat → State × Nat × List Byte
  | _, 0 => (s, stOk, [])
  | i, n + 1 =>
    if row.sel.has i = false then (s, stBadInstance, [])
    else if s.scopeStatus role pid i ≠ stOk then (s, s.scopeStatus role pid i, [])
    else match s.heldStatus row pid i with
      | (s, 0) =>
        let (s, v) := s.readFor pid i
        let (s, st, l) := s.getRange role pid row (i + 1) n
        (s, st, toBytes row.ty.size v ++ l)
      | (s, st) => (s, st, [])

/-- GET_RANGE. -/
def State.doGetRange (s : State) (x : Session) (r : Request) : State × Verdict :=
  match Catalogue.row? r.pid with
  | some row =>
    let n := beNat r.data
    if r.data.length = 4 ∧ 1 ≤ n ∧ n ≤ 65536 then
      let (s, st, l) := s.getRange x.role r.pid row r.inst n
      (s, .done st l)
    else (s, .refuse stRange)
  | none => (s, .refuse stBadPid)

/-! ### SET (R450; 05 R155, R164; 16 R493 to R502) -/

/-- A SET whose flash write failed leaves everything as it was (16 R499). -/
def State.flashFailed (s : State) : State × Verdict := (s, .refuse stInternal)

/-- A stored value is set in the module and in the flash of both controllers (16 R498 to R500). -/
def State.setStored (s : State) (r : Request) (v : Nat) : State × Verdict :=
  if s.mirrorBars = true ∧ ¬(s.rd 0x0100 0 = 1 ∧ r.pid = 0x0108) then (s, .refuse stBusy)
  else if r.flashOk = false then s.flashFailed
  else
    match s.put r.pid r.inst v with
    | (s, 0) => (s.store r.pid r.inst v, .done stOk [])
    | (s, st) => (s, .refuse st)

/-- PIDs 101Dh to 101Fh: a commit of one parameter, with the token of R164. -/
def State.setCommitted (s : State) (k : Nat) (r : Request) (v : Nat) : State × Verdict :=
  if s.mirrorBars then (s, .refuse stBusy)
  else if r.flashOk = false then s.flashFailed
  else
    let key := regKey r.pid r.inst
    match s.beginCommit (.single key v (s.whoOf k r)) (0xF0000000 + (k % 4) * 256 + r.tag) [(key, v)] none with
    | (s, 0) => (s.advanceCommit, .later)
    | (s, st) => (s, .refuse st)

/-- A SET of a bundle parameter is held in the session's open bundle (05 R155). -/
def State.setBundle (s : State) (k : Nat) (r : Request) (v : Nat) : State × Verdict :=
  let b := ((s.session k).bundle).getD []
  let key := regKey r.pid r.inst
  if (Tab.find? b key).isNone ∧ 65536 ≤ b.length then (s, .refuse stBusy)
  else (s.updSession k (fun x => { x with bundle := some (Tab.set b key v) }), .done stOk [])

/-- A SET whose value has passed its checks. -/
def State.setValue (s : State) (k : Nat) (r : Request) (row : Row) (v : Nat) : State × Verdict :=
  if row.cls = .bundle then s.setBundle k r v
  else if row.acc = .wo then s.command r.pid r.inst v (s.whoOf k r)
  else if row.acc = .w1c then (s.wr r.pid r.inst (s.rd r.pid r.inst &&& (2 ^ Catalogue.width r.pid - 1 - v)), .done stOk [])
  else if 0x101D ≤ r.pid ∧ r.pid ≤ 0x101F then s.setCommitted k r v
  else if row.cls = .stored ∨ row.cls = .anchor then s.setStored r v
  else match s.put r.pid r.inst v with
    | (s, 0) => (s, .done stOk [])
    | (s, st) => (s, .refuse st)

/-- A tenant's value above its cap counts, and is refused (04 R121; 10 R301). -/
def State.overCap (s : State) (role pid v : Nat) : Option State :=
  match roleTenant role, tenantCap pid with
  | some n, some (cap, count) => if s.rd cap n < v then some (s.inc count n) else none
  | _, _ => none

/-- SET: access, payload, range, gate, and the owner's checks (R445, steps 7 to 10). Gates asked to close start to (13 R427). -/
def State.doSet (s : State) (k : Nat) (x : Session) (r : Request) : State × Verdict :=
  match Catalogue.row? r.pid with
  | some row =>
    let v := beNat r.data
    if row.acc = .ro ∨ (r.pid = 0x2000 ∧ r.inst < 1184) then (s, .refuse stReadOnly)
    else if r.data.length ≠ row.ty.size ∨ row.valueOk v = false then (s, .refuse stRange)
    else match s.overCap x.role r.pid v with
      | some s => (s, .refuse stRange)
      | none =>
        match s.gated row r.pid r.inst with
        | some n => (s.inc 0x022B n, .refuse stGated)
        | none =>
          if s.ownerStatus r.pid r.inst v ≠ stOk then (s, .refuse (s.ownerStatus r.pid r.inst v))
          else
            let (t, d) := s.setValue k r row v
            (t.closeGates s, d)
  | none => (s, .refuse stBadPid)

/-! ### COMMIT and ABORT_BUNDLE (05 R155 to R157) -/

/-- The payload of COMMIT (R156). -/
def commitOk (d : List Byte) : Bool :=
  d.length == 24 && decide (getBE d 4 1 ≤ 1) && getBE d 5 3 == 0 && getBE d 22 2 == 0 && decide (getBE d 16 4 ≤ 999999999)

/-- COMMIT. -/
def State.doCommit (s : State) (k : Nat) (x : Session) (r : Request) : State × Verdict :=
  if commitOk r.data = false then (s, .refuse stRange)
  else if s.mirrorBars then (s, .refuse stBusy)
  else if r.flashOk = false then s.flashFailed
  else
    let instant := if getBE r.data 4 1 = 1 then none else some (decDT (getBE r.data 8 14))
    match s.beginCommit (.host (s.whoOf k r)) (getBE r.data 0 4) (x.bundle.getD []) instant with
    | (s, 0) => (s.advanceCommit, .later)
    | (s, st) => (s, .refuse st)

/-- ABORT_BUNDLE. -/
def State.doAbort (s : State) (k : Nat) (r : Request) : State × Verdict :=
  if r.data ≠ [] then (s, .refuse stRange) else (s.updSession k (fun x => { x with bundle := none }), .done stOk [])

/-! ### Subscriptions (R451 to R453) -/

/-- The value of an instance for a subscription: readable or not, and the value. -/
def State.subValue (s : State) (pid inst : Nat) : State × Nat × Nat :=
  match Catalogue.row? pid with
  | some row =>
    if s.readable row inst = true ∧ (s.gated row pid inst).isNone = true then
      let (s, v) := s.read pid inst
      (s, 1, v)
    else (s, 0, 0)
  | none => (s, 0, 0)

/-- The values of a run of instances. -/
def State.subValues (s : State) (pid inst : Nat) : Nat → State × List (Nat × Nat)
  | 0 => (s, [])
  | n + 1 =>
    let (s, v) := s.subValue pid inst
    let (s, l) := s.subValues pid (inst + 1) n
    (s, v :: l)

/-- Bit 0 resync, 1 overflow, 2 final. -/
def subPayload (seq flags dt : Nat) (size : Nat) (l : List (Nat × Nat)) : List Byte :=
  toBytes 4 seq ++ toBytes 1 flags ++ toBytes 3 0 ++ toBytes 14 dt ++ toBytes 2 0 ++ l.flatMap (fun e => toBytes 4 e.1 ++ toBytes size e.2)

/-- The instances of a subscription that can be read, with their values; `all`, or only those that changed. -/
def Sub.report (b : Sub) (all : Bool) : List (Nat × Nat) :=
  ((List.range b.count).zip b.vals).filterMap (fun e =>
    if e.2.1 = 1 ∧ (all = true ∨ b.changed.contains (b.inst + e.1) = true) then some (b.inst + e.1, e.2.2) else none)

/-- Queues an event of subscription `n` (R452, R453): in a full queue the events of the same subscription give way to one with the
overflow flag and every value. -/
def State.queueEvent (s : State) (k n flags : Nat) (all : Bool) : State :=
  let x := s.session k
  match Tab.find? x.subs n with
  | some b =>
    let full := decide (256 ≤ x.queue.length)
    let fl := if full then flags ||| 2 else flags
    let size := ((Catalogue.row? b.pid).map (fun r => r.ty.size)).getD 0
    let body := subPayload b.seq fl s.dtNow size (b.report (all || full))
    let m : Msg := ⟨k / 4, 0xE0, k % 4, n, 0x07, stOk, b.pid, b.inst, body⟩
    let q := if full then x.queue.filter (fun y => y.tag != n) else x.queue
    let s := s.updSession k (fun x => { x with
      queue := q ++ [m]
      subs := Tab.set x.subs n { b with seq := (b.seq + 1) % 2 ^ 32, changed := [], lastAt := s.clk } })
    if full then (s.inc 0x0415 (3 * (k % 4) + 2)).noteDrop 212 (k % 4) 400000000 else s
  | none => s

/-- Sends the queued events of a session that a test selects: the TLS stream takes them. -/
def State.sendQueued (s : State) (k : Nat) (f : Msg → Bool) : State :=
  let l := (s.session k).queue
  let s := s.updSession k (fun x => { x with queue := l.filter (fun m => !f m) })
  (l.filter f).foldl (fun s m => s.sendMsg k m.flags m.tag m.op m.status m.pid m.inst m.payload) s

/-- The payload of SUBSCRIBE (R451). -/
def subscribeOk (d : List Byte) : Bool :=
  let mode := getBE d 4 1
  let period := getBE d 8 4
  d.length == 16 && decide (1 ≤ getBE d 0 4 ∧ getBE d 0 4 ≤ 4096) && decide (mode ≤ 2) && getBE d 5 3 == 0 &&
    (mode == 0 || decide (100 ≤ period ∧ period ≤ 3600000)) && decide (getBE d 12 4 ≤ 60000)

/-- The first status among the instances of a range, for a session. -/
def State.rangeStatus (s : State) (role pid : Nat) (row : Row) : Nat → Nat → Nat
  | _, 0 => stOk
  | i, n + 1 =>
    if row.sel.has i = false then stBadInstance
    else if s.scopeStatus role pid i ≠ stOk then s.scopeStatus role pid i
    else s.rangeStatus role pid row (i + 1) n

/-- SUBSCRIBE (R451): the lowest free number; a first event follows the answer. -/
def State.doSubscribe (s : State) (k : Nat) (x : Session) (r : Request) : State × Verdict :=
  match Catalogue.row? r.pid, Tab.firstFree x.subs 0 64 with
  | some row, n? =>
    let n := getBE r.data 0 4
    let counted := r.data.length = 16 ∧ 1 ≤ n ∧ n ≤ 4096
    if counted ∧ s.rangeStatus x.role r.pid row r.inst n ≠ stOk then (s, .refuse (s.rangeStatus x.role r.pid row r.inst n))
    else if subscribeOk r.data = false then (s, .refuse stRange)
    else match n? with
      | some j =>
        let (s, vals) := s.subValues r.pid r.inst n
        let b : Sub := ⟨r.pid, r.inst, n, getBE r.data 4 1, getBE r.data 8 4, getBE r.data 12 4, 0, vals, [], s.clk⟩
        (s.updSession k (fun x => { x with subs := Tab.set x.subs j b }), .done stOk (toBytes 1 j))
      | none => (s, .refuse stBusy)
  | none, _ => (s, .refuse stBadPid)

/-- UNSUBSCRIBE (R452): its queued events go first. -/
def State.doUnsubscribe (s : State) (k : Nat) (x : Session) (r : Request) : State × Verdict :=
  let n := beNat r.data
  if r.data.length ≠ 1 ∨ 64 ≤ n then (s, .refuse stRange)
  else if (Tab.find? x.subs n).isNone then (s, .refuse stNotFound)
  else ((s.sendQueued k (fun m => m.tag == n)).updSession k (fun x => { x with subs := Tab.del x.subs n }), .done stOk [])

/-! ### Table commands (06 R208 to R212) -/

/-- A tenant's request names its own tenant (R208). -/
def ownTenant (role t : Nat) : Bool :=
  match roleTenant role with
  | some n => t == n
  | none => true

/-- The tenant filter of a request: FFh is every tenant of the session's scope (R209). -/
def tenantFilter (role t : Nat) : Option Nat :=
  match roleTenant role with
  | some n => if t = 0xFF ∨ t = n then some n else none
  | none => some t

/-- The filter of R209, in 8 bytes. -/
def filterOk (d : List Byte) : Bool := d.length == 8 && decide (getBE d 4 1 ≤ 6) && decide (getBE d 6 1 ≤ 3) && getBE d 7 1 == 0 &&
  (decide (getBE d 5 1 < 16) || getBE d 5 1 == 0xFF)

/-- A session has a bulk operation, or the module has two (R212). -/
def State.bulkBusy (s : State) (k : Nat) : Bool := s.bulks.any (fun b => b.who.key == k) || decide (2 ≤ s.bulks.length)

/-- A fragment of a bulk load arrives (R212): its whole records are inserted. -/
def State.bulkFragment (s : State) (b : Bulk) (bs : List Byte) (last : Bool) : State :=
  let all := b.rest ++ bs
  let (s, b') := s.bulkInsert { b with rest := [] } all
  let left := all.drop (48 * (all.length / 48))
  let b' := if last = true ∧ left ≠ [] then
      { b' with failed := b'.failed + 1, firstBad := if b'.failed = 0 then b'.index else b'.firstBad, rest := [] }
    else { b' with rest := left }
  { s with bulks := s.bulks.map (fun x => if x.who = b.who then { b' with finished := last } else x) }

/-- TBL_BULK_LOAD starts with what has arrived of it; with no plane in service nothing is written (R182). -/
def State.doBulkLoad (s : State) (k : Nat) (r : Request) : State × Verdict :=
  if s.inService.isEmpty then (s, .refuse stInterlock)
  else if s.bulkBusy k then (s, .refuse stBusy)
  else
    let b : Bulk := ⟨s.whoOf k r, [], 0, 0, 0, 0, false⟩
    (({ s with bulks := s.bulks ++ [b] }).bulkFragment b r.data r.last, .accepted)

/-- TBL_FLUSH_PORT (R211); with no plane in service nothing is written (R182). -/
def State.doFlush (s : State) (k : Nat) (r : Request) : State × Verdict :=
  let d := r.data
  if d.length = 8 ∧ getBE d 0 1 < 144 ∧ getBE d 1 1 ≤ 3 ∧ getBE d 2 2 < 4096 ∧ getBE d 4 1 < 16 ∧ getBE d 5 3 = 0 then
    if s.inService.isEmpty then (s, .refuse stInterlock)
    else if s.flushes.any (fun f => f.who.key == k) then (s, .refuse stBusy)
    else ({ s with flushes := s.flushes ++ [⟨s.whoOf k r, getBE d 0 1, getBE d 1 1, getBE d 2 2, getBE d 4 1⟩] }, .accepted)
  else (s, .refuse stRange)

/-- The table commands. -/
def State.doTable (s : State) (k : Nat) (x : Session) (r : Request) : State × Verdict :=
  let rec48 := readRecord r.data
  match r.op with
  | 0x10 =>
    if r.data.length ≠ 48 then (s, .refuse stRange)
    else if ownTenant x.role rec48.tenant = false then (s, .refuse stAuth)
    else let (st, p) := s.tblSearch r.inst rec48; (s, .done st p)
  | 0x11 =>
    if filterOk r.data = false then (s, .refuse stRange)
    else match tenantFilter x.role (getBE r.data 5 1) with
      | some t => let (s, st, p) := s.tblNext (k % 4) r.inst (getBE r.data 0 4) (getBE r.data 4 1) t (getBE r.data 6 1); (s, .done st p)
      | none => (s, .refuse stAuth)
  | 0x12 => if r.data.length ≠ 48 then (s, .refuse stRange) else let (s, st, p) := s.tblInsert rec48; (s, .done st p)
  | 0x13 => if r.data.length ≠ 48 then (s, .refuse stRange) else let (s, st) := s.tblDelete rec48; (s, .done st [])
  | 0x14 => s.doFlush k r
  | 0x15 => s.doBulkLoad k r
  | _ =>
    if filterOk r.data = false then (s, .refuse stRange)
    else match tenantFilter x.role (getBE r.data 5 1) with
      | some t =>
        if s.bulkBusy k then (s, .refuse stBusy)
        else (s.owe (some (s.whoOf k r)) stOk (s.bulkRecords r.inst (getBE r.data 4 1) t (getBE r.data 6 1)), .accepted)
      | none => (s, .refuse stAuth)

/-! ### Counters and faults (17 R508, R518, R519) -/

/-- The payload of COUNTER_SNAPSHOT (R508). -/
def snapshotOk (d : List Byte) : Bool :=
  d.length == 24 && decide (1 ≤ getBE d 0 4 ∧ getBE d 0 4 ≤ 65536) && decide (getBE d 4 1 ≤ 1) && getBE d 5 3 == 0 && getBE d 17 7 == 0

/-- COUNTER_SNAPSHOT (R508). -/
def State.doSnapshot (s : State) (k : Nat) (x : Session) (r : Request) : State × Verdict :=
  match Catalogue.row? r.pid with
  | some row =>
    let d := r.data
    let rc := getBE d 8 9
    let own := (roleTenant x.role).isNone || s.rangeStatus x.role r.pid row r.inst (getBE d 0 4) != stAuth
    if getBE d 4 1 = 1 ∧ x.role ≠ roleSite then (s, .refuse stAuth)
    else if own = false then (s, .refuse stAuth)
    else if row.counter = false ∨ snapshotOk d = false then (s, .refuse stRange)
    else if rc ≠ 0 ∧ (rc < s.rc + 800 ∨ s.rc + 400000000 < rc) then (s, .refuse stRange)
    else match s.gated row r.pid r.inst with
      | some n => (s.inc 0x022B n, .refuse stGated)
      | none =>
        ({ s with snaps := s.snaps ++
          [⟨if rc = 0 then s.rc + 800 else rc, r.pid, r.inst, getBE d 0 4, getBE d 4 1 == 1, s.whoOf k r⟩] }, .later)
  | none => (s, .refuse stBadPid)

/-- FAULT_READ (R518). -/
def State.doFaultRead (s : State) (r : Request) : State × Verdict :=
  let first := getBE r.data 0 1
  let n := getBE r.data 1 2
  if r.data.length = 4 ∧ 1 ≤ n ∧ n ≤ 256 ∧ getBE r.data 3 1 = 0 ∧ first + n ≤ 256 then (s, .done stOk (s.readFaults first n))
  else (s, .refuse stRange)

/-- FAULT_CLEAR (R519). -/
def State.doFaultClear (s : State) (r : Request) : State × Verdict :=
  if r.data.length = 32 then
    let (s, m) := s.clearFaults (beNat r.data)
    (s, .done stOk (toBytes 32 m))
  else (s, .refuse stRange)

/-! ### The meter (18 R532, R535, R537, R538) -/

/-- The channels a role reads. -/
def State.meterChannels (s : State) (role : Nat) : List Nat :=
  match roleTenant role with
  | some n => (List.range 16).filter (fun c => s.rd 0x4005 c == n)
  | none => List.range 16

/-- The payload length of a kind of METER_READ. -/
def meterLength (kind : Nat) : Nat := match kind with | 0 => 20 | 1 => 12 | _ => 4

/-- A step authorisation (R535). -/
def State.authoriseStep (s : State) (x : Session) (k : Nat) : State × Verdict :=
  if x.role ≠ roleInspector then (s, .refuse stAuth)
  else if s.linkUp? = false then (s, .refuse stInterlock)
  else if s.disciplineState ≠ 3 then (s, .refuse stBusy)
  else
    let print := s.rd 0x0410 (k % 4) / 2 ^ 192
    let s := s.logEvent 0x06 0xFF (signed 64 print)
    ((s.updCart (fun q => { q with auth := some s.clk })).inc 0x4016 0, .done stOk [])

/-- METER_READ (R532, R538). -/
def State.doMeterRead (s : State) (k : Nat) (x : Session) (r : Request) : State × Verdict :=
  let kind := getBE r.data 0 1
  let own := s.meterChannels x.role
  if r.inst < 16 ∧ own.contains r.inst = false then (s, .refuse stAuth)
  else if r.data.isEmpty = true ∨ 3 < kind ∨ r.data.length ≠ meterLength kind ∨ getBE r.data 1 3 ≠ 0 then (s, .refuse stRange)
  else if kind = 3 then s.authoriseStep x k
  else if s.linkUp? = false then (s, .refuse stInterlock)
  else if kind = 2 then (s, .done stOk (toBytes 128 s.cart.identity ++ toBytes 2 s.cartStatus))
  else
    let (st, p) := s.meterRecords kind (if r.inst < 16 then [r.inst] else own) r.data
    (s, .done st p)

/-- METER_LOG (R537, R538). -/
def State.doMeterLog (s : State) (x : Session) (r : Request) : State × Verdict :=
  let n := getBE r.data 4 2
  if r.data.length ≠ 8 ∨ n = 0 ∨ 1024 < n ∨ getBE r.data 6 2 ≠ 0 then (s, .refuse stRange)
  else if s.linkUp? = false then (s, .refuse stInterlock)
  else
    let own := s.meterChannels x.role
    (s, .done stOk (s.meterLog (getBE r.data 0 4) n (fun c => c == 0xFF || own.contains c)))

/-! ### The rest -/

/-- PLANE_RESEED (11 R343), ROLE_SWAP (R352), PING (R450), FENCE (R449), FW_STAGE and FW_ACTIVATE (R459, R460). -/
def State.doOther (s : State) (k : Nat) (r : Request) : State × Verdict :=
  let d := r.data
  let w := s.whoOf k r
  match r.op with
  | 0x30 => if d.length = 4 ∧ getBE d 0 1 ≤ 1 ∧ getBE d 1 1 ≤ 1 ∧ getBE d 2 2 = 0 then s.planeReseed (getBE d 0 1) (getBE d 1 1 == 1) (some w)
      else (s, .refuse stRange)
  | 0x31 => if d.isEmpty then s.roleSwap (some w) else (s, .refuse stRange)
  | 0x50 => s.fwStage w d r.last r.flashOk
  | 0x51 => if d.length = 4 ∧ getBE d 0 1 ≤ 1 ∧ getBE d 1 3 = 0 then s.fwActivate w (getBE d 0 1) else (s, .refuse stRange)
  | 0x7F => if d.length ≤ 64 then (s, .done stOk (d ++ toBytes 14 s.dtNow)) else (s, .refuse stRange)
  | _ => if d.isEmpty then s.ok else (s, .refuse stRange)

/-- A request that has passed steps 1 to 6 of R445. -/
def State.dispatch (s : State) (k : Nat) (x : Session) (r : Request) : State × Verdict :=
  match r.op with
  | 0x01 => s.doGet r
  | 0x02 => s.doSet k x r
  | 0x03 => s.doGetRange x r
  | 0x04 => s.doCommit k x r
  | 0x05 => s.doAbort k r
  | 0x07 => s.doSubscribe k x r
  | 0x08 => s.doUnsubscribe k x r
  | 0x20 => s.doSnapshot k x r
  | 0x21 => s.doFaultRead r
  | 0x22 => s.doFaultClear r
  | 0x40 => s.doMeterRead k x r
  | 0x41 => s.doMeterLog x r
  | _ => if isTable r.op then s.doTable k x r else s.doOther k r

end Sys2Proof.Machine
end

