-- ==== Sys2Proof/Machine/Mailbox.lean ====
section
/-! DEFINITION. The mailbox: sessions, the receipt, order and answers of requests (14 R431 to R457), and the commands of the table that
are requests. -/

namespace Sys2Proof.Machine

/-! ### Order (R448, R449; 05 R157) -/

/-- PID group and instance as R448 compares them; none for opcodes that name no parameter. -/
def Request.orderKey (r : Request) : Option (Nat × Nat) :=
  if isTable r.op then some (0x14, 0)
  else if namesPid r.op ∨ r.op = 0x40 ∨ r.op = 0x41 then some (r.pid / 256, r.inst)
  else none

/-- A request that commits (R157, R164). -/
def Request.commits (r : Request) : Bool := r.op == 0x04 || (r.op == 0x02 && decide (0x101D ≤ r.pid ∧ r.pid ≤ 0x101F))

/-- A flush or a bulk operation that has been accepted and runs: what comes after it is answered, BUSY where it is its like (06 R211,
R212; notes/assumptions/71.md). -/
def Request.background (r : Request) : Bool := r.accepted && isTable r.op

/-- An earlier request `e` of the same session holds `r` back. -/
def Request.holds (e r : Request) : Bool :=
  decide (e.order < r.order) &&
    (r.fence || r.op == 0x06 || ((r.op == 0x04 || r.op == 0x05) && e.op == 0x02) ||
      (r.orderKey.isSome && e.orderKey == r.orderKey && !e.background))

/-- The sessions of the active controller that are open, by number. -/
def State.openSessions (s : State) : List (Nat × Session) :=
  s.sessions.filter (fun e => s.holder == some (e.1 / 4) && e.2.isOpen)

/-- A COMMIT waits for every commit issued before it, in any session. -/
def State.commitWaits (s : State) (r : Request) : Bool :=
  r.commits && (s.committing.isSome || s.openSessions.any (fun e => e.2.requests.any (fun q => q.commits && decide (q.order < r.order))))

/-- A request can start. -/
def State.mayBegin (s : State) (x : Session) (r : Request) : Bool :=
  !r.started && x.requests.all (fun e => !e.holds r) && !s.commitWaits r

/-- The controller carries out requests: active, and not handing over (11 R352). -/
def State.serving (s : State) (c : Nat) : Bool := s.holder == some c && s.ctlState c == 5 && (s.ctl c).beats && s.swap.isNone

/-- The next request to start: the one issued first among those that can. -/
def State.nextRequest (s : State) : Option (Nat × Request) :=
  (s.openSessions.flatMap (fun e => (e.2.requests.filter (s.mayBegin e.2)).map (fun r => (e.1, r)))).foldl
    (fun m x => match m with
      | some y => if x.2.order < y.2.order then some x else some y
      | none => some x) none

/-! ### Closing (R455) -/

/-- A session closes; what it started runs on, and its answers are discarded. -/
def State.closeSession (s : State) (k : Nat) : State :=
  let w (x : Who) : Bool := x.key == k && x.gen == (s.session k).gen
  let s := if s.holder = some (k / 4) then s.closeIter (k % 4) else s
  let s := match s.fw.stager with
    | some x => if w x then s.dropStage else s
    | none => s
  { s with bulks := s.bulks.filter (fun b => !w b.who || b.finished) }.updSession k Session.closed

/-- An authentication failure (R462): 16 within 60 s set fault bit 210. -/
def State.authFailure (s : State) : State :=
  let l := (s.clk :: s.authFails).filter (fun t => decide (s.clk < t + 60 * ticksPerSec))
  let s := { s with authFails := l }
  if 16 ≤ l.length then s.fault 210 moduleInst else s

/-! ### Carrying out a request (R445, R446) -/

/-- The first request of an enrolment session (R436). -/
def codeGiven (r : Request) : Bool :=
  r.op == 0x02 && r.pid == 0x040A && r.inst == 0 && r.data.length == 16 && beNat r.data == Config.enrolmentCode.toNat

/-- The answer to a request that can be answered now. -/
def State.answerNow (s : State) (k : Nat) (r : Request) (d : Verdict) : State :=
  match d with
  | .done st p =>
    let s := if st = stInternal then s.fault 211 (k / 4) else s
    s.reply k { r with accepted := false } st p
  | .accepted => s.accept2 k r
  | .later => s

/-- What follows an answer: the first event of a subscription, the end of enrolment, a module reset. -/
def State.afterAnswer (s : State) (k : Nat) (x : Session) (r : Request) (d : Verdict) : State :=
  match d with
  | .done 0 p =>
    if r.op = 0x07 then (s.queueEvent k (beNat p) 0 true).sendQueued k (fun _ => true)
    else if r.op = 0x02 ∧ r.pid = 0x0107 ∧ beNat r.data = 1 then s.restart false 1
    else if r.op = 0x02 ∧ r.pid = 0x0408 ∧ x.enrol = .given ∧ beNat r.data ≠ 0 then s.closeSession k
    else s
  | _ => s

/-- A request in an enrolment session before the code (R436). -/
def State.enrolFirst (s : State) (k : Nat) (r : Request) : State :=
  if codeGiven r then (s.updSession k (fun x => { x with enrol := .given })).reply k r stOk []
  else
    let s := if r.op = 0x02 ∧ r.pid = 0x040A then s.authFailure else s
    { (s.reply k r stAuth []).closeSession k with enrolBar := s.clk + 10 * ticksPerSec }

/-- The outcome of a request (R445, steps 3 to 10): PID 040Ah outside an enrolment session is AUTH (R436). -/
def State.outcome (s : State) (k : Nat) (x : Session) (r : Request) : State × Verdict :=
  if s.precheck x r ≠ stOk then (s, .refuse (s.precheck x r))
  else if r.op = 0x02 ∧ r.pid = 0x040A then (s, .refuse stAuth)
  else s.dispatch k x r

/-- Gives every final answer that is due (R446). -/
def State.settleAll (s : State) : State := s.owed.foldl State.settleOne { s with owed := [] }

/-- Carries out a request that starts. -/
def State.carryOut (s : State) (k : Nat) (r : Request) : State :=
  let x := s.session k
  let s := s.updRequest k r.tag (fun y => { y with started := true })
  let r := { r with started := true }
  if x.enrol = .awaited ∧ ¬(s.rd 0x0100 0 = 1 ∧ r.op = 0x02) then s.enrolFirst k r
  else
    let (s, d) := s.outcome k x r
    ((s.answerNow k r d).settleAll).afterAnswer k x r d

/-- Starts every request that can start, one after another. -/
def State.serve : Nat → State → State
  | 0, s => s
  | n + 1, s =>
    if s.serving s.active then
      match s.nextRequest with
      | some (k, r) => State.serve n (s.carryOut k r)
      | none => s
    else s

/-- The requests that are outstanding. -/
def State.outstanding (s : State) : Nat := s.sessions.foldl (fun a e => a + e.2.requests.length) 0

/-- After an event: the answers that are due are given, and the requests that can start do. -/
def State.settle (s : State) : State :=
  let s := s.settleAll
  State.serve s.outstanding s

/-! ### Receiving (R442, R443, R446) -/

/-- The number of a session of a controller. -/
def sessionKey (c : CtlNo) (n : Fin 4) : Nat := 4 * c.val + n.val

/-- A controller takes messages: as active, or as standby, which answers NOT_ACTIVE (R438). -/
def State.listens (s : State) (c : Nat) : Bool :=
  s.serving c || ((s.ctlState c == 3 || s.ctlState c == 4) && (s.ctl c).beats && s.holder != some c)

/-- A message is received on a session. -/
def State.heard (s : State) (k n : Nat) : State :=
  let s := s.updSession k (fun x => { x with heard := s.clk })
  if s.holder = some (k / 4) then s.incBy 0x0414 (2 * (k % 4)) n else s

/-- Counts a session error (PID 0415h): 0 header, 1 duplicate tag. -/
def State.sessionError (s : State) (k kind : Nat) : State := if s.holder = some (k / 4) then s.inc 0x0415 (3 * (k % 4) + kind) else s

/-- A request whose fragments have come takes its place among the outstanding ones. -/
def State.issue (s : State) (k : Nat) (r : Request) : State :=
  let r := { r with since := s.clk, order := s.issued }
  { s with issued := s.issued + 1 }.updSession k (fun x => { x with requests := x.requests ++ [r] })

/-- A request for the reset of the standby that is addressed to it (03 R81, R82): PID 0107h value 2 from a site session. -/
def Request.resetsStandby (r : Request) (x : Session) : Bool :=
  r.op == 0x02 && r.pid == 0x0107 && r.inst == 0 && r.data == [2] && x.role == roleSite && x.enrol == .no

/-- What the standby answers (01 R14): NOT_ACTIVE, with no effect, but for its own reset (03 R82; notes/assumptions/59.md). -/
def State.standbyAnswer (s : State) (k : Nat) (r : Request) : State :=
  if r.resetsStandby (s.session k) = true ∧ s.stageAtLeast 2 = true then ((s.issue k r).reply k r stOk []).rebootStandby (k / 4)
  else (s.issue k r).reply k r stNotActive []

/-- A later fragment of a request that was answered or discarded: discarded, up to the last one (R442). -/
def State.skipped (s : State) (k tag : Nat) (last : Bool) : State :=
  s.updSession k (fun x => { x with skip := if last then x.skip.filter (fun t => t != tag) else x.skip })

/-- A request arrives (R442 to R446). A tag that is outstanding is counted and the request discarded; the standby answers
NOT_ACTIVE. A controller that is handing over takes nothing. -/
def State.receive (s : State) (k : Nat) (r : Request) : State :=
  if (s.session k).isOpen = true ∧ s.listens (k / 4) = true then
    let s := s.heard k (fragments r.data)
    if (s.session k).skip.contains r.tag then s.skipped k r.tag r.last
    else if ((s.session k).request r.tag).isSome then
      (s.sessionError k 1).updSession k (fun x => { x with skip := if r.last then x.skip else r.tag :: x.skip })
    else if s.holder ≠ some (k / 4) then s.standbyAnswer k r
    else if 65536 < r.data.length ∧ r.op ≠ 0x50 ∧ r.op ≠ 0x15 then (s.issue k r).reply k r stRange []
    else (s.issue k r).settle
  else s

/-- A later fragment of a request that is consumed as it arrives (R212, R459): none where it starts a new request. -/
def State.nextFragment (s : State) (k : Nat) (r : Request) : Option State :=
  match (s.session k).request r.tag with
  | some q =>
    if q.op = r.op ∧ q.last = false ∧ s.serving (k / 4) = true ∧ (s.session k).skip.contains r.tag = false then
      let s := (s.heard k 1).updRequest k r.tag (fun y => { y with since := s.clk, last := r.last, flashOk := r.flashOk })
      let w := s.whoOf k r
      if q.started = false then some (s.updRequest k r.tag (fun y => { y with data := y.data ++ r.data }))
      else if r.op = 0x50 then
        match s.stageFragment r.data r.last r.flashOk with
        | (s, some (st, p)) => some ((s.owe (some w) st p).settle)
        | (s, none) => some s
      else match s.bulks.find? (fun b => b.who == w) with
        | some b => some (s.bulkFragment b r.data r.last)
        | none => some s
    else none
  | none => none

/-- A fragment of FW_STAGE or TBL_BULK_LOAD arrives. -/
def State.fragment (s : State) (k : Nat) (r : Request) : State :=
  match s.nextFragment k r with
  | some t => t
  | none => s.receive k r

/-- A request as a command of the table spells it. -/
def requestOf (q : Req) (op pid inst : Nat) (data : List Byte) (last : Bool := true) : Request :=
  ⟨q.tag.toNat, op, pid, inst, data, q.fence, last, q.flashOk, 0, 0, false, false, false⟩

/-- Receives a request of an opcode with no parameter. -/
def State.take (s : State) (q : Req) (op pid inst : Nat) (data : List Byte) : State :=
  s.receive (sessionKey q.ctl q.sess) (requestOf q op pid inst data)

/-- Receives a SET. -/
def State.takeSet (s : State) (q : Req) (pid : Nat) (data : List Byte) : State := s.take q 0x02 pid q.inst.toNat data

/-! ### Sessions (R434 to R438) -/

/-- Sends the session-open message (R438); session FFh where none was taken. -/
def State.openMessage (s : State) (c j role status : Nat) : State :=
  let body := toBytes 1 c ++ toBytes 1 (s.ctlState c) ++ toBytes 1 role ++ toBytes 1 (s.rd 0x0100 0) ++ toBytes 1 1 ++
    toBytes 1 (if s.enrolled then 1 else 0) ++ toBytes 2 0 ++ toBytes 4 (s.rd 0x0006 (2 * c + s.rd 0x0007 c)) ++ toBytes 4 (s.rd 0x040C 0)
  if j < 4 then s.sendMsg (4 * c + j) 0xE0 0 0x7F status 0 0 body
  else { s with out := s.out ++ [⟨c, 0xE0, 0xFF, 0, 0x7F, status, 0, 0, body⟩] }

/-- The bit of an anchor's role mask that a role needs (PID 0409h). -/
def roleBit (role : Nat) : Nat := if role = roleSite then 0 else if role = roleObserver then 1 else if role = roleInspector then 3 else 2

/-- A role code names a role (R434). -/
def roleExists (role : Nat) : Bool := decide (role ≤ 2) || (roleTenant role).isSome

/-- The validity of a certificate (R434): against DT, or without valid DT against the last DT in flash. -/
def State.certInTime (s : State) (c : Nat) (q : Client) : Bool :=
  if s.dtValid then decide ((q.notBefore.toNat : Int) ≤ s.utcSeconds) && decide (s.utcSeconds ≤ q.notAfter.toNat)
  else decide (floorDiv (decDT (s.flashOf c).lastDT) (nsUnits 1000000000) - signed 16 (s.rd 0x3009 0) ≤ q.notAfter.toNat)

/-- The sessions of a controller that are free, lowest first. -/
def State.freeSessions (s : State) (c : Nat) : List Nat := (List.range 4).filter (fun j => !(s.session (4 * c + j)).isOpen)

/-- A connection takes a session. -/
def State.startSession (s : State) (c j role : Nat) (e : Enrol) (print addr : Nat) : State :=
  let active := s.holder == some c
  let s := s.updSession (4 * c + j) (fun x => { Session.init with isOpen := true, gen := x.gen, role := role, enrol := e, heard := s.clk })
  let s := if active then ((s.wr 0x0410 j print).wr 0x0411 j addr).stamp 0x0417 j else s
  s.openMessage c j role (if active then stOk else stNotActive)

/-- A connection whose certificate is accepted in a role (R437). -/
def State.admitClient (s : State) (c role : Nat) (e : Enrol) (print addr : Nat) : State :=
  let free := s.freeSessions c
  let site := (List.range 4).any (fun j => (s.session (4 * c + j)).isOpen && (s.session (4 * c + j)).role == roleSite)
  match free with
  | j :: rest =>
    if rest = [] ∧ role ≠ roleSite ∧ s.flag 0x040D 0 = true ∧ site = false then (s.inc 0x0416 2).openMessage c 0xFF role stBusy
    else s.startSession c j role e print addr
  | [] => (s.inc 0x0416 2).openMessage c 0xFF role stBusy

/-- A connection while no trust anchor is installed (R436): on M0, one at a time, and not while barred. -/
def State.enrolClient (s : State) (c : Nat) (m0 : Bool) (print addr : Nat) : State :=
  if m0 = true ∧ (s.freeSessions c).length = 4 ∧ s.enrolBar ≤ s.clk then s.startSession c 0 roleSite .awaited print addr
  else s.openMessage c 0xFF roleSite stAuth

/-- SESSION_OPEN: a handshake ends; `none` where the chain does not verify (R434, R435). -/
def sessionOpen (c : Nat) (m0 : Bool) (q : Option Client) (s : State) : State :=
  if s.listens c = true ∧ s.stageAtLeast 1 = true then
    if s.enrolled = false then
      s.enrolClient c m0 ((q.map (fun x => x.fingerprint.toNat)).getD 0) ((q.map (fun x => x.address.toNat)).getD 0)
    else
      match q with
      | some x =>
        if s.rd 0x0408 x.anchor.val = 0 ∨ s.certInTime c x = false then (s.inc 0x0416 0).authFailure
        else
          let role := (x.role.map BitVec.toNat).getD 0xFF
          if roleExists role = true ∧ (s.rd 0x0409 x.anchor.val).testBit (roleBit role) = true then
            s.admitClient c role .no x.fingerprint.toNat x.address.toNat
          else ((s.inc 0x0416 1).authFailure).openMessage c 0xFF role stAuth
      | none => (s.inc 0x0416 0).authFailure
  else s

/-- IDLE_TIMEOUT (R455). -/
def idleTimeout (k : Nat) (s : State) : State :=
  let x := s.session k
  if x.isOpen = true ∧ x.requests.isEmpty = true ∧ x.heard + s.rd 0x040C 0 * ticksPerSec ≤ s.clk then
    (s.inc 0x0416 3).closeSession k
  else s

/-- PENDING_TIMER (R447). -/
def pendingTimer (k tag : Nat) (s : State) : State :=
  match (s.session k).request tag with
  | some r =>
    if (s.session k).isOpen = true ∧ s.serving (k / 4) = true ∧ r.last = true ∧ r.accepted = false ∧ r.pendingSent = false ∧
        r.since + 100 * ticksPerMs ≤ s.clk then
      (s.updRequest k tag (fun y => { y with pendingSent := true })).sendMsg k 0xA0 tag r.op stPending r.pid r.inst []
    else s
  | none => s

/-- MALFORMED_REQUEST (R442, R443). -/
def malformedRequest (k tag op pid inst : Nat) (kind : Malformed) (s : State) : State :=
  if (s.session k).isOpen = true ∧ s.listens (k / 4) = true then
    let s := s.heard k 1
    let range (s : State) : State := s.sendMsg k 0xA0 tag op stRange pid inst []
    match kind, (s.session k).request tag with
    | .magic, _ => (s.sessionError k 0).closeSession k
    | .length, _ => range s
    | .header, none => range (s.sessionError k 0)
    | .header, some _ => s.sessionError k 1
    | .fragment, none => range s
    | .fragment, some r =>
      if r.last then s.sessionError k 1
      else
        let w := s.whoOf k r
        let s := if s.fw.stager = some w then s.dropStage else s
        ({ s with bulks := s.bulks.filter (fun b => b.who != w) }.reply k r stRange []).settle
  else s

/-! ### Events (R451 to R453) -/

/-- One subscription compared: its values, what has changed, and the event that is due. -/
def State.compareOne (s : State) (k n : Nat) : State :=
  match Tab.find? (s.session k).subs n with
  | some b =>
    match Catalogue.row? b.pid with
    | some row =>
      if s.rangeStatus (s.session k).role b.pid row b.inst b.count ≠ stOk then
        (s.queueEvent k n 4 false).updSession k (fun x => { x with subs := Tab.del x.subs n })
      else
        let (s, vals) := s.subValues b.pid b.inst b.count
        let now := (((List.range b.count).zip (b.vals.zip vals)).filter (fun e => e.2.1 != e.2.2)).map (fun e => b.inst + e.1)
        let changed := b.changed ++ now.filter (fun i => !b.changed.contains i)
        let s := s.updSession k (fun x => { x with subs := Tab.set x.subs n { b with vals := vals, changed := changed } })
        let age := s.clk - b.lastAt
        if b.mode ≠ 1 ∧ changed ≠ [] ∧ b.minimum * ticksPerMs ≤ age then s.queueEvent k n 0 false
        else if b.mode ≠ 0 ∧ b.period * ticksPerMs ≤ age then s.queueEvent k n 0 (b.mode == 1)
        else s
    | none => s
  | none => s

/-- SUBSCRIPTION_COMPARE (R451, R453): every 10 ms; bit j of `stalled` set where the TLS stream of session j takes nothing. -/
def subscriptionCompare (stalled : Nat) (s : State) : State :=
  if s.serving s.active then
    s.openSessions.foldl (fun s e =>
      let s := e.2.subs.foldl (fun s b => s.compareOne e.1 b.1) s
      if stalled.testBit (e.1 % 4) then s else s.sendQueued e.1 (fun _ => true)) s
  else s

/-! ### Completions -/

/-- FLUSH_COMPLETE (06 R211): the oldest flush of a session ends. -/
def flushComplete (k : Nat) (s : State) : State :=
  match s.flushes.find? (fun f => f.who.key == k) with
  | some f =>
    let s := { s with flushes := s.flushes.filter (fun g => g.who.key != k) }
    let one (x : State × List Byte) (p : Nat) : State × List Byte :=
      let (s, n) := if s.inService.contains p then x.1.flushPlane p f else (x.1, 0)
      (s.wr 0x1443 (2 * (k % 4) + p) n, x.2 ++ toBytes 4 n)
    let (s, b) := [0, 1].foldl one (s, [])
    s.owe (some f.who) stOk b
  | none => s

/-- BULK_LOAD_COMPLETE (06 R212): the oldest bulk load whose fragments have all come ends. -/
def bulkLoadComplete (s : State) : State :=
  match s.bulks.find? (fun b => b.finished) with
  | some b =>
    { s with bulks := s.bulks.filter (fun x => x.who != b.who) }.owe (some b.who) stOk
      (toBytes 4 b.done ++ toBytes 4 b.failed ++ toBytes 4 b.firstBad)
  | none => s

/-! ### The commands -/

/-- The parameters that a write of 0 resets (16 R494). -/
def highWaterPids : List Nat := [0x1418, 0x182A, 0x1A2D, 0x1C1C, 0x2402, 0x2403, 0x2803]

/-- GET (R450): a GET of any parameter. -/
def execGet (el : Nat) (q : Req) (pid : BitVec 16) (s : State) : Out := s.run el (fun s => s.take q 0x01 pid.toNat q.inst.toNat q.data)

/-- SET (R450): a SET of any parameter. -/
def execSet (el : Nat) (q : Req) (pid : BitVec 16) (s : State) : Out := s.run el (fun s => s.takeSet q pid.toNat q.data)

/-- GET_RANGE (R450): opcode 03h. -/
def execGetRange (el : Nat) (q : Req) (pid : BitVec 16) (s : State) : Out := s.run el (fun s => s.take q 0x03 pid.toNat q.inst.toNat q.data)

/-- COMMIT (R157): opcode 04h. -/
def execCommit (el : Nat) (q : Req) (s : State) : Out := s.run el (fun s => s.take q 0x04 0 0 q.data)

/-- ABORT_BUNDLE (R155): opcode 05h. -/
def execAbortBundle (el : Nat) (q : Req) (s : State) : Out := s.run el (fun s => s.take q 0x05 0 0 q.data)

/-- FENCE (R449): opcode 06h. -/
def execFence (el : Nat) (q : Req) (s : State) : Out := s.run el (fun s => s.take q 0x06 0 0 q.data)

/-- SUBSCRIBE (R451): opcode 07h. -/
def execSubscribe (el : Nat) (q : Req) (pid : BitVec 16) (s : State) : Out :=
  s.run el (fun s => s.take q 0x07 pid.toNat q.inst.toNat q.data)

/-- UNSUBSCRIBE (R452): opcode 08h. -/
def execUnsubscribe (el : Nat) (q : Req) (pid : BitVec 16) (s : State) : Out :=
  s.run el (fun s => s.take q 0x08 pid.toNat q.inst.toNat q.data)

/-- TBL_SEARCH (R208): opcode 10h. -/
def execTblSearch (el : Nat) (q : Req) (s : State) : Out := s.run el (fun s => s.take q 0x10 0x1400 q.inst.toNat q.data)

/-- TBL_NEXT (R209): opcode 11h. -/
def execTblNext (el : Nat) (q : Req) (s : State) : Out := s.run el (fun s => s.take q 0x11 0x1400 q.inst.toNat q.data)

/-- TBL_INSERT (R182): opcode 12h. -/
def execTblInsert (el : Nat) (q : Req) (s : State) : Out := s.run el (fun s => s.take q 0x12 0x1400 q.inst.toNat q.data)

/-- TBL_DELETE (R208): opcode 13h. -/
def execTblDelete (el : Nat) (q : Req) (s : State) : Out := s.run el (fun s => s.take q 0x13 0x1400 q.inst.toNat q.data)

/-- TBL_FLUSH_PORT (R211): opcode 14h. -/
def execTblFlushPort (el : Nat) (q : Req) (s : State) : Out := s.run el (fun s => s.take q 0x14 0x1400 q.inst.toNat q.data)

/-- TBL_BULK_READ (R212): opcode 16h. -/
def execTblBulkRead (el : Nat) (q : Req) (s : State) : Out := s.run el (fun s => s.take q 0x16 0x1400 q.inst.toNat q.data)

/-- TBL_BULK_LOAD (R212): one fragment of opcode 15h; `last` on the last one. -/
def execTblBulkLoad (el : Nat) (q : Req) (last : Bool) (s : State) : Out :=
  s.run el (fun s => s.fragment (sessionKey q.ctl q.sess) (requestOf q 0x15 0x1400 q.inst.toNat q.data last))

/-- COUNTER_SNAPSHOT (R508): opcode 20h. -/
def execCounterSnapshot (el : Nat) (q : Req) (pid : BitVec 16) (s : State) : Out :=
  s.run el (fun s => s.take q 0x20 pid.toNat q.inst.toNat q.data)

/-- FAULT_READ (R518): opcode 21h. -/
def execFaultRead (el : Nat) (q : Req) (s : State) : Out := s.run el (fun s => s.take q 0x21 0 0 q.data)

/-- FAULT_CLEAR (R519): opcode 22h. -/
def execFaultClear (el : Nat) (q : Req) (s : State) : Out := s.run el (fun s => s.take q 0x22 0 0 q.data)

/-- PLANE_RESEED (R343): opcode 30h. -/
def execPlaneReseed (el : Nat) (q : Req) (s : State) : Out := s.run el (fun s => s.take q 0x30 0 0 q.data)

/-- ROLE_SWAP (R352): opcode 31h. -/
def execRoleSwap (el : Nat) (q : Req) (s : State) : Out := s.run el (fun s => s.take q 0x31 0 0 q.data)

/-- METER_READ_BY_INTERVAL (R532): opcode 40h of kind 0; the operand payload follows the kind. -/
def execMeterReadByInterval (el : Nat) (q : Req) (s : State) : Out :=
  s.run el (fun s => s.take q 0x40 0x400A q.inst.toNat (toBytes 1 0 ++ q.data))

/-- METER_READ_BY_SEQUENCE (R532): opcode 40h of kind 1; the operand payload follows the kind. -/
def execMeterReadBySequence (el : Nat) (q : Req) (s : State) : Out :=
  s.run el (fun s => s.take q 0x40 0x400A q.inst.toNat (toBytes 1 1 ++ q.data))

/-- METER_READ_IDENTITY (R532): opcode 40h of kind 2; the operand payload follows the kind. -/
def execMeterReadIdentity (el : Nat) (q : Req) (s : State) : Out :=
  s.run el (fun s => s.take q 0x40 0x400A q.inst.toNat (toBytes 1 2 ++ q.data))

/-- STEP_AUTHORISATION (R535): opcode 40h of kind 3; the operand payload follows the kind. -/
def execStepAuthorisation (el : Nat) (q : Req) (s : State) : Out :=
  s.run el (fun s => s.take q 0x40 0x400A q.inst.toNat (toBytes 1 3 ++ q.data))

/-- METER_LOG (R537): opcode 41h. -/
def execMeterLog (el : Nat) (q : Req) (s : State) : Out := s.run el (fun s => s.take q 0x41 0x401C q.inst.toNat q.data)

/-- FW_STAGE (R459): one fragment of opcode 50h; `last` on the last one. -/
def execFwStage (el : Nat) (q : Req) (last : Bool) (s : State) : Out :=
  s.run el (fun s => s.fragment (sessionKey q.ctl q.sess) (requestOf q 0x50 0 0 q.data last))

/-- FW_ACTIVATE (R460): opcode 51h. -/
def execFwActivate (el : Nat) (q : Req) (s : State) : Out := s.run el (fun s => s.take q 0x51 0 0 q.data)

/-- PING (R450): opcode 7Fh. -/
def execPing (el : Nat) (q : Req) (s : State) : Out := s.run el (fun s => s.take q 0x7F 0 0 q.data)

/-- MODULE_RESET (R81): a SET of PID 0107h to 1. -/
def execModuleReset (el : Nat) (q : Req) (s : State) : Out := s.run el (fun s => s.takeSet q 0x0107 [1])

/-- CONTROLLER_RESET (R82): a SET of PID 0107h to 2. -/
def execControllerReset (el : Nat) (q : Req) (s : State) : Out := s.run el (fun s => s.takeSet q 0x0107 [2])

/-- DOMAIN_POWER_DOWN (R85): a SET of PID 010Dh to 1. -/
def execDomainPowerDown (el : Nat) (q : Req) (s : State) : Out := s.run el (fun s => s.takeSet q 0x010D [1])

/-- DOMAIN_POWER_UP (R86): a SET of PID 010Dh to 2. -/
def execDomainPowerUp (el : Nat) (q : Req) (s : State) : Out := s.run el (fun s => s.takeSet q 0x010D [2])

/-- DOMAIN_CYCLE (R83): a SET of PID 010Dh to 3. -/
def execDomainCycle (el : Nat) (q : Req) (s : State) : Out := s.run el (fun s => s.takeSet q 0x010D [3])

/-- PORT_ENABLE (R562): a SET of PID 0800h to 1. -/
def execPortEnable (el : Nat) (q : Req) (s : State) : Out := s.run el (fun s => s.takeSet q 0x0800 [1])

/-- PORT_DISABLE (R93): a SET of PID 0800h to 0. -/
def execPortDisable (el : Nat) (q : Req) (s : State) : Out := s.run el (fun s => s.takeSet q 0x0800 [0])

/-- GATE_LIST_ENABLE (R317): a SET of PID 2200h to 1. -/
def execGateListEnable (el : Nat) (q : Req) (s : State) : Out := s.run el (fun s => s.takeSet q 0x2200 [1])

/-- GATE_LIST_DISABLE (R317): a SET of PID 2200h to 0. -/
def execGateListDisable (el : Nat) (q : Req) (s : State) : Out := s.run el (fun s => s.takeSet q 0x2200 [0])

/-- HOD_RESUME (R473): a SET of PID 3807h to 1. -/
def execHodResume (el : Nat) (q : Req) (s : State) : Out := s.run el (fun s => s.takeSet q 0x3807 [1])

/-- HOD_ABANDON (R473): a SET of PID 3807h to 2. -/
def execHodAbandon (el : Nat) (q : Req) (s : State) : Out := s.run el (fun s => s.takeSet q 0x3807 [2])

/-- SILL_HOLD (R74): a SET of PID 0108h. -/
def execSillHold (el : Nat) (q : Req) (s : State) : Out := s.run el (fun s => s.takeSet q 0x0108 q.data)

/-- SWAP_REQUEST (R97): a SET of PID 0813h. -/
def execSwapRequest (el : Nat) (q : Req) (s : State) : Out := s.run el (fun s => s.takeSet q 0x0813 q.data)

/-- BUCKET_RESET (R134): a SET of PID 0A1Eh. -/
def execBucketReset (el : Nat) (q : Req) (s : State) : Out := s.run el (fun s => s.takeSet q 0x0A1E q.data)

/-- STEPPING_FAILED_CLEAR (R132): a SET of PID 084Fh. -/
def execSteppingFailedClear (el : Nat) (q : Req) (s : State) : Out := s.run el (fun s => s.takeSet q 0x084F q.data)

/-- QUEUE_FLUSH (R269): a SET of PID 1A08h. -/
def execQueueFlush (el : Nat) (q : Req) (s : State) : Out := s.run el (fun s => s.takeSet q 0x1A08 q.data)

/-- SCRUB_REQUEST (R239): a SET of PID 1824h. -/
def execScrubRequest (el : Nat) (q : Req) (s : State) : Out := s.run el (fun s => s.takeSet q 0x1824 q.data)

/-- FILTER_REBUILD (R193): a SET of PID 143Eh. -/
def execFilterRebuild (el : Nat) (q : Req) (s : State) : Out := s.run el (fun s => s.takeSet q 0x143E q.data)

/-- STATIC_ENTRY_SET (R205): a SET of PID 1414h. -/
def execStaticEntrySet (el : Nat) (q : Req) (s : State) : Out := s.run el (fun s => s.takeSet q 0x1414 q.data)

/-- NEXT_HOP_SET (R201): a SET of PID 1420h. -/
def execNextHopSet (el : Nat) (q : Req) (s : State) : Out := s.run el (fun s => s.takeSet q 0x1420 q.data)

/-- ECMP_GROUP_SET (R198): a SET of PID 1422h. -/
def execEcmpGroupSet (el : Nat) (q : Req) (s : State) : Out := s.run el (fun s => s.takeSet q 0x1422 q.data)

/-- REWRITE_SET (R201): a SET of PID 1424h. -/
def execRewriteSet (el : Nat) (q : Req) (s : State) : Out := s.run el (fun s => s.takeSet q 0x1424 q.data)

/-- BANK_SWAP (R291): a SET of PID 1C06h. -/
def execBankSwap (el : Nat) (q : Req) (s : State) : Out := s.run el (fun s => s.takeSet q 0x1C06 q.data)

/-- CONFIGURATION_CHANGE_REQUEST (R313): a SET of PID 2205h. -/
def execConfigurationChangeRequest (el : Nat) (q : Req) (s : State) : Out := s.run el (fun s => s.takeSet q 0x2205 q.data)

/-- CLEAR_SLOT_COUNTS (R322): a SET of PID 240Ch. -/
def execClearSlotCounts (el : Nat) (q : Req) (s : State) : Out := s.run el (fun s => s.takeSet q 0x240C q.data)

/-- RECOVERY_RESET (R357): a SET of PID 2833h. -/
def execRecoveryReset (el : Nat) (q : Req) (s : State) : Out := s.run el (fun s => s.takeSet q 0x2833 q.data)

/-- SEQUENCE_RESET (R362): a SET of PID 282Eh. -/
def execSequenceReset (el : Nat) (q : Req) (s : State) : Out := s.run el (fun s => s.takeSet q 0x282E q.data)

/-- MANUAL_STEP (R410): a SET of PID 3010h. -/
def execManualStep (el : Nat) (q : Req) (s : State) : Out := s.run el (fun s => s.takeSet q 0x3010 q.data)

/-- MANUAL_RATE (R410): a SET of PID 3011h. -/
def execManualRate (el : Nat) (q : Req) (s : State) : Out := s.run el (fun s => s.takeSet q 0x3011 q.data)

/-- MODEL_RESET (R414): a SET of PID 340Eh. -/
def execModelReset (el : Nat) (q : Req) (s : State) : Out := s.run el (fun s => s.takeSet q 0x340E q.data)

/-- CAPTURE_RING_CLEAR (R415): a SET of PID 3511h. -/
def execCaptureRingClear (el : Nat) (q : Req) (s : State) : Out := s.run el (fun s => s.takeSet q 0x3511 q.data)

/-- GATE_CONTROL_SET (R425): a SET of PID 0228h. -/
def execGateControlSet (el : Nat) (q : Req) (s : State) : Out := s.run el (fun s => s.takeSet q 0x0228 q.data)

/-- ENROLMENT_CODE (R436): a SET of PID 040Ah. -/
def execEnrolmentCode (el : Nat) (q : Req) (s : State) : Out := s.run el (fun s => s.takeSet q 0x040A q.data)

/-- CANCEL_ARMED_SLOT (R161): a SET of PID 1032h. -/
def execCancelArmedSlot (el : Nat) (q : Req) (s : State) : Out := s.run el (fun s => s.takeSet q 0x1032 q.data)

/-- CLEAR_ALL_COUNTERS (R511): a SET of PID 3C2Dh. -/
def execClearAllCounters (el : Nat) (q : Req) (s : State) : Out := s.run el (fun s => s.takeSet q 0x3C2D q.data)

/-- CLEAR_ALL_ENTRIES (R519): a SET of PID 3E0Dh. -/
def execClearAllEntries (el : Nat) (q : Req) (s : State) : Out := s.run el (fun s => s.takeSet q 0x3E0D q.data)

/-- HOD_PAUSE (R474): a SET of PID 3806h. -/
def execHodPause (el : Nat) (q : Req) (s : State) : Out := s.run el (fun s => s.takeSet q 0x3806 q.data)

/-- PORT_SPEED_FEC_CHANGE (R92): a SET of PID 0801h, or of 0802h. -/
def execPortSpeedFecChange (el : Nat) (q : Req) (fec : Bool) (s : State) : Out :=
  s.run el (fun s => s.takeSet q (if fec then 0x0802 else 0x0801) q.data)

/-- DEFAULT_TENANT_COMMIT (R164): a SET of PID 101Dh, 101Eh or 101Fh. -/
def execDefaultTenantCommit (el : Nat) (q : Req) (which : Fin 3) (s : State) : Out :=
  s.run el (fun s => s.takeSet q (0x101D + which.val) q.data)

/-- HIGH_WATER_RESET (R494): a SET of one of the write-0-to-reset parameters. -/
def execHighWaterReset (el : Nat) (q : Req) (which : Fin 7) (s : State) : Out :=
  s.run el (fun s => s.takeSet q ((highWaterPids[which.val]?).getD 0) q.data)

/-- SESSION_OPEN (R438): a handshake on a controller ends, on M0 or in band. -/
def execSessionOpen (el : Nat) (ctl : CtlNo) (m0 : Bool) (cert : Option Client) (s : State) : Out := s.run el (sessionOpen ctl.val m0 cert)

/-- SESSION_CLOSE (R455): the client closes the connection. -/
def execSessionClose (el : Nat) (ctl : CtlNo) (sess : Fin 4) (s : State) : Out :=
  s.run el (fun s => (s.closeSession (sessionKey ctl sess)).settle)

/-- IDLE_TIMEOUT (R455): the idle timeout of a session ends. -/
def execIdleTimeout (el : Nat) (ctl : CtlNo) (sess : Fin 4) (s : State) : Out := s.run el (idleTimeout (sessionKey ctl sess))

/-- PENDING_TIMER (R447): a request has waited 100 ms. -/
def execPendingTimer (el : Nat) (ctl : CtlNo) (sess : Fin 4) (tag : Byte) (s : State) : Out :=
  s.run el (pendingTimer (sessionKey ctl sess) tag.toNat)

/-- MALFORMED_REQUEST (R442): a header that is refused. -/
def execMalformedRequest (el : Nat) (ctl : CtlNo) (sess : Fin 4) (tag op : Byte) (pid : BitVec 16) (inst : BitVec 32) (kind : Malformed) (s : State) : Out :=
  s.run el (malformedRequest (sessionKey ctl sess) tag.toNat op.toNat pid.toNat inst.toNat kind)

/-- SUBSCRIPTION_COMPARE (R451): the 10 ms comparison. -/
def execSubscriptionCompare (el : Nat) (stalled : BitVec 4) (s : State) : Out := s.run el (subscriptionCompare stalled.toNat)

/-- EVENT_OVERFLOW_SUSTAINED (R462): event overflows of a session go on. -/
def execEventOverflowSustained (el : Nat) (sess : Fin 4) (s : State) : Out := s.run el (fun s => s.sustained 212 sess.val 400000000 100)

/-- FLUSH_COMPLETE (R211): the flush of a session ends. -/
def execFlushComplete (el : Nat) (ctl : CtlNo) (sess : Fin 4) (s : State) : Out :=
  s.run el (fun s => (flushComplete (sessionKey ctl sess) s).settle)

/-- BULK_LOAD_COMPLETE (R212): a bulk load ends. -/
def execBulkLoadComplete (el : Nat) (s : State) : Out := s.run el (fun s => (bulkLoadComplete s).settle)

/-- ACTIVATION_STANDBY_READY (R460): the booting controller is ready. -/
def execActivationStandbyReady (el : Nat) (s : State) : Out := s.run el (fun s => (activationStandbyReady s).settle)

/-- ACTIVATION_TIMEOUT (R460): the booting controller is not ready within 300 s. -/
def execActivationTimeout (el : Nat) (s : State) : Out := s.run el (fun s => (activationTimeout s).settle)

end Sys2Proof.Machine
end

