-- ==== Sys2Proof/Machine/Complete.lean ====
section
/-! DEFINITION. The switchover of control (11 R346 to R352; 05 R163; 14 R456), and the events that complete requests. -/

namespace Sys2Proof.Machine

/-! ### Requests that are cut off (R352, R456) -/

/-- A request goes on through a switchover: an accepted ROLE_SWAP, FW_ACTIVATE or PLANE_RESEED (R456). -/
def Request.outlives (r : Request) : Bool := r.accepted && (r.op == 0x30 || r.op == 0x31 || r.op == 0x51)

/-- Every other outstanding request of a controller's sessions is answered FAILOVER. -/
def State.failRequests (s : State) (c : Nat) : State :=
  (List.range 4).foldl (fun s j =>
    ((s.session (4 * c + j)).requests.filter (fun r => !r.outlives)).foldl (fun s r => s.reply (4 * c + j) r stFailover []) s) s

/-- TOKEN_RELEASE (R346, R352): in a role swap the holder answers what is left FAILOVER and releases the token. -/
def tokenRelease (c : Nat) (s : State) : State :=
  if s.holder = some c ∧ s.swap.isSome = true then (((s.failRequests c).cutChannels c).loseSlowPath c).wr 0x0302 0 0 else s

/-- TOKEN_RELEASE (R346). -/
def execTokenRelease (el : Nat) (ctl : CtlNo) (s : State) : Out := s.run el (tokenRelease ctl.val)

/-! ### Sessions at a switchover (R456) -/

/-- A requester whose session moves from controller `o` to `c`. -/
def Who.moved (w : Who) (o c : Nat) (s : State) : Who :=
  if w.key / 4 = o ∧ w.gen = (s.session w.key).gen then
    ⟨4 * c + w.key % 4, max (s.session w.key).gen (s.session (4 * c + w.key % 4)).gen + 1, w.tag⟩
  else w

/-- The sessions of controller `o` go on at controller `c`, whose own are closed; the operations that go on keep their requesters. -/
def State.moveSessions (s : State) (o c : Nat) : State :=
  let mv (w : Option Who) : Option Who := w.map (fun x => x.moved o c s)
  let one (t : State) (j : Nat) : State :=
    let x := s.session (4 * o + j)
    let y := s.session (4 * c + j)
    (t.updSession (4 * c + j) (fun _ => if x.isOpen then { x with gen := max x.gen y.gen + 1, bundle := none, queue := [] } else y.closed)).updSession
      (4 * o + j) Session.closed
  let t := { s with
    fw := { s.fw with who := mv s.fw.who }
    swap := s.swap.map (fun x => { x with who := mv x.who })
    reseed := s.reseed.map (fun x => { x with who := mv x.who }) }
  (List.range 4).foldl one t

/-- A subscription sends a resync event with its current values, or a final one where it cannot be served (R452, R456). -/
def State.resyncSub (s : State) (k n : Nat) : State :=
  match Tab.find? (s.session k).subs n with
  | some b =>
    match Catalogue.row? b.pid with
    | some row =>
      if s.rangeStatus (s.session k).role b.pid row b.inst b.count ≠ stOk then
        (s.queueEvent k n 4 false).updSession k (fun x => { x with subs := Tab.del x.subs n })
      else
        let (s, vals) := s.subValues b.pid b.inst b.count
        (s.updSession k (fun x => { x with subs := Tab.set x.subs n { b with vals := vals } })).queueEvent k n 1 true
    | none => s
  | none => s

/-- Every subscription of a controller's sessions sends its resync event. -/
def State.resyncSubs (s : State) (c : Nat) : State :=
  (List.range 4).foldl (fun s j =>
    let k := 4 * c + j
    ((s.session k).subs.foldl (fun s b => s.resyncSub k b.1) s).sendQueued k (fun _ => true)) s

/-! ### SWITCHOVER -/

/-- What a switchover cuts off in the controllers: flushes, which have removed part of their entries, bulk loads and snapshots, and a
stage that is receiving (06 R213). -/
def State.cutWork (s : State) : State := { s.flushes.foldl State.stopFlush s.dropStage with flushes := [], bulks := [], snaps := [] }

/-- A ready standby takes over (R349, R352): the sessions go on. -/
def State.takeReady (s : State) (o c : Nat) : State :=
  let s := (s.failRequests o).moveSessions o c
  (s.settleAll).resyncSubs c

/-- A controller that is not ready takes over (R351): connections are reset, the fault record comes from flash, and an activation
under way is reverted. -/
def State.takeUnready (s : State) (o c : Nat) : State :=
  let s := { (s.closeSessions o).closeSessions c with faults := s.faults.filter (fun e => e.1 == 168 || e.1 == 173) }
  let s := ((s.restoreFaults c).inc 0x031F 0).updPower (fun q => { q with record := (s.flashOf c).stored, recordGen := (s.flashOf c).gen })
  if s.fw.step = 0 then s else s.revert

/-- A swap ends: the former active controller, where it still runs, is standby. -/
def State.endSwap (s : State) (o : Nat) : State :=
  match s.swap with
  | some x =>
    let t := { s with swap := none }
    (if s.ctlState o = 5 then (t.inc 0x030C 0).becomeStandby o else t).owe x.who stOk []
  | none => s

/-- Cause and beginning of a switchover (PIDs 0306h, 0308h). -/
def State.switchCause (s : State) (o : Nat) : Nat × Nat :=
  match s.swap with
  | some x => if s.ctlState o = 5 then (x.cause, x.since) else (1, (s.ctl o).lastPulse)
  | none => (1, (s.ctl o).lastPulse)

/-- SWITCHOVER (R349, R351, R352): the controller that was granted the token takes the control functions over; `acked` where it had
acknowledged phase 1 of the commit under way as a ready standby (05 R163). -/
def switchover (acked : Bool) (s : State) : State :=
  match s.holder with
  | some c =>
    let o := 1 - c
    let v := s.ctlState c
    if 2 ≤ v ∧ v ≤ 4 then
      let (cause, since) := s.switchCause o
      let other := s.rd 0x0300 0 != c && s.rd 0x0300 0 != 0xFF
      let s := ((s.wr 0x0300 0 c).wr 0x0301 c 5).takeCommit (acked && v == 4) |>.cutWork
      let s := if v = 4 then s.takeReady o c else s.takeUnready o c
      let s := { s with departures := [] }.restartChannels c
      let s := if other then (((s.inc 0x0305 0).wr 0x0306 0 cause).stamp 0x0307 0).wr 0x0308 0 ((s.clk - since) / 400) else s
      let s := s.endSwap o
      if v = 4 ∧ (s.fw.step = 1 ∨ s.fw.step = 2) then s.bootStaged o 3 else s
    else s
  | none => s

/-- SWITCHOVER (R349). -/
def execSwitchover (takeover : Takeover) (s : State) : Out :=
  s.run takeover.ticks (fun s => (switchover takeover.acked s).settle)

/-! ### Events that complete requests -/

/-- DOMAIN_POWERED (03 R64). -/
def execDomainPowered (el : Nat) (dom : Fin 13) (s : State) : Out :=
  s.runRC el (fun s => let (s, n) := domainPowered dom.val s; (s.settle, n))

/-- DOMAIN_POWER_DOWN_COMPLETE (03 R85). -/
def execDomainPowerDownComplete (el : Nat) (dom : Fin 10) (s : State) : Out := s.run el (fun s => (domainPowerDownComplete dom.val s).settle)

/-- POWER_DOMAIN_LOSS (01 R17). -/
def execPowerDomainLoss (el : Nat) (dom : Fin 12) (s : State) : Out := s.run el (fun s => (powerDomainLoss dom.val s).settle)

/-- JUDGEMENT_WINDOW (R339). -/
def execJudgementWindow (el : Nat) (s : State) : Out := s.run el (fun s => (judgementWindow s).settle)

/-- ACTIVATION_CHECK (05 R166). -/
def execActivationCheck (el : Nat) (s : State) : Out := s.run el (fun s => (activationCheck s).settle)

/-- PLANE_JOIN (R338). -/
def execPlaneJoin (el : Nat) (plane : PlaneNo) (s : State) : Out := s.run el (fun s => (planeJoin plane.val s).settle)

/-- RESEED_TIMEOUT (R341). -/
def execReseedTimeout (el : Nat) (plane : PlaneNo) (s : State) : Out := s.run el (fun s => (reseedTimeout plane.val s).settle)

/-- MIRROR_TIMEOUT (R350). -/
def execMirrorTimeout (el : Nat) (s : State) : Out := s.run el (fun s => (mirrorTimeout s).settle)

/-- RESYNCHRONISATION_COMPLETE (R350). -/
def execResynchronisationComplete (el : Nat) (s : State) : Out := s.run el (fun s => (resynchronisationComplete s).settle)

/-- COMMIT_PHASE1_ACK (05 R157). -/
def execCommitPhase1Ack (el : Nat) (s : State) : Out := s.run el (fun s => (s.ackCommit).settle)

/-- SNAPSHOT_LATCH (17 R509). -/
def execSnapshotLatch (el : Nat) (s : State) : Out := s.run el (fun s => (snapshotLatch s).settle)

end Sys2Proof.Machine
end

