-- ==== Sys2Proof/Machine/Dispatch.lean ====
section
/-! DEFINITION. One arm per command; a command whose meaning is not written yet is refused by its name. -/

namespace Sys2Proof.Machine

/-- The effect of a command on everything but the queue. -/
def exec (i : Instr) (s : State) : Host.Outcome State Fault Refusal :=
  match i with
  | .mainsApplied el psu tc volts => Sys2Proof.Machine.execMainsApplied el psu tc volts s
  | .psuStop el psu volts => Sys2Proof.Machine.execPsuStop el psu volts s
  | .psuResume el psu volts => Sys2Proof.Machine.execPsuResume el psu volts s
  | .psuOvervoltageShutdown el psu volts => Sys2Proof.Machine.execPsuOvervoltageShutdown el psu volts s
  | .shortDip el psu => Sys2Proof.Machine.execShortDip el psu s
  | .lastGasp el => Sys2Proof.Machine.execLastGasp el s
  | .shutdownPowerDown el => Sys2Proof.Machine.execShutdownPowerDown el s
  | .domainPowered el dom => Sys2Proof.Machine.execDomainPowered el dom s
  | .controllerBoot el ctl bank0 bank1 recordOk faultsOk => Sys2Proof.Machine.execControllerBoot el ctl bank0 bank1 recordOk faultsOk s
  | .enterFooting el => Sys2Proof.Machine.execEnterFooting el s
  | .enterSill el => Sys2Proof.Machine.execEnterSill el s
  | .selfTestComplete el plane pass => Sys2Proof.Machine.execSelfTestComplete el plane pass s
  | .secondPlaneTimeout el => Sys2Proof.Machine.execSecondPlaneTimeout el s
  | .selfTestRetry el => Sys2Proof.Machine.execSelfTestRetry el s
  | .enterBonded el => Sys2Proof.Machine.execEnterBonded el s
  | .bundleRearm el => Sys2Proof.Machine.execBundleRearm el s
  | .kilnReady el => Sys2Proof.Machine.execKilnReady el s
  | .kilnWarmUpOverrun el => Sys2Proof.Machine.execKilnWarmUpOverrun el s
  | .enterToppedOut el => Sys2Proof.Machine.execEnterToppedOut el s
  | .stageFallBack el => Sys2Proof.Machine.execStageFallBack el s
  | .sillHold el q => Sys2Proof.Machine.execSillHold el q s
  | .moduleReset el q => Sys2Proof.Machine.execModuleReset el q s
  | .controllerReset el q => Sys2Proof.Machine.execControllerReset el q s
  | .domainPowerDown el q => Sys2Proof.Machine.execDomainPowerDown el q s
  | .domainPowerUp el q => Sys2Proof.Machine.execDomainPowerUp el q s
  | .domainCycle el q => Sys2Proof.Machine.execDomainCycle el q s
  | .domainPowerDownComplete el dom => Sys2Proof.Machine.execDomainPowerDownComplete el dom s
  | .portEnable el q => Sys2Proof.Machine.execPortEnable el q s
  | .portDisable el q => Sys2Proof.Machine.execPortDisable el q s
  | .portSpeedFecChange el q fec => Sys2Proof.Machine.execPortSpeedFecChange el q fec s
  | .linkDown el port status => Sys2Proof.Machine.execLinkDown el port status s
  | .linkUp el port status => Sys2Proof.Machine.execLinkUp el port status s
  | .laserSwapWearOut el port rise => Sys2Proof.Machine.execLaserSwapWearOut el port rise s
  | .laserLossOfOutput el port => Sys2Proof.Machine.execLaserLossOfOutput el port s
  | .swapRequest el q => Sys2Proof.Machine.execSwapRequest el q s
  | .swapHitEnd el port => Sys2Proof.Machine.execSwapHitEnd el port s
  | .spareWarmed el group => Sys2Proof.Machine.execSpareWarmed el group s
  | .portGroupOvertemperature el group temp => Sys2Proof.Machine.execPortGroupOvertemperature el group temp s
  | .frameArrival el port head frac => Sys2Proof.Machine.execFrameArrival el port head frac s
  | .frameEnd el port rest fcsGood => Sys2Proof.Machine.execFrameEnd el port rest fcsGood s
  | .macControlFrame el port bytes fcsGood => Sys2Proof.Machine.execMacControlFrame el port bytes fcsGood s
  | .pauseTimerExpiry el port prio => Sys2Proof.Machine.execPauseTimerExpiry el port prio s
  | .pfcWatchdog el port prio => Sys2Proof.Machine.execPfcWatchdog el port prio s
  | .pfcRefresh el port prio => Sys2Proof.Machine.execPfcRefresh el port prio s
  | .bucketReset el q => Sys2Proof.Machine.execBucketReset el q s
  | .policerMemoryError el policer => Sys2Proof.Machine.execPolicerMemoryError el policer s
  | .controllerPathLimitFault el group => Sys2Proof.Machine.execControllerPathLimitFault el group s
  | .stepDownRequest el port => Sys2Proof.Machine.execStepDownRequest el port s
  | .stepUpRequest el port cause => Sys2Proof.Machine.execStepUpRequest el port cause s
  | .stepMessage el port company version msg exchange target => Sys2Proof.Machine.execStepMessage el port company version msg exchange target s
  | .stepNegotiationTimeout el port => Sys2Proof.Machine.execStepNegotiationTimeout el port s
  | .stepLock el port => Sys2Proof.Machine.execStepLock el port s
  | .stepFailure el port => Sys2Proof.Machine.execStepFailure el port s
  | .steppingFailedClear el q => Sys2Proof.Machine.execSteppingFailedClear el q s
  | .frameClassify el plane turn => Sys2Proof.Machine.execFrameClassify el plane turn s
  | .frameTileWrite el plane turn => Sys2Proof.Machine.execFrameTileWrite el plane turn s
  | .secondPass el plane turn => Sys2Proof.Machine.execSecondPass el plane turn s
  | .cacheRefill el plane pipe => Sys2Proof.Machine.execCacheRefill el plane pipe s
  | .schedulerSelect el plane port => Sys2Proof.Machine.execSchedulerSelect el plane port s
  | .creditReport el => Sys2Proof.Machine.execCreditReport el s
  | .copyReadoutComplete el plane output => Sys2Proof.Machine.execCopyReadoutComplete el plane output s
  | .agerVisit el plane queue => Sys2Proof.Machine.execAgerVisit el plane queue s
  | .queueFlush el q => Sys2Proof.Machine.execQueueFlush el q s
  | .linkMemoryError el plane tile uncorrectable => Sys2Proof.Machine.execLinkMemoryError el plane tile uncorrectable s
  | .scrubStart el plane => Sys2Proof.Machine.execScrubStart el plane s
  | .scrubRequest el q => Sys2Proof.Machine.execScrubRequest el q s
  | .scrubEnd el plane => Sys2Proof.Machine.execScrubEnd el plane s
  | .controllerBufferFree el ctl addr client => Sys2Proof.Machine.execControllerBufferFree el ctl addr client s
  | .handOver el ctl addr giver taker => Sys2Proof.Machine.execHandOver el ctl addr giver taker s
  | .learnApply el plane => Sys2Proof.Machine.execLearnApply el plane s
  | .freezeExpiry el plane slot => Sys2Proof.Machine.execFreezeExpiry el plane slot s
  | .ageScan el plane => Sys2Proof.Machine.execAgeScan el plane s
  | .learnOverflowFault el plane => Sys2Proof.Machine.execLearnOverflowFault el plane s
  | .exactMatchMemoryError el plane slot => Sys2Proof.Machine.execExactMatchMemoryError el plane slot s
  | .ruleMemoryError el plane rule => Sys2Proof.Machine.execRuleMemoryError el plane rule s
  | .slowPathResolve el => Sys2Proof.Machine.execSlowPathResolve el s
  | .slowPathLimitFault el plane => Sys2Proof.Machine.execSlowPathLimitFault el plane s
  | .filterRebuild el q => Sys2Proof.Machine.execFilterRebuild el q s
  | .staticEntrySet el q => Sys2Proof.Machine.execStaticEntrySet el q s
  | .nextHopSet el q => Sys2Proof.Machine.execNextHopSet el q s
  | .ecmpGroupSet el q => Sys2Proof.Machine.execEcmpGroupSet el q s
  | .rewriteSet el q => Sys2Proof.Machine.execRewriteSet el q s
  | .quietPeriodExpiry el => Sys2Proof.Machine.execQuietPeriodExpiry el s
  | .tblSearch el q => Sys2Proof.Machine.execTblSearch el q s
  | .tblNext el q => Sys2Proof.Machine.execTblNext el q s
  | .tblInsert el q => Sys2Proof.Machine.execTblInsert el q s
  | .tblDelete el q => Sys2Proof.Machine.execTblDelete el q s
  | .tblFlushPort el q => Sys2Proof.Machine.execTblFlushPort el q s
  | .flushComplete el ctl sess => Sys2Proof.Machine.execFlushComplete el ctl sess s
  | .tblBulkLoad el q last => Sys2Proof.Machine.execTblBulkLoad el q last s
  | .bulkLoadComplete el => Sys2Proof.Machine.execBulkLoadComplete el s
  | .tblBulkRead el q => Sys2Proof.Machine.execTblBulkRead el q s
  | .courseHorizon el => Sys2Proof.Machine.execCourseHorizon el s
  | .courseOpen el => Sys2Proof.Machine.execCourseOpen el s
  | .courseClose el => Sys2Proof.Machine.execCourseClose el s
  | .courseSettled el => Sys2Proof.Machine.execCourseSettled el s
  | .bankSwap el q => Sys2Proof.Machine.execBankSwap el q s
  | .bankSwapEffect el port => Sys2Proof.Machine.execBankSwapEffect el port s
  | .coursingSuspend el => Sys2Proof.Machine.execCoursingSuspend el s
  | .coursingResume el => Sys2Proof.Machine.execCoursingResume el s
  | .shaperRefill el => Sys2Proof.Machine.execShaperRefill el s
  | .shaperMemoryError el plane shaper => Sys2Proof.Machine.execShaperMemoryError el plane shaper s
  | .configurationChangeRequest el q => Sys2Proof.Machine.execConfigurationChangeRequest el q s
  | .configurationChange el port => Sys2Proof.Machine.execConfigurationChange el port s
  | .gateListEnable el q => Sys2Proof.Machine.execGateListEnable el q s
  | .gateListDisable el q => Sys2Proof.Machine.execGateListDisable el q s
  | .gateEdge el port => Sys2Proof.Machine.execGateEdge el port s
  | .samplerVisit el plane queue => Sys2Proof.Machine.execSamplerVisit el plane queue s
  | .clearSlotCounts el q => Sys2Proof.Machine.execClearSlotCounts el q s
  | .bondCopyHead el port plane check frac => Sys2Proof.Machine.execBondCopyHead el port plane check frac s
  | .bondCopyEnd el port plane intact => Sys2Proof.Machine.execBondCopyEnd el port plane intact s
  | .bondTimeBound el port => Sys2Proof.Machine.execBondTimeBound el port s
  | .retiredKeyExpiry el port => Sys2Proof.Machine.execRetiredKeyExpiry el port s
  | .bondDropsSustained el port => Sys2Proof.Machine.execBondDropsSustained el port s
  | .recoveryResetTimeout el f => Sys2Proof.Machine.execRecoveryResetTimeout el f s
  | .recoveryReset el q => Sys2Proof.Machine.execRecoveryReset el q s
  | .sequenceReset el q => Sys2Proof.Machine.execSequenceReset el q s
  | .judgementWindow el => Sys2Proof.Machine.execJudgementWindow el s
  | .activationCheck el => Sys2Proof.Machine.execActivationCheck el s
  | .reseedComplete el plane => Sys2Proof.Machine.execReseedComplete el plane s
  | .planeJoin el plane => Sys2Proof.Machine.execPlaneJoin el plane s
  | .reseedTimeout el plane => Sys2Proof.Machine.execReseedTimeout el plane s
  | .planeReseed el q => Sys2Proof.Machine.execPlaneReseed el q s
  | .roleSwap el q => Sys2Proof.Machine.execRoleSwap el q s
  | .scheduledRoleSwap el => Sys2Proof.Machine.execScheduledRoleSwap el s
  | .heartbeatLoss el ctl => Sys2Proof.Machine.execHeartbeatLoss el ctl s
  | .watchdogExpiry el ctl => Sys2Proof.Machine.execWatchdogExpiry el ctl s
  | .dramUncorrectable el ctl => Sys2Proof.Machine.execDramUncorrectable el ctl s
  | .tokenRequest el ctl tie => Sys2Proof.Machine.execTokenRequest el ctl tie s
  | .tokenRelease el ctl => Sys2Proof.Machine.execTokenRelease el ctl s
  | .controllerIsolation el ctl => Sys2Proof.Machine.execControllerIsolation el ctl s
  | .controllerPairCycle el => Sys2Proof.Machine.execControllerPairCycle el s
  | .switchover takeover => Sys2Proof.Machine.execSwitchover takeover s
  | .mirrorTimeout el => Sys2Proof.Machine.execMirrorTimeout el s
  | .resynchronisationComplete el => Sys2Proof.Machine.execResynchronisationComplete el s
  | .tripleSwitch el => Sys2Proof.Machine.execTripleSwitch el s
  | .localCopyCheck el copy diff => Sys2Proof.Machine.execLocalCopyCheck el copy diff s
  | .timebaseMismatch el vote => Sys2Proof.Machine.execTimebaseMismatch el vote s
  | .domainKLoss el => Sys2Proof.Machine.execDomainKLoss el s
  | .sourceUpdate el source => Sys2Proof.Machine.execSourceUpdate el source s
  | .sourceQualified el source => Sys2Proof.Machine.execSourceQualified el source s
  | .servoLock el => Sys2Proof.Machine.execServoLock el s
  | .holdoverUpdate el => Sys2Proof.Machine.execHoldoverUpdate el s
  | .manualStep el q => Sys2Proof.Machine.execManualStep el q s
  | .manualRate el q => Sys2Proof.Machine.execManualRate el q s
  | .leapSecond el => Sys2Proof.Machine.execLeapSecond el s
  | .syncReceived el port bytes rc frac => Sys2Proof.Machine.execSyncReceived el port bytes rc frac s
  | .followUpReceived el port bytes => Sys2Proof.Machine.execFollowUpReceived el port bytes s
  | .delayReqReceived el port bytes rc frac => Sys2Proof.Machine.execDelayReqReceived el port bytes rc frac s
  | .delayRespReceived el port bytes => Sys2Proof.Machine.execDelayRespReceived el port bytes s
  | .announceReceived el port bytes => Sys2Proof.Machine.execAnnounceReceived el port bytes s
  | .signalingReceived el port bytes => Sys2Proof.Machine.execSignalingReceived el port bytes s
  | .ptpMessageDiscard el port bytes => Sys2Proof.Machine.execPtpMessageDiscard el port bytes s
  | .syncInterval el port => Sys2Proof.Machine.execSyncInterval el port s
  | .delayReqInterval el port => Sys2Proof.Machine.execDelayReqInterval el port s
  | .announceInterval el port => Sys2Proof.Machine.execAnnounceInterval el port s
  | .announceReceiptTimeout el port => Sys2Proof.Machine.execAnnounceReceiptTimeout el port s
  | .unicastGrantRequest el port => Sys2Proof.Machine.execUnicastGrantRequest el port s
  | .departureRecord el port => Sys2Proof.Machine.execDepartureRecord el port s
  | .esmcReceived el port bytes => Sys2Proof.Machine.execEsmcReceived el port bytes s
  | .qlTimeout el port => Sys2Proof.Machine.execQlTimeout el port s
  | .esmcTransmit el => Sys2Proof.Machine.execEsmcTransmit el s
  | .dpllSelection el port ppb => Sys2Proof.Machine.execDpllSelection el port ppb s
  | .waitToRestoreExpiry el port => Sys2Proof.Machine.execWaitToRestoreExpiry el port s
  | .synceQualified el => Sys2Proof.Machine.execSynceQualified el s
  | .gnssPps el frac second state used tracked cn0 integrity utc leap => Sys2Proof.Machine.execGnssPps el frac second state used tracked cn0 integrity utc leap s
  | .surveyComplete el position => Sys2Proof.Machine.execSurveyComplete el position s
  | .antennaCondition el current => Sys2Proof.Machine.execAntennaCondition el current s
  | .antennaBiasRetry el => Sys2Proof.Machine.execAntennaBiasRetry el s
  | .modelReady el => Sys2Proof.Machine.execModelReady el s
  | .modelStore el => Sys2Proof.Machine.execModelStore el s
  | .modelReset el q => Sys2Proof.Machine.execModelReset el q s
  | .timedOutputEdge el out => Sys2Proof.Machine.execTimedOutputEdge el out s
  | .captureEdge el input frac falling => Sys2Proof.Machine.execCaptureEdge el input frac falling s
  | .captureRingClear el q => Sys2Proof.Machine.execCaptureRingClear el q s
  | .todMessage el => Sys2Proof.Machine.execTodMessage el s
  | .todRxMessage el bytes => Sys2Proof.Machine.execTodRxMessage el bytes s
  | .resonatorVote el r0 r1 r2 => Sys2Proof.Machine.execResonatorVote el r0 r1 r2 s
  | .ovenOutOfRegulation el temp => Sys2Proof.Machine.execOvenOutOfRegulation el temp s
  | .rootPllUnlock el dom ppb => Sys2Proof.Machine.execRootPllUnlock el dom ppb s
  | .fallbackReturn el dom => Sys2Proof.Machine.execFallbackReturn el dom s
  | .forcedSwitch el dom => Sys2Proof.Machine.execForcedSwitch el dom s
  | .loadMeasurement el plane loads => Sys2Proof.Machine.execLoadMeasurement el plane loads s
  | .dividerRampStep el plane => Sys2Proof.Machine.execDividerRampStep el plane s
  | .meterMeasurementComplete el ch nm nr => Sys2Proof.Machine.execMeterMeasurementComplete el ch nm nr s
  | .gateControlSet el q => Sys2Proof.Machine.execGateControlSet el q s
  | .forcedGateClose el gate => Sys2Proof.Machine.execForcedGateClose el gate s
  | .sessionOpen el ctl m0 cert => Sys2Proof.Machine.execSessionOpen el ctl m0 cert s
  | .enrolmentCode el q => Sys2Proof.Machine.execEnrolmentCode el q s
  | .sessionClose el ctl sess => Sys2Proof.Machine.execSessionClose el ctl sess s
  | .idleTimeout el ctl sess => Sys2Proof.Machine.execIdleTimeout el ctl sess s
  | .malformedRequest el ctl sess tag op pid inst kind => Sys2Proof.Machine.execMalformedRequest el ctl sess tag op pid inst kind s
  | .pendingTimer el ctl sess tag => Sys2Proof.Machine.execPendingTimer el ctl sess tag s
  | .get el q pid => Sys2Proof.Machine.execGet el q pid s
  | .set el q pid => Sys2Proof.Machine.execSet el q pid s
  | .getRange el q pid => Sys2Proof.Machine.execGetRange el q pid s
  | .commit el q => Sys2Proof.Machine.execCommit el q s
  | .commitPhase1Ack el => Sys2Proof.Machine.execCommitPhase1Ack el s
  | .abortBundle el q => Sys2Proof.Machine.execAbortBundle el q s
  | .defaultTenantCommit el q which => Sys2Proof.Machine.execDefaultTenantCommit el q which s
  | .slotActivate el slot => Sys2Proof.Machine.execSlotActivate el slot s
  | .slotFree el slot => Sys2Proof.Machine.execSlotFree el slot s
  | .versionStall el slot => Sys2Proof.Machine.execVersionStall el slot s
  | .cancelArmedSlot el q => Sys2Proof.Machine.execCancelArmedSlot el q s
  | .fence el q => Sys2Proof.Machine.execFence el q s
  | .ping el q => Sys2Proof.Machine.execPing el q s
  | .subscribe el q pid => Sys2Proof.Machine.execSubscribe el q pid s
  | .unsubscribe el q pid => Sys2Proof.Machine.execUnsubscribe el q pid s
  | .subscriptionCompare el stalled => Sys2Proof.Machine.execSubscriptionCompare el stalled s
  | .eventOverflowSustained el sess => Sys2Proof.Machine.execEventOverflowSustained el sess s
  | .counterSnapshot el q pid => Sys2Proof.Machine.execCounterSnapshot el q pid s
  | .snapshotLatch el => Sys2Proof.Machine.execSnapshotLatch el s
  | .clearAllCounters el q => Sys2Proof.Machine.execClearAllCounters el q s
  | .counterMemoryError el pid inst => Sys2Proof.Machine.execCounterMemoryError el pid inst s
  | .highWaterReset el q which => Sys2Proof.Machine.execHighWaterReset el q which s
  | .faultRead el q => Sys2Proof.Machine.execFaultRead el q s
  | .faultClear el q => Sys2Proof.Machine.execFaultClear el q s
  | .clearAllEntries el q => Sys2Proof.Machine.execClearAllEntries el q s
  | .recordWrite el fail => Sys2Proof.Machine.execRecordWrite el fail s
  | .fwStage el q last => Sys2Proof.Machine.execFwStage el q last s
  | .fwActivate el q => Sys2Proof.Machine.execFwActivate el q s
  | .activationStandbyReady el => Sys2Proof.Machine.execActivationStandbyReady el s
  | .activationTimeout el => Sys2Proof.Machine.execActivationTimeout el s
  | .hodDescriptor el chan base sizeLog tail desc => Sys2Proof.Machine.execHodDescriptor el chan base sizeLog tail desc s
  | .descriptorComplete el chan result => Sys2Proof.Machine.execDescriptorComplete el chan result s
  | .targetTimeout el chan => Sys2Proof.Machine.execTargetTimeout el chan s
  | .hodPause el q => Sys2Proof.Machine.execHodPause el q s
  | .hodResume el q => Sys2Proof.Machine.execHodResume el q s
  | .hodAbandon el q => Sys2Proof.Machine.execHodAbandon el q s
  | .hodPowerDownAbort el chan => Sys2Proof.Machine.execHodPowerDownAbort el chan s
  | .controllerCopyReceived el ctl plane core ring => Sys2Proof.Machine.execControllerCopyReceived el ctl plane core ring s
  | .receiveWindowTimeBound el ctl => Sys2Proof.Machine.execReceiveWindowTimeBound el ctl s
  | .receiveDropsSustained el ctl => Sys2Proof.Machine.execReceiveDropsSustained el ctl s
  | .frameInjection el ctl head bytes => Sys2Proof.Machine.execFrameInjection el ctl head bytes s
  | .bypassSenseChange el closed => Sys2Proof.Machine.execBypassSenseChange el closed s
  | .historyLatchRead el => Sys2Proof.Machine.execHistoryLatchRead el s
  | .latchClockSet el => Sys2Proof.Machine.execLatchClockSet el s
  | .cartridgePowerUp el fresh clock ok => Sys2Proof.Machine.execCartridgePowerUp el fresh clock ok s
  | .cartridgePowerDown el stop => Sys2Proof.Machine.execCartridgePowerDown el stop s
  | .intervalEnd el meas => Sys2Proof.Machine.execIntervalEnd el meas s
  | .firmwareSelfCheck el ok => Sys2Proof.Machine.execFirmwareSelfCheck el ok s
  | .coverSwitchOpened el => Sys2Proof.Machine.execCoverSwitchOpened el s
  | .cartridgeLinkUp el => Sys2Proof.Machine.execCartridgeLinkUp el s
  | .cartridgeLinkLost el => Sys2Proof.Machine.execCartridgeLinkLost el s
  | .recordFetch el channel result => Sys2Proof.Machine.execRecordFetch el channel result s
  | .disciplineMessage el drift meas => Sys2Proof.Machine.execDisciplineMessage el drift meas s
  | .stepAuthorisationLapse el => Sys2Proof.Machine.execStepAuthorisationLapse el s
  | .meterReadByInterval el q => Sys2Proof.Machine.execMeterReadByInterval el q s
  | .meterReadBySequence el q => Sys2Proof.Machine.execMeterReadBySequence el q s
  | .meterReadIdentity el q => Sys2Proof.Machine.execMeterReadIdentity el q s
  | .stepAuthorisation el q => Sys2Proof.Machine.execStepAuthorisation el q s
  | .meterLog el q => Sys2Proof.Machine.execMeterLog el q s
  | .opticalReadout el kind channel => Sys2Proof.Machine.execOpticalReadout el kind channel s
  | .verificationDue el => Sys2Proof.Machine.execVerificationDue el s
  | .psuOvervoltageResume el psu volts => Sys2Proof.Machine.execPsuOvervoltageResume el psu volts s
  | .psuFault el psu => Sys2Proof.Machine.execPsuFault el psu s
  | .powerDomainLoss el dom => Sys2Proof.Machine.execPowerDomainLoss el dom s
  | .peerHeartbeatSeen el ctl => Sys2Proof.Machine.execPeerHeartbeatSeen el ctl s
  | .sourceDisqualified el source => Sys2Proof.Machine.execSourceDisqualified el source s
  | .pfcWatchdogExpiry el port prio => Sys2Proof.Machine.execPfcWatchdogExpiry el port prio s
  | .filterRebuildComplete el => Sys2Proof.Machine.execFilterRebuildComplete el s
  | .latchRestart el => Sys2Proof.Machine.execLatchRestart el s
  | .channelOverload el channel amps => Sys2Proof.Machine.execChannelOverload el channel amps s
  | .channelVoltageOutOfRange el channel volts => Sys2Proof.Machine.execChannelVoltageOutOfRange el channel volts s

end Sys2Proof.Machine
end

