-- ==== Sys2Proof/Safety.lean ====
section
/-! DEFINITION. The terms in which the statements are written: the state a command leaves at its tick, a session that is ready for a
request, the answer to a request, and what is left alone. -/

/-- The session of a request. -/
def Sys2Proof.Req.key (q : Sys2Proof.Req) : Nat := Sys2Proof.Machine.sessionKey q.ctl q.sess

/-- The requester of a request, to whom its final answer goes. -/
def Sys2Proof.Req.who (q : Sys2Proof.Req) (s : Sys2Proof.Machine.State) : Sys2Proof.Machine.Who :=
  ⟨q.key, (s.session q.key).gen, q.tag.toNat⟩

namespace Sys2Proof.Machine

/-- The state that a command leaves `el` ticks after the one before it, whose effect gives `u`: RC, the elapsed time and the queue of
waiting commands are those of the tick (12 R364). -/
def State.ran (s : State) (el : Nat) (u : State) : State :=
  { u with rc := s.tickRC el, clk := s.clk + el, pending := s.pending }

/-- Every parameter reads as before, but for the instances listed. -/
def SameBut (keys : List (Nat × Nat)) (s t : State) : Prop :=
  ∀ p i, i < 2 ^ 32 → (p, i) ∉ keys → t.rd p i = s.rd p i

/-- A session on which the next request is carried out as it arrives (14 R445, R446, R448): it is open in a role and not an
enrolment session, its controller is active and hands nothing over, no session has an outstanding request, no answer is due, and no
commit is under way, and no fragment of its tag is being discarded. -/
abbrev Ready (s : State) (q : Req) (role : Nat) : Prop :=
  s.holder = some q.ctl.val ∧ s.ctlState q.ctl.val = 5 ∧ (s.ctl q.ctl.val).beats = true ∧ s.swap = none ∧
    s.committing = none ∧ s.owed = [] ∧ (∀ e ∈ s.sessions, e.2.requests = []) ∧
    (s.session (Req.key q)).isOpen = true ∧ (s.session (Req.key q)).role = role ∧ (s.session (Req.key q)).enrol = .no ∧
    (s.session (Req.key q)).skip.contains q.tag.toNat = false

/-- No request is outstanding and no answer is due: what ends with the answers that are due and the requests that can start changes
nothing more (14 R446). -/
abbrev Quiet (s : State) : Prop := s.owed = [] ∧ ∀ e ∈ s.sessions, e.2.requests = []

/-- A controller serves: it is active and hands nothing over, no request is outstanding, no answer is due, no commit is under way. -/
abbrev Serves (s : State) (c : Nat) : Prop :=
  s.holder = some c ∧ s.ctlState c = 5 ∧ (s.ctl c).beats = true ∧ s.swap = none ∧ s.committing = none ∧ Quiet s

/-- The fault bit is set in the fault record (17 R517). -/
abbrev Faulted (s : State) (bit : Nat) : Prop := (Tab.get FaultEntry.clear s.faults bit).set = true

/-- The module offers its full mailbox service: it is not at Sill (03 R68). -/
abbrev FullService (s : State) : Prop := s.rd 0x0100 0 ≠ 1

/-- No closed gate bars an instance of a parameter (13 R426). -/
abbrev Ungated (s : State) (pid inst : Nat) : Prop := ((Catalogue.row? pid).bind (fun row => s.gated row pid inst)) = none

/-- The request that a command spells, by the table's opcode and PID: its session and tag, opcode, PID, instance and payload
(14 R441); none for the commands that are events. -/
def spelledRequest : Instr → Option (Req × Nat × Nat × Nat × List Byte)
| .sillHold _ q => some (q, 0x02, 0x0108, q.inst.toNat, q.data)
  | .moduleReset _ q => some (q, 0x02, 0x0107, q.inst.toNat, [1])
  | .controllerReset _ q => some (q, 0x02, 0x0107, q.inst.toNat, [2])
  | .domainPowerDown _ q => some (q, 0x02, 0x010D, q.inst.toNat, [1])
  | .domainPowerUp _ q => some (q, 0x02, 0x010D, q.inst.toNat, [2])
  | .domainCycle _ q => some (q, 0x02, 0x010D, q.inst.toNat, [3])
  | .portEnable _ q => some (q, 0x02, 0x0800, q.inst.toNat, [1])
  | .portDisable _ q => some (q, 0x02, 0x0800, q.inst.toNat, [0])
  | .portSpeedFecChange _ q fec => some (q, 0x02, (if fec then 0x0802 else 0x0801), q.inst.toNat, q.data)
  | .swapRequest _ q => some (q, 0x02, 0x0813, q.inst.toNat, q.data)
  | .bucketReset _ q => some (q, 0x02, 0x0A1E, q.inst.toNat, q.data)
  | .steppingFailedClear _ q => some (q, 0x02, 0x084F, q.inst.toNat, q.data)
  | .queueFlush _ q => some (q, 0x02, 0x1A08, q.inst.toNat, q.data)
  | .scrubRequest _ q => some (q, 0x02, 0x1824, q.inst.toNat, q.data)
  | .filterRebuild _ q => some (q, 0x02, 0x143E, q.inst.toNat, q.data)
  | .staticEntrySet _ q => some (q, 0x02, 0x1414, q.inst.toNat, q.data)
  | .nextHopSet _ q => some (q, 0x02, 0x1420, q.inst.toNat, q.data)
  | .ecmpGroupSet _ q => some (q, 0x02, 0x1422, q.inst.toNat, q.data)
  | .rewriteSet _ q => some (q, 0x02, 0x1424, q.inst.toNat, q.data)
  | .tblSearch _ q => some (q, 0x10, 0x1400, q.inst.toNat, q.data)
  | .tblNext _ q => some (q, 0x11, 0x1400, q.inst.toNat, q.data)
  | .tblInsert _ q => some (q, 0x12, 0x1400, q.inst.toNat, q.data)
  | .tblDelete _ q => some (q, 0x13, 0x1400, q.inst.toNat, q.data)
  | .tblFlushPort _ q => some (q, 0x14, 0x1400, q.inst.toNat, q.data)
  | .tblBulkLoad _ q _ => some (q, 0x15, 0x1400, q.inst.toNat, q.data)
  | .tblBulkRead _ q => some (q, 0x16, 0x1400, q.inst.toNat, q.data)
  | .bankSwap _ q => some (q, 0x02, 0x1C06, q.inst.toNat, q.data)
  | .configurationChangeRequest _ q => some (q, 0x02, 0x2205, q.inst.toNat, q.data)
  | .gateListEnable _ q => some (q, 0x02, 0x2200, q.inst.toNat, [1])
  | .gateListDisable _ q => some (q, 0x02, 0x2200, q.inst.toNat, [0])
  | .clearSlotCounts _ q => some (q, 0x02, 0x240C, q.inst.toNat, q.data)
  | .recoveryReset _ q => some (q, 0x02, 0x2833, q.inst.toNat, q.data)
  | .sequenceReset _ q => some (q, 0x02, 0x282E, q.inst.toNat, q.data)
  | .planeReseed _ q => some (q, 0x30, 0, 0, q.data)
  | .roleSwap _ q => some (q, 0x31, 0, 0, q.data)
  | .manualStep _ q => some (q, 0x02, 0x3010, q.inst.toNat, q.data)
  | .manualRate _ q => some (q, 0x02, 0x3011, q.inst.toNat, q.data)
  | .modelReset _ q => some (q, 0x02, 0x340E, q.inst.toNat, q.data)
  | .captureRingClear _ q => some (q, 0x02, 0x3511, q.inst.toNat, q.data)
  | .gateControlSet _ q => some (q, 0x02, 0x0228, q.inst.toNat, q.data)
  | .enrolmentCode _ q => some (q, 0x02, 0x040A, q.inst.toNat, q.data)
  | .get _ q pid => some (q, 0x01, pid.toNat, q.inst.toNat, q.data)
  | .set _ q pid => some (q, 0x02, pid.toNat, q.inst.toNat, q.data)
  | .getRange _ q pid => some (q, 0x03, pid.toNat, q.inst.toNat, q.data)
  | .commit _ q => some (q, 0x04, 0, 0, q.data)
  | .abortBundle _ q => some (q, 0x05, 0, 0, q.data)
  | .defaultTenantCommit _ q which => some (q, 0x02, (0x101D + which.val), q.inst.toNat, q.data)
  | .cancelArmedSlot _ q => some (q, 0x02, 0x1032, q.inst.toNat, q.data)
  | .fence _ q => some (q, 0x06, 0, 0, q.data)
  | .ping _ q => some (q, 0x7F, 0, 0, q.data)
  | .subscribe _ q pid => some (q, 0x07, pid.toNat, q.inst.toNat, q.data)
  | .unsubscribe _ q pid => some (q, 0x08, pid.toNat, q.inst.toNat, q.data)
  | .counterSnapshot _ q pid => some (q, 0x20, pid.toNat, q.inst.toNat, q.data)
  | .clearAllCounters _ q => some (q, 0x02, 0x3C2D, q.inst.toNat, q.data)
  | .highWaterReset _ q which => some (q, 0x02, ((highWaterPids[which.val]?).getD 0), q.inst.toNat, q.data)
  | .faultRead _ q => some (q, 0x21, 0, 0, q.data)
  | .faultClear _ q => some (q, 0x22, 0, 0, q.data)
  | .clearAllEntries _ q => some (q, 0x02, 0x3E0D, q.inst.toNat, q.data)
  | .fwStage _ q _ => some (q, 0x50, 0, 0, q.data)
  | .fwActivate _ q => some (q, 0x51, 0, 0, q.data)
  | .hodPause _ q => some (q, 0x02, 0x3806, q.inst.toNat, q.data)
  | .hodResume _ q => some (q, 0x02, 0x3807, q.inst.toNat, [1])
  | .hodAbandon _ q => some (q, 0x02, 0x3807, q.inst.toNat, [2])
  | .meterReadByInterval _ q => some (q, 0x40, 0x400A, q.inst.toNat, (toBytes 1 0 ++ q.data))
  | .meterReadBySequence _ q => some (q, 0x40, 0x400A, q.inst.toNat, (toBytes 1 1 ++ q.data))
  | .meterReadIdentity _ q => some (q, 0x40, 0x400A, q.inst.toNat, (toBytes 1 2 ++ q.data))
  | .stepAuthorisation _ q => some (q, 0x40, 0x400A, q.inst.toNat, (toBytes 1 3 ++ q.data))
  | .meterLog _ q => some (q, 0x41, 0x401C, q.inst.toNat, q.data)
  | _ => none

/-- The answer to a request: a response, with flags A0h (14 R442). -/
def answer (q : Req) (op status pid inst : Nat) (payload : List Byte) : Msg :=
  ⟨q.ctl.val, 0xA0, q.sess.val, q.tag.toNat, op, status, pid, inst, payload⟩

/-- The message counters of a session, which every request and its answer raise (PID 0414h, 14 R461). -/
def mailCounters (q : Req) : List (Nat × Nat) := [(0x0414, 2 * q.sess.val), (0x0414, 2 * q.sess.val + 1)]

/-- A request is answered at once by one message, in its fragments (14 R443), and every parameter reads as before but for the session's message counters and the
instances listed. -/
def Answers (s t : State) (q : Req) (op status pid inst : Nat) (payload : List Byte) (keys : List (Nat × Nat)) : Prop :=
  t.out = s.out ++ (answer q op status pid inst payload).split ∧ SameBut (mailCounters q ++ keys) s t

/-- The latch after a change of its sense to `b`: recorded where it has its power, the oldest of 32 entries making room (02 R53). -/
abbrev LatchTakes (s t : State) (el : Nat) (b : Bool) : Prop :=
  t.latch.closed = b ∧
  t.latch.ring = (if (s.tick el).latchRuns then pushRing 32 s.latch.ring ⟨b, (s.tick el).latchSecond, !s.latch.valid, s.holder.isSome⟩ else s.latch.ring) ∧
  t.latch.overflow = (s.latch.overflow || ((s.tick el).latchRuns && decide (32 ≤ s.latch.ring.length) && s.latch.ring.head?.any (fun e => !e.read)))

/-- The cartridge after a change of the bypass sense to `b`: with its power it notes and logs the partial, and how long it lasted. -/
abbrev CartNotes (s t : State) (el : Nat) (b : Bool) : Prop :=
  (s.cart.on = false → t.cart = s.cart) ∧
  (s.cart.on = true → b = true → t.cart.partialAt = some (s.clk + el) ∧ t.cart.flags = s.cart.flags ||| 1 ∧
    t.cart.log = pushRing 1024 s.cart.log ⟨s.cart.nextLog, (s.tick el).cartUtc, 8, 0xFF, 0⟩) ∧
  (s.cart.on = true → b = false → t.cart.partialAt = none ∧
    t.cart.log = match s.cart.partialAt with
      | some p => pushRing 1024 s.cart.log ⟨s.cart.nextLog, (s.tick el).cartUtc, 9, 0xFF, ((s.clk + el - p) / 400000000 : Nat)⟩
      | none => s.cart.log)

/-- A discipline message is due (18 R533). -/
abbrev MessageDue (s : State) (el : Nat) : Prop :=
  s.linkUp? = true ∧ s.rd 0x400B 0 = 1 ∧ (s.tick el).disciplineTime = true ∧ s.bay.sentAt + s.rd 0x400C 0 * 400000000 ≤ s.clk + el

/-- What the cartridge's clock has gained by the message: the µs given, within 0.5 s in a day (18 R526), in ticks. -/
def clockGain (s : State) (el : Nat) (d : BitVec 32) : Int :=
  let most : Int := ((s.clk + el - s.bay.sentAt : Nat) : Int) / 172800
  max (-most) (min most (d.toInt * 400))

/-- The difference of the message from the cartridge's clock, in ticks (18 R534). -/
def messageDiff (s : State) (el : Nat) (d : BitVec 32) : Int :=
  floorDiv (s.time.triple.dtOf (s.tickRC el)) 163840 - ((s.tick el).cartTai + clockGain s el d)

/-- The cartridge takes the message: it has its power, the last one was 60 s ago, and no change of the offset is due (18 R533, R534). -/
abbrev TakesMessage (s : State) (el : Nat) : Prop :=
  MessageDue s el ∧ s.cart.on = true ∧ s.cart.heard.all (fun a => decide (a + 60 * 400000000 ≤ s.clk + el)) = true ∧
    (signed 16 (s.rd 0x3009 0) - s.cart.utcOff).natAbs ≠ 1

/-- An authorisation is pending for a difference, within 1 s of the last refused (18 R535). -/
def StepGranted (s : State) (el : Nat) (x : Int) : Bool :=
  s.cart.auth.any (fun a => decide (s.clk + el ≤ a + 600 * 400000000)) &&
    s.cart.refused.any (fun r => decide ((x - r.1).natAbs ≤ 400000000))

end Sys2Proof.Machine
end

