-- ==== Sys2Proof/Certificates/Slice0/Obligations.lean ====
section
/-! DEFINITION. The statements for the provers. Each names the rules of spec/ that it rests on. -/

open Sys2Proof Sys2Proof.Machine

/-- The events of a PSU input set its status, its voltage, its counters and its fault bits, and nothing else. A PSU that delivers stops
below 75 V, with its loss counted (PID 0122h) and recorded as fault bit 0 or 1; one that has stopped resumes above 80 V, up to 300
V; one above 300 V shuts down with fault bit 3 and resumes below 280 V, delivering where the input is 75 V or more; a PSU fault is
recorded as bit 2; a short dip of a PSU that delivers is counted (PID 0123h) and does not stop it. Each of these events changes
nothing where its condition does not hold. In each case the whole next state is given, so everything else is unchanged. The status
that an overvoltage resume gives below 75 V is the model's reading (notes/assumptions/76.md). (R42, R87, PID 011Ch, PID 0122h, PID
0123h, 17_counters R516.) -/
def Obligations.PowerSupplyEventsSetTheirStatus : Prop :=
  (∀ (s : State) (el : Nat) (p : Fin 2) (v : BitVec 16), s.psu p.val = 1 → v.toNat < 750 →
    exec (.psuStop el p v) s =
      .next (s.ran el (((((s.tick el).wr 0x011C p.val 0).wr 0x011D p.val v.toNat).inc 0x0122 p.val).fault p.val p.val))) ∧
  (∀ (s : State) (el : Nat) (p : Fin 2) (v : BitVec 16), s.psu p.val = 0 → 800 < v.toNat → v.toNat ≤ 3000 →
    exec (.psuResume el p v) s = .next (s.ran el (((s.tick el).wr 0x011C p.val 1).wr 0x011D p.val v.toNat))) ∧
  (∀ (s : State) (el : Nat) (p : Fin 2) (v : BitVec 16), s.psu p.val ≠ 2 → s.psu p.val ≠ 3 → 3000 < v.toNat →
    exec (.psuOvervoltageShutdown el p v) s =
      .next (s.ran el ((((s.tick el).wr 0x011C p.val 2).wr 0x011D p.val v.toNat).fault 3 p.val))) ∧
  (∀ (s : State) (el : Nat) (p : Fin 2) (v : BitVec 16), s.psu p.val = 2 → v.toNat < 2800 →
    exec (.psuOvervoltageResume el p v) s =
      .next (s.ran el (((s.tick el).wr 0x011C p.val (if 750 ≤ v.toNat then 1 else 0)).wr 0x011D p.val v.toNat))) ∧
  (∀ (s : State) (el : Nat) (p : Fin 2), s.psu p.val ≠ 3 →
    exec (.psuFault el p) s = .next (s.ran el (((s.tick el).wr 0x011C p.val 3).fault 2 p.val))) ∧
  (∀ (s : State) (el : Nat) (p : Fin 2), s.psu p.val = 1 →
    exec (.shortDip el p) s = .next (s.ran el ((s.tick el).inc 0x0123 p.val))) ∧
  (∀ (s : State) (el : Nat) (p : Fin 2), s.psu p.val ≠ 1 → exec (.shortDip el p) s = .next (s.tick el)) ∧
  (∀ (s : State) (el : Nat) (p : Fin 2) (v : BitVec 16), s.psu p.val ≠ 1 ∨ 750 ≤ v.toNat → exec (.psuStop el p v) s = .next (s.tick el)) ∧
  (∀ (s : State) (el : Nat) (p : Fin 2) (v : BitVec 16), s.psu p.val ≠ 0 ∨ v.toNat ≤ 800 ∨ 3000 < v.toNat →
    exec (.psuResume el p v) s = .next (s.tick el)) ∧
  (∀ (s : State) (el : Nat) (p : Fin 2) (v : BitVec 16), s.psu p.val = 2 ∨ s.psu p.val = 3 ∨ v.toNat ≤ 3000 →
    exec (.psuOvervoltageShutdown el p v) s = .next (s.tick el)) ∧
  (∀ (s : State) (el : Nat) (p : Fin 2) (v : BitVec 16), s.psu p.val ≠ 2 ∨ 2800 ≤ v.toNat →
    exec (.psuOvervoltageResume el p v) s = .next (s.tick el)) ∧
  (∀ (s : State) (el : Nat) (p : Fin 2), s.psu p.val = 3 → exec (.psuFault el p) s = .next (s.tick el))

/-- Mains applied restarts the module: what the power-on reset loses is at its start value, and flash is kept. On an unpowered module,
an input above 80 V starts it: both planes are empty, the ports, port groups, bond units, channels and buffers, the fault record in
RAM and the version slots are at their reset contents, no session of the table is open, RC has stopped and the time state is new;
both flashes, the cartridge and the history latch are as before; PID 0105h reads power-on and PID 011Dh the voltage; and the start
is timed from this instant. An input that does not exceed 80 V, or one on a module that is running, changes nothing. (R64, R81, PID
0105h, PID 011Dh.) -/
def Obligations.MainsAppliedRestartsTheModule : Prop :=
  (∀ (s : State) (el : Nat) (p : Fin 2) (tc v : BitVec 16), s.power.mains = none → 800 < v.toNat →
    ∃ t, exec (.mainsApplied el p tc v) s = .next t ∧ t.pa = Plane.init ∧ t.pb = Plane.init ∧ t.ports = [] ∧ t.groups = [] ∧
      t.bonds = [] ∧ t.chans = [] ∧ t.bufs = [] ∧ t.faults = [] ∧ t.slots = [] ∧ (∀ e ∈ t.sessions, e.2.isOpen = false) ∧
      t.time = Time.init ∧ t.flash = s.flash ∧ t.cart = s.cart ∧ t.latch = s.latch ∧ t.power.mains = some (s.clk + el) ∧
      t.rd 0x011D p.val = v.toNat ∧ t.rd 0x0105 0 = 0) ∧
  (∀ (s : State) (el : Nat) (p : Fin 2) (tc v : BitVec 16), s.power.mains.isSome = true ∨ v.toNat ≤ 800 →
    exec (.mainsApplied el p tc v) s = .next (s.tick el))

/-- The last gasp writes its record, the shutdown takes its four steps in order, and power domains are powered, switched off and lost.
When no PSU delivers, the last gasp begins: PID 0124h counts it, and with an active controller PID 0127h takes the time, fault bit 4
is set and every running controller's flash takes the record: DT, bypass sense and reason. It does not begin while the bus is up,
nor twice. At 6, 8, 10 and 11 ms, and not before, the port groups, the planes, the controllers with the token, and domain K are
powered down; the last step stops RC and leaves the module unpowered. A domain whose condition holds is powered: a port group reads
on with its clock on the root, a plane is empty, a controller is in boot ROM, and domain K starts RC at 0 where it did not count;
one whose condition does not hold stays as it is. A draining domain in which no channel works reaches off, with its requester owed
OK, or state 1 in a power cycle; it does not while a channel still works on it. A domain lost is switched off with its operation
failed. An answer that is owed to an open session is given at once. (R88, R64, R85, R17, PID 0124h, PID 0127h.) -/
def Obligations.PowerLossShutsDownInOrder : Prop :=
  (∀ (s : State) (el c : Nat), s.power.mains.isSome = true → s.power.gasp = none → s.busUp = false → s.dom 12 ≠ 0 →
    s.holder = some c →
    ∃ t, exec (.lastGasp el) s = .next t ∧ t.power.gasp = some (s.clk + el) ∧ t.power.shut = 0 ∧
      t.rd 0x0124 0 = (s.rd 0x0124 0 + 1) % 2 ^ 32 ∧ t.rd 0x0127 0 = (s.tick el).dtNow % 2 ^ 112 ∧
      SameBut [(0x0124, 0), (0x0127, 0), (0x3E03, 0), (0x3E04, 0), (0x3E0A, 0), (0x3E07, 0), (0x3E08, 0)] s t ∧
      t.faults = Tab.set s.faults 4 ((Tab.get FaultEntry.clear s.faults 4).occur moduleInst (s.tick el).dtNow s.dtValid) ∧
      (∀ k : CtlNo, s.runs k.val = true → ∃ g, (t.flashOf k.val).gasp = some g ∧ g.dt = (s.tick el).dtNow ∧
        g.closed = s.latch.closed ∧ g.reason = s.psu 0 + 16 * s.psu 1)) ∧
  (∀ (s : State) (el : Nat), s.power.mains.isSome = true → s.power.gasp = none → s.busUp = false → s.dom 12 ≠ 0 →
    s.holder = none →
    exec (.lastGasp el) s = .next (s.ran el (((s.tick el).updPower (fun q => { q with gasp := some (s.clk + el), shut := 0 })).inc
      0x0124 0))) ∧
  (∀ (s : State) (el : Nat), s.busUp = true ∨ s.power.gasp.isSome = true → exec (.lastGasp el) s = .next (s.tick el)) ∧
  (∀ (s : State) (el t0 : Nat), s.power.gasp = some t0 → s.power.shut = 0 → t0 + 2400000 ≤ s.clk + el →
    exec (.shutdownPowerDown el) s = .next (s.ran el ((List.range 8).foldl (fun u g => (u.groupOff g).setDom (domGroup g) 0)
      ((s.tick el).updPower (fun q => { q with shut := q.shut + 1 }))))) ∧
  (∀ (s : State) (el t0 : Nat), s.power.gasp = some t0 → s.power.shut = 1 → t0 + 3200000 ≤ s.clk + el →
    exec (.shutdownPowerDown el) s = .next (s.ran el ([0, 1].foldl (fun u p => (u.planeOff p).setDom (domPlane p) 0)
      ((s.tick el).updPower (fun q => { q with shut := q.shut + 1 }))))) ∧
  (∀ (s : State) (el t0 : Nat), s.power.gasp = some t0 → s.power.shut = 2 → t0 + 4000000 ≤ s.clk + el →
    exec (.shutdownPowerDown el) s = .next (s.ran el
      ([0, 1].foldl (fun u c => (((u.controllerOff c 0).clockOff (domCtl c)).closeSessions c).setDom (domCtl c) 0)
        (((s.tick el).updPower (fun q => { q with shut := q.shut + 1 })).wr 0x0302 0 0)))) ∧
  (∀ (s : State) (el t0 : Nat), s.power.gasp = some t0 → s.power.shut = 3 → t0 + 4400000 ≤ s.clk + el →
    ∃ t, exec (.shutdownPowerDown el) s = .next t ∧ t.dom 12 = 0 ∧ t.rd 0x3002 0 = 0 ∧ t.time.running = false ∧
      t.power.mains = none ∧ t.power.gasp = none ∧ t.power.offAt = s.clk + el) ∧
  (∀ (s : State) (el t0 d : Nat), s.power.gasp = some t0 → shutdownTimes[s.power.shut]? = some d → s.clk + el < t0 + d →
    exec (.shutdownPowerDown el) s = .next (s.tick el)) ∧
  (∀ (s : State) (el : Nat) (d : Fin 13), s.mayPower d.val = true → ∃ t, exec (.domainPowered el d) s = .next t ∧
      t = { (((s.tick el).powerDomain d.val).1.settle) with
        rc := ((s.tick el).powerDomain d.val).2 % 2 ^ 72, clk := s.clk + el, pending := s.pending }) ∧
  (∀ (s : State) (el : Nat) (d : Fin 13), s.mayPower d.val = true → 2 ≤ d.val → d.val < 10 → Quiet s →
    Tab.find? s.domOps d.val = none →
    ∃ t, exec (.domainPowered el d) s = .next t ∧ t.dom d.val = 2 ∧ t.rd 0x020E d.val = 2 ∧ t.rd 0x020F d.val = 0 ∧
      (∀ e : Fin 13, e ≠ d → t.dom e.val = s.dom e.val) ∧ t.pa = s.pa ∧ t.pb = s.pb ∧ t.flash = s.flash) ∧
  (∀ (s : State) (el : Nat) (d : Fin 13), s.mayPower d.val = true → d.val < 2 → Quiet s → Tab.find? s.domOps d.val = none →
    s.rd 0x281F d.val ≠ 5 →
    ∃ t, exec (.domainPowered el d) s = .next t ∧ t.dom d.val = 2 ∧ t.rd 0x020E d.val = 2 ∧ t.pl d.val = Plane.init) ∧
  (∀ (s : State) (el : Nat) (d : Fin 13), s.mayPower d.val = true → 10 ≤ d.val → d.val < 12 → Quiet s →
    Tab.find? s.domOps d.val = none →
    ∃ t, exec (.domainPowered el d) s = .next t ∧ t.dom d.val = 2 ∧ t.rd 0x020E d.val = 2 ∧ t.ctlState (d.val - 10) = 1 ∧
      (t.ctl (d.val - 10)).beats = false) ∧
  (∀ (s : State) (el : Nat), s.mayPower 12 = true → s.time.running = false → Quiet s →
    ∃ t, exec (.domainPowered el 12) s = .next t ∧ t.dom 12 = 2 ∧ t.time.running = true ∧ t.rc = 0) ∧
  (∀ (s : State) (el : Nat) (d : Fin 13), s.mayPower d.val = false → Quiet s → exec (.domainPowered el d) s = .next (s.tick el)) ∧
  (∀ (s : State) (el : Nat) (d : Fin 10), s.hodBusy d.val = true → Quiet s →
    exec (.domainPowerDownComplete el d) s = .next (s.tick el)) ∧
  (∀ (s : State) (el : Nat) (d : Fin 10) (r : Reseed), s.hodBusy d.val = false → Tab.find? s.domOps d.val = none →
    s.reseed = some r → r.plane = d.val → r.cycle = true → s.rd 0x2826 0 = 1 →
    exec (.domainPowerDownComplete el d) s =
      .next (s.ran el (State.settle ((((s.tick el).planeOff d.val).setDom d.val 1).wr 0x2826 0 2)))) ∧
  (∀ (s : State) (el : Nat) (d : Fin 10) (o : DomOp), s.hodBusy d.val = false → Tab.find? s.domOps d.val = some o → s.dom d.val = 3 →
    exec (.domainPowerDownComplete el d) s = .next (s.ran el (State.settle
      (if o.kind = 3 then ((s.tick el).domainOff d.val).setDom d.val 1
       else ({ (((s.tick el).domainOff d.val).setDom d.val 0) with
         domOps := Tab.del ((s.tick el).domainOff d.val).domOps d.val }).owe o.who stOk [])))) ∧
  (∀ (s : State) (el : Nat) (d : Fin 12), s.dom d.val = 0 → exec (.powerDomainLoss el d) s = .next (s.ran el (s.tick el).settle)) ∧
  (∀ (s : State) (el : Nat) (d : Fin 12), s.dom d.val ≠ 0 → 2 ≤ d.val → d.val < 10 → exec (.powerDomainLoss el d) s =
    .next (s.ran el (State.settle ((((((s.tick el).failOp d.val).updPower (fun q => { q with lost := d.val :: q.lost })).groupOff
      (d.val - 2)).setDom d.val 0))))) ∧
  (∀ (s : State) (el : Nat) (d : Fin 12), s.dom d.val ≠ 0 → d.val < 2 → exec (.powerDomainLoss el d) s =
    .next (s.ran el (State.settle ((((((s.tick el).failOp d.val).updPower (fun q => { q with lost := d.val :: q.lost })).planeOff
      d.val).dropCommit stInterlock).setDom d.val 0)))) ∧
  (∀ (s : State) (el : Nat) (d : Fin 12), s.dom d.val ≠ 0 → 10 ≤ d.val → exec (.powerDomainLoss el d) s =
    .next (s.ran el (State.settle
      (let u := ((((((s.tick el).failOp d.val).updPower (fun q => { q with lost := d.val :: q.lost })).controllerOff (d.val - 10) 0).clockOff
        d.val).advanceCommit).setDom d.val 0;
       if u.dom (21 - d.val) = 0 then u.loseToken else u))))

/-- Each stage is entered when its entry conditions hold, with its entry time, and Topped-out falls back to Bonded. Footing is entered
with a PSU delivering and K, C0 and C1 on; the token holder, if any, starts. Sill is entered with the fallback configuration
applied, every port group on, and the first plane on and tested, which then forwards version V0, or with both planes failed, and
then nothing forwards. Bonded is entered with the first plane forwarding alone and the second bonded, or isolated; or at 40 s, when
a second plane that is not bonded is isolated; never under Sill hold. Topped-out is entered from Bonded with the servo locked and,
where the kiln gate is set, the kiln ready. The stage falls back to Bonded when the servo is neither locked nor in holdover, and not
while it is. Stage and entry time are those of PIDs 0100h to 0104h. Each event changes nothing where one of its conditions does not
hold. A later entry into Topped-out overwrites the entry time (notes/assumptions/58.md). (R66, R69, R71, R73, R74, R78, R80, PID
0100h, PID 0101h.) -/
def Obligations.StageEntriesFollowTheirConditions : Prop :=
  (∀ (s : State) (el : Nat), s.power.mains.isSome = true → s.stageAtLeast 0 = false → s.busUp = true → s.isOn 12 = true →
    s.isOn 10 = true → s.isOn 11 = true → s.holder = none →
    exec (.enterFooting el) s = .next (s.ran el (((s.tick el).wr 0x0100 0 0).wr 0x0101 0 (s.tick el).msOfStart))) ∧
  (∀ (s : State) (el c : Nat), s.power.mains.isSome = true → s.stageAtLeast 0 = false → s.busUp = true → s.isOn 12 = true →
    s.isOn 10 = true → s.isOn 11 = true → s.holder = some c →
    exec (.enterFooting el) s =
      .next (s.ran el ((((s.tick el).wr 0x0100 0 0).wr 0x0101 0 (s.tick el).msOfStart).startActive c))) ∧
  (∀ (s : State) (el : Nat), s.stageAtLeast 0 = true → s.stageAtLeast 1 = false → s.power.applied = true → s.groupsOn = true →
    s.isOn s.power.first = true → Tab.find? s.power.tests s.power.first = some true →
    exec (.enterSill el) s = .next (s.ran el (State.firstForwards
      { ((((s.tick el).enterStage 1).updSlot 0 (fun x => { x.freed with
          state := .active, image := ((s.tick el).enterStage 1).sillImage }))) with
        latest := ((s.tick el).enterStage 1).sillImage, latestSlot := 0 } s.power.first))) ∧
  (∀ (s : State) (el : Nat), s.stageAtLeast 0 = true → s.stageAtLeast 1 = false → s.power.applied = true → s.groupsOn = true →
    s.isOn s.power.first = true → Tab.find? s.power.tests s.power.first = some true →
    ∃ t, exec (.enterSill el) s = .next t ∧ t.rd 0x0100 0 = 1 ∧ t.rd 0x0102 0 = (s.tick el).msOfStart % 2 ^ 32 ∧
      t.rd 0x281F s.power.first = 3 ∧ (t.slot 0).state = .active ∧ t.latestSlot = 0) ∧
  (∀ (s : State) (el : Nat), s.stageAtLeast 0 = true → s.stageAtLeast 1 = false → s.power.applied = true → s.groupsOn = true →
    s.bothFailed = true → s.isOn s.power.first = false → s.forwards = false →
    ∃ t, exec (.enterSill el) s = .next t ∧ t.rd 0x0100 0 = 1 ∧ t.rd 0x0102 0 = (s.tick el).msOfStart % 2 ^ 32 ∧
      t.pa = s.pa ∧ t.pb = s.pb ∧ t.ports = s.ports) ∧
  (∀ (s : State) (el : Nat), s.stageAtLeast 0 = false ∨ s.stageAtLeast 1 = true ∨ s.power.applied = false ∨ s.groupsOn = false →
    exec (.enterSill el) s = .next (s.tick el)) ∧
  (∀ (s : State) (el : Nat), s.stageAtLeast 0 = true ∨ s.busUp = false ∨ s.isOn 12 = false ∨ s.isOn 10 = false ∨ s.isOn 11 = false →
    exec (.enterFooting el) s = .next (s.tick el)) ∧
  (∀ (s : State) (el : Nat), s.rd 0x281F s.power.first ≠ 3 → exec (.enterBonded el) s = .next (s.tick el)) ∧
  (∀ (s : State) (el : Nat), s.stageAtLeast 1 = true → s.stageAtLeast 2 = false → s.flag 0x0108 0 = false →
    s.rd 0x281F s.power.first = 3 → s.rd 0x281F (1 - s.power.first) = 2 ∨ s.dom (1 - s.power.first) = 4 →
    exec (.enterBonded el) s = .next (s.ran el (s.tick el).becomeBonded)) ∧
  (∀ (s : State) (el : Nat), s.flag 0x0108 0 = true → exec (.enterBonded el) s = .next (s.tick el)) ∧
  (∀ (s : State) (el : Nat), s.stageAtLeast 1 = true → s.stageAtLeast 2 = false → s.flag 0x0108 0 = false →
    s.rd 0x281F s.power.first = 3 → s.rd 0x281F (1 - s.power.first) ≠ 2 →
    s.power.mains.getD (s.clk + el) + 16000000000 ≤ s.clk + el →
    exec (.secondPlaneTimeout el) s = .next (s.ran el
      (let p := 1 - s.power.first; let n := (s.tick el).noteJudged p;
       let u := ((((n.1.setDom p 4).leaveBond p 4).fault 5 p).repeatLimit p n.2);
       (((({ u with reseed := none } : State).recordJudgement p 7).wr 0x2826 0 0).wr 0x2827 0 0xFF).becomeBonded))) ∧
  (∀ (s : State) (el : Nat), s.rd 0x281F (1 - s.power.first) = 2 ∨ s.flag 0x0108 0 = true ∨
      s.clk + el < s.power.mains.getD (s.clk + el) + 16000000000 →
    exec (.secondPlaneTimeout el) s = .next (s.tick el)) ∧
  (∀ (s : State) (el : Nat), s.stageAtLeast 2 = true → s.stageAtLeast 3 = false → s.rd 0x3400 0 = 2 →
    s.flag 0x0109 0 = false ∨ s.flag 0x0125 0 = true →
    exec (.enterToppedOut el) s = .next (s.ran el (((s.tick el).wr 0x0100 0 3).wr 0x0104 0 (s.tick el).msOfStart))) ∧
  (∀ (s : State) (el : Nat), s.flag 0x0109 0 = true → s.flag 0x0125 0 = false →
    exec (.enterToppedOut el) s = .next (s.tick el)) ∧
  (∀ (s : State) (el : Nat), s.stageAtLeast 3 = true → s.rd 0x3400 0 ≠ 2 → s.rd 0x3400 0 ≠ 3 →
    exec (.stageFallBack el) s = .next (s.ran el ((s.tick el).wr 0x0100 0 2))) ∧
  (∀ (s : State) (el : Nat), s.rd 0x3400 0 = 2 ∨ s.rd 0x3400 0 = 3 → exec (.stageFallBack el) s = .next (s.tick el)) ∧
  (∀ (s : State) (el : Nat), s.stageAtLeast 3 = false → exec (.stageFallBack el) s = .next (s.tick el)) ∧
  (∀ (s : State) (el : Nat), s.stageAtLeast 2 = false ∨ s.stageAtLeast 3 = true ∨ s.rd 0x3400 0 ≠ 2 →
    exec (.enterToppedOut el) s = .next (s.tick el))

/-- A controller boots a bank whose signature holds, a plane's self-test passes or isolates it, and a bundle is re-armed. A controller
in boot ROM boots its active bank where the signature holds, else the other one: it reads state 2, PID 0007h reads the bank and its
heartbeat beats, unless it had isolated itself and its peer does not beat. With both signatures bad it is isolated (state 6). A
failed self-test isolates the plane, with fault bits 5 and 160; one passed before Sill is noted, and at Sill with no plane
forwarding makes its plane the first one; with both planes failed, both are cycled every 10 min. A bundle that waits takes a free
slot as a COMMIT would, when DT is valid and no commit is under way; one that a COMMIT would refuse is dropped, which is the model's
choice (notes/assumptions/58.md). Each event changes nothing where its condition does not hold. (R69, R71, R72, R75, R78, PID 0301h,
PID 0007h, PID 031Eh.) -/
def Obligations.StartOfControllersAndPlanes : Prop :=
  (∀ (s : State) (el : Nat) (c : CtlNo) (b0 b1 r f : Bool), s.isOn (10 + c.val) = true → s.ctlState c.val = 1 →
    (s.ctl c.val).lone = false → (s.ctl c.val).cold = true → s.rd 0x0008 c.val = 0 → b0 = true →
    ∃ t, exec (.controllerBoot el c b0 b1 r f) s = .next t ∧ t.ctlState c.val = 2 ∧ t.rd 0x0007 c.val = 0 ∧
      (t.ctl c.val).beats = true ∧ (t.ctl c.val).bootAt = s.clk + el ∧
      SameBut [(0x0301, c.val), (0x0007, c.val), (0x031E, c.val)] s t) ∧
  (∀ (s : State) (el : Nat) (c : CtlNo) (b0 b1 r f : Bool), s.isOn (10 + c.val) = true → s.ctlState c.val = 1 →
    (s.ctl c.val).lone = false → (s.ctl c.val).cold = true → s.rd 0x0008 c.val = 0 → b0 = false → b1 = true →
    ∃ t, exec (.controllerBoot el c b0 b1 r f) s = .next t ∧ t.ctlState c.val = 2 ∧ t.rd 0x0007 c.val = 1 ∧
      (t.ctl c.val).beats = true ∧ SameBut [(0x0301, c.val), (0x0007, c.val), (0x031E, c.val)] s t) ∧
  (∀ (s : State) (el : Nat) (c : CtlNo) (r f : Bool), s.isOn (10 + c.val) = true → s.ctlState c.val = 1 →
    ∃ t, exec (.controllerBoot el c false false r f) s = .next t ∧ t.ctlState c.val = 6 ∧ t.ctls = s.ctls ∧
      SameBut [(0x0301, c.val)] s t) ∧
  (∀ (s : State) (el : Nat) (p : PlaneNo), s.isOn p.val = true → Tab.find? s.power.tests p.val = none → s.stageAtLeast 1 = false →
    exec (.selfTestComplete el p true) s =
      .next (s.ran el ((s.tick el).updPower (fun q => { q with tests := Tab.set q.tests p.val true })))) ∧
  (∀ (s : State) (el : Nat) (p : PlaneNo), s.isOn p.val = true → Tab.find? s.power.tests p.val = none →
    ∃ t, exec (.selfTestComplete el p false) s = .next t ∧ t.dom p.val = 4 ∧ Tab.find? t.power.tests p.val = some false ∧
      t.power.retryAt = s.clk + el ∧ t.rd 0x2824 p.val = 7 ∧
      Faulted t 5 ∧ Faulted t 160 ∧
      (s.stageAtLeast 1 = false → s.power.first = p.val → Tab.find? s.power.tests (1 - p.val) = none → t.power.first = 1 - p.val)) ∧
  (∀ (s : State) (el : Nat), s.stageAtLeast 1 = true → s.bothFailed = true → s.power.retryAt + 240000000000 ≤ s.clk + el →
    exec (.selfTestRetry el) s =
      .next (s.ran el ((((((s.tick el).planeOff 0).setDom 0 1).planeOff 1).setDom 1 1)))) ∧
  (∀ (s : State) (el n : Nat) (k : Kept) (rest : List Kept), s.power.rearm = k :: rest → s.stageAtLeast 2 = true → s.dtValid = true →
    s.committing = none → s.freeSlot = some n → (s.tick el).commitStatus k.bundle (some k.instant) true = 0 →
    exec (.bundleRearm el) s =
      .next (s.ran el ((s.tick el).load ⟨.restored, n, k.token, k.bundle, some k.instant⟩).advanceCommit)) ∧
  (∀ (s : State) (el : Nat) (k : Kept) (rest : List Kept), s.power.rearm = k :: rest → s.stageAtLeast 2 = true → s.dtValid = true →
    s.committing = none → s.freeSlot.isSome = true → (s.tick el).commitStatus k.bundle (some k.instant) true ≠ 0 →
    exec (.bundleRearm el) s = .next (s.ran el
      (((s.tick el).commitDone ((s.tick el).commitStatus k.bundle (some k.instant) true)).updPower (fun q => { q with rearm := rest })))) ∧
  (∀ (s : State) (el : Nat), s.dtValid = false ∨ s.power.rearm = [] ∨ s.freeSlot = none ∨ s.committing.isSome = true →
    exec (.bundleRearm el) s = .next (s.tick el)) ∧
  (∀ (s : State) (el : Nat) (c : CtlNo) (b0 b1 r f : Bool), s.isOn (10 + c.val) = true → s.ctlState c.val = 1 →
    (s.ctl c.val).lone = true → (s.ctl (1 - c.val)).beats = false → s.rd 0x0008 c.val = 0 → b0 = true →
    ∃ t, exec (.controllerBoot el c b0 b1 r f) s = .next t ∧ t.ctlState c.val = 6 ∧ (t.ctl c.val).beats = false ∧ Faulted t 169) ∧
  (∀ (s : State) (el : Nat) (c : CtlNo) (b0 b1 r f : Bool), s.isOn (10 + c.val) = false ∨ s.ctlState c.val ≠ 1 →
    exec (.controllerBoot el c b0 b1 r f) s = .next (s.tick el)) ∧
  (∀ (s : State) (el : Nat) (p : PlaneNo), s.isOn p.val = true → Tab.find? s.power.tests p.val = none → s.stageAtLeast 1 = true →
    s.forwards = false →
    ∃ t, exec (.selfTestComplete el p true) s = .next t ∧ t.power.first = p.val ∧ t.rd 0x281F p.val = 3 ∧
      Tab.find? t.power.tests p.val = some true) ∧
  (∀ (s : State) (el : Nat) (p : PlaneNo) (b : Bool), s.isOn p.val = false ∨ (Tab.find? s.power.tests p.val).isSome = true →
    exec (.selfTestComplete el p b) s = .next (s.tick el)) ∧
  (∀ (s : State) (el : Nat), s.bothFailed = false ∨ s.clk + el < s.power.retryAt + 240000000000 →
    exec (.selfTestRetry el) s = .next (s.tick el))

/-- SETs of Sill hold, of reset control and of domain control have their effect and their answer. On a session of the site operator that
is ready: a SET of Sill hold writes PID 0108h, at Sill too. A module reset is answered OK and then restarts the module with cause 1
while domain K keeps its time. A controller reset addressed to the active controller is answered INTERLOCK with no effect; on a
session of the standby it is answered OK and returns the standby to boot ROM, with its sessions closed, while, with no commit under
way, both planes, time, faults and flash stand (that the standby takes this one request is the model's reading,
notes/assumptions/59.md). Domain control is answered ACCEPTED and the operation is noted with its requester: a domain that is on, or
an isolated plane, drains (state 3) for values 1 and 3, and one that is off is powering (state 1) for values 2 and 3; one that is
already on or off as asked gets its completion at once. Codes 10 to 13 are answered BAD_INSTANCE, before Bonded BUSY, and the
powering down of a plane whose peer is not on INTERLOCK. That a domain draining or powering answers BUSY is the model's choice and
not stated here. (R74, R81, R82, R83, R84, R85, R86, R445, R454, PID 0107h, PID 0108h, PID 010Dh.) -/
def Obligations.ResetAndDomainRequestsAreCarriedOut : Prop :=
  (∀ (s : State) (el : Nat) (q : Req), Ready s q roleSite → q.inst = 0 → (q.data = [0] ∨ q.data = [1]) →
    s.rd 0x0100 0 = 1 ∨ s.mirrorBars = false → q.flashOk = true →
    ∃ t, exec (.sillHold el q) s = .next t ∧ t.rd 0x0108 0 = beNat q.data ∧ Answers s t q 0x02 stOk 0x0108 0 [] [(0x0108, 0)]) ∧
  (∀ (s : State) (el : Nat) (q : Req), Ready s q roleSite → FullService s → q.inst = 0 →
    ∃ t, exec (.moduleReset el q) s = .next t ∧ t.out = s.out ++ [answer q 0x02 stOk 0x0107 0 []] ∧ t.rd 0x0105 0 = 1 ∧
      t.pa = Plane.init ∧ t.pb = Plane.init ∧ t.ports = [] ∧ t.flash = s.flash ∧ t.servo = s.servo ∧
      t.time.triple = s.time.triple ∧ t.time.running = s.time.running ∧ (∀ e ∈ t.sessions, e.2.isOpen = false)) ∧
  (∀ (s : State) (el : Nat) (q : Req), Ready s q roleSite → FullService s → q.inst = 0 →
    ∃ t, exec (.controllerReset el q) s = .next t ∧ Answers s t q 0x02 stInterlock 0x0107 0 [] []) ∧
  (∀ (s : State) (el : Nat) (q : Req), s.holder ≠ some q.ctl.val → s.ctlState q.ctl.val = 3 ∨ s.ctlState q.ctl.val = 4 →
    (s.ctl q.ctl.val).beats = true → (s.session (Req.key q)).isOpen = true → (s.session (Req.key q)).requests = [] →
    (s.session (Req.key q)).skip.contains q.tag.toNat = false → (s.session (Req.key q)).role = roleSite →
    (s.session (Req.key q)).enrol = .no → s.stageAtLeast 2 = true → q.inst = 0 →
    ∃ t, exec (.controllerReset el q) s = .next t ∧ t.out = s.out ++ [answer q 0x02 stOk 0x0107 0 []] ∧
      t.ctlState q.ctl.val = 1 ∧ (t.ctl q.ctl.val).beats = false ∧ (t.session (Req.key q)).isOpen = false ∧
      t.holder = s.holder ∧ (s.committing = none → t.pa = s.pa ∧ t.pb = s.pb ∧ t.time = (s.tick el).time ∧ t.faults = s.faults ∧
        t.flash = s.flash)) ∧
  (∀ (s : State) (el : Nat) (q : Req), Ready s q roleSite → q.inst.toNat < 2 → s.stageAtLeast 2 = true →
    s.isOn (1 - q.inst.toNat) = true → s.dom q.inst.toNat = 2 ∨ s.dom q.inst.toNat = 4 →
    Tab.find? s.domOps q.inst.toNat = none → s.reseed = none →
    ∃ t, exec (.domainPowerDown el q) s = .next t ∧ t.dom q.inst.toNat = 3 ∧ (s.rd 0x281F q.inst.toNat ≠ 5 → t.rd 0x281F q.inst.toNat = 0) ∧
      Tab.find? t.domOps q.inst.toNat = some ⟨1, s.clk + el, some (q.who s)⟩ ∧
      Answers s t q 0x02 stAccepted 0x010D q.inst.toNat [] [(0x010E + q.inst.toNat, 0), (0x281F, q.inst.toNat)]) ∧
  (∀ (s : State) (el : Nat) (q : Req), Ready s q roleSite → 2 ≤ q.inst.toNat → q.inst.toNat < 10 → s.stageAtLeast 2 = true →
    s.dom q.inst.toNat = 2 → Tab.find? s.domOps q.inst.toNat = none →
    ∃ t, exec (.domainPowerDown el q) s = .next t ∧ t.out = s.out ++ [answer q 0x02 stAccepted 0x010D q.inst.toNat []] ∧
      t.dom q.inst.toNat = 3 ∧ Tab.find? t.domOps q.inst.toNat = some ⟨1, s.clk + el, some (q.who s)⟩) ∧
  (∀ (s : State) (el : Nat) (q : Req), Ready s q roleSite → q.inst.toNat < 2 → s.stageAtLeast 2 = true →
    s.isOn (1 - q.inst.toNat) = true → s.dom q.inst.toNat = 2 ∨ s.dom q.inst.toNat = 4 →
    Tab.find? s.domOps q.inst.toNat = none → s.reseed = none →
    ∃ t, exec (.domainCycle el q) s = .next t ∧ t.dom q.inst.toNat = 3 ∧ (s.rd 0x281F q.inst.toNat ≠ 5 → t.rd 0x281F q.inst.toNat = 0) ∧
      Tab.find? t.domOps q.inst.toNat = some ⟨3, s.clk + el, some (q.who s)⟩ ∧
      Answers s t q 0x02 stAccepted 0x010D q.inst.toNat [] [(0x010E + q.inst.toNat, 0), (0x281F, q.inst.toNat)]) ∧
  (∀ (s : State) (el : Nat) (q : Req), Ready s q roleSite → 2 ≤ q.inst.toNat → q.inst.toNat < 10 → s.stageAtLeast 2 = true →
    s.dom q.inst.toNat = 2 → Tab.find? s.domOps q.inst.toNat = none →
    ∃ t, exec (.domainCycle el q) s = .next t ∧ t.out = s.out ++ [answer q 0x02 stAccepted 0x010D q.inst.toNat []] ∧
      t.dom q.inst.toNat = 3 ∧ Tab.find? t.domOps q.inst.toNat = some ⟨3, s.clk + el, some (q.who s)⟩) ∧
  (∀ (s : State) (el : Nat) (q : Req), Ready s q roleSite → q.inst.toNat < 10 → s.stageAtLeast 2 = true →
    s.dom q.inst.toNat = 0 → Tab.find? s.domOps q.inst.toNat = none → (q.inst.toNat < 2 → s.reseed = none) →
    ∃ t, exec (.domainPowerUp el q) s = .next t ∧ t.dom q.inst.toNat = 1 ∧
      Tab.find? t.domOps q.inst.toNat = some ⟨2, s.clk + el, some (q.who s)⟩ ∧
      Answers s t q 0x02 stAccepted 0x010D q.inst.toNat [] [(0x010E + q.inst.toNat, 0)]) ∧
  (∀ (s : State) (el : Nat) (q : Req), Ready s q roleSite → q.inst.toNat < 10 → s.stageAtLeast 2 = true →
    s.dom q.inst.toNat = 2 → Tab.find? s.domOps q.inst.toNat = none → (q.inst.toNat < 2 → s.reseed = none) →
    ∃ t, exec (.domainPowerUp el q) s = .next t ∧ t.dom q.inst.toNat = 2 ∧ t.domOps = s.domOps ∧
      t.out = s.out ++ [answer q 0x02 stAccepted 0x010D q.inst.toNat [],
        { answer q 0x02 stOk 0x010D q.inst.toNat [] with flags := 0xE0 }]) ∧
  (∀ (s : State) (el : Nat) (q : Req), Ready s q roleSite → 2 ≤ q.inst.toNat → q.inst.toNat < 10 → s.stageAtLeast 2 = true →
    s.dom q.inst.toNat = 0 → Tab.find? s.domOps q.inst.toNat = none →
    ∃ t, exec (.domainPowerDown el q) s = .next t ∧ t.dom q.inst.toNat = 0 ∧ t.domOps = s.domOps ∧
      t.out = s.out ++ [answer q 0x02 stAccepted 0x010D q.inst.toNat [],
        { answer q 0x02 stOk 0x010D q.inst.toNat [] with flags := 0xE0 }]) ∧
  (∀ (s : State) (el : Nat) (q : Req), Ready s q roleSite → 2 ≤ q.inst.toNat → q.inst.toNat < 10 → s.stageAtLeast 2 = true →
    s.dom q.inst.toNat = 0 → Tab.find? s.domOps q.inst.toNat = none →
    ∃ t, exec (.domainCycle el q) s = .next t ∧ t.dom q.inst.toNat = 1 ∧
      Tab.find? t.domOps q.inst.toNat = some ⟨3, s.clk + el, some (q.who s)⟩ ∧
      Answers s t q 0x02 stAccepted 0x010D q.inst.toNat [] [(0x010E + q.inst.toNat, 0)]) ∧
  (∀ (s : State) (el : Nat) (q : Req), Ready s q roleSite → q.inst.toNat < 2 → s.stageAtLeast 2 = true →
    s.isOn (1 - q.inst.toNat) = false →
    (∃ t, exec (.domainPowerDown el q) s = .next t ∧ Answers s t q 0x02 stInterlock 0x010D q.inst.toNat [] []) ∧
    (∃ t, exec (.domainCycle el q) s = .next t ∧ Answers s t q 0x02 stInterlock 0x010D q.inst.toNat [] [])) ∧
  (∀ (s : State) (el : Nat) (q : Req), Ready s q roleSite → FullService s → 10 ≤ q.inst.toNat →
    (∃ t, exec (.domainPowerUp el q) s = .next t ∧ Answers s t q 0x02 stBadInstance 0x010D q.inst.toNat [] []) ∧
    (∃ t, exec (.domainPowerDown el q) s = .next t ∧ Answers s t q 0x02 stBadInstance 0x010D q.inst.toNat [] []) ∧
    (∃ t, exec (.domainCycle el q) s = .next t ∧ Answers s t q 0x02 stBadInstance 0x010D q.inst.toNat [] [])) ∧
  (∀ (s : State) (el : Nat) (q : Req), Ready s q roleSite → q.inst.toNat < 10 → s.stageAtLeast 2 = false →
    (∃ t, exec (.domainPowerUp el q) s = .next t ∧ Answers s t q 0x02 stBusy 0x010D q.inst.toNat [] []) ∧
    (∃ t, exec (.domainPowerDown el q) s = .next t ∧ Answers s t q 0x02 stBusy 0x010D q.inst.toNat [] []) ∧
    (∃ t, exec (.domainCycle el q) s = .next t ∧ Answers s t q 0x02 stBusy 0x010D q.inst.toNat [] []))

/-- Requests on a port: enabling it lights and trains it, disabling it darkens it, and speed, laser swap, buckets and stepping follow
theirs. On a session of the site operator that is ready, with no change barred by the mirror: a disabled port of a group that is on,
with a plane forwarding and its laser in service, reads enabled and training at once (in test where PID 080Bh asks for a test
pattern and the test block's gate is open); without a forwarding plane or a laser in service it reads enabled and down; an enabled
port reads disabled with link state 0 and no frame in reception; a request for the state a port already has is answered OK and
changes nothing. A speed or FEC that the combinations allow is taken, an enabled port that it changes retrains, one that it does not
change goes on; one that they do not allow answers RANGE with nothing changed. A swap with a warm spare moves the modulator to it
and retires the laser before it; without one it waits, and a loss of output that waits already stays what waits. A bucket reset
fills the policer's buckets and clears the error it showed; and the stepping-failed flag is cleared. (R92, R93, R562, R97, R99,
R134, R132, PID 0800h, PID 0805h, PID 0813h, PID 0A1Eh, PID 084Fh.) -/
def Obligations.PortRequestsTrainAndDarkenThePort : Prop :=
  (∀ (s : State) (el : Nat) (q : Req), Ready s q roleSite → FullService s → s.stageAtLeast 1 = true → q.inst.toNat < 144 →
    s.mirrorBars = false → q.flashOk = true → s.rd 0x0800 q.inst.toNat = 0 → s.isOn (2 + q.inst.toNat / 18) = true →
    s.forwards = true → s.laser (q.inst.toNat / 18) (s.rd 0x0810 q.inst.toNat) = 0 →
    ∃ t, exec (.portEnable el q) s = .next t ∧ t.rd 0x0800 q.inst.toNat = 1 ∧
      t.link q.inst.toNat = (if s.rd 0x080B q.inst.toNat = 0 ∨ s.rd 0x0228 (16 * (2 + q.inst.toNat / 18) + 5) = 2 then 2 else 5) ∧
      (t.port q.inst.toNat).training = true ∧
      Answers s t q 0x02 stOk 0x0800 q.inst.toNat [] [(0x0800, q.inst.toNat), (0x0805, q.inst.toNat), (0x0809, q.inst.toNat)]) ∧
  (∀ (s : State) (el : Nat) (q : Req), Ready s q roleSite → FullService s → s.stageAtLeast 1 = true → q.inst.toNat < 144 →
    s.mirrorBars = false → q.flashOk = true → s.rd 0x0800 q.inst.toNat = 0 → s.isOn (2 + q.inst.toNat / 18) = true →
    s.forwards = false ∨ s.laser (q.inst.toNat / 18) (s.rd 0x0810 q.inst.toNat) ≠ 0 →
    ∃ t, exec (.portEnable el q) s = .next t ∧ t.rd 0x0800 q.inst.toNat = 1 ∧ t.link q.inst.toNat = 1 ∧
      (t.port q.inst.toNat).training = (s.port q.inst.toNat).training ∧
      Answers s t q 0x02 stOk 0x0800 q.inst.toNat [] [(0x0800, q.inst.toNat), (0x0805, q.inst.toNat), (0x0809, q.inst.toNat)]) ∧
  (∀ (s : State) (el : Nat) (q : Req), Ready s q roleSite → FullService s → q.inst.toNat < 144 → s.mirrorBars = false →
    q.flashOk = true → s.rd 0x0800 q.inst.toNat = 1 →
    ∃ t, exec (.portEnable el q) s = .next t ∧ t.ports = s.ports ∧ t.pa = s.pa ∧ t.pb = s.pb ∧
      Answers s t q 0x02 stOk 0x0800 q.inst.toNat [] []) ∧
  (∀ (s : State) (el : Nat) (q : Req), Ready s q roleSite → FullService s → q.inst.toNat < 144 → s.mirrorBars = false →
    q.flashOk = true → s.rd 0x0800 q.inst.toNat = 1 →
    ∃ t, exec (.portDisable el q) s = .next t ∧ t.out = s.out ++ [answer q 0x02 stOk 0x0800 q.inst.toNat []] ∧
      t.rd 0x0800 q.inst.toNat = 0 ∧ t.link q.inst.toNat = 0 ∧ (t.port q.inst.toNat).rx = none ∧
      (t.port q.inst.toNat).training = false ∧ (t.port q.inst.toNat).xoff = [] ∧ (t.port q.inst.toNat).pauseUntil = none) ∧
  (∀ (s : State) (el : Nat) (q : Req), Ready s q roleSite → FullService s → q.inst.toNat < 144 → s.mirrorBars = false →
    q.flashOk = true → s.rd 0x0800 q.inst.toNat = 0 →
    ∃ t, exec (.portDisable el q) s = .next t ∧ t.ports = s.ports ∧ t.pa = s.pa ∧ t.pb = s.pb ∧
      Answers s t q 0x02 stOk 0x0800 q.inst.toNat [] []) ∧
  (∀ (s : State) (el : Nat) (q : Req), Ready s q roleSite → FullService s → q.inst.toNat < 144 → s.mirrorBars = false →
    q.flashOk = true → s.rd 0x0800 q.inst.toNat = 0 → q.data.length = 1 → beNat q.data ≤ 2 →
    speedFecOk q.inst.toNat (beNat q.data) (s.rd 0x0802 q.inst.toNat) = true → beNat q.data ≠ s.rd 0x0801 q.inst.toNat →
    ∃ t, exec (.portSpeedFecChange el q false) s = .next t ∧ t.rd 0x0801 q.inst.toNat = beNat q.data ∧
      t.rd 0x0806 q.inst.toNat = beNat q.data ∧
      Answers s t q 0x02 stOk 0x0801 q.inst.toNat [] [(0x0801, q.inst.toNat), (0x0806, q.inst.toNat)]) ∧
  (∀ (s : State) (el : Nat) (q : Req), Ready s q roleSite → FullService s → q.inst.toNat < 144 → s.mirrorBars = false →
    q.flashOk = true → s.rd 0x0800 q.inst.toNat = 0 → q.data.length = 1 → beNat q.data ≤ 3 →
    speedFecOk q.inst.toNat (s.rd 0x0801 q.inst.toNat) (beNat q.data) = true →
    ∃ t, exec (.portSpeedFecChange el q true) s = .next t ∧ t.rd 0x0802 q.inst.toNat = beNat q.data ∧
      Answers s t q 0x02 stOk 0x0802 q.inst.toNat [] [(0x0802, q.inst.toNat), (0x0806, q.inst.toNat)]) ∧
  (∀ (s : State) (el : Nat) (q : Req), Ready s q roleSite → FullService s → q.inst.toNat < 144 → s.mirrorBars = false →
    q.flashOk = true → s.rd 0x0800 q.inst.toNat = 1 → q.data.length = 1 → beNat q.data ≤ 2 →
    speedFecOk q.inst.toNat (beNat q.data) (s.rd 0x0802 q.inst.toNat) = true → beNat q.data ≠ s.rd 0x0801 q.inst.toNat →
    s.stageAtLeast 1 = true → s.isOn (2 + q.inst.toNat / 18) = true → s.forwards = true →
    s.laser (q.inst.toNat / 18) (s.rd 0x0810 q.inst.toNat) = 0 → s.rd 0x080B q.inst.toNat = 0 →
    ∃ t, exec (.portSpeedFecChange el q false) s = .next t ∧ t.out = s.out ++ [answer q 0x02 stOk 0x0801 q.inst.toNat []] ∧
      t.rd 0x0800 q.inst.toNat = 1 ∧ t.rd 0x0801 q.inst.toNat = beNat q.data ∧ t.rd 0x0806 q.inst.toNat = beNat q.data ∧
      t.link q.inst.toNat = 2 ∧ (t.port q.inst.toNat).training = true ∧ (t.port q.inst.toNat).rx = none) ∧
  (∀ (s : State) (el : Nat) (q : Req) (fec : Bool), Ready s q roleSite → FullService s → q.inst.toNat < 144 →
    s.mirrorBars = false → q.flashOk = true → q.data = [BitVec.ofNat 8 (s.rd (if fec then 0x0802 else 0x0801) q.inst.toNat)] →
    s.rd 0x0801 q.inst.toNat ≤ 2 → s.rd 0x0802 q.inst.toNat ≤ 3 →
    speedFecOk q.inst.toNat (s.rd 0x0801 q.inst.toNat) (s.rd 0x0802 q.inst.toNat) = true →
    ∃ t, exec (.portSpeedFecChange el q fec) s = .next t ∧ t.ports = s.ports ∧ t.pa = s.pa ∧ t.pb = s.pb ∧
      Answers s t q 0x02 stOk (if fec then 0x0802 else 0x0801) q.inst.toNat [] []) ∧
  (∀ (s : State) (el : Nat) (q : Req), Ready s q roleSite → FullService s → q.inst.toNat < 144 → q.data.length = 1 →
    beNat q.data ≤ 2 → speedFecOk q.inst.toNat (beNat q.data) (s.rd 0x0802 q.inst.toNat) = false →
    ∃ t, exec (.portSpeedFecChange el q false) s = .next t ∧ Answers s t q 0x02 stRange 0x0801 q.inst.toNat [] []) ∧
  (∀ (s : State) (el : Nat) (q : Req), Ready s q roleSite → FullService s → q.inst.toNat < 144 → q.data.length = 1 →
    beNat q.data ≤ 3 → speedFecOk q.inst.toNat (s.rd 0x0801 q.inst.toNat) (beNat q.data) = false →
    ∃ t, exec (.portSpeedFecChange el q true) s = .next t ∧ Answers s t q 0x02 stRange 0x0802 q.inst.toNat [] []) ∧
  (∀ (s : State) (el k : Nat) (q : Req), Ready s q roleSite → FullService s → q.inst.toNat < 144 → q.data = [1] →
    s.laserIn (q.inst.toNat / 18) 1 = some k → (s.port q.inst.toNat).swapWait ≠ some .loss →
    ∃ t, exec (.swapRequest el q) s = .next t ∧ t.out = s.out ++ [answer q 0x02 stOk 0x0813 q.inst.toNat []] ∧
      t.rd 0x0810 q.inst.toNat = k ∧ t.laser (q.inst.toNat / 18) k = 0 ∧
      (s.rd 0x0810 q.inst.toNat ≠ k → t.laser (q.inst.toNat / 18) (s.rd 0x0810 q.inst.toNat) = 4) ∧
      t.rd 0x082C (q.inst.toNat / 18) = (s.rd 0x082C (q.inst.toNat / 18) + 1) % 2 ^ 32 ∧
      (t.port q.inst.toNat).swapHit = some (s.tickRC el) ∧ (t.port q.inst.toNat).swapWait = none) ∧
  (∀ (s : State) (el : Nat) (q : Req), Ready s q roleSite → FullService s → q.inst.toNat < 144 → q.data = [1] →
    s.laserIn (q.inst.toNat / 18) 1 = none →
    ∃ t, exec (.swapRequest el q) s = .next t ∧
      (t.port q.inst.toNat).swapWait = (if (s.port q.inst.toNat).swapWait = some .loss then some .loss else some .request) ∧
      Answers s t q 0x02 stOk 0x0813 q.inst.toNat [] []) ∧
  (∀ (s : State) (el : Nat) (q : Req), Ready s q roleSite → FullService s → q.inst.toNat < 16384 → q.data = [1] →
    ∃ t, exec (.bucketReset el q) s = .next t ∧ (t.policer q.inst.toNat).full = true ∧ (t.policer q.inst.toNat).lost = false ∧
      Answers s t q 0x02 stOk 0x0A1E q.inst.toNat [] []) ∧
  (∀ (s : State) (el : Nat) (q : Req), Ready s q roleSite → FullService s → q.inst.toNat < 144 → q.data = [1] →
    ∃ t, exec (.steppingFailedClear el q) s = .next t ∧ t.rd 0x084F q.inst.toNat = s.rd 0x084F q.inst.toNat % 2 ^ 8 / 2 * 2 ∧
      Answers s t q 0x02 stOk 0x084F q.inst.toNat [] [(0x084F, q.inst.toNat)])

/-- Link down and up after their delays, the swaps of the laser bank, and the port-group temperature. A link that is up goes down once
its loss has lasted the hold-off (PID 080Ah), with its status read, no frame in reception and its speed back at PID 0801h; one that
trains, clean for the debounce (PID 0848h), with its port enabled and lit, its group on and both planes fast enough, comes up and is
counted; sooner, neither changes anything. A bias rise above the threshold with automatic swap set, and a loss of output in any
case, move the modulator to the warm spare, whose predecessor is retired or failed; with no warm spare a wear-out swap waits, with
fault bit 66 where no spare is left, and a loss of output waits with the port down and fault bit 64. A hit ends with its duration
recorded; a spare warmed becomes the warm spare, and takes over a swap that waits, after which an enabled port that lost its output
trains again. A die temperature that passes 135.0 °C sets fault bit 67, and any other reading is only shown. (R94, R96, R97, R98,
R99, R131, PID 0805h, PID 0807h, PID 0808h, PID 080Ah, PID 0848h, PID 082Dh.) -/
def Obligations.LinkChangesFollowTheirDelays : Prop :=
  (∀ (s : State) (el lasted : Nat) (i : PortNo) (v : BitVec 4), s.link i.val = 3 → s.rd 0x080A i.val * 400 ≤ lasted →
    exec (.linkDown el i ⟨v, lasted⟩) s = .next (s.ran el (((s.tick el).wr 0x0807 i.val v.toNat).dropLink i.val))) ∧
  (∀ (s : State) (el lasted : Nat) (i : PortNo) (v : BitVec 4), s.link i.val = 3 → s.rd 0x080A i.val * 400 ≤ lasted →
    ∃ t, exec (.linkDown el i ⟨v, lasted⟩) s = .next t ∧ t.link i.val = 1 ∧ t.rd 0x0807 i.val = v.toNat ∧
      t.rd 0x0806 i.val = s.rd 0x0801 i.val % 2 ^ 8 ∧ (t.port i.val).rx = none ∧ (t.port i.val).xoff = [] ∧
      (t.port i.val).dwellSince = s.tickRC el) ∧
  (∀ (s : State) (el lasted : Nat) (i : PortNo) (v : BitVec 4), s.link i.val ≠ 3 ∨ lasted < s.rd 0x080A i.val * 400 →
    exec (.linkDown el i ⟨v, lasted⟩) s = .next (s.tick el)) ∧
  (∀ (s : State) (el clean : Nat) (i : PortNo) (v : BitVec 4), s.link i.val = 1 ∨ s.link i.val = 2 → s.flag 0x0800 i.val = true →
    (s.port i.val).training = true → s.isOn (2 + i.val / 18) = true → s.rd 0x0848 i.val * 400000 ≤ clean →
    s.coreFastEnough = true →
    ∃ t, exec (.linkUp el i ⟨v, clean⟩) s = .next t ∧ t.link i.val = 3 ∧ t.rd 0x0808 i.val = (s.rd 0x0808 i.val + 1) % 2 ^ 32 ∧
      t.rd 0x0807 i.val = v.toNat ∧ (t.port i.val).dwellSince = s.tickRC el ∧
      SameBut [(0x0805, i.val), (0x0807, i.val), (0x0808, i.val), (0x0809, i.val)] s t) ∧
  (∀ (s : State) (el clean : Nat) (i : PortNo) (v : BitVec 4), s.flag 0x0800 i.val = false ∨ (s.port i.val).training = false ∨
      clean < s.rd 0x0848 i.val * 400000 ∨ s.coreFastEnough = false ∨ s.isOn (2 + i.val / 18) = false →
    exec (.linkUp el i ⟨v, clean⟩) s = .next (s.tick el)) ∧
  (∀ (s : State) (el : Nat) (i : PortNo) (r : BitVec 16), s.isOn (2 + i.val / 18) = true → 10 * s.rd 0x082A (i.val / 18) < r.toNat →
    s.flag 0x0829 (i.val / 18) = true → s.laser (i.val / 18) (s.rd 0x0810 i.val) = 0 →
    exec (.laserSwapWearOut el i r) s = .next (s.ran el
      (if s.hasSpare (i.val / 18) = true then ((s.tick el).wr 0x0812 i.val r.toNat).swapOrWait i.val .wearOut
       else (((s.tick el).wr 0x0812 i.val r.toNat).fault 66 (i.val / 18)).swapOrWait i.val .wearOut))) ∧
  (∀ (s : State) (k : Nat) (i : PortNo) (c : SwapCause), s.laserIn (i.val / 18) 1 = some k → (s.port i.val).swapWait ≠ some .loss →
    s.swapOrWait i.val c = s.swapTo i.val k (if c = .loss then 5 else 4)) ∧
  (∀ (s : State) (i : PortNo) (c : SwapCause), s.laserIn (i.val / 18) 1 = none → (s.port i.val).swapWait ≠ some .loss →
    s.swapOrWait i.val c = s.updPort i.val (fun q => { q with swapWait := some c })) ∧
  (∀ (s : State) (el : Nat) (i : PortNo) (r : BitVec 16),
    s.flag 0x0829 (i.val / 18) = false ∨ r.toNat ≤ 10 * s.rd 0x082A (i.val / 18) ∨ s.isOn (2 + i.val / 18) = false →
    exec (.laserSwapWearOut el i r) s = .next (s.ran el ((s.tick el).wr 0x0812 i.val r.toNat))) ∧
  (∀ (s : State) (el k : Nat) (i : PortNo), s.isOn (2 + i.val / 18) = true → s.laser (i.val / 18) (s.rd 0x0810 i.val) = 0 →
    s.laserIn (i.val / 18) 1 = some k →
    exec (.laserLossOfOutput el i) s = .next (s.ran el ((s.tick el).swapTo i.val k 5))) ∧
  (∀ (s : State) (el : Nat) (i : PortNo), s.isOn (2 + i.val / 18) = true → s.laser (i.val / 18) (s.rd 0x0810 i.val) = 0 →
    s.laserIn (i.val / 18) 1 = none → s.rd 0x0810 i.val < 20 →
    ∃ t, exec (.laserLossOfOutput el i) s = .next t ∧ t.laser (i.val / 18) (s.rd 0x0810 i.val) = 5 ∧
      (t.port i.val).swapWait = some .loss ∧ (t.port i.val).training = false ∧
      t.link i.val = (if s.link i.val = 2 ∨ s.link i.val = 3 ∨ s.link i.val = 4 then 1 else s.link i.val) ∧ Faulted t 64 ∧
      (s.link i.val = 1 → SameBut [(0x0815 + s.rd 0x0810 i.val, i.val / 18), (0x3E03, 0), (0x3E04, 0)] s t)) ∧
  (∀ (s : State) (el : Nat) (i : PortNo), s.isOn (2 + i.val / 18) = false ∨ s.laser (i.val / 18) (s.rd 0x0810 i.val) ≠ 0 →
    exec (.laserLossOfOutput el i) s = .next (s.tick el)) ∧
  (∀ (s : State) (el t0 : Nat) (i : PortNo), (s.port i.val).swapHit = some t0 →
    exec (.swapHitEnd el i) s = .next (s.ran el (((s.tick el).wr 0x082D (i.val / 18) ((s.tickRC el - t0) * 5 / 2)).updPort i.val
      (fun q => { q with swapHit := none })))) ∧
  (∀ (s : State) (el : Nat) (i : PortNo), (s.port i.val).swapHit = none → exec (.swapHitEnd el i) s = .next (s.tick el)) ∧
  (∀ (s : State) (el k : Nat) (g : Fin 8), s.laserIn g.val 3 = some k → s.waitingSwap g.val = none →
    exec (.spareWarmed el g) s = .next (s.ran el ((s.tick el).wr (0x0815 + k) g.val 1))) ∧
  (∀ (s : State) (el k i : Nat) (g : Fin 8) (c : SwapCause), s.laserIn g.val 3 = some k → s.waitingSwap g.val = some (i, c) →
    exec (.spareWarmed el g) s = .next (s.ran el
      (let u := ((s.tick el).wr (0x0815 + k) g.val 1).swapTo i k (if c = .loss then 5 else 4);
       if c = .loss ∧ u.flag 0x0800 i = true then u.light i else u))) ∧
  (∀ (s : State) (el : Nat) (g : Fin 8), s.laserIn g.val 3 = none → exec (.spareWarmed el g) s = .next (s.tick el)) ∧
  (∀ (s : State) (el : Nat) (g : Fin 8) (v : BitVec 16), signed 16 (s.rd 0x082E g.val) ≤ 1350 → 1350 < signed 16 v.toNat →
    exec (.portGroupOvertemperature el g v) s = .next (s.ran el (((s.tick el).wr 0x082E g.val v.toNat).fault 67 g.val))) ∧
  (∀ (s : State) (el : Nat) (g : Fin 8) (v : BitVec 16), signed 16 v.toNat ≤ 1350 ∨ 1350 < signed 16 (s.rd 0x082E g.val) →
    exec (.portGroupOvertemperature el g v) s = .next (s.ran el ((s.tick el).wr 0x082E g.val v.toNat)))

/-- MAC control frames load the pause timers, and the timers and the PFC watchdog expire. A good PAUSE frame on a port that honours it
is counted and loads the port-level timer with its quanta in ticks; on one that does not it is counted as discarded; a good PFC
frame does so for each priority it enables, and a priority that the watchdog ignores is left alone; a control frame with another
opcode is counted unknown; a short one is a runt, a long one oversize, one with a bad FCS is counted so; a port that does not
receive takes none. A timer that has run out is cleared and one that runs stays. A priority that has been paused for the whole
watchdog time is let go, ignored from then on and recorded (PID 084Ah, fault bit 69), and is heard again one watchdog time later,
and neither happens sooner. A policer memory error refills its buckets with fault bit 71 and is shown until they are reset
(notes/assumptions/66.md). Controller-path drops in 1,000 consecutive milliseconds set fault bit 70, once in a run. (R103, R104,
R105, R106, R109, R131, PID 3C0Ch, PID 084Ah, PID 3C10h.) -/
def Obligations.PausesLoadAndExpire : Prop :=
  (∀ (s : State) (el : Nat) (i : PortNo) (bs : List Byte), s.receives i.val = true → (s.port i.val).rx = none →
    getBE bs 12 2 = 0x8808 → 64 ≤ bs.length → bs.length ≤ s.rd 0x0803 i.val → getBE bs 14 2 = 1 →
    s.flag 0x0830 i.val = true →
    exec (.macControlFrame el i bs true) s = .next (s.ran el
      (((((s.tick el).noteRx i.val bs.length).countReceived i.val bs.length (getBE bs 0 6)).inc 0x3C0C i.val).loadPause i.val (getBE bs 16 2)))) ∧
  (∀ (s : State) (el : Nat) (i : PortNo) (bs : List Byte), s.receives i.val = true → (s.port i.val).rx = none →
    getBE bs 12 2 = 0x8808 → 64 ≤ bs.length → bs.length ≤ s.rd 0x0803 i.val → getBE bs 14 2 = 1 →
    s.flag 0x0830 i.val = false →
    exec (.macControlFrame el i bs true) s = .next (s.ran el
      ((((s.tick el).noteRx i.val bs.length).countReceived i.val bs.length (getBE bs 0 6)).inc 0x3C10 i.val))) ∧
  (∀ (s : State) (el : Nat) (i : PortNo) (bs : List Byte), s.receives i.val = true → (s.port i.val).rx = none →
    getBE bs 12 2 = 0x8808 → 64 ≤ bs.length → bs.length ≤ s.rd 0x0803 i.val → getBE bs 14 2 ≠ 1 → getBE bs 14 2 ≠ 0x0101 →
    exec (.macControlFrame el i bs true) s = .next (s.ran el
      ((((s.tick el).noteRx i.val bs.length).countReceived i.val bs.length (getBE bs 0 6)).inc 0x3C11 i.val))) ∧
  (∀ (s : State) (el : Nat) (i : PortNo) (bs : List Byte) (good : Bool), s.receives i.val = true → (s.port i.val).rx = none →
    getBE bs 12 2 = 0x8808 → bs.length ≤ 63 →
    exec (.macControlFrame el i bs good) s = .next (s.ran el (((s.tick el).noteRx i.val bs.length).inc 0x3C08 i.val))) ∧
  (∀ (s : State) (el : Nat) (i : PortNo) (bs : List Byte), s.receives i.val = true → (s.port i.val).rx = none →
    getBE bs 12 2 = 0x8808 → 64 ≤ bs.length → bs.length ≤ s.rd 0x0803 i.val →
    exec (.macControlFrame el i bs false) s = .next (s.ran el (((s.tick el).noteRx i.val bs.length).inc 0x3C09 i.val))) ∧
  (∀ (s : State) (el : Nat) (i : PortNo) (bs : List Byte) (good : Bool), s.receives i.val = true → (s.port i.val).rx = none →
    getBE bs 12 2 = 0x8808 → 64 ≤ bs.length → s.rd 0x0803 i.val < bs.length →
    exec (.macControlFrame el i bs good) s = .next (s.ran el (((s.tick el).noteRx i.val bs.length).inc 0x3C0A i.val))) ∧
  (∀ (s : State) (el : Nat) (i : PortNo) (bs : List Byte), s.receives i.val = true → (s.port i.val).rx = none →
    getBE bs 12 2 = 0x8808 → 64 ≤ bs.length → bs.length ≤ s.rd 0x0803 i.val → getBE bs 14 2 = 0x0101 →
    exec (.macControlFrame el i bs true) s = .next (s.ran el
      ((bitsOf 8 (getBE bs 16 2)).foldl (fun u k => u.pfcOne i.val k (getBE bs (18 + 2 * k) 2))
        (((s.tick el).noteRx i.val bs.length).countReceived i.val bs.length (getBE bs 0 6))))) ∧
  (∀ (s : State) (i : PortNo) (k : Fin 8) (n : Nat), (s.rd 0x0832 i.val).testBit k.val = true →
    Tab.find? (s.port i.val).pfcIgnore k.val = none → s.pfcOne i.val k.val n = s.loadPfc i.val k.val n) ∧
  (∀ (s : State) (i : PortNo) (k : Fin 8) (n : Nat), (s.rd 0x0832 i.val).testBit k.val = false →
    s.pfcOne i.val k.val n = s.inc 0x3C10 i.val) ∧
  (∀ (s : State) (el : Nat) (i : PortNo) (bs : List Byte) (good : Bool),
    s.receives i.val = false ∨ (s.port i.val).rx.isSome = true ∨ getBE bs 12 2 ≠ 0x8808 →
    exec (.macControlFrame el i bs good) s = .next (s.tick el)) ∧
  (∀ (s : State) (el t0 : Nat) (i : PortNo), (s.port i.val).pauseUntil = some t0 → t0 ≤ s.tickRC el →
    exec (.pauseTimerExpiry el i 8) s = .next (s.ran el
      ((s.tick el).updPort i.val (fun q => { q with pauseUntil := none })))) ∧
  (∀ (s : State) (el : Nat) (i : PortNo), ((s.port i.val).pauseUntil).all (fun t => decide (s.tickRC el < t)) = true →
    exec (.pauseTimerExpiry el i 8) s = .next (s.tick el)) ∧
  (∀ (s : State) (el : Nat) (i : PortNo) (k : Fin 9), k.val < 8 → (s.tick el).pausedClass i.val k.val = true →
    exec (.pauseTimerExpiry el i k) s = .next (s.tick el)) ∧
  (∀ (s : State) (el : Nat) (i : PortNo) (k : Fin 9), k.val < 8 → (s.tick el).pausedClass i.val k.val = false →
    exec (.pauseTimerExpiry el i k) s = .next (s.ran el ((s.tick el).updPort i.val (fun q => { q with
      pfcUntil := Tab.del q.pfcUntil k.val, pfcSince := Tab.del q.pfcSince k.val })))) ∧
  (∀ (s : State) (el t0 : Nat) (i : PortNo) (k : Fin 8), Tab.find? (s.port i.val).pfcSince k.val = some t0 →
    s.rd 0x0849 i.val ≠ 0 → t0 + s.rd 0x0849 i.val * 400000 ≤ s.tickRC el → (s.tick el).pausedClass i.val k.val = true →
    exec (.pfcWatchdog el i k) s = .next (s.ran el ((((s.tick el).updPort i.val (fun q => { q with
      pfcUntil := Tab.del q.pfcUntil k.val, pfcSince := Tab.del q.pfcSince k.val,
      pfcIgnore := Tab.set q.pfcIgnore k.val (s.tickRC el) })).inc 0x084A (8 * i.val + k.val)).fault 69 (i.val / 18)))) ∧
  (∀ (s : State) (el t0 : Nat) (i : PortNo) (k : Fin 8), Tab.find? (s.port i.val).pfcIgnore k.val = some t0 →
    t0 + s.rd 0x0849 i.val * 400000 ≤ s.tickRC el →
    exec (.pfcWatchdogExpiry el i k) s = .next (s.ran el ((s.tick el).updPort i.val (fun q => { q with
      pfcIgnore := Tab.del q.pfcIgnore k.val })))) ∧
  (∀ (s : State) (el : Nat) (i : PortNo) (k : Fin 8),
    s.rd 0x0849 i.val = 0 ∨ Tab.find? (s.port i.val).pfcSince k.val = none ∨ (s.tick el).pausedClass i.val k.val = false →
    exec (.pfcWatchdog el i k) s = .next (s.tick el)) ∧
  (∀ (s : State) (el t0 : Nat) (i : PortNo) (k : Fin 8), Tab.find? (s.port i.val).pfcSince k.val = some t0 →
    s.tickRC el < t0 + s.rd 0x0849 i.val * 400000 → exec (.pfcWatchdog el i k) s = .next (s.tick el)) ∧
  (∀ (s : State) (el t0 : Nat) (i : PortNo) (k : Fin 8), Tab.find? (s.port i.val).pfcIgnore k.val = some t0 →
    s.tickRC el < t0 + s.rd 0x0849 i.val * 400000 → exec (.pfcWatchdogExpiry el i k) s = .next (s.tick el)) ∧
  (∀ (s : State) (el : Nat) (i : PortNo) (k : Fin 8), Tab.find? (s.port i.val).pfcIgnore k.val = none →
    exec (.pfcWatchdogExpiry el i k) s = .next (s.tick el)) ∧
  (∀ (s : State) (el : Nat) (n : Fin 16384),
    exec (.policerMemoryError el n) s = .next (s.ran el
      (((s.tick el).setPolicer n.val { (s.tick el).policer n.val with full := true, lost := true }).fault 71 (n.val / 2048)))) ∧
  (∀ (s : State) (el : Nat) (g : Fin 8),
    exec (.controllerPathLimitFault el g) s = .next (s.ran el ((s.tick el).sustained 70 g.val 400000 1000))) ∧
  (∀ (s : State) (el last run : Nat) (g : Fin 8), Tab.find? s.sustain (70 * 2 ^ 32 + g.val) = some (last, run) → 1000 ≤ run →
    run < 2 ^ 40 → s.tickRC el / 400000 ≤ last + 1 →
    ∃ t, exec (.controllerPathLimitFault el g) s = .next t ∧ Faulted t 70 ∧
      t.sustain = Tab.set s.sustain (70 * 2 ^ 32 + g.val) (last, run + 2 ^ 40) ∧ SameBut [(0x3E03, 0), (0x3E04, 0)] s t) ∧
  (∀ (s : State) (el : Nat) (g : Fin 8),
    (Tab.find? s.sustain (70 * 2 ^ 32 + g.val)).all (fun x => decide (x.2 < 1000 ∨ 2 ^ 40 ≤ x.2)) = true →
    exec (.controllerPathLimitFault el g) s = .next (s.tick el))

/-- Rate stepping: requests, answers, silence, lock and failure. A 25 Gb/s port that may step down asks for it once its dwell has
passed, where its threshold is not 0; a port at the lower speed asks for the step up when its received rate or its queued tiles pass
their thresholds, or stepping is cleared; otherwise neither asks. A request to step down is acknowledged, and the step starts, where
the port may step down, and is refused otherwise; a request to step up is always acknowledged. An acknowledgement of the exchange in
hand starts the step; a refusal restarts the dwell; a message of another exchange, company or version changes nothing. After silence
a step up starts, and a step down is asked for again up to three times in all. A port that locks is up at its target speed with the
step counted; one that does not within 50 ms retrains at 25 Gb/s, with stepping failed and fault bit 68, and not before. (R125,
R126, R127, R128, R131, PID 0840h, PID 0841h, PID 084Fh.) -/
def Obligations.RateStepsAreNegotiated : Prop :=
  (∀ (s : State) (el : Nat) (i : PortNo), s.link i.val = 3 → s.rd 0x0806 i.val = 0 → s.rd 0x0840 i.val = 0 → s.scheduled = true →
    s.mayStepDown i.val = true → s.rd 0x083B i.val ≠ 0 → (s.port i.val).dwellSince + s.rd 0x083C i.val * 400000000 ≤ s.tickRC el →
    exec (.stepDownRequest el i) s = .next (s.ran el
      ((s.tick el).requestStep i.val 1 1 (((s.port i.val).step.exchange + 1) % 256)))) ∧
  (∀ (s : State) (el : Nat) (i : PortNo), s.mayStepDown i.val = false ∨ s.rd 0x083B i.val = 0 ∨ s.rd 0x0840 i.val ≠ 0 ∨
      s.tickRC el < (s.port i.val).dwellSince + s.rd 0x083C i.val * 400000000 →
    exec (.stepDownRequest el i) s = .next (s.tick el)) ∧
  (∀ (s : State) (el : Nat) (i : PortNo) (c : StepUpCause), s.link i.val = 3 → s.rd 0x0840 i.val = 3 →
    (c = .rate ∧ s.rd 0x083D i.val * 1000 < (s.tick el).rxBits i.val) ∨
      (c = .occupancy ∧ (s.rd 0x0845 i.val < s.pa.tilesE i.val ∨ s.rd 0x0845 i.val < s.pb.tilesE i.val)) ∨
      (c = .cleared ∧ s.flag 0x083A i.val = false) →
    exec (.stepUpRequest el i c) s = .next (s.ran el
      ((s.tick el).requestStep i.val 2 1 (((s.port i.val).step.exchange + 1) % 256)))) ∧
  (∀ (s : State) (el : Nat) (i : PortNo) (c : StepUpCause), s.link i.val ≠ 3 ∨ s.rd 0x0840 i.val ≠ 3 ∨
      ((s.tick el).rxBits i.val ≤ s.rd 0x083D i.val * 1000 ∧ s.pa.tilesE i.val ≤ s.rd 0x0845 i.val ∧
        s.pb.tilesE i.val ≤ s.rd 0x0845 i.val ∧ s.flag 0x083A i.val = true) →
    exec (.stepUpRequest el i c) s = .next (s.tick el)) ∧
  (∀ (s : State) (el : Nat) (i : PortNo) (co : BitVec 24) (x : Byte), s.link i.val = 3 → s.scheduled = true →
    s.holder.isSome = true → co.toNat = s.rd 0x0842 0 % 2 ^ 24 → s.mayStepDown i.val = true → s.rd 0x0806 i.val = 0 →
    isFastPort i.val = false →
    exec (.stepMessage el i co 1 1 x 1) s = .next (s.ran el (((s.tick el).sendStep i.val 2 x.toNat 1).startStep i.val 1))) ∧
  (∀ (s : State) (el : Nat) (i : PortNo) (co : BitVec 24) (x tg : Byte), s.link i.val = 3 → s.scheduled = true →
    s.holder.isSome = true → co.toNat = s.rd 0x0842 0 % 2 ^ 24 →
    s.mayStepDown i.val = false ∨ s.rd 0x0806 i.val ≠ 0 ∨ tg ≠ 1 ∨ isFastPort i.val = true →
    exec (.stepMessage el i co 1 1 x tg) s = .next (s.ran el ((s.tick el).sendStep i.val 3 x.toNat tg.toNat))) ∧
  (∀ (s : State) (el : Nat) (i : PortNo) (co : BitVec 24) (x tg : Byte), s.link i.val = 3 → s.scheduled = true →
    s.holder.isSome = true → co.toNat = s.rd 0x0842 0 % 2 ^ 24 →
    exec (.stepMessage el i co 1 4 x tg) s = .next (s.ran el
      (let u := (s.tick el).sendStep i.val 5 x.toNat tg.toNat;
       if u.rd 0x0806 i.val = 1 ∧ u.rd 0x0801 i.val = 0 then u.startStep i.val 0 else u))) ∧
  (∀ (s : State) (el : Nat) (i : PortNo) (co : BitVec 24) (x tg : Byte), s.link i.val = 3 → s.scheduled = true →
    s.holder.isSome = true → co.toNat = s.rd 0x0842 0 % 2 ^ 24 → (s.port i.val).step.asked = 2 →
    (s.port i.val).step.exchange = x.toNat →
    exec (.stepMessage el i co 1 5 x tg) s = .next (s.ran el (((s.tick el).wr 0x083F i.val 1).startStep i.val 0))) ∧
  (∀ (s : State) (el : Nat) (i : PortNo) (co : BitVec 24) (m x tg : Byte), m = 2 ∨ m = 3 ∨ m = 5 →
    (s.port i.val).step.exchange ≠ x.toNat → exec (.stepMessage el i co 1 m x tg) s = .next (s.tick el)) ∧
  (∀ (s : State) (el : Nat) (i : PortNo) (co : BitVec 24) (x tg : Byte), s.link i.val = 3 → s.scheduled = true →
    s.holder.isSome = true → co.toNat = s.rd 0x0842 0 % 2 ^ 24 → (s.port i.val).step.asked = 1 →
    (s.port i.val).step.exchange = x.toNat →
    exec (.stepMessage el i co 1 2 x tg) s = .next (s.ran el (((s.tick el).wr 0x083F i.val 1).startStep i.val 1))) ∧
  (∀ (s : State) (el : Nat) (i : PortNo) (co : BitVec 24) (x tg : Byte), s.link i.val = 3 → s.scheduled = true →
    s.holder.isSome = true → co.toNat = s.rd 0x0842 0 % 2 ^ 24 → (s.port i.val).step.asked = 1 →
    (s.port i.val).step.exchange = x.toNat →
    exec (.stepMessage el i co 1 3 x tg) s = .next (s.ran el (((s.tick el).wr 0x083F i.val 2).restartDwell i.val))) ∧
  (∀ (s : State) (el : Nat) (i : PortNo) (co : BitVec 24) (v m x tg : Byte), co.toNat ≠ s.rd 0x0842 0 % 2 ^ 24 ∨ v ≠ 1 →
    exec (.stepMessage el i co v m x tg) s = .next (s.tick el)) ∧
  (∀ (s : State) (el : Nat) (i : PortNo), (s.port i.val).step.asked = 1 → s.rd 0x0840 i.val = 1 →
    (s.port i.val).step.since + s.rd 0x0847 i.val * 400000 ≤ s.tickRC el → (s.port i.val).step.attempts < 3 →
    exec (.stepNegotiationTimeout el i) s = .next (s.ran el
      ((s.tick el).requestStep i.val 1 ((s.port i.val).step.attempts + 1) (s.port i.val).step.exchange))) ∧
  (∀ (s : State) (el : Nat) (i : PortNo), (s.port i.val).step.asked = 1 → s.rd 0x0840 i.val = 1 →
    (s.port i.val).step.since + s.rd 0x0847 i.val * 400000 ≤ s.tickRC el → 3 ≤ (s.port i.val).step.attempts →
    exec (.stepNegotiationTimeout el i) s = .next (s.ran el ((s.tick el).restartDwell i.val))) ∧
  (∀ (s : State) (el : Nat) (i : PortNo), (s.port i.val).step.asked = 2 → s.rd 0x0840 i.val = 1 →
    (s.port i.val).step.since + s.rd 0x0847 i.val * 400000 ≤ s.tickRC el →
    exec (.stepNegotiationTimeout el i) s = .next (s.ran el ((s.tick el).startStep i.val 0))) ∧
  (∀ (s : State) (el : Nat) (i : PortNo), (s.port i.val).step.asked = 0 ∨ s.rd 0x0840 i.val ≠ 1 ∨
      s.tickRC el < (s.port i.val).step.since + s.rd 0x0847 i.val * 400000 →
    exec (.stepNegotiationTimeout el i) s = .next (s.tick el)) ∧
  (∀ (s : State) (el : Nat) (i : PortNo), s.link i.val = 4 → (s.port i.val).step.target = 1 →
    ∃ t, exec (.stepLock el i) s = .next t ∧ t.link i.val = 3 ∧ t.rd 0x0806 i.val = 1 ∧ t.rd 0x0840 i.val = 3 ∧
      t.rd 0x0841 i.val = (s.rd 0x0841 i.val + 1) % 2 ^ 32 ∧ (t.port i.val).dwellSince = s.tickRC el ∧
      SameBut [(0x0805, i.val), (0x0809, i.val), (0x0806, i.val), (0x0840, i.val), (0x0841, i.val)] s t) ∧
  (∀ (s : State) (el : Nat) (i : PortNo), s.link i.val = 4 → (s.port i.val).step.target = 0 → s.coreFastEnough = true →
    ∃ t, exec (.stepLock el i) s = .next t ∧ t.link i.val = 3 ∧ t.rd 0x0806 i.val = 0 ∧ t.rd 0x0840 i.val = 0 ∧
      t.rd 0x0841 i.val = (s.rd 0x0841 i.val + 1) % 2 ^ 32 ∧ (t.port i.val).dwellSince = s.tickRC el ∧
      SameBut [(0x0805, i.val), (0x0809, i.val), (0x0806, i.val), (0x0840, i.val), (0x0841, i.val)] s t) ∧
  (∀ (s : State) (el : Nat) (i : PortNo), s.link i.val ≠ 4 → exec (.stepLock el i) s = .next (s.tick el)) ∧
  (∀ (s : State) (el : Nat) (i : PortNo), s.link i.val = 4 → (s.port i.val).step.since + 20000000 ≤ s.tickRC el →
    exec (.stepFailure el i) s = .next (s.ran el (((((((((s.tick el).setLink i.val 2).wr 0x0806 i.val 0).wr 0x084F i.val 1).cutPort
      i.val).flushPort i.val).quietPort i.val).inc 0x3C17 i.val).fault 68 (i.val / 18)))) ∧
  (∀ (s : State) (el : Nat) (i : PortNo), s.link i.val ≠ 4 ∨ s.tickRC el < (s.port i.val).step.since + 20000000 →
    exec (.stepFailure el i) s = .next (s.tick el))

/-- The start and the end of a frame: steering and replication from its head, and the checks of the MAC at its end. A port that does not
receive, or is receiving a frame already, takes no frame. A MAC control frame is held whole, not replicated, and acts at its end. An
unpoliced frame of 64 bytes that steering does not discard is replicated from its head to every plane of the replication set, under
the port's next sequence number; a shorter or a policed one is held; one to a link-local address whose action is to discard is
counted and enters no plane. At the end, a frame of 63 bytes or fewer is counted as a runt; one longer than the port's maximum as
oversize, with its copies ended bad and cut to the maximum, the last four bytes the inverted FCS of those before; one with a bad FCS
as such, with its copies marked bad; a good frame that was replicated ends its copies; a good frame whose start was discarded is
only counted; a good policed frame is then policed, unless its policer has been switched off; a good one that was held is replicated
whole. The length counts the R-TAG that recovery removed. A command for a port with no frame in reception changes nothing. (R10,
R100, R101, R103, R112, R117, R120, R122, R123, PID 0843h, PID 3C08h, PID 3C09h.) -/
def Obligations.FramesAreReceivedAtTheirPort : Prop :=
  (∀ (s : State) (el : Nat) (i : PortNo) (head : List Byte) (fr : BitVec 8), s.receives i.val = false ∨ (s.port i.val).rx.isSome = true →
    exec (.frameArrival el i head fr) s = .next (s.tick el)) ∧
  (∀ (s : State) (el : Nat) (i : PortNo) (head : List Byte) (fr : BitVec 8), s.receives i.val = true → (s.port i.val).rx = none →
    getBE head 12 2 = 0x8808 →
    ∃ t, exec (.frameArrival el i head fr) s = .next t ∧ t.regs = s.regs ∧ t.pa = s.pa ∧ t.pb = s.pb ∧
      (t.port i.val).rx.isSome = true ∧ ((t.port i.val).rx.map RxFrame.macControl) = some true ∧
      ((t.port i.val).rx.map RxFrame.bytes) = some head) ∧
  (∀ (s : State) (el : Nat) (i : PortNo) (head : List Byte) (fr : BitVec 8),
    s.receives i.val = true → (s.port i.val).rx = none → getBE head 12 2 ≠ 0x8808 →
    ((s.tick el).arrive i.val head fr.toNat).2.1.drop = false → ((s.tick el).arrive i.val head fr.toNat).2.1.policer = none →
    64 ≤ head.length →
    exec (.frameArrival el i head fr) s = .next (s.ran el
      (let a := (s.tick el).arrive i.val head fr.toNat;
       (a.1.replicate i.val a.2.1 a.2.2).1.updPort i.val (fun q => { q with rx := some (a.1.replicate i.val a.2.1 a.2.2).2 })))) ∧
  (∀ (s : State) (i : PortNo) (f : RxFrame) (t : Tags),
    (s.replicate i.val f t).1.rd 0x0843 i.val = (s.rd 0x0843 i.val + 1) % 2 ^ 32 ∧
    (s.replicate i.val f t).2.seq = some (s.rd 0x0843 i.val) ∧ (s.replicate i.val f t).2.planes = s.replicationSet f.rc ∧
    (∀ p : PlaneNo, ((s.replicate i.val f t).1.pl p.val).ingress.length =
      (s.pl p.val).ingress.length + (if p.val ∈ s.replicationSet f.rc then 1 else 0))) ∧
  (∀ (s : State) (el : Nat) (i : PortNo) (head : List Byte) (fr : BitVec 8),
    s.receives i.val = true → (s.port i.val).rx = none → getBE head 12 2 ≠ 0x8808 →
    ((s.tick el).arrive i.val head fr.toNat).2.1.drop = true ∨ ((s.tick el).arrive i.val head fr.toNat).2.1.policer.isSome = true ∨
      head.length < 64 →
    exec (.frameArrival el i head fr) s = .next (s.ran el
      (((s.tick el).arrive i.val head fr.toNat).1.updPort i.val (fun q => { q with
        rx := some ((s.tick el).arrive i.val head fr.toNat).2.1 })))) ∧
  (∀ (s : State) (el : Nat) (i : PortNo) (head : List Byte) (fr : BitVec 8),
    s.receives i.val = true → (s.port i.val).rx = none → getBE head 12 2 ≠ 0x8808 → getBE head 12 2 ≠ 0x88F7 →
    getBE head 0 6 / 16 = 0x0180C200000 → getBE head 0 6 % 16 ≠ 1 → s.rd (0x0920 + getBE head 0 6 % 16) i.val = 0 →
    getBE head 12 2 ∉ s.tpids (i.val / 18) → s.flag 0x3108 i.val = false → s.rd 0x091F i.val = 0 →
    ∃ t, exec (.frameArrival el i head fr) s = .next t ∧ t.rd 0x3C12 i.val = (s.rd 0x3C12 i.val + 1) % 2 ^ 64 ∧
      ((t.port i.val).rx.map RxFrame.drop) = some true ∧ t.pa = s.pa ∧ t.pb = s.pb ∧ SameBut [(0x3C12, i.val)] s t) ∧
  (∀ (s : State) (el : Nat) (i : PortNo) (rest : List Byte) (good : Bool) (f : RxFrame), (s.port i.val).rx = some f →
    f.macControl = true →
    exec (.frameEnd el i rest good) s = .next (s.ran el (((s.tick el).clearRx i.val).controlReceived i.val (f.bytes ++ rest) good))) ∧
  (∀ (s : State) (el n : Nat) (i : PortNo) (rest : List Byte) (good : Bool) (f : RxFrame), (s.port i.val).rx = some f →
    f.macControl = false →
    n = (f.bytes ++ rest).length + (if f.frer.any (fun w => w.testBit 30) = true ∧ f.tagless = false then 6 else 0) → n ≤ 63 →
    exec (.frameEnd el i rest good) s = .next (s.ran el
      ((((s.tick el).updPort i.val (fun q => { q with rx := none })).noteRx i.val n).inc 0x3C08 i.val))) ∧
  (∀ (s : State) (el n c : Nat) (i : PortNo) (rest : List Byte) (good : Bool) (f : RxFrame), (s.port i.val).rx = some f →
    f.macControl = false → c = (if f.frer.any (fun w => w.testBit 30) = true ∧ f.tagless = false then 6 else 0) →
    n = (f.bytes ++ rest).length + c → 64 ≤ n → s.rd 0x0803 i.val < n →
    exec (.frameEnd el i rest good) s = .next (s.ran el
      (((((s.tick el).clearRx i.val).noteRx i.val n).inc 0x3C0A i.val).endInPlanes i.val f
        ((f.bytes ++ rest).take (s.rd 0x0803 i.val - c - 4) ++ fcsBytes true ((f.bytes ++ rest).take (s.rd 0x0803 i.val - c - 4)))
        true true))) ∧
  (∀ (s : State) (el n : Nat) (i : PortNo) (rest : List Byte) (f : RxFrame), (s.port i.val).rx = some f → f.macControl = false →
    n = (f.bytes ++ rest).length + (if f.frer.any (fun w => w.testBit 30) = true ∧ f.tagless = false then 6 else 0) →
    64 ≤ n → n ≤ s.rd 0x0803 i.val →
    exec (.frameEnd el i rest false) s = .next (s.ran el
      (((((s.tick el).clearRx i.val).noteRx i.val n).inc 0x3C09 i.val).endInPlanes i.val f (f.bytes ++ rest) true false))) ∧
  (∀ (s : State) (el n k : Nat) (i : PortNo) (rest : List Byte) (f : RxFrame), (s.port i.val).rx = some f → f.macControl = false →
    n = (f.bytes ++ rest).length + (if f.frer.any (fun w => w.testBit 30) = true ∧ f.tagless = false then 6 else 0) →
    64 ≤ n → n ≤ s.rd 0x0803 i.val → f.drop = false → f.seq = some k →
    exec (.frameEnd el i rest true) s = .next (s.ran el
      (((((s.tick el).clearRx i.val).noteRx i.val n).countReceived i.val n (getBE (f.bytes ++ rest) 0 6)).endInPlanes i.val
        { f with bytes := f.bytes ++ rest } (f.bytes ++ rest) false false))) ∧
  (∀ (s : State) (el n : Nat) (i : PortNo) (rest : List Byte) (f : RxFrame), (s.port i.val).rx = some f → f.macControl = false →
    n = (f.bytes ++ rest).length + (if f.frer.any (fun w => w.testBit 30) = true ∧ f.tagless = false then 6 else 0) →
    64 ≤ n → n ≤ s.rd 0x0803 i.val → f.drop = true →
    exec (.frameEnd el i rest true) s = .next (s.ran el
      ((((s.tick el).clearRx i.val).noteRx i.val n).countReceived i.val n (getBE (f.bytes ++ rest) 0 6)))) ∧
  (∀ (s : State) (el n k : Nat) (i : PortNo) (rest : List Byte) (f : RxFrame), (s.port i.val).rx = some f → f.macControl = false →
    n = (f.bytes ++ rest).length + (if f.frer.any (fun w => w.testBit 30) = true ∧ f.tagless = false then 6 else 0) →
    64 ≤ n → n ≤ s.rd 0x0803 i.val → f.drop = false → f.seq = none → f.policer = some k → s.rd 0x0A00 k = 1 ∨ s.rd 0x0A00 k = 2 →
    exec (.frameEnd el i rest true) s = .next (s.ran el
      (((((s.tick el).clearRx i.val).noteRx i.val n).countReceived i.val n (getBE (f.bytes ++ rest) 0 6)).police i.val k n
        { f with bytes := f.bytes ++ rest }))) ∧
  (∀ (s : State) (el n : Nat) (i : PortNo) (rest : List Byte) (f : RxFrame), (s.port i.val).rx = some f → f.macControl = false →
    n = (f.bytes ++ rest).length + (if f.frer.any (fun w => w.testBit 30) = true ∧ f.tagless = false then 6 else 0) →
    64 ≤ n → n ≤ s.rd 0x0803 i.val → f.drop = false → f.seq = none →
    f.policer.all (fun k => s.rd 0x0A00 k != 1 && s.rd 0x0A00 k != 2) = true →
    exec (.frameEnd el i rest true) s = .next (s.ran el
      (((((s.tick el).clearRx i.val).noteRx i.val n).countReceived i.val n (getBE (f.bytes ++ rest) 0 6)).replicateWhole i.val
        { f with bytes := f.bytes ++ rest }))) ∧
  (∀ (s : State) (el : Nat) (i : PortNo) (rest : List Byte) (good : Bool), (s.port i.val).rx = none →
    exec (.frameEnd el i rest good) s = .next (s.tick el))

/-- A pipeline classifies its oldest waiting frame under the version of its arrival RC, on the first pass and the second. With no frame
waiting, with one whose parse window has not arrived, or with one whose end alone can tell its error class, nothing changes. A frame
that no slot serves is removed and counted (PID 3C20h). Otherwise it runs the stages under the slot of its arrival RC, which is
counted; an injected frame is resolved without them. A second pass runs under the version of its bed, and is counted as a stall
where that slot is gone or has been used anew. All this holds whatever other pipelines ask for tiles in the same clock (the operand
of rivals is the model's, notes/assumptions/72.md). A rule memory error makes the entry non-matching in the plane, for a free time
of at most 1 ms with an active controller and until one rewrites it otherwise, is counted, and sets fault bit 80; an entry of ganged
tiles is the entry of the gang. (R135, R140, R145, R154, R162, R233, PID 102Dh, PID 3C20h, PID 3C22h.) -/
def Obligations.PipelinesClassifyTheirOldestFrame : Prop :=
  (∀ (s : State) (el : Nat) (p : PlaneNo) (g : Fin 8) (r : BitVec 8), (s.pl p.val).contest.rivals = 0 →
    takeFirst (fun y => y.pipe == g.val) (s.pl p.val).ingress = none →
    exec (.frameClassify el p ⟨g, r⟩) s = .next (s.tick el)) ∧
  (∀ (s : State) (el : Nat) (p : PlaneNo) (g : Fin 8) (r : BitVec 8) (f : Frame) (rest : List Frame),
    (s.pl p.val).contest.rivals = 0 →
    takeFirst (fun y => y.pipe == g.val) (s.pl p.val).ingress = some (f, rest) → f.ended = false → f.bytes.length < 256 →
    exec (.frameClassify el p ⟨g, r⟩) s = .next (s.tick el)) ∧
  (∀ (s : State) (el v : Nat) (p : PlaneNo) (g : Fin 8) (r : BitVec 8) (f : Frame) (rest : List Frame),
    (s.pl p.val).contest.rivals = 0 →
    takeFirst (fun y => y.pipe == g.val) (s.pl p.val).ingress = some (f, rest) → f.inject = none →
    s.versionFor p.val f.rc = some v → (s.parse v f).open_ = true →
    exec (.frameClassify el p ⟨g, r⟩) s = .next (s.tick el)) ∧
  (∀ (s : State) (el : Nat) (p : PlaneNo) (g : Fin 8) (r : BitVec 8) (f : Frame) (rest : List Frame),
    (s.pl p.val).contest.rivals = 0 →
    takeFirst (fun y => y.pipe == g.val) (s.pl p.val).ingress = some (f, rest) → f.ended = true ∨ 256 ≤ f.bytes.length →
    f.inject = none → s.versionFor p.val f.rc = none →
    exec (.frameClassify el p ⟨g, r⟩) s =
      .next (s.ran el (((s.tick el).updPl p.val (fun q => { q with ingress := rest })).inc 0x3C20 p.val))) ∧
  (∀ (s : State) (el v : Nat) (p : PlaneNo) (g : Fin 8) (r : BitVec 8) (f : Frame) (rest : List Frame),
    takeFirst (fun y => y.pipe == g.val) (s.pl p.val).ingress = some (f, rest) →
    f.ended = true ∨ 256 ≤ f.bytes.length → f.inject = none → s.versionFor p.val f.rc = some v → (s.parse v f).open_ = false →
    exec (.frameClassify el p ⟨g, r⟩) s = .next (s.ran el (contested p.val r.toNat
      (fun u => classify p.val v { f with verGen := (s.slot v).gen }
        ((u.updPl p.val (fun q => { q with ingress := rest })).inc 0x102D (4 * p.val + v))) (s.tick el)))) ∧
  (∀ (s : State) (el m v qn : Nat) (p : PlaneNo) (g : Fin 8) (r : BitVec 8) (f : Frame) (rest : List Frame),
    takeFirst (fun y => y.pipe == g.val) (s.pl p.val).ingress = some (f, rest) → f.ended = true ∨ 256 ≤ f.bytes.length →
    f.inject = some (m, v, qn) →
    exec (.frameClassify el p ⟨g, r⟩) s = .next (s.ran el (contested p.val r.toNat
      (fun u => (u.updPl p.val (fun x => { x with ingress := rest })).injected p.val f m v qn) (s.tick el)))) ∧
  (∀ (s : State) (el : Nat) (p : PlaneNo) (g : Fin 8) (r : BitVec 8), (s.pl p.val).contest.rivals = 0 →
    takeFirst (fun y => y.pipe == g.val) (s.pl p.val).recirc = none →
    exec (.secondPass el p ⟨g, r⟩) s = .next (s.tick el)) ∧
  (∀ (s : State) (el : Nat) (p : PlaneNo) (g : Fin 8) (r : BitVec 8) (f : Frame) (rest : List Frame),
    takeFirst (fun y => y.pipe == g.val) (s.pl p.val).recirc = some (f, rest) →
    (s.slot (bedGet f.bed 243 242)).state.usable = true → (s.slot (bedGet f.bed 243 242)).gen = f.verGen →
    exec (.secondPass el p ⟨g, r⟩) s = .next (s.ran el (contested p.val r.toNat
      (fun u => classify p.val (bedGet f.bed 243 242) f (u.updPl p.val (fun q => { q with recirc := rest }))) (s.tick el)))) ∧
  (∀ (s : State) (el : Nat) (p : PlaneNo) (g : Fin 8) (r : BitVec 8) (f : Frame) (rest : List Frame),
    (s.pl p.val).contest.rivals = 0 →
    takeFirst (fun y => y.pipe == g.val) (s.pl p.val).recirc = some (f, rest) →
    (s.slot (bedGet f.bed 243 242)).state.usable = false ∨ (s.slot (bedGet f.bed 243 242)).gen ≠ f.verGen →
    exec (.secondPass el p ⟨g, r⟩) s =
      .next (s.ran el (((s.tick el).updPl p.val (fun q => { q with recirc := rest })).inc 0x3C20 p.val))) ∧
  (∀ (s : State) (el c x : Nat) (p : PlaneNo) (r : Fin 49152), s.holder = some c →
    x = 256 * tileLead s.latest (r.val / 256) + r.val % 256 →
    exec (.ruleMemoryError el p r) s = .next (s.ran el
      (((({ s.tick el with drawn := s.drawn + 1 } : State).updPl p.val (fun q => { q with
        badRules := Tab.set q.badRules x (some (s.tickRC el + Config.freeValue s.drawn % 400001)) })).inc 0x3C22 p.val).fault 80 p.val))) ∧
  (∀ (s : State) (el x : Nat) (p : PlaneNo) (r : Fin 49152), s.holder = none →
    x = 256 * tileLead s.latest (r.val / 256) + r.val % 256 →
    exec (.ruleMemoryError el p r) s = .next (s.ran el
      ((((s.tick el).updPl p.val (fun q => { q with badRules := Tab.set q.badRules x none })).inc 0x3C22 p.val).fault 80 p.val)))

/-- Tile writes, cache refills, link-memory errors and scrubs of a plane's buffer. A frame that needs no further tile takes none; one
that does takes one of the first pool of its chain that grants it, or of the overrun pool, and its chain grows by it; one that no
pool grants overruns: it is counted with fault bit 116 and its copies end bad. A pool without room refuses; pipelines that ask no
more than its room are all granted, without a count. The pipeline whose turn it is, where its cache holds fewer than 16 tiles, fills
it to 32; one that holds 16, or whose turn has not come, is left alone. A correctable link-memory error is only counted; an
uncorrectable one is counted and sets fault bit 113, and ends the frame whose chain it hits. A scrub starts at the threshold of the
quarantine set, on request, and when its interval has passed, and a request while one runs waits for its end; it ends with PID 1825h
clear, the sweep counted, and the tiles that were in no live chain freed and counted, with fault bit 115 for leaked ones. (R225,
R231, R233, R235, R237, R238, R239, PID 181Eh, PID 1825h, PID 1826h, PID 182Ch.) -/
def Obligations.TilesAreWrittenFreedAndScrubbed : Prop :=
  (∀ (s : State) (el : Nat) (p : PlaneNo) (h : Fin 24576) (r : BitVec 8), (s.pl p.val).contest.rivals = 0 →
    Tab.find? (s.pl p.val).desc h.val = none → exec (.frameTileWrite el p ⟨h, r⟩) s = .next (s.tick el)) ∧
  (∀ (s : State) (el : Nat) (p : PlaneNo) (h : Fin 24576) (r : BitVec 8) (d : Desc), (s.pl p.val).contest.rivals = 0 →
    Tab.find? (s.pl p.val).desc h.val = some d → d.frame.bytes.length ≤ 256 * d.count ∨ d.holders.testBit 148 = false →
    exec (.frameTileWrite el p ⟨h, r⟩) s = .next (s.tick el)) ∧
  (∀ (s : State) (el c x : Nat) (p : PlaneNo) (h : Fin 24576) (d : Desc), Tab.find? (s.pl p.val).desc h.val = some d →
    d.holders.testBit 148 = true → 256 * d.count < d.frame.bytes.length → ((s.tick el).ask p.val d (d.chain ++ [7])).2 = some c →
    ((((s.tick el).ask p.val d (d.chain ++ [7])).1).allocate p.val d c).2 = some x →
    exec (.frameTileWrite el p ⟨h, 0⟩) s = .next (s.ran el
      (let u := ((((s.tick el).ask p.val d (d.chain ++ [7])).1).allocate p.val d c).1;
       (((if c = 7 then u.inc 0x181E p.val else u).updPl p.val (fun q => { q with
        tiles := match Tab.find? q.tiles d.tail with
          | some y => Tab.set q.tiles d.tail { y with next := x }
          | none => q.tiles,
        desc := Tab.set q.desc h.val { d with tail := x, count := d.count + 1 } })).pauseCheck d.frame.port).settleReception p.val h.val))) ∧
  (∀ (s : State) (el : Nat) (p : PlaneNo) (h : Fin 24576) (d : Desc), Tab.find? (s.pl p.val).desc h.val = some d →
    d.holders.testBit 148 = true → 256 * d.count < d.frame.bytes.length → (∀ c ∈ d.chain ++ [7], s.room p.val d c = 0) →
    exec (.frameTileWrite el p ⟨h, 0⟩) s = .next (s.ran el
      (let u := ((((s.tick el).inc 0x181F p.val).fault 116 p.val).endBad p.val h.val .overrun);
       (match Tab.find? (u.pl p.val).desc h.val with
        | some x => u.markLast p.val x
        | none => u).release p.val h.val d.gen 148))) ∧
  (∀ (s : State) (p : PlaneNo) (d : Desc) (c : Nat), s.room p.val d c = 0 → s.askPool p.val d c = (s, false)) ∧
  (∀ (s : State) (p : PlaneNo) (d : Desc) (c : Nat), s.room p.val d c ≠ 0 → (s.pl p.val).contest.refused = [] →
    ((rotation (s.rd 0x181B p.val)).filter (fun g => g == d.frame.pipe || (s.pl p.val).contest.rivals.testBit g)).length ≤ s.room p.val d c →
    s.askPool p.val d c = (s, true)) ∧
  (∀ (s : State) (el : Nat) (p : PlaneNo) (g : Fin 8), ((s.pl p.val).cache g.val).length < 16 → (s.pl p.val).nextRefill = some g.val →
    exec (.cacheRefill el p g) s = .next (s.ran el ((s.tick el).updPl p.val
      (fun q => { q.fillCache g.val (32 - (q.cache g.val).length) with refillNext := (g.val + 1) % 8 })))) ∧
  (∀ (s : State) (el : Nat) (p : PlaneNo) (g : Fin 8), 16 ≤ ((s.pl p.val).cache g.val).length ∨ (s.pl p.val).nextRefill ≠ some g.val →
    exec (.cacheRefill el p g) s = .next (s.tick el)) ∧
  (∀ (s : State) (el : Nat) (p : PlaneNo) (x : Fin 24576),
    exec (.linkMemoryError el p x false) s = .next (s.ran el ((s.tick el).inc 0x182C (2 * p.val)))) ∧
  (∀ (s : State) (el : Nat) (p : PlaneNo) (x : Fin 24576),
    Tab.search (fun e => ((s.pl p.val).chainOf 36 e.1 e.2.tail).contains x.val) (s.pl p.val).desc = none →
    exec (.linkMemoryError el p x true) s = .next (s.ran el (((s.tick el).inc 0x182C (2 * p.val + 1)).fault 113 p.val))) ∧
  (∀ (s : State) (el h : Nat) (p : PlaneNo) (x : Fin 24576) (d : Desc),
    Tab.search (fun e => ((s.pl p.val).chainOf 36 e.1 e.2.tail).contains x.val) (s.pl p.val).desc = some (h, d) →
    exec (.linkMemoryError el p x true) s = .next (s.ran el
      (let u := ((((s.tick el).inc 0x182C (2 * p.val + 1)).fault 113 p.val).updPl p.val
        (fun q => { q with tiles := Tab.del q.tiles x.val })).endBad p.val h .link;
       match Tab.find? (u.pl p.val).desc h with
       | some y => if y.holders.testBit 148 = true then u.release p.val h y.gen 148 else u
       | none => u))) ∧
  (∀ (s : State) (el : Nat) (p : PlaneNo), s.isOn p.val = true → (s.pl p.val).scrub.running = false →
    s.rd 0x1822 0 ≤ (s.pl p.val).quar.length ∨
      (s.rd 0x1823 0 ≠ 0 ∧ (s.pl p.val).scrub.lastEnd + s.rd 0x1823 0 * 400000000 ≤ s.tickRC el) →
    ∃ t, exec (.scrubStart el p) s = .next t ∧ (t.pl p.val).scrub.running = true ∧ t.rd 0x1825 p.val = 1 ∧
      (t.pl p.val).scrub.suspects = (s.pl p.val).taken.filter (fun x => !(s.pl p.val).cachedTiles.contains x && !(s.pl p.val).liveTiles.contains x) ∧
      SameBut [(0x1825, p.val)] s t) ∧
  (∀ (s : State) (el : Nat) (p : PlaneNo), (s.pl p.val).scrub.running = true → s.rd 0x1823 0 = 0 ∨
      s.tickRC el < (s.pl p.val).scrub.lastEnd + s.rd 0x1823 0 * 400000000 →
    exec (.scrubStart el p) s = .next (s.tick el)) ∧
  (∀ (s : State) (el : Nat) (q : Req), Ready s q roleSite → FullService s → q.inst = 0 → q.data = [1] →
    s.isOn 0 = true → s.isOn 1 = true → s.pa.scrub.running = false → s.pb.scrub.running = false →
    ∃ t, exec (.scrubRequest el q) s = .next t ∧ t.pa.scrub.running = true ∧ t.pb.scrub.running = true ∧
      t.rd 0x1825 0 = 1 ∧ t.rd 0x1825 1 = 1 ∧
      (∀ e ∈ t.bufs, e.2.quarantined = true → e.2.held = false → 2 ≤ e.1 / 2 ^ 20) ∧
      Answers s t q 0x02 stOk 0x1824 0 [] [(0x1825, 0), (0x1825, 1)]) ∧
  (∀ (s : State) (el : Nat) (q : Req), Ready s q roleSite → FullService s → q.inst = 0 → q.data = [1] →
    s.isOn 0 = true → s.isOn 1 = true → s.pa.scrub.running = true → s.pb.scrub.running = true →
    ∃ t, exec (.scrubRequest el q) s = .next t ∧ t.pa.scrub = { s.pa.scrub with queued := true } ∧
      t.pb.scrub = { s.pb.scrub with queued := true } ∧ Answers s t q 0x02 stOk 0x1824 0 [] []) ∧
  (∀ (s : State) (el : Nat) (p : PlaneNo) (c : List Nat), (s.pl p.val).scrub.running = true → (s.pl p.val).scrub.queued = false →
    c = (s.pl p.val).scrub.suspects.filter (fun x => !(s.pl p.val).liveTiles.contains x) →
    ∃ t, exec (.scrubEnd el p) s = .next t ∧ t.rd 0x1825 p.val = 0 ∧
      t.rd 0x1826 p.val = (s.rd 0x1826 p.val + 1) % 2 ^ 32 ∧
      t.rd 0x1827 p.val = (c.filter (fun x => (s.pl p.val).quar.contains x)).length % 2 ^ 32 ∧
      t.rd 0x1828 p.val = (s.rd 0x1828 p.val + (c.filter (fun x => !(s.pl p.val).quar.contains x)).length) % 2 ^ 32 ∧
      (t.pl p.val).scrub.running = false ∧ (t.pl p.val).taken = (s.pl p.val).taken.filter (fun x => !c.contains x) ∧
      (if (c.filter (fun x => !(s.pl p.val).quar.contains x)) = [] then t.faults = s.faults else Faulted t 115) ∧
      SameBut [(0x1825, p.val), (0x1826, p.val), (0x1827, p.val), (0x1828, p.val), (0x1829, p.val), (0x3E03, 0), (0x3E04, 0)] s t) ∧
  (∀ (s : State) (el : Nat) (p : PlaneNo), (s.pl p.val).scrub.running = true → (s.pl p.val).scrub.queued = true →
    ∃ t, exec (.scrubEnd el p) s = .next t ∧ (t.pl p.val).scrub.running = true ∧ (t.pl p.val).scrub.queued = false ∧
      t.rd 0x1825 p.val = 1 ∧ t.rd 0x1826 p.val = (s.rd 0x1826 p.val + 1) % 2 ^ 32) ∧
  (∀ (s : State) (el : Nat) (p : PlaneNo), (s.pl p.val).scrub.running = false → exec (.scrubEnd el p) s = .next (s.tick el))

/-- The scheduler commits the chosen copy, credit is reported every 40 ns, and copies leave, age and are flushed. A plane that may not
start a copy on a port, or has none to choose, starts none; a copy chosen, not aged, with its TTL left and fit for its gate, is
committed to its output; an aged one is discarded first, and so is one whose TTL has run out, which is counted, and the choice is
made anew. Credit is measured only on a tick that is a multiple of 16, and a report leaves the free space of the port's FIFO with
nothing started since. A copy whose frame has wholly arrived is delivered, its line time noted, counted and released. The ager
discards from the front of a queue every aged copy up to the first that is not; a flush discards the copies of a queue in both
planes, but one in transmission. (R260, R267, R269, R303, R305, R310, R336, PID 1A1Bh, PID 1A22h.) -/
def Obligations.CopiesAreSelectedSentAndAged : Prop :=
  (∀ (s : State) (el : Nat) (p : PlaneNo) (e : Fin 148), s.isOn p.val = false ∨ (Tab.find? (s.pl p.val).sending e.val).isSome = true ∨
      s.tickRC el < Tab.get 0 (s.pl p.val).sched.lineEnd e.val →
    exec (.schedulerSelect el p e) s = .next (s.tick el)) ∧
  (∀ (s : State) (el : Nat) (p : PlaneNo) (e : Fin 148), 144 ≤ e.val ∨ s.rd 0x221F e.val = 0 →
    (s.tick el).choose p.val e.val [7, 6, 5, 4, 3, 2, 1, 0] = none → exec (.schedulerSelect el p e) s = .next (s.tick el)) ∧
  (∀ (s : State) (el : Nat) (p : PlaneNo) (e : Fin 148) (x : Choice) (g : PlaneSched) (d : Desc),
    144 ≤ e.val ∨ s.rd 0x221F e.val = 0 → s.isOn p.val = true →
    Tab.find? (s.pl p.val).sending e.val = none → Tab.get 0 (s.pl p.val).sched.lineEnd e.val ≤ s.tickRC el →
    (s.tick el).choose p.val e.val [7, 6, 5, 4, 3, 2, 1, 0] = some (x, g) → (s.tick el).aged x.copy = none →
    Tab.find? (s.pl p.val).desc x.copy.head = some d →
    x.copy.rewritten = false ∨ ttlExpired d.frame.bytes (s.rwContent d.rewrite) d.frame.ipOff = false →
    e.val < 144 → (s.tick el).gateNever e.val x.copy.cls ((s.tick el).copyLen p.val x.copy) = false →
    exec (.schedulerSelect el p e) s = .next (s.ran el ((s.tick el).commit p.val e.val x g))) ∧
  (∀ (s : State) (el : Nat) (p : PlaneNo) (e : Fin 148) (x : Choice) (g : PlaneSched) (d : Desc), 144 ≤ e.val → s.isOn p.val = true →
    Tab.find? (s.pl p.val).sending e.val = none → Tab.get 0 (s.pl p.val).sched.lineEnd e.val ≤ s.tickRC el →
    (s.tick el).choose p.val e.val [7, 6, 5, 4, 3, 2, 1, 0] = some (x, g) → (s.tick el).aged x.copy = none →
    Tab.find? (s.pl p.val).desc x.copy.head = some d →
    x.copy.rewritten = false ∨ ttlExpired d.frame.bytes (s.rwContent d.rewrite) d.frame.ipOff = false →
    ∃ t, exec (.schedulerSelect el p e) s = .next t ∧ t = s.ran el ((s.tick el).commit p.val e.val x g) ∧
      (Tab.find? (t.pl p.val).sending ((s.pl p.val).outputOf x.copy)).map Sending.copy = some x.copy) ∧
  (∀ (s : State) (el : Nat) (p : PlaneNo) (e : Fin 148) (x : Choice) (g : PlaneSched) (r : Bool),
    144 ≤ e.val ∨ s.rd 0x221F e.val = 0 → s.isOn p.val = true →
    Tab.find? (s.pl p.val).sending e.val = none → Tab.get 0 (s.pl p.val).sched.lineEnd e.val ≤ s.tickRC el →
    (s.tick el).choose p.val e.val [7, 6, 5, 4, 3, 2, 1, 0] = some (x, g) → (s.tick el).aged x.copy = some r →
    exec (.schedulerSelect el p e) s = .next (s.ran el
      (State.select p.val e.val ((s.pl p.val).copiesOf e.val).length ((s.tick el).ageOut p.val x.copy r)))) ∧
  (∀ (s : State) (el : Nat) (p : PlaneNo) (e : Fin 148) (x : Choice) (g : PlaneSched) (d : Desc),
    144 ≤ e.val ∨ s.rd 0x221F e.val = 0 → s.isOn p.val = true →
    Tab.find? (s.pl p.val).sending e.val = none → Tab.get 0 (s.pl p.val).sched.lineEnd e.val ≤ s.tickRC el →
    (s.tick el).choose p.val e.val [7, 6, 5, 4, 3, 2, 1, 0] = some (x, g) → (s.tick el).aged x.copy = none →
    Tab.find? (s.pl p.val).desc x.copy.head = some d → x.copy.rewritten = true →
    ttlExpired d.frame.bytes (s.rwContent d.rewrite) d.frame.ipOff = true →
    exec (.schedulerSelect el p e) s = .next (s.ran el (State.select p.val e.val ((s.pl p.val).copiesOf e.val).length
      ((((s.tick el).unqueue p.val x.copy).release p.val x.copy.head x.copy.gen e.val).inc 0x142E p.val)))) ∧
  (∀ (s : State) (el : Nat), s.tickRC el % 16 ≠ 0 → exec (.creditReport el) s = .next (s.tick el)) ∧
  (∀ (s : State) (el : Nat), s.tickRC el % 16 = 0 → exec (.creditReport el) s = .next (s.ran el
    ([0, 1].foldl (fun u p =>
        let v := (u.pl p).busyPorts.foldl (fun u e => u.holdPort p e) u;
        (Tab.keys (v.pl p).sending).foldl (fun u e => u.credited p e) v)
      ((Tab.keys s.bonds ++ Tab.keys s.pa.sched.credit ++ Tab.keys s.pb.sched.credit).foldl State.reportPort (s.tick el))))) ∧
  (∀ (s : State) (e : PortNo) (p : PlaneNo), Tab.get (16384, 0) ((s.reportPort e.val).pl p.val).sched.credit e.val =
    ((s.pop e.val).fifoFree e.val, 0)) ∧
  (∀ (s : State) (el : Nat), s.tickRC el % 16 = 0 → s.bonds = [] → s.pa.queues = [] → s.pb.queues = [] → s.pa.sending = [] →
    s.pb.sending = [] → s.pa.sched.credit = [] → s.pb.sched.credit = [] → exec (.creditReport el) s = .next (s.tick el)) ∧
  (∀ (s : State) (el : Nat) (p : PlaneNo) (e : Fin 156) (x : Sending) (d : Desc), Tab.find? (s.pl p.val).sending e.val = some x →
    Tab.find? (s.pl p.val).desc x.copy.head = some d → x.started = true → d.frame.ended = true → d.frame.bad = false →
    d.holders.testBit 148 = false →
    exec (.copyReadoutComplete el p e) s = .next (s.ran el
      ((((((s.tick el).deliver p.val x.copy d).setLineEnd p.val e.val d.frame.bytes.length).inc 0x1A1B
        (qInst p.val x.copy.queue)).unqueue p.val x.copy).release p.val x.copy.head x.copy.gen x.copy.port))) ∧
  (∀ (s : State) (el : Nat) (p : PlaneNo) (e : Fin 156),
    (Tab.find? (s.pl p.val).sending e.val).all (fun x => !x.started || (Tab.find? (s.pl p.val).desc x.copy.head).all
      (fun d => !d.frame.ended || d.frame.bad || d.holders.testBit 148)) = true →
    exec (.copyReadoutComplete el p e) s = .next (s.tick el)) ∧
  (∀ (s : State) (el : Nat) (p : PlaneNo) (q : Fin 32768), (s.pl p.val).queue q.val = [] → (s.tick el).timeless = s.servo.timeless →
    exec (.agerVisit el p q) s = .next (s.tick el)) ∧
  (∀ (s : State) (el : Nat) (p : PlaneNo) (q : Fin 32768),
    exec (.agerVisit el p q) s = .next (s.ran el
      (State.ageQueue p.val ((s.pl p.val).queue q.val) ((s.tick el).noteTimeless p.val)))) ∧
  (∀ (s : State) (el : Nat) (p : PlaneNo) (q : Fin 32768) (c : Copy) (rest : List Copy) (r : Bool),
    (s.pl p.val).queue q.val = c :: rest → c.queue = q.val → (s.tick el).timeless = s.servo.timeless →
    (s.pl p.val).inTransmission c = false → (s.tick el).aged c = some r →
    exec (.agerVisit el p q) s = .next (s.ran el (State.ageQueue p.val rest ((s.tick el).ageOut p.val c r)))) ∧
  (∀ (s : State) (el : Nat) (p : PlaneNo) (q : Fin 32768) (c : Copy) (rest : List Copy),
    (s.pl p.val).queue q.val = c :: rest → c.queue = q.val → (s.tick el).timeless = s.servo.timeless →
    (s.pl p.val).inTransmission c = false → (s.tick el).aged c = none → exec (.agerVisit el p q) s = .next (s.tick el)) ∧
  (∀ (s : State) (el : Nat) (q : Req), Ready s q roleSite → FullService s → q.inst.toNat < 32768 → q.data = [1] →
    (∀ c ∈ s.pa.queue q.inst.toNat ++ s.pb.queue q.inst.toNat, c.queue = q.inst.toNat ∧ c.port < 146) →
    (∀ c ∈ s.pa.queue q.inst.toNat, s.pa.inTransmission c = false) → (∀ c ∈ s.pb.queue q.inst.toNat, s.pb.inTransmission c = false) →
    ∃ t, exec (.queueFlush el q) s = .next t ∧ t.out = s.out ++ [answer q 0x02 stOk 0x1A08 q.inst.toNat []] ∧
      t.pa.queue q.inst.toNat = [] ∧ t.pb.queue q.inst.toNat = []) ∧
  (∀ (s : State) (el : Nat) (q : Req), Ready s q roleSite → FullService s → q.inst.toNat < 32768 → q.data = [1] →
    s.pa.queue q.inst.toNat = [] → s.pb.queue q.inst.toNat = [] →
    ∃ t, exec (.queueFlush el q) s = .next t ∧ t.pa = s.pa ∧ t.pb = s.pb ∧
      Answers s t q 0x02 stOk 0x1A08 q.inst.toNat [] [])

/-- A controller buffer is freed and handed over by its recorded holder alone. On a controller that runs: a free by the recorded holder
returns the buffer, or keeps it for the next scrub where it is quarantined; a free of an address outside the regions, off its buffer
size, of a free buffer, or by another client is refused, counted by kind, with fault bit 117, and quarantines the buffer it names. A
hand-over by the recorded holder changes the holder and is counted; one by another, of a free buffer, or of no buffer's address is
counted as refused and leaves the holder unchanged. On one that does not run nothing happens. (R243, R244, R481, PID 182Fh, PID
3828h, PID 3829h.) -/
def Obligations.ControllerBuffersHaveOneHolder : Prop :=
  (∀ (s : State) (el a : Nat) (c : CtlNo) (x : BitVec 64) (k : Fin 20) (b : Buffer), s.runs c.val = true →
    s.bufAt c.val x.toNat = some (some a) → Tab.find? s.bufs a = some b → b.held = true → b.holder = k.val →
    exec (.controllerBufferFree el c x k) s = .next (s.ran el { s.tick el with
      bufs := if b.quarantined = true then Tab.set s.bufs a { b with held := false } else Tab.del s.bufs a })) ∧
  (∀ (s : State) (el : Nat) (c : CtlNo) (x : BitVec 64) (k : Fin 20), s.runs c.val = true → s.bufAt c.val x.toNat = none →
    exec (.controllerBufferFree el c x k) s = .next (s.ran el (((s.tick el).inc 0x182F (4 * c.val)).fault 117 c.val))) ∧
  (∀ (s : State) (el : Nat) (c : CtlNo) (x : BitVec 64) (k : Fin 20), s.runs c.val = true → s.bufAt c.val x.toNat = some none →
    exec (.controllerBufferFree el c x k) s = .next (s.ran el (((s.tick el).inc 0x182F (4 * c.val + 1)).fault 117 c.val))) ∧
  (∀ (s : State) (el a : Nat) (c : CtlNo) (x : BitVec 64) (k : Fin 20), s.runs c.val = true →
    s.bufAt c.val x.toNat = some (some a) → (Tab.find? s.bufs a).all (fun b => !b.held) = true →
    ∃ t, exec (.controllerBufferFree el c x k) s = .next t ∧
      t.rd 0x182F (4 * c.val + 2) = (s.rd 0x182F (4 * c.val + 2) + 1) % 2 ^ 32 ∧
      ((Tab.find? t.bufs a).map Buffer.quarantined) = some true ∧ ((Tab.find? t.bufs a).map Buffer.held) = some false ∧ Faulted t 117 ∧
      SameBut [(0x182F, 4 * c.val + 2), (0x3E03, 0), (0x3E04, 0)] s t) ∧
  (∀ (s : State) (el a : Nat) (c : CtlNo) (x : BitVec 64) (k : Fin 20) (b : Buffer), s.runs c.val = true →
    s.bufAt c.val x.toNat = some (some a) → Tab.find? s.bufs a = some b → b.held = true → b.holder ≠ k.val →
    ∃ t, exec (.controllerBufferFree el c x k) s = .next t ∧
      t.rd 0x182F (4 * c.val + 3) = (s.rd 0x182F (4 * c.val + 3) + 1) % 2 ^ 32 ∧
      t.bufs = Tab.set s.bufs a { b with quarantined := true } ∧ Faulted t 117) ∧
  (∀ (s : State) (el : Nat) (c : CtlNo) (x : BitVec 64) (k : Fin 20), s.runs c.val = false →
    exec (.controllerBufferFree el c x k) s = .next (s.tick el)) ∧
  (∀ (s : State) (el a : Nat) (c : CtlNo) (x : BitVec 64) (g k : Fin 20) (b : Buffer), s.runs c.val = true →
    s.bufAt c.val x.toNat = some (some a) → Tab.find? s.bufs a = some b → b.holder = g.val → b.held = true →
    exec (.handOver el c x g k) s = .next (s.ran el
      (({ s.tick el with bufs := Tab.set s.bufs a { b with holder := k.val } } : State).inc 0x3828 c.val))) ∧
  (∀ (s : State) (el a : Nat) (c : CtlNo) (x : BitVec 64) (g k : Fin 20), s.runs c.val = true →
    s.bufAt c.val x.toNat = some (some a) → (Tab.find? s.bufs a).all (fun b => b.holder != g.val || !b.held) = true →
    exec (.handOver el c x g k) s = .next (s.ran el ((s.tick el).inc 0x3829 c.val))) ∧
  (∀ (s : State) (el : Nat) (c : CtlNo) (x : BitVec 64) (g k : Fin 20), s.runs c.val = true →
    s.bufAt c.val x.toNat = none ∨ s.bufAt c.val x.toNat = some none →
    exec (.handOver el c x g k) s = .next (s.ran el ((s.tick el).inc 0x3829 c.val))) ∧
  (∀ (s : State) (el : Nat) (c : CtlNo) (x : BitVec 64) (g k : Fin 20), s.runs c.val = false →
    exec (.handOver el c x g k) s = .next (s.tick el))

/-- The learn engine, freezes, the age scan, lost slots, learn and slow-path overflows, and quiet periods. In a plane that is not being
loaded the learn engine takes the first request whose frame ended well: a new source within its limits is inserted as a learned
entry with its ingress port and counted, or, with no place, counted as failed; one that a limit refuses is counted and not inserted;
a learned entry on another port moves there, its moves of the last second decide the freeze, and the move is counted; a static,
frozen or unmoved entry is left alone. A freeze ends at its time. The age scan tests one slot per step; a sweep starts at slot 0
with the tenants whose ageing time has passed: of those, an active learned entry loses its activity bit, an inactive one is removed
and counted; every other entry is left alone, and the cursor wraps at 1,048,575 with the sweep counted. A plane that is off or being
loaded learns and scans nothing. An uncorrectable slot is counted with fault bit 96; a learned entry there is lost, and a host entry
is placed again from the controllers' record. 1,000 consecutive windows with overflows set fault bits 98 and 100, fewer set none. An
address whose quiet period is over is free again. (R185, R186, R188, R189, R216, R217, R201, PID 140Dh, PID 141Ah, PID 144Ah, PID
144Dh, PID 144Fh.) -/
def Obligations.LearningMovesAgesAndRepairs : Prop :=
  (∀ (s : State) (el : Nat) (p : PlaneNo), takeReady (s.pl p.val).learnQ = none → exec (.learnApply el p) s = .next (s.tick el)) ∧
  (∀ (s : State) (el : Nat) (p : PlaneNo), s.loadingPlane p.val = true → exec (.learnApply el p) s = .next (s.tick el)) ∧
  (∀ (s : State) (el : Nat) (p : PlaneNo) (r : LearnReq) (rest : List LearnReq),
    s.loadingPlane p.val = false → takeReady (s.pl p.val).learnQ = some (r, rest) →
    findEntry (s.pl p.val).store 1 r.tenant (macKey r.fid r.mac) = none → s.learnLimited p.val r.port r.tenant = false →
    exec (.learnApply el p) s = .next (s.ran el
      (let u := (s.tick el).updPl p.val (fun q => { q with learnQ := rest });
       match u.insertNew p.val true ⟨1, r.tenant, macKey r.fid r.mac, portResult r.port, false, true, false, true, 0, [], 0⟩ with
       | some v => v.inc 0x144A p.val
       | none => (u.insertFailed p.val).inc 0x144B p.val))) ∧
  (∀ (s : State) (el : Nat) (p : PlaneNo) (r : LearnReq) (rest : List LearnReq),
    s.loadingPlane p.val = false → takeReady (s.pl p.val).learnQ = some (r, rest) →
    findEntry (s.pl p.val).store 1 r.tenant (macKey r.fid r.mac) = none →
    s.learnLimited p.val r.port r.tenant = false →
    freePlaces (s.pl p.val).store (buckets s.seed 1 r.tenant (macKey r.fid r.mac)).1 1 ≠ [] →
    ∃ t, exec (.learnApply el p) s = .next t ∧ (t.pl p.val).learnQ = rest ∧
      (findEntry (t.pl p.val).store 1 r.tenant (macKey r.fid r.mac)).map (fun x => (x.2.result, x.2.learned, x.2.static)) =
        some (portResult r.port, true, false) ∧
      t.rd 0x144A p.val = (s.rd 0x144A p.val + 1) % 2 ^ 64 ∧ t.rd 0x141D p.val = (s.rd 0x141D p.val + 1) % 65536 ∧
      SameBut [(0x144A, p.val), (0x141D, p.val), (0x1405, p.val), (0x1441, p.val), (0x3E03, 0), (0x3E04, 0)] s t) ∧
  (∀ (s : State) (el : Nat) (p : PlaneNo) (r : LearnReq) (rest : List LearnReq),
    s.loadingPlane p.val = false → takeReady (s.pl p.val).learnQ = some (r, rest) →
    findEntry (s.pl p.val).store 1 r.tenant (macKey r.fid r.mac) = none →
    s.learnLimited p.val r.port r.tenant = true →
    exec (.learnApply el p) s = .next (s.ran el
      (((s.tick el).updPl p.val (fun q => { q with learnQ := rest })).inc 0x141E p.val))) ∧
  (∀ (s : State) (el k : Nat) (p : PlaneNo) (r : LearnReq) (rest : List LearnReq) (e : Entry),
    s.loadingPlane p.val = false → takeReady (s.pl p.val).learnQ = some (r, rest) →
    findEntry (s.pl p.val).store 1 r.tenant (macKey r.fid r.mac) = some (k, e) →
    resRoute e.result = false → e.onPort r.port = false → e.learned = true → e.frozen = false →
    ((e.moves.filter (fun x => decide (s.tickRC el < x + 400000000))).length + 1 ≤ s.rd 0x140D 0) →
    exec (.learnApply el p) s = .next (s.ran el (((s.tick el).updPl p.val (fun q => { q with
      learnQ := rest,
      store := Tab.set q.store k { e with
        result := portResult r.port, activity := true,
        moves := e.moves.filter (fun x => decide (s.tickRC el < x + 400000000)) ++ [s.tickRC el] } })).inc 0x144D p.val))) ∧
  (∀ (s : State) (el k : Nat) (p : PlaneNo) (r : LearnReq) (rest : List LearnReq) (e : Entry),
    s.loadingPlane p.val = false → takeReady (s.pl p.val).learnQ = some (r, rest) →
    findEntry (s.pl p.val).store 1 r.tenant (macKey r.fid r.mac) = some (k, e) →
    resRoute e.result = false → e.onPort r.port = false → e.learned = true → e.frozen = false →
    (s.rd 0x140D 0 < (e.moves.filter (fun x => decide (s.tickRC el < x + 400000000))).length + 1) →
    exec (.learnApply el p) s = .next (s.ran el (((s.tick el).updPl p.val (fun q => { q with
      learnQ := rest,
      store := Tab.set q.store k { e with
        result := portResult r.port, activity := true, frozen := true, frozenUntil := s.tickRC el + s.rd 0x140E 0 * 400000000,
        moves := e.moves.filter (fun x => decide (s.tickRC el < x + 400000000)) ++ [s.tickRC el] } })).inc 0x144D p.val))) ∧
  (∀ (s : State) (el k : Nat) (p : PlaneNo) (r : LearnReq) (rest : List LearnReq) (e : Entry),
    s.loadingPlane p.val = false → takeReady (s.pl p.val).learnQ = some (r, rest) →
    findEntry (s.pl p.val).store 1 r.tenant (macKey r.fid r.mac) = some (k, e) →
    resRoute e.result = true ∨ e.onPort r.port = true ∨ e.learned = false ∨ e.frozen = true →
    exec (.learnApply el p) s = .next (s.ran el ((s.tick el).updPl p.val (fun q => { q with learnQ := rest })))) ∧
  (∀ (s : State) (el : Nat) (p : PlaneNo) (k : Fin 1048576) (e : Entry), Tab.find? (s.pl p.val).store k.val = some e →
    e.frozen = true → e.frozenUntil ≤ s.tickRC el →
    exec (.freezeExpiry el p k) s = .next (s.ran el ((s.tick el).updPl p.val (fun q => { q with
      store := Tab.set q.store k.val { e with frozen := false } })))) ∧
  (∀ (s : State) (el : Nat) (p : PlaneNo) (k : Fin 1048576),
    (Tab.find? (s.pl p.val).store k.val).all (fun e => !e.frozen || decide (s.tickRC el < e.frozenUntil)) = true →
    exec (.freezeExpiry el p k) s = .next (s.tick el)) ∧
  (∀ (s : State) (el : Nat) (p : PlaneNo), s.isOn p.val = false ∨ s.loadingPlane p.val = true →
    exec (.ageScan el p) s = .next (s.tick el)) ∧
  (∀ (s : State) (p : PlaneNo) (k : Nat), k ∈ ((s.sweepStart p.val).pl p.val).sweepTests ↔ (k < 16 ∧ s.flag 0x140C k = true ∧
    Tab.get 0 (s.pl p.val).tested k + s.rd 0x140B k * 400000000 ≤ s.rc)) ∧
  (∀ (s : State) (el k : Nat) (p : PlaneNo), s.isOn p.val = true → s.loadingPlane p.val = false → s.rd 0x141A p.val = k →
    (Tab.find? (s.pl p.val).store k).all (fun e => !e.learned || e.static || !s.flag 0x140C e.tenant ||
      !((if k = 0 then (s.tick el).sweepStart p.val else s.tick el).pl p.val).sweepTests.contains e.tenant) = true →
    exec (.ageScan el p) s = .next (s.ran el
      (let v := (if k = 0 then (s.tick el).sweepStart p.val else s.tick el);
       if k + 1 = 1048576 then (v.wr 0x141A p.val 0).inc 0x141B p.val else v.wr 0x141A p.val (k + 1)))) ∧
  (∀ (s : State) (el k : Nat) (p : PlaneNo) (e : Entry), s.isOn p.val = true → s.loadingPlane p.val = false →
    s.rd 0x141A p.val = k → Tab.find? (s.pl p.val).store k = some e → e.learned = true → e.static = false →
    s.flag 0x140C e.tenant = true → e.tenant ∈ ((if k = 0 then (s.tick el).sweepStart p.val else s.tick el).pl p.val).sweepTests → e.activity = true →
    exec (.ageScan el p) s = .next (s.ran el
      (let v := (if k = 0 then (s.tick el).sweepStart p.val else s.tick el).updPl p.val (fun q => { q with store := Tab.set q.store k { e with activity := false } });
       if k + 1 = 1048576 then (v.wr 0x141A p.val 0).inc 0x141B p.val else v.wr 0x141A p.val (k + 1)))) ∧
  (∀ (s : State) (el k : Nat) (p : PlaneNo) (e : Entry), s.isOn p.val = true → s.loadingPlane p.val = false →
    s.rd 0x141A p.val = k → Tab.find? (s.pl p.val).store k = some e → e.learned = true → e.static = false →
    s.flag 0x140C e.tenant = true → e.tenant ∈ ((if k = 0 then (s.tick el).sweepStart p.val else s.tick el).pl p.val).sweepTests → e.activity = false →
    exec (.ageScan el p) s = .next (s.ran el
      (let v := ((if k = 0 then (s.tick el).sweepStart p.val else s.tick el).updPl p.val (fun q => { q with store := Tab.del q.store k, aged := some (s.tickRC el, e) })).inc 0x144F p.val;
       if k + 1 = 1048576 then (v.wr 0x141A p.val 0).inc 0x141B p.val else v.wr 0x141A p.val (k + 1)))) ∧
  (∀ (s : State) (el : Nat) (p : PlaneNo) (k : Fin 1048576), entryAt (s.pl p.val).store k.val = none →
    exec (.exactMatchMemoryError el p k) s = .next (s.ran el (((s.tick el).inc 0x1449 p.val).fault 96 p.val))) ∧
  (∀ (s : State) (el j : Nat) (p : PlaneNo) (k : Fin 1048576) (e : Entry), entryAt (s.pl p.val).store k.val = some (j, e) →
    e.learned = true →
    exec (.exactMatchMemoryError el p k) s = .next (s.ran el ((((s.tick el).inc 0x1449 p.val).fault 96 p.val).updPl p.val
      (fun q => { q with store := Tab.del q.store j })))) ∧
  (∀ (s : State) (el j c res : Nat) (p : PlaneNo) (k : Fin 1048576) (e : Entry) (st : Bool),
    entryAt (s.pl p.val).store k.val = some (j, e) → e.learned = false → s.holder = some c →
    Tab.find? s.hostTab (hostKey e.ktype e.tenant e.key) = some (res, st) →
    exec (.exactMatchMemoryError el p k) s = .next (s.ran el
      (let u := (((s.tick el).inc 0x1449 p.val).fault 96 p.val).updPl p.val (fun q => { q with store := Tab.del q.store j });
       (u.insertNew p.val false (hostEntry e.ktype e.tenant e.key res st false)).getD u))) ∧
  (∀ (s : State) (el last run : Nat) (p : PlaneNo), Tab.find? s.sustain (98 * 2 ^ 32 + p.val) = some (last, run) →
    1000 ≤ run → run < raisedRun → s.tickRC el / 400000 ≤ last + 1 →
    ∃ t, exec (.learnOverflowFault el p) s = .next t ∧ Faulted t 98 ∧
      SameBut [(0x3E03, 0), (0x3E04, 0)] s t) ∧
  (∀ (s : State) (el : Nat) (p : PlaneNo), (Tab.find? s.sustain (98 * 2 ^ 32 + p.val)).all (fun x =>
      decide (x.2 < 1000 ∨ raisedRun ≤ x.2 ∨ x.1 + 1 < s.tickRC el / 400000)) = true →
    exec (.learnOverflowFault el p) s = .next (s.tick el)) ∧
  (∀ (s : State) (el last run : Nat) (p : PlaneNo), Tab.find? s.sustain (100 * 2 ^ 32 + p.val) = some (last, run) →
    1000 ≤ run → run < raisedRun → s.tickRC el / 400000 ≤ last + 1 →
    ∃ t, exec (.slowPathLimitFault el p) s = .next t ∧ Faulted t 100 ∧
      SameBut [(0x3E03, 0), (0x3E04, 0)] s t) ∧
  (∀ (s : State) (el : Nat) (p : PlaneNo), (Tab.find? s.sustain (100 * 2 ^ 32 + p.val)).all (fun x =>
      decide (x.2 < 1000 ∨ raisedRun ≤ x.2 ∨ x.1 + 1 < s.tickRC el / 400000)) = true →
    exec (.slowPathLimitFault el p) s = .next (s.tick el)) ∧
  (∀ (s : State) (el : Nat),
    ∃ t, exec (.quietPeriodExpiry el) s = .next t ∧ t.quietNh = s.quietNh.filter (fun e => decide (s.clk + el < e.2)) ∧
      t.quietRw = s.quietRw.filter (fun e => decide (s.clk + el < e.2)) ∧
      (∀ e ∈ s.quietNh, e.2 ≤ s.clk + el → Tab.find? t.physNh e.1 = none) ∧
      (∀ e ∈ s.quietRw, e.2 ≤ s.clk + el → Tab.find? t.physRw e.1 = none) ∧ t.regs = s.regs)

/-- Table requests: searched, iterated, inserted in both planes or refused, deleted, flushed, and loaded or read in bulk. On a ready
session of the site operator. A search answers the records of the selected planes in service, NOT_FOUND where none holds the key. An
iteration answers the records and the cursor of TBL_NEXT (State.tblNext); one from cursor 0 over one plane of at most 80 entries
answers them all with cursor FFFFFFFFh; a cursor that the session was not given answers RANGE. An insertion leaves the stores and
gives the answer of State.tblInsert: a new key with a free place in its first bucket of both planes stands in both, and the record
is answered as placed; with no plane in service it answers INTERLOCK, and a record against R175 to R177 answers RANGE. A deletion
removes the key from the planes in service, or answers NOT_FOUND, or INTERLOCK with none in service. A flush of any port, flags, FID
and tenant and a bulk load are accepted, where a plane is in service, one of each per session at a time, another answers BUSY; the
flush removes its entries from the planes in service, and its completion event gives the counts; with none running its completion
changes nothing. Each fragment of a load inserts its records in order (State.bulkFragment), and its completion event gives the
counts; a bulk read is accepted and its records follow in event fragments of up to 85 records, the last marked so. (R182, R193,
R208, R209, R211, R212, PID 1440h, PID 1443h.) -/
def Obligations.TableRequestsActInEveryPlaneInService : Prop :=
  (∀ (s : State) (el : Nat) (q : Req) (r : Record) (l : List Byte), Ready s q roleSite → FullService s → q.inst.toNat ≤ 2 → q.data.length = 48 →
    readRecord q.data = r → keyOk r.ktype r.key = true → r.tenant < 16 →
    l = ((selected q.inst.toNat).filter (fun p => s.inService.contains p)).flatMap (fun p =>
      match findEntry (s.pl p).store r.ktype r.tenant r.key with
      | some (k, e) => entryRecord p k e
      | none => []) →
    ∃ t, exec (.tblSearch el q) s = .next t ∧ t.pa = s.pa ∧ t.pb = s.pb ∧
      Answers s t q 0x10 (if l = [] then stNotFound else stOk) 0x1400 q.inst.toNat l []) ∧
  (∀ (s : State) (el : Nat) (q : Req), Ready s q roleSite → FullService s → q.inst.toNat ≤ 2 → filterOk q.data = true →
    ∃ t, exec (.tblNext el q) s = .next t ∧
      t.pa = ((s.tick el).tblNext q.sess.val q.inst.toNat (getBE q.data 0 4) (getBE q.data 4 1) (getBE q.data 5 1) (getBE q.data 6 1)).1.pa ∧
      t.pb = ((s.tick el).tblNext q.sess.val q.inst.toNat (getBE q.data 0 4) (getBE q.data 4 1) (getBE q.data 5 1) (getBE q.data 6 1)).1.pb ∧
      t.rd 0x1440 q.sess.val = ((s.tick el).tblNext q.sess.val q.inst.toNat (getBE q.data 0 4) (getBE q.data 4 1) (getBE q.data 5 1) (getBE q.data 6 1)).1.rd 0x1440 q.sess.val ∧
      t.out = s.out ++ (answer q 0x11
        ((s.tick el).tblNext q.sess.val q.inst.toNat (getBE q.data 0 4) (getBE q.data 4 1) (getBE q.data 5 1) (getBE q.data 6 1)).2.1 0x1400 q.inst.toNat
        ((s.tick el).tblNext q.sess.val q.inst.toNat (getBE q.data 0 4) (getBE q.data 4 1) (getBE q.data 5 1) (getBE q.data 6 1)).2.2).split) ∧
  (∀ (s : State) (el : Nat) (q : Req), Ready s q roleSite → FullService s → q.inst.toNat = 1 → s.inService = [0, 1] →
    s.pa.store.length ≤ 80 → q.data = [0, 0, 0, 0, 0, 0xFF, 0, 0] →
    ∃ t, exec (.tblNext el q) s = .next t ∧ t.pa.store = s.pa.store ∧ t.pb.store = s.pb.store ∧
      Answers s t q 0x11 stOk 0x1400 1 (toBytes 4 0xFFFFFFFF ++ toBytes 2 s.pa.store.length ++
        (s.pa.store.map (fun e => entryRecord 0 e.1 e.2)).flatten) [(0x1440, q.sess.val)]) ∧
  (∀ (s : State) (el : Nat) (q : Req), Ready s q roleSite → FullService s → q.inst.toNat ≤ 2 → filterOk q.data = true →
    getBE q.data 0 4 ≠ 0 → getBE q.data 0 4 ≠ s.rd 0x1440 q.sess.val →
    ∃ t, exec (.tblNext el q) s = .next t ∧ Answers s t q 0x11 stRange 0x1400 q.inst.toNat [] []) ∧
  (∀ (s : State) (el : Nat) (q : Req), Ready s q roleSite → FullService s → q.data.length = 48 →
    ∃ t, exec (.tblInsert el q) s = .next t ∧ t.pa = ((s.tick el).tblInsert (readRecord q.data)).1.pa ∧ t.pb = ((s.tick el).tblInsert (readRecord q.data)).1.pb ∧ t.hostTab = ((s.tick el).tblInsert (readRecord q.data)).1.hostTab ∧
      t.out = s.out ++ (answer q 0x12 ((s.tick el).tblInsert (readRecord q.data)).2.1 0x1400 q.inst.toNat ((s.tick el).tblInsert (readRecord q.data)).2.2).split) ∧
  (∀ (s : State) (el : Nat) (q : Req) (r : Record), Ready s q roleSite → FullService s → q.data.length = 48 → readRecord q.data = r →
    r.insertable = true → s.inService = [0, 1] → r.ktype ≠ 2 → r.ktype ≠ 3 →
    findEntry s.pa.store r.ktype r.tenant r.key = none → findEntry s.pb.store r.ktype r.tenant r.key = none →
    freePlaces s.pa.store (buckets s.seed r.ktype r.tenant r.key).1 (slotsOf r.ktype) ≠ [] →
    freePlaces s.pb.store (buckets s.seed r.ktype r.tenant r.key).1 (slotsOf r.ktype) ≠ [] →
    ∃ t, exec (.tblInsert el q) s = .next t ∧
      (findEntry t.pa.store r.ktype r.tenant r.key).map (fun x => (x.2.result, x.2.static, x.2.learned, x.2.gen)) =
        some (r.result, r.flags.testBit 7, false, (s.rd 0x141D 0 + 1) % 65536) ∧
      (findEntry t.pb.store r.ktype r.tenant r.key).map (fun x => (x.2.result, x.2.static, x.2.learned, x.2.gen)) =
        some (r.result, r.flags.testBit 7, false, (s.rd 0x141D 1 + 1) % 65536) ∧
      t.rd 0x141D 0 = (s.rd 0x141D 0 + 1) % 65536 ∧ t.rd 0x141D 1 = (s.rd 0x141D 1 + 1) % 65536 ∧
      t.out = s.out ++ (answer q 0x12 stOk 0x1400 q.inst.toNat
        (match findEntry t.pa.store r.ktype r.tenant r.key with
          | some x => entryRecord 0 x.1 x.2
          | none => [])).split) ∧
  (∀ (s : State) (el : Nat) (q : Req), Ready s q roleSite → FullService s → q.data.length = 48 → s.inService = [] →
    (readRecord q.data).insertable = true →
    ∃ t, exec (.tblInsert el q) s = .next t ∧ Answers s t q 0x12 stInterlock 0x1400 q.inst.toNat [] []) ∧
  (∀ (s : State) (el : Nat) (q : Req), Ready s q roleSite → FullService s → q.data.length = 48 →
    (readRecord q.data).insertable = false →
    ∃ t, exec (.tblInsert el q) s = .next t ∧ Answers s t q 0x12 stRange 0x1400 q.inst.toNat [] []) ∧
  (∀ (s : State) (el k : Nat) (q : Req) (r : Record) (e : Entry), Ready s q roleSite → FullService s → q.data.length = 48 →
    readRecord q.data = r → keyOk r.ktype r.key = true → r.tenant < 16 → s.inService = [0, 1] →
    findEntry s.pa.store r.ktype r.tenant r.key = some (k, e) → findEntry s.pb.store r.ktype r.tenant r.key = none →
    ∃ t, exec (.tblDelete el q) s = .next t ∧ t.pa = { s.pa with store := Tab.del s.pa.store k } ∧ t.pb = s.pb ∧
      Answers s t q 0x13 stOk 0x1400 q.inst.toNat [] []) ∧
  (∀ (s : State) (el : Nat) (q : Req) (r : Record), Ready s q roleSite → FullService s → q.data.length = 48 → readRecord q.data = r →
    keyOk r.ktype r.key = true → r.tenant < 16 → s.inService ≠ [] →
    ∃ t, exec (.tblDelete el q) s = .next t ∧
      t.pa.store = (if 0 ∈ s.inService then (match findEntry s.pa.store r.ktype r.tenant r.key with
        | some (k, _) => Tab.del s.pa.store k
        | none => s.pa.store) else s.pa.store) ∧
      t.pb.store = (if 1 ∈ s.inService then (match findEntry s.pb.store r.ktype r.tenant r.key with
        | some (k, _) => Tab.del s.pb.store k
        | none => s.pb.store) else s.pb.store) ∧
      t.hostTab = Tab.del s.hostTab (hostKey r.ktype r.tenant r.key) ∧
      Answers s t q 0x13 (if s.inService.any (fun p => (findEntry (s.pl p).store r.ktype r.tenant r.key).isSome) = true
        then stOk else stNotFound) 0x1400 q.inst.toNat [] []) ∧
  (∀ (s : State) (el : Nat) (q : Req) (r : Record), Ready s q roleSite → FullService s → q.data.length = 48 → readRecord q.data = r →
    keyOk r.ktype r.key = true → r.tenant < 16 → s.inService = [] →
    ∃ t, exec (.tblDelete el q) s = .next t ∧ t.pa = s.pa ∧ t.pb = s.pb ∧
      Answers s t q 0x13 stInterlock 0x1400 q.inst.toNat [] []) ∧
  (∀ (s : State) (el : Nat) (q : Req) (i : Fin 144) (fl : Fin 4) (tn : Fin 16) (fid : BitVec 12), Ready s q roleSite → FullService s →
    s.inService ≠ [] → (∀ f ∈ s.flushes, f.who.key ≠ Req.key q) →
    q.data = toBytes 1 i.val ++ toBytes 1 fl.val ++ toBytes 2 fid.toNat ++ toBytes 1 tn.val ++ [0, 0, 0] →
    ∃ t, exec (.tblFlushPort el q) s = .next t ∧ t.flushes = s.flushes ++ [⟨Req.who q s, i.val, fl.val, fid.toNat, tn.val⟩] ∧
      t.pa = s.pa ∧ t.pb = s.pb ∧ Answers s t q 0x14 stAccepted 0x1400 q.inst.toNat [] []) ∧
  (∀ (s : State) (el : Nat) (q : Req) (i : Fin 144) (tn : Fin 16) (f : Flush) (r : Request) (x : Session),
    s.holder = some q.ctl.val → s.ctlState q.ctl.val = 5 → (s.ctl q.ctl.val).beats = true → s.swap = none → s.committing = none →
    s.owed = [] → FullService s → s.sessions = [(Req.key q, x)] → x.isOpen = true → x.role = roleSite → x.enrol = .no →
    x.skip.contains q.tag.toNat = false → x.requests = [r] → r.background = true → r.started = true → r.tag ≠ q.tag.toNat →
    r.order < s.issued → q.fence = false → s.inService ≠ [] → f ∈ s.flushes → f.who.key = Req.key q →
    q.data = toBytes 1 i.val ++ [0, 0, 0] ++ toBytes 1 tn.val ++ [0, 0, 0] →
    ∃ t, exec (.tblFlushPort el q) s = .next t ∧ t.flushes = s.flushes ∧ t.pa = s.pa ∧ t.pb = s.pb ∧
      Answers s t q 0x14 stBusy 0x1400 q.inst.toNat [] []) ∧
  (∀ (s : State) (el : Nat) (c : CtlNo) (j : Fin 4) (f : Flush), s.flushes.find? (fun g => g.who.key == sessionKey c j) = some f →
    (∀ e ∈ s.sessions, ∀ r ∈ e.2.requests, r.started = true) →
    ∃ t, exec (.flushComplete el c j) s = .next t ∧ t.flushes = s.flushes.filter (fun g => g.who.key != sessionKey c j) ∧
      t.pa.store = (if 0 ∈ s.inService then s.pa.store.filter (fun e => !f.hits e.2) else s.pa.store) ∧
      t.pb.store = (if 1 ∈ s.inService then s.pb.store.filter (fun e => !f.hits e.2) else s.pb.store) ∧
      t.rd 0x1443 (2 * j.val) = (if 0 ∈ s.inService then s.pa.store.filter (fun e => f.hits e.2) else []).length % 2 ^ 32 ∧
      t.rd 0x1443 (2 * j.val + 1) = (if 1 ∈ s.inService then s.pb.store.filter (fun e => f.hits e.2) else []).length % 2 ^ 32) ∧
  (∀ (f : Flush) (e : Entry), f.hits e = true ↔ (e.ktype = 1 ∧ e.learned = true ∧ e.onPort f.port = true ∧
    (f.flags.testBit 0 = true → e.key / 2 ^ 48 = f.fid) ∧ (f.flags.testBit 1 = true → e.tenant = f.tenant))) ∧
  (∀ (s : State) (el : Nat) (c : CtlNo) (j : Fin 4), Quiet s → (∀ f ∈ s.flushes, f.who.key ≠ sessionKey c j) →
    exec (.flushComplete el c j) s = .next (s.tick el)) ∧
  (∀ (s : State) (el : Nat) (c : CtlNo) (j : Fin 4) (f : Flush) (r : Request) (x : Session), s.flushes = [f] →
    f.who = ⟨sessionKey c j, x.gen, r.tag⟩ → s.sessions = [(sessionKey c j, x)] → x.isOpen = true → x.requests = [r] →
    r.accepted = true → s.owed = [] → s.inService = [0, 1] →
    ∃ t, exec (.flushComplete el c j) s = .next t ∧ t.flushes = [] ∧
      t.pa.store = s.pa.store.filter (fun e => !f.hits e.2) ∧ t.pb.store = s.pb.store.filter (fun e => !f.hits e.2) ∧
      t.rd 0x1443 (2 * j.val) = (s.pa.store.filter (fun e => f.hits e.2)).length % 2 ^ 32 ∧
      t.rd 0x1443 (2 * j.val + 1) = (s.pb.store.filter (fun e => f.hits e.2)).length % 2 ^ 32 ∧
      (t.session (sessionKey c j)).requests = [] ∧
      t.out = s.out ++ [⟨c.val, 0xE0, j.val, r.tag, r.op, stOk, r.pid, r.inst,
        toBytes 4 (s.pa.store.filter (fun e => f.hits e.2)).length ++ toBytes 4 (s.pb.store.filter (fun e => f.hits e.2)).length⟩]) ∧
  (∀ (s : State) (el : Nat) (q : Req), Ready s q roleSite → FullService s → s.inService ≠ [] → s.bulks = [] →
    q.data.length < 48 →
    ∃ t, exec (.tblBulkLoad el q false) s = .next t ∧ t.bulks = [⟨Req.who q s, q.data, 0, 0, 0, 0, false⟩] ∧
      Answers s t q 0x15 stAccepted 0x1400 q.inst.toNat [] []) ∧
  (∀ (s : State) (el : Nat) (q : Req) (last : Bool) (b : Bulk), Ready s q roleSite → FullService s → s.inService ≠ [] → s.bulkBusy (Req.key q) = false →
    b = ⟨Req.who q s, [], 0, 0, 0, 0, false⟩ →
    ∃ t, exec (.tblBulkLoad el q last) s = .next t ∧
      t.pa = (({ s.tick el with bulks := s.bulks ++ [b] } : State).bulkFragment b q.data last).pa ∧
      t.pb = (({ s.tick el with bulks := s.bulks ++ [b] } : State).bulkFragment b q.data last).pb ∧
      t.bulks = (({ s.tick el with bulks := s.bulks ++ [b] } : State).bulkFragment b q.data last).bulks ∧
      t.out = s.out ++ [answer q 0x15 stAccepted 0x1400 q.inst.toNat []]) ∧
  (∀ (s : State) (el : Nat) (q : Req) (last : Bool) (r : Request) (b : Bulk), s.holder = some q.ctl.val → s.ctlState q.ctl.val = 5 →
    (s.ctl q.ctl.val).beats = true → s.swap = none → (s.session (Req.key q)).isOpen = true →
    (s.session (Req.key q)).skip.contains q.tag.toNat = false → (s.session (Req.key q)).request q.tag.toNat = some r → r.op = 0x15 →
    r.last = false → r.started = true → s.bulks.find? (fun b => b.who == Req.who q s) = some b →
    exec (.tblBulkLoad el q last) s = .next (s.ran el ((((s.tick el).heard (Req.key q) 1).updRequest (Req.key q) q.tag.toNat
      (fun y => { y with since := s.clk + el, last := last, flashOk := q.flashOk })).bulkFragment b q.data last))) ∧
  (∀ (s : State) (b : Bulk) (x : List Byte), x.length = 48 →
    ((s.tblInsert (readRecord x)).2.1 = 0 →
      s.bulkInsert b x = ((s.tblInsert (readRecord x)).1, { b with done := b.done + 1, index := b.index + 1 })) ∧
    ((s.tblInsert (readRecord x)).2.1 ≠ 0 → s.bulkInsert b x = ((s.tblInsert (readRecord x)).1,
      { b with failed := b.failed + 1, firstBad := if b.failed = 0 then b.index else b.firstBad, index := b.index + 1 }))) ∧
  (∀ (s : State) (el : Nat) (q : Req) (last : Bool), Ready s q roleSite → FullService s → s.inService ≠ [] → s.bulkBusy (Req.key q) = true →
    ∃ t, exec (.tblBulkLoad el q last) s = .next t ∧ t.bulks = s.bulks ∧ Answers s t q 0x15 stBusy 0x1400 q.inst.toNat [] []) ∧
  (∀ (s : State) (el : Nat) (c : CtlNo) (j : Fin 4) (b : Bulk) (r : Request) (x : Session), s.bulks = [b] → b.finished = true →
    b.who = ⟨sessionKey c j, x.gen, r.tag⟩ → s.sessions = [(sessionKey c j, x)] → x.isOpen = true → x.requests = [r] →
    r.accepted = true → s.owed = [] →
    ∃ t, exec (.bulkLoadComplete el) s = .next t ∧ t.bulks = [] ∧ (t.session (sessionKey c j)).requests = [] ∧
      t.out = s.out ++ [⟨c.val, 0xE0, j.val, r.tag, r.op, stOk, r.pid, r.inst,
        toBytes 4 b.done ++ toBytes 4 b.failed ++ toBytes 4 b.firstBad⟩]) ∧
  (∀ (s : State) (el : Nat), Quiet s → (∀ b ∈ s.bulks, b.finished = false) → exec (.bulkLoadComplete el) s = .next (s.tick el)) ∧
  (∀ (s : State) (el : Nat) (q : Req) (l : List (List Byte)), Ready s q roleSite → FullService s → q.inst.toNat ≤ 2 → s.bulkBusy (Req.key q) = false →
    filterOk q.data = true →
    l = recordFragments (s.bulkRecords q.inst.toNat (getBE q.data 4 1) (getBE q.data 5 1) (getBE q.data 6 1)) →
    ∃ t, exec (.tblBulkRead el q) s = .next t ∧ t.pa = s.pa ∧ t.pb = s.pb ∧
      t.out = s.out ++ [answer q 0x16 stAccepted 0x1400 q.inst.toNat []] ++
        l.dropLast.map (fun x => { answer q 0x16 stOk 0x1400 q.inst.toNat x with flags := 0xC0 }) ++
        [{ answer q 0x16 stOk 0x1400 q.inst.toNat (l.getLast?.getD []) with flags := 0xE0 }]) ∧
  (∀ (l : List Byte), (∀ x ∈ recordFragments l, x.length ≤ 4080) ∧ (recordFragments l).flatten = l) ∧
  (∀ (s : State) (el : Nat) (q : Req), Ready s q roleSite → FullService s → q.inst.toNat ≤ 2 → s.bulkBusy (Req.key q) = true → filterOk q.data = true →
    ∃ t, exec (.tblBulkRead el q) s = .next t ∧ Answers s t q 0x16 stBusy 0x1400 q.inst.toNat [] [])

/-- Static entries, next hops, groups and rewrite entries are checked and set; filters are rebuilt; the slow path resolves. A static
entry, a next-hop record, a group or a rewrite record that breaks its format answers RANGE with nothing changed. A static entry of
any contents leaves the stores of State.setStatic and answers its status: a new one stands in both planes, and its row. A next hop
or a rewrite entry takes a free physical address, which is read back, and the address it leaves is quiet for the quiet period; with
no free address the answer is BUSY and fault bit 99 is set. A group of up to 64 members takes those of kind 0 alone. A rebuild of
the filters is started on request and ends with PID 143Dh at 0 and the banks laid out anew; its end without one changes nothing. The
slow path takes a frame from its buffer: routed, it is injected; where the injected frame's head is refused it is counted (PID
3826h); without a route it is discarded and counted, or left for the host with reason 5; with no frame waiting nothing changes.
(R193, R195, R197, R198, R199, R201, R205, PID 1414h, PID 1420h, PID 1422h, PID 1424h, PID 143Dh.) -/
def Obligations.TableSettingsAreChecked : Prop :=
  (∀ (s : State) (el : Nat) (q : Req), Ready s q roleSite → FullService s → q.inst = 0 → q.data = [1] →
    ∃ t, exec (.filterRebuild el q) s = .next t ∧ t.rd 0x143D 0 = 1 ∧ Answers s t q 0x02 stOk 0x143E 0 [] [(0x143D, 0)]) ∧
  (∀ (s : State) (el : Nat), s.rd 0x143D 0 ≠ 0 → exec (.filterRebuildComplete el) s = .next (s.ran el
    (let u := ({ (s.tick el).wr 0x143D 0 0 with filterEpoch := s.filterEpoch + 1 } : State); { u with banks := u.layBanks }))) ∧
  (∀ (s : State) (el : Nat), s.rd 0x143D 0 = 0 → exec (.filterRebuildComplete el) s = .next (s.tick el)) ∧
  (∀ (s : State) (el : Nat) (q : Req), Ready s q roleSite → FullService s → s.mirrorBars = false → q.flashOk = true →
    q.inst.toNat < 4096 → q.data.length = 48 → beNat q.data ≠ 0 → (readRecord q.data).staticOk = true →
    s.rd 0x1414 q.inst.toNat = 0 → s.inService = [0, 1] →
    findEntry s.pa.store 1 (readRecord q.data).tenant (readRecord q.data).key = none →
    findEntry s.pb.store 1 (readRecord q.data).tenant (readRecord q.data).key = none →
    freePlaces s.pa.store (buckets s.seed 1 (readRecord q.data).tenant (readRecord q.data).key).1 1 ≠ [] →
    freePlaces s.pb.store (buckets s.seed 1 (readRecord q.data).tenant (readRecord q.data).key).1 1 ≠ [] →
    ∃ t, exec (.staticEntrySet el q) s = .next t ∧ t.rd 0x1414 q.inst.toNat = beNat q.data ∧
      (findEntry t.pa.store 1 (readRecord q.data).tenant (readRecord q.data).key).map (fun x => x.2.static) = some true ∧
      (findEntry t.pb.store 1 (readRecord q.data).tenant (readRecord q.data).key).map (fun x => x.2.static) = some true ∧
      t.out = s.out ++ [answer q 0x02 stOk 0x1414 q.inst.toNat []]) ∧
  (∀ (s : State) (el : Nat) (q : Req), Ready s q roleSite → FullService s → s.mirrorBars = false → q.flashOk = true →
    q.inst.toNat < 4096 → q.data.length = 48 →
    ∃ t, exec (.staticEntrySet el q) s = .next t ∧ t.pa = ((s.tick el).setStatic q.inst.toNat (beNat q.data)).1.pa ∧
      t.pb = ((s.tick el).setStatic q.inst.toNat (beNat q.data)).1.pb ∧
      t.hostTab = ((s.tick el).setStatic q.inst.toNat (beNat q.data)).1.hostTab ∧
      t.rd 0x1414 q.inst.toNat = ((s.tick el).setStatic q.inst.toNat (beNat q.data)).1.rd 0x1414 q.inst.toNat ∧
      t.out = s.out ++ [answer q 0x02 ((s.tick el).setStatic q.inst.toNat (beNat q.data)).2 0x1414 q.inst.toNat []]) ∧
  (∀ (s : State) (el : Nat) (q : Req), Ready s q roleSite → FullService s → s.mirrorBars = false → q.flashOk = true →
    q.inst.toNat < 4096 → q.data.length = 48 → beNat q.data ≠ 0 → (readRecord q.data).staticOk = false →
    ∃ t, exec (.staticEntrySet el q) s = .next t ∧ t.pa = s.pa ∧ t.pb = s.pb ∧
      Answers s t q 0x02 stRange 0x1414 q.inst.toNat [] []) ∧
  (∀ (s : State) (el k : Nat) (q : Req), Ready s q roleSite → FullService s → s.mirrorBars = false → q.flashOk = true →
    q.inst.toNat < 65536 → q.data.length = 16 → nextHopOk (beNat q.data) = true →
    (s.tick el).freePhys 0x1421 s.quietNh 65536 81920 = some k →
    ∃ t, exec (.nextHopSet el q) s = .next t ∧ t.rd 0x1420 q.inst.toNat = beNat q.data ∧ t.rd 0x1421 q.inst.toNat = k ∧
      Tab.find? t.physNh k = some (beNat q.data) ∧
      Tab.find? t.quietNh (s.rd 0x1421 q.inst.toNat) = some (s.clk + el + 2 * s.rd 0x1428 0 * 400000) ∧
      Answers s t q 0x02 stOk 0x1420 q.inst.toNat [] [(0x1420, q.inst.toNat), (0x1421, q.inst.toNat)]) ∧
  (∀ (s : State) (el : Nat) (q : Req), Ready s q roleSite → FullService s → s.mirrorBars = false → q.flashOk = true →
    q.inst.toNat < 65536 → q.data.length = 16 → nextHopOk (beNat q.data) = true →
    (s.tick el).freePhys 0x1421 s.quietNh 65536 81920 = none →
    ∃ t, exec (.nextHopSet el q) s = .next t ∧ Faulted t 99 ∧
      Answers s t q 0x02 stBusy 0x1420 q.inst.toNat [] [(0x3E03, 0), (0x3E04, 0)]) ∧
  (∀ (s : State) (el : Nat) (q : Req), Ready s q roleSite → FullService s → s.mirrorBars = false → q.flashOk = true →
    q.inst.toNat < 65536 → q.data.length = 16 → nextHopOk (beNat q.data) = false →
    ∃ t, exec (.nextHopSet el q) s = .next t ∧ Answers s t q 0x02 stRange 0x1420 q.inst.toNat [] []) ∧
  (∀ (s : State) (el n : Nat) (q : Req), Ready s q roleSite → FullService s → s.mirrorBars = false → q.flashOk = true →
    q.inst.toNat < 4096 → q.data.length = 130 → n = getBE q.data 0 1 → n ≤ 64 → getBE q.data 1 1 = 0 →
    (∀ k, k < n → nhKind (s.nextHop (getBE q.data (2 + 2 * k) 2)) = 0) →
    ∃ t, exec (.ecmpGroupSet el q) s = .next t ∧ t.rd 0x1422 q.inst.toNat = beNat q.data ∧
      Answers s t q 0x02 stOk 0x1422 q.inst.toNat [] [(0x1422, q.inst.toNat)]) ∧
  (∀ (s : State) (el n : Nat) (q : Req), Ready s q roleSite → FullService s → s.mirrorBars = false → q.flashOk = true →
    q.inst.toNat < 4096 → q.data.length = 130 → n = getBE q.data 0 1 →
    64 < n ∨ getBE q.data 1 1 ≠ 0 ∨ ¬(∀ k, k < n → nhKind (s.nextHop (getBE q.data (2 + 2 * k) 2)) = 0) →
    ∃ t, exec (.ecmpGroupSet el q) s = .next t ∧ Answers s t q 0x02 stRange 0x1422 q.inst.toNat [] []) ∧
  (∀ (s : State) (el k : Nat) (q : Req), Ready s q roleSite → FullService s → s.mirrorBars = false → q.flashOk = true →
    1 ≤ q.inst.toNat → q.inst.toNat < 131072 → q.data.length = 32 → rewriteOk (beNat q.data) = true →
    (s.tick el).freePhys 0x1425 s.quietRw 131072 163840 = some k →
    ∃ t, exec (.rewriteSet el q) s = .next t ∧ t.rd 0x1424 q.inst.toNat = beNat q.data ∧ t.rd 0x1425 q.inst.toNat = k ∧
      Tab.find? t.physRw k = some (beNat q.data) ∧
      Tab.find? t.quietRw (s.rd 0x1425 q.inst.toNat) = some (s.clk + el + 2 * s.rd 0x1428 0 * 400000) ∧
      Answers s t q 0x02 stOk 0x1424 q.inst.toNat [] [(0x1424, q.inst.toNat), (0x1425, q.inst.toNat)]) ∧
  (∀ (s : State) (el : Nat) (q : Req), Ready s q roleSite → FullService s → s.mirrorBars = false → q.flashOk = true →
    1 ≤ q.inst.toNat → q.inst.toNat < 131072 → q.data.length = 32 → rewriteOk (beNat q.data) = true →
    (s.tick el).freePhys 0x1425 s.quietRw 131072 163840 = none →
    ∃ t, exec (.rewriteSet el q) s = .next t ∧ Faulted t 99 ∧
      Answers s t q 0x02 stBusy 0x1424 q.inst.toNat [] [(0x3E03, 0), (0x3E04, 0)]) ∧
  (∀ (s : State) (el : Nat) (q : Req), Ready s q roleSite → FullService s → s.mirrorBars = false → q.flashOk = true →
    1 ≤ q.inst.toNat → q.inst.toNat < 131072 → q.data.length = 32 → rewriteOk (beNat q.data) = false →
    ∃ t, exec (.rewriteSet el q) s = .next t ∧ Answers s t q 0x02 stRange 0x1424 q.inst.toNat [] []) ∧
  (∀ (s : State) (el : Nat), s.holder = none → exec (.slowPathResolve el) s = .next (s.tick el)) ∧
  (∀ (s : State) (el c : Nat), s.holder = some c → Tab.search (fun e : Nat × Buffer => e.1 / 2 ^ 20 == c && e.2.slow) s.bufs = none →
    exec (.slowPathResolve el) s = .next (s.tick el)) ∧
  (∀ (s : State) (el a c : Nat) (b : Buffer) (f : Frame), s.holder = some c → Tab.search (fun e : Nat × Buffer => e.1 / 2 ^ 20 == c && e.2.slow) s.bufs = some (a, b) → b.frame = some f →
    (s.slowRoute f).bind (slowHead f (getBE b.bytes 16 1 % 16 / 2)) = none →
    s.rd 0x1430 (4096 * bedTenant f.bed + f.routeVrf) ≠ 1 →
    exec (.slowPathResolve el) s = .next (s.ran el
      (((s.tick el).giveBack a).inc 0x3C24 (if getBE b.bytes 17 1 = 4 then 1 else 0)))) ∧
  (∀ (s : State) (el a c : Nat) (b : Buffer) (f : Frame), s.holder = some c → Tab.search (fun e : Nat × Buffer => e.1 / 2 ^ 20 == c && e.2.slow) s.bufs = some (a, b) → b.frame = some f →
    (s.slowRoute f).bind (slowHead f (getBE b.bytes 16 1 % 16 / 2)) = none →
    s.rd 0x1430 (4096 * bedTenant f.bed + f.routeVrf) = 1 →
    exec (.slowPathResolve el) s = .next (s.ran el
      { s.tick el with bufs := Tab.set s.bufs a { b with bytes := putBE b.bytes 14 1 5, frame := some { f with reason := 5 } } })) ∧
  (∀ (s : State) (el a c r : Nat) (b : Buffer) (f : Frame) (h : TxHead), s.holder = some c → Tab.search (fun e : Nat × Buffer => e.1 / 2 ^ 20 == c && e.2.slow) s.bufs = some (a, b) → b.frame = some f →
    s.slowRoute f = some r → slowHead f (getBE b.bytes 16 1 % 16 / 2) r = some h → h.ok = true →
    exec (.slowPathResolve el) s = .next (s.ran el (((s.tick el).giveBack a).offer c h (b.bytes.drop 32)).1)) ∧
  (∀ (s : State) (el a c r : Nat) (b : Buffer) (f : Frame) (h : TxHead), s.holder = some c → Tab.search (fun e : Nat × Buffer => e.1 / 2 ^ 20 == c && e.2.slow) s.bufs = some (a, b) → b.frame = some f →
    s.slowRoute f = some r → slowHead f (getBE b.bytes 16 1 % 16 / 2) r = some h → h.ok = false →
    exec (.slowPathResolve el) s = .next (s.ran el (((s.tick el).giveBack a).inc 0x3826 c)))

/-- Courses: horizon, open, close and settled edges, the swap of banks, and suspension and resumption. While coursing runs: at its
horizon a resting port enters phase 1 with its next course shown; at its open edge it enters phase 2, the opening is counted, its
close RC is computed, and an excess raises the shortfalls of the courses that open, each to at most its reservation; at its close
edge it enters phase 3 and the closed course is kept until its settled edge, where its shortfall ends in both planes and the port
leaves phase 3. Each command acts on every port that is due; with none due, or coursing not running, nothing changes. A requested
swap whose shadow bank fails the checks answers RANGE (PID 1C25h); one that passes is made at once where coursing is off on the port
or no live cycle is set, and is otherwise pending until the first live-cycle start at least 1 ms later, when the live parameters
take those of the bank that passed and the swap is counted. Without servo lock or holdover coursing is suspended, counted, stamped
and flagged (fault bit 136), every port rests, and open edges are suppressed and counted; with it coursing resumes, and a window
that stays closed is counted. (R278, R279, R282, R284, R289, R291, R292, PID 1C07h, PID 1C11h, PID 1C12h, PID 1C24h, PID 1C25h.) -/
def Obligations.CoursesRunThroughTheirPhases : Prop :=
  (∀ (s : State) (el : Nat), s.rd 0x1C11 0 ≠ 1 → exec (.courseHorizon el) s = .next (s.tick el)) ∧
  (∀ (s : State) (el : Nat), s.rd 0x1C11 0 = 1 → exec (.courseHorizon el) s = .next (s.ran el
    (((s.tick el).calendars (fun _ c => c.armed && !c.opens && decide (c.edge ≤ s.tickRC el))).foldl State.horizon (s.tick el)))) ∧
  (∀ (s : State) (i : PortNo), ((s.horizon i.val).calendar i.val).opens = true ∧
    ((s.horizon i.val).calendar i.val).edge = s.time.triple.rcOf (s.calendar i.val).openAt ∧
    (s.rd 0x1C12 i.val = 0 → (s.horizon i.val).rd 0x1C12 i.val = 1 ∧
      (s.horizon i.val).rd 0x1C13 i.val = (s.calendar i.val).next % 256 ∧
      SameBut [(0x1C12, i.val), (0x1C13, i.val)] s (s.horizon i.val)) ∧
    (s.rd 0x1C12 i.val ≠ 0 → (s.horizon i.val).regs = s.regs)) ∧
  (∀ (s : State) (el : Nat), s.rd 0x1C11 0 ≠ 1 → s.rd 0x1C11 0 ≠ 2 → exec (.courseOpen el) s = .next (s.tick el)) ∧
  (∀ (s : State) (el : Nat), s.rd 0x1C11 0 = 1 → exec (.courseOpen el) s = .next (s.ran el
    ([0, 1].foldl (fun u p =>
        let v := u.raiseShort p ((s.tick el).calendars (s.tick el).openDue) (u.excess p - (u.pl p).shortSum);
        v.reclaim p ((s.tick el).calendars (s.tick el).openDue) (v.rd 0x1C20 0) false)
      (((s.tick el).calendars (s.tick el).openDue).foldl State.openPort (s.tick el))))) ∧
  (∀ (s : State) (i : PortNo) (c : CoursePort), c = s.calendar i.val → c.next < 64 →
    (s.openPort i.val).rd 0x1C12 i.val = 2 ∧ (s.openPort i.val).rd 0x1C13 i.val = c.next ∧
    (s.openPort i.val).rd 0x1C1D (64 * i.val + c.next) = (s.rd 0x1C1D (64 * i.val + c.next) + 1) % 2 ^ 32 ∧
    ((s.openPort i.val).calendar i.val).openRC = c.edge ∧
    ((s.openPort i.val).calendar i.val).closeRC =
      s.time.triple.rcOf (c.openAt + nsUnits (courseLength (s.course i.val c.next))) ∧
    (s.openPort i.val).pa = s.pa ∧ (s.openPort i.val).pb = s.pb ∧
    SameBut [(0x1C12, i.val), (0x1C13, i.val), (0x1C14, i.val), (0x1C1D, 64 * i.val + c.next)] s (s.openPort i.val)) ∧
  (∀ (s : State) (p : PlaneNo) (i : PortNo) (n x r : Nat), x = Tab.get 0 (s.pl p.val).sched.short (64 * i.val + s.rd 0x1C13 i.val) →
    r = courseTiles (s.course i.val (s.rd 0x1C13 i.val)) → x ≤ r →
    Tab.get 0 ((s.raiseShort p.val [i.val] n).pl p.val).sched.short (64 * i.val + s.rd 0x1C13 i.val) = min (x + n) r) ∧
  (∀ (s : State) (el : Nat), s.rd 0x1C11 0 = 2 → exec (.courseOpen el) s = .next (s.ran el
    (((s.tick el).calendars (fun _ c => c.armed && decide (s.time.triple.rcOf c.openAt ≤ s.tickRC el))).foldl State.suppress
      (s.tick el)))) ∧
  (∀ (s : State) (i : PortNo), (s.suppress i.val).rd 0x1C24 i.val = (s.rd 0x1C24 i.val + 1) % 2 ^ 32 ∧ (s.suppress i.val).pa = s.pa ∧
    (s.suppress i.val).pb = s.pb ∧ SameBut [(0x1C14, i.val), (0x1C24, i.val)] s (s.suppress i.val)) ∧
  (∀ (s : State) (el : Nat), s.rd 0x1C11 0 ≠ 1 → exec (.courseClose el) s = .next (s.tick el)) ∧
  (∀ (s : State) (el : Nat), s.rd 0x1C11 0 = 1 → exec (.courseClose el) s = .next (s.ran el
    (((s.tick el).calendars (fun x c => s.rd 0x1C12 x == 2 && decide (c.closeRC ≤ s.tickRC el))).foldl State.closePort (s.tick el)))) ∧
  (∀ (s : State) (i : PortNo) (c : CoursePort) (k r : Nat), c = s.calendar i.val → k = s.rd 0x1C13 i.val → r = s.course i.val k →
    (s.closePort i.val).rd 0x1C12 i.val = 3 ∧ (s.closePort i.val).rd 0x1C13 i.val = k % 256 ∧
    ((s.closePort i.val).calendar i.val).old =
      (c.old ++ [(⟨k, r, c.openRC, c.closeRC, c.nowAt + nsUnits (courseLength r + 20000), 0⟩ : ClosedCourse)]).map
        (fun x : ClosedCourse => { x with settledRC := s.time.triple.rcOf x.settledAt }) ∧
    SameBut [(0x1C12, i.val), (0x1C13, i.val)] s (s.closePort i.val)) ∧
  (∀ (s : State) (el : Nat), s.rd 0x1C11 0 ≠ 1 → exec (.courseSettled el) s = .next (s.tick el)) ∧
  (∀ (s : State) (el : Nat), s.rd 0x1C11 0 = 1 → exec (.courseSettled el) s = .next (s.ran el
    ((((s.tick el).calendars (fun _ c => c.old.any (fun x => decide (x.settledRC ≤ s.tickRC el)))).foldl State.settlePort
      (s.tick el)).settleShorts))) ∧
  (∀ (s : State) (i : PortNo) (x : ClosedCourse) (c : CoursePort), c = s.calendar i.val → c.old = [x] → x.settledRC ≤ s.rc →
    s.rd 0x1C12 i.val = 3 →
    ((s.settlePort i.val).calendar i.val).old = [] ∧
    (s.settlePort i.val).rd 0x1C12 i.val = (if c.armed = true ∧ c.opens = true then 1 else 0) ∧
    (s.settlePort i.val).rd 0x1C13 i.val = (if c.armed = true ∧ c.opens = true then c.next % 256 else 0xFF) ∧
    (x.course < 64 →
      (s.settlePort i.val).pa = { s.pa with sched := { s.pa.sched with short := Tab.del s.pa.sched.short (64 * i.val + x.course) } } ∧
      (s.settlePort i.val).pb = { s.pb with sched := { s.pb.sched with short := Tab.del s.pb.sched.short (64 * i.val + x.course) } }) ∧
    SameBut [(0x1C12, i.val), (0x1C13, i.val)] s (s.settlePort i.val)) ∧
  (∀ (s : State) (el : Nat) (q : Req), Ready s q roleSite → FullService s → q.inst.toNat < 144 → q.data = [1] →
    s.bankOk q.inst.toNat = false →
    ∃ t, exec (.bankSwap el q) s = .next t ∧ t.rd 0x1C25 q.inst.toNat = 0x13 ∧ t.courses = s.courses ∧
      Answers s t q 0x02 stRange 0x1C06 q.inst.toNat [] [(0x1C25, q.inst.toNat)]) ∧
  (∀ (s : State) (el : Nat) (q : Req), Ready s q roleSite → FullService s → q.inst.toNat < 144 → q.data = [1] →
    s.bankOk q.inst.toNat = true → s.flag 0x1C00 q.inst.toNat = true → s.rd 0x1C09 q.inst.toNat ≠ 0 →
    ∃ t, exec (.bankSwap el q) s = .next t ∧ t.rd 0x1C07 q.inst.toNat = 1 ∧ t.rd 0x1C25 q.inst.toNat = 0 ∧
      (t.calendar q.inst.toNat).swapRC = some (s.time.triple.rcOf (gridAfter ((s.tick el).cycleOrigin q.inst.toNat)
        (nsUnits (s.rd 0x1C09 q.inst.toNat)) ((s.tick el).dt + nsUnits 1000000))) ∧
      (t.calendar q.inst.toNat).swapBank = s.shadowBank q.inst.toNat ∧
      Answers s t q 0x02 stOk 0x1C06 q.inst.toNat [] [(0x1C07, q.inst.toNat), (0x1C25, q.inst.toNat)]) ∧
  (∀ (s : State) (el : Nat) (q : Req), Ready s q roleSite → FullService s → q.inst.toNat < 144 → q.data = [1] →
    s.bankOk q.inst.toNat = true → s.flag 0x1C00 q.inst.toNat = false ∨ s.rd 0x1C09 q.inst.toNat = 0 →
    ∃ t, exec (.bankSwap el q) s = .next t ∧ t.rd 0x1C09 q.inst.toNat = s.rd 0x1C01 q.inst.toNat % 2 ^ 32 ∧
      t.rd 0x1C0A q.inst.toNat = s.rd 0x1C02 q.inst.toNat % 2 ^ 32 ∧ t.rd 0x1C0B q.inst.toNat = s.rd 0x1C03 q.inst.toNat % 2 ^ 32 ∧
      t.rd 0x1C0C q.inst.toNat = s.rd 0x1C04 q.inst.toNat % 2 ^ 8 ∧ t.rd 0x1C07 q.inst.toNat = 0 ∧
      (∀ c : Fin 64, c.val < s.rd 0x1C04 q.inst.toNat →
        t.rd 0x1C0D (64 * q.inst.toNat + c.val) = s.rd 0x1C05 (64 * q.inst.toNat + c.val) % 2 ^ 128) ∧
      t.rd 0x1C26 q.inst.toNat = (s.rd 0x1C26 q.inst.toNat + 1) % 2 ^ 32 ∧
      t.out = s.out ++ [answer q 0x02 stOk 0x1C06 q.inst.toNat []]) ∧
  (∀ (s : State) (el : Nat) (i : PortNo), (s.calendar i.val).swapRC.all (fun rc => decide (s.tickRC el < rc)) = true →
    exec (.bankSwapEffect el i) s = .next (s.tick el)) ∧
  (∀ (s : State) (el rc : Nat) (i : PortNo) (b : CourseBank), (s.calendar i.val).swapRC = some rc → rc ≤ s.tickRC el →
    b = (s.calendar i.val).swapBank →
    ∃ t, exec (.bankSwapEffect el i) s = .next t ∧ t.rd 0x1C09 i.val = b.cycle % 2 ^ 32 ∧ t.rd 0x1C0A i.val = b.phase % 2 ^ 32 ∧
      t.rd 0x1C0B i.val = b.lead % 2 ^ 32 ∧ t.rd 0x1C0C i.val = b.records.length % 2 ^ 8 ∧ t.rd 0x1C07 i.val = 0 ∧
      (∀ c : Fin 64, t.rd 0x1C0D (64 * i.val + c.val) = b.records.getD c.val 0 % 2 ^ 128) ∧
      (t.calendar i.val).swapRC = none ∧ t.rd 0x1C26 i.val = (s.rd 0x1C26 i.val + 1) % 2 ^ 32) ∧
  (∀ (s : State) (el : Nat), s.rd 0x1C11 0 = 1 → s.rd 0x3400 0 ≠ 2 → s.rd 0x3400 0 ≠ 3 → (∀ e ∈ s.courses, e.1 < 144) →
    ∃ t, exec (.coursingSuspend el) s = .next t ∧ t.rd 0x1C11 0 = 2 ∧ t.rd 0x1C22 0 = (s.rd 0x1C22 0 + 1) % 2 ^ 32 ∧
      t.rd 0x1C23 0 = (s.tick el).dtNow % 2 ^ 112 ∧ Faulted t 136 ∧
      (∀ e ∈ s.courses, t.rd 0x1C12 e.1 = 0 ∧ t.rd 0x1C13 e.1 = 0xFF ∧ (t.calendar e.1).old = [])) ∧
  (∀ (s : State) (el : Nat), s.rd 0x1C11 0 ≠ 1 ∨ s.rd 0x3400 0 = 2 ∨ s.rd 0x3400 0 = 3 →
    exec (.coursingSuspend el) s = .next (s.tick el)) ∧
  (∀ (s : State) (el : Nat), s.rd 0x1C11 0 = 2 → s.rd 0x3400 0 = 2 ∨ s.rd 0x3400 0 = 3 →
    exec (.coursingResume el) s = .next (s.ran el
      ((((s.tick el).wr 0x1C11 0 1).calendars (fun _ _ => true)).foldl State.resumePort ((s.tick el).wr 0x1C11 0 1)).settleShorts)) ∧
  (∀ (s : State) (i : PortNo), s.windowRunning i.val = true ∨ s.openPassed (s.calendar i.val) = true →
    (s.resumePort i.val).rd 0x1C24 i.val = (s.rd 0x1C24 i.val + 1) % 2 ^ 32) ∧
  (∀ (s : State) (el : Nat), s.rd 0x1C11 0 ≠ 2 ∨ (s.rd 0x3400 0 ≠ 2 ∧ s.rd 0x3400 0 ≠ 3) →
    exec (.coursingResume el) s = .next (s.tick el))

/-- Gate lists, shaper refills and memory errors, the latency sampler, and PFC refresh. A configuration change request that fails the
checks answers RANGE (PID 220Eh); one that passes is pending with its change time; at that time, not before, the admin list is the
oper list, the change is counted and the pending flag cleared, and where the list is enabled its gates act from its first entry.
Enabling a gate list applies the initial states and requests a change, or leaves it disabled, and enabling one that is enabled
changes nothing; disabling it opens every gate and cancels a pending change. An edge that is due moves an acting list to its next
entry, and after the last to the first of the next cycle; one that is not due changes nothing. Shapers are refilled on five ticks of
every 512 from Bonded on: 32 units per kb/s of rate, capped at the burst; a shaper that has lost its state starts full, counted,
with fault bit 144. A visit of the sampler, where it runs, writes the queue's depth and head sojourn and their maxima, and a watched
slot counts the visit, in its bin or as an empty sample; its counts are cleared on request. A pause that is due and still needed is
sent again, and no other. (R302, R307, R312, R313, R314, R317, R318, R319, R107, PID 2206h, PID 240Ah.) -/
def Obligations.GatesShapersAndTheSamplerRun : Prop :=
  (∀ (s : State) (el : Nat) (q : Req), Ready s q roleSite → FullService s → q.inst.toNat < 144 → q.data = [1] →
    s.gateCheck q.inst.toNat = false →
    ∃ t, exec (.configurationChangeRequest el q) s = .next t ∧ t.rd 0x220E q.inst.toNat = 0x13 ∧ t.gateChange = s.gateChange ∧
      Answers s t q 0x02 stRange 0x2205 q.inst.toNat [] [(0x220E, q.inst.toNat)]) ∧
  (∀ (s : State) (el : Nat) (q : Req), Ready s q roleSite → FullService s → q.inst.toNat < 144 → q.data = [1] →
    s.gateCheck q.inst.toNat = true →
    ∃ t, exec (.configurationChangeRequest el q) s = .next t ∧ t.rd 0x220E q.inst.toNat = 0 ∧ t.rd 0x2206 q.inst.toNat = 1 ∧
      t.rd 0x2207 q.inst.toNat = encDT ((s.tick el).changeTime q.inst.toNat) % 2 ^ 112 ∧
      Tab.find? t.gateChange q.inst.toNat = some (s.time.triple.rcOf ((s.tick el).changeTime q.inst.toNat)) ∧
      Answers s t q 0x02 stOk 0x2205 q.inst.toNat []
        [(0x2206, q.inst.toNat), (0x2207, q.inst.toNat), (0x220E, q.inst.toNat)]) ∧
  (∀ (s : State) (el rc : Nat) (i : PortNo), Tab.find? s.gateChange i.val = some rc → rc ≤ s.tickRC el →
    ∃ t, exec (.configurationChange el i) s = .next t ∧ t.rd 0x2206 i.val = 0 ∧ t.rd 0x2208 i.val = s.rd 0x2201 i.val % 2 ^ 112 ∧
      t.rd 0x2209 i.val = s.rd 0x2202 i.val % 2 ^ 32 ∧ t.rd 0x220A i.val = s.rd 0x2203 i.val % 2 ^ 16 ∧
      t.rd 0x221F i.val = (if s.flag 0x2200 i.val = true then 2 else s.rd 0x221F i.val) ∧
      t.rd 0x220C i.val = (if s.flag 0x2200 i.val = true then 0 else s.rd 0x220C i.val) ∧
      (∀ k : Fin 256, k.val < s.rd 0x2203 i.val → t.rd 0x220B (256 * i.val + k.val) =
        s.rd 0x2204 (256 * i.val + k.val) % 2 ^ 64) ∧
      t.rd 0x220F i.val = (s.rd 0x220F i.val + 1) % 2 ^ 32 ∧
      (s.flag 0x2200 i.val = false → Tab.find? t.gateChange i.val = none ∧ t.gateEdge = s.gateEdge)) ∧
  (∀ (s : State) (el : Nat) (i : PortNo), (Tab.find? s.gateChange i.val).all (fun rc => decide (s.tickRC el < rc)) = true →
    exec (.configurationChange el i) s = .next (s.tick el)) ∧
  (∀ (s : State) (el : Nat) (q : Req), Ready s q roleSite → FullService s → q.inst.toNat < 144 → s.mirrorBars = false →
    q.flashOk = true → s.rd 0x2200 q.inst.toNat = 1 →
    ∃ t, exec (.gateListEnable el q) s = .next t ∧ t.gateChange = s.gateChange ∧ t.gateEdge = s.gateEdge ∧
      Answers s t q 0x02 stOk 0x2200 q.inst.toNat [] []) ∧
  (∀ (s : State) (el : Nat) (q : Req), Ready s q roleSite → FullService s → q.inst.toNat < 144 → s.mirrorBars = false →
    q.flashOk = true → s.rd 0x2200 q.inst.toNat = 0 → s.gateCheck q.inst.toNat = true →
    ∃ t, exec (.gateListEnable el q) s = .next t ∧ t.rd 0x2200 q.inst.toNat = 1 ∧
      t.rd 0x220D q.inst.toNat = s.rd 0x221B q.inst.toNat % 2 ^ 8 ∧ t.rd 0x221F q.inst.toNat = 1 ∧ t.rd 0x2206 q.inst.toNat = 1 ∧
      Answers s t q 0x02 stOk 0x2200 q.inst.toNat []
        [(0x2200, q.inst.toNat), (0x2206, q.inst.toNat), (0x2207, q.inst.toNat), (0x220D, q.inst.toNat), (0x220E, q.inst.toNat),
         (0x221F, q.inst.toNat)]) ∧
  (∀ (s : State) (el : Nat) (q : Req), Ready s q roleSite → FullService s → q.inst.toNat < 144 → s.mirrorBars = false →
    q.flashOk = true → s.rd 0x2200 q.inst.toNat = 0 → s.gateCheck q.inst.toNat = false →
    ∃ t, exec (.gateListEnable el q) s = .next t ∧ t.rd 0x2200 q.inst.toNat = 0 ∧
      Answers s t q 0x02 stRange 0x2200 q.inst.toNat [] [(0x220E, q.inst.toNat)]) ∧
  (∀ (s : State) (el : Nat) (q : Req), Ready s q roleSite → FullService s → q.inst.toNat < 144 → s.mirrorBars = false →
    q.flashOk = true →
    ∃ t, exec (.gateListDisable el q) s = .next t ∧ t.rd 0x2200 q.inst.toNat = 0 ∧ t.rd 0x220D q.inst.toNat = 0xFF ∧
      t.rd 0x221F q.inst.toNat = 0 ∧ t.rd 0x2206 q.inst.toNat = 0 ∧ Tab.find? t.gateChange q.inst.toNat = none ∧
      Answers s t q 0x02 stOk 0x2200 q.inst.toNat []
        [(0x2200, q.inst.toNat), (0x2206, q.inst.toNat), (0x220D, q.inst.toNat), (0x221F, q.inst.toNat)]) ∧
  (∀ (s : State) (el rc : Nat) (i : PortNo), Tab.find? s.gateEdge i.val = some rc → rc ≤ s.tickRC el → s.rd 0x221F i.val = 2 →
    s.rd 0x220C i.val + 1 < s.rd 0x220A i.val → s.rd 0x220A i.val ≤ 256 →
    ∃ t, exec (.gateEdge el i) s = .next t ∧ t.rd 0x220C i.val = s.rd 0x220C i.val + 1 ∧
      t.rd 0x220D i.val = gateStates (s.rd 0x220B (256 * i.val + (s.rd 0x220C i.val + 1))) ∧
      SameBut [(0x220C, i.val), (0x220D, i.val), (0x221C, i.val)] s t) ∧
  (∀ (s : State) (el rc : Nat) (i : PortNo), Tab.find? s.gateEdge i.val = some rc → rc ≤ s.tickRC el → s.rd 0x221F i.val = 2 →
    s.rd 0x220A i.val ≤ s.rd 0x220C i.val + 1 → 1 ≤ s.rd 0x220A i.val → s.rd 0x220A i.val ≤ 256 →
    ∃ t, exec (.gateEdge el i) s = .next t ∧ t.rd 0x220C i.val = 0 ∧
      t.rd 0x220D i.val = gateStates (s.rd 0x220B (256 * i.val)) ∧
      SameBut [(0x220C, i.val), (0x220D, i.val), (0x221C, i.val)] s t) ∧
  (∀ (s : State) (el : Nat) (i : PortNo),
    (Tab.find? s.gateEdge i.val).all (fun rc => decide (s.tickRC el < rc ∨ s.rd 0x221F i.val ≠ 2)) = true →
    exec (.gateEdge el i) s = .next (s.tick el)) ∧
  (∀ (s : State) (el : Nat), s.tickRC el % 512 ∉ [0, 102, 205, 307, 410] ∨ s.scheduled = false → exec (.shaperRefill el) s = .next (s.tick el)) ∧
  (∀ (s : State) (el : Nat), s.tickRC el % 512 ∈ [0, 102, 205, 307, 410] → s.scheduled = true →
    exec (.shaperRefill el) s = .next (s.ran el
      (((s.tick el).refillShapers 0 (s.tick el).shaperRates).refillShapers 1 (s.tick el).shaperRates))) ∧
  (∀ (s : State) (p : PlaneNo) (e r b : Nat), Tab.find? ((s.refillShapers p.val [(e, (r, b))]).pl p.val).sched.tokens e =
    some (min (Tab.get ((b : Int) * 1000000) (s.pl p.val).sched.tokens e + 32 * r) ((b : Int) * 1000000))) ∧
  (∀ (s : State) (el : Nat) (p : PlaneNo) (x : ShaperRef), Tab.find? s.shaperRates (shaperElem x) = none →
    ∃ t, exec (.shaperMemoryError el p x) s = .next t ∧ Tab.find? (t.pl p.val).sched.tokens (shaperElem x) = none ∧
      t.rd 0x204F p.val = (s.rd 0x204F p.val + 1) % 2 ^ 32 ∧
      Faulted t 144 ∧ SameBut [(0x204F, p.val), (0x3E03, 0), (0x3E04, 0)] s t) ∧
  (∀ (s : State) (el : Nat) (p : PlaneNo) (x : ShaperRef) (r : Nat × Nat), Tab.find? s.shaperRates (shaperElem x) = some r →
    ∃ t, exec (.shaperMemoryError el p x) s = .next t ∧ Tab.find? (t.pl p.val).sched.tokens (shaperElem x) = some ((r.2 : Int) * 1000000) ∧
      Tab.find? (t.pl p.val).sched.rates (shaperElem x) = some r ∧ t.rd 0x204F p.val = (s.rd 0x204F p.val + 1) % 2 ^ 32 ∧
      Faulted t 144 ∧ SameBut [(0x204F, p.val), (0x3E03, 0), (0x3E04, 0)] s t) ∧
  (∀ (s : State) (el : Nat) (p : PlaneNo) (q : Fin 32768), s.rd 0x240D 0 = 0 ∨ s.isOn p.val = false ∨ s.gateShut p.val 0 = true →
    exec (.samplerVisit el p q) s = .next (s.tick el)) ∧
  (∀ (s : State) (el d w : Nat) (p : PlaneNo) (q : Fin 32768), s.rd 0x240D 0 ≠ 0 → s.isOn p.val = true → s.gateShut p.val 0 = false →
    d = (s.pl p.val).tilesOf ((s.pl p.val).queue q.val) →
    w = ((((s.pl p.val).queue q.val).head?.map (fun c => (s.tickRC el - c.rc) * 5 / 2)).getD 0) →
    ∃ t, exec (.samplerVisit el p q) s = .next t ∧ t.rd 0x2400 (qInst p.val q.val) = d % 2 ^ 16 ∧
      t.rd 0x2401 (qInst p.val q.val) = w % 2 ^ 32 ∧
      t.rd 0x2402 (qInst p.val q.val) = (if s.rd 0x2402 (qInst p.val q.val) < d then d % 2 ^ 16 else s.rd 0x2402 (qInst p.val q.val)) ∧
      t.rd 0x2403 (qInst p.val q.val) = (if s.rd 0x2403 (qInst p.val q.val) < w then w % 2 ^ 32 else s.rd 0x2403 (qInst p.val q.val)) ∧
      t.pa = s.pa ∧ t.pb = s.pb) ∧
  (∀ (s : State) (el : Nat) (p : PlaneNo) (q : Fin 32768), s.rd 0x240D 0 ≠ 0 → s.isOn p.val = true → s.gateShut p.val 0 = false →
    s.slotsWatching q.val = [] → q.val ≠ 0 → q.val ≠ 32767 →
    ∃ t, exec (.samplerVisit el p q) s = .next t ∧ SameBut [(0x2400, qInst p.val q.val), (0x2401, qInst p.val q.val),
      (0x2402, qInst p.val q.val), (0x2403, qInst p.val q.val), (0x2404, qInst p.val q.val)] s t) ∧
  (∀ (s : State) (el k : Nat) (p : PlaneNo) (q : Fin 32768), s.rd 0x240D 0 ≠ 0 → s.isOn p.val = true → s.gateShut p.val 0 = false →
    (s.pl p.val).queue q.val = [] → s.slotsWatching q.val = [k] → k < 512 →
    ∃ t, exec (.samplerVisit el p q) s = .next t ∧ t.rd 0x2400 (qInst p.val q.val) = 0 ∧
      t.rd 0x240A (512 * p.val + k) = (s.rd 0x240A (512 * p.val + k) + 1) % 2 ^ 64 ∧
      t.rd 0x2409 (512 * p.val + k) = (s.rd 0x2409 (512 * p.val + k) + 1) % 2 ^ 64 ∧
      t.rd 0x2408 (512 * p.val + k) = s.rd 0x2408 (512 * p.val + k)) ∧
  (∀ (s : State) (el k : Nat) (p : PlaneNo) (q : Fin 32768) (c : Copy) (l : List Copy), s.rd 0x240D 0 ≠ 0 → s.isOn p.val = true → s.gateShut p.val 0 = false →
    (s.pl p.val).queue q.val = c :: l → s.slotsWatching q.val = [k] → k < 512 →
    ∃ t, exec (.samplerVisit el p q) s = .next t ∧
      t.rd 0x240A (512 * p.val + k) = (s.rd 0x240A (512 * p.val + k) + 1) % 2 ^ 64 ∧
      t.rd 0x2409 (512 * p.val + k) = s.rd 0x2409 (512 * p.val + k) ∧
      t.rd 0x2408 (512 * p.val + k) = bumpBin (s.rd 0x2408 (512 * p.val + k))
        (sojournBin (s.tickRC el - c.rc) (s.rd 0x2406 k)) % 2 ^ 1024) ∧
  (∀ (s : State) (el : Nat) (q : Req), Ready s q roleSite → FullService s → q.inst.toNat < 512 → q.data = [1] →
    ∃ t, exec (.clearSlotCounts el q) s = .next t ∧
      (∀ p : Fin 2, t.rd 0x2408 (512 * p.val + q.inst.toNat) = 0 ∧ t.rd 0x2409 (512 * p.val + q.inst.toNat) = 0 ∧
        t.rd 0x240A (512 * p.val + q.inst.toNat) = 0 ∧ t.rd 0x2410 (512 * p.val + q.inst.toNat) = 0 ∧
        t.rd 0x2412 (512 * p.val + q.inst.toNat) = 0) ∧
      t.rd 0x2413 q.inst.toNat = (s.tick el).dtNow % 2 ^ 112 ∧ t.out = s.out ++ [answer q 0x02 stOk 0x240C q.inst.toNat []]) ∧
  (∀ (s : State) (el : Nat) (i : PortNo) (k : Fin 9),
    (Tab.find? (s.port i.val).xoff k.val).all (fun rc => !s.sendsPause i.val k.val || !s.receives i.val ||
      decide (s.tickRC el < rc + s.rd 0x0834 i.val * 400 ∨ s.occupancy i.val k.val ≤ s.rd 0x0837 (pauseInst i.val k.val))) = true →
    exec (.pfcRefresh el i k) s = .next (s.tick el)) ∧
  (∀ (s : State) (el rc : Nat) (i : PortNo) (k : Fin 9), Tab.find? (s.port i.val).xoff k.val = some rc →
    s.sendsPause i.val k.val = true → rc + s.rd 0x0834 i.val * 400 ≤ s.tickRC el → s.rd 0x0837 (pauseInst i.val k.val) < s.occupancy i.val k.val →
    s.receives i.val = true →
    exec (.pfcRefresh el i k) s = .next (s.ran el (((s.tick el).updPort i.val (fun q => { q with
      xoff := Tab.set q.xoff k.val (s.tickRC el) })).sendPause i.val k.val (s.rd 0x0833 i.val))))

/-- The bond unit: first copies sent, twins matched, retired and bad copies not sent, divergences recorded, entries left by time. A head
is good where the plane's check and the link's hold; where both planes' heads come in one clock, plane A's is taken first. A copy
from a plane of no service, or that its port does not send, is discarded; one from before its plane's join is counted. Of a new key,
with both planes bonded, a good head that recovery passes and the FIFO takes is sent: an entry, sending, stands in the window, and
the copy in the FIFO, counted; eaten by recovery, it leaves the entry alone; rejected by the FIFO, or bad, it leaves an entry that
waits, counted. With one plane bonded the good copy is sent and counted, without an entry. A known key follows R332: a waiting one
is sent or stays; a twin is held with room, not held and counted without, not held once the first ended good; a plane's second copy
is an integrity failure; a bad twin completes the entry; where a replacement is wanted it is sent at once, or counted as
unavailable; a bad first copy's twin completes the entry. A retired key is counted late, and sent only where none was. At its end a
good first copy leaves its digest; one bad at ingress a bad entry; another a wish for replacement, counted; a good twin of the same
digest completes a good entry as matched, of another as divergence, recorded; a held twin replaces, or is counted unavailable. An
entry that is 50 µs old leaves for the retired list, counted as R332 says; a retired key goes once it has outlived its use. 1,000
consecutive 1 ms windows with bond drops set fault bit 165, fewer none. (R331, R332, R333, R335, R337, R338, R357, R361, PID 2804h,
PID 2805h, PID 2807h, PID 2808h.) -/
def Obligations.TheBondUnitSendsOneOfTwo : Prop :=
  (∀ (s : State) (el : Nat) (i : PortNo) (p : PlaneNo) (g : Bool) (fe : BitVec 8),
    exec (.bondCopyHead el i p ⟨g, none⟩ fe) s = .next (s.ran el ((s.tick el).copyHead i.val p.val g fe.toNat))) ∧
  (∀ (s : State) (el : Nat) (i : PortNo) (p : PlaneNo) (g h : Bool) (fe : BitVec 8),
    exec (.bondCopyHead el i p ⟨g, some h⟩ fe) s = .next (s.ran el (((s.tick el).copyHead i.val 0 (if p.val = 0 then g else h) fe.toNat).copyHead
      i.val 1 (if p.val = 0 then h else g) fe.toNat))) ∧
  (∀ (s : State) (fe : Nat) (i : PortNo) (p : PlaneNo) (g : Bool), nextHead (Tab.get [] (s.pl p.val).links i.val) = none →
    s.copyHead i.val p.val g fe = s) ∧
  (∀ (s : State) (fe : Nat) (i : PortNo) (p : PlaneNo) (g : Bool) (x : LinkCopy), nextHead (Tab.get [] (s.pl p.val).links i.val) = some x → s.takesFrom p.val = false ∨ s.sends i.val x.frame = false →
    s.isOn p.val = false ∨ s.rd 0x281F p.val = 0 ∨ 3 ≤ s.rd 0x281F p.val ∨ Tab.get 0 s.joins p.val ≤ x.frame.rc →
    (s.copyHead i.val p.val g fe) = s.updPl p.val (fun q => { q with links := Tab.upd [] q.links i.val (giveRole .discarded) })) ∧
  (∀ (s : State) (fe : Nat) (i : PortNo) (p : PlaneNo) (g : Bool) (x : LinkCopy), nextHead (Tab.get [] (s.pl p.val).links i.val) = some x → s.isOn p.val = true → s.rd 0x281F p.val = 1 ∨ s.rd 0x281F p.val = 2 →
    x.frame.rc < Tab.get 0 s.joins p.val →
    (s.copyHead i.val p.val g fe) = (s.inc 0x2811 (pInst p.val i.val)).updPl p.val (fun q => { q with
      links := Tab.upd [] q.links i.val (giveRole .discarded) })) ∧
  (∀ (s : State) (fe : Nat) (i : PortNo) (p : PlaneNo) (g : Bool) (x : LinkCopy), nextHead (Tab.get [] (s.pl p.val).links i.val) = some x → s.takesFrom p.val = true → s.sends i.val x.frame = true →
    s.rd 0x281F p.val = 3 ∨ Tab.get 0 s.joins p.val ≤ x.frame.rc → (s.bond i.val).entry x.frame.port x.frame.seq = none →
    ((s.bond i.val).retired.filter (fun r => !s.outlived r.2.2.1)).find? (fun r => r.1 == x.frame.port && r.2.1 == x.frame.seq) = none → s.bonded 0 = true → s.bonded 1 = true →
    Tab.get 0 s.joins (1 - p.val) ≤ x.frame.rc → (s.bond i.val).window.length < 2048 → (x.headerOk && g) = true → (s.recover i.val x.frame).2 = true → headRoom x.headLen ≤ s.fifoFree i.val →
    ((s.copyHead i.val p.val g fe).bond i.val).window = (s.bond i.val).window ++ [{ x.newEntry s.rc p.val with state := .sending, sent := true }] ∧
    ((s.copyHead i.val p.val g fe).bond i.val).fifo.length = (s.bond i.val).fifo.length + 1 ∧ (s.copyHead i.val p.val g fe).rd 0x2804 (pInst p.val i.val) = (s.rd 0x2804 (pInst p.val i.val) + 1) % 2 ^ 64 ∧
    (x.frame.frer = none → SameBut [(0x2804, pInst p.val i.val), (0x2803, i.val)] s (s.copyHead i.val p.val g fe))) ∧
  (∀ (s : State) (fe : Nat) (i : PortNo) (p : PlaneNo) (g : Bool) (x : LinkCopy), nextHead (Tab.get [] (s.pl p.val).links i.val) = some x → s.takesFrom p.val = true → s.sends i.val x.frame = true →
    s.rd 0x281F p.val = 3 ∨ Tab.get 0 s.joins p.val ≤ x.frame.rc → (s.bond i.val).entry x.frame.port x.frame.seq = none →
    ((s.bond i.val).retired.filter (fun r => !s.outlived r.2.2.1)).find? (fun r => r.1 == x.frame.port && r.2.1 == x.frame.seq) = none → s.bonded 0 = true → s.bonded 1 = true →
    Tab.get 0 s.joins (1 - p.val) ≤ x.frame.rc → (s.bond i.val).window.length < 2048 → (x.headerOk && g) = true → (s.recover i.val x.frame).2 = false →
    ((s.copyHead i.val p.val g fe).bond i.val).window = (s.bond i.val).window ++ [{ x.newEntry s.rc p.val with state := .sending, sent := true, eaten := true }] ∧
    ((s.copyHead i.val p.val g fe).bond i.val).fifo = (s.bond i.val).fifo) ∧
  (∀ (s : State) (fe : Nat) (i : PortNo) (p : PlaneNo) (g : Bool) (x : LinkCopy), nextHead (Tab.get [] (s.pl p.val).links i.val) = some x → s.takesFrom p.val = true → s.sends i.val x.frame = true →
    s.rd 0x281F p.val = 3 ∨ Tab.get 0 s.joins p.val ≤ x.frame.rc → (s.bond i.val).entry x.frame.port x.frame.seq = none →
    ((s.bond i.val).retired.filter (fun r => !s.outlived r.2.2.1)).find? (fun r => r.1 == x.frame.port && r.2.1 == x.frame.seq) = none → s.bonded 0 = true → s.bonded 1 = true →
    Tab.get 0 s.joins (1 - p.val) ≤ x.frame.rc → (s.bond i.val).window.length < 2048 → (x.headerOk && g) = true → (s.recover i.val x.frame).2 = true → s.fifoFree i.val < headRoom x.headLen →
    ((s.copyHead i.val p.val g fe).bond i.val).window = (s.bond i.val).window ++ [{ x.newEntry s.rc p.val with rejected := true }] ∧
    ((s.copyHead i.val p.val g fe).bond i.val).fifo = (s.bond i.val).fifo ∧ (s.copyHead i.val p.val g fe).rd 0x280E (pInst p.val i.val) = (s.rd 0x280E (pInst p.val i.val) + 1) % 2 ^ 64) ∧
  (∀ (s : State) (fe : Nat) (i : PortNo) (p : PlaneNo) (g : Bool) (x : LinkCopy), nextHead (Tab.get [] (s.pl p.val).links i.val) = some x → s.takesFrom p.val = true → s.sends i.val x.frame = true →
    s.rd 0x281F p.val = 3 ∨ Tab.get 0 s.joins p.val ≤ x.frame.rc → (s.bond i.val).entry x.frame.port x.frame.seq = none →
    ((s.bond i.val).retired.filter (fun r => !s.outlived r.2.2.1)).find? (fun r => r.1 == x.frame.port && r.2.1 == x.frame.seq) = none → s.bonded 0 = true → s.bonded 1 = true →
    Tab.get 0 s.joins (1 - p.val) ≤ x.frame.rc → (s.bond i.val).window.length < 2048 → (x.headerOk && g) = false →
    ((s.copyHead i.val p.val g fe).bond i.val).window = (s.bond i.val).window ++ [x.newEntry s.rc p.val] ∧ ((s.copyHead i.val p.val g fe).bond i.val).fifo = (s.bond i.val).fifo ∧
    (s.copyHead i.val p.val g fe).rd 0x2809 (pInst p.val i.val) = (s.rd 0x2809 (pInst p.val i.val) + 1) % 2 ^ 32 ∧ SameBut [(0x2809, pInst p.val i.val)] s (s.copyHead i.val p.val g fe)) ∧
  (∀ (s : State) (fe : Nat) (i : PortNo) (p : PlaneNo) (g : Bool) (x : LinkCopy), nextHead (Tab.get [] (s.pl p.val).links i.val) = some x → s.takesFrom p.val = true → s.sends i.val x.frame = true →
    s.rd 0x281F p.val = 3 ∨ Tab.get 0 s.joins p.val ≤ x.frame.rc → (s.bond i.val).entry x.frame.port x.frame.seq = none →
    ((s.bond i.val).retired.filter (fun r => !s.outlived r.2.2.1)).find? (fun r => r.1 == x.frame.port && r.2.1 == x.frame.seq) = none → s.bonded 0 = false ∨ s.bonded 1 = false ∨ x.frame.rc < Tab.get 0 s.joins (1 - p.val) → (x.headerOk && g) = true → (s.recover i.val x.frame).2 = true → headRoom x.headLen ≤ s.fifoFree i.val →
    ((s.copyHead i.val p.val g fe).bond i.val).window = (s.bond i.val).window ∧ ((s.copyHead i.val p.val g fe).bond i.val).fifo.length = (s.bond i.val).fifo.length + 1 ∧ (s.copyHead i.val p.val g fe).rd 0x2814 i.val = (s.rd 0x2814 i.val + 1) % 2 ^ 64) ∧
  (∀ (s : State) (fe : Nat) (i : PortNo) (p : PlaneNo) (g : Bool) (x : LinkCopy), nextHead (Tab.get [] (s.pl p.val).links i.val) = some x → s.takesFrom p.val = true → s.sends i.val x.frame = true →
    s.rd 0x281F p.val = 3 ∨ Tab.get 0 s.joins p.val ≤ x.frame.rc → (s.bond i.val).entry x.frame.port x.frame.seq = none →
    ((s.bond i.val).retired.filter (fun r => !s.outlived r.2.2.1)).find? (fun r => r.1 == x.frame.port && r.2.1 == x.frame.seq) = none → s.bonded 0 = false ∨ s.bonded 1 = false ∨ x.frame.rc < Tab.get 0 s.joins (1 - p.val) → (x.headerOk && g) = false →
    ((s.copyHead i.val p.val g fe).bond i.val).window = (s.bond i.val).window ∧ ((s.copyHead i.val p.val g fe).bond i.val).fifo = (s.bond i.val).fifo ∧ (s.copyHead i.val p.val g fe).rd 0x2809 (pInst p.val i.val) = (s.rd 0x2809 (pInst p.val i.val) + 1) % 2 ^ 32) ∧
  (∀ (s : State) (fe : Nat) (i : PortNo) (p : PlaneNo) (g : Bool) (x : LinkCopy) (n : BondEntry), nextHead (Tab.get [] (s.pl p.val).links i.val) = some x → s.takesFrom p.val = true → s.sends i.val x.frame = true →
    s.rd 0x281F p.val = 3 ∨ Tab.get 0 s.joins p.val ≤ x.frame.rc → (s.bond i.val).entry x.frame.port x.frame.seq = some n → n.state = .wait → (x.headerOk && g) = true → (s.recover i.val x.frame).2 = true → headRoom x.headLen ≤ s.fifoFree i.val →
    ((s.copyHead i.val p.val g fe).bond i.val).window = ((s.bond i.val).put { n with seen := setBit n.seen p.val true, state := .sending, first := p.val, sent := true, eaten := false }).window ∧
    ((s.copyHead i.val p.val g fe).bond i.val).fifo.length = (s.bond i.val).fifo.length + 1 ∧ (s.copyHead i.val p.val g fe).rd 0x2804 (pInst p.val i.val) = (s.rd 0x2804 (pInst p.val i.val) + 1) % 2 ^ 64) ∧
  (∀ (s : State) (fe : Nat) (i : PortNo) (p : PlaneNo) (g : Bool) (x : LinkCopy) (n : BondEntry), nextHead (Tab.get [] (s.pl p.val).links i.val) = some x → s.takesFrom p.val = true → s.sends i.val x.frame = true →
    s.rd 0x281F p.val = 3 ∨ Tab.get 0 s.joins p.val ≤ x.frame.rc → (s.bond i.val).entry x.frame.port x.frame.seq = some n → n.state = .wait → (x.headerOk && g) = false →
    ((s.copyHead i.val p.val g fe).bond i.val).window = ((s.bond i.val).put { n with seen := setBit n.seen p.val true }).window ∧ ((s.copyHead i.val p.val g fe).bond i.val).fifo = (s.bond i.val).fifo ∧ (s.copyHead i.val p.val g fe).rd 0x2809 (pInst p.val i.val) = (s.rd 0x2809 (pInst p.val i.val) + 1) % 2 ^ 32) ∧
  (∀ (s : State) (fe : Nat) (i : PortNo) (p : PlaneNo) (g : Bool) (x : LinkCopy) (n : BondEntry), nextHead (Tab.get [] (s.pl p.val).links i.val) = some x → s.takesFrom p.val = true → s.sends i.val x.frame = true →
    s.rd 0x281F p.val = 3 ∨ Tab.get 0 s.joins p.val ≤ x.frame.rc → (s.bond i.val).entry x.frame.port x.frame.seq = some n → n.state = .good → n.seen.testBit p.val = false → (x.headerOk && g) = true →
    ((s.copyHead i.val p.val g fe).bond i.val).window = ((s.bond i.val).put { n with seen := setBit n.seen p.val true, twin := true }).window ∧ ((s.copyHead i.val p.val g fe).bond i.val).fifo = (s.bond i.val).fifo ∧ SameBut [] s (s.copyHead i.val p.val g fe)) ∧
  (∀ (s : State) (fe : Nat) (i : PortNo) (p : PlaneNo) (g : Bool) (x : LinkCopy) (n : BondEntry), nextHead (Tab.get [] (s.pl p.val).links i.val) = some x → s.takesFrom p.val = true → s.sends i.val x.frame = true →
    s.rd 0x281F p.val = 3 ∨ Tab.get 0 s.joins p.val ≤ x.frame.rc → (s.bond i.val).entry x.frame.port x.frame.seq = some n → n.state = .sending → n.seen.testBit p.val = false → (x.headerOk && g) = true → headRoom x.headLen ≤ s.fifoFree i.val →
    ((s.copyHead i.val p.val g fe).bond i.val).window = ((s.bond i.val).put { n with seen := setBit n.seen p.val true, twin := true, held := true }).window ∧
    ((s.copyHead i.val p.val g fe).bond i.val).fifo.length = (s.bond i.val).fifo.length + 1 ∧ SameBut [(0x2803, i.val)] s (s.copyHead i.val p.val g fe)) ∧
  (∀ (s : State) (fe : Nat) (i : PortNo) (p : PlaneNo) (g : Bool) (x : LinkCopy) (n : BondEntry), nextHead (Tab.get [] (s.pl p.val).links i.val) = some x → s.takesFrom p.val = true → s.sends i.val x.frame = true →
    s.rd 0x281F p.val = 3 ∨ Tab.get 0 s.joins p.val ≤ x.frame.rc → (s.bond i.val).entry x.frame.port x.frame.seq = some n → n.state = .sending → n.seen.testBit p.val = false → (x.headerOk && g) = true → s.fifoFree i.val < headRoom x.headLen →
    ((s.copyHead i.val p.val g fe).bond i.val).window = ((s.bond i.val).put { n with seen := setBit n.seen p.val true, twin := true }).window ∧ ((s.copyHead i.val p.val g fe).bond i.val).fifo = (s.bond i.val).fifo ∧
    (s.copyHead i.val p.val g fe).rd 0x2810 i.val = (s.rd 0x2810 i.val + 1) % 2 ^ 64) ∧
  (∀ (s : State) (fe : Nat) (i : PortNo) (p : PlaneNo) (g : Bool) (x : LinkCopy) (n : BondEntry), nextHead (Tab.get [] (s.pl p.val).links i.val) = some x → s.takesFrom p.val = true → s.sends i.val x.frame = true →
    s.rd 0x281F p.val = 3 ∨ Tab.get 0 s.joins p.val ≤ x.frame.rc → (s.bond i.val).entry x.frame.port x.frame.seq = some n → n.state = .sending ∨ n.state = .good ∨ n.state = .replace → n.seen.testBit p.val = true →
    ((s.copyHead i.val p.val g fe).bond i.val).window = (s.bond i.val).window ∧ ((s.copyHead i.val p.val g fe).bond i.val).fifo = (s.bond i.val).fifo ∧ (s.copyHead i.val p.val g fe).rd 0x280A (pInst p.val i.val) = (s.rd 0x280A (pInst p.val i.val) + 1) % 2 ^ 32) ∧
  (∀ (s : State) (fe : Nat) (i : PortNo) (p : PlaneNo) (g : Bool) (x : LinkCopy) (n : BondEntry), nextHead (Tab.get [] (s.pl p.val).links i.val) = some x → s.takesFrom p.val = true → s.sends i.val x.frame = true →
    s.rd 0x281F p.val = 3 ∨ Tab.get 0 s.joins p.val ≤ x.frame.rc → (s.bond i.val).entry x.frame.port x.frame.seq = some n → n.state = .sending ∨ n.state = .good → n.seen.testBit p.val = false → (x.headerOk && g) = false →
    ((s.copyHead i.val p.val g fe).bond i.val).window = ((s.bond i.val).drop n.port n.seq).window ∧ (s.copyHead i.val p.val g fe).rd 0x2809 (pInst p.val i.val) = (s.rd 0x2809 (pInst p.val i.val) + 1) % 2 ^ 32) ∧
  (∀ (s : State) (fe : Nat) (i : PortNo) (p : PlaneNo) (g : Bool) (x : LinkCopy) (n : BondEntry), nextHead (Tab.get [] (s.pl p.val).links i.val) = some x → s.takesFrom p.val = true → s.sends i.val x.frame = true →
    s.rd 0x281F p.val = 3 ∨ Tab.get 0 s.joins p.val ≤ x.frame.rc → (s.bond i.val).entry x.frame.port x.frame.seq = some n → n.state = .replace → n.seen.testBit p.val = false → (x.headerOk && g) = true → n.eaten = false → headRoom x.headLen ≤ s.fifoFree i.val →
    ((s.copyHead i.val p.val g fe).bond i.val).window = ((s.bond i.val).drop n.port n.seq).window ∧ (s.copyHead i.val p.val g fe).rd 0x280C i.val = (s.rd 0x280C i.val + 1) % 2 ^ 64 ∧
    (n.held = false → ((s.copyHead i.val p.val g fe).bond i.val).fifo.length = (s.bond i.val).fifo.length + 1)) ∧
  (∀ (s : State) (fe : Nat) (i : PortNo) (p : PlaneNo) (g : Bool) (x : LinkCopy) (n : BondEntry), nextHead (Tab.get [] (s.pl p.val).links i.val) = some x → s.takesFrom p.val = true → s.sends i.val x.frame = true →
    s.rd 0x281F p.val = 3 ∨ Tab.get 0 s.joins p.val ≤ x.frame.rc → (s.bond i.val).entry x.frame.port x.frame.seq = some n → n.state = .replace → n.seen.testBit p.val = false → (x.headerOk && g) = false →
    ((s.copyHead i.val p.val g fe).bond i.val).window = ((s.bond i.val).drop n.port n.seq).window ∧ (s.copyHead i.val p.val g fe).rd 0x2809 (pInst p.val i.val) = (s.rd 0x2809 (pInst p.val i.val) + 1) % 2 ^ 32 ∧
    (s.copyHead i.val p.val g fe).rd 0x280D i.val = (s.rd 0x280D i.val + 1) % 2 ^ 64) ∧
  (∀ (s : State) (fe : Nat) (i : PortNo) (p : PlaneNo) (g : Bool) (x : LinkCopy) (n : BondEntry), nextHead (Tab.get [] (s.pl p.val).links i.val) = some x → s.takesFrom p.val = true → s.sends i.val x.frame = true →
    s.rd 0x281F p.val = 3 ∨ Tab.get 0 s.joins p.val ≤ x.frame.rc → (s.bond i.val).entry x.frame.port x.frame.seq = some n → n.state = .bad →
    ((s.copyHead i.val p.val g fe).bond i.val).window = ((s.bond i.val).drop n.port n.seq).window) ∧
  (∀ (s : State) (fe : Nat) (i : PortNo) (p : PlaneNo) (g : Bool) (x : LinkCopy) (r : Nat × Nat × Nat × Bool), nextHead (Tab.get [] (s.pl p.val).links i.val) = some x → s.takesFrom p.val = true → s.sends i.val x.frame = true →
    s.rd 0x281F p.val = 3 ∨ Tab.get 0 s.joins p.val ≤ x.frame.rc → (s.bond i.val).entry x.frame.port x.frame.seq = none →
    ((s.bond i.val).retired.filter (fun r => !s.outlived r.2.2.1)).find? (fun r => r.1 == x.frame.port && r.2.1 == x.frame.seq) = some r → r.2.2.2 = true →
    ((s.copyHead i.val p.val g fe).bond i.val).window = (s.bond i.val).window ∧ ((s.copyHead i.val p.val g fe).bond i.val).fifo = (s.bond i.val).fifo ∧ (s.copyHead i.val p.val g fe).rd 0x2807 (pInst p.val i.val) = (s.rd 0x2807 (pInst p.val i.val) + 1) % 2 ^ 64 ∧
    SameBut [(0x2807, pInst p.val i.val)] s (s.copyHead i.val p.val g fe)) ∧
  (∀ (s : State) (fe : Nat) (i : PortNo) (p : PlaneNo) (g : Bool) (x : LinkCopy) (r : Nat × Nat × Nat × Bool), nextHead (Tab.get [] (s.pl p.val).links i.val) = some x → s.takesFrom p.val = true → s.sends i.val x.frame = true →
    s.rd 0x281F p.val = 3 ∨ Tab.get 0 s.joins p.val ≤ x.frame.rc → (s.bond i.val).entry x.frame.port x.frame.seq = none →
    ((s.bond i.val).retired.filter (fun r => !s.outlived r.2.2.1)).find? (fun r => r.1 == x.frame.port && r.2.1 == x.frame.seq) = some r → r.2.2.2 = false → (x.headerOk && g) = true → (s.recover i.val x.frame).2 = true → headRoom x.headLen ≤ s.fifoFree i.val →
    ((s.copyHead i.val p.val g fe).bond i.val).window = (s.bond i.val).window ∧ ((s.copyHead i.val p.val g fe).bond i.val).fifo.length = (s.bond i.val).fifo.length + 1 ∧ (s.copyHead i.val p.val g fe).rd 0x2807 (pInst p.val i.val) = (s.rd 0x2807 (pInst p.val i.val) + 1) % 2 ^ 64) ∧
  (∀ (s : State) (fe : Nat) (i : PortNo) (p : PlaneNo) (g : Bool) (x : LinkCopy) (r : Nat × Nat × Nat × Bool), nextHead (Tab.get [] (s.pl p.val).links i.val) = some x → s.takesFrom p.val = true → s.sends i.val x.frame = true →
    s.rd 0x281F p.val = 3 ∨ Tab.get 0 s.joins p.val ≤ x.frame.rc → (s.bond i.val).entry x.frame.port x.frame.seq = none →
    ((s.bond i.val).retired.filter (fun r => !s.outlived r.2.2.1)).find? (fun r => r.1 == x.frame.port && r.2.1 == x.frame.seq) = some r → r.2.2.2 = false → (x.headerOk && g) = false →
    ((s.copyHead i.val p.val g fe).bond i.val).window = (s.bond i.val).window ∧ ((s.copyHead i.val p.val g fe).bond i.val).fifo = (s.bond i.val).fifo ∧ (s.copyHead i.val p.val g fe).rd 0x2807 (pInst p.val i.val) = (s.rd 0x2807 (pInst p.val i.val) + 1) % 2 ^ 64 ∧
    (s.copyHead i.val p.val g fe).rd 0x2809 (pInst p.val i.val) = (s.rd 0x2809 (pInst p.val i.val) + 1) % 2 ^ 32) ∧
  (∀ (s : State) (el : Nat) (i : PortNo) (p : PlaneNo) (ok : Bool), takeDone (Tab.get [] (s.pl p.val).links i.val) = none →
    exec (.bondCopyEnd el i p ok) s = .next (s.tick el)) ∧
  (∀ (s : State) (el : Nat) (i : PortNo) (p : PlaneNo) (ok : Bool) (x : LinkCopy) (rest : List LinkCopy),
    takeDone (Tab.get [] (s.pl p.val).links i.val) = some (x, rest) →
    exec (.bondCopyEnd el i p ok) s = .next (s.ran el
      (((s.tick el).updPl p.val (fun q => { q with
        links := if rest.isEmpty then Tab.del q.links i.val else Tab.set q.links i.val rest })).takeEnd
        p.val i.val x (if ok = true then x.status.getD 0 else 3)))) ∧
  (∀ (s : State) (st : Nat) (i : PortNo) (p : PlaneNo) (x : LinkCopy) (n : BondEntry), x.role = .lead → (s.bond i.val).entry x.frame.port x.frame.seq = some n →
    n.state = .sending → n.first = p.val → st = 0 → n.twinEnd = none →
    ((s.takeEnd p.val i.val x st).bond i.val).window = ((s.bond i.val).put { n with state := .good, digest := x.digest, held := false }).window) ∧
  (∀ (s : State) (st : Nat) (i : PortNo) (p : PlaneNo) (x : LinkCopy) (n : BondEntry), x.role = .lead → (s.bond i.val).entry x.frame.port x.frame.seq = some n →
    n.state = .sending → n.first = p.val → st = 1 → n.twin = false →
    ((s.takeEnd p.val i.val x st).bond i.val).window = ((s.bond i.val).put { n with state := .bad }).window) ∧
  (∀ (s : State) (st : Nat) (i : PortNo) (p : PlaneNo) (x : LinkCopy) (n : BondEntry), x.role = .lead → (s.bond i.val).entry x.frame.port x.frame.seq = some n →
    n.state = .sending → n.first = p.val → st = 1 → n.twin = true →
    ((s.takeEnd p.val i.val x st).bond i.val).window = ((s.bond i.val).drop n.port n.seq).window) ∧
  (∀ (s : State) (st : Nat) (i : PortNo) (p : PlaneNo) (x : LinkCopy) (n : BondEntry), x.role = .lead → (s.bond i.val).entry x.frame.port x.frame.seq = some n →
    n.state = .sending → n.first = p.val → st = 2 ∨ st = 3 → n.twin = false ∨ (n.held = true ∧ n.twinEnd = none) →
    ((s.takeEnd p.val i.val x st).bond i.val).window = ((s.bond i.val).put { n with state := .replace }).window ∧
    (s.takeEnd p.val i.val x st).rd (if st = 3 then 0x280A else 0x280B) (pInst p.val i.val) =
      (s.rd (if st = 3 then 0x280A else 0x280B) (pInst p.val i.val) + 1) % 2 ^ (if st = 3 then 32 else 64)) ∧
  (∀ (s : State) (st : Nat) (i : PortNo) (p : PlaneNo) (x : LinkCopy) (n : BondEntry), x.role = .twin → (s.bond i.val).entry x.frame.port x.frame.seq = some n → n.state = .good → st = 0 → n.digest = x.digest → n.seen = 3 →
    ((s.takeEnd p.val i.val x st).bond i.val).window = ((s.bond i.val).drop n.port n.seq).window ∧ (s.takeEnd p.val i.val x st).rd 0x2805 i.val = (s.rd 0x2805 i.val + 1) % 2 ^ 64 ∧
    (s.takeEnd p.val i.val x st).rd 0x2808 i.val = s.rd 0x2808 i.val) ∧
  (∀ (s : State) (st : Nat) (i : PortNo) (p : PlaneNo) (x : LinkCopy) (n : BondEntry), x.role = .twin → (s.bond i.val).entry x.frame.port x.frame.seq = some n → n.state = .good → st = 0 → n.digest ≠ x.digest →
    ((s.takeEnd p.val i.val x st).bond i.val).window = ((s.bond i.val).drop n.port n.seq).window ∧ (s.takeEnd p.val i.val x st).rd 0x2808 i.val = (s.rd 0x2808 i.val + 1) % 2 ^ 64 ∧
    (s.takeEnd p.val i.val x st).rd 0x2815 i.val = ((((n.port * 2 ^ 32 + n.seq) * 2 ^ 72 + n.arrival) * 256 + n.first) * 256) % 2 ^ 128) ∧
  (∀ (s : State) (st : Nat) (i : PortNo) (p : PlaneNo) (x : LinkCopy) (n : BondEntry), x.role = .twin → (s.bond i.val).entry x.frame.port x.frame.seq = some n → n.state = .replace → st = 0 → n.held = true → n.eaten = false →
    ((s.takeEnd p.val i.val x st).bond i.val).window = ((s.bond i.val).drop n.port n.seq).window ∧ (s.takeEnd p.val i.val x st).rd 0x280C i.val = (s.rd 0x280C i.val + 1) % 2 ^ 64) ∧
  (∀ (s : State) (st : Nat) (i : PortNo) (p : PlaneNo) (x : LinkCopy) (n : BondEntry), x.role = .twin → (s.bond i.val).entry x.frame.port x.frame.seq = some n → n.state = .replace → st = 2 ∨ st = 3 → n.eaten = false →
    ((s.takeEnd p.val i.val x st).bond i.val).window = ((s.bond i.val).drop n.port n.seq).window ∧ (s.takeEnd p.val i.val x st).rd 0x280D i.val = (s.rd 0x280D i.val + 1) % 2 ^ 64) ∧
  (∀ (s : State) (el : Nat) (i : PortNo), exec (.bondTimeBound el i) s = .next (s.ran el
    (((s.bond i.val).window.filter (fun x => decide (x.created + 20000 ≤ s.tickRC el))).foldl (fun u x => u.leaveEntry i.val x) (s.tick el)))) ∧
  (∀ (s : State) (i : PortNo) (n : BondEntry), n.held = false → (s.bond i.val).retired.length < 8192 →
    ((s.leaveEntry i.val n).bond i.val).window = ((s.bond i.val).drop n.port n.seq).window ∧
    ((s.leaveEntry i.val n).bond i.val).retired = (s.bond i.val).retired ++ [(n.port, n.seq, n.arrival, n.sent)]) ∧
  (∀ (s : State) (i : PortNo) (n : BondEntry), n.state = .wait ∨ n.state = .sending ∨ n.state = .good → n.seen = 1 ∨ n.seen = 2 →
    s.stageAtLeast 2 = true → s.isOn n.missing = true →
    (s.leaveEntry i.val n).rd 0x2806 (pInst n.missing i.val) = (s.rd 0x2806 (pInst n.missing i.val) + 1) % 2 ^ 64) ∧
  (∀ (s : State) (i : PortNo) (n : BondEntry), n.state = .replace → n.twin = false → n.first ≤ 1 → s.stageAtLeast 2 = true →
    s.isOn (1 - n.first) = true →
    (s.leaveEntry i.val n).rd 0x2806 (pInst (1 - n.first) i.val) = (s.rd 0x2806 (pInst (1 - n.first) i.val) + 1) % 2 ^ 64 ∧
      (s.leaveEntry i.val n).rd 0x280D i.val = (s.rd 0x280D i.val + 1) % 2 ^ 64) ∧
  (∀ (s : State) (i : PortNo) (n : BondEntry), n.rejected = true → n.sent = false →
    (s.leaveEntry i.val n).rd 0x280F i.val = (s.rd 0x280F i.val + 1) % 2 ^ 64) ∧
  (∀ (s : State) (el : Nat) (e : Fin 146), e.val < 144 → exec (.retiredKeyExpiry el e) s = .next (s.ran el
    ((s.tick el).updBond e.val (fun b => { b with
      retired := b.retired.filter (fun r => !decide (r.2.2.1 + s.rd 0x1428 0 * 400000 + 16192 < s.tickRC el)) })))) ∧
  (∀ (s : State) (el : Nat) (e : Fin 146), 144 ≤ e.val →
    exec (.retiredKeyExpiry el e) s = .next (s.ran el ((s.tick el).purgeRecv (e.val - 144)))) ∧
  (∀ (s : State) (el last run : Nat) (i : PortNo), Tab.find? s.sustain (165 * 2 ^ 32 + i.val) = some (last, run) →
    1000 ≤ run → run < raisedRun → s.tickRC el / 400000 ≤ last + 1 →
    ∃ t, exec (.bondDropsSustained el i) s = .next t ∧ Faulted t 165 ∧
      SameBut [(0x3E03, 0), (0x3E04, 0)] s t) ∧
  (∀ (s : State) (el : Nat) (i : PortNo), (Tab.find? s.sustain (165 * 2 ^ 32 + i.val)).all (fun x =>
      decide (x.2 < 1000 ∨ raisedRun ≤ x.2 ∨ x.1 + 1 < s.tickRC el / 400000)) = true →
    exec (.bondDropsSustained el i) s = .next (s.tick el))

/-- A recovery function resets after its reset time or on request, and a generation sequence on request. A recovery function whose last
acceptance is older than the reset time of its record forgets its sequence, counted (PID 283Ah); before that, or while it is reset,
nothing changes. Requests reset a recovery function at once, and a stream's next sequence number to 0. (R354, R357, PID 282Dh, PID
283Ah.) -/
def Obligations.RecoveryAndSequencesReset : Prop :=
  (∀ (s : State) (el : Nat) (f : Fin 1024) (h : Recovery), Tab.find? s.recovery f.val = some h →
    h.accepted + bytesAt 8 (s.recoveryRecord f.val) 4 5 * 400000 ≤ s.tickRC el →
    exec (.recoveryResetTimeout el f) s = .next (s.ran el
      (({ s.tick el with recovery := Tab.del s.recovery f.val } : State).inc 0x283A f.val))) ∧
  (∀ (s : State) (el : Nat) (f : Fin 1024) (h : Recovery), Tab.find? s.recovery f.val = some h →
    s.tickRC el < h.accepted + bytesAt 8 (s.recoveryRecord f.val) 4 5 * 400000 →
    exec (.recoveryResetTimeout el f) s = .next (s.tick el)) ∧
  (∀ (s : State) (el : Nat) (f : Fin 1024), Tab.find? s.recovery f.val = none →
    exec (.recoveryResetTimeout el f) s = .next (s.tick el)) ∧
  (∀ (s : State) (el : Nat) (q : Req), Ready s q roleSite → FullService s → q.inst.toNat < 1024 → q.data = [1] →
    ∃ t, exec (.recoveryReset el q) s = .next t ∧ Tab.find? t.recovery q.inst.toNat = none ∧
      t.rd 0x283A q.inst.toNat = (s.rd 0x283A q.inst.toNat + 1) % 2 ^ 32 ∧
      Answers s t q 0x02 stOk 0x2833 q.inst.toNat [] [(0x283A, q.inst.toNat)]) ∧
  (∀ (s : State) (el : Nat) (q : Req), Ready s q roleSite → FullService s → q.inst.toNat < 2048 → q.data = [1] →
    ∃ t, exec (.sequenceReset el q) s = .next t ∧ t.rd 0x282D q.inst.toNat = 0 ∧
      Answers s t q 0x02 stOk 0x282E q.inst.toNat [] [(0x282D, q.inst.toNat)])

/-- Planes are judged, isolated, reseeded and joined, on a condition, a divergence, an activation that differs or a request. Judgements
wait for a controller with the token and both planes bonded; with no condition and no divergence the window only counts absences.
One plane that meets a condition, below the repeat limit of 24 h, is isolated with its cause and fault bit 160, and with fault
action 1 a reseed with a power cycle follows; where both do, B is judged and A's judgement withheld until B joins; at the repeat
limit the plane is held isolated with fault bit 163. Divergences at the threshold reseed one plane without a power cycle, fault bit
161. An armed slot whose activation RC differs in one plane, or in both, sets fault bit 82 and judges the plane, or B, cause 4. A
loaded plane joins with the other's tables at the RC 8,000 ticks ahead, bonded, with the reseed counted, ended and answered; after
30 s it is isolated with fault bit 164. A reseed that is not complete, not yet at its RC, or not yet 30 s old goes on. A request for
a reseed is accepted, with a plane without power powered, or answers INTERLOCK or BUSY. (R338, R339, R340, R341, R342, R343, R166,
PID 281Fh, PID 2824h, PID 2826h.) -/
def Obligations.PlanesAreJudgedAndReseeded : Prop :=
  (∀ (s : State) (el : Nat), Quiet s → s.holder = none ∨ s.bothBonded = false →
    exec (.judgementWindow el) s = .next (s.tick el)) ∧
  (∀ (s : State) (el : Nat), Quiet s → s.holder.isSome = true → ((s.tick el).countAbsences).judgement 0 = none → ((s.tick el).countAbsences).judgement 1 = none → s.bothBonded = true →
    s.rd 0x281C 0 ≠ 1 ∨ (s.tick el).inSecond s.judge.div < s.rd 0x281B 0 →
    exec (.judgementWindow el) s = .next (s.ran el ((s.tick el).countAbsences))) ∧
  (∀ (s : State) (el x : Nat) (p : PlaneNo), Quiet s → s.holder.isSome = true → s.bothBonded = true → s.reseed = none →
    s.committing = none → ((s.tick el).countAbsences).judgement p.val = some x → ((s.tick el).countAbsences).judgement (1 - p.val) = none →
    s.rd 0x281D 0 ≠ 0 → (((s.clk + el) :: Tab.get [] s.judge.judged p.val).filter (fun t => decide (s.clk + el < t + 34560000000000))).length < s.rd 0x281E 0 →
    ∃ t, exec (.judgementWindow el) s = .next t ∧ t.rd 0x281F p.val = 4 ∧ t.rd 0x281F (1 - p.val) = 2 ∧ t.dom p.val = 4 ∧
      t.rd 0x2824 p.val = x ∧ t.rd 0x2823 p.val = (s.rd 0x2823 p.val + 1) % 2 ^ 32 ∧ t.rd 0x2826 0 = 1 ∧ t.rd 0x2827 0 = p.val ∧
      t.reseed.map (fun r => (r.plane, r.cause, r.cycle, r.since, r.who)) = some (p.val, x, true, s.clk + el, none) ∧ Faulted t 160) ∧
  (∀ (s : State) (el x : Nat) (p : PlaneNo), Quiet s → s.holder.isSome = true → s.bothBonded = true → s.reseed = none →
    s.committing = none → ((s.tick el).countAbsences).judgement p.val = some x → ((s.tick el).countAbsences).judgement (1 - p.val) = none →
    s.rd 0x281D 0 = 0 → (((s.clk + el) :: Tab.get [] s.judge.judged p.val).filter (fun t => decide (s.clk + el < t + 34560000000000))).length < s.rd 0x281E 0 →
    ∃ t, exec (.judgementWindow el) s = .next t ∧ t.rd 0x281F p.val = 4 ∧ t.rd 0x281F (1 - p.val) = 2 ∧ t.dom p.val = 4 ∧
      t.rd 0x2824 p.val = x ∧ t.reseed = none ∧ Faulted t 160) ∧
  (∀ (s : State) (el x y : Nat), Quiet s → s.holder.isSome = true → s.bothBonded = true → s.reseed = none →
    s.committing = none → ((s.tick el).countAbsences).judgement 0 = some x → ((s.tick el).countAbsences).judgement 1 = some y →
    s.rd 0x281D 0 ≠ 0 → (((s.clk + el) :: Tab.get [] s.judge.judged 1).filter (fun t => decide (s.clk + el < t + 34560000000000))).length < s.rd 0x281E 0 →
    ∃ t, exec (.judgementWindow el) s = .next t ∧ t.rd 0x281F 0 = 2 ∧ t.rd 0x281F 1 = 4 ∧ t.rd 0x2824 1 = y ∧
      t.judge.withheld = some x ∧ Faulted t 160) ∧
  (∀ (s : State) (el x : Nat) (p : PlaneNo), Quiet s → s.holder.isSome = true → s.bothBonded = true → s.reseed = none →
    s.committing = none → ((s.tick el).countAbsences).judgement p.val = some x → ((s.tick el).countAbsences).judgement (1 - p.val) = none →
    s.rd 0x281E 0 ≤ (((s.clk + el) :: Tab.get [] s.judge.judged p.val).filter (fun t => decide (s.clk + el < t + 34560000000000))).length →
    ∃ t, exec (.judgementWindow el) s = .next t ∧ t.rd 0x281F p.val = 5 ∧ t.reseed = none ∧ t.rd 0x2824 p.val = x ∧
      Faulted t 160 ∧ Faulted t 163) ∧
  (∀ (s : State) (el : Nat), Quiet s → s.holder.isSome = true → s.bothBonded = true → s.reseed = none →
    s.committing = none → ((s.tick el).countAbsences).judgement 0 = none → ((s.tick el).countAbsences).judgement 1 = none →
    s.rd 0x281C 0 = 1 → s.rd 0x281B 0 ≤ (s.tick el).inSecond s.judge.div →
    ∃ t, exec (.judgementWindow el) s = .next t ∧ t.rd 0x281F (s.tick el).divergentPlane = 4 ∧
      t.rd 0x2824 (s.tick el).divergentPlane = 5 ∧ t.rd 0x2826 0 = 3 ∧ t.rd 0x2827 0 = (s.tick el).divergentPlane ∧ Faulted t 161) ∧
  (∀ (s : State) (el : Nat), Quiet s → s.activationDiffers 0 = false → s.activationDiffers 1 = false →
    exec (.activationCheck el) s = .next (s.tick el)) ∧
  (∀ (s : State) (el : Nat) (p : PlaneNo), Quiet s → s.bothBonded = true → s.reseed = none → s.committing = none →
    s.activationDiffers p.val = true → s.activationDiffers (1 - p.val) = false → s.rd 0x281D 0 ≠ 0 → (((s.clk + el) :: Tab.get [] s.judge.judged p.val).filter (fun t => decide (s.clk + el < t + 34560000000000))).length < s.rd 0x281E 0 →
    ∃ t, exec (.activationCheck el) s = .next t ∧ t.rd 0x281F p.val = 4 ∧ t.rd 0x2824 p.val = 4 ∧ t.rd 0x2826 0 = 1 ∧
      Faulted t 82 ∧ Faulted t 160) ∧
  (∀ (s : State) (el : Nat), Quiet s → s.bothBonded = true → s.reseed = none → s.committing = none →
    s.activationDiffers 0 = true → s.activationDiffers 1 = true → s.rd 0x281D 0 ≠ 0 → (((s.clk + el) :: Tab.get [] s.judge.judged 1).filter (fun t => decide (s.clk + el < t + 34560000000000))).length < s.rd 0x281E 0 →
    ∃ t, exec (.activationCheck el) s = .next t ∧ t.rd 0x281F 0 = 2 ∧ t.rd 0x281F 1 = 4 ∧ t.rd 0x2824 1 = 4 ∧
      t.judge.withheld = some 4 ∧ Faulted t 82 ∧ Faulted t 160) ∧
  (∀ (s : State) (el : Nat) (p : PlaneNo), Quiet s → s.bothBonded = false ∨ s.reseed.isSome = true →
    s.activationDiffers p.val = true → s.activationDiffers (1 - p.val) = false →
    exec (.activationCheck el) s = .next (s.ran el ((s.tick el).fault 82 p.val))) ∧
  (∀ (s : State) (el : Nat) (p : PlaneNo), s.reseed.all (fun r => r.plane != p.val) = true ∨ s.rd 0x2826 0 ≠ 3 ∨
      s.isOn (1 - p.val) = false ∨ (s.dom p.val ≠ 2 ∧ s.dom p.val ≠ 4) →
    exec (.reseedComplete el p) s = .next (s.tick el)) ∧
  (∀ (s : State) (el : Nat) (p : PlaneNo) (r : Reseed), s.reseed = some r → r.plane = p.val → s.rd 0x2826 0 = 3 →
    s.isOn (1 - p.val) = true → s.dom p.val = 2 ∨ s.dom p.val = 4 →
    ∃ t, exec (.reseedComplete el p) s = .next t ∧ t.rd 0x281F p.val = 1 ∧ t.rd 0x2826 0 = 4 ∧ t.dom p.val = 2 ∧
      t.rd 0x282A 0 = (s.tickRC el + 8000) % 2 ^ 72 ∧ Tab.get 0 t.joins p.val = s.tickRC el + 8000 ∧
      (t.pl p.val).store = (s.pl (1 - p.val)).store ∧ t.pl (1 - p.val) = s.pl (1 - p.val)) ∧
  (∀ (s : State) (el : Nat) (p : PlaneNo), Quiet s → s.reseed.all (fun r => r.plane != p.val) = true ∨ s.rd 0x2826 0 ≠ 4 ∨
      s.tickRC el < Tab.get 0 s.joins p.val →
    exec (.planeJoin el p) s = .next (s.tick el)) ∧
  (∀ (s : State) (el : Nat) (p : PlaneNo) (r : Reseed), Quiet s → s.reseed = some r → r.plane = p.val →
    s.rd 0x2826 0 = 4 → Tab.get 0 s.joins p.val ≤ s.tickRC el → p.val = 0 ∨ s.judge.withheld = none →
    ∃ t, exec (.planeJoin el p) s = .next t ∧ t.rd 0x281F p.val = 2 ∧ t.rd 0x2828 p.val = (s.rd 0x2828 p.val + 1) % 2 ^ 32 ∧
      t.rd 0x2829 p.val = ((s.clk + el - r.since) / 400000) % 2 ^ 32 ∧ t.rd 0x2826 0 = 0 ∧ t.rd 0x2827 0 = 0xFF ∧ t.reseed = none) ∧
  (∀ (s : State) (el k : Nat) (p : PlaneNo) (r : Reseed) (x : Session) (a : Request), s.owed = [] → s.sessions = [(k, x)] →
    x.isOpen = true → x.requests = [a] → a.accepted = true → a.started = true → a.op = 0x30 → s.reseed = some r → r.plane = p.val →
    r.who = some ⟨k, x.gen, a.tag⟩ → s.rd 0x2826 0 = 4 → Tab.get 0 s.joins p.val ≤ s.tickRC el → p.val = 0 ∨ s.judge.withheld = none →
    ∃ t, exec (.planeJoin el p) s = .next t ∧
      t.out = s.out ++ [⟨k / 4, 0xE0, k % 4, a.tag, 0x30, stOk, a.pid, a.inst, toBytes 4 ((s.clk + el - r.since) / 400000)⟩]) ∧
  (∀ (s : State) (el c : Nat) (r : Reseed), Quiet s → s.reseed = some r → r.plane = 1 → s.rd 0x2826 0 = 4 →
    Tab.get 0 s.joins 1 ≤ s.tickRC el → s.judge.withheld = some c → s.bonded 0 = true → s.isOn 1 = true → s.committing = none →
    s.rd 0x281D 0 ≠ 0 → (((s.clk + el) :: Tab.get [] s.judge.judged 0).filter (fun t => decide (s.clk + el < t + 34560000000000))).length < s.rd 0x281E 0 →
    ∃ t, exec (.planeJoin el 1) s = .next t ∧ t.rd 0x281F 1 = 2 ∧ t.rd 0x281F 0 = 4 ∧ t.rd 0x2824 0 = c ∧
      t.judge.withheld = none ∧ Faulted t 160) ∧
  (∀ (s : State) (el : Nat) (p : PlaneNo) (r : Reseed), Quiet s → s.reseed = some r → r.plane = p.val →
    s.stageAtLeast 2 = true → r.since + 30 * 400000000 ≤ s.clk + el →
    ∃ t, exec (.reseedTimeout el p) s = .next t ∧ t.rd 0x281F p.val = 4 ∧ t.rd 0x2826 0 = 0 ∧ t.rd 0x2827 0 = 0xFF ∧
      t.reseed = none ∧ t.dom p.val = 4 ∧ Faulted t 164) ∧
  (∀ (s : State) (el : Nat) (p : PlaneNo), Quiet s → s.reseed.all (fun r => r.plane != p.val ||
      decide (s.clk + el < r.since + 30 * 400000000)) = true ∨ s.stageAtLeast 2 = false →
    exec (.reseedTimeout el p) s = .next (s.tick el)) ∧
  (∀ (s : State) (el : Nat) (q : Req) (p : PlaneNo) (cy : Bool), Ready s q roleSite → s.stageAtLeast 2 = true → s.reseed = none →
    Tab.find? s.domOps p.val = none → s.bonded (1 - p.val) = true →
    q.data = toBytes 1 p.val ++ toBytes 1 cy.toNat ++ [0, 0] →
    ∃ t, exec (.planeReseed el q) s = .next t ∧ t.rd 0x281F p.val = 4 ∧ t.rd 0x2824 p.val = 6 ∧
      t.rd 0x2826 0 = (if s.dom p.val = 0 then 2 else if cy = true then 1 else 3) ∧
      t.dom p.val = (if s.dom p.val = 0 then 1 else 4) ∧ t.rd 0x2827 0 = p.val ∧
      t.reseed.map (fun r => (r.plane, r.cause, r.cycle, r.since, r.who)) = some (p.val, 6, cy, s.clk + el, some (Req.who q s)) ∧
      t.out = s.out ++ [answer q 0x30 stAccepted 0 0 []]) ∧
  (∀ (s : State) (el : Nat) (q : Req) (p : PlaneNo) (cy : Bool), Ready s q roleSite → s.stageAtLeast 2 = true → s.reseed = none →
    s.bonded (1 - p.val) = false → q.data = toBytes 1 p.val ++ toBytes 1 cy.toNat ++ [0, 0] →
    ∃ t, exec (.planeReseed el q) s = .next t ∧ t.reseed = none ∧ Answers s t q 0x30 stInterlock 0 0 [] []) ∧
  (∀ (s : State) (el : Nat) (q : Req) (p : PlaneNo) (cy : Bool), Ready s q roleSite → FullService s →
    s.stageAtLeast 2 = false ∨ s.reseed.isSome = true → q.data = toBytes 1 p.val ++ toBytes 1 cy.toNat ++ [0, 0] →
    ∃ t, exec (.planeReseed el q) s = .next t ∧ t.reseed = s.reseed ∧ Answers s t q 0x30 stBusy 0 0 [] [])

/-- The mortar-line token and the heartbeats: granted, refused, tied, released, lost, and the controllers that reboot. A controller that
may request a free token is granted it, and at a start becomes active at once; one that asks while the other holds it is refused and
counted, and a starting one that sees its peer becomes standby; in a tie C0 is granted it; one that may not request, or holds it,
gets nothing. In a role swap the holder releases it, and not otherwise. A holder silent for 5 ms loses it, one that beats does not:
a running standby is granted it with fault bit 168, and with none no controller holds it. A watchdog expiry, an uncorrectable DRAM
error (fault bit 172) and an isolation of 2 ms reboot a controller that has started, each counted; an isolated controller that sees
its peer becomes standby. After 60 s with neither token nor heartbeat both lose power, the fault record holds bit 173 alone, and no
controller is active. Without its condition none of these changes anything. (R345, R346, R347, R348, R349, R361, PID 0302h, PID
0314h, PID 0315h, PID 0316h, PID 0317h, PID 031Ah.) -/
def Obligations.ControllersHoldTheToken : Prop :=
  (∀ (s : State) (el : Nat) (c : CtlNo) (tie : Bool), (s.tick el).mayRequest c.val = false →
    exec (.tokenRequest el c tie) s = .next (s.tick el)) ∧
  (∀ (s : State) (el : Nat) (c : CtlNo) (tie : Bool), s.holder = some c.val → exec (.tokenRequest el c tie) s = .next (s.tick el)) ∧
  (∀ (s : State) (el : Nat) (c : CtlNo) (tie : Bool), (s.tick el).mayRequest c.val = true → s.holder = none → s.power.applied = true →
    tie = false ∨ (s.tick el).mayRequest (1 - c.val) = false →
    ∃ t, exec (.tokenRequest el c tie) s = .next t ∧ t.rd 0x0302 0 = c.val + 1 ∧ t.silence = none ∧
      (s.hostTab = [] → SameBut [(0x0302, 0)] s t)) ∧
  (∀ (s : State) (el : Nat) (c : CtlNo) (tie : Bool), (s.tick el).mayRequest c.val = true → s.holder = none → s.power.applied = false →
    s.stageAtLeast 0 = false → tie = false ∨ (s.tick el).mayRequest (1 - c.val) = false →
    ∃ t, exec (.tokenRequest el c tie) s = .next t ∧ t.rd 0x0302 0 = c.val + 1 ∧ t.rd 0x0301 c.val = 5 ∧ t.rd 0x0300 0 = c.val) ∧
  (∀ (s : State) (el h : Nat) (c : CtlNo) (tie : Bool), (s.tick el).mayRequest c.val = true → s.holder = some h → h ≠ c.val →
    s.ctlState c.val ≠ 2 ∨ (s.tick el).heartAbsent (1 - c.val) = true →
    ∃ t, exec (.tokenRequest el c tie) s = .next t ∧ t.rd 0x0314 0 = (s.rd 0x0314 0 + 1) % 2 ^ 32 ∧
      (t.ctl c.val).asking = (s.ctl c.val).asking.or (some (s.clk + el)) ∧ SameBut [(0x0314, 0)] s t) ∧
  (∀ (s : State) (el h : Nat) (c : CtlNo) (tie : Bool), (s.tick el).mayRequest c.val = true → s.holder = some h → h ≠ c.val →
    s.ctlState c.val = 2 → (s.tick el).heartAbsent (1 - c.val) = false →
    ∃ t, exec (.tokenRequest el c tie) s = .next t ∧ t.rd 0x0314 0 = (s.rd 0x0314 0 + 1) % 2 ^ 32 ∧ t.rd 0x0301 c.val = 3 ∧
      SameBut [(0x0314, 0), (0x0301, c.val)] s t) ∧
  (∀ (s : State) (el : Nat) (c : CtlNo), (s.tick el).mayRequest 0 = true → (s.tick el).mayRequest 1 = true → s.holder = none →
    s.power.applied = true →
    ∃ t, exec (.tokenRequest el c true) s = .next t ∧ t.rd 0x0302 0 = 1 ∧ t.rd 0x0315 0 = (s.rd 0x0315 0 + 1) % 2 ^ 32 ∧
      t.rd 0x0314 0 = (s.rd 0x0314 0 + 1) % 2 ^ 32) ∧
  (∀ (s : State) (el : Nat) (c : CtlNo) (x : Swap), s.holder = some c.val → s.swap = some x →
    ∃ t, exec (.tokenRelease el c) s = .next t ∧ t.holder = none ∧ t.swap = s.swap) ∧
  (∀ (s : State) (el : Nat) (c : CtlNo), s.holder ≠ some c.val ∨ s.swap = none → exec (.tokenRelease el c) s = .next (s.tick el)) ∧
  (∀ (s : State) (el : Nat) (c : CtlNo), s.holder ≠ some c.val ∨ (s.tick el).heartAbsent c.val = false →
    exec (.heartbeatLoss el c) s = .next (s.tick el)) ∧
  (∀ (s : State) (el : Nat) (c : CtlNo), s.holder = some c.val → (s.tick el).heartAbsent c.val = true → s.power.applied = true →
    (s.ctl (1 - c.val)).beats = true → s.ctlState (1 - c.val) = 3 ∨ s.ctlState (1 - c.val) = 4 →
    ∃ t, exec (.heartbeatLoss el c) s = .next t ∧ t.holder = some (1 - c.val) ∧ t.silence = none ∧ Faulted t 168) ∧
  (∀ (s : State) (el : Nat) (c : CtlNo), s.holder = some c.val → (s.tick el).heartAbsent c.val = true →
    (s.ctl (1 - c.val)).beats = false ∨ (s.ctlState (1 - c.val) ≠ 3 ∧ s.ctlState (1 - c.val) ≠ 4) →
    ∃ t, exec (.heartbeatLoss el c) s = .next t ∧ t.holder = none ∧ t.silence = some (s.clk + el)) ∧
  (∀ (s : State) (el : Nat) (c : CtlNo), s.started c.val = true → s.committing = none ∨ s.holder = some c.val →
    ∃ t, exec (.watchdogExpiry el c) s = .next t ∧ t.rd 0x0301 c.val = 1 ∧ t.rd 0x0317 c.val = (s.rd 0x0317 c.val + 1) % 2 ^ 32 ∧
      (t.ctl c.val).beats = false ∧ t.holder = s.holder ∧ t.faults = s.faults) ∧
  (∀ (s : State) (el : Nat) (c : CtlNo), s.started c.val = false → exec (.watchdogExpiry el c) s = .next (s.tick el)) ∧
  (∀ (s : State) (el : Nat) (c : CtlNo), s.started c.val = true → s.committing = none ∨ s.holder = some c.val →
    ∃ t, exec (.dramUncorrectable el c) s = .next t ∧ t.rd 0x0301 c.val = 1 ∧
      t.rd 0x031A c.val = (s.rd 0x031A c.val + 1) % 2 ^ 32 ∧ (t.ctl c.val).beats = false ∧ Faulted t 172) ∧
  (∀ (s : State) (el : Nat) (c : CtlNo), s.started c.val = false → exec (.dramUncorrectable el c) s = .next (s.tick el)) ∧
  (∀ (s : State) (el at0 : Nat) (c : CtlNo), (s.ctl c.val).asking = some at0 → s.started c.val = true → at0 + 800000 ≤ s.clk + el →
    s.holder = some (1 - c.val) → (s.tick el).heartAbsent (1 - c.val) = true → s.committing = none →
    ∃ t, exec (.controllerIsolation el c) s = .next t ∧ t.rd 0x0301 c.val = 1 ∧
      t.rd 0x0316 c.val = (s.rd 0x0316 c.val + 1) % 2 ^ 32 ∧ (t.ctl c.val).lone = true ∧ t.holder = s.holder) ∧
  (∀ (s : State) (el : Nat) (c : CtlNo), (s.ctl c.val).asking.all (fun x => decide (s.clk + el < x + 800000)) = true ∨
      s.started c.val = false ∨ s.holder ≠ some (1 - c.val) ∨ (s.tick el).heartAbsent (1 - c.val) = false →
    exec (.controllerIsolation el c) s = .next (s.tick el)) ∧
  (∀ (s : State) (el : Nat) (c : CtlNo), s.ctlState c.val = 6 → (s.ctl c.val).lone = true → (s.ctl (1 - c.val)).beats = true →
    ∃ t, exec (.peerHeartbeatSeen el c) s = .next t ∧ t.rd 0x0301 c.val = 3 ∧ (t.ctl c.val).beats = true ∧
      (t.ctl c.val).lone = false ∧ SameBut [(0x0301, c.val)] s t) ∧
  (∀ (s : State) (el : Nat) (c : CtlNo), s.ctlState c.val ≠ 6 ∨ (s.ctl c.val).lone = false ∨ (s.ctl (1 - c.val)).beats = false →
    exec (.peerHeartbeatSeen el c) s = .next (s.tick el)) ∧
  (∀ (s : State) (el at0 : Nat), s.silence = some at0 → s.holder = none → (s.ctl 0).beats = false → (s.ctl 1).beats = false →
    (s.ctl 0).lastPulse + 24002000000 ≤ s.clk + el → (s.ctl 1).lastPulse + 24002000000 ≤ s.clk + el →
    at0 + 24000000000 ≤ s.clk + el →
    ∃ t, exec (.controllerPairCycle el) s = .next t ∧ t.rd 0x0301 0 = 0 ∧ t.rd 0x0301 1 = 0 ∧ t.rd 0x0300 0 = 0xFF ∧
      t.rd 0x0105 0 = 3 ∧ t.dom 10 = 1 ∧ t.dom 11 = 1 ∧ t.silence = none ∧ t.faults.length = 1 ∧ Faulted t 173) ∧
  (∀ (s : State) (el : Nat), s.silence.all (fun x => decide (s.clk + el < x + 24000000000)) = true ∨ s.holder.isSome = true ∨
      (s.ctl 0).beats = true ∨ (s.ctl 1).beats = true ∨ s.clk + el < (s.ctl 0).lastPulse + 24002000000 ∨
      s.clk + el < (s.ctl 1).lastPulse + 24002000000 →
    exec (.controllerPairCycle el) s = .next (s.tick el))

/-- Switchovers, the mirror and role swaps: who is active, what goes on, what is refused. The controller that was granted the token
becomes active; where the other was, the switchover and its cause are counted; as a ready standby it takes the sessions over, and an
outstanding request is answered FAILOVER; as one that was not ready it closes them, and is counted (PID 031Fh). The work of a flush,
a bulk load or a snapshot ends. Whether a COMMIT under way had been acknowledged is an operand (notes/assumptions/33.md). A mirror
timeout makes the standby synchronise again, with fault bit 170; the end of its resynchronisation makes it ready. A role swap on
request is accepted, or answers INTERLOCK; a scheduled one begins when due, tries again when barred, and after 60 attempts is
skipped with fault bit 171. Without its condition none of these changes anything. (R349, R350, R351, R352, R456, PID 0300h, PID
0301h, PID 0305h, PID 0306h, PID 030Dh, PID 0310h, PID 0311h.) -/
def Obligations.ControlPassesToTheStandby : Prop :=
  (∀ (s : State) (el : Nat) (a : Bool), Quiet s → s.holder.all (fun c => decide (s.ctlState c < 2 ∨ 4 < s.ctlState c)) = true →
    exec (.switchover ⟨el, a⟩) s = .next (s.tick el)) ∧
  (∀ (s : State) (el : Nat) (a : Bool) (c : CtlNo), s.owed = [] → s.sessions = [] → s.holder = some c.val → s.ctlState c.val = 4 →
    s.rd 0x0300 0 = 1 - c.val → s.swap = none → s.committing = none → s.fw.step = 0 → s.fw.stager = none →
    ∃ t, exec (.switchover ⟨el, a⟩) s = .next t ∧ t.rd 0x0300 0 = c.val ∧ t.rd 0x0301 c.val = 5 ∧
      t.rd 0x0305 0 = (s.rd 0x0305 0 + 1) % 2 ^ 32 ∧ t.rd 0x0306 0 = 1 ∧ t.holder = some c.val ∧ t.flushes = [] ∧ t.bulks = [] ∧
      t.snaps = [] ∧ t.faults = s.faults ∧ (s.flushes = [] → t.pa = s.pa ∧ t.pb = s.pb)) ∧
  (∀ (s : State) (el : Nat) (a : Bool) (c : CtlNo), s.owed = [] → s.sessions = [] → s.holder = some c.val → s.ctlState c.val = 4 →
    s.rd 0x0300 0 = c.val ∨ s.rd 0x0300 0 = 0xFF → s.swap = none → s.committing = none → s.fw.step = 0 → s.fw.stager = none →
    ∃ t, exec (.switchover ⟨el, a⟩) s = .next t ∧ t.rd 0x0300 0 = c.val ∧ t.rd 0x0301 c.val = 5 ∧
      t.rd 0x0305 0 = s.rd 0x0305 0 ∧ t.rd 0x0306 0 = s.rd 0x0306 0) ∧
  (∀ (s : State) (el : Nat) (a : Bool) (c : CtlNo) (j : Fin 4) (x : Session) (r : Request), s.owed = [] →
    s.sessions = [(4 * (1 - c.val) + j.val, x)] → x.isOpen = true → x.requests = [r] → r.accepted = false → x.subs = [] →
    s.holder = some c.val → s.ctlState c.val = 4 →
    s.rd 0x0300 0 = 1 - c.val → s.swap = none → s.committing = none → s.fw.step = 0 → s.fw.stager = none →
    ∃ t, exec (.switchover ⟨el, a⟩) s = .next t ∧ t.rd 0x0300 0 = c.val ∧ t.rd 0x0301 c.val = 5 ∧
      t.out = s.out ++ [⟨1 - c.val, 0xA0, j.val, r.tag, r.op, stFailover, r.pid, r.inst, []⟩] ∧
      (t.session (4 * c.val + j.val)).isOpen = true ∧ (t.session (4 * c.val + j.val)).role = x.role ∧
      (t.session (4 * c.val + j.val)).requests = [] ∧ (t.session (4 * (1 - c.val) + j.val)).isOpen = false) ∧
  (∀ (s : State) (el : Nat) (a : Bool) (c : CtlNo), s.owed = [] → s.sessions = [] → s.holder = some c.val →
    s.ctlState c.val = 2 ∨ s.ctlState c.val = 3 →
    s.rd 0x0300 0 = 1 - c.val → s.swap = none → s.committing = none → s.fw.step = 0 → s.fw.stager = none →
    ∃ t, exec (.switchover ⟨el, a⟩) s = .next t ∧ t.rd 0x0300 0 = c.val ∧ t.rd 0x0301 c.val = 5 ∧
      t.rd 0x0305 0 = (s.rd 0x0305 0 + 1) % 2 ^ 32 ∧ t.rd 0x031F 0 = (s.rd 0x031F 0 + 1) % 2 ^ 32 ∧ t.holder = some c.val) ∧
  (∀ (s : State) (el : Nat), Quiet s → s.standbyReady = true → s.committing = none →
    ∃ t, exec (.mirrorTimeout el) s = .next t ∧ t.rd 0x0301 (1 - s.active) = 3 ∧ t.rd 0x0310 0 = (s.rd 0x0310 0 + 1) % 2 ^ 32 ∧
      Faulted t 170 ∧ SameBut [(0x0301, 1 - s.active), (0x0310, 0), (0x3E03, 0), (0x3E04, 0)] s t) ∧
  (∀ (s : State) (el : Nat), Quiet s → s.standbyReady = false → exec (.mirrorTimeout el) s = .next (s.tick el)) ∧
  (∀ (s : State) (el : Nat), Quiet s → s.holder.isSome = true → s.ctlState (1 - s.active) = 3 →
    ∃ t, exec (.resynchronisationComplete el) s = .next t ∧ t.rd 0x0301 (1 - s.active) = 4 ∧
      t.rd 0x0311 0 = (s.rd 0x0311 0 + 1) % 2 ^ 32 ∧ t.rd 0x0312 0 = ((s.clk + el - s.resync) / 400000) % 2 ^ 32 ∧
      SameBut [(0x0301, 1 - s.active), (0x0311, 0), (0x0312, 0)] s t) ∧
  (∀ (s : State) (el : Nat), Quiet s → s.holder = none ∨ s.ctlState (1 - s.active) ≠ 3 → exec (.resynchronisationComplete el) s = .next (s.tick el)) ∧
  (∀ (s : State) (el : Nat) (q : Req), Ready s q roleSite → FullService s → q.data = [] → s.swapBarred = false →
    ∃ t, exec (.roleSwap el q) s = .next t ∧ t.swap = some ⟨3, s.clk + el, some (Req.who q s)⟩ ∧
      Answers s t q 0x31 stAccepted 0 0 [] []) ∧
  (∀ (s : State) (el : Nat) (q : Req), Ready s q roleSite → FullService s → q.data = [] → s.swapBarred = true →
    ∃ t, exec (.roleSwap el q) s = .next t ∧ t.swap = none ∧ Answers s t q 0x31 stInterlock 0 0 [] []) ∧
  (∀ (s : State) (el : Nat), s.holder = none ∨ s.stageAtLeast 2 = false ∨ (s.tick el).swapDue = false → exec (.scheduledRoleSwap el) s = .next (s.tick el)) ∧
  (∀ (s : State) (el : Nat), s.holder.isSome = true → s.stageAtLeast 2 = true → (s.tick el).swapDue = true → s.swapBarred = false →
    ∃ t, exec (.scheduledRoleSwap el) s = .next t ∧ t.swap = some ⟨2, s.clk + el, none⟩ ∧ t.swapTries = 0 ∧ t.regs = s.regs) ∧
  (∀ (s : State) (el : Nat), s.holder.isSome = true → s.stageAtLeast 2 = true → (s.tick el).swapDue = true → s.swapBarred = true →
    s.swapTries ≠ 60 →
    ∃ t, exec (.scheduledRoleSwap el) s = .next t ∧ t.swap = s.swap ∧ t.swapTries = s.swapTries + 1 ∧ t.swapAt = s.clk + el ∧
      t.regs = s.regs) ∧
  (∀ (s : State) (el : Nat), s.holder.isSome = true → s.stageAtLeast 2 = true → (s.tick el).swapDue = true → s.swapBarred = true →
    s.swapTries = 60 →
    ∃ t, exec (.scheduledRoleSwap el) s = .next t ∧ t.swap = s.swap ∧ t.swapTries = 0 ∧
      t.rd 0x030D 0 = (s.rd 0x030D 0 + 1) % 2 ^ 32 ∧ Faulted t 171)

/-- The timebase: triples switch at their RC, copies and units are checked, domain K is lost, time is set by hand, leap seconds act. A
pending triple whose switch RC has come is in force, counted (PID 3006h), with the one that waited behind it pending; the timed
outputs resume 1 µs after it, and a step sets the day of the scheduled swap anew; before that RC nothing changes. With domain K on,
a copy that counts the same reads aligned and one that differs is realigned, counted, with fault bit 177; on its fallback oscillator
it keeps its difference. A unit that the copies outvote is failed with fault bit 176, and with no majority unit 1 is, with fault bit
189. The loss of domain K leaves RC to the copies, the domains that are on to their fallback oscillators: the servo is in free-run
with no source, no unit counts, and fault bit 178 is set. A new triple's switch is the switch lead ahead; it takes the place of a
pending one that is 10 µs or more ahead, and waits behind a nearer one. In free-run a manual step or rate makes such a triple;
otherwise it answers INTERLOCK, and a rate beyond its range RANGE. A leap second, inserted or deleted, acts at the end of its day,
and not before. (R368, R369, R370, R371, R372, R379, R381, R382, PID 3006h, PID 300Ch, PID 300Eh, PID 3015h.) -/
def Obligations.TimeKeepsItsTriples : Prop :=
  (∀ (s : State) (el : Nat), s.time.next = none → exec (.tripleSwitch el) s = .next (s.tick el)) ∧
  (∀ (s : State) (el r : Nat) (x : Triple), s.time.next = some (x, r) → s.tickRC el < r →
    exec (.tripleSwitch el) s = .next (s.tick el)) ∧
  (∀ (s : State) (el r : Nat) (x : Triple), s.time.next = some (x, r) → r ≤ s.tickRC el →
    ∃ t, exec (.tripleSwitch el) s = .next t ∧ t.time.triple = x ∧ t.time.next = s.time.queued ∧ t.time.queued = none ∧
      t.rc = s.tickRC el ∧ t.tio.notBefore = t.dt + nsUnits 1000 ∧
      (t.dt < (s.tick el).dt ∨ (s.tick el).dt + nsUnits 1000 < t.dt → t.swapDay = t.utcDay) ∧ t.rd 0x3006 0 = (s.rd 0x3006 0 + 1) % 2 ^ 32 ∧ t.rd 0x3007 0 = encDT (x.dtOf (s.tickRC el)) % 2 ^ 112 ∧
      SameBut [(0x3006, 0), (0x3007, 0)] s t) ∧
  (∀ (s : State) (el : Nat) (k : Fin 10), s.isOn 12 = true → s.rd 0x020F (if k.val < 8 then 2 + k.val else k.val - 8) = 0 →
    Tab.get 0 s.time.copies k.val = 0 →
    exec (.localCopyCheck el k 0) s = .next (s.ran el
      (({ s.tick el with time := { s.time with copies := Tab.del s.time.copies k.val } } : State).wr 0x300E k.val 0))) ∧
  (∀ (s : State) (el : Nat) (k : Fin 10) (d : BitVec 16), s.isOn 12 = true →
    s.rd 0x020F (if k.val < 8 then 2 + k.val else k.val - 8) = 0 → Tab.get 0 s.time.copies k.val + d.toInt ≠ 0 →
    ∃ t, exec (.localCopyCheck el k d) s = .next t ∧ Tab.get 0 t.time.copies k.val = 0 ∧ t.rd 0x300E k.val = 1 ∧
      t.rd 0x300F k.val = (s.rd 0x300F k.val + 1) % 2 ^ 32 ∧ Faulted t 177 ∧
      SameBut [(0x300E, k.val), (0x300F, k.val), (0x3E03, 0), (0x3E04, 0)] s t) ∧
  (∀ (s : State) (el : Nat) (k : Fin 10) (d : BitVec 16), s.isOn 12 = false ∨
    s.rd 0x020F (if k.val < 8 then 2 + k.val else k.val - 8) ≠ 0 →
    ∃ t, exec (.localCopyCheck el k d) s = .next t ∧ Tab.get 0 t.time.copies k.val = Tab.get 0 s.time.copies k.val + d.toInt ∧
      t.rd 0x300E k.val = 2 ∧ SameBut [(0x300E, k.val)] s t) ∧
  (∀ (s : State) (el : Nat) (v : Fin 3), s.rd 0x300C 0 = 1 → s.rd 0x300C 1 = 1 → v.val < 2 →
    ∃ t, exec (.timebaseMismatch el v) s = .next t ∧ t.rd 0x300C v.val = 2 ∧ t.rd 0x300C (1 - v.val) = 1 ∧
      t.rd 0x300D 0 = (s.rd 0x300D 0 + 1) % 2 ^ 32 ∧ Faulted t 176) ∧
  (∀ (s : State) (el : Nat), s.rd 0x300C 0 = 1 → s.rd 0x300C 1 = 1 →
    ∃ t, exec (.timebaseMismatch el 2) s = .next t ∧ t.rd 0x300C 0 = 1 ∧ t.rd 0x300C 1 = 2 ∧
      t.rd 0x300D 0 = (s.rd 0x300D 0 + 1) % 2 ^ 32 ∧ Faulted t 189) ∧
  (∀ (s : State) (el : Nat) (v : Fin 3), s.rd 0x300C 0 ≠ 1 ∨ s.rd 0x300C 1 ≠ 1 →
    exec (.timebaseMismatch el v) s = .next (s.tick el)) ∧
  (∀ (s : State) (el : Nat), s.isOn 12 = true →
    ∃ t, exec (.domainKLoss el) s = .next t ∧ t.dom 12 = 0 ∧ t.rd 0x3400 0 = 0 ∧ t.rd 0x3401 0 = 0 ∧ t.rd 0x300C 0 = 0 ∧
      t.rd 0x300C 1 = 0 ∧ (∀ k : Fin 10, t.rd 0x300E k.val = 2) ∧ t.time.triple = s.time.triple ∧ t.time.next = none ∧
      t.time.running = s.time.running ∧ t.servo.good = [] ∧ t.servo.offsets = [] ∧
      (∀ d : Fin 12, s.isOn d.val = true → s.rd 0x020F d.val = 0 → t.rd 0x020F d.val = 1 ∧ t.rd 0x020E d.val = 3) ∧
      Faulted t 178) ∧
  (∀ (s : State) (el : Nat), s.isOn 12 = false → exec (.domainKLoss el) s = .next (s.tick el)) ∧
  (∀ (s : State) (step rho : Int), s.time.next = none → (s.putTriple step rho).time = { s.time with
    next := some (⟨s.rc + s.rd 0x3008 0 * 400, s.time.triple.dtOf (s.rc + s.rd 0x3008 0 * 400) + step, rho⟩,
      s.rc + s.rd 0x3008 0 * 400) }) ∧
  (∀ (s : State) (step rho : Int) (x : Triple) (r : Nat), s.time.next = some (x, r) → s.rc + 4000 ≤ r →
    (s.putTriple step rho).time = { s.time with
      next := some (⟨s.rc + s.rd 0x3008 0 * 400, s.time.triple.dtOf (s.rc + s.rd 0x3008 0 * 400) + step, rho⟩,
        s.rc + s.rd 0x3008 0 * 400) }) ∧
  (∀ (s : State) (step rho : Int) (x : Triple) (r : Nat), s.time.next = some (x, r) → r < s.rc + 4000 →
    (s.putTriple step rho).time = { s.time with
      queued := some (⟨s.rc + s.rd 0x3008 0 * 400, x.dtOf (s.rc + s.rd 0x3008 0 * 400) + step, rho⟩,
        s.rc + s.rd 0x3008 0 * 400) }) ∧
  (∀ (s : State) (el : Nat) (q : Req), Ready s q roleSite → FullService s → q.inst = 0 → q.data.length = 8 → s.rd 0x3400 0 = 0 →
    ∃ t, exec (.manualStep el q) s = .next t ∧
      t.time = ((s.tick el).putTriple (nsUnits (signed 64 (beNat q.data))) s.time.triple.rho).time ∧ t.rd 0x3015 0 = beNat q.data ∧
      t.rd 0x3016 0 = (s.tick el).dtNow % 2 ^ 112 ∧
      Answers s t q 0x02 stOk 0x3010 0 [] [(0x3015, 0), (0x3016, 0)]) ∧
  (∀ (s : State) (el : Nat) (q : Req), Ready s q roleSite → FullService s → q.inst = 0 → q.data.length = 8 → s.rd 0x3400 0 ≠ 0 →
    ∃ t, exec (.manualStep el q) s = .next t ∧ t.time = s.time ∧ Answers s t q 0x02 stInterlock 0x3010 0 [] []) ∧
  (∀ (s : State) (el : Nat) (q : Req), Ready s q roleSite → FullService s → q.inst = 0 → q.data.length = 8 → s.rd 0x3400 0 = 0 →
    -(2 : Int) ^ 47 ≤ signed 64 (beNat q.data) → signed 64 (beNat q.data) ≤ (2 : Int) ^ 47 →
    ∃ t, exec (.manualRate el q) s = .next t ∧ t.time = ((s.tick el).putTriple 0 (signed 64 (beNat q.data))).time ∧
      Answers s t q 0x02 stOk 0x3011 0 [] []) ∧
  (∀ (s : State) (el : Nat) (q : Req), Ready s q roleSite → FullService s → q.inst = 0 → q.data.length = 8 → s.rd 0x3400 0 ≠ 0 →
    -(2 : Int) ^ 47 ≤ signed 64 (beNat q.data) → signed 64 (beNat q.data) ≤ (2 : Int) ^ 47 →
    ∃ t, exec (.manualRate el q) s = .next t ∧ t.time = s.time ∧ Answers s t q 0x02 stInterlock 0x3011 0 [] []) ∧
  (∀ (s : State) (el : Nat) (q : Req), Ready s q roleSite → FullService s → q.inst = 0 → q.data.length = 8 →
    (2 : Int) ^ 47 < signed 64 (beNat q.data) ∨ signed 64 (beNat q.data) < -(2 : Int) ^ 47 →
    ∃ t, exec (.manualRate el q) s = .next t ∧ t.time = s.time ∧ Answers s t q 0x02 stRange 0x3011 0 [] []) ∧
  (∀ (s : State) (el : Nat), s.rd 0x300B 0 = 1 → (s.servo.leapDay + 1) * 86400 + 1 ≤ (s.tick el).utcSeconds →
    ∃ t, exec (.leapSecond el) s = .next t ∧ t.rd 0x3009 0 = unsignedOf 16 (signed 16 (s.rd 0x3009 0) + 1) ∧ t.rd 0x300B 0 = 0 ∧
      t.dt = (s.tick el).dt ∧ SameBut [(0x3009, 0), (0x300B, 0)] s t) ∧
  (∀ (s : State) (el : Nat), s.rd 0x300B 0 = 2 → (s.servo.leapDay + 1) * 86400 - 1 ≤ (s.tick el).utcSeconds →
    ∃ t, exec (.leapSecond el) s = .next t ∧ t.rd 0x3009 0 = unsignedOf 16 (signed 16 (s.rd 0x3009 0) - 1) ∧ t.rd 0x300B 0 = 0 ∧
      t.dt = (s.tick el).dt ∧ SameBut [(0x3009, 0), (0x300B, 0)] s t) ∧
  (∀ (s : State) (el : Nat), s.rd 0x300B 0 = 1 → (s.tick el).utcSeconds < (s.servo.leapDay + 1) * 86400 + 1 →
    exec (.leapSecond el) s = .next (s.tick el)) ∧
  (∀ (s : State) (el : Nat), s.rd 0x300B 0 = 2 → (s.tick el).utcSeconds < (s.servo.leapDay + 1) * 86400 - 1 →
    exec (.leapSecond el) s = .next (s.tick el)) ∧
  (∀ (s : State) (el : Nat), s.rd 0x300B 0 ≠ 1 → s.rd 0x300B 0 ≠ 2 → exec (.leapSecond el) s = .next (s.tick el))

/-- The servo: sources qualify and are lost, offsets are used, lock and holdover are entered, the model is learned and kept. A source
that meets its conditions and is not barred qualifies while the servo runs: in free-run it is followed, acquiring; a source of
higher priority is taken at once while acquiring, and under lock by entering holdover, counted, with fault bit 183. A source
qualified that no longer meets them is disqualified, by its own conditions for each of GNSS, PTP and the PPS input; where it was
followed under lock the servo enters holdover, and where it was followed while acquiring with none left, free-run. An offset that is
not of the source followed is dropped. The first offset used is a step that makes DT valid; one past the step threshold is a step
with fault bit 187 where steps are allowed outside lock; any other gives a new rate, in holdover none, and begins or ends the dwell
of the lock threshold; the third in succession past the loss threshold bars the source for the requalification time. The servo is
locked after the dwell, from acquiring and from holdover, and not before. In holdover each second gives a new triple and an error,
whose values the spec leaves open, and the time in holdover; an error past the limit sets fault bit 184, and with the action at the
limit leads to free-run where no source qualifies. The model is ready after its hours of lock, stored with the last DT every hour,
and discarded on request. (R376, R377, R378, R379, R380, R400, R401, PID 3400h, PID 3401h, PID 3404h, PID 3405h.) -/
def Obligations.TheServoFollowsItsSources : Prop :=
  (∀ (s : State) (el : Nat) (c : Fin 3), Tab.find? s.servo.offsets (c.val + 1) = none →
    exec (.sourceUpdate el c) s = .next (s.tick el)) ∧
  (∀ (s : State) (el : Nat) (c : Fin 3) (o : Int), Tab.find? s.servo.offsets (c.val + 1) = some o →
    s.servoRuns = false ∨ s.rd 0x3401 0 ≠ c.val + 1 ∨ s.rd 0x3400 0 = 0 →
    exec (.sourceUpdate el c) s = .next (s.ran el ((s.tick el).updServo (fun q => { q with
      offsets := Tab.del q.offsets (c.val + 1) })))) ∧
  (∀ (s : State) (el : Nat) (c : Fin 3) (o : Int), Tab.find? s.servo.offsets (c.val + 1) = some o → s.servoRuns = true →
    s.rd 0x3400 0 ≠ 0 → s.rd 0x3401 0 = c.val + 1 → s.rd 0x3002 0 = 0 →
    ∃ t, exec (.sourceUpdate el c) s = .next t ∧ t.rd 0x3002 0 = 1 ∧ t.rd 0x3014 0 = (s.rd 0x3014 0 + 1) % 2 ^ 32 ∧
      t.rd 0x3015 0 = unsignedOf 64 (floorDiv (-o) 65536) ∧ t.rd 0x3016 0 = (s.tick el).dtNow % 2 ^ 112 ∧ t.drawn = s.drawn + 1 ∧
      t.time = ((s.tick el).putTriple (-o) (Config.servoRho s.drawn).toInt).time ∧
      SameBut [(0x3002, 0), (0x3014, 0), (0x3015, 0), (0x3016, 0)] s t) ∧
  (∀ (s : State) (el : Nat) (c : Fin 3) (o : Int), Tab.find? s.servo.offsets (c.val + 1) = some o → s.servoRuns = true →
    s.rd 0x3400 0 = 1 ∨ s.rd 0x3400 0 = 3 → s.rd 0x3401 0 = c.val + 1 → s.rd 0x3002 0 = 1 → exceeds o (s.rd 0x3012 0) = true →
    s.rd 0x3013 0 = 1 →
    ∃ t, exec (.sourceUpdate el c) s = .next t ∧ t.rd 0x3014 0 = (s.rd 0x3014 0 + 1) % 2 ^ 32 ∧
      t.rd 0x3015 0 = unsignedOf 64 (floorDiv (-o) 65536) ∧
      t.time = ((s.tick el).putTriple (-o) (Config.servoRho s.drawn).toInt).time ∧ Faulted t 187 ∧
      SameBut [(0x3014, 0), (0x3015, 0), (0x3016, 0), (0x3E03, 0), (0x3E04, 0)] s t) ∧
  (∀ (s : State) (el : Nat) (c : Fin 3) (o : Int), Tab.find? s.servo.offsets (c.val + 1) = some o → s.servoRuns = true →
    s.rd 0x3400 0 = 1 ∨ s.rd 0x3400 0 = 2 → s.rd 0x3401 0 = c.val + 1 → s.rd 0x3002 0 = 1 →
    exceeds o (s.rd 0x3012 0) = false ∨ s.rd 0x3013 0 = 0 ∨ s.rd 0x3400 0 = 2 →
    exceeds o (s.rd 0x3412 0) = false ∨ s.servo.excess < 2 →
    ∃ t, exec (.sourceUpdate el c) s = .next t ∧
      t.servo = { s.servo with
        offsets := Tab.del s.servo.offsets (c.val + 1),
        under := if exceeds o (s.rd 0x3410 0) then none else s.servo.under.or (some (s.clk + el)),
        excess := if exceeds o (s.rd 0x3412 0) then s.servo.excess + 1 else 0 } ∧
      t.drawn = s.drawn + 1 ∧ t.time = ((s.tick el).putTriple 0 (Config.servoRho s.drawn).toInt).time ∧ t.regs = s.regs) ∧
  (∀ (s : State) (el : Nat) (c : Fin 3) (o : Int), Tab.find? s.servo.offsets (c.val + 1) = some o → s.servoRuns = true →
    s.rd 0x3400 0 = 3 → s.rd 0x3401 0 = c.val + 1 → s.rd 0x3002 0 = 1 →
    exceeds o (s.rd 0x3012 0) = false ∨ s.rd 0x3013 0 = 0 →
    ∃ t, exec (.sourceUpdate el c) s = .next t ∧
      t.servo = { s.servo with
        offsets := Tab.del s.servo.offsets (c.val + 1),
        under := if exceeds o (s.rd 0x3410 0) then none else s.servo.under.or (some (s.clk + el)),
        excess := if exceeds o (s.rd 0x3412 0) then s.servo.excess + 1 else 0 } ∧
      t.time = s.time ∧ t.regs = s.regs) ∧
  (∀ (s : State) (el : Nat) (c : Fin 3) (o : Int), Tab.find? s.servo.offsets (c.val + 1) = some o → s.servoRuns = true →
    s.rd 0x3400 0 = 1 ∨ s.rd 0x3400 0 = 2 → s.rd 0x3401 0 = c.val + 1 → s.rd 0x3002 0 = 1 →
    exceeds o (s.rd 0x3012 0) = false ∨ s.rd 0x3013 0 = 0 ∨ s.rd 0x3400 0 = 2 →
    exceeds o (s.rd 0x3412 0) = true → 2 ≤ s.servo.excess →
    ∃ t, exec (.sourceUpdate el c) s = .next t ∧ t.servo.good = s.servo.good.filter (fun x => x != c.val + 1) ∧
      Tab.get 0 t.servo.bar (c.val + 1) = s.clk + el + s.rd 0x3312 0 * 400000000 ∧
      t.time = ((s.tick el).putTriple 0 (Config.servoRho s.drawn).toInt).time) ∧
  (∀ (s : State) (el : Nat) (c : Fin 3), s.servoRuns = true → s.servo.good.contains (c.val + 1) = false →
    (s.tick el).sourceMeets (c.val + 1) = true → Tab.get 0 s.servo.bar (c.val + 1) ≤ s.clk + el →
    exec (.sourceQualified el c) s = .next (s.ran el (State.reselect
      (let u := (s.tick el).updServo (fun q => { q with good := (c.val + 1) :: q.good, bar := Tab.del q.bar (c.val + 1) });
       if c.val = 0 then ({ u with gnss := { u.gnss with out := false } } : State).wr 0x330E 0 2 else u)))) ∧
  (∀ (s : State) (el : Nat) (c : Fin 3), s.servoRuns = false ∨ s.servo.good.contains (c.val + 1) = true ∨
    (s.tick el).sourceMeets (c.val + 1) = false ∨ s.clk + el < Tab.get 0 s.servo.bar (c.val + 1) →
    exec (.sourceQualified el c) s = .next (s.tick el)) ∧
  (∀ (s : State), s.sourceMeets 1 = true →
    s.flag 0x3300 0 = true ∧ s.rd 0x3306 0 = 3 ∧ s.rd 0x330C 0 ≤ s.rd 0x3307 0 ∧ (s.rd 0x3309 0 = 0 ∨ s.rd 0x3309 0 = 2) ∧
    (s.rd 0x3302 0 = 1 ∨ s.gnss.placed = true) ∧ s.rd 0x3314 0 ≠ 2 ∧ ∃ t, s.gnss.since = some t ∧ t + 30 * 400000000 ≤ s.clk) ∧
  (∀ (s : State), s.sourceMeets 2 = true → ∃ i : PortNo, s.rd 0x3110 i.val = 9 ∧ s.rd 0x3115 0 ≤ s.rd 0x311C 0) ∧
  (∀ (s : State), s.sourceMeets 3 = true ↔ s.rd 0x3516 0 = 3) ∧
  (∀ (s : State) (c : Fin 3), s.rd 0x3400 0 = 0 → s.bestSource = c.val + 1 →
    s.reselect.rd 0x3400 0 = 1 ∧ s.reselect.rd 0x3401 0 = c.val + 1) ∧
  (∀ (s : State) (c : Fin 3), s.rd 0x3400 0 = 1 → s.bestSource = c.val + 1 →
    s.reselect.rd 0x3400 0 = 1 ∧ s.reselect.rd 0x3401 0 = c.val + 1) ∧
  (∀ (s : State), s.rd 0x3400 0 = 1 → s.bestSource = 0 → s.reselect.rd 0x3400 0 = 0 ∧ s.reselect.rd 0x3401 0 = 0) ∧
  (∀ (s : State) (c : Fin 4), s.rd 0x3400 0 = 2 → s.bestSource = c.val → c.val ≠ s.rd 0x3401 0 →
    s.reselect.rd 0x3400 0 = 3 ∧ s.reselect.rd 0x3401 0 = c.val ∧ s.reselect.rd 0x3407 0 = 0 ∧
    s.reselect.rd 0x3414 0 = (s.rd 0x3414 0 + 1) % 2 ^ 32 ∧ s.reselect.servo.before = s.rd 0x3401 0 ∧
    s.reselect.servo.since = s.clk ∧ Faulted s.reselect 183) ∧
  (∀ (s : State), s.rd 0x3400 0 = 2 → s.bestSource = s.rd 0x3401 0 → s.reselect = s) ∧
  (∀ (s : State) (c : Fin 4), s.rd 0x3400 0 = 3 → s.bestSource = c.val →
    s.reselect.rd 0x3400 0 = 3 ∧ s.reselect.rd 0x3401 0 = c.val) ∧
  (∀ (s : State) (el : Nat), s.servo.good.contains 1 = true → s.gnssReceives = false ∨ s.gnss.since = none ∨ s.rd 0x3314 0 = 2 ∨
    s.gnss.ppsAt + 800000000 ≤ s.clk + el →
    exec (.sourceDisqualified el 0) s = .next (s.ran el ((s.tick el).disqualify 1 false))) ∧
  (∀ (s : State) (el : Nat), s.servo.good.contains 1 = false ∨ (s.gnssReceives = true ∧ s.gnss.since.isSome = true ∧
    s.rd 0x3314 0 ≠ 2 ∧ s.clk + el < s.gnss.ppsAt + 800000000) →
    exec (.sourceDisqualified el 0) s = .next (s.tick el)) ∧
  (∀ (s : State) (el : Nat) (i : PortNo), s.servo.good.contains 2 = true → s.slavePort = some i.val →
    (s.tick el).ptpMeets (s.rd 0x310F i.val) = false →
    exec (.sourceDisqualified el 1) s = .next (s.ran el ((s.tick el).disqualify 2 false))) ∧
  (∀ (s : State) (el : Nat), s.servo.good.contains 2 = true → s.slavePort = none →
    exec (.sourceDisqualified el 1) s = .next (s.ran el ((s.tick el).disqualify 2 false))) ∧
  (∀ (s : State) (el : Nat), s.servo.good.contains 2 = false →
    exec (.sourceDisqualified el 1) s = .next (s.tick el)) ∧
  (∀ (s : State) (el : Nat) (i : PortNo), s.slavePort = some i.val → (s.tick el).ptpMeets (s.rd 0x310F i.val) = true →
    exec (.sourceDisqualified el 1) s = .next (s.tick el)) ∧
  (∀ (s : State) (el : Nat), s.rd 0x3515 0 = 1 → s.tio.todAt + 800000000 ≤ s.clk + el ∨ s.tio.edgeAt + 800000000 ≤ s.clk + el →
    exec (.sourceDisqualified el 2) s = .next (s.ran el
      ((({ s.tick el with tio := { s.tio with run := 0, named := none } } : State).wr 0x3516 0
        (if s.tio.todAt + 800000000 ≤ s.clk + el then 1 else 2)).disqualify 3 false))) ∧
  (∀ (s : State) (el : Nat), s.rd 0x3515 0 = 0 ∨ (s.clk + el < s.tio.todAt + 800000000 ∧ s.clk + el < s.tio.edgeAt + 800000000) →
    s.servo.good.contains 3 = true → s.rd 0x3516 0 ≠ 3 →
    exec (.sourceDisqualified el 2) s = .next (s.ran el ((s.tick el).disqualify 3 false))) ∧
  (∀ (s : State) (el : Nat), s.rd 0x3515 0 = 0 ∨ (s.clk + el < s.tio.todAt + 800000000 ∧ s.clk + el < s.tio.edgeAt + 800000000) →
    s.servo.good.contains 3 = false ∨ s.rd 0x3516 0 = 3 →
    exec (.sourceDisqualified el 2) s = .next (s.tick el)) ∧
  (∀ (s : State) (c : Fin 3) (barred : Bool), (s.disqualify (c.val + 1) barred).servo.good =
    s.servo.good.filter (fun x => x != c.val + 1)) ∧
  (∀ (s : State) (c : Fin 3) (barred : Bool), s.rd 0x3401 0 ≠ c.val + 1 →
    (s.disqualify (c.val + 1) barred).rd 0x3400 0 = s.rd 0x3400 0 ∧ (s.disqualify (c.val + 1) barred).rd 0x3401 0 = s.rd 0x3401 0) ∧
  (∀ (s : State) (c : Fin 3) (barred : Bool), s.rd 0x3401 0 = c.val + 1 → s.rd 0x3400 0 = 2 →
    (s.disqualify (c.val + 1) barred).rd 0x3400 0 = 3 ∧ Faulted (s.disqualify (c.val + 1) barred) 183) ∧
  (∀ (s : State) (c : Fin 3) (barred : Bool), s.rd 0x3401 0 = c.val + 1 → s.rd 0x3400 0 = 1 → s.servo.good = [c.val + 1] →
    (s.disqualify (c.val + 1) barred).rd 0x3400 0 = 0 ∧ (s.disqualify (c.val + 1) barred).rd 0x3401 0 = 0) ∧
  (∀ (s : State) (el at0 : Nat), s.servo.under = some at0 → s.rd 0x3400 0 = 1 ∨ s.rd 0x3400 0 = 3 → s.servo.good.contains (s.rd 0x3401 0) = true →
    at0 + s.rd 0x3411 0 * 400000000 ≤ s.clk + el → s.servoRuns = true →
    ∃ t, exec (.servoLock el) s = .next t ∧ t.rd 0x3400 0 = 2 ∧ t.servo.locked = some (s.clk + el) ∧
      t.rd 0x3417 0 = (s.tick el).dtNow % 2 ^ 112 ∧
      SameBut (if s.rd 0x3400 0 = 3 then [(0x3400, 0), (0x3417, 0), (0x3415, 0)] else [(0x3400, 0), (0x3417, 0)]) s t) ∧
  (∀ (s : State) (el at0 : Nat), s.servo.under = some at0 → (s.rd 0x3400 0 ≠ 1 ∧ s.rd 0x3400 0 ≠ 3) ∨
    s.servo.good.contains (s.rd 0x3401 0) = false ∨ s.clk + el < at0 + s.rd 0x3411 0 * 400000000 ∨ s.servoRuns = false →
    exec (.servoLock el) s = .next (s.tick el)) ∧
  (∀ (s : State) (el : Nat), s.servo.under = none → exec (.servoLock el) s = .next (s.tick el)) ∧
  (∀ (s : State) (el : Nat), s.rd 0x3400 0 ≠ 3 → exec (.holdoverUpdate el) s = .next (s.tick el)) ∧
  (∀ (s : State) (el : Nat), s.rd 0x3400 0 = 3 → s.servo.heldAt + 400000000 ≤ s.clk + el →
    ∃ t, exec (.holdoverUpdate el) s = .next t ∧ t.rd 0x3405 0 = Config.freeValue (s.drawn + 1) % 2 ^ 32 ∧
      t.rd 0x3407 0 = ((s.clk + el - s.servo.since) / 400000000) % 2 ^ 32 ∧ t.servo.heldAt = s.clk + el ∧ t.drawn = s.drawn + 2 ∧
      t.time = ((s.tick el).putTriple 0 (Config.servoRho s.drawn).toInt).time ∧
      (s.rd 0x3406 0 < t.rd 0x3405 0 → s.servo.beyond = false → Faulted t 184) ∧
      (s.rd 0x3406 0 < t.rd 0x3405 0 → s.rd 0x3408 0 = 1 → s.servo.good = [] → t.rd 0x3400 0 = 0 ∧ t.rd 0x3401 0 = 0) ∧
      (t.rd 0x3405 0 ≤ s.rd 0x3406 0 ∨ s.rd 0x3408 0 ≠ 1 → t.rd 0x3400 0 = 3)) ∧
  (∀ (s : State) (el : Nat), s.clk + el < s.servo.heldAt + 400000000 → exec (.holdoverUpdate el) s = .next (s.tick el)) ∧
  (∀ (s : State) (el : Nat), s.rd 0x3404 0 = 0 → 259200 * 400000000 ≤ (s.tick el).lockTicks →
    exec (.modelReady el) s = .next (s.ran el ((s.tick el).wr 0x3404 0 1))) ∧
  (∀ (s : State) (el : Nat), s.rd 0x3404 0 = 2 → 21600 * 400000000 ≤ (s.tick el).lockTicks →
    exec (.modelReady el) s = .next (s.ran el ((s.tick el).wr 0x3404 0 1))) ∧
  (∀ (s : State) (el : Nat), (s.tick el).lockTicks < 21600 * 400000000 → exec (.modelReady el) s = .next (s.tick el)) ∧
  (∀ (s : State) (el : Nat), s.rd 0x3404 0 ≠ 2 → (s.tick el).lockTicks < 259200 * 400000000 →
    exec (.modelReady el) s = .next (s.tick el)) ∧
  (∀ (s : State) (el : Nat), s.rd 0x3404 0 = 1 → exec (.modelReady el) s = .next (s.tick el)) ∧
  (∀ (s : State) (el : Nat), s.holder.isSome = true → s.servo.storedAt + 3600 * 400000000 ≤ s.clk + el →
    ∃ t, exec (.modelStore el) s = .next t ∧ t.rd 0x340D 0 = (s.tick el).dtNow % 2 ^ 112 ∧ t.servo.storedAt = s.clk + el ∧
      (∀ c : CtlNo, s.mirrored c.val = true → (t.flashOf c.val).model = (s.tick el).modelSeconds ∧
        (s.rd 0x3002 0 = 1 → (t.flashOf c.val).lastDT = (s.tick el).dtNow)) ∧ SameBut [(0x340D, 0)] s t) ∧
  (∀ (s : State) (el : Nat), s.holder = none ∨ s.clk + el < s.servo.storedAt + 3600 * 400000000 → exec (.modelStore el) s = .next (s.tick el)) ∧
  (∀ (s : State) (el : Nat) (q : Req), Ready s q roleSite → FullService s → q.inst = 0 → q.data = [1] →
    ∃ t, exec (.modelReset el q) s = .next t ∧ t.rd 0x3404 0 = 0 ∧ t.servo.lockTicks = 0 ∧
      (∀ c : CtlNo, s.mirrored c.val = true → (t.flashOf c.val).model = 0) ∧
      Answers s t q 0x02 stOk 0x340E 0 [] [(0x3404, 0)])

/-- PTP: Sync, Follow_Up, Delay, Announce and Signaling messages, discards, intervals, timeouts and departure records. PTP on a port
accepts a message of its domain, version 2 and VID 0, steered to it, while PTP runs there; any other changes nothing. A Sync is
counted with its ingress timestamp; from the parent, a one-step one gives t2 − t1, and with the mean path delay the offset, and a
two-step one waits for its Follow_Up, which gives the same. A Delay_Req is counted, and a master port answers it with its arrival
time, to a unicast requester only under a grant; a Delay_Resp from the parent to the request under way gives the mean path delay,
any other none. An Announce of the module itself, of an alternate master or of 255 steps is only counted; another's goes into the
BMCA. The parts of a Signaling message for the port are taken in turn and answered together. A PTP message steered to the port that
is of another domain, version or VID, or is Pdelay or Management, is discarded and counted, and no other. A master port sends a Sync
and an Announce to each addressee whose interval has passed; a slave port sends a Delay_Req whose departure is awaited. A listening,
passive or slave port that has heard no master for the receipt timeout counts it, drops the masters not heard for that time and
decides anew. A departure record is used by the active controller, for the Follow_Up of its two-step Sync or as t3 of its Delay_Req,
or waits with at most 63 others, and is otherwise counted with fault bit 185. (R375, R383, R384, R385, R386, R388, R408, PID 3110h,
PID 3112h, PID 3121h, PID 3125h, PID 3126h.) -/
def Obligations.PtpMessagesAreTakenAndSent : Prop :=
  (∀ (s : State) (ty n o : Nat) (i : PortNo) (bs : List Byte), s.ptpAccepts i.val ty n bs = some o →
    s.ptpRuns i.val = true ∧ getBE bs o 1 % 16 = ty ∧ o + n ≤ bs.length ∧ getBE bs (o + 1) 1 % 16 = 2 ∧
    getBE bs (o + 1) 1 / 16 ≤ 1 ∧ getBE bs (o + 4) 1 = s.rd 0x3102 0 ∧
    ∃ tg, ptpAt (s.tpids (i.val / 18)) bs = some (o, tg) ∧ s.ptpSteers i.val bs tg = true ∧ ∀ x ∈ tg.tags, x.2 % 4096 = 0) ∧
  (∀ (s : State) (el : Nat) (i : PortNo) (bs : List Byte) (rc : BitVec 72) (fr : BitVec 8), s.ptpAccepts i.val 0 44 bs = none →
    exec (.syncReceived el i bs rc fr) s = .next (s.tick el)) ∧
  (∀ (s : State) (el : Nat) (i : PortNo) (bs : List Byte) (rc : BitVec 72) (fr : BitVec 8), s.ptpAccepts i.val 1 44 bs = none →
    exec (.delayReqReceived el i bs rc fr) s = .next (s.tick el)) ∧
  (∀ (s : State) (el : Nat) (i : PortNo) (bs : List Byte), s.ptpAccepts i.val 9 54 bs = none →
    exec (.delayRespReceived el i bs) s = .next (s.tick el)) ∧
  (∀ (s : State) (el : Nat) (i : PortNo) (bs : List Byte), s.ptpAccepts i.val 11 64 bs = none →
    exec (.announceReceived el i bs) s = .next (s.tick el)) ∧
  (∀ (s : State) (el : Nat) (i : PortNo) (bs : List Byte), s.ptpAccepts i.val 12 44 bs = none →
    exec (.signalingReceived el i bs) s = .next (s.tick el)) ∧
  (∀ (s : State) (el o : Nat) (i : PortNo) (bs : List Byte) (rc : BitVec 72) (fr : BitVec 8), s.ptpAccepts i.val 0 44 bs = some o →
    s.fromParent i.val o bs = false →
    exec (.syncReceived el i bs rc fr) s = .next (s.ran el
      (((s.tick el).inc 0x3121 i.val).wr 0x312B i.val (rc.toNat * 256 + fr.toNat)))) ∧
  (∀ (s : State) (el o : Nat) (i : PortNo) (bs : List Byte) (rc : BitVec 72) (fr : BitVec 8), s.ptpAccepts i.val 0 44 bs = some o →
    s.fromParent i.val o bs = true → (getBE bs (o + 6) 1).testBit 1 = true →
    ∃ t, exec (.syncReceived el i bs rc fr) s = .next t ∧
      (t.ptpPort i.val).sync = some (getBE bs (o + 30) 2, s.time.triple.dtOf rc.toNat + 640 * fr.toNat, correctionOf bs o) ∧
      (t.ptpPort i.val).syncAt = some (s.clk + el) ∧ t.rd 0x3121 i.val = (s.rd 0x3121 i.val + 1) % 2 ^ 64 ∧
      t.rd 0x312B i.val = rc.toNat * 256 + fr.toNat ∧ SameBut [(0x3121, i.val), (0x312B, i.val)] s t) ∧
  (∀ (s : State) (el o : Nat) (d : Int) (i : PortNo) (bs : List Byte) (rc : BitVec 72) (fr : BitVec 8),
    s.ptpAccepts i.val 0 44 bs = some o →
    s.fromParent i.val o bs = true → (getBE bs (o + 6) 1).testBit 1 = false → (s.ptpPort i.val).delay = some d →
    ∃ t, exec (.syncReceived el i bs rc fr) s = .next t ∧
      Tab.find? t.servo.offsets 2 = some (s.time.triple.dtOf rc.toNat + 640 * fr.toNat - stampUnits (getBE bs (o + 34) 10) -
        correctionOf bs o - d - floorDiv (signed 32 (s.rd 0x3019 i.val) * 65536) 1000) ∧
      (t.ptpPort i.val).syncAt = some (s.clk + el) ∧ t.rd 0x3121 i.val = (s.rd 0x3121 i.val + 1) % 2 ^ 64 ∧
      t.rd 0x312B i.val = rc.toNat * 256 + fr.toNat ∧
      SameBut [(0x3121, i.val), (0x312B, i.val), (0x3119, 0)] s t) ∧
  (∀ (s : State) (el o : Nat) (i : PortNo) (bs : List Byte) (rc : BitVec 72) (fr : BitVec 8),
    s.ptpAccepts i.val 0 44 bs = some o →
    s.fromParent i.val o bs = true → (getBE bs (o + 6) 1).testBit 1 = false → (s.ptpPort i.val).delay = none →
    ∃ t, exec (.syncReceived el i bs rc fr) s = .next t ∧ t.servo = s.servo ∧
      (t.ptpPort i.val).forth = some (s.time.triple.dtOf rc.toNat + 640 * fr.toNat - stampUnits (getBE bs (o + 34) 10) -
        correctionOf bs o) ∧ (t.ptpPort i.val).syncAt = some (s.clk + el) ∧
      t.rd 0x3121 i.val = (s.rd 0x3121 i.val + 1) % 2 ^ 64 ∧ t.rd 0x312B i.val = rc.toNat * 256 + fr.toNat ∧
      SameBut [(0x3121, i.val), (0x312B, i.val)] s t) ∧
  (∀ (s : State) (el : Nat) (i : PortNo) (bs : List Byte), s.ptpAccepts i.val 8 44 bs = none ∨ (s.ptpPort i.val).sync = none →
    exec (.followUpReceived el i bs) s = .next (s.tick el)) ∧
  (∀ (s : State) (el o n : Nat) (t2 c : Int) (i : PortNo) (bs : List Byte), s.ptpAccepts i.val 8 44 bs = some o →
    (s.ptpPort i.val).sync = some (n, t2, c) → s.fromParent i.val o bs = true → n = getBE bs (o + 30) 2 →
    (s.ptpPort i.val).delay = none →
    ∃ t, exec (.followUpReceived el i bs) s = .next t ∧ (t.ptpPort i.val).sync = none ∧
      (t.ptpPort i.val).forth = some (t2 - stampUnits (getBE bs (o + 34) 10) - c - correctionOf bs o) ∧ t.regs = s.regs ∧
      t.servo = s.servo) ∧
  (∀ (s : State) (el o n : Nat) (t2 c d : Int) (i : PortNo) (bs : List Byte), s.ptpAccepts i.val 8 44 bs = some o →
    (s.ptpPort i.val).sync = some (n, t2, c) → s.fromParent i.val o bs = true → n = getBE bs (o + 30) 2 →
    (s.ptpPort i.val).delay = some d →
    ∃ t, exec (.followUpReceived el i bs) s = .next t ∧ (t.ptpPort i.val).sync = none ∧
      Tab.find? t.servo.offsets 2 = some (t2 - stampUnits (getBE bs (o + 34) 10) - c - correctionOf bs o - d -
        floorDiv (signed 32 (s.rd 0x3019 i.val) * 65536) 1000) ∧
      SameBut [(0x3119, 0)] s t) ∧
  (∀ (s : State) (el o n : Nat) (t2 c : Int) (i : PortNo) (bs : List Byte), s.ptpAccepts i.val 8 44 bs = some o →
    (s.ptpPort i.val).sync = some (n, t2, c) → s.fromParent i.val o bs = false ∨ n ≠ getBE bs (o + 30) 2 →
    exec (.followUpReceived el i bs) s = .next (s.tick el)) ∧
  (∀ (s : State) (el o : Nat) (i : PortNo) (bs : List Byte) (rc : BitVec 72) (fr : BitVec 8), s.ptpAccepts i.val 1 44 bs = some o →
    s.rd 0x3110 i.val ≠ 6 →
    exec (.delayReqReceived el i bs rc fr) s = .next (s.ran el ((s.tick el).inc 0x3122 i.val))) ∧
  (∀ (s : State) (el o : Nat) (i : PortNo) (bs : List Byte) (rc : BitVec 72) (fr : BitVec 8), s.ptpAccepts i.val 1 44 bs = some o →
    s.rd 0x3110 i.val = 6 → s.rd 0x3101 0 = 0 →
    exec (.delayReqReceived el i bs rc fr) s = .next (s.ran el
      (let u := (s.tick el).inc 0x3122 i.val;
       let v := encDT (s.time.triple.dtOf rc.toNat + 640 * fr.toNat);
       u.sendPtp i.val none false false false (u.ptpMessage i.val 9 0 (correctionOf bs o - (v % 65536 : Nat)) (getBE bs (o + 30) 2) 3
         (s.rd 0x310D i.val) (toBytes 10 (v / 65536) ++ toBytes 10 (sourceOf bs o)))))) ∧
  (∀ (s : State) (el o : Nat) (i : PortNo) (bs : List Byte) (rc : BitVec 72) (fr : BitVec 8) (tg : Tags),
    s.ptpAccepts i.val 1 44 bs = some o → (ptpAt (s.tpids (i.val / 18)) bs).map Prod.snd = some tg →
    s.rd 0x3110 i.val = 6 → s.rd 0x3101 0 ≠ 0 →
    (s.ptpPort i.val).grants.any (fun g => g.msg == 9 && g.peer == peerOf bs tg && decide (s.clk + el < g.ends)) = true →
    exec (.delayReqReceived el i bs rc fr) s = .next (s.ran el
      (let u := (s.tick el).inc 0x3122 i.val;
       let v := encDT (s.time.triple.dtOf rc.toNat + 640 * fr.toNat);
       u.sendPtp i.val (some (peerOf bs tg)) false false false (u.ptpMessage i.val 9 0x0400 (correctionOf bs o - (v % 65536 : Nat))
         (getBE bs (o + 30) 2) 3 (s.rd 0x310D i.val) (toBytes 10 (v / 65536) ++ toBytes 10 (sourceOf bs o)))))) ∧
  (∀ (s : State) (el o : Nat) (i : PortNo) (bs : List Byte) (rc : BitVec 72) (fr : BitVec 8) (tg : Tags),
    s.ptpAccepts i.val 1 44 bs = some o → (ptpAt (s.tpids (i.val / 18)) bs).map Prod.snd = some tg →
    s.rd 0x3101 0 ≠ 0 →
    (s.ptpPort i.val).grants.any (fun g => g.msg == 9 && g.peer == peerOf bs tg && decide (s.clk + el < g.ends)) = false →
    exec (.delayReqReceived el i bs rc fr) s = .next (s.ran el ((s.tick el).inc 0x3122 i.val))) ∧
  (∀ (s : State) (el o n : Nat) (t3 f : Int) (i : PortNo) (bs : List Byte), s.ptpAccepts i.val 9 54 bs = some o →
    (s.ptpPort i.val).req = some (n, some t3) → (s.ptpPort i.val).forth = some f → s.fromParent i.val o bs = true →
    n = getBE bs (o + 30) 2 → getBE bs (o + 44) 10 = s.portIdentity i.val →
    ∃ t, exec (.delayRespReceived el i bs) s = .next t ∧ (t.ptpPort i.val).req = none ∧
      (t.ptpPort i.val).delay = some (floorDiv (f + (stampUnits (getBE bs (o + 34) 10) - correctionOf bs o - t3)) 2) ∧
      (t.ptpPort i.val).respAt = some (s.clk + el) ∧ SameBut [(0x3112, i.val)] s t) ∧
  (∀ (s : State) (el o n : Nat) (x : Option Int) (i : PortNo) (bs : List Byte), s.ptpAccepts i.val 9 54 bs = some o →
    (s.ptpPort i.val).req = some (n, x) →
    x = none ∨ (s.ptpPort i.val).forth = none ∨ s.fromParent i.val o bs = false ∨ n ≠ getBE bs (o + 30) 2 ∨
      getBE bs (o + 44) 10 ≠ s.portIdentity i.val →
    exec (.delayRespReceived el i bs) s = .next (s.tick el)) ∧
  (∀ (s : State) (el : Nat) (i : PortNo) (bs : List Byte), (s.ptpPort i.val).req = none →
    exec (.delayRespReceived el i bs) s = .next (s.tick el)) ∧
  (∀ (s : State) (el o : Nat) (i : PortNo) (bs : List Byte), s.ptpAccepts i.val 11 64 bs = some o →
    sourceOf bs o / 65536 = s.clockIdentity ∨ getBE bs (o + 6) 1 % 2 = 1 ∨ 255 ≤ getBE bs (o + 61) 2 →
    exec (.announceReceived el i bs) s = .next (s.ran el ((s.tick el).inc 0x3123 i.val))) ∧
  (∀ (s : State) (el o : Nat) (i : PortNo) (bs : List Byte), s.ptpAccepts i.val 11 64 bs = some o →
    sourceOf bs o / 65536 ≠ s.clockIdentity → getBE bs (o + 6) 1 % 2 = 0 → getBE bs (o + 61) 2 < 255 →
    exec (.announceReceived el i bs) s = .next (s.ran el
      ((((s.tick el).inc 0x3123 i.val).updPtp i.val (fun q => { q with
        foreign := noteForeign q.foreign ⟨getBE bs (o + 48) 1, getBE bs (o + 49) 1, getBE bs (o + 50) 2, getBE bs (o + 52) 1,
          getBE bs (o + 53) 8, getBE bs (o + 61) 2, sourceOf bs o, getBE bs (o + 7) 1, getBE bs (o + 44) 2, s.clk + el, none⟩
          (4 * intervalTicks (s.rd 0x310E i.val)),
        heard := if s.rd 0x3110 i.val = 9 ∧ sourceOf bs o ≠ s.rd 0x3113 0 then q.heard else s.clk + el })).runBmca))) ∧
  (∀ (s : State) (el : Nat) (i : PortNo) (bs : List Byte), s.rd 0x3101 0 ≠ 1 ∨ s.rd 0x311D i.val = 0 → exec (.signalingReceived el i bs) s = .next (s.tick el)) ∧
  (∀ (s : State) (el o : Nat) (i : PortNo) (bs : List Byte), s.ptpAccepts i.val 12 44 bs = some o →
    getBE bs (o + 34) 10 ≠ s.portIdentity i.val → getBE bs (o + 34) 10 ≠ 2 ^ 80 - 1 →
    exec (.signalingReceived el i bs) s = .next (s.tick el)) ∧
  (∀ (s : State) (el o : Nat) (i : PortNo) (bs : List Byte) (tg : Tags), s.ptpAccepts i.val 12 44 bs = some o →
    (ptpAt (s.tpids (i.val / 18)) bs).map Prod.snd = some tg → s.rd 0x3101 0 = 1 → s.rd 0x311D i.val = 1 →
    getBE bs (o + 34) 10 = s.portIdentity i.val ∨ getBE bs (o + 34) 10 = 2 ^ 80 - 1 →
    exec (.signalingReceived el i bs) s = .next (s.ran el
      (let r := (tlvs 32 ((bs.take (o + getBE bs (o + 2) 2)).drop (o + 44))).foldl (fun (x : State × List Byte) y =>
         ((x.1.signalPart i.val (peerOf bs tg) y).1, x.2 ++ (x.1.signalPart i.val (peerOf bs tg) y).2)) (s.tick el, []);
       if r.2 = [] then r.1 else r.1.sendSignaling i.val (peerOf bs tg) (sourceOf bs o) r.2))) ∧
  (∀ (s : State) (i : PortNo) (p : Peer) (x : List Byte), (s.signalPart i.val p (4, x)).1 = s.updPtp i.val (fun q => { q with
    grants := dropGrant q.grants p (getBE x 0 1 / 16) ++
      (if grantable (getBE x 0 1 / 16) (getBE x 1 1) = true ∧ min (getBE x 2 4) (s.rd 0x3120 0) ≠ 0 then
        [⟨p, getBE x 0 1 / 16, getBE x 1 1, s.clk + min (getBE x 2 4) (s.rd 0x3120 0) * 400000000, 0⟩] else []) })) ∧
  (∀ (s : State) (i : PortNo) (p : Peer) (x : List Byte), (s.unicastMasters i.val).contains (p.ty, p.addr) = true →
    s.signalPart i.val p (5, x) = (s.updPtp i.val (fun q => { q with
      masters := dropGrant q.masters p (getBE x 0 1 / 16) ++ (if getBE x 2 4 = 0 then [] else
        [⟨p, getBE x 0 1 / 16, getBE x 1 1, s.clk + getBE x 2 4 * 400000000, 0⟩]) }), [])) ∧
  (∀ (s : State) (i : PortNo) (p : Peer) (x : List Byte), (s.unicastMasters i.val).contains (p.ty, p.addr) = false →
    s.signalPart i.val p (5, x) = (s, [])) ∧
  (∀ (s : State) (i : PortNo) (p : Peer) (x : List Byte), (s.signalPart i.val p (6, x)).1 = s.updPtp i.val (fun q => { q with
    grants := dropGrant q.grants p (getBE x 0 1 / 16), masters := dropGrant q.masters p (getBE x 0 1 / 16) })) ∧
  (∀ (s : State) (el o : Nat) (i : PortNo) (bs x : List Byte) (tg : Tags), s.ptpAccepts i.val 12 44 bs = some o →
    (ptpAt (s.tpids (i.val / 18)) bs).map Prod.snd = some tg → s.rd 0x3101 0 = 1 → s.rd 0x311D i.val = 1 →
    getBE bs (o + 34) 10 = s.portIdentity i.val → tlvs 32 ((bs.take (o + getBE bs (o + 2) 2)).drop (o + 44)) = [(4, x)] →
    exec (.signalingReceived el i bs) s = .next (s.ran el
      (let u := (s.tick el).signalPart i.val (peerOf bs tg) (4, x);
       u.1.sendSignaling i.val (peerOf bs tg) (sourceOf bs o) u.2))) ∧
  (∀ (s : State) (el o : Nat) (i : PortNo) (bs : List Byte) (tg : Tags), ptpAt (s.tpids (i.val / 18)) bs = some (o, tg) →
    s.holder.isSome = true → s.ptpSteers i.val bs tg = true → s.ptpKeeps o tg bs = false ∨
      [2, 3, 10, 13].contains (getBE bs o 1 % 16) = true →
    exec (.ptpMessageDiscard el i bs) s = .next (s.ran el ((s.tick el).inc 0x3125 i.val))) ∧
  (∀ (s : State) (el : Nat) (i : PortNo) (bs : List Byte), ptpAt (s.tpids (i.val / 18)) bs = none ∨ s.holder = none →
    exec (.ptpMessageDiscard el i bs) s = .next (s.tick el)) ∧
  (∀ (s : State) (el o : Nat) (i : PortNo) (bs : List Byte) (tg : Tags), ptpAt (s.tpids (i.val / 18)) bs = some (o, tg) →
    s.ptpSteers i.val bs tg = false ∨ (s.ptpKeeps o tg bs = true ∧ [2, 3, 10, 13].contains (getBE bs o 1 % 16) = false) →
    exec (.ptpMessageDiscard el i bs) s = .next (s.tick el)) ∧
  (∀ (s : State) (el : Nat) (i : PortNo), s.ptpRuns i.val = true → s.rd 0x3110 i.val = 6 → s.rd 0x3101 0 = 0 → s.rd 0x3106 0 = 0 →
    Tab.find? (s.ptpPort i.val).sent 0 = none →
    exec (.syncInterval el i) s = .next (s.ran el
      (let u := ((s.tick el).updPtp i.val (fun q => { q with sent := Tab.set q.sent 0 (s.clk + el) })).updPtp i.val (fun q => { q with
        seqs := Tab.set q.seqs 0 ((Tab.get 0 (s.ptpPort i.val).seqs 0 + 1) % 65536) });
       u.sendPtp i.val none true true false (u.ptpMessage i.val 0 0 0 (Tab.get 0 (s.ptpPort i.val).seqs 0) 0 (s.rd 0x310C i.val)
         (toBytes 10 0))))) ∧
  (∀ (s : State) (el : Nat) (i : PortNo), s.ptpRuns i.val = true → s.rd 0x3110 i.val = 6 →
    exec (.syncInterval el i) s = .next (s.ran el
      (let u := (s.tick el).dueTargets i.val 0 (s.rd 0x310C i.val);
       u.2.foldl (fun (v : State) p =>
         let w := (v.nextSeq i.val 0).1; let n := (v.nextSeq i.val 0).2;
         let w := if u.1.rd 0x3106 0 = 1 then w.updPtp i.val (fun q => { q with under := Tab.set q.under n p }) else w;
         w.sendPtp i.val p true (u.1.rd 0x3106 0 != 1) (u.1.rd 0x3106 0 == 1) (w.ptpMessage i.val 0
           (unicastFlag p + if u.1.rd 0x3106 0 = 1 then 0x0200 else 0) 0 n 0 (w.rd 0x310C i.val) (toBytes 10 0))) u.1))) ∧
  (∀ (s : State) (i : PortNo) (ty : Nat) (v : Fin 256), s.rd 0x3101 0 = 0 →
    (∀ t, Tab.find? (s.ptpPort i.val).sent ty = some t → t + intervalTicks v.val ≤ s.clk) →
    s.dueTargets i.val ty v.val = (s.updPtp i.val (fun q => { q with sent := Tab.set q.sent ty s.clk }), [none])) ∧
  (∀ (s : State) (i : PortNo) (ty t : Nat) (v : Fin 256), s.rd 0x3101 0 = 0 → Tab.find? (s.ptpPort i.val).sent ty = some t →
    s.clk < t + intervalTicks v.val → s.dueTargets i.val ty v.val = (s, [])) ∧
  (∀ (s : State) (i : PortNo) (ty : Nat) (v : Fin 256), s.rd 0x3101 0 ≠ 0 →
    (s.dueTargets i.val ty v.val).2 = ((s.ptpPort i.val).grants.filter (fun g => g.msg == ty && decide (s.clk < g.ends) &&
      decide (g.sentAt + intervalTicks g.interval ≤ s.clk))).map (fun g => some g.peer)) ∧
  (∀ (s : State) (el : Nat) (i : PortNo), s.ptpRuns i.val = false ∨ s.rd 0x3110 i.val ≠ 6 → exec (.syncInterval el i) s = .next (s.tick el)) ∧
  (∀ (s : State) (el : Nat) (i : PortNo), s.ptpRuns i.val = true → s.rd 0x3110 i.val = 9 → s.rd 0x3101 0 = 0 →
    (∀ t, Tab.find? (s.ptpPort i.val).sent 1 = some t → t + intervalTicks (s.rd 0x310D i.val) ≤ s.clk + el) →
    exec (.delayReqInterval el i) s = .next (s.ran el
      (let n := Tab.get 0 (s.ptpPort i.val).seqs 1;
       let u := ((((s.tick el).updPtp i.val (fun q => { q with seqs := Tab.set q.seqs 1 ((n + 1) % 65536) })).inc 0x3122 i.val).updPtp
         i.val (fun q => { q with req := some (n, none), sent := Tab.set q.sent 1 (s.clk + el) }));
       u.sendPtp i.val none true false true (u.ptpMessage i.val 1 0 0 n 1 0x7F (toBytes 10 0))))) ∧
  (∀ (s : State) (el : Nat) (i : PortNo), s.rd 0x3110 i.val ≠ 9 ∨ s.ptpRuns i.val = false → exec (.delayReqInterval el i) s = .next (s.tick el)) ∧
  (∀ (s : State) (el t : Nat) (i : PortNo), Tab.find? (s.ptpPort i.val).sent 1 = some t →
    s.clk + el < t + intervalTicks (s.rd 0x310D i.val) → exec (.delayReqInterval el i) s = .next (s.tick el)) ∧
  (∀ (s : State) (el : Nat) (i : PortNo), s.rd 0x3101 0 ≠ 0 →
    (s.ptpPort i.val).masters.find? (fun g => g.msg == 9 && decide (s.clk + el < g.ends)) = none →
    exec (.delayReqInterval el i) s = .next (s.tick el)) ∧
  (∀ (s : State) (el : Nat) (i : PortNo) (g : Grant), s.ptpRuns i.val = true → s.rd 0x3110 i.val = 9 → s.rd 0x3101 0 ≠ 0 →
    (s.ptpPort i.val).masters.find? (fun g => g.msg == 9 && decide (s.clk + el < g.ends)) = some g →
    (∀ t, Tab.find? (s.ptpPort i.val).sent 1 = some t → t + intervalTicks (s.rd 0x310D i.val) ≤ s.clk + el) →
    exec (.delayReqInterval el i) s = .next (s.ran el
      (let n := Tab.get 0 (s.ptpPort i.val).seqs 1;
       let u := ((((s.tick el).updPtp i.val (fun q => { q with seqs := Tab.set q.seqs 1 ((n + 1) % 65536) })).inc 0x3122 i.val).updPtp
         i.val (fun q => { q with req := some (n, none), sent := Tab.set q.sent 1 (s.clk + el) }));
       u.sendPtp i.val (some g.peer) true false true (u.ptpMessage i.val 1 0x0400 0 n 1 0x7F (toBytes 10 0))))) ∧
  (∀ (s : State) (el : Nat) (i : PortNo), s.ptpRuns i.val = false → exec (.announceInterval el i) s = .next (s.tick el)) ∧
  (∀ (s : State) (el : Nat) (i : PortNo), s.ptpRuns i.val = true → (s.tick el).runBmca.rd 0x3110 i.val ≠ 6 →
    exec (.announceInterval el i) s = .next (s.ran el (s.tick el).runBmca)) ∧
  (∀ (s : State) (el : Nat) (i : PortNo), s.ptpRuns i.val = true → (s.tick el).runBmca.rd 0x3110 i.val = 6 →
    exec (.announceInterval el i) s = .next (s.ran el
      (let b := (s.tick el).runBmca;
       let u := b.dueTargets i.val 11 (b.rd 0x310E i.val);
       u.2.foldl (fun (v : State) p =>
         let w := (v.nextSeq i.val 11).1; let n := (v.nextSeq i.val 11).2;
         w.sendPtp i.val p false false false (w.ptpMessage i.val 11 (unicastFlag p + u.1.announceBody.1) 0 n 5
           (w.rd 0x310E i.val) u.1.announceBody.2)) u.1))) ∧
  (∀ (s : State) (el : Nat) (i : PortNo), s.ptpRuns i.val = true → s.rd 0x3110 i.val = 4 ∨ s.rd 0x3110 i.val = 7 ∨ s.rd 0x3110 i.val = 9 →
    (s.ptpPort i.val).heard + s.rd 0x310F i.val * intervalTicks (s.rd 0x310E i.val) ≤ s.clk + el →
    exec (.announceReceiptTimeout el i) s = .next (s.ran el
      (((((s.tick el).inc 0x3124 i.val).updPtp i.val (fun q => { q with
        foreign := q.foreign.filter (fun f => decide (s.clk + el < f.heard + s.rd 0x310F i.val * intervalTicks (s.rd 0x310E i.val))),
        heard := s.clk + el })).setPtpState i.val (if s.rd 0x3107 0 = 0 then 6 else 4)).runBmca))) ∧
  (∀ (s : State) (el : Nat) (i : PortNo), s.ptpRuns i.val = false ∨ [4, 7, 9].contains (s.rd 0x3110 i.val) = false ∨
    s.clk + el < (s.ptpPort i.val).heard + s.rd 0x310F i.val * intervalTicks (s.rd 0x310E i.val) →
    exec (.announceReceiptTimeout el i) s = .next (s.tick el)) ∧
  (∀ (s : State) (el : Nat) (i : PortNo), s.ptpRuns i.val = false ∨ s.rd 0x3101 0 ≠ 1 ∨ s.rd 0x311D i.val = 0 →
    exec (.unicastGrantRequest el i) s = .next (s.tick el)) ∧
  (∀ (s : State) (el : Nat) (i : PortNo), s.ptpRuns i.val = true → s.rd 0x3101 0 = 1 → s.rd 0x311D i.val = 1 →
    exec (.unicastGrantRequest el i) s = .next (s.ran el ((s.unicastMasters i.val).foldl (fun (u : State) m =>
      u.sendSignaling i.val ⟨(Config.neighbourMac i.val m.2).toNat, m.1, m.2⟩ (2 ^ 80 - 1)
        (requestPart 11 (u.rd 0x310E i.val) (u.rd 0x3120 0) ++ requestPart 0 (u.rd 0x310C i.val) (u.rd 0x3120 0) ++
          requestPart 9 (u.rd 0x310D i.val) (u.rd 0x3120 0))) (s.tick el)))) ∧
  (∀ (s : State) (el ty a : Nat) (i : PortNo), s.ptpRuns i.val = true → s.rd 0x3101 0 = 1 → s.rd 0x311D i.val = 1 →
    s.unicastMasters i.val = [(ty, a)] →
    exec (.unicastGrantRequest el i) s = .next (s.ran el ((s.tick el).sendSignaling i.val ⟨(Config.neighbourMac i.val a).toNat, ty, a⟩
      (2 ^ 80 - 1) (requestPart 11 (s.rd 0x310E i.val) (s.rd 0x3120 0) ++ requestPart 0 (s.rd 0x310C i.val) (s.rd 0x3120 0) ++
        requestPart 9 (s.rd 0x310D i.val) (s.rd 0x3120 0))))) ∧
  (∀ (s : State) (el : Nat) (i : PortNo), Tab.get [] s.leaving i.val = [] → exec (.departureRecord el i) s = .next (s.tick el)) ∧
  (∀ (s : State) (el : Nat) (i : PortNo) (d : Departure) (rest : List Departure), Tab.get [] s.leaving i.val = d :: rest →
    s.holder.isSome = true → s.ctlState s.active = 5 → d.msg ≠ 0 →
    exec (.departureRecord el i) s = .next (s.ran el (({ s.tick el with leaving := if rest = [] then Tab.del s.leaving i.val else Tab.set s.leaving i.val rest } : State).updPtp i.val (fun q => { q with
      req := q.req.map (fun r => if r.1 = d.seqId then (r.1, some (s.time.triple.dtOf d.rc + 640 * d.frac)) else r) })))) ∧
  (∀ (s : State) (el : Nat) (i : PortNo) (d : Departure) (rest : List Departure) (p : Option Peer),
    Tab.get [] s.leaving i.val = d :: rest →
    s.holder.isSome = true → s.ctlState s.active = 5 → d.msg = 0 → Tab.find? (s.ptpPort i.val).under d.seqId = some p →
    exec (.departureRecord el i) s = .next (s.ran el
      (let u := ({ s.tick el with leaving := if rest = [] then Tab.del s.leaving i.val else Tab.set s.leaving i.val rest } : State).updPtp i.val (fun q => { q with under := Tab.del q.under d.seqId });
       let v := encDT (s.time.triple.dtOf d.rc + 640 * d.frac);
       u.sendPtp i.val p false false false (u.ptpMessage i.val 8 (unicastFlag p) (v % 65536 : Nat) d.seqId 2 (s.rd 0x310C i.val)
         (toBytes 10 (v / 65536)))))) ∧
  (∀ (s : State) (el : Nat) (i : PortNo) (d : Departure) (rest : List Departure), Tab.get [] s.leaving i.val = d :: rest →
    s.holder.isSome = true → s.ctlState s.active = 5 → d.msg = 0 → Tab.find? (s.ptpPort i.val).under d.seqId = none →
    exec (.departureRecord el i) s = .next (s.ran el { s.tick el with leaving := if rest = [] then Tab.del s.leaving i.val else Tab.set s.leaving i.val rest })) ∧
  (∀ (s : State) (el : Nat) (i : PortNo) (d : Departure) (rest : List Departure), Tab.get [] s.leaving i.val = d :: rest →
    s.holder = none ∨ s.ctlState s.active ≠ 5 → (Tab.get [] s.departures i.val).length < 64 →
    exec (.departureRecord el i) s = .next (s.ran el { s.tick el with
      leaving := if rest = [] then Tab.del s.leaving i.val else Tab.set s.leaving i.val rest, departures := Tab.upd ([] : List Departure) s.departures i.val (fun l => l ++ [d]) })) ∧
  (∀ (s : State) (el : Nat) (i : PortNo) (d : Departure) (rest : List Departure), Tab.get [] s.leaving i.val = d :: rest →
    s.holder = none ∨ s.ctlState s.active ≠ 5 → 64 ≤ (Tab.get [] s.departures i.val).length →
    exec (.departureRecord el i) s = .next (s.ran el ((({ s.tick el with leaving := if rest = [] then Tab.del s.leaving i.val else Tab.set s.leaving i.val rest } : State).inc 0x3126 i.val).fault 185 i.val)))

/-- SyncE: quality levels received and lost, the DPLL's input, wait to restore, ESMC sent, qualification. An ESMC PDU on a port that is
up gives the port its QL, counted; 5 s without one makes it failed, counted. A candidate is an enabled port that is up, whose QL is
neither DNU nor failed, whose frequency is within the acceptance and which does not wait to restore; in selection mode 1 its QL is
ignored, here as well (the model's reading, notes/assumptions/22.md). A port that is no candidate any more waits to restore. A
forced input is taken while it is a candidate, else the one of best QL, lowest priority value, lowest number. One that is not
selected is acquired, counted, with fault bit 186 where the old one is lost; the one selected is locked; with none the DPLL has no
input, counted, with fault bit 186 where it had one, and follows a servo locked to GNSS; disabled or without domain K it runs free.
A wait to restore ends at its time. ESMC PDUs are sent each second on the enabled ports that are up, with DNU on the selected input,
else the input's QL, PRTC's while following GNSS, and EEC1 or eEEC otherwise. After 1 h of lock to an input of PRC or better, with
its use in holdover allowed, SyncE is qualified. (R390, R391, R392, R393, R394, R395, PID 3204h, PID 3209h, PID 320Ah, PID 3213h,
PID 3214h.) -/
def Obligations.SynceSelectsItsInput : Prop :=
  (∀ (s : State) (el v : Nat) (i : PortNo) (bs : List Byte), esmcQl bs = some v → s.link i.val = 3 → s.holder.isSome = true →
    exec (.esmcReceived el i bs) s = .next (s.ran el ((((s.tick el).inc 0x3207 i.val).wr 0x3204 i.val v).updSynce (fun q => { q with
      heard := Tab.set q.heard i.val (s.clk + el) })))) ∧
  (∀ (s : State) (el : Nat) (i : PortNo) (bs : List Byte), esmcQl bs = none ∨ s.link i.val ≠ 3 ∨ s.holder = none →
    exec (.esmcReceived el i bs) s = .next (s.tick el)) ∧
  (∀ (s : State) (el at0 : Nat) (i : PortNo), Tab.find? s.synce.heard i.val = some at0 → at0 + 2000000000 ≤ s.clk + el →
    exec (.qlTimeout el i) s = .next (s.ran el ((((s.tick el).inc 0x3208 i.val).wr 0x3204 i.val 0xFFFF).updSynce (fun q => { q with
      heard := Tab.del q.heard i.val })))) ∧
  (∀ (s : State) (el at0 : Nat) (i : PortNo), Tab.find? s.synce.heard i.val = some at0 → s.clk + el < at0 + 2000000000 →
    exec (.qlTimeout el i) s = .next (s.tick el)) ∧
  (∀ (s : State) (el : Nat) (i : PortNo), Tab.find? s.synce.heard i.val = none → exec (.qlTimeout el i) s = .next (s.tick el)) ∧
  (∀ (s : State) (i : PortNo), s.isCandidate i.val = true ↔
    (s.flag 0x3202 i.val = true ∧ s.link i.val = 3 ∧
      (s.rd 0x320F 0 = 1 ∨ (s.portQl i.val % 16 ≠ 15 ∧ s.portQl i.val ≠ 0xFFFF)) ∧
      (signed 32 (s.rd 0x3211 i.val)).natAbs ≤ s.rd 0x3212 0 ∧ Tab.find? s.synce.wtr i.val = none)) ∧
  (∀ (s : State) (i : PortNo), s.portQl i.val = if s.rd 0x3205 i.val = 0xFFFF then s.rd 0x3204 i.val else s.rd 0x3205 i.val) ∧
  (∀ (s : State) (l : List Nat), s.rd 0x3210 0 ∈ l → s.chooseInput l = some (s.rd 0x3210 0)) ∧
  (∀ (s : State) (l : List Nat) (p : Nat), s.rd 0x3210 0 ∉ l → s.chooseInput l = some p →
    p ∈ l ∧ ∀ k ∈ l, s.betterInput k p = false) ∧
  (∀ (s : State) (a b : PortNo), s.rd 0x320F 0 ≠ 1 → (s.betterInput a.val b.val = true ↔
    (qlRank (s.portQl a.val) < qlRank (s.portQl b.val) ∨ (qlRank (s.portQl a.val) = qlRank (s.portQl b.val) ∧
      (s.rd 0x3203 a.val < s.rd 0x3203 b.val ∨ (s.rd 0x3203 a.val = s.rd 0x3203 b.val ∧ a.val < b.val)))))) ∧
  (∀ (s : State) (a b : PortNo), s.rd 0x320F 0 = 1 → (s.betterInput a.val b.val = true ↔
    (s.rd 0x3203 a.val < s.rd 0x3203 b.val ∨ (s.rd 0x3203 a.val = s.rd 0x3203 b.val ∧ a.val < b.val)))) ∧
  (∀ (s : State) (l : List Nat), s.chooseInput l = none ↔ l = []) ∧
  (∀ (s : State) (l : List Nat) (i : PortNo), i.val ∈ s.synce.cands → i.val ∉ l → Tab.find? s.synce.wtr i.val = none →
    (s.startWtr l).synce.cands = l ∧ Tab.find? (s.startWtr l).synce.wtr i.val = some (s.clk + s.rd 0x320D 0 * 400000000)) ∧
  (∀ (s : State) (l : List Nat) (i : Nat), i ∉ s.synce.cands ∨ i ∈ l →
    (s.startWtr l).synce.cands = l ∧ Tab.find? (s.startWtr l).synce.wtr i = Tab.find? s.synce.wtr i) ∧
  (∀ (s : State) (el p : Nat) (i : PortNo) (v : BitVec 32), s.rd 0x3200 0 = 1 → s.isOn 12 = true →
    ((s.tick el).wr 0x3211 i.val v.toNat).chooseInput ((List.range 144).filter ((s.tick el).wr 0x3211 i.val v.toNat).isCandidate) = some p →
    p < 144 → p = s.rd 0x3209 0 →
    exec (.dpllSelection el i v) s = .next (s.ran el
      (((((s.tick el).wr 0x3211 i.val v.toNat).startWtr ((List.range 144).filter
        ((s.tick el).wr 0x3211 i.val v.toNat).isCandidate)).wr 0x320A 0 2).countSynceLock))) ∧
  (∀ (s : State) (el p : Nat) (i : PortNo) (v : BitVec 32), s.rd 0x3200 0 = 1 → s.isOn 12 = true →
    ((s.tick el).wr 0x3211 i.val v.toNat).chooseInput ((List.range 144).filter ((s.tick el).wr 0x3211 i.val v.toNat).isCandidate) = some p →
    p < 144 → p ≠ s.rd 0x3209 0 →
    ∃ t, exec (.dpllSelection el i v) s = .next t ∧ t.rd 0x3211 i.val = v.toNat ∧ t.rd 0x3209 0 = p ∧ t.rd 0x320A 0 = 1 ∧
      t.rd 0x3213 0 = (s.rd 0x3213 0 + 1) % 2 ^ 32 ∧ t.rd 0x3215 0 = (s.tick el).dtNow % 2 ^ 112 ∧ t.rd 0x3214 0 = 0 ∧
      t.synce.cands = (List.range 144).filter ((s.tick el).wr 0x3211 i.val v.toNat).isCandidate ∧
      (s.rd 0x3209 0 ≠ 0xFF → s.rd 0x3209 0 ∉ (List.range 144).filter ((s.tick el).wr 0x3211 i.val v.toNat).isCandidate → Faulted t 186) ∧
      SameBut [(0x3211, i.val), (0x3209, 0), (0x320A, 0), (0x3213, 0), (0x3214, 0), (0x3215, 0), (0x3E03, 0), (0x3E04, 0)] s t) ∧
  (∀ (s : State) (el : Nat) (i : PortNo) (v : BitVec 32), s.rd 0x3200 0 = 1 → s.isOn 12 = true →
    (List.range 144).filter ((s.tick el).wr 0x3211 i.val v.toNat).isCandidate = [] →
    ∃ t, exec (.dpllSelection el i v) s = .next t ∧ t.rd 0x3211 i.val = v.toNat ∧ t.rd 0x3209 0 = 0xFF ∧
      t.rd 0x320A 0 = (if s.rd 0x3400 0 = 2 ∧ s.rd 0x3401 0 = 1 then 4 else if s.rd 0x320A 0 = 0 then 0 else 3) ∧
      t.rd 0x3214 0 = 0 ∧ t.synce.cands = [] ∧
      (s.rd 0x3209 0 ≠ 0xFF → t.rd 0x3213 0 = (s.rd 0x3213 0 + 1) % 2 ^ 32 ∧ t.rd 0x3215 0 = (s.tick el).dtNow % 2 ^ 112 ∧
        Faulted t 186) ∧
      (s.rd 0x3209 0 = 0xFF → t.rd 0x3213 0 = s.rd 0x3213 0 ∧ t.faults = s.faults)) ∧
  (∀ (s : State) (el : Nat) (i : PortNo) (v : BitVec 32), s.rd 0x3200 0 = 0 ∨ s.isOn 12 = false →
    ∃ t, exec (.dpllSelection el i v) s = .next t ∧ t.rd 0x3211 i.val = v.toNat ∧ t.rd 0x3209 0 = 0xFF ∧ t.rd 0x320A 0 = 0 ∧
      t.rd 0x3214 0 = 0 ∧ SameBut [(0x3211, i.val), (0x3209, 0), (0x320A, 0), (0x3214, 0)] s t) ∧
  (∀ (s : State) (el : Nat) (i : PortNo) (v : BitVec 32), s.rd 0x3200 0 = 1 → s.isOn 12 = true → s.rd 0x3209 0 = 0xFF →
    (List.range 144).filter ((s.tick el).wr 0x3211 i.val v.toNat).isCandidate = [i.val] →
    ∃ t, exec (.dpllSelection el i v) s = .next t ∧ t.rd 0x3209 0 = i.val ∧ t.rd 0x320A 0 = 1 ∧
      t.rd 0x3213 0 = (s.rd 0x3213 0 + 1) % 2 ^ 32 ∧ t.synce.cands = [i.val] ∧ t.faults = s.faults ∧
      SameBut [(0x3211, i.val), (0x3209, 0), (0x320A, 0), (0x3213, 0), (0x3214, 0), (0x3215, 0)] s t) ∧
  (∀ (s : State) (el : Nat) (i : PortNo) (v : BitVec 32), s.rd 0x3200 0 = 1 → s.isOn 12 = true → s.rd 0x3209 0 = i.val →
    (List.range 144).filter ((s.tick el).wr 0x3211 i.val v.toNat).isCandidate = [i.val] →
    ∃ t, exec (.dpllSelection el i v) s = .next t ∧ t.rd 0x3209 0 = i.val ∧ t.rd 0x320A 0 = 2 ∧ t.rd 0x3213 0 = s.rd 0x3213 0 ∧
      SameBut [(0x3211, i.val), (0x320A, 0), (0x3214, 0)] s t) ∧
  (∀ (s : State) (el : Nat) (i : PortNo) (v : BitVec 32), s.rd 0x3200 0 = 1 → s.isOn 12 = true → s.rd 0x3209 0 = i.val →
    (List.range 144).filter ((s.tick el).wr 0x3211 i.val v.toNat).isCandidate = [] →
    ∃ t, exec (.dpllSelection el i v) s = .next t ∧ t.rd 0x3209 0 = 0xFF ∧ t.rd 0x3213 0 = (s.rd 0x3213 0 + 1) % 2 ^ 32 ∧
      t.rd 0x320A 0 = s.dpllIdle ∧ Faulted t 186) ∧
  (∀ (s : State) (el at0 : Nat) (i : PortNo), Tab.find? s.synce.wtr i.val = some at0 → at0 ≤ s.clk + el →
    exec (.waitToRestoreExpiry el i) s = .next (s.ran el ((s.tick el).updSynce (fun q => { q with wtr := Tab.del q.wtr i.val })))) ∧
  (∀ (s : State) (el at0 : Nat) (i : PortNo), Tab.find? s.synce.wtr i.val = some at0 → s.clk + el < at0 →
    exec (.waitToRestoreExpiry el i) s = .next (s.tick el)) ∧
  (∀ (s : State) (el : Nat) (i : PortNo), Tab.find? s.synce.wtr i.val = none →
    exec (.waitToRestoreExpiry el i) s = .next (s.tick el)) ∧
  (∀ (s : State) (el at0 : Nat), s.synce.lockedSince = some at0 → at0 + 3600 * 400000000 ≤ s.clk + el → s.goodInput = true →
    s.rd 0x340F 0 = 1 → exec (.synceQualified el) s = .next (s.ran el ((s.tick el).wr 0x3214 0 1))) ∧
  (∀ (s : State) (el : Nat), s.synce.lockedSince = none ∨ s.goodInput = false ∨ s.rd 0x340F 0 = 0 →
    exec (.synceQualified el) s = .next (s.tick el)) ∧
  (∀ (s : State) (el at0 : Nat), s.synce.lockedSince = some at0 → s.clk + el < at0 + 3600 * 400000000 →
    exec (.synceQualified el) s = .next (s.tick el)) ∧
  (∀ (s : State), s.goodInput = true ↔ (s.rd 0x320A 0 = 2 ∧ qlRank (s.portQl (s.rd 0x3209 0)) ≤ 3)) ∧
  (∀ (s : State), s.goodInput = false → s.countSynceLock.synce.lockedSince = none ∧ s.countSynceLock.rd 0x3214 0 = 0) ∧
  (∀ (s : State), s.goodInput = true → s.countSynceLock = s.updSynce (fun q => { q with
    lockedSince := q.lockedSince.or (some s.clk) })) ∧
  (∀ (s : State) (el : Nat), s.rd 0x3200 0 = 0 ∨ s.holder = none ∨ s.stageAtLeast 2 = false →
    exec (.esmcTransmit el) s = .next (s.tick el)) ∧
  (∀ (s : State) (el t : Nat), s.synce.sentAt = some t → s.clk + el < t + 400000000 → exec (.esmcTransmit el) s = .next (s.tick el)) ∧
  (∀ (s : State) (el : Nat), s.rd 0x3200 0 = 1 → s.holder.isSome = true → s.stageAtLeast 2 = true →
    (∀ t, s.synce.sentAt = some t → t + 400000000 ≤ s.clk + el) →
    exec (.esmcTransmit el) s = .next (s.ran el (((List.range 144).filter (fun k => s.flag 0x3206 k && s.link k == 3)).foldl
      (fun (u : State) k => (u.originate k 7 false false (u.esmcFrame k (u.sentQlOn k))).1)
      ((s.tick el).updSynce (fun q => { q with sentAt := some (s.clk + el) }))))) ∧
  (∀ (s : State) (i : PortNo), s.sentQlOn i.val = if s.rd 0x3209 0 = i.val then 0xFF0F
    else if s.rd 0x320A 0 = 2 then s.portQl (s.rd 0x3209 0) else if s.rd 0x320A 0 = 4 then 0x2002
    else if s.rd 0x3201 0 = 0 then 0xFF0B else 0x220B)

/-- GNSS: a pulse gives time less the cable delay, a survey is held, the antenna bias is classified, cut on a short and retried. With
domain K on and the receiver enabled, a pulse records the receiver's readings, since when the criteria hold, the TAI−UTC offset and
the leap second it gives, and the difference of DT from the receiver's second less the cable delay; with a time fix that difference
becomes the offset that the servo uses, and the plumb check runs. Without either it changes nothing. The check runs with the model
ready and the override 0 alone: a line passes whose difference is within the larger of the floor and the multiple of the
uncertainty, keeps its anchor while it fails, and is anchored anew at its period once it passed throughout; both passing, the time
since when is kept; one failing disqualifies GNSS, counted, with fault bit 182, once. The line's prediction and its uncertainty, for
which the spec gives no formula, are free. A self-survey whose duration has passed holds its position. The bias current is open
under 2.0 mA, normal up to 50.0 mA, overloaded up to 65.0 mA and short above; a change to a fault sets its bit, and a short cuts the
bias and disqualifies GNSS, and is retried after 10 s. (R57, R396, R397, R399, PID 3306h, PID 3309h, PID 330Ah, PID 330Bh, PID
3315h.) -/
def Obligations.TheReceiverAndItsAntennaReport : Prop :=
  (∀ (s : State) (el : Nat) (frac : BitVec 8) (sec : BitVec 48) (st : Fin 5) (used tracked : BitVec 8) (cn0 : BitVec 16) (ok : Bool)
    (utc : Option (BitVec 16)) (leap : Fin 3), s.isOn 12 = false ∨ s.rd 0x3300 0 = 0 →
    exec (.gnssPps el frac sec st used tracked cn0 ok utc leap) s = .next (s.tick el)) ∧
  (∀ (s : State) (el : Nat) (frac : BitVec 8) (sec : BitVec 48) (st : Fin 5) (used tracked : BitVec 8) (cn0 : BitVec 16) (ok : Bool)
    (utc : Option (BitVec 16)) (leap : Fin 3), s.isOn 12 = true → s.rd 0x3300 0 = 1 →
    exec (.gnssPps el frac sec st used tracked cn0 ok utc leap) s = .next (s.ran el
      (let u := (s.tick el).receiver ⟨sec.toNat, st.val, used.toNat, tracked.toNat, cn0.toNat, ok, utc.map BitVec.toNat, leap.val⟩;
       let o := u.time.triple.dtOf u.rc + 640 * (frac.toNat : Int) - nsUnits ((sec.toNat : Int) * 1000000000 - signed 32 (u.rd 0x3305 0));
       let v := u.wr 0x3315 0 (unsignedOf 64 (toPs (-o)));
       (if st.val = 3 then v.updServo (fun q => { q with offsets := Tab.set q.offsets 1 o }) else v).plumbCheck))) ∧
  (∀ (s : State) (r : PpsReading), (s.receiver r).gnss.ppsAt = s.clk ∧
    ((s.receiver r).gnss.since.isSome = true → r.integrity = true ∧ s.rd 0x3300 0 ≠ 0) ∧
    (r.integrity = false → (s.receiver r).gnss.since = none) ∧
    (r.state ≠ 3 → (s.receiver r).gnss.since = none)) ∧
  (∀ (s : State), s.rd 0x3404 0 ≠ 1 ∨ s.rd 0x3314 0 ≠ 0 → s.plumbCheck = s) ∧
  (∀ (s : State), s.rd 0x3404 0 = 1 → s.rd 0x3314 0 = 0 →
    (((s.plumbLine 0).2 = true ∧ ((s.plumbLine 0).1.plumbLine 1).2 = true →
      s.plumbCheck = ((s.plumbLine 0).1.plumbLine 1).1.updGnss (fun q => { q with passSince := q.passSince.or (some s.clk) })) ∧
    ((s.plumbLine 0).2 = false ∨ ((s.plumbLine 0).1.plumbLine 1).2 = false →
      s.plumbCheck.gnss.out = true ∧ s.plumbCheck.gnss.passSince = none ∧
      (s.gnss.out = false → s.plumbCheck.rd 0x3311 0 = (s.rd 0x3311 0 + 1) % 2 ^ 32 ∧ Faulted s.plumbCheck 182 ∧
        1 ∉ s.plumbCheck.servo.good) ∧
      (s.gnss.out = true → s.plumbCheck.rd 0x3311 0 = s.rd 0x3311 0 ∧ s.plumbCheck.faults = s.faults)))) ∧
  (∀ (s : State) (k : Fin 2), (s.plumbLine k.val).2 = true ↔ (signed 32 (Config.freeValue s.drawn % 2 ^ 32)).natAbs ≤
    max (s.rd 0x330F 0) (s.rd 0x3310 0 * Config.freeValue (s.drawn + 1) / 10)) ∧
  (∀ (s : State) (k : Fin 2), Tab.find? (s.plumbLine k.val).1.gnss.lines k.val = some
    (let x := Tab.get (s.clk, s.clk) s.gnss.lines k.val;
     let p := (if k.val = 0 then 600 else 86400) * 400000000;
     if (s.plumbLine k.val).2 = false then (x.1, s.clk)
     else if x.1 + p ≤ s.clk ∧ x.2 + p ≤ s.clk then (s.clk, s.clk) else x)) ∧
  (∀ (s : State) (el : Nat) (frac : BitVec 8) (sec : BitVec 48) (used tracked : BitVec 8) (cn0 : BitVec 16) (ok : Bool) (leap : Fin 3),
    s.isOn 12 = true → s.rd 0x3300 0 = 1 → s.rd 0x3404 0 ≠ 1 →
    ∃ t, exec (.gnssPps el frac sec 3 used tracked cn0 ok none leap) s = .next t ∧ t.rd 0x3306 0 = 3 ∧ t.rd 0x3307 0 = used.toNat ∧
      t.rd 0x3308 0 = tracked.toNat ∧ t.rd 0x3316 0 = cn0.toNat ∧ t.rd 0x300B 0 = leap.val ∧ t.gnss.ppsAt = s.clk + el ∧
      Tab.find? t.servo.offsets 1 = some (s.time.triple.dtOf (s.tickRC el) + 640 * (frac.toNat : Int) -
        nsUnits ((sec.toNat : Int) * 1000000000 - signed 32 (s.rd 0x3305 0))) ∧
      t.rd 0x3315 0 = unsignedOf 64 (toPs (nsUnits ((sec.toNat : Int) * 1000000000 - signed 32 (s.rd 0x3305 0)) -
        s.time.triple.dtOf (s.tickRC el) - 640 * (frac.toNat : Int))) ∧
      t.faults = s.faults ∧ t.gnss.out = s.gnss.out ∧
      SameBut [(0x3306, 0), (0x3307, 0), (0x3308, 0), (0x3316, 0), (0x330E, 0), (0x300B, 0), (0x3315, 0)] s t) ∧
  (∀ (s : State) (el : Nat) (frac : BitVec 8) (sec : BitVec 48) (st : Fin 5) (used tracked : BitVec 8) (cn0 u : BitVec 16) (ok : Bool)
    (leap : Fin 3), s.isOn 12 = true → s.rd 0x3300 0 = 1 → s.rd 0x3404 0 ≠ 1 → st.val ≠ 3 →
    ∃ t, exec (.gnssPps el frac sec st used tracked cn0 ok (some u) leap) s = .next t ∧ t.rd 0x3306 0 = st.val ∧
      t.rd 0x3009 0 = u.toNat ∧ t.gnss.since = none ∧ t.servo.offsets = s.servo.offsets) ∧
  (∀ (s : State) (el at0 : Nat) (pos : BitVec 192), s.gnss.surveySince = some at0 → s.rd 0x3302 0 = 0 →
    at0 + s.rd 0x3304 0 * 60 * 400000000 ≤ s.clk + el →
    exec (.surveyComplete el pos) s = .next (s.ran el (((s.tick el).wr 0x330B 0 pos.toNat).updGnss (fun q => { q with
      placed := true, surveySince := none })))) ∧
  (∀ (s : State) (el : Nat) (pos : BitVec 192), s.gnss.surveySince = none ∨ s.rd 0x3302 0 ≠ 0 →
    exec (.surveyComplete el pos) s = .next (s.tick el)) ∧
  (∀ (s : State) (el at0 : Nat) (pos : BitVec 192), s.gnss.surveySince = some at0 →
    s.clk + el < at0 + s.rd 0x3304 0 * 60 * 400000000 → exec (.surveyComplete el pos) s = .next (s.tick el)) ∧
  (∀ (s : State) (el : Nat) (i : BitVec 16), s.isOn 12 = true → s.gnss.biasOff = none → 20 ≤ i.toNat → i.toNat ≤ 500 →
    exec (.antennaCondition el i) s = .next (s.ran el (((s.tick el).wr 0x3309 0 0).wr 0x330A 0 i.toNat))) ∧
  (∀ (s : State) (el : Nat) (i : BitVec 16), s.isOn 12 = true → s.gnss.biasOff = none → i.toNat < 20 →
    ∃ t, exec (.antennaCondition el i) s = .next t ∧ t.rd 0x3309 0 = 1 ∧ t.rd 0x330A 0 = i.toNat ∧
      (s.rd 0x3309 0 ≠ 1 → Faulted t 179) ∧ (s.rd 0x3309 0 = 1 → t.faults = s.faults) ∧
      t.gnss.biasOff = none ∧ t.gnss.since = none ∧ SameBut [(0x3309, 0), (0x330A, 0), (0x3E03, 0), (0x3E04, 0)] s t) ∧
  (∀ (s : State) (el : Nat) (i : BitVec 16), s.isOn 12 = true → s.gnss.biasOff = none → 500 < i.toNat → i.toNat ≤ 650 →
    ∃ t, exec (.antennaCondition el i) s = .next t ∧ t.rd 0x3309 0 = 2 ∧ t.rd 0x330A 0 = i.toNat ∧
      (s.rd 0x3309 0 ≠ 2 → Faulted t 180) ∧ (s.rd 0x3309 0 = 2 → t.faults = s.faults) ∧ t.gnss = s.gnss ∧
      SameBut [(0x3309, 0), (0x330A, 0), (0x3E03, 0), (0x3E04, 0)] s t) ∧
  (∀ (s : State) (el : Nat) (i : BitVec 16), s.isOn 12 = true → s.gnss.biasOff = none → 650 < i.toNat →
    ∃ t, exec (.antennaCondition el i) s = .next t ∧ t.rd 0x3309 0 = 3 ∧ t.rd 0x330A 0 = i.toNat ∧
      (s.rd 0x3309 0 ≠ 3 → Faulted t 181) ∧ t.gnss.biasOff = some (s.clk + el) ∧ 1 ∉ t.servo.good ∧
      (s.rd 0x3401 0 ≠ 1 → SameBut [(0x3309, 0), (0x330A, 0), (0x330E, 0), (0x3E03, 0), (0x3E04, 0)] s t)) ∧
  (∀ (s : State) (el : Nat) (i : BitVec 16), s.isOn 12 = false → exec (.antennaCondition el i) s = .next (s.tick el)) ∧
  (∀ (s : State) (el at0 : Nat) (i : BitVec 16), s.gnss.biasOff = some at0 → exec (.antennaCondition el i) s = .next (s.tick el)) ∧
  (∀ (s : State) (el at0 : Nat), s.gnss.biasOff = some at0 → at0 + 4000000000 ≤ s.clk + el →
    exec (.antennaBiasRetry el) s = .next (s.ran el ((s.tick el).updGnss (fun q => { q with biasOff := none })))) ∧
  (∀ (s : State) (el at0 : Nat), s.gnss.biasOff = some at0 → s.clk + el < at0 + 4000000000 →
    exec (.antennaBiasRetry el) s = .next (s.tick el)) ∧
  (∀ (s : State) (el : Nat), s.gnss.biasOff = none → exec (.antennaBiasRetry el) s = .next (s.tick el))

/-- The TIO connector: edges of the outputs, captures and their ring, time-of-day messages sent and received. An output runs while it is
enabled in Topped-out under its mute policy, with domain K; high-impedance without domain K and in Footing it drives no level, else
logic 0 outside its pulses; ToD TX likewise, idle at logic 1 while both outputs are muted. An output that runs produces a pulse,
counted, at its grid instant, never one at or before the last or before the end of the hold after a triple switch; the grid of 1PPS
and periodic mode is the least instant of the origin and its multiples, a single pulse has one instant. A selected edge of an
enabled input is written to the ring of 64 with its stamp, edge and count; one within 10,240 units (100 ns) of the last is dropped
and counted with fault bit 188; a rising edge on TI0 is also the PPS input's, good 1 s ± 1 µs after the one before. Clearing empties
the ring. With a timed output running, each DT second gets its message once, 100 ms after it begins, in the format configured;
otherwise none. A good message names the second of its good, fresh edge and the one after the last, with a clockClass of 7 or lower:
it counts, its offset is the capture less the second, and the tenth in a row qualifies the input. Any other starts the count over
and disqualifies the source. (R60, R403, R404, R405, R406, R407, PID 3509h, PID 350Eh, PID 350Fh, PID 3510h, PID 3511h, PID 3516h.) -/
def Obligations.TimedInputsAndOutputsFollowDT : Prop :=
  (∀ (s : State) (o : Fin 2), s.outputRuns o.val = true ↔ (s.isOn 12 = true ∧ s.flag 0x3500 o.val = true ∧ s.stageAtLeast 3 = true ∧
    (s.rd 0x3507 o.val = 0 → s.rd 0x3400 0 = 2) ∧ (s.rd 0x3507 o.val = 1 → s.timed = true))) ∧
  (∀ (s : State) (o : Fin 2), s.isOn 12 = false ∨ s.stageAtLeast 1 = false →
    s.outputState o.val = 0 ∧ s.outputLevel o.val = none ∧ s.todState = 0 ∧ s.todLevel = none) ∧
  (∀ (s : State) (o : Fin 2), s.isOn 12 = true → s.stageAtLeast 1 = true →
    s.outputState o.val = (if s.outputRuns o.val then 2 else 1) ∧ s.outputLevel o.val = some false ∧
    s.todState = (if s.outputRuns 0 || s.outputRuns 1 then 2 else 1) ∧ s.todLevel = some true) ∧
  (∀ (s : State) (o : Fin 2) (u : Int), s.rd 0x3501 o.val = 0 → s.gridInstant o.val u =
    some (gridAfter (nsUnits (signed 32 (s.rd 0x3504 o.val) - s.rd 0x3505 o.val)) (nsUnits 1000000000) u)) ∧
  (∀ (s : State) (o : Fin 2) (u : Int), s.rd 0x3501 o.val = 1 → s.gridInstant o.val u =
    some (gridAfter (nsUnits (signed 32 (s.rd 0x3504 o.val) - s.rd 0x3505 o.val)) (nsUnits (s.rd 0x3502 o.val)) u)) ∧
  (∀ (s : State) (o : Fin 2) (u : Int), s.rd 0x3501 o.val = 2 → s.gridInstant o.val u =
    if u ≤ decDT (s.rd 0x3506 o.val) then some (decDT (s.rd 0x3506 o.val)) else none) ∧
  (∀ (a p u : Int), 0 < p → u ≤ gridAfter a p u ∧ gridAfter a p u < u + p ∧ ∃ n : Int, gridAfter a p u = a + n * p) ∧
  (∀ (s : State) (el : Nat) (o : Fin 2) (g : Int), (s.tick el).gridInstant o.val (s.time.triple.dtOf (s.tickRC el - 1) + 1) = some g →
    s.outputRuns o.val = true → g ≤ s.time.triple.dtOf (s.tickRC el) → s.tio.notBefore ≤ g →
    (∀ l, Tab.find? s.tio.lastEdge o.val = some l → l < g) →
    exec (.timedOutputEdge el o) s = .next (s.ran el (((s.tick el).inc 0x3509 o.val).updTio (fun q => { q with
      lastEdge := Tab.set q.lastEdge o.val g, pulses := Tab.set q.pulses o.val (g, g + nsUnits (s.rd 0x3503 o.val)) })))) ∧
  (∀ (s : State) (el : Nat) (o : Fin 2) (g l : Int), (s.tick el).gridInstant o.val (s.time.triple.dtOf (s.tickRC el - 1) + 1) = some g →
    Tab.find? s.tio.lastEdge o.val = some l → g ≤ l → exec (.timedOutputEdge el o) s = .next (s.tick el)) ∧
  (∀ (s : State) (el : Nat) (o : Fin 2), s.outputRuns o.val = false ∨
    (s.tick el).gridInstant o.val (s.time.triple.dtOf (s.tickRC el - 1) + 1) = none →
    exec (.timedOutputEdge el o) s = .next (s.tick el)) ∧
  (∀ (s : State) (el : Nat) (o : Fin 2) (g : Int), (s.tick el).gridInstant o.val (s.time.triple.dtOf (s.tickRC el - 1) + 1) = some g →
    s.time.triple.dtOf (s.tickRC el) < g ∨ g < s.tio.notBefore → exec (.timedOutputEdge el o) s = .next (s.tick el)) ∧
  (∀ (s : State) (el : Nat) (k : Fin 2) (fr : BitVec 8) (f : Bool), s.isOn 12 = false → exec (.captureEdge el k fr f) s = .next (s.tick el)) ∧
  (∀ (s : State) (el : Nat) (k : Fin 2) (fr : BitVec 8) (f : Bool), s.isOn 12 = true → s.rd 0x350B k.val = 1 →
    s.edgeSelected k.val f = true →
    (∀ l, Tab.find? s.tio.capLast k.val = some l → l + 10240 ≤ (s.tick el).captureStamp k.val fr.toNat) →
    exec (.captureEdge el k fr f) s = .next (s.ran el
      (let u := if k.val = 0 ∧ f = false ∧ s.flag 0x3515 0 = true then (s.tick el).ppsEdge ((s.tick el).captureStamp k.val fr.toNat) else s.tick el;
       u.capture k.val ((s.tick el).captureStamp k.val fr.toNat) f))) ∧
  (∀ (s : State) (el l : Nat) (k : Fin 2) (fr : BitVec 8) (f : Bool), s.isOn 12 = true → s.rd 0x350B k.val = 1 →
    s.edgeSelected k.val f = true → Tab.find? s.tio.capLast k.val = some l → (s.tick el).captureStamp k.val fr.toNat < l + 10240 →
    exec (.captureEdge el k fr f) s = .next (s.ran el
      (let u := if k.val = 0 ∧ f = false ∧ s.flag 0x3515 0 = true then (s.tick el).ppsEdge ((s.tick el).captureStamp k.val fr.toNat) else s.tick el;
       (u.inc 0x3510 k.val).fault 188 moduleInst))) ∧
  (∀ (s : State) (el : Nat) (k : Fin 2) (fr : BitVec 8) (f : Bool), s.isOn 12 = true → s.rd 0x350B k.val = 0 ∨ s.edgeSelected k.val f = false →
    exec (.captureEdge el k fr f) s = .next (s.ran el
      (let u := if k.val = 0 ∧ f = false ∧ s.flag 0x3515 0 = true then (s.tick el).ppsEdge ((s.tick el).captureStamp k.val fr.toNat) else s.tick el;
       u))) ∧
  (∀ (s : State) (k : Fin 2) (at0 : Nat) (f : Bool), s.rd 0x350F k.val < 64 →
    Tab.find? (s.capture k.val at0 f).tio.capLast k.val = some at0 ∧
    Tab.get 0 (s.capture k.val at0 f).tio.capCount k.val = Tab.get 0 s.tio.capCount k.val + 1 ∧
    (s.capture k.val at0 f).rd 0x350E (64 * k.val + s.rd 0x350F k.val) = ((at0 * 256 + (if f then 1 else 0)) * 256 * 2 ^ 32 +
      (Tab.get 0 s.tio.capCount k.val + 1) % 2 ^ 32) % 2 ^ 128 ∧
    (s.capture k.val at0 f).rd 0x350F k.val = (s.rd 0x350F k.val + 1) % 64 ∧
    SameBut [(0x350E, 64 * k.val + s.rd 0x350F k.val), (0x350F, k.val)] s (s.capture k.val at0 f)) ∧
  (∀ (s : State) (k : Fin 2) (fr : Fin 256), s.captureStamp k.val fr.val = s.rc * 256 + fr.val - s.rd 0x350D k.val * 65536 / 640) ∧
  (∀ (s : State) (k : Fin 2) (f : Bool), s.edgeSelected k.val f = if s.rd 0x350C k.val = 0 then !f else if s.rd 0x350C k.val = 1 then f else true) ∧
  (∀ (s : State) (at0 : Nat), s.ppsEdge at0 = s.updTio (fun q => { q with
    edge := some at0, edgeAt := s.clk,
    edgeOk := s.tio.edge.any (fun e => decide (e + 102400000000 ≤ at0 + 102400 ∧ at0 ≤ e + 102400000000 + 102400)) })) ∧
  (∀ (s : State) (el : Nat) (q : Req), Ready s q roleSite → FullService s → q.inst.toNat < 2 → q.data = [1] →
    ∃ t, exec (.captureRingClear el q) s = .next t ∧ t.rd 0x350F q.inst.toNat = 0 ∧ Tab.get 0 t.tio.capCount q.inst.toNat = 0 ∧
      (∀ n : Fin 64, t.rd 0x350E (64 * q.inst.toNat + n.val) = 0) ∧
      Answers s t q 0x02 stOk 0x3511 q.inst.toNat []
        ((0x350F, q.inst.toNat) :: (List.range 64).map (fun n => (0x350E, 64 * q.inst.toNat + n)))) ∧
  (∀ (s : State) (el : Nat), s.rd 0x3512 0 = 0 ∨ (s.outputRuns 0 = false ∧ s.outputRuns 1 = false) →
    exec (.todMessage el) s = .next (s.tick el)) ∧
  (∀ (s : State) (el : Nat) (sec : Int), floorDiv (s.time.triple.dtOf (s.tickRC el)) (nsUnits 1000000000) = sec →
    sec ≤ s.tio.todSecond ∨ s.time.triple.dtOf (s.tickRC el) < nsUnits (sec * 1000000000 + 100000000) →
    exec (.todMessage el) s = .next (s.tick el)) ∧
  (∀ (s : State) (el : Nat) (sec : Int), floorDiv (s.time.triple.dtOf (s.tickRC el)) (nsUnits 1000000000) = sec → s.rd 0x3512 0 = 1 →
    s.outputRuns 0 = true ∨ s.outputRuns 1 = true → s.tio.todSecond < sec →
    nsUnits (sec * 1000000000 + 100000000) ≤ s.time.triple.dtOf (s.tickRC el) →
    exec (.todMessage el) s = .next (s.ran el ((s.tick el).updTio (fun q => { q with
      todSecond := sec,
      todOut := q.todOut ++ [if s.rd 0x3513 0 = 0 then
        todRecord sec.toNat (s.rd 0x3009 0) (s.rd 0x3400 0) (s.tick el).ownClass.1 (s.rd 0x300B 0)
        else zdaSentence (sec - signed 16 (s.rd 0x3009 0)).toNat] })))) ∧
  (∀ (s : State) (el : Nat) (bs : List Byte), s.isOn 12 = false ∨ s.rd 0x3515 0 = 0 → exec (.todRxMessage el bs) s = .next (s.tick el)) ∧
  (∀ (s : State) (el : Nat) (bs : List Byte), s.isOn 12 = true → s.rd 0x3515 0 = 1 →
    todGood bs = false ∨ s.tio.edgeAt + 400000000 ≤ s.clk + el ∨ s.tio.edgeOk = false ∨
      s.tio.named.any (fun n => n + 1 != getBE bs 4 6) = true ∨ 7 < getBE bs 13 1 →
    exec (.todRxMessage el bs) s = .next (s.ran el
      (let u := ((s.tick el).updTio (fun q => { q with
         run := 0, todAt := s.clk + el, named := if todGood bs then some (getBE bs 4 6) else none,
         todClass := if todGood bs then getBE bs 13 1 else q.todClass })).wr 0x3516 0 2;
       if s.servo.good.contains 3 then u.disqualify 3 false else u))) ∧
  (∀ (s : State) (el : Nat) (bs : List Byte), s.isOn 12 = true → s.rd 0x3515 0 = 1 → todGood bs = true →
    s.clk + el < s.tio.edgeAt + 400000000 → s.tio.edgeOk = true → (∀ n, s.tio.named = some n → n + 1 = getBE bs 4 6) →
    getBE bs 13 1 ≤ 7 →
    ∃ t, exec (.todRxMessage el bs) s = .next t ∧ t.rd 0x3516 0 = (if 9 ≤ s.tio.run then 3 else 2) ∧
      t.tio.run = s.tio.run + 1 ∧ t.tio.named = some (getBE bs 4 6) ∧ t.tio.todClass = getBE bs 13 1 ∧ t.tio.todAt = s.clk + el ∧
      (∀ e, s.tio.edge = some e → Tab.find? t.servo.offsets 3 = some (s.time.triple.dtOf (e / 256) + 640 * ((e % 256 : Nat) : Int) -
        nsUnits ((getBE bs 4 6 : Int) * 1000000000))) ∧
      SameBut [(0x3516, 0), (0x3517, 0)] s t)

/-- The kiln is ready, late or out of regulation, and three resonators vote for the reference. A kiln whose vote is unanimous becomes
ready, and a first warm-up writes its duration in seconds; a warm-up past the bound of R79, interpolated between the rows of its
table, sets fault bit 8 once. A kiln that is ready and outside 140 °C by more than 0.5 K is out of regulation, with fault bit 194. A
pair agrees within the vote tolerance. A resonator that agrees with neither other, or gives no output, is excluded, counted, with
fault bit 192; an excluded one that has agreed with both others in 100 comparisons in a row is readmitted, and one that has not
starts over. With none excluded the vote is unanimous and the reference stays; with one excluded the lower of the other two takes
over where it was the reference; with more the vote is undecided, with fault bit 193 on its entry, and the reference changes only
where it gives no output, to the lowest that does. The offsets of those with output from the selected one are written. Nothing else
happens to a kiln that is in another state, or without domain K. (R79, R416, R417, R418, R516, PID 0126h, PID 0200h, PID 0202h, PID
020Ah, PID 020Ch.) -/
def Obligations.TheKilnAndItsVoteGiveTheReference : Prop :=
  (∀ (s : State) (el : Nat), s.isOn 12 = true → s.rd 0x0125 0 = 0 → s.rd 0x020A 0 = 0 → s.rd 0x0200 0 = 0 →
    ∃ t, exec (.kilnReady el) s = .next t ∧ t.rd 0x0125 0 = 1 ∧ t.rd 0x0200 0 = 1 ∧ t.rd 0x0201 0 = 140000 ∧
      t.rd 0x0126 0 = saturate 16 ((s.clk + el - s.power.warmFrom) / 400000000) ∧
      SameBut [(0x0125, 0), (0x0200, 0), (0x0201, 0), (0x0126, 0)] s t) ∧
  (∀ (s : State) (el : Nat), s.isOn 12 = true → s.rd 0x0125 0 = 0 → s.rd 0x020A 0 = 0 → s.rd 0x0200 0 ≠ 0 →
    exec (.kilnReady el) s = .next (s.ran el ((((s.tick el).wr 0x0125 0 1).wr 0x0200 0 1).wr 0x0201 0 140000))) ∧
  (∀ (s : State) (el : Nat), s.isOn 12 = false ∨ s.rd 0x0125 0 ≠ 0 ∨ s.rd 0x020A 0 ≠ 0 → exec (.kilnReady el) s = .next (s.tick el)) ∧
  (∀ (s : State) (el : Nat), s.isOn 12 = true → s.rd 0x0200 0 = 0 → s.clocks.late = false →
    s.power.warmFrom + (warmUpBound s.power.tc).toNat * 400000 < s.clk + el →
    ∃ t, exec (.kilnWarmUpOverrun el) s = .next t ∧ Faulted t 8 ∧ t.clocks.late = true ∧ SameBut [(0x3E03, 0), (0x3E04, 0)] s t) ∧
  (∀ (s : State) (el : Nat), s.clocks.late = true ∨ s.clk + el ≤ s.power.warmFrom + (warmUpBound s.power.tc).toNat * 400000 →
    exec (.kilnWarmUpOverrun el) s = .next (s.tick el)) ∧
  (∀ (s : State) (el : Nat), s.isOn 12 = false ∨ s.rd 0x0200 0 ≠ 0 → exec (.kilnWarmUpOverrun el) s = .next (s.tick el)) ∧
  (∀ (x : Int), (x ≤ -550 → warmUpBound x = 240000) ∧
    (-550 ≤ x → x ≤ -200 → warmUpBound x = 240000 + floorDiv ((x + 550) * (-40000)) 350) ∧
    (-200 ≤ x → x ≤ 250 → warmUpBound x = 200000 + floorDiv ((x + 200) * (-70000)) 450) ∧
    (250 ≤ x → x ≤ 850 → warmUpBound x = 130000 + floorDiv ((x - 250) * (-70000)) 600) ∧
    (850 ≤ x → x ≤ 1250 → warmUpBound x = 60000 + floorDiv ((x - 850) * (-35000)) 400) ∧ (1250 ≤ x → warmUpBound x = 25000)) ∧
  (∀ (s : State) (el : Nat) (x : BitVec 32), s.isOn 12 = true → s.rd 0x0200 0 = 1 → x.toNat < 139500 ∨ 140500 < x.toNat →
    ∃ t, exec (.ovenOutOfRegulation el x) s = .next t ∧ t.rd 0x0200 0 = 2 ∧ t.rd 0x0125 0 = 0 ∧ t.rd 0x0201 0 = x.toNat ∧
      Faulted t 194 ∧ SameBut [(0x0200, 0), (0x0125, 0), (0x0201, 0), (0x3E03, 0), (0x3E04, 0)] s t) ∧
  (∀ (s : State) (el : Nat) (x : BitVec 32), (139500 ≤ x.toNat ∧ x.toNat ≤ 140500) ∨ s.isOn 12 = false ∨ s.rd 0x0200 0 ≠ 1 →
    exec (.ovenOutOfRegulation el x) s = .next (s.tick el)) ∧
  (∀ (s : State) (el : Nat) (a b c : BitVec 32), s.isOn 12 = true → s.rd 0x0202 0 = 0 →
    s.rd 0x0203 0 = 0 → s.rd 0x0204 0 = 0 → s.rd 0x0205 0 = 0 →
    (a.toInt - b.toInt).natAbs ≤ 1000 * s.rd 0x0209 0 → (a.toInt - c.toInt).natAbs ≤ 1000 * s.rd 0x0209 0 →
    (b.toInt - c.toInt).natAbs ≤ 1000 * s.rd 0x0209 0 →
    ∃ t, exec (.resonatorVote el (some a) (some b) (some c)) s = .next t ∧ t.rd 0x020A 0 = 0 ∧ t.rd 0x0206 0 = 0 ∧
      t.rd 0x0207 0 = unsignedOf 32 (b.toInt - a.toInt) ∧ t.rd 0x0208 0 = unsignedOf 32 (c.toInt - a.toInt) ∧ t.faults = s.faults ∧
      SameBut [(0x020A, 0), (0x0206, 0), (0x0207, 0), (0x0208, 0)] s t) ∧
  (∀ (s : State) (el : Nat) (a b c : BitVec 32), s.isOn 12 = true → s.rd 0x0202 0 = 0 →
    s.rd 0x0203 0 = 0 → s.rd 0x0204 0 = 0 → s.rd 0x0205 0 = 0 →
    1000 * s.rd 0x0209 0 < (a.toInt - b.toInt).natAbs → 1000 * s.rd 0x0209 0 < (a.toInt - c.toInt).natAbs →
    (b.toInt - c.toInt).natAbs ≤ 1000 * s.rd 0x0209 0 →
    ∃ t, exec (.resonatorVote el (some a) (some b) (some c)) s = .next t ∧ t.rd 0x0203 0 = 1 ∧ t.rd 0x020A 0 = 1 ∧ t.rd 0x0202 0 = 1 ∧
      t.rd 0x020C 0 = (s.rd 0x020C 0 + 1) % 2 ^ 32 ∧ t.rd 0x020B 0 = (s.rd 0x020B 0 + 1) % 2 ^ 32 ∧
      t.rd 0x020D 0 = (s.tick el).dtNow % 2 ^ 112 ∧ Faulted t 192 ∧ t.rd 0x0204 0 = 0 ∧ t.rd 0x0205 0 = 0) ∧
  (∀ (s : State) (el : Nat) (a b c : BitVec 32), s.isOn 12 = true →
    s.rd 0x0203 0 = 0 → s.rd 0x0204 0 = 0 → s.rd 0x0205 0 = 0 →
    1000 * s.rd 0x0209 0 < (a.toInt - b.toInt).natAbs → 1000 * s.rd 0x0209 0 < (a.toInt - c.toInt).natAbs →
    1000 * s.rd 0x0209 0 < (b.toInt - c.toInt).natAbs → s.rd 0x020A 0 ≠ 2 → s.rd 0x0202 0 < 3 →
    ∃ t, exec (.resonatorVote el (some a) (some b) (some c)) s = .next t ∧ t.rd 0x020A 0 = 2 ∧ t.rd 0x0202 0 = s.rd 0x0202 0 ∧
      t.rd 0x0203 0 = 1 ∧ t.rd 0x0204 0 = 1 ∧ t.rd 0x0205 0 = 1 ∧ t.rd 0x020C 0 = (s.rd 0x020C 0 + 3) % 2 ^ 32 ∧ Faulted t 193) ∧
  (∀ (s : State) (el : Nat) (a b c : Option (BitVec 32)), s.isOn 12 = true →
    exec (.resonatorVote el a b c) s = .next (s.ran el
      (let x := a.map BitVec.toInt; let y := b.map BitVec.toInt; let z := c.map BitVec.toInt;
       let o := fun (k : Nat) => if k = 0 then x else if k = 1 then y else z;
       let ab := agrees (s.rd 0x0209 0) x y; let ac := agrees (s.rd 0x0209 0) x z; let bc := agrees (s.rd 0x0209 0) y z;
       let u := ((((s.tick el).voteOne 0 x ab ac).voteOne 1 y ab bc).voteOne 2 z ac bc).voteResult (fun k => (o k).isSome);
       (List.range 3).foldl (fun (v : State) k => match o k, o (v.rd 0x0202 0) with
         | some m, some n => v.wr (0x0206 + k) 0 (unsignedOf 32 (m - n))
         | _, _ => v) u))) ∧
  (∀ (tol : Nat) (x y : Int), agrees tol (some x) (some y) = decide ((x - y).natAbs ≤ 1000 * tol)) ∧
  (∀ (tol : Nat) (x : Option Int), agrees tol x none = false ∧ agrees tol none x = false) ∧
  (∀ (s : State) (k : Fin 3) (mine : Option Int) (a b : Bool), s.rd (0x0203 + k.val) 0 = 0 → (a || b) = true →
    s.voteOne k.val mine a b = s) ∧
  (∀ (s : State) (k : Fin 3) (mine : Option Int), s.rd (0x0203 + k.val) 0 = 0 →
    (s.voteOne k.val mine false false).rd (0x0203 + k.val) 0 = (if mine.isNone then 2 else 1) ∧
    (s.voteOne k.val mine false false).rd 0x020C 0 = (s.rd 0x020C 0 + 1) % 2 ^ 32 ∧
    Faulted (s.voteOne k.val mine false false) 192 ∧
    Tab.find? (s.voteOne k.val mine false false).clocks.agree k.val = none ∧
    SameBut [(0x0203 + k.val, 0), (0x020C, 0), (0x3E03, 0), (0x3E04, 0)] s (s.voteOne k.val mine false false)) ∧
  (∀ (s : State) (k : Fin 3) (mine : Option Int), s.rd (0x0203 + k.val) 0 ≠ 0 → 99 ≤ Tab.get 0 s.clocks.agree k.val →
    (s.voteOne k.val mine true true).rd (0x0203 + k.val) 0 = 0 ∧
    Tab.find? (s.voteOne k.val mine true true).clocks.agree k.val = none ∧
    SameBut [(0x0203 + k.val, 0)] s (s.voteOne k.val mine true true)) ∧
  (∀ (s : State) (k : Fin 3) (mine : Option Int) (a b : Bool), s.rd (0x0203 + k.val) 0 ≠ 0 →
    (a && b) = false ∨ Tab.get 0 s.clocks.agree k.val < 99 →
    (s.voteOne k.val mine a b).rd (0x0203 + k.val) 0 = (if mine.isNone then 2 else 1) ∧
    Tab.find? (s.voteOne k.val mine a b).clocks.agree k.val = some (if a && b then Tab.get 0 s.clocks.agree k.val + 1 else 0) ∧
    (s.voteOne k.val mine a b).faults = s.faults ∧
    SameBut [(0x0203 + k.val, 0)] s (s.voteOne k.val mine a b)) ∧
  (∀ (s : State) (out : Nat → Bool), s.rd 0x0203 0 = 0 → s.rd 0x0204 0 = 0 → s.rd 0x0205 0 = 0 →
    s.voteResult out = s.wr 0x020A 0 0) ∧
  (∀ (s : State) (out : Nat → Bool) (k : Fin 3), (∀ j : Fin 3, s.rd (0x0203 + j.val) 0 ≠ 0 ↔ j = k) → s.rd 0x0202 0 < 3 →
    (s.voteResult out).rd 0x020A 0 = 1 ∧
    (s.voteResult out).rd 0x0202 0 = (if s.rd 0x0202 0 = k.val then (if k.val = 0 then 1 else 0) else s.rd 0x0202 0) ∧
    (s.voteResult out).rd 0x020B 0 = (if s.rd 0x0202 0 = k.val then (s.rd 0x020B 0 + 1) % 2 ^ 32 else s.rd 0x020B 0) ∧
    (s.voteResult out).faults = s.faults ∧ SameBut [(0x020A, 0), (0x0202, 0), (0x020B, 0), (0x020D, 0)] s (s.voteResult out)) ∧
  (∀ (s : State) (out : Nat → Bool) (j k : Fin 3), s.rd (0x0203 + j.val) 0 ≠ 0 → s.rd (0x0203 + k.val) 0 ≠ 0 → j ≠ k →
    (s.voteResult out).rd 0x020A 0 = 2 ∧ (s.rd 0x020A 0 ≠ 2 → Faulted (s.voteResult out) 193) ∧
    (s.rd 0x020A 0 = 2 → (s.voteResult out).faults = s.faults) ∧
    (out (s.rd 0x0202 0) = true → (s.voteResult out).rd 0x0202 0 = s.rd 0x0202 0) ∧
    (out (s.rd 0x0202 0) = false → out 0 = true → (s.voteResult out).rd 0x0202 0 = 0) ∧
    (out (s.rd 0x0202 0) = false → out 0 = false → out 1 = true → (s.voteResult out).rd 0x0202 0 = 1) ∧
    (out (s.rd 0x0202 0) = false → out 0 = false → out 1 = false → out 2 = true → (s.voteResult out).rd 0x0202 0 = 2) ∧
    (out (s.rd 0x0202 0) = false → out 0 = false → out 1 = false → out 2 = false →
      (s.voteResult out).rd 0x0202 0 = s.rd 0x0202 0)) ∧
  (∀ (s : State) (el : Nat) (a b c : Option (BitVec 32)), s.isOn 12 = false →
    exec (.resonatorVote el a b c) s = .next (s.tick el))

/-- Root PLLs and fallbacks, forced switches, the core divider's ramps, frequency meters and clock gates. A domain on its root clock
whose PLL unlocks goes to its fallback oscillator, counted, with fault bits 195 and 198, and returns after the return delay with
domain K powered as long, not before. A forced switch is counted with fault bit 196. A load measurement gives the floor divider, the
largest whose clock the rates of all port groups allow; a load above the step-up threshold turns the ramp to the full clock, a floor
below the divider turns it to the floor, and a dwell below the other threshold starts it down, each counted; it moves one value each
1,600 ticks, and ends at its end. Disabled or before Bonded the floor is 4. A completed measurement writes the ratio and the
frequency and, in continuous mode, starts the next; without its sources it is status 3. A gate control is stored as written; forced
closed while its block is in use it answers INTERLOCK and changes nothing; a gate asked to close with an access in progress is
closing, and any request to open takes effect after. An access that runs 512 ticks after that is aborted, counted, with fault bit
197; how many bytes it moved is free. (R420, R421, R423, R424, R425, R427, PID 020Eh, PID 0214h, PID 0215h, PID 0224h, PID 0226h,
PID 0228h.) -/
def Obligations.DomainClocksFallBackRampAndAreGated : Prop :=
  (∀ (s : State) (el : Nat) (d : Fin 13) (x : BitVec 32), s.isOn d.val = true → s.rd 0x020F d.val = 0 →
    ∃ t, exec (.rootPllUnlock el d x) s = .next t ∧ t.rd 0x020E d.val = 3 ∧ t.rd 0x020F d.val = 1 ∧ t.rd 0x0212 d.val = x.toNat ∧
      t.rd 0x0211 d.val = (s.rd 0x0211 d.val + 1) % 2 ^ 32 ∧ Tab.find? t.clocks.fallbackAt d.val = some (s.clk + el) ∧
      Faulted t 195 ∧ Faulted t 198 ∧
      SameBut [(0x020E, d.val), (0x020F, d.val), (0x0211, d.val), (0x0212, d.val), (0x3E03, 0), (0x3E04, 0)] s t) ∧
  (∀ (s : State) (el : Nat) (d : Fin 13) (x : BitVec 32), s.isOn d.val = false ∨ s.rd 0x020F d.val ≠ 0 →
    exec (.rootPllUnlock el d x) s = .next (s.tick el)) ∧
  (∀ (s : State) (el at0 : Nat) (d : Fin 13), Tab.find? s.clocks.fallbackAt d.val = some at0 → s.rd 0x020F d.val = 1 → s.isOn 12 = true →
    at0 + s.rd 0x022F 0 * 400000 ≤ s.clk + el → Tab.get 0 s.clocks.poweredAt 12 + s.rd 0x022F 0 * 400000 ≤ s.clk + el →
    exec (.fallbackReturn el d) s = .next (s.ran el ((((s.tick el).wr 0x020E d.val 2).wr 0x020F d.val 0).updClocks (fun q => { q with
      fallbackAt := Tab.del q.fallbackAt d.val })))) ∧
  (∀ (s : State) (el at0 : Nat) (d : Fin 13), Tab.find? s.clocks.fallbackAt d.val = some at0 →
    s.clk + el < at0 + s.rd 0x022F 0 * 400000 ∨ s.clk + el < Tab.get 0 s.clocks.poweredAt 12 + s.rd 0x022F 0 * 400000 ∨
      s.isOn 12 = false ∨ s.rd 0x020F d.val ≠ 1 → exec (.fallbackReturn el d) s = .next (s.tick el)) ∧
  (∀ (s : State) (el : Nat) (d : Fin 13), Tab.find? s.clocks.fallbackAt d.val = none → exec (.fallbackReturn el d) s = .next (s.tick el)) ∧
  (∀ (s : State) (el : Nat) (d : Fin 13), s.dom d.val ≠ 0 →
    ∃ t, exec (.forcedSwitch el d) s = .next t ∧ t.rd 0x0210 d.val = (s.rd 0x0210 d.val + 1) % 2 ^ 32 ∧ Faulted t 196 ∧
      SameBut [(0x0210, d.val), (0x3E03, 0), (0x3E04, 0)] s t) ∧
  (∀ (s : State) (el : Nat) (d : Fin 13), s.dom d.val = 0 → exec (.forcedSwitch el d) s = .next (s.tick el)) ∧
  (∀ (s : State) (el : Nat) (p : PlaneNo) (x : BitVec 128), s.isOn p.val = false →
    exec (.loadMeasurement el p x) s = .next (s.tick el)) ∧
  (∀ (s : State) (el : Nat) (p : PlaneNo) (x : BitVec 128), s.isOn p.val = true →
    exec (.loadMeasurement el p x) s = .next (s.ran el
      (let n := fun (k : Nat) => field x.toNat (16 * k + 15) (16 * k);
       let u := (List.range 8).foldl (fun (v : State) k => v.noteLoad (8 * p.val + k) (n k)) (s.tick el);
       let runs := s.flag 0x0213 0 && s.stageAtLeast 2;
       let w := u.wr 0x0215 p.val (if runs then u.floorDivider else 4);
       let low := (List.range 8).all (fun k => decide (n k * 100 < s.rd 0x0217 0 * 1200));
       let y := w.updRamp p.val (fun q => { q with below := if low && runs then q.below.or (some (s.clk + el)) else none });
       match rampWanted ((List.range 8).any (fun k => decide (s.rd 0x0218 0 * 1200 < n k * 100))) (y.dwelt p.val) (y.rd 0x0214 p.val)
         (y.rd 0x0215 p.val) (y.ramp p.val).dir with
       | some k => y.startRamp p.val k
       | none => y))) ∧
  (∀ (high dwelt : Bool) (d floor dir : Nat), (high = true → 4 < d → dir ≠ 2 → rampWanted high dwelt d floor dir = some 2) ∧
    (high = false ∨ d ≤ 4 → floor < d → dir ≠ 2 → dir ≠ 3 → rampWanted high dwelt d floor dir = some 3) ∧
    (high = false → dwelt = true → d < floor → dir = 0 → rampWanted high dwelt d floor dir = some 1) ∧
    (high = false → floor = d → rampWanted high dwelt d floor dir = none) ∧
    (high = false → dwelt = false → d < floor → rampWanted high dwelt d floor dir = none)) ∧
  (∀ (s : State) (p : PlaneNo), s.dwelt p.val = (s.ramp p.val).below.any (fun b => decide (b + s.rd 0x0219 0 * 400000 ≤ s.clk))) ∧
  (∀ (s : State), 4 ≤ s.floorDivider ∧ s.floorDivider ≤ 8 ∧
    (4 < s.floorDivider → s.floorDivider ≤ s.rd 0x0216 0 ∧ ∀ g : Fin 8, s.groupLoad g.val * s.floorDivider ≤ 4800 * 672) ∧
    (∀ d, s.floorDivider < d → d ≤ 8 → d ≤ s.rd 0x0216 0 → ∃ g : Fin 8, 4800 * 672 < s.groupLoad g.val * d)) ∧
  (∀ (s : State) (p : PlaneNo) (k : Fin 4), (s.startRamp p.val k.val).rd (if k.val = 1 then 0x021B else 0x021C) p.val =
    (s.rd (if k.val = 1 then 0x021B else 0x021C) p.val + 1) % 2 ^ 32 ∧
    ((s.ramp p.val).dir ≠ 0 → (s.startRamp p.val k.val).rd 0x0214 p.val = s.rd 0x0214 p.val ∧
      ((s.startRamp p.val k.val).ramp p.val).dir = k.val)) ∧
  (∀ (s : State) (el : Nat) (p : PlaneNo) (x : BitVec 128), s.isOn p.val = true → s.rd 0x0213 0 = 0 ∨ s.stageAtLeast 2 = false →
    s.rd 0x0214 p.val = 4 →
    ∃ t, exec (.loadMeasurement el p x) s = .next t ∧ t.rd 0x0215 p.val = 4 ∧ t.rd 0x0214 p.val = 4 ∧ (t.ramp p.val).below = none ∧
      SameBut ((0x0215, p.val) :: (List.range 8).map (fun k => (0x021A, 8 * p.val + k))) s t) ∧
  (∀ (s : State) (el b : Nat) (p : PlaneNo), s.isOn p.val = true → s.rd 0x0213 0 = 1 → s.stageAtLeast 2 = true →
    s.ramp p.val = ⟨0, 0, some b, none, 0⟩ → b + s.rd 0x0219 0 * 400000 ≤ s.clk + el → s.rd 0x0214 p.val = 4 → s.floorDivider = 8 →
    1 ≤ s.rd 0x0217 0 →
    ∃ t, exec (.loadMeasurement el p 0) s = .next t ∧ t.rd 0x0215 p.val = 8 ∧ t.rd 0x0214 p.val = 5 ∧ (t.ramp p.val).dir = 1 ∧
      t.rd 0x021F p.val = 960000 ∧ t.rd 0x021B p.val = (s.rd 0x021B p.val + 1) % 2 ^ 32) ∧
  (∀ (s : State) (el : Nat) (p : PlaneNo) (x : BitVec 128), s.isOn p.val = true → s.rd 0x0213 0 = 1 → s.stageAtLeast 2 = true →
    (s.ramp p.val).dir = 0 → s.rd 0x0214 p.val = 8 → s.rd 0x0218 0 * 1200 < x.toNat % 2 ^ 16 * 100 →
    ∃ t, exec (.loadMeasurement el p x) s = .next t ∧ t.rd 0x0214 p.val = 7 ∧ (t.ramp p.val).dir = 2 ∧
      t.rd 0x021C p.val = (s.rd 0x021C p.val + 1) % 2 ^ 32) ∧
  (∀ (s : State) (el : Nat) (p : PlaneNo), s.isOn p.val = false ∨ (s.ramp p.val).dir = 0 ∨
    s.clk + el < (s.ramp p.val).stepAt + 1600 →
    exec (.dividerRampStep el p) s = .next (s.tick el)) ∧
  (∀ (s : State) (el : Nat) (p : PlaneNo), s.isOn p.val = true → (s.ramp p.val).dir ≠ 0 → (s.ramp p.val).stepAt + 1600 ≤ s.clk + el →
    exec (.dividerRampStep el p) s = .next (s.ran el ((s.tick el).rampStep p.val))) ∧
  (∀ (s : State) (el : Nat) (p : PlaneNo), s.isOn p.val = true → (s.ramp p.val).dir = 1 → (s.ramp p.val).stepAt + 1600 ≤ s.clk + el →
    s.rd 0x0214 p.val + 1 = s.rd 0x0215 p.val → s.rd 0x0215 p.val ≤ 8 →
    ∃ t, exec (.dividerRampStep el p) s = .next t ∧ t.rd 0x0214 p.val = s.rd 0x0215 p.val ∧ (t.ramp p.val).dir = 0 ∧
      t.rd 0x021F p.val = 4800000 / s.rd 0x0215 p.val) ∧
  (∀ (s : State) (el : Nat) (p : PlaneNo), s.isOn p.val = true → (s.ramp p.val).dir = 2 → (s.ramp p.val).stepAt + 1600 ≤ s.clk + el →
    5 < s.rd 0x0214 p.val → s.rd 0x0214 p.val ≤ 8 →
    ∃ t, exec (.dividerRampStep el p) s = .next t ∧ t.rd 0x0214 p.val = s.rd 0x0214 p.val - 1 ∧ (t.ramp p.val).dir = 2 ∧
      (t.ramp p.val).stepAt = s.clk + el ∧ t.rd 0x021F p.val = 4800000 / (s.rd 0x0214 p.val - 1)) ∧
  (∀ (s : State) (el : Nat) (p : PlaneNo), s.isOn p.val = true → (s.ramp p.val).dir = 3 → (s.ramp p.val).stepAt + 1600 ≤ s.clk + el →
    4 ≤ s.rd 0x0215 p.val → s.rd 0x0215 p.val < s.rd 0x0214 p.val → s.rd 0x0214 p.val ≤ 8 →
    ∃ t, exec (.dividerRampStep el p) s = .next t ∧ t.rd 0x0214 p.val = s.rd 0x0214 p.val - 1 ∧
      (t.ramp p.val).dir = (if s.rd 0x0214 p.val - 1 = s.rd 0x0215 p.val then 0 else 3) ∧
      t.rd 0x021F p.val = 4800000 / (s.rd 0x0214 p.val - 1)) ∧
  (∀ (s : State) (el : Nat) (p : PlaneNo), s.isOn p.val = true → (s.ramp p.val).dir = 1 → (s.ramp p.val).stepAt + 1600 ≤ s.clk + el →
    s.rd 0x0214 p.val + 1 < s.rd 0x0215 p.val → s.rd 0x0215 p.val ≤ 8 →
    ∃ t, exec (.dividerRampStep el p) s = .next t ∧ t.rd 0x0214 p.val = s.rd 0x0214 p.val + 1 ∧ (t.ramp p.val).dir = 1 ∧
      (t.ramp p.val).stepAt = s.clk + el ∧ t.rd 0x021F p.val = 4800000 / (s.rd 0x0214 p.val + 1)) ∧
  (∀ (s : State) (el : Nat) (p : PlaneNo), s.isOn p.val = true → (s.ramp p.val).dir = 2 → (s.ramp p.val).stepAt + 1600 ≤ s.clk + el →
    s.rd 0x0214 p.val = 5 →
    ∃ t, exec (.dividerRampStep el p) s = .next t ∧ t.rd 0x0214 p.val = 4 ∧ (t.ramp p.val).dir = 0 ∧ t.rd 0x021F p.val = 1200000) ∧
  (∀ (s : State) (el at0 : Nat) (k : Fin 16) (nm nr : BitVec 64), Tab.find? s.clocks.meters k.val = some at0 →
    at0 + s.rd 0x0222 k.val * 400000 ≤ s.clk + el → s.isOn (10 + k.val / 8) = true → s.meterSource (s.rd 0x0220 k.val) = true →
    s.meterSource (s.rd 0x0221 k.val) = true → nr ≠ 0 → s.rd 0x0223 k.val ≠ 2 → s.rd 0x0226 k.val ≠ 3 →
    ∃ t, exec (.meterMeasurementComplete el k nm nr) s = .next t ∧ t.rd 0x0226 k.val = 2 ∧
      t.rd 0x0225 k.val = (nm.toNat * meterNominal (s.rd 0x0221 k.val) * 1000 / nr.toNat) % 2 ^ 64 ∧
      t.rd 0x0224 k.val = unsignedOf 64 (floorDiv ((nm.toNat * meterNominal (s.rd 0x0221 k.val) * 1000000000000 : Nat) : Int)
        ((nr.toNat * meterNominal (s.rd 0x0220 k.val) : Nat) : Int) - 1000000000000) ∧
      t.rd 0x0227 k.val = (s.rd 0x0227 k.val + 1) % 2 ^ 32 ∧ Tab.find? t.clocks.meters k.val = none ∧
      SameBut [(0x0224, k.val), (0x0225, k.val), (0x0226, k.val), (0x0227, k.val)] s t) ∧
  (∀ (s : State) (el at0 : Nat) (k : Fin 16) (nm nr : BitVec 64), Tab.find? s.clocks.meters k.val = some at0 →
    at0 + s.rd 0x0222 k.val * 400000 ≤ s.clk + el → s.isOn (10 + k.val / 8) = true → s.meterSource (s.rd 0x0220 k.val) = true →
    s.meterSource (s.rd 0x0221 k.val) = true → nr ≠ 0 → s.rd 0x0223 k.val = 2 → s.rd 0x0226 k.val ≠ 3 →
    s.gateShut (10 + k.val / 8) 7 = false →
    ∃ t, exec (.meterMeasurementComplete el k nm nr) s = .next t ∧ t.rd 0x0226 k.val = 1 ∧
      t.rd 0x0225 k.val = (nm.toNat * meterNominal (s.rd 0x0221 k.val) * 1000 / nr.toNat) % 2 ^ 64 ∧
      Tab.find? t.clocks.meters k.val = some (s.clk + el) ∧ t.rd 0x0227 k.val = (s.rd 0x0227 k.val + 1) % 2 ^ 32) ∧
  (∀ (s : State) (el at0 : Nat) (k : Fin 16) (nm nr : BitVec 64), Tab.find? s.clocks.meters k.val = some at0 →
    at0 + s.rd 0x0222 k.val * 400000 ≤ s.clk + el → s.isOn (10 + k.val / 8) = true →
    s.meterSource (s.rd 0x0220 k.val) = false ∨ s.meterSource (s.rd 0x0221 k.val) = false → s.rd 0x0223 k.val ≠ 2 → s.rd 0x0226 k.val ≠ 3 →
    exec (.meterMeasurementComplete el k nm nr) s = .next (s.ran el (((s.tick el).updClocks (fun q => { q with
      meters := Tab.del q.meters k.val })).wr 0x0226 k.val 3))) ∧
  (∀ (s : State) (el at0 : Nat) (k : Fin 16) (nm nr : BitVec 64), Tab.find? s.clocks.meters k.val = some at0 →
    at0 + s.rd 0x0222 k.val * 400000 ≤ s.clk + el → s.isOn (10 + k.val / 8) = true →
    s.meterSource (s.rd 0x0220 k.val) = false ∨ s.meterSource (s.rd 0x0221 k.val) = false → s.rd 0x0223 k.val = 2 →
    s.gateShut (10 + k.val / 8) 7 = false →
    ∃ t, exec (.meterMeasurementComplete el k nm nr) s = .next t ∧ t.rd 0x0226 k.val = 3 ∧
      Tab.find? t.clocks.meters k.val = some (s.clk + el) ∧ SameBut [(0x0226, k.val)] s t) ∧
  (∀ (s : State) (el at0 : Nat) (k : Fin 16) (nm nr : BitVec 64), Tab.find? s.clocks.meters k.val = some at0 →
    s.clk + el < at0 + s.rd 0x0222 k.val * 400000 ∨ s.isOn (10 + k.val / 8) = false →
    exec (.meterMeasurementComplete el k nm nr) s = .next (s.tick el)) ∧
  (∀ (s : State) (el : Nat) (k : Fin 16) (nm nr : BitVec 64), Tab.find? s.clocks.meters k.val = none →
    exec (.meterMeasurementComplete el k nm nr) s = .next (s.tick el)) ∧
  (∀ (s : State) (el : Nat) (q : Req), Ready s q roleSite → FullService s → s.mirrorBars = false → q.flashOk = true →
    q.inst.toNat < 192 → q.data.length = 1 → beNat q.data ≤ 2 → beNat q.data ≠ 2 ∨ s.blockInUse q.inst.toNat = false →
    s.rd 0x0228 q.inst.toNat ≠ 2 ∨ beNat q.data = 2 ∨ gateExists q.inst.toNat = false →
    ∃ t, exec (.gateControlSet el q) s = .next t ∧ t.rd 0x0228 q.inst.toNat = beNat q.data ∧
      Tab.find? t.clocks.closing q.inst.toNat = (if s.gateState q.inst.toNat = 2 ∧ beNat q.data ≠ 1 ∧
        (beNat q.data = 0 → s.blockInUse q.inst.toNat = false) ∧ s.accessing (q.inst.toNat / 16) ≠ [] then some (s.clk + el)
        else Tab.find? s.clocks.closing q.inst.toNat) ∧
      Answers s t q 0x02 stOk 0x0228 q.inst.toNat [] [(0x0228, q.inst.toNat)]) ∧
  (∀ (s : State) (el : Nat) (q : Req), Ready s q roleSite → FullService s → s.mirrorBars = false → q.flashOk = true →
    q.inst.toNat < 192 → q.data.length = 1 → beNat q.data ≤ 2 → beNat q.data ≠ 2 → s.rd 0x0228 q.inst.toNat = 2 → gateExists q.inst.toNat = true →
    ∃ t, exec (.gateControlSet el q) s = .next t ∧ t.rd 0x0228 q.inst.toNat = beNat q.data ∧
      t.out = s.out ++ (answer q 0x02 stOk 0x0228 q.inst.toNat []).split) ∧
  (∀ (s : State) (el : Nat) (q : Req), Ready s q roleSite → FullService s → q.inst.toNat < 192 → q.data = [2] →
    s.blockInUse q.inst.toNat = true →
    ∃ t, exec (.gateControlSet el q) s = .next t ∧ t.clocks = s.clocks ∧
      Answers s t q 0x02 stInterlock 0x0228 q.inst.toNat [] []) ∧
  (∀ (s : State) (g : Fin 192), s.gateState g.val = if gateExists g.val = false then 4
    else if (Tab.find? s.clocks.closing g.val).isSome then 3
    else if s.isOn (g.val / 16) = true ∧ (s.rd 0x0228 g.val = 1 ∨ (s.rd 0x0228 g.val = 0 ∧ s.blockInUse g.val = true)) then 2 else 0) ∧
  (∀ (s : State) (el at0 : Nat) (g : Fin 192), Tab.find? s.clocks.closing g.val = some at0 → at0 + 512 ≤ s.clk + el →
    ∃ t, exec (.forcedGateClose el g) s = .next t ∧
      (∀ n ∈ s.accessing (g.val / 16), t.chanState n = 4 ∧ t.rd 0x380E n = 5) ∧
      t.rd 0x022A g.val = (s.rd 0x022A g.val + 1) % 2 ^ 32 ∧ Faulted t 197 ∧ Tab.find? t.clocks.closing g.val = none ∧
      t.drawn = s.drawn + (s.accessing (g.val / 16)).length) ∧
  (∀ (s : State) (el at0 : Nat) (g : Fin 192), Tab.find? s.clocks.closing g.val = some at0 → s.clk + el < at0 + 512 →
    exec (.forcedGateClose el g) s = .next (s.tick el)) ∧
  (∀ (s : State) (el : Nat) (g : Fin 192), Tab.find? s.clocks.closing g.val = none → exec (.forcedGateClose el g) s = .next (s.tick el))

/-- Sessions: opened by certificate or enrolment, refused, closed, timed out; PENDING and malformed requests. With no trust anchor
installed a connection on M0 takes session 0 to enrol; one in band, or while a session is open or within 10 s of a failed enrolment,
is answered AUTH. With an anchor, a certificate in time in a role that its anchor allows takes the lowest free session, and gets OK
from the active controller and NOT_ACTIVE from the standby; with no session free, or with only the site reserve, it is answered
BUSY; a role that the anchor does not allow AUTH; a chain that does not verify is counted; 16 such failures within 60 s set fault
bit 210. An enrolment session's first request must carry the code: with it the answer is OK, and any other is answered AUTH, the
session closes and no enrolment starts for 10 s. After the code FENCE is answered AUTH, and the first anchor written closes the
session after its answer. Outside enrolment PID 040Ah answers AUTH. A session that closes loses its bundle, iteration,
subscriptions, its bulk loads and its firmware stage, and its requests; no other session changes. After the idle timeout a session
with no tag outstanding closes, counted. A request that has waited 100 ms gets PENDING once. A wrong magic number closes the
session, counted; an overlong payload answers RANGE; another malformed header answers RANGE and is counted, or is discarded and
counted where its tag is outstanding; a fragment unlike the first one ends its request with RANGE, and the fragments after it are
discarded without a response. (R434, R435, R436, R437, R438, R442, R443, R447, R455, R462, PID 0415h, PID 0416h.) -/
def Obligations.SessionsOpenEnrolAndClose : Prop :=
  (∀ (s : State) (el : Nat) (c : CtlNo) (x : Option Client), s.listens c.val = false ∨ s.stageAtLeast 1 = false →
    exec (.sessionOpen el c true x) s = .next (s.tick el)) ∧
  (∀ (s : State) (el : Nat) (c : CtlNo), s.listens c.val = true → s.stageAtLeast 1 = true → s.enrolled = false →
    s.freeSessions c.val = [0, 1, 2, 3] → s.enrolBar ≤ s.clk + el → s.holder = some c.val →
    ∃ t, exec (.sessionOpen el c true none) s = .next t ∧
      t.session (4 * c.val) = { Session.init with
        isOpen := true, gen := (s.session (4 * c.val)).gen, role := roleSite, enrol := .awaited, heard := s.clk + el } ∧
      t.out.dropLast = s.out ∧
      t.out.getLast?.map (fun m => (m.ctl, m.flags, m.session, m.op, m.status)) = some (c.val, 0xE0, 0, 0x7F, stOk)) ∧
  (∀ (s : State) (el : Nat) (c : CtlNo) (m0 : Bool) (x : Option Client), s.listens c.val = true → s.stageAtLeast 1 = true → s.enrolled = false →
    m0 = false ∨ s.freeSessions c.val ≠ [0, 1, 2, 3] ∨ s.clk + el < s.enrolBar →
    ∃ t, exec (.sessionOpen el c m0 x) s = .next t ∧ t.sessions = s.sessions ∧ t.regs = s.regs ∧ t.out.dropLast = s.out ∧
      t.out.getLast?.map (fun m => (m.ctl, m.flags, m.session, m.op, m.status)) = some (c.val, 0xE0, 0xFF, 0x7F, stAuth)) ∧
  (∀ (s : State) (el : Nat) (c : CtlNo) (m0 : Bool) (x : Client) (r : Byte) (j : Fin 4), s.listens c.val = true →
    s.stageAtLeast 1 = true → s.enrolled = true → s.rd 0x0408 x.anchor.val ≠ 0 → (s.tick el).certInTime c.val x = true →
    x.role = some r → roleExists r.toNat = true → (s.rd 0x0409 x.anchor.val).testBit (roleBit r.toNat) = true →
    (s.freeSessions c.val).head? = some j.val →
    (s.freeSessions c.val).length ≠ 1 ∨ r.toNat = roleSite ∨ s.rd 0x040D 0 = 0 ∨
      ((List.range 4).any (fun i => (s.session (4 * c.val + i)).isOpen && (s.session (4 * c.val + i)).role == roleSite)) = true →
    ∃ t, exec (.sessionOpen el c m0 (some x)) s = .next t ∧
      t.session (4 * c.val + j.val) = { Session.init with
        isOpen := true, gen := (s.session (4 * c.val + j.val)).gen, role := r.toNat, heard := s.clk + el } ∧
      (∀ k : Fin 8, k.val ≠ 4 * c.val + j.val → t.session k.val = s.session k.val) ∧
      (s.holder = some c.val → t.rd 0x0410 j.val = x.fingerprint.toNat ∧ t.rd 0x0411 j.val = x.address.toNat) ∧
      t.out.dropLast = s.out ∧ t.out.getLast?.map (fun m => (m.ctl, m.flags, m.session, m.op, m.status)) =
        some (c.val, 0xE0, j.val, 0x7F, if s.holder = some c.val then stOk else stNotActive)) ∧
  (∀ (s : State) (el : Nat) (c : CtlNo) (m0 : Bool) (x : Client) (r : Byte), s.listens c.val = true →
    s.stageAtLeast 1 = true → s.enrolled = true → s.rd 0x0408 x.anchor.val ≠ 0 → (s.tick el).certInTime c.val x = true →
    x.role = some r → roleExists r.toNat = true → (s.rd 0x0409 x.anchor.val).testBit (roleBit r.toNat) = true →
    s.freeSessions c.val = [] ∨ ((s.freeSessions c.val).length = 1 ∧ r.toNat ≠ roleSite ∧ s.rd 0x040D 0 = 1 ∧
      ((List.range 4).any (fun i => (s.session (4 * c.val + i)).isOpen && (s.session (4 * c.val + i)).role == roleSite)) = false) →
    ∃ t, exec (.sessionOpen el c m0 (some x)) s = .next t ∧ t.sessions = s.sessions ∧
      t.rd 0x0416 2 = (s.rd 0x0416 2 + 1) % 2 ^ 32 ∧ SameBut [(0x0416, 2)] s t ∧ t.out.dropLast = s.out ∧
      t.out.getLast?.map (fun m => (m.ctl, m.flags, m.session, m.op, m.status)) = some (c.val, 0xE0, 0xFF, 0x7F, stBusy)) ∧
  (∀ (s : State) (el : Nat) (c : CtlNo) (m0 : Bool) (x : Client), s.listens c.val = true → s.stageAtLeast 1 = true →
    s.enrolled = true → s.rd 0x0408 x.anchor.val ≠ 0 → (s.tick el).certInTime c.val x = true →
    (x.role.any (fun r => roleExists r.toNat && (s.rd 0x0409 x.anchor.val).testBit (roleBit r.toNat))) = false →
    ∃ t, exec (.sessionOpen el c m0 (some x)) s = .next t ∧ t.sessions = s.sessions ∧
      t.rd 0x0416 1 = (s.rd 0x0416 1 + 1) % 2 ^ 32 ∧ t.out.dropLast = s.out ∧
      (16 ≤ ((s.clk + el) :: s.authFails).countP (fun h => decide (s.clk + el < h + 24000000000)) → Faulted t 210) ∧
      t.out.getLast?.map (fun m => (m.ctl, m.flags, m.session, m.op, m.status)) = some (c.val, 0xE0, 0xFF, 0x7F, stAuth)) ∧
  (∀ (s : State) (el : Nat) (c : CtlNo) (m0 : Bool) (q : Option Client), s.listens c.val = true → s.stageAtLeast 1 = true →
    s.enrolled = true → (q.all (fun x => s.rd 0x0408 x.anchor.val == 0 || !(s.tick el).certInTime c.val x)) = true →
    ∃ t, exec (.sessionOpen el c m0 q) s = .next t ∧ t.rd 0x0416 0 = (s.rd 0x0416 0 + 1) % 2 ^ 32 ∧ t.sessions = s.sessions ∧
      (16 ≤ ((s.clk + el) :: s.authFails).countP (fun h => decide (s.clk + el < h + 24000000000)) → Faulted t 210) ∧
      t.out = s.out) ∧
  (∀ (s : State) (el : Nat) (q : Req), Serves s q.ctl.val → FullService s → (s.session (Req.key q)).isOpen = true →
    (s.session (Req.key q)).enrol = .awaited → (s.session (Req.key q)).skip.contains q.tag.toNat = false →
    q.inst = 0 → q.data = toBytes 16 Config.enrolmentCode.toNat →
    ∃ t, exec (.enrolmentCode el q) s = .next t ∧ (t.session (Req.key q)).enrol = .given ∧ (t.session (Req.key q)).isOpen = true ∧
      Answers s t q 0x02 stOk 0x040A 0 [] []) ∧
  (∀ (s : State) (el : Nat) (q : Req), Serves s q.ctl.val → FullService s → (s.session (Req.key q)).isOpen = true →
    (s.session (Req.key q)).enrol = .awaited → (s.session (Req.key q)).skip.contains q.tag.toNat = false →
    q.inst ≠ 0 ∨ q.data.length ≠ 16 ∨ beNat q.data ≠ Config.enrolmentCode.toNat → q.data.length ≤ 65536 →
    ∃ t, exec (.enrolmentCode el q) s = .next t ∧
      (16 ≤ ((s.clk + el) :: s.authFails).countP (fun h => decide (s.clk + el < h + 24000000000)) → Faulted t 210) ∧
      t.session (Req.key q) = (s.session (Req.key q)).closed ∧
      t.enrolBar = s.clk + el + 4000000000 ∧ Answers s t q 0x02 stAuth 0x040A q.inst.toNat [] [(0x1440, q.sess.val), (0x000A, 0), (0x3E03, 0), (0x3E04, 0)]) ∧
  (∀ (s : State) (el : Nat) (q : Req) (p : BitVec 16), Serves s q.ctl.val → FullService s → (s.session (Req.key q)).isOpen = true →
    (s.session (Req.key q)).enrol = .awaited → (s.session (Req.key q)).skip.contains q.tag.toNat = false → q.data.length ≤ 65536 →
    ∃ t, exec (.get el q p) s = .next t ∧ t.session (Req.key q) = (s.session (Req.key q)).closed ∧
      t.enrolBar = s.clk + el + 4000000000 ∧ Answers s t q 0x01 stAuth p.toNat q.inst.toNat [] [(0x1440, q.sess.val), (0x000A, 0)]) ∧
  (∀ (s : State) (el : Nat) (q : Req), Serves s q.ctl.val → FullService s → (s.session (Req.key q)).isOpen = true →
    (s.session (Req.key q)).enrol = .given → (s.session (Req.key q)).skip.contains q.tag.toNat = false → q.data.length ≤ 65536 →
    ∃ t, exec (.fence el q) s = .next t ∧ (t.session (Req.key q)).isOpen = true ∧ Answers s t q 0x06 stAuth 0 0 [] []) ∧
  (∀ (s : State) (el : Nat) (q : Req), Serves s q.ctl.val → FullService s → s.mirrorBars = false → q.flashOk = true → s.enrolled = false →
    (s.session (Req.key q)).isOpen = true → (s.session (Req.key q)).role = roleSite → (s.session (Req.key q)).enrol = .given →
    (s.session (Req.key q)).skip.contains q.tag.toNat = false → q.inst.toNat < 4 → q.data.length = 2048 → beNat q.data ≠ 0 →
    ∃ t, exec (.set el q 0x0408) s = .next t ∧ t.session (Req.key q) = (s.session (Req.key q)).closed ∧
      t.rd 0x0408 q.inst.toNat = beNat q.data ∧ t.enrolled = true ∧
      t.out = s.out ++ (answer q 0x02 stOk 0x0408 q.inst.toNat []).split) ∧
  (∀ (s : State) (el : Nat) (q : Req), Ready s q roleSite → FullService s → q.inst = 0 → q.data.length = 16 →
    ∃ t, exec (.enrolmentCode el q) s = .next t ∧ Answers s t q 0x02 stAuth 0x040A 0 [] []) ∧
  (∀ (s : State) (el : Nat) (c : CtlNo) (n : Fin 4), Serves s c.val →
    ∃ t, exec (.sessionClose el c n) s = .next t ∧ t.session (4 * c.val + n.val) = (s.session (4 * c.val + n.val)).closed ∧
      (∀ k : Fin 8, k.val ≠ 4 * c.val + n.val → t.session k.val = s.session k.val) ∧ t.out = s.out ∧
      t.bulks = s.bulks.filter (fun b => b.finished || b.who.key != 4 * c.val + n.val ||
        b.who.gen != (s.session (4 * c.val + n.val)).gen) ∧
      (if s.fw.stager.any (fun x => x.key == 4 * c.val + n.val && x.gen == (s.session (4 * c.val + n.val)).gen)
        then t.fw.stager = none ∧ t.fw.image = [] else t.fw = s.fw) ∧
      t.rd 0x1440 n.val = 0xFFFFFFFF ∧ SameBut [(0x1440, n.val), (0x000A, 0)] s t) ∧
  (∀ (s : State) (el : Nat) (c : CtlNo) (n : Fin 4), (s.session (4 * c.val + n.val)).isOpen = true →
    (s.session (4 * c.val + n.val)).requests = [] →
    (s.session (4 * c.val + n.val)).heard + s.rd 0x040C 0 * 400000000 ≤ s.clk + el →
    ∃ t, exec (.idleTimeout el c n) s = .next t ∧ t.session (4 * c.val + n.val) = (s.session (4 * c.val + n.val)).closed ∧
      (∀ k : Fin 8, k.val ≠ 4 * c.val + n.val → t.session k.val = s.session k.val) ∧ t.out = s.out ∧
      t.rd 0x0416 3 = (s.rd 0x0416 3 + 1) % 2 ^ 32 ∧ SameBut [(0x0416, 3), (0x1440, n.val), (0x000A, 0)] s t) ∧
  (∀ (s : State) (el : Nat) (c : CtlNo) (n : Fin 4), (s.session (4 * c.val + n.val)).isOpen = false ∨
    (s.session (4 * c.val + n.val)).requests ≠ [] ∨ s.clk + el < (s.session (4 * c.val + n.val)).heard + s.rd 0x040C 0 * 400000000 →
    exec (.idleTimeout el c n) s = .next (s.tick el)) ∧
  (∀ (s : State) (el : Nat) (c : CtlNo) (n : Fin 4) (tag : Byte) (r : Request), (s.session (4 * c.val + n.val)).request tag.toNat = some r →
    (s.session (4 * c.val + n.val)).isOpen = true → s.serving c.val = true → r.last = true → r.accepted = false →
    r.pendingSent = false → r.since + 40000000 ≤ s.clk + el →
    ∃ t, exec (.pendingTimer el c n tag) s = .next t ∧
      t.out = s.out ++ [⟨c.val, 0xA0, n.val, tag.toNat, r.op, stPending, r.pid, r.inst, []⟩] ∧
      ((t.session (4 * c.val + n.val)).requests.all (fun y => y.tag != tag.toNat || y.pendingSent)) = true ∧
      SameBut [(0x0414, 2 * n.val + 1)] s t) ∧
  (∀ (s : State) (el : Nat) (c : CtlNo) (n : Fin 4) (tag : Byte) (r : Request), (s.session (4 * c.val + n.val)).request tag.toNat = some r →
    r.pendingSent = true ∨ r.accepted = true ∨ r.last = false ∨ s.serving c.val = false ∨
      (s.session (4 * c.val + n.val)).isOpen = false ∨ s.clk + el < r.since + 40000000 →
    exec (.pendingTimer el c n tag) s = .next (s.tick el)) ∧
  (∀ (s : State) (el : Nat) (c : CtlNo) (n : Fin 4) (tag : Byte), (s.session (4 * c.val + n.val)).request tag.toNat = none →
    exec (.pendingTimer el c n tag) s = .next (s.tick el)) ∧
  (∀ (s : State) (el : Nat) (c : CtlNo) (n : Fin 4) (tag op : Byte) (p : BitVec 16) (i : BitVec 32),
    (s.session (4 * c.val + n.val)).isOpen = true → s.listens c.val = true →
    ∃ t, exec (.malformedRequest el c n tag op p i .magic) s = .next t ∧
      t.session (4 * c.val + n.val) = (s.session (4 * c.val + n.val)).closed ∧
      (s.holder = some c.val → t.rd 0x0415 (3 * n.val) = (s.rd 0x0415 (3 * n.val) + 1) % 2 ^ 32) ∧ t.out = s.out) ∧
  (∀ (s : State) (el : Nat) (c : CtlNo) (n : Fin 4) (tag op : Byte) (p : BitVec 16) (i : BitVec 32),
    (s.session (4 * c.val + n.val)).isOpen = true → s.listens c.val = true → s.holder = some c.val →
    ∃ t, exec (.malformedRequest el c n tag op p i .length) s = .next t ∧
      t.out = s.out ++ [⟨c.val, 0xA0, n.val, tag.toNat, op.toNat, stRange, p.toNat, i.toNat, []⟩] ∧
      SameBut [(0x0414, 2 * n.val), (0x0414, 2 * n.val + 1)] s t) ∧
  (∀ (s : State) (el : Nat) (c : CtlNo) (n : Fin 4) (tag op : Byte) (p : BitVec 16) (i : BitVec 32),
    (s.session (4 * c.val + n.val)).isOpen = true → s.listens c.val = true → s.holder = some c.val →
    (s.session (4 * c.val + n.val)).request tag.toNat = none →
    ∃ t, exec (.malformedRequest el c n tag op p i .header) s = .next t ∧
      t.out = s.out ++ [⟨c.val, 0xA0, n.val, tag.toNat, op.toNat, stRange, p.toNat, i.toNat, []⟩] ∧
      t.rd 0x0415 (3 * n.val) = (s.rd 0x0415 (3 * n.val) + 1) % 2 ^ 32) ∧
  (∀ (s : State) (el : Nat) (c : CtlNo) (n : Fin 4) (tag op : Byte) (p : BitVec 16) (i : BitVec 32) (kind : Malformed),
    (s.session (4 * c.val + n.val)).isOpen = false ∨ s.listens c.val = false →
    exec (.malformedRequest el c n tag op p i kind) s = .next (s.tick el)) ∧
  (∀ (s : State) (el : Nat) (c : CtlNo) (n : Fin 4) (tag op : Byte) (p : BitVec 16) (i : BitVec 32) (r : Request),
    (s.session (4 * c.val + n.val)).isOpen = true → s.listens c.val = true → s.holder = some c.val →
    (s.session (4 * c.val + n.val)).request tag.toNat = some r →
    ∃ t, exec (.malformedRequest el c n tag op p i .header) s = .next t ∧ t.out = s.out ∧
      (t.session (4 * c.val + n.val)).requests = (s.session (4 * c.val + n.val)).requests ∧
      t.rd 0x0415 (3 * n.val + 1) = (s.rd 0x0415 (3 * n.val + 1) + 1) % 2 ^ 32) ∧
  (∀ (s : State) (el : Nat) (c : CtlNo) (n : Fin 4) (tag op : Byte) (p : BitVec 16) (i : BitVec 32) (r : Request),
    s.holder = some c.val → s.serving c.val = true → s.committing = none → s.owed = [] →
    s.sessions = [(4 * c.val + n.val, s.session (4 * c.val + n.val))] → (s.session (4 * c.val + n.val)).isOpen = true →
    (s.session (4 * c.val + n.val)).requests = [r] → r.tag = tag.toNat → r.last = false →
    ∃ t, exec (.malformedRequest el c n tag op p i .fragment) s = .next t ∧
      t.out = s.out ++ [⟨c.val, if r.accepted then 0xE0 else 0xA0, n.val, tag.toNat, r.op, stRange, r.pid, r.inst, []⟩] ∧
      (t.session (4 * c.val + n.val)).requests = [] ∧
      (t.session (4 * c.val + n.val)).skip.contains tag.toNat = true) ∧
  (∀ (s : State) (el : Nat) (q : Req) (last : Bool), (s.session (Req.key q)).isOpen = true → s.listens q.ctl.val = true →
    (s.session (Req.key q)).skip.contains q.tag.toNat = true →
    ∃ t, exec (.fwStage el q last) s = .next t ∧ t.out = s.out ∧ t.fw = s.fw ∧
      (t.session (Req.key q)).requests = (s.session (Req.key q)).requests ∧
      (t.session (Req.key q)).skip.contains q.tag.toNat = !last)

/-- Requests in their order of checks: GET, GET_RANGE and SET of every parameter, FENCE, PING, resets of high-water marks. On a session
that is ready and, unless a role is named, the site operator's. A GET of any parameter that is read and written, held by the module
or in a domain that is on behind no closed gate, answers its value at its size, a bundle parameter's being the active slot's; RC is
read as it stands. A GET in a domain without power is INTERLOCK, one behind a closed gate GATED and counted, and a GET with a
payload RANGE. A PID that does not exist or, for a GET, is written only, answers BAD_PID, an instance that its selector does not
produce BAD_INSTANCE, a SET of a read-only one READ_ONLY, a payload of another length or a value out of range RANGE, and a SET that
the role may not make AUTH, each changing nothing else. A range answers its values up to the first instance that does not exist; a
count of 0 or above 65,536 is RANGE. A SET of a bundle parameter is held in the session's bundle; a stored parameter of the groups
below 08h (but for the gate control) is written to the module and to both flashes, the record's generation raised by one; with a
failed flash write it is INTERNAL, and with no mirrored standby BUSY. A write-one-to-clear parameter loses the bits written as 1. A
fenced request waits for the requests before it, and FENCE answers once none is left. PING answers its payload of at most 64 bytes
and DT. A SET of 0 resets each high-water mark, and another value is RANGE. (R439, R445, R449, R450, R489, R491, R493, R494, R498,
R501, PID 0201h.) -/
def Obligations.RequestsReadAndWriteParameters : Prop :=
  (∀ (s : State) (el : Nat) (q : Req) (p : BitVec 16) (row : Row), Ready s q roleSite → FullService s →
    Catalogue.row? p.toNat = some row → row.acc = .rw → row.cls ≠ .bundle → row.sel.has q.inst.toNat = true →
    s.readable row q.inst.toNat = true → Ungated s p.toNat q.inst.toNat → q.data = [] →
    ∃ t, exec (.get el q p) s = .next t ∧
      Answers s t q 0x01 stOk p.toNat q.inst.toNat (toBytes row.ty.size (s.rd p.toNat q.inst.toNat)) []) ∧
  (∀ (s : State) (el : Nat) (q : Req) (p : BitVec 16) (row : Row), Ready s q roleSite → FullService s →
    Catalogue.row? p.toNat = some row → row.acc = .rw → row.cls = .bundle → row.sel.has q.inst.toNat = true → q.data = [] →
    s.readable row q.inst.toNat = true → Ungated s p.toNat q.inst.toNat →
    ∃ t, exec (.get el q p) s = .next t ∧ Answers s t q 0x01 stOk p.toNat q.inst.toNat
      (toBytes row.ty.size (imageCfg (s.slot s.activeSlot).image p.toNat q.inst.toNat)) []) ∧
  (∀ (s : State) (el : Nat) (q : Req), Ready s q roleSite → FullService s → q.inst = 0 → q.data = [] →
    ∃ t, exec (.get el q 0x3000) s = .next t ∧ Answers s t q 0x01 stOk 0x3000 0 (toBytes 9 (s.tickRC el % 2 ^ 72)) []) ∧
  (∀ (s : State) (el : Nat) (q : Req) (p : BitVec 16), Ready s q roleSite → FullService s → Catalogue.row? p.toNat = none →
    q.data.length ≤ 65536 →
    ∃ t, exec (.get el q p) s = .next t ∧ Answers s t q 0x01 stBadPid p.toNat q.inst.toNat [] []) ∧
  (∀ (s : State) (el : Nat) (q : Req) (p : BitVec 16) (row : Row), Ready s q roleSite → FullService s →
    Catalogue.row? p.toNat = some row → row.acc = .wo → q.data.length ≤ 65536 →
    ∃ t, exec (.get el q p) s = .next t ∧ Answers s t q 0x01 stBadPid p.toNat q.inst.toNat [] []) ∧
  (∀ (s : State) (el : Nat) (q : Req) (p : BitVec 16) (row : Row), Ready s q roleSite → FullService s →
    Catalogue.row? p.toNat = some row → row.acc ≠ .wo → row.sel.has q.inst.toNat = true → p.toNat ≠ 0x010D →
    q.data ≠ [] → q.data.length ≤ 65536 →
    ∃ t, exec (.get el q p) s = .next t ∧ Answers s t q 0x01 stRange p.toNat q.inst.toNat [] []) ∧
  (∀ (s : State) (el : Nat) (q : Req) (p : BitVec 16) (row : Row), Ready s q roleSite → FullService s →
    Catalogue.row? p.toNat = some row → row.acc ≠ .wo → row.sel.has q.inst.toNat = true → q.data = [] →
    s.readable row q.inst.toNat = false →
    ∃ t, exec (.get el q p) s = .next t ∧ Answers s t q 0x01 stInterlock p.toNat q.inst.toNat [] []) ∧
  (∀ (s : State) (el n : Nat) (q : Req) (p : BitVec 16) (row : Row), Ready s q roleSite → FullService s →
    Catalogue.row? p.toNat = some row → row.acc ≠ .wo → row.sel.has q.inst.toNat = true → q.data = [] →
    s.readable row q.inst.toNat = true → s.gated row p.toNat q.inst.toNat = some n →
    ∃ t, exec (.get el q p) s = .next t ∧ t.rd 0x022B n = (s.rd 0x022B n + 1) % 2 ^ 32 ∧
      Answers s t q 0x01 stGated p.toNat q.inst.toNat [] [(0x022B, n)]) ∧
  (∀ (s : State) (el : Nat) (q : Req) (p : BitVec 16) (row : Row), Ready s q roleSite → FullService s →
    Catalogue.row? p.toNat = some row → row.acc ≠ .wo → row.sel.has q.inst.toNat = false → q.data.length ≤ 65536 →
    ∃ t, exec (.get el q p) s = .next t ∧ Answers s t q 0x01 stBadInstance p.toNat q.inst.toNat [] []) ∧
  (∀ (s : State) (el : Nat) (q : Req) (p : BitVec 16) (row : Row), Ready s q roleSite → FullService s →
    Catalogue.row? p.toNat = some row → row.acc = .ro → row.sel.has q.inst.toNat = true → q.data.length ≤ 65536 →
    ∃ t, exec (.set el q p) s = .next t ∧ Answers s t q 0x02 stReadOnly p.toNat q.inst.toNat [] []) ∧
  (∀ (s : State) (el role : Nat) (q : Req) (p : BitVec 16) (row : Row), Ready s q role → FullService s →
    Catalogue.row? p.toNat = some row → row.sel.has q.inst.toNat = true → q.data.length ≤ 65536 → p.toNat ≠ 0x010D →
    s.mayWrite role p.toNat q.inst.toNat (beNat q.data) = false →
    ∃ t, exec (.set el q p) s = .next t ∧ Answers s t q 0x02 stAuth p.toNat q.inst.toNat [] []) ∧
  (∀ (s : State) (el : Nat) (q : Req) (p : BitVec 16) (row : Row), Ready s q roleSite → FullService s →
    Catalogue.row? p.toNat = some row → row.acc ≠ .ro → row.sel.has q.inst.toNat = true → q.data.length ≤ 65536 →
    p.toNat ≠ 0x2000 → p.toNat ≠ 0x040A → p.toNat ≠ 0x010D → q.data.length ≠ row.ty.size ∨ row.valueOk (beNat q.data) = false →
    ∃ t, exec (.set el q p) s = .next t ∧ Answers s t q 0x02 stRange p.toNat q.inst.toNat [] []) ∧
  (∀ (s : State) (el : Nat) (q : Req) (p : BitVec 16) (row : Row), Ready s q roleSite → FullService s → s.mirrorBars = false → q.flashOk = true →
    Catalogue.row? p.toNat = some row → row.acc = .rw → row.cls = .stored → p.toNat < 0x0800 → p.toNat ≠ 0x0228 →
    row.sel.has q.inst.toNat = true → q.data.length = row.ty.size → row.valueOk (beNat q.data) = true →
    s.lowStatus p.toNat q.inst.toNat (beNat q.data) = stOk →
    ∃ t, exec (.set el q p) s = .next t ∧ t.rd p.toNat q.inst.toNat = beNat q.data ∧
      (∀ c : CtlNo, s.mirrored c.val = true → (t.flashOf c.val).gen = (s.power.recordGen + 1) % 2 ^ 32 ∧
        Tab.get (Catalogue.dflt p.toNat q.inst.toNat) (t.flashOf c.val).stored (regKey p.toNat q.inst.toNat) = beNat q.data) ∧
      Answers s t q 0x02 stOk p.toNat q.inst.toNat [] [(p.toNat, q.inst.toNat)]) ∧
  (∀ (s : State) (el : Nat) (q : Req) (p : BitVec 16) (row : Row), Ready s q roleSite → FullService s → s.mirrorBars = false → q.flashOk = false →
    Catalogue.row? p.toNat = some row → row.acc = .rw → row.cls = .stored → p.toNat < 0x0800 → p.toNat ≠ 0x0228 →
    row.sel.has q.inst.toNat = true → q.data.length = row.ty.size → row.valueOk (beNat q.data) = true →
    s.lowStatus p.toNat q.inst.toNat (beNat q.data) = stOk →
    ∃ t, exec (.set el q p) s = .next t ∧ t.flash = s.flash ∧ Faulted t 211 ∧
      Answers s t q 0x02 stInternal p.toNat q.inst.toNat [] [(0x3E03, 0), (0x3E04, 0)]) ∧
  (∀ (s : State) (el : Nat) (q : Req) (p : BitVec 16) (row : Row), Ready s q roleSite → FullService s → s.mirrorBars = true →
    Catalogue.row? p.toNat = some row → row.acc = .rw → row.cls = .stored → p.toNat < 0x0800 → p.toNat ≠ 0x0228 →
    row.sel.has q.inst.toNat = true → q.data.length = row.ty.size → row.valueOk (beNat q.data) = true →
    s.lowStatus p.toNat q.inst.toNat (beNat q.data) = stOk →
    ∃ t, exec (.set el q p) s = .next t ∧ t.flash = s.flash ∧ Answers s t q 0x02 stBusy p.toNat q.inst.toNat [] []) ∧
  (∀ (s : State) (el : Nat) (q : Req) (p : BitVec 16) (row : Row), Ready s q roleSite → FullService s →
    Catalogue.row? p.toNat = some row → row.acc = .w1c → row.sel.has q.inst.toNat = true → q.data.length = row.ty.size →
    row.valueOk (beNat q.data) = true →
    ∃ t, exec (.set el q p) s = .next t ∧
      t.rd p.toNat q.inst.toNat = s.rd p.toNat q.inst.toNat &&& (2 ^ (8 * row.ty.size) - 1 - beNat q.data) ∧
      Answers s t q 0x02 stOk p.toNat q.inst.toNat [] [(p.toNat, q.inst.toNat)]) ∧
  (∀ (s : State) (el : Nat) (q : Req) (b : Tab Nat), Ready s q roleSite → FullService s → q.inst.toNat < 192 → q.data.length = 2 →
    (s.session (Req.key q)).bundle = some b → Tab.find? b (regKey 0x1018 q.inst.toNat) = none → b.length < 65536 →
    beNat q.data = 0x8000 →
    ∃ t, exec (.set el q 0x1018) s = .next t ∧
      (t.session (Req.key q)).bundle = some (Tab.set b (regKey 0x1018 q.inst.toNat) 0x8000) ∧
      Answers s t q 0x02 stOk 0x1018 q.inst.toNat [] []) ∧
  (∀ (s : State) (el n : Nat) (q : Req) (p : BitVec 16) (row : Row), Ready s q roleSite → FullService s →
    Catalogue.row? p.toNat = some row → row.acc = .rw → row.cls ≠ .bundle → row.home = .ctl → blockOf p.toNat = none →
    row.sel = .upto (q.inst.toNat + n) → q.data = toBytes 4 n → 1 ≤ n → n ≤ 65536 →
    ∃ t, exec (.getRange el q p) s = .next t ∧ Answers s t q 0x03 stOk p.toNat q.inst.toNat
      ((List.range n).flatMap (fun k => toBytes row.ty.size (s.rd p.toNat (q.inst.toNat + k)))) []) ∧
  (∀ (s : State) (el n : Nat) (q : Req) (p : BitVec 16) (row : Row), Ready s q roleSite → FullService s →
    Catalogue.row? p.toNat = some row → row.acc = .rw → row.cls ≠ .bundle → row.home = .ctl → blockOf p.toNat = none →
    row.sel = .upto (q.inst.toNat + n) → q.data = toBytes 4 (n + 1) → 1 ≤ n → n < 65536 →
    ∃ t, exec (.getRange el q p) s = .next t ∧ Answers s t q 0x03 stBadInstance p.toNat q.inst.toNat
      ((List.range n).flatMap (fun k => toBytes row.ty.size (s.rd p.toNat (q.inst.toNat + k)))) []) ∧
  (∀ (s : State) (el : Nat) (q : Req) (p : BitVec 16) (row : Row), Ready s q roleSite → FullService s →
    Catalogue.row? p.toNat = some row → row.acc ≠ .wo → row.sel.has q.inst.toNat = true → p.toNat ≠ 0x010D →
    q.data.length ≠ 4 ∨ beNat q.data = 0 ∨ 65536 < beNat q.data → q.data.length ≤ 65536 →
    ∃ t, exec (.getRange el q p) s = .next t ∧ Answers s t q 0x03 stRange p.toNat q.inst.toNat [] []) ∧
  (∀ (s : State) (el : Nat) (q : Req), Ready s q roleSite → FullService s → q.data = [] →
    ∃ t, exec (.fence el q) s = .next t ∧ Answers s t q 0x06 stOk 0 0 [] []) ∧
  (∀ (s : State) (el : Nat) (q : Req) (r : Request), s.holder = some q.ctl.val → s.serving q.ctl.val = true → s.committing = none →
    s.owed = [] → s.sessions = [(Req.key q, s.session (Req.key q))] → (s.session (Req.key q)).isOpen = true →
    (s.session (Req.key q)).skip.contains q.tag.toNat = false →
    (s.session (Req.key q)).requests = [r] → r.started = true → r.tag ≠ q.tag.toNat → r.order < s.issued → q.data = [] →
    ∃ t, exec (.fence el q) s = .next t ∧ t.out = s.out ∧ (t.session (Req.key q)).requests.map Request.tag = [r.tag, q.tag.toNat] ∧
      SameBut (mailCounters q) s t) ∧
  (∀ (s : State) (el : Nat) (q : Req) (r : Request), s.holder = some q.ctl.val → s.serving q.ctl.val = true → s.committing = none →
    s.owed = [] → s.sessions = [(Req.key q, s.session (Req.key q))] → (s.session (Req.key q)).isOpen = true →
    (s.session (Req.key q)).skip.contains q.tag.toNat = false →
    (s.session (Req.key q)).requests = [r] → r.started = true → r.tag ≠ q.tag.toNat → r.order < s.issued → q.fence = true →
    q.data.length ≤ 65536 →
    ∃ t, exec (.ping el q) s = .next t ∧ t.out = s.out ∧ (t.session (Req.key q)).requests.map Request.tag = [r.tag, q.tag.toNat] ∧
      SameBut (mailCounters q) s t) ∧
  (∀ (s : State) (el : Nat) (q : Req), Ready s q roleSite → FullService s → q.data.length ≤ 64 →
    ∃ t, exec (.ping el q) s = .next t ∧ Answers s t q 0x7F stOk 0 0 (q.data ++ toBytes 14 (s.tick el).dtNow) []) ∧
  (∀ (s : State) (el : Nat) (q : Req), Ready s q roleSite → FullService s → 64 < q.data.length → q.data.length ≤ 65536 →
    ∃ t, exec (.ping el q) s = .next t ∧ Answers s t q 0x7F stRange 0 0 [] []) ∧
  (∀ (s : State) (el pid : Nat) (q : Req) (which : Fin 7) (row : Row), Ready s q roleSite → FullService s →
    highWaterPids[which.val]? = some pid → Catalogue.row? pid = some row → row.sel.has q.inst.toNat = true →
    q.data.length = row.ty.size → beNat q.data = 0 → Ungated s pid q.inst.toNat →
    ∃ t, exec (.highWaterReset el q which) s = .next t ∧ t.rd pid q.inst.toNat = 0 ∧
      Answers s t q 0x02 stOk pid q.inst.toNat [] [(pid, q.inst.toNat)]) ∧
  (∀ (s : State) (el pid : Nat) (q : Req) (which : Fin 7) (row : Row), Ready s q roleSite → FullService s →
    highWaterPids[which.val]? = some pid → Catalogue.row? pid = some row → row.sel.has q.inst.toNat = true →
    q.data.length ≤ 65536 → q.data.length ≠ row.ty.size ∨ beNat q.data ≠ 0 →
    ∃ t, exec (.highWaterReset el q which) s = .next t ∧ Answers s t q 0x02 stRange pid q.inst.toNat [] [])

/-- Subscriptions: a first event follows SUBSCRIBE, changes are reported at the comparison, an ended one is silent. On a ready session
of the site operator a subscription to instances of a parameter that the module holds takes the lowest free number, and a first
event with the values of all follows its answer; with a payload against R451 the answer is RANGE, with 64 subscriptions BUSY, and
with a range that the session's role may not read in whole the status of the first instance that fails. UNSUBSCRIBE ends one, its
queued events sent before the answer, or answers NOT_FOUND, or RANGE to a payload that is no number. At a comparison a subscription
on change whose value differs, or differed, sends an event with the value of that moment once the minimum interval has passed since
its last one, and before then notes the change; a periodic one sends its values, and one on change with refresh an event that
reports what has changed, once the period has passed; one whose value stands sends none. Where the stream takes nothing, the event
stays queued; with 256 queued the subscription's own are dropped for one event with the overflow flag and every value, counted. One
that its session can no longer read ends with a final event. While no controller serves, nothing happens. Event overflows in 100
windows running set fault bit 212, once. (R451, R452, R453, R462, PID 0415h.) -/
def Obligations.SubscriptionsReportWhatChanges : Prop :=
  (∀ (s : State) (el : Nat) (q : Req) (p : BitVec 16) (row : Row) (j : Fin 64), Ready s q roleSite → FullService s →
    Catalogue.row? p.toNat = some row → row.acc = .rw → row.cls ≠ .bundle → row.home = .ctl → blockOf p.toNat = none →
    row.sel.has q.inst.toNat = true → subscribeOk q.data = true → getBE q.data 0 4 = 1 →
    Tab.firstFree (s.session (Req.key q)).subs 0 64 = some j.val → (s.session (Req.key q)).queue = [] →
    ∃ t, exec (.subscribe el q p) s = .next t ∧
      t.out = s.out ++ [answer q 0x07 stOk p.toNat q.inst.toNat [BitVec.ofNat 8 j.val],
        ⟨q.ctl.val, 0xE0, q.sess.val, j.val, 0x07, stOk, p.toNat, q.inst.toNat,
          subPayload 0 0 (s.tick el).dtNow row.ty.size [(q.inst.toNat, s.rd p.toNat q.inst.toNat)]⟩] ∧
      (Tab.find? (t.session (Req.key q)).subs j.val).map (fun b => (b.pid, b.inst, b.count)) = some (p.toNat, q.inst.toNat, 1) ∧
      (Tab.find? (t.session (Req.key q)).subs j.val).map (fun b => (b.mode, b.seq, b.vals)) =
        some (getBE q.data 4 1, 1, [(1, s.rd p.toNat q.inst.toNat)]) ∧
      SameBut (mailCounters q) s t) ∧
  (∀ (s : State) (el n m : Nat) (q : Req) (p : BitVec 16) (row : Row) (j : Fin 64), Ready s q roleSite → FullService s →
    Catalogue.row? p.toNat = some row → row.acc = .rw → row.cls ≠ .bundle → row.home = .ctl → blockOf p.toNat = none →
    row.sel = .upto m → q.inst.toNat + n ≤ m → subscribeOk q.data = true → getBE q.data 0 4 = n →
    Tab.firstFree (s.session (Req.key q)).subs 0 64 = some j.val → (s.session (Req.key q)).queue = [] →
    ∃ t, exec (.subscribe el q p) s = .next t ∧
      t.out = s.out ++ [answer q 0x07 stOk p.toNat q.inst.toNat [BitVec.ofNat 8 j.val]] ++
        Msg.split ⟨q.ctl.val, 0xE0, q.sess.val, j.val, 0x07, stOk, p.toNat, q.inst.toNat, subPayload 0 0 (s.tick el).dtNow row.ty.size
          ((List.range n).map (fun k => (q.inst.toNat + k, s.rd p.toNat (q.inst.toNat + k))))⟩ ∧
      (Tab.find? (t.session (Req.key q)).subs j.val).map (fun b => (b.count, b.vals)) =
        some (n, (List.range n).map (fun k => (1, s.rd p.toNat (q.inst.toNat + k)))) ∧
      SameBut (mailCounters q) s t) ∧
  (∀ (s : State) (el role n : Nat) (q : Req) (p : BitVec 16) (row : Row), Ready s q role → FullService s →
    Catalogue.row? p.toNat = some row → row.acc ≠ .wo → (roleOpcodes role).contains 0x07 = true → q.data.length = 16 →
    getBE q.data 0 4 = n → 1 ≤ n → n ≤ 4096 → s.rangeStatus role p.toNat row q.inst.toNat n ≠ stOk →
    ∃ t, exec (.subscribe el q p) s = .next t ∧ (t.session (Req.key q)).subs = (s.session (Req.key q)).subs ∧
      Answers s t q 0x07 (s.rangeStatus role p.toNat row q.inst.toNat n) p.toNat q.inst.toNat [] []) ∧
  (∀ (s : State) (el : Nat) (q : Req) (p : BitVec 16) (row : Row), Ready s q roleSite → FullService s →
    Catalogue.row? p.toNat = some row → row.acc ≠ .wo → row.sel.has q.inst.toNat = true → subscribeOk q.data = false →
    q.data.length ≠ 16 ∨ getBE q.data 0 4 = 0 ∨ 4096 < getBE q.data 0 4 ∨
      s.rangeStatus roleSite p.toNat row q.inst.toNat (getBE q.data 0 4) = stOk →
    q.data.length ≤ 65536 →
    ∃ t, exec (.subscribe el q p) s = .next t ∧ (t.session (Req.key q)).subs = (s.session (Req.key q)).subs ∧
      Answers s t q 0x07 stRange p.toNat q.inst.toNat [] []) ∧
  (∀ (s : State) (el : Nat) (q : Req) (p : BitVec 16) (row : Row), Ready s q roleSite → FullService s →
    Catalogue.row? p.toNat = some row → row.acc = .rw → row.sel.has q.inst.toNat = true → subscribeOk q.data = true →
    getBE q.data 0 4 = 1 → Tab.firstFree (s.session (Req.key q)).subs 0 64 = none →
    ∃ t, exec (.subscribe el q p) s = .next t ∧ Answers s t q 0x07 stBusy p.toNat q.inst.toNat [] []) ∧
  (∀ (s : State) (el : Nat) (q : Req) (p : BitVec 16) (b : Sub), Ready s q roleSite → FullService s → q.data.length = 1 → beNat q.data < 64 →
    Tab.find? (s.session (Req.key q)).subs (beNat q.data) = some b → (s.session (Req.key q)).queue = [] →
    ∃ t, exec (.unsubscribe el q p) s = .next t ∧ Tab.find? (t.session (Req.key q)).subs (beNat q.data) = none ∧
      Answers s t q 0x08 stOk p.toNat q.inst.toNat [] []) ∧
  (∀ (s : State) (el : Nat) (q : Req) (p : BitVec 16) (b : Sub) (m : Msg), Ready s q roleSite → FullService s → q.data.length = 1 →
    beNat q.data < 64 → Tab.find? (s.session (Req.key q)).subs (beNat q.data) = some b → (s.session (Req.key q)).queue = [m] →
    m.payload.length ≤ 4096 →
    ∃ t, exec (.unsubscribe el q p) s = .next t ∧ Tab.find? (t.session (Req.key q)).subs (beNat q.data) = none ∧
      t.out = s.out ++ (if m.tag = beNat q.data then [{ m with ctl := q.ctl.val, session := q.sess.val }] else []) ++
        [answer q 0x08 stOk p.toNat q.inst.toNat []] ∧
      SameBut (mailCounters q) s t) ∧
  (∀ (s : State) (el : Nat) (q : Req) (p : BitVec 16), Ready s q roleSite → FullService s → q.data.length ≤ 65536 →
    q.data.length ≠ 1 ∨ 64 ≤ beNat q.data →
    ∃ t, exec (.unsubscribe el q p) s = .next t ∧ (t.session (Req.key q)).subs = (s.session (Req.key q)).subs ∧
      Answers s t q 0x08 stRange p.toNat q.inst.toNat [] []) ∧
  (∀ (s : State) (el : Nat) (q : Req) (p : BitVec 16), Ready s q roleSite → FullService s → q.data.length = 1 → beNat q.data < 64 →
    Tab.find? (s.session (Req.key q)).subs (beNat q.data) = none →
    ∃ t, exec (.unsubscribe el q p) s = .next t ∧ Answers s t q 0x08 stNotFound p.toNat q.inst.toNat [] []) ∧
  (∀ (s : State) (el : Nat) (x : BitVec 4), s.serving s.active = false ∨ s.openSessions = [] →
    exec (.subscriptionCompare el x) s = .next (s.tick el)) ∧
  (∀ (s : State) (el : Nat) (k : Fin 4) (x : Session) (n : Fin 64) (b : Sub) (row : Row) (v : Nat), s.serving s.active = true →
    s.sessions = [(4 * s.active + k.val, x)] → x.isOpen = true → x.role = roleSite → x.queue = [] → x.subs = [(n.val, b)] →
    Catalogue.row? b.pid = some row → row.acc = .rw → row.cls ≠ .bundle → row.home = .ctl → blockOf b.pid = none →
    row.sel.has b.inst = true → b.count = 1 → b.mode ≠ 1 → b.vals = [(1, v)] →
    (b.changed = [] ∧ s.rd b.pid b.inst ≠ v) ∨ b.changed = [b.inst] →
    b.minimum * 400000 ≤ s.clk + el - b.lastAt →
    ∃ t, exec (.subscriptionCompare el 0) s = .next t ∧
      t.out = s.out ++ [⟨s.active, 0xE0, k.val, n.val, 0x07, stOk, b.pid, b.inst,
        subPayload b.seq 0 (s.tick el).dtNow row.ty.size [(b.inst, s.rd b.pid b.inst)]⟩] ∧
      (Tab.find? (t.session (4 * s.active + k.val)).subs n.val) = some { b with
        vals := [(1, s.rd b.pid b.inst)], changed := [], seq := (b.seq + 1) % 2 ^ 32, lastAt := s.clk + el } ∧
      SameBut [(0x0414, 2 * k.val + 1)] s t) ∧
  (∀ (s : State) (el : Nat) (k : Fin 4) (x : Session) (n : Fin 64) (b : Sub) (row : Row) (v : Nat), s.serving s.active = true →
    s.sessions = [(4 * s.active + k.val, x)] → x.isOpen = true → x.role = roleSite → x.queue = [] → x.subs = [(n.val, b)] →
    Catalogue.row? b.pid = some row → row.acc = .rw → row.cls ≠ .bundle → row.home = .ctl → blockOf b.pid = none →
    row.sel.has b.inst = true → b.count = 1 → b.mode = 0 → b.vals = [(1, v)] → b.changed = [] → s.rd b.pid b.inst ≠ v →
    s.clk + el - b.lastAt < b.minimum * 400000 →
    ∃ t, exec (.subscriptionCompare el 0) s = .next t ∧ t.out = s.out ∧ t.regs = s.regs ∧
      Tab.find? (t.session (4 * s.active + k.val)).subs n.val = some { b with vals := [(1, s.rd b.pid b.inst)], changed := [b.inst] }) ∧
  (∀ (s : State) (el : Nat) (k : Fin 4) (x : Session) (n : Fin 64) (b : Sub) (row : Row) (v : Nat), s.serving s.active = true →
    s.sessions = [(4 * s.active + k.val, x)] → x.isOpen = true → x.role = roleSite → x.queue = [] → x.subs = [(n.val, b)] →
    Catalogue.row? b.pid = some row → row.acc = .rw → row.cls ≠ .bundle → row.home = .ctl → blockOf b.pid = none →
    row.sel.has b.inst = true → b.count = 1 → b.mode ≠ 0 → b.vals = [(1, v)] → b.changed = [] →
    b.mode = 1 ∨ s.rd b.pid b.inst = v → b.period * 400000 ≤ s.clk + el - b.lastAt →
    ∃ t, exec (.subscriptionCompare el 0) s = .next t ∧
      t.out = s.out ++ [⟨s.active, 0xE0, k.val, n.val, 0x07, stOk, b.pid, b.inst, subPayload b.seq 0 (s.tick el).dtNow row.ty.size
        (if b.mode = 1 then [(b.inst, s.rd b.pid b.inst)] else [])⟩] ∧
      (Tab.find? (t.session (4 * s.active + k.val)).subs n.val).map (fun b => (b.seq, b.lastAt)) =
        some ((b.seq + 1) % 2 ^ 32, s.clk + el) ∧
      SameBut [(0x0414, 2 * k.val + 1)] s t) ∧
  (∀ (s : State) (el : Nat) (k : Fin 4) (x : Session) (n : Fin 64) (b : Sub) (row : Row), s.serving s.active = true →
    s.sessions = [(4 * s.active + k.val, x)] → x.isOpen = true → x.queue = [] → x.subs = [(n.val, b)] →
    Catalogue.row? b.pid = some row → b.changed = [] → s.rangeStatus x.role b.pid row b.inst b.count ≠ stOk →
    ∃ t, exec (.subscriptionCompare el 0) s = .next t ∧ (t.session (4 * s.active + k.val)).subs = [] ∧
      t.out = s.out ++ [⟨s.active, 0xE0, k.val, n.val, 0x07, stOk, b.pid, b.inst,
        subPayload b.seq 4 (s.tick el).dtNow row.ty.size []⟩] ∧
      SameBut [(0x0414, 2 * k.val + 1)] s t) ∧
  (∀ (s : State) (el : Nat) (x : Session) (n : Fin 64) (b : Sub) (row : Row) (v : Nat), s.serving s.active = true →
    s.sessions = [(4 * s.active, x)] → x.isOpen = true → x.role = roleSite → x.queue.length = 256 → x.subs = [(n.val, b)] →
    Catalogue.row? b.pid = some row → row.acc = .rw → row.cls ≠ .bundle → row.home = .ctl → blockOf b.pid = none →
    row.sel.has b.inst = true → b.count = 1 → b.mode = 0 → b.changed = [] → b.vals = [(1, v)] → s.rd b.pid b.inst ≠ v →
    b.minimum * 400000 ≤ s.clk + el - b.lastAt →
    ∃ t, exec (.subscriptionCompare el 1) s = .next t ∧ t.out = s.out ∧
      (t.session (4 * s.active)).queue = x.queue.filter (fun m => m.tag != n.val) ++
        [⟨s.active, 0xE0, 0, n.val, 0x07, stOk, b.pid, b.inst,
          subPayload b.seq 2 (s.tick el).dtNow row.ty.size [(b.inst, s.rd b.pid b.inst)]⟩] ∧
      t.rd 0x0415 2 = (s.rd 0x0415 2 + 1) % 2 ^ 32 ∧ SameBut [(0x0415, 2)] s t) ∧
  (∀ (s : State) (el : Nat) (x : Session) (n : Fin 64) (b : Sub) (row : Row) (v : Nat), s.serving s.active = true →
    s.sessions = [(4 * s.active, x)] → x.isOpen = true → x.role = roleSite → x.queue = [] → x.subs = [(n.val, b)] →
    Catalogue.row? b.pid = some row → row.acc = .rw → row.cls ≠ .bundle → row.home = .ctl → blockOf b.pid = none →
    row.sel.has b.inst = true → b.count = 1 → b.mode = 0 → b.changed = [] → b.vals = [(1, v)] → s.rd b.pid b.inst ≠ v →
    b.minimum * 400000 ≤ s.clk + el - b.lastAt →
    ∃ t, exec (.subscriptionCompare el 1) s = .next t ∧ t.out = s.out ∧
      (t.session (4 * s.active)).queue = [⟨s.active, 0xE0, 0, n.val, 0x07, stOk, b.pid, b.inst,
        subPayload b.seq 0 (s.tick el).dtNow row.ty.size [(b.inst, s.rd b.pid b.inst)]⟩] ∧ t.regs = s.regs) ∧
  (∀ (s : State) (el : Nat) (x : Session) (n : Fin 64) (b : Sub) (row : Row) (v : Nat), s.serving s.active = true →
    s.sessions = [(4 * s.active, x)] → x.isOpen = true → x.role = roleSite → x.queue = [] → x.subs = [(n.val, b)] →
    Catalogue.row? b.pid = some row → row.acc = .rw → row.cls ≠ .bundle → row.home = .ctl → blockOf b.pid = none →
    row.sel.has b.inst = true → b.count = 1 → b.mode = 0 → b.changed = [] → b.vals = [(1, v)] → s.rd b.pid b.inst = v →
    exec (.subscriptionCompare el 0) s = .next (s.tick el)) ∧
  (∀ (s : State) (el last run : Nat) (k : Fin 4), Tab.find? s.sustain (212 * 2 ^ 32 + k.val) = some (last, run) → 100 ≤ run →
    run < raisedRun → s.tickRC el / 400000000 ≤ last + 1 →
    ∃ t, exec (.eventOverflowSustained el k) s = .next t ∧ Faulted t 212 ∧
      Tab.find? t.sustain (212 * 2 ^ 32 + k.val) = some (last, run + raisedRun) ∧ SameBut [(0x3E03, 0), (0x3E04, 0)] s t) ∧
  (∀ (s : State) (el last run : Nat) (k : Fin 4), Tab.find? s.sustain (212 * 2 ^ 32 + k.val) = some (last, run) →
    run < 100 ∨ raisedRun ≤ run ∨ last + 1 < s.tickRC el / 400000000 →
    exec (.eventOverflowSustained el k) s = .next (s.tick el)) ∧
  (∀ (s : State) (el : Nat) (k : Fin 4), Tab.find? s.sustain (212 * 2 ^ 32 + k.val) = none →
    exec (.eventOverflowSustained el k) s = .next (s.tick el))

/-- Bundles: committed with or without a standby, armed, refused, aborted, activated, drained, freed, stalled, cancelled. On a ready
session of the site operator. A SET of a bundle parameter is held in the session's bundle, which it opens, and a 65,537th is BUSY.
With the standby ready a COMMIT that passes the checks loads the lowest free slot with the latest version and the bundle, and waits;
the acknowledgement arms it, counts it, keeps the bundle in flash and answers the request with the activation RC and DT. With no
standby and single-controller changes allowed it is armed at once. It activates at its instant's RC or, at the earliest or where
that comes sooner, the lead after now. A check that fails is the answer and is counted, no free slot (VERSION_LIMIT) and an instant
no later than an armed slot's (RANGE) among them; a change barred for want of a standby answers BUSY, a failed flash write INTERNAL.
ABORT_BUNDLE empties the session's bundle. A SET of a default-tenant parameter commits that one parameter. At a switchover a commit
under way is answered FAILOVER, and its slot is armed where the standby had acknowledged it, moved with fault bit 84 where its
instant has passed, and else freed. An armed slot becomes active at its RC and its predecessor drains; a drained slot with nothing
in flight is free after 8,000 ticks, and one that still has frames at the stall limit is freed by force with fault bit 81. The
latest armed slot may be cancelled while more than the lead remains, and any other answers BUSY. (R155, R156, R157, R158, R160,
R161, R162, R164, R350, PID 1031h, PID 1034h, PID 103Eh.) -/
def Obligations.BundlesAreCommittedArmedAndActivated : Prop :=
  (∀ (s : State) (el : Nat) (q : Req) (p : BitVec 16) (row : Row), Ready s q roleSite → FullService s →
    Catalogue.row? p.toNat = some row → row.cls = .bundle → row.acc ≠ .ro → row.sel.has q.inst.toNat = true →
    q.data.length = row.ty.size → row.valueOk (beNat q.data) = true → bedStatus p.toNat q.inst.toNat (beNat q.data) = stOk →
    Tab.find? ((s.session (Req.key q)).bundle.getD []) (regKey p.toNat q.inst.toNat) ≠ none ∨
      ((s.session (Req.key q)).bundle.getD []).length < 65536 →
    ∃ t, exec (.set el q p) s = .next t ∧ t.slots = s.slots ∧ (t.session (Req.key q)).bundle =
        some (Tab.set ((s.session (Req.key q)).bundle.getD []) (regKey p.toNat q.inst.toNat) (beNat q.data)) ∧
      Answers s t q 0x02 stOk p.toNat q.inst.toNat [] []) ∧
  (∀ (s : State) (el : Nat) (q : Req) (p : BitVec 16) (row : Row), Ready s q roleSite → FullService s →
    Catalogue.row? p.toNat = some row → row.cls = .bundle → row.acc ≠ .ro → row.sel.has q.inst.toNat = true →
    q.data.length = row.ty.size → row.valueOk (beNat q.data) = true → bedStatus p.toNat q.inst.toNat (beNat q.data) = stOk →
    Tab.find? ((s.session (Req.key q)).bundle.getD []) (regKey p.toNat q.inst.toNat) = none →
    65536 ≤ ((s.session (Req.key q)).bundle.getD []).length →
    ∃ t, exec (.set el q p) s = .next t ∧ (t.session (Req.key q)).bundle = (s.session (Req.key q)).bundle ∧
      Answers s t q 0x02 stBusy p.toNat q.inst.toNat [] []) ∧
  (∀ (s : State) (el : Nat) (q : Req) (b : Tab Nat) (d : Option Int) (v : Fin 4), Ready s q roleSite → FullService s → q.flashOk = true →
    commitOk q.data = true →
    d = (if getBE q.data 4 1 = 1 then none else some (decDT (getBE q.data 8 14))) → (s.session (Req.key q)).bundle = some b → s.commitStatus b d false = stOk →
    s.freeSlot = some v.val → s.standbyReady = true →
    ∃ t, exec (.commit el q) s = .next t ∧ (t.slot v.val).state = .loading ∧ (t.slot v.val).image = applyBundle s.latest b ∧
      (t.slot v.val).token = getBE q.data 0 4 ∧ t.committing = some ⟨.host (Req.who q s), v.val, getBE q.data 0 4, b, d⟩ ∧
      t.rd 0x103E 0 = 2 ∧ t.out = s.out ∧ t.latest = s.latest ∧ SameBut (mailCounters q ++ [(0x103E, 0)]) s t) ∧
  (∀ (s : State) (el : Nat) (q : Req) (b : Tab Nat) (d : Option Int) (v : Fin 4), Ready s q roleSite → FullService s → q.flashOk = true →
    commitOk q.data = true →
    d = (if getBE q.data 4 1 = 1 then none else some (decDT (getBE q.data 8 14))) → (s.session (Req.key q)).bundle = some b → s.commitStatus b d false = stOk →
    s.freeSlot = some v.val → s.standbyReady = false → s.rd 0x0313 0 = 1 →
    ∃ t, exec (.commit el q) s = .next t ∧ (t.slot v.val).state = .armed ∧ (t.slot v.val).image = applyBundle s.latest b ∧
      (t.slot v.val).actRC = ((s.tick el).convert d).1 ∧ t.latest = applyBundle s.latest b ∧
      (∀ c : CtlNo, s.mirrored c.val = true → (t.flashOf c.val).kept = (s.flashOf c.val).kept ++
        [⟨getBE q.data 0 4, s.time.triple.dtOf ((s.tick el).convert d).1, b⟩]) ∧ t.latestSlot = v.val ∧ t.committing = none ∧
      (t.session (Req.key q)).bundle = none ∧ t.rd 0x1031 0 = getBE q.data 0 4 ∧
      t.rd 0x1034 0 = (s.rd 0x1034 0 + 1) % 2 ^ 32 ∧ t.rd 0x103F 0 = stOk ∧
      Answers s t q 0x04 stOk 0 0 (commitAnswer (getBE q.data 0 4) v.val ((s.tick el).convert d).2 ((s.tick el).convert d).1
        (s.time.triple.dtOf ((s.tick el).convert d).1)) [(0x1031, 0), (0x1034, 0), (0x103E, 0), (0x103F, 0)]) ∧
  (∀ (s : State) (el : Nat) (q : Req) (b : Tab Nat) (d : Option Int), Ready s q roleSite → FullService s → q.flashOk = true → s.mirrorBars = false → commitOk q.data = true →
    d = (if getBE q.data 4 1 = 1 then none else some (decDT (getBE q.data 8 14))) → (s.session (Req.key q)).bundle = some b → s.commitStatus b d false ≠ stOk →
    ∃ t, exec (.commit el q) s = .next t ∧ t.slots = s.slots ∧ t.latest = s.latest ∧ (t.session (Req.key q)).bundle = some b ∧
      t.rd 0x1035 0 = (s.rd 0x1035 0 + 1) % 2 ^ 32 ∧ t.rd 0x103F 0 = s.commitStatus b d false ∧
      Answers s t q 0x04 (s.commitStatus b d false) 0 0 [] [(0x1035, 0), (0x103F, 0)]) ∧
  (∀ (s : State) (b : Tab Nat) (d : Option Int), s.freeSlot = none → s.commitStatus b d false = stVersionLimit) ∧
  (∀ (s : State) (b : Tab Nat) (u : Int) (v : Fin 4), s.freeSlot.isSome = true → (s.slot v.val).state = .armed →
    u ≤ s.time.triple.dtOf (s.slot v.val).actRC → s.commitStatus b (some u) false = stRange) ∧
  (∀ (s : State) (d : Option Int), s.rc + s.lead ≤ (s.convert d).1 ∧ ((s.convert d).2 = true → (s.convert d).1 = s.rc + s.lead) ∧
    (d = none → (s.convert d).2 = true) ∧
    (∀ u, d = some u → ((s.convert d).2 = true ↔ (s.tripleAt u).rcOf u < s.rc + s.lead) ∧
      ((s.convert d).2 = false → (s.convert d).1 = (s.tripleAt u).rcOf u))) ∧
  (∀ (s : State) (el : Nat) (q : Req), Ready s q roleSite → FullService s → commitOk q.data = true → s.mirrorBars = false →
    q.flashOk = false →
    ∃ t, exec (.commit el q) s = .next t ∧ t.slots = s.slots ∧ Faulted t 211 ∧
      Answers s t q 0x04 stInternal 0 0 [] [(0x3E03, 0), (0x3E04, 0)]) ∧
  (∀ (s : State) (el : Nat) (q : Req), Ready s q roleSite → FullService s → commitOk q.data = true → s.mirrorBars = true →
    ∃ t, exec (.commit el q) s = .next t ∧ t.slots = s.slots ∧ Answers s t q 0x04 stBusy 0 0 [] []) ∧
  (∀ (s : State) (el : Nat) (q : Req), Ready s q roleSite → FullService s → commitOk q.data = false → q.data.length ≤ 65536 →
    ∃ t, exec (.commit el q) s = .next t ∧ t.slots = s.slots ∧ Answers s t q 0x04 stRange 0 0 [] []) ∧
  (∀ (s : State) (el k tok tag : Nat) (x : Session) (r : Request) (b : Tab Nat) (v : Fin 4) (d : Option Int), s.standbyReady = true →
    s.committing = some ⟨.host ⟨k, x.gen, tag⟩, v.val, tok, b, d⟩ → s.owed = [] → s.sessions = [(k, x)] → x.isOpen = true →
    x.requests = [r] → r.tag = tag → r.started = true → r.accepted = false → s.holder = some (k / 4) → tok < 2 ^ 32 →
    ∃ t, exec (.commitPhase1Ack el) s = .next t ∧ (t.slot v.val).state = .armed ∧ (t.slot v.val).actRC = ((s.tick el).convert d).1 ∧
      (∀ c : CtlNo, s.mirrored c.val = true → (t.flashOf c.val).kept = (s.flashOf c.val).kept ++
        [⟨tok, s.time.triple.dtOf ((s.tick el).convert d).1, b⟩]) ∧
      t.latest = (s.slot v.val).image ∧ t.latestSlot = v.val ∧ t.committing = none ∧ (t.session k).requests = [] ∧
      t.rd 0x1031 0 = tok ∧ t.rd 0x1034 0 = (s.rd 0x1034 0 + 1) % 2 ^ 32 ∧ t.rd 0x103E 0 = 0 ∧
      t.out = s.out ++ [⟨k / 4, 0xA0, k % 4, tag, r.op, stOk, r.pid, r.inst, commitAnswer tok v.val ((s.tick el).convert d).2
        ((s.tick el).convert d).1 (s.time.triple.dtOf ((s.tick el).convert d).1)⟩] ∧
      SameBut [(0x1031, 0), (0x1034, 0), (0x103E, 0), (0x103F, 0), (0x0414, 2 * (k % 4) + 1)] s t) ∧
  (∀ (s : State) (el tok tag : Nat) (a : Bool) (c : CtlNo) (j v : Fin 4) (x : Session) (r : Request) (b : Tab Nat) (d : Option Int),
    s.committing = some ⟨.host ⟨4 * (1 - c.val) + j.val, x.gen, tag⟩, v.val, tok, b, d⟩ → s.owed = [] →
    s.sessions = [(4 * (1 - c.val) + j.val, x)] → x.isOpen = true → x.requests = [r] → r.tag = tag → r.op = 0x04 →
    r.accepted = false → x.subs = [] → s.holder = some c.val → s.ctlState c.val = 4 → s.rd 0x0300 0 = 1 - c.val → s.swap = none →
    s.fw.step = 0 → s.fw.stager = none →
    ∃ t, exec (.switchover ⟨el, a⟩) s = .next t ∧ t.committing = none ∧
      t.out = s.out ++ [⟨1 - c.val, 0xA0, j.val, tag, 0x04, stFailover, r.pid, r.inst, []⟩] ∧
      (t.session (4 * c.val + j.val)).bundle = none ∧
      (a = true → (t.slot v.val).state = .armed ∧ (t.slot v.val).actRC = ((s.tick el).convert d).1 ∧
        (((s.tick el).convert d).2 = true ∧ d.isSome = true → Faulted t 84)) ∧
      (a = false → t.slot v.val = (s.slot v.val).freed)) ∧
  (∀ (s : State) (el : Nat), s.committing = none → Quiet s → exec (.commitPhase1Ack el) s = .next (s.tick el)) ∧
  (∀ (s : State) (el : Nat) (q : Req), Ready s q roleSite → FullService s → q.data = [] →
    ∃ t, exec (.abortBundle el q) s = .next t ∧ (t.session (Req.key q)).bundle = none ∧ Answers s t q 0x05 stOk 0 0 [] []) ∧
  (∀ (s : State) (el : Nat) (q : Req) (v : Fin 4), Ready s q roleSite → FullService s → q.flashOk = true → s.standbyReady = false →
    s.rd 0x0313 0 = 1 → q.inst.toNat < 144 → q.data.length = 1 → s.freeSlot = some v.val →
    s.commitStatus [(regKey 0x101D q.inst.toNat, beNat q.data)] none false = stOk →
    ∃ t, exec (.defaultTenantCommit el q 0) s = .next t ∧ t.rd 0x101D q.inst.toNat = beNat q.data ∧
      t.rd 0x1031 0 = 0xF0000000 + q.sess.val * 256 + q.tag.toNat ∧ (t.slot v.val).state = .armed ∧
      imageCfg t.latest 0x101D q.inst.toNat = beNat q.data ∧
      Answers s t q 0x02 stOk 0x101D q.inst.toNat []
        [(0x101D, q.inst.toNat), (0x1031, 0), (0x1034, 0), (0x103E, 0), (0x103F, 0)]) ∧
  (∀ (s : State) (el : Nat) (v : Fin 4), (s.slot v.val).state = .armed → (s.slot v.val).actRC ≤ s.tickRC el →
    ∃ t, exec (.slotActivate el v) s = .next t ∧ (t.slot v.val).state = .active ∧ (t.slot v.val).image = (s.slot v.val).image ∧
      (∀ u : Fin 4, (s.slot u.val).state = .active → (t.slot u.val).state = .draining ∧
        (t.slot u.val).succRC = (s.slot v.val).actRC) ∧
      (∀ u : Fin 4, u ≠ v → (s.slot u.val).state ≠ .active → t.slot u.val = s.slot u.val) ∧
      (∀ c : CtlNo, s.mirrored c.val = true → (t.flashOf c.val).active = (s.slot v.val).image) ∧ t.regs = s.regs) ∧
  (∀ (s : State) (el : Nat) (v : Fin 4), (s.slot v.val).state ≠ .armed ∨ s.tickRC el < (s.slot v.val).actRC →
    exec (.slotActivate el v) s = .next (s.tick el)) ∧
  (∀ (s : State) (el : Nat) (v : Fin 4), (s.slot v.val).state = .draining → (s.slot v.val).succRC + 8000 ≤ s.tickRC el →
    s.idleSlot v.val = true →
    ∃ t, exec (.slotFree el v) s = .next t ∧ t.slot v.val = (s.slot v.val).freed ∧
      t.rd 0x1038 0 = (s.rd 0x1038 0 + 1) % 2 ^ 32 ∧ (∀ u : Fin 4, u ≠ v → t.slot u.val = s.slot u.val) ∧
      (∀ e ∈ t.ruleAt, e.2.2.testBit v.val = false) ∧
      SameBut [(0x1038, 0), (0x102D, v.val), (0x102D, 4 + v.val)] s t) ∧
  (∀ (s : State) (el : Nat) (v : Fin 4), (s.slot v.val).state ≠ .draining ∨ s.tickRC el < (s.slot v.val).succRC + 8000 ∨
    s.idleSlot v.val = false → exec (.slotFree el v) s = .next (s.tick el)) ∧
  (∀ (s : State) (el : Nat) (v : Fin 4), (s.slot v.val).state = .draining →
    (s.slot v.val).succRC + s.rd 0x1030 0 * 400000 ≤ s.tickRC el →
    ∃ t, exec (.versionStall el v) s = .next t ∧ t.slot v.val = (s.slot v.val).freed ∧
      t.rd 0x1038 0 = (s.rd 0x1038 0 + 1) % 2 ^ 32 ∧ (∀ e ∈ t.ruleAt, e.2.2.testBit v.val = false) ∧
      (s.framesUnder 0 v.val ≠ 0 ∨ s.framesUnder 1 v.val ≠ 0 → Faulted t 81)) ∧
  (∀ (s : State) (el : Nat) (v : Fin 4), (s.slot v.val).state ≠ .draining ∨
    s.tickRC el < (s.slot v.val).succRC + s.rd 0x1030 0 * 400000 → exec (.versionStall el v) s = .next (s.tick el)) ∧
  (∀ (s : State) (el : Nat) (q : Req) (v : Fin 4), Ready s q roleSite → FullService s → q.inst.toNat = v.val → q.data = [1] →
    (s.slot v.val).state = .armed → s.latestSlot = v.val → s.tickRC el + s.lead < (s.slot v.val).actRC →
    ∃ t, exec (.cancelArmedSlot el q) s = .next t ∧ t.slot v.val = (s.slot v.val).freed ∧ t.latest = (t.slot t.latestSlot).image ∧
      (∀ u : Fin 4, u ≠ v → t.slot u.val = s.slot u.val) ∧
      Answers s t q 0x02 stOk 0x1032 v.val [] [(0x102D, v.val), (0x102D, 4 + v.val)]) ∧
  (∀ (s : State) (el : Nat) (q : Req) (v : Fin 4), Ready s q roleSite → FullService s → q.inst.toNat = v.val → q.data = [1] →
    (s.slot v.val).state ≠ .armed ∨ s.latestSlot ≠ v.val ∨ (s.slot v.val).actRC ≤ s.tickRC el + s.lead →
    ∃ t, exec (.cancelArmedSlot el q) s = .next t ∧ t.slots = s.slots ∧ Answers s t q 0x02 stBusy 0x1032 v.val [] [])

/-- Counters: snapshots at one RC, their clears, the clear of all counters, storage errors. On a ready session of the site operator a
snapshot of a counter is taken 800 ticks after now, or at an RC between 800 and 400,000,000 ticks away; another RC, a payload
against R508 or a parameter that is no counter answers RANGE, a counter behind a closed gate GATED, and a clear asked for in another
role AUTH. Nothing is answered before the latch, and the latch does nothing before its RC. It reads every counter asked for at one
instant, answers with the header and the values up to the first instance that does not exist, counts the snapshot and then, where
asked, clears what it read. The clear of every counter waits in the same way; it spares what is no counter, and the classified
frames of a slot (PID 102Dh), which no snapshot clears. An uncorrectable error in a counter's storage zeroes it, counted, with fault
bit 232; one in what is no counter, or without power, changes nothing. (R508, R509, R510, R511, R512, PID 3C2Bh, PID 3C2Ch, PID
3C2Fh.) -/
def Obligations.CountersAreLatchedAndCleared : Prop :=
  (∀ (s : State) (el : Nat) (q : Req) (p : BitVec 16) (row : Row), Ready s q roleSite → FullService s →
    Catalogue.row? p.toNat = some row → row.counter = true → row.acc = .ro → row.sel.has q.inst.toNat = true → snapshotOk q.data = true →
    getBE q.data 8 9 = 0 → Ungated s p.toNat q.inst.toNat →
    ∃ t, exec (.counterSnapshot el q p) s = .next t ∧ t.out = s.out ∧
      t.snaps = s.snaps ++ [⟨s.tickRC el + 800, p.toNat, q.inst.toNat, getBE q.data 0 4, getBE q.data 4 1 == 1, Req.who q s⟩] ∧
      (t.session (Req.key q)).requests.map Request.tag = [q.tag.toNat] ∧ SameBut (mailCounters q) s t) ∧
  (∀ (s : State) (el : Nat) (q : Req) (p : BitVec 16) (row : Row), Ready s q roleSite → FullService s →
    Catalogue.row? p.toNat = some row → row.counter = true → row.acc = .ro → row.sel.has q.inst.toNat = true → snapshotOk q.data = true →
    getBE q.data 8 9 ≠ 0 → getBE q.data 8 9 < s.tickRC el + 800 ∨ s.tickRC el + 400000000 < getBE q.data 8 9 →
    ∃ t, exec (.counterSnapshot el q p) s = .next t ∧ t.snaps = s.snaps ∧ Answers s t q 0x20 stRange p.toNat q.inst.toNat [] []) ∧
  (∀ (s : State) (el : Nat) (q : Req) (p : BitVec 16) (row : Row), Ready s q roleSite → FullService s →
    Catalogue.row? p.toNat = some row → row.counter = true → row.acc = .ro → row.sel.has q.inst.toNat = true → snapshotOk q.data = true →
    s.tickRC el + 800 ≤ getBE q.data 8 9 → getBE q.data 8 9 ≤ s.tickRC el + 400000000 → Ungated s p.toNat q.inst.toNat →
    ∃ t, exec (.counterSnapshot el q p) s = .next t ∧ t.out = s.out ∧
      t.snaps = s.snaps ++ [⟨getBE q.data 8 9, p.toNat, q.inst.toNat, getBE q.data 0 4, getBE q.data 4 1 == 1, Req.who q s⟩] ∧
      (t.session (Req.key q)).requests.map Request.tag = [q.tag.toNat] ∧ SameBut (mailCounters q) s t) ∧
  (∀ (s : State) (el n : Nat) (q : Req) (p : BitVec 16) (row : Row), Ready s q roleSite → FullService s →
    Catalogue.row? p.toNat = some row → row.counter = true → row.acc = .ro → row.sel.has q.inst.toNat = true → snapshotOk q.data = true →
    getBE q.data 8 9 = 0 → s.gated row p.toNat q.inst.toNat = some n →
    ∃ t, exec (.counterSnapshot el q p) s = .next t ∧ t.snaps = s.snaps ∧ t.rd 0x022B n = (s.rd 0x022B n + 1) % 2 ^ 32 ∧
      Answers s t q 0x20 stGated p.toNat q.inst.toNat [] [(0x022B, n)]) ∧
  (∀ (s : State) (el role : Nat) (q : Req) (p : BitVec 16) (row : Row), Ready s q role → FullService s → role ≠ roleSite →
    Catalogue.row? p.toNat = some row → row.counter = true → row.sel.has q.inst.toNat = true → getBE q.data 4 1 = 1 →
    q.data.length ≤ 65536 →
    ∃ t, exec (.counterSnapshot el q p) s = .next t ∧ t.snaps = s.snaps ∧ Answers s t q 0x20 stAuth p.toNat q.inst.toNat [] []) ∧
  (∀ (s : State) (el : Nat) (q : Req) (p : BitVec 16) (row : Row), Ready s q roleSite → FullService s →
    Catalogue.row? p.toNat = some row → row.counter = false ∨ snapshotOk q.data = false → p.toNat ≠ 0x010D →
    row.sel.has q.inst.toNat = true → q.data.length ≤ 65536 →
    ∃ t, exec (.counterSnapshot el q p) s = .next t ∧ t.snaps = s.snaps ∧ Answers s t q 0x20 stRange p.toNat q.inst.toNat [] []) ∧
  (∀ (s : State) (el k tag rc p i n : Nat) (clear : Bool) (x : Session) (r : Request) (row : Row), s.owed = [] → s.sessions = [(k, x)] → x.isOpen = true →
    x.requests = [r] → r.tag = tag → r.started = true → r.accepted = false → s.holder = some (k / 4) →
    s.snaps = [⟨rc, p, i, n, clear, ⟨k, x.gen, tag⟩⟩] → rc ≤ s.tickRC el → Catalogue.row? p = some row → clearable p = true → p ≠ 0x0414 →
    1 ≤ n → i + n < 2 ^ 32 →
    (List.range n).all (fun j => row.sel.has (i + j) && s.readable row (i + j) && (s.gated row p (i + j)).isNone) = true →
    ∃ t, exec (.snapshotLatch el) s = .next t ∧ t.snaps = [] ∧ t.rd 0x3C2B 0 = (s.rd 0x3C2B 0 + 1) % 2 ^ 32 ∧
      (∀ j ∈ List.range n, t.rd p (i + j) = if clear then 0 else s.rd p (i + j)) ∧
      (clear = true → t.rd 0x3C2C 0 = (s.tick el).dtNow % 2 ^ 112) ∧
      t.out = s.out ++ Msg.split ⟨k / 4, 0xA0, k % 4, tag, r.op, stOk, r.pid, r.inst,
        s.snapHeader rc ++ (List.range n).flatMap (fun j => toBytes row.ty.size (s.rd p (i + j)))⟩ ∧
      SameBut ((if clear then (0x3C2C, 0) :: (List.range n).map (fun j => (p, i + j)) else []) ++
        [(0x3C2B, 0), (0x0414, 2 * (k % 4) + 1)]) s t) ∧
  (∀ (s : State) (el k tag rc p i n : Nat) (clear : Bool) (x : Session) (r : Request) (row : Row), s.owed = [] → s.sessions = [(k, x)] → x.isOpen = true →
    x.requests = [r] → r.tag = tag → r.started = true → r.accepted = false → s.holder = some (k / 4) →
    s.snaps = [⟨rc, p, i, n + 1, clear, ⟨k, x.gen, tag⟩⟩] → rc ≤ s.tickRC el → Catalogue.row? p = some row → clearable p = true → p ≠ 0x0414 →
    1 ≤ n → i + n < 2 ^ 32 →
    (List.range n).all (fun j => row.sel.has (i + j) && s.readable row (i + j) && (s.gated row p (i + j)).isNone) = true →
    row.sel.has (i + n) = false →
    ∃ t, exec (.snapshotLatch el) s = .next t ∧ t.snaps = [] ∧ t.rd 0x3C2B 0 = (s.rd 0x3C2B 0 + 1) % 2 ^ 32 ∧
      (∀ j ∈ List.range n, t.rd p (i + j) = if clear then 0 else s.rd p (i + j)) ∧
      (clear = true → t.rd 0x3C2C 0 = (s.tick el).dtNow % 2 ^ 112) ∧
      t.out = s.out ++ Msg.split ⟨k / 4, 0xA0, k % 4, tag, r.op, stBadInstance, r.pid, r.inst,
        s.snapHeader rc ++ (List.range n).flatMap (fun j => toBytes row.ty.size (s.rd p (i + j)))⟩ ∧
      SameBut ((if clear then (0x3C2C, 0) :: (List.range n).map (fun j => (p, i + j)) else []) ++
        [(0x3C2B, 0), (0x0414, 2 * (k % 4) + 1)]) s t) ∧
  (∀ (s : State) (el : Nat), Quiet s → (∀ x ∈ s.snaps, s.tickRC el < x.rc) → exec (.snapshotLatch el) s = .next (s.tick el)) ∧
  (∀ (s : State) (el : Nat) (q : Req), Ready s q roleSite → FullService s → q.inst = 0 → q.data = [1] →
    ∃ t, exec (.clearAllCounters el q) s = .next t ∧ t.out = s.out ∧
      t.snaps = s.snaps ++ [⟨s.tickRC el + 800, 0x3C2D, 0, 0, true, Req.who q s⟩]) ∧
  (∀ (s : State) (el k tag rc p i : Nat) (x : Session) (r : Request), s.owed = [] → s.sessions = [(k, x)] → x.isOpen = true →
    x.requests = [r] → r.tag = tag → r.started = true → r.accepted = false → s.holder = some (k / 4) →
    s.snaps = [⟨rc, 0x3C2D, 0, 0, true, ⟨k, x.gen, tag⟩⟩] → rc ≤ s.tickRC el → i < 2 ^ 32 →
    ∃ t, exec (.snapshotLatch el) s = .next t ∧ t.snaps = [] ∧ t.rd 0x3C2C 0 = (s.tick el).dtNow % 2 ^ 112 ∧
      (p ≠ 0x0414 → p ≠ 0x3C2C → t.rd p i = if clearable p then 0 else s.rd p i) ∧
      t.out = s.out ++ [⟨k / 4, 0xA0, k % 4, tag, r.op, stOk, r.pid, r.inst, []⟩]) ∧
  (∀ (s : State) (el : Nat) (p : BitVec 16) (i : BitVec 32) (row : Row), Catalogue.row? p.toNat = some row → row.counter = true →
    row.sel.has i.toNat = true → s.readable row i.toNat = true → p ≠ 0x3C2F →
    ∃ t, exec (.counterMemoryError el p i) s = .next t ∧ t.rd p.toNat i.toNat = 0 ∧ t.rd 0x3C2F 0 = (s.rd 0x3C2F 0 + 1) % 2 ^ 32 ∧
      Faulted t 232 ∧ SameBut [(p.toNat, i.toNat), (0x3C2F, 0), (0x3E03, 0), (0x3E04, 0)] s t) ∧
  (∀ (s : State) (el : Nat) (p : BitVec 16) (i : BitVec 32), isCounter p.toNat = false ∨
      (Catalogue.row? p.toNat).any (fun row => !row.sel.has i.toNat || !s.readable row i.toNat) = true →
    exec (.counterMemoryError el p i) s = .next (s.tick el))

/-- The fault record: read, cleared by mask or whole, what still holds set again, written to flash when due. On a ready session of the
site operator a read answers the summary and the entries asked for; one past bit 255, of no entry or with a payload against R518
answers RANGE. A clear removes at one instant the entries whose bits its mask holds and answers the mask of those that were set; a
bit whose condition still holds is set again at once, with a count of 1; what is not masked stays; a mask that is not 32 bytes long
answers RANGE. The clear of all entries does the same for every bit. The record then stands in the flash of both controllers. A new
bit is written at the next record write, and what else has changed when the write interval has passed, with the generation raised by
one; with nothing new before the interval, with nothing changed or with no active controller nothing is written; a write that fails
in one controller leaves its record and sets fault bit 233. (R515, R517, R518, R519, R520, PID 3E05h, PID 3E06h, PID 3E07h, PID
3E0Ah.) -/
def Obligations.TheFaultRecordIsReadClearedAndWritten : Prop :=
  (∀ (s : State) (el : Nat) (q : Req), Ready s q roleSite → FullService s → q.data.length = 4 → 1 ≤ getBE q.data 1 2 →
    getBE q.data 1 2 ≤ 256 → getBE q.data 3 1 = 0 → getBE q.data 0 1 + getBE q.data 1 2 ≤ 256 →
    ∃ t, exec (.faultRead el q) s = .next t ∧ t.faults = s.faults ∧
      Answers s t q 0x21 stOk 0 0 (toBytes 32 s.faultSummary ++ (List.range (getBE q.data 1 2)).flatMap (fun k =>
        (s.entryAt (getBE q.data 0 1 + k)).bytes (getBE q.data 0 1 + k))) []) ∧
  (∀ (s : State) (el : Nat) (q : Req), Ready s q roleSite → FullService s → q.data.length ≤ 65536 →
    q.data.length ≠ 4 ∨ getBE q.data 1 2 = 0 ∨ getBE q.data 3 1 ≠ 0 ∨ 256 < getBE q.data 0 1 + getBE q.data 1 2 →
    ∃ t, exec (.faultRead el q) s = .next t ∧ Answers s t q 0x21 stRange 0 0 [] []) ∧
  (∀ (s : State) (el : Nat) (q : Req), Ready s q roleSite → FullService s → q.data.length = 32 →
    ∃ t, exec (.faultClear el q) s = .next t ∧
      (∀ b : Fin 256, t.entryAt b.val = if (beNat q.data).testBit b.val = true ∧ (s.entryAt b.val).set = true then
        (match (s.tick el).standing b.val with
          | some i => ⟨true, !s.dtValid, false, false, 1, i, (s.tick el).dtNow⟩
          | none => FaultEntry.clear) else s.entryAt b.val) ∧
      t.rd 0x3E06 0 = (s.rd 0x3E06 0 + 1) % 2 ^ 32 ∧ t.rd 0x3E05 0 = (s.tick el).dtNow % 2 ^ 112 ∧
      (∀ c : CtlNo, s.mirrored c.val = true → (t.flashOf c.val).faults = t.faults ∧ (t.flashOf c.val).faultGen = s.rd 0x3E0A 0 + 1) ∧
      Answers s t q 0x22 stOk 0 0 (toBytes 32 (summaryOf (fun b => (beNat q.data).testBit b && (s.entryAt b).set)))
        [(0x3E03, 0), (0x3E04, 0), (0x3E05, 0), (0x3E06, 0), (0x3E07, 0), (0x3E08, 0), (0x3E0A, 0)]) ∧
  (∀ (s : State) (el : Nat) (q : Req), Ready s q roleSite → FullService s → q.data.length ≠ 32 → q.data.length ≤ 65536 →
    ∃ t, exec (.faultClear el q) s = .next t ∧ t.faults = s.faults ∧ Answers s t q 0x22 stRange 0 0 [] []) ∧
  (∀ (s : State) (el : Nat) (q : Req), Ready s q roleSite → FullService s → q.inst = 0 → q.data = [1] →
    ∃ t, exec (.clearAllEntries el q) s = .next t ∧
      (∀ b : Fin 256, t.entryAt b.val = if (s.entryAt b.val).set = true then
        (match (s.tick el).standing b.val with
          | some i => ⟨true, !s.dtValid, false, false, 1, i, (s.tick el).dtNow⟩
          | none => FaultEntry.clear) else s.entryAt b.val) ∧
      t.rd 0x3E06 0 = (s.rd 0x3E06 0 + 1) % 2 ^ 32 ∧ t.rd 0x3E05 0 = (s.tick el).dtNow % 2 ^ 112 ∧
      (∀ c : CtlNo, s.mirrored c.val = true → (t.flashOf c.val).faults = t.faults ∧ (t.flashOf c.val).faultGen = s.rd 0x3E0A 0 + 1) ∧
      Answers s t q 0x02 stOk 0x3E0D 0 []
        [(0x3E03, 0), (0x3E04, 0), (0x3E05, 0), (0x3E06, 0), (0x3E07, 0), (0x3E08, 0), (0x3E0A, 0)]) ∧
  (∀ (s : State) (el : Nat) (q : Req) (b : Fin 256) (e : FaultEntry), Ready s q roleSite → FullService s →
    q.data = toBytes 32 (2 ^ b.val) → s.faults = [(b.val, e)] → e.set = true → (s.tick el).standing b.val = none →
    ∃ t, exec (.faultClear el q) s = .next t ∧ t.faults = [] ∧ t.rd 0x3E06 0 = (s.rd 0x3E06 0 + 1) % 2 ^ 32 ∧
      t.rd 0x3E05 0 = (s.tick el).dtNow % 2 ^ 112 ∧
      (∀ c : CtlNo, s.mirrored c.val = true → (t.flashOf c.val).faults = [] ∧ (t.flashOf c.val).faultGen = s.rd 0x3E0A 0 + 1) ∧
      Answers s t q 0x22 stOk 0 0 (toBytes 32 (2 ^ b.val))
        [(0x3E05, 0), (0x3E06, 0), (0x3E07, 0), (0x3E08, 0), (0x3E0A, 0)]) ∧
  (∀ (s : State) (el i : Nat) (q : Req) (b : Fin 256) (e : FaultEntry), Ready s q roleSite → FullService s →
    q.data = toBytes 32 (2 ^ b.val) → s.faults = [(b.val, e)] → e.set = true → (s.tick el).standing b.val = some i →
    ∃ t, exec (.faultClear el q) s = .next t ∧
      t.faults = [(b.val, ⟨true, !s.dtValid, false, false, 1, i, (s.tick el).dtNow⟩)] ∧
      t.out = s.out ++ [answer q 0x22 stOk 0 0 (toBytes 32 (2 ^ b.val))]) ∧
  (∀ (s : State) (el : Nat) (q : Req) (b c : Fin 256) (e f : FaultEntry), Ready s q roleSite → FullService s →
    q.data = toBytes 32 (2 ^ b.val) → b.val < c.val → s.faults = [(b.val, e), (c.val, f)] → e.set = false →
    ∃ t, exec (.faultClear el q) s = .next t ∧ t.faults = s.faults ∧ t.out = s.out ++ [answer q 0x22 stOk 0 0 (toBytes 32 0)]) ∧
  (∀ (s : State) (el : Nat) (q : Req) (b : Fin 256) (e : FaultEntry), Ready s q roleSite → FullService s → q.inst = 0 → q.data = [1] →
    s.faults = [(b.val, e)] → e.set = true → (s.tick el).standing b.val = none →
    ∃ t, exec (.clearAllEntries el q) s = .next t ∧ t.faults = [] ∧ t.rd 0x3E06 0 = (s.rd 0x3E06 0 + 1) % 2 ^ 32 ∧
      t.out = s.out ++ [answer q 0x02 stOk 0x3E0D 0 []]) ∧
  (∀ (s : State) (el : Nat), s.holder.isSome = true → s.faults ≠ (s.flashOf s.active).faults →
    s.newBits = true ∨ s.recordAt + s.rd 0x3E0C 0 * 400000000 ≤ s.clk + el →
    ∃ t, exec (.recordWrite el none) s = .next t ∧ t.faults = s.faults ∧
      (∀ c : CtlNo, s.mirrored c.val = true → (t.flashOf c.val).faults = s.faults ∧ (t.flashOf c.val).faultGen = s.rd 0x3E0A 0 + 1) ∧ t.rd 0x3E0A 0 = (s.rd 0x3E0A 0 + 1) % 2 ^ 32 ∧
      t.rd 0x3E07 0 = (s.rd 0x3E07 0 + 1) % 2 ^ 32 ∧ t.recordAt = s.clk + el ∧
      SameBut [(0x3E07, 0), (0x3E08, 0), (0x3E0A, 0)] s t) ∧
  (∀ (s : State) (el : Nat) (c : CtlNo), s.holder.isSome = true → s.faults ≠ (s.flashOf s.active).faults →
    s.newBits = true ∨ s.recordAt + s.rd 0x3E0C 0 * 400000000 ≤ s.clk + el →
    ∃ t, exec (.recordWrite el (some c)) s = .next t ∧ (t.flashOf c.val).faults = (s.flashOf c.val).faults ∧
      (t.flashOf c.val).faultGen = (s.flashOf c.val).faultGen ∧
      (s.mirrored (1 - c.val) = true → (t.flashOf (1 - c.val)).faults = s.faults ∧
        (t.flashOf (1 - c.val)).faultGen = s.rd 0x3E0A 0 + 1) ∧
      Faulted t 233 ∧ SameBut [(0x3E03, 0), (0x3E04, 0), (0x3E07, 0), (0x3E08, 0), (0x3E0A, 0)] s t) ∧
  (∀ (s : State) (el : Nat) (c : Option CtlNo), s.holder = none ∨ s.faults = (s.flashOf s.active).faults →
    exec (.recordWrite el c) s = .next (s.tick el)) ∧
  (∀ (s : State) (el : Nat) (c : Option CtlNo), s.newBits = false → s.clk + el < s.recordAt + s.rd 0x3E0C 0 * 400000000 →
    exec (.recordWrite el c) s = .next (s.tick el))

/-- Firmware: staged fragment by fragment and checked, activated one controller after the other, or reverted. On a ready session of the
site operator. Without a ready standby FW_STAGE answers INTERLOCK, and while a stage or an activation runs BUSY; a first fragment
starts the stage and later ones are added to it. With the last one the whole image is checked: a good one is staged in both inactive
banks, a bad one answers STAGE with its reason and sets fault bit 208, no bank changed; where the banks cannot be written they are
invalid, with reason 6. FW_ACTIVATE of a staged image is accepted and boots the standby from its other bank; with none, with no
ready standby, with a COMMIT, a reseed or an activation under way, or where the data path differs and a reset is not accepted, it
answers INTERLOCK, and to bad flags RANGE. A standby that is ready ends step 1 with a swap, after which the former active controller
boots its other bank (step 3), and step 3 with the completion event and the rollback floor raised to the image's, or with a module
reset of cause 2 where the data path differs. A controller that is not ready within 300 s boots its former bank: the activation is
reverted, counted, with fault bit 209 and its completion event, reason 7 in step 1 and 8 in step 3. In any other step or state
neither event changes anything. (R458, R459, R460, R462, PID 0008h, PID 0009h, PID 000Ah, PID 000Dh, PID 000Eh, PID 0011h.) -/
def Obligations.FirmwareIsStagedAndActivated : Prop :=
  (∀ (s : State) (el : Nat) (q : Req), Ready s q roleSite → FullService s → s.standbyReady = true → s.fw.stager = none → s.fw.step = 0 →
    ∃ t, exec (.fwStage el q false) s = .next t ∧ t.rd 0x000A 0 = 1 ∧ t.rd 0x000C 0 = q.data.length % 2 ^ 32 ∧ t.fw.image = q.data ∧
      t.fw.stager = some (Req.who q s) ∧ t.out = s.out ∧
      SameBut [(0x0414, 2 * q.sess.val), (0x000A, 0), (0x000C, 0)] s t) ∧
  (∀ (s : State) (el : Nat) (q : Req) (last : Bool), Ready s q roleSite → FullService s → s.fw.stager.isSome = true ∨ s.fw.step ≠ 0 →
    ∃ t, exec (.fwStage el q last) s = .next t ∧ t.fw = s.fw ∧ t.out = s.out ++ [answer q 0x50 stBusy 0 0 []]) ∧
  (∀ (s : State) (el : Nat) (q : Req) (last : Bool), Ready s q roleSite → FullService s → s.fw.stager = none → s.fw.step = 0 →
    s.standbyReady = false →
    ∃ t, exec (.fwStage el q last) s = .next t ∧ t.fw = s.fw ∧ t.out = s.out ++ [answer q 0x50 stInterlock 0 0 []]) ∧
  (∀ (s : State) (el : Nat) (q : Req) (r : Request), (s.session (Req.key q)).request q.tag.toNat = some r → r.op = 0x50 → r.last = false →
    r.started = true → (s.session (Req.key q)).skip.contains q.tag.toNat = false → s.serving q.ctl.val = true →
    ∃ t, exec (.fwStage el q false) s = .next t ∧ t.fw.image = s.fw.image ++ q.data ∧
      t.rd 0x000C 0 = (s.fw.image.length + q.data.length) % 2 ^ 32 ∧ t.out = s.out ∧
      SameBut [(0x0414, 2 * q.sess.val), (0x000C, 0)] s t) ∧
  (∀ (s : State) (el : Nat) (q : Req), Ready s q roleSite → FullService s → s.standbyReady = true → s.fw.stager = none → s.fw.step = 0 →
    q.flashOk = true →
    ∃ t, exec (.fwStage el q true) s = .next t ∧ t.fw.image = [] ∧ t.fw.stager = none ∧
      (s.imageReason q.data = none → t.rd 0x000A 0 = 3 ∧ t.rd 0x000B 0 = imageField q.data 4 7 ∧ t.fw.header = q.data.take 128 ∧
          t.rd 0x0009 (s.idleBank 0) = 2 ∧ t.rd 0x0009 (2 + s.idleBank 1) = 2 ∧ t.rd 0x0006 (s.idleBank 0) = imageField q.data 4 7 ∧
          t.out = s.out ++ [answer q 0x50 stOk 0 0 []])) ∧
  (∀ (s : State) (el : Nat) (q : Req) (n : Fin 6), Ready s q roleSite → FullService s → s.standbyReady = true → s.fw.stager = none →
    s.fw.step = 0 → s.imageReason q.data = some n.val →
    ∃ t, exec (.fwStage el q true) s = .next t ∧ t.fw.image = [] ∧ t.fw.stager = none ∧ t.rd 0x000A 0 = 4 ∧
      t.rd 0x000D 0 = stStage * 256 + n.val ∧ Faulted t 208 ∧ t.rd 0x0009 0 = s.rd 0x0009 0 ∧ t.rd 0x0009 1 = s.rd 0x0009 1 ∧
      t.out = s.out ++ [answer q 0x50 stStage 0 0 (toBytes 1 n.val)]) ∧
  (∀ (s : State) (el : Nat) (q : Req), Ready s q roleSite → FullService s → s.standbyReady = true → s.fw.stager = none → s.fw.step = 0 →
    q.flashOk = false →
    ∃ t, exec (.fwStage el q true) s = .next t ∧ t.fw.image = [] ∧ t.fw.stager = none ∧ t.rd 0x000A 0 = 4 ∧ Faulted t 208 ∧
      (s.imageReason q.data = none → t.fw.header = [] ∧ t.rd 0x000D 0 = stStage * 256 + 6 ∧ t.rd 0x0009 (s.idleBank 0) = 3 ∧
          t.rd 0x0009 (2 + s.idleBank 1) = 3 ∧ t.out = s.out ++ [answer q 0x50 stStage 0 0 [6]])) ∧
  (∀ (s : State) (el n : Nat) (q : Req) (x : Session) (r : Request), s.owed = [] → s.committing = none →
    s.sessions = [(Req.key q, x)] → x.isOpen = true → x.skip.contains q.tag.toNat = false → x.requests = [r] → r.tag = q.tag.toNat →
    r.op = 0x50 → r.last = false → r.started = true → r.accepted = false → s.serving q.ctl.val = true →
    s.imageReason (s.fw.image ++ q.data) = some n →
    ∃ t, exec (.fwStage el q true) s = .next t ∧ t.fw.image = [] ∧ t.fw.stager = none ∧ t.rd 0x000A 0 = 4 ∧ Faulted t 208 ∧
      (t.session (Req.key q)).requests = [] ∧
      t.out = s.out ++ [⟨q.ctl.val, 0xA0, q.sess.val, q.tag.toNat, 0x50, stStage, r.pid, r.inst, toBytes 1 n⟩]) ∧
  (∀ (s : State) (el : Nat) (q : Req) (a : Bool), Ready s q roleSite → FullService s → q.data = [if a then 1 else 0, 0, 0, 0] →
    s.isStaged = true → s.pathDiffers = false ∨ a = true → s.standbyReady = true → s.rd 0x103E 0 = 0 → s.reseed = none → s.fw.step = 0 →
    ∃ t, exec (.fwActivate el q) s = .next t ∧ t.fw.step = 1 ∧ t.rd 0x000E 0 = 1 ∧ t.fw.who = some (Req.who q s) ∧
      t.fw.stepAt = s.clk + el ∧ t.ctlState (1 - q.ctl.val) = 1 ∧ t.rd 0x0008 (1 - q.ctl.val) = 1 - s.rd 0x0007 (1 - q.ctl.val) % 2 ∧
      t.holder = some q.ctl.val ∧ t.out = s.out ++ [answer q 0x51 stAccepted 0 0 []]) ∧
  (∀ (s : State) (el : Nat) (q : Req), Ready s q roleSite → FullService s → q.data.length ≤ 65536 →
    q.data.length ≠ 4 ∨ 1 < getBE q.data 0 1 ∨ getBE q.data 1 3 ≠ 0 →
    ∃ t, exec (.fwActivate el q) s = .next t ∧ t.fw = s.fw ∧ Answers s t q 0x51 stRange 0 0 [] []) ∧
  (∀ (s : State) (el : Nat) (q : Req) (a : Bool), Ready s q roleSite → FullService s → q.data = [if a then 1 else 0, 0, 0, 0] →
    s.isStaged = false ∨ (s.pathDiffers = true ∧ a = false) ∨ s.standbyReady = false ∨ s.rd 0x103E 0 ≠ 0 ∨ s.reseed.isSome = true ∨ s.fw.step ≠ 0 →
    ∃ t, exec (.fwActivate el q) s = .next t ∧ t.fw = s.fw ∧ Answers s t q 0x51 stInterlock 0 0 [] []) ∧
  (∀ (s : State) (el : Nat), Quiet s → s.fw.step = 1 → s.ctlState s.fw.standby = 4 →
    s.rd 0x0007 s.fw.standby = s.rd 0x0008 s.fw.standby → s.swapBarred = false →
    ∃ t, exec (.activationStandbyReady el) s = .next t ∧ t.fw.step = 2 ∧ t.rd 0x000E 0 = 2 ∧ t.swap = some ⟨4, s.clk + el, none⟩ ∧
      SameBut [(0x000E, 0)] s t) ∧
  (∀ (s : State) (el : Nat), Quiet s → (s.fw.step ≠ 1 ∧ s.fw.step ≠ 3) ∨ (s.fw.step = 1 ∧ s.swapBarred = true) ∨
    s.rd 0x0007 s.fw.standby ≠ s.rd 0x0008 s.fw.standby ∨ (s.ctlState s.fw.standby ≠ 4 ∧ s.ctlState s.fw.standby ≠ 5) ∨
    (s.fw.step = 1 ∧ s.ctlState s.fw.standby = 5) → exec (.activationStandbyReady el) s = .next (s.tick el)) ∧
  (∀ (s : State) (el : Nat) (a : Bool) (c : CtlNo), s.owed = [] → s.sessions = [] → s.holder = some c.val → s.ctlState c.val = 4 →
    s.rd 0x0300 0 = 1 - c.val → s.swap = none → s.committing = none → s.fw.step = 2 → s.fw.stager = none →
    ∃ t, exec (.switchover ⟨el, a⟩) s = .next t ∧ t.fw.step = 3 ∧ t.fw.standby = 1 - c.val ∧ t.fw.stepAt = s.clk + el ∧
      t.rd 0x000E 0 = 3 ∧ t.ctlState (1 - c.val) = 1 ∧ t.rd 0x0008 (1 - c.val) = 1 - s.rd 0x0007 (1 - c.val) % 2) ∧
  (∀ (s : State) (el k tag : Nat) (x : Session) (r : Request), s.owed = [] → s.sessions = [(k, x)] → x.isOpen = true → x.requests = [r] →
    r.tag = tag → r.accepted = true → r.started = true → s.fw.who = some ⟨k, x.gen, tag⟩ → s.holder = some (k / 4) → s.fw.step = 3 →
    s.ctlState s.fw.standby = 4 ∨ s.ctlState s.fw.standby = 5 → s.rd 0x0007 s.fw.standby = s.rd 0x0008 s.fw.standby → s.pathDiffers = false →
    ∃ t, exec (.activationStandbyReady el) s = .next t ∧ t.fw.step = 0 ∧ t.fw.header = [] ∧ t.rd 0x000E 0 = 0 ∧ t.rd 0x000F 0 = 0 ∧
      t.rd 0x0010 0 = (s.rd 0x0010 0 + 1) % 2 ^ 32 ∧
      t.rd 0x001F 0 = max (s.rd 0x001F 0) (getBE s.fw.header 12 4) ∧ t.rd 0x0009 (s.runningBank 0) = 1 ∧ t.rd 0x0009 (2 + s.runningBank 1) = 1 ∧
      t.out = s.out ++ [⟨k / 4, 0xE0, k % 4, tag, r.op, stOk, r.pid, r.inst,
        toBytes 4 (s.rd 0x0006 (2 * s.active + s.runningBank s.active)) ++ toBytes 4 ((s.clk + el - s.fw.since) / 400000000)⟩]) ∧
  (∀ (s : State) (el : Nat), Quiet s → s.fw.step = 3 →
    s.ctlState s.fw.standby = 4 ∨ s.ctlState s.fw.standby = 5 →
    s.rd 0x0007 s.fw.standby = s.rd 0x0008 s.fw.standby → s.pathDiffers = true →
    ∃ t, exec (.activationStandbyReady el) s = .next t ∧ t.rd 0x0105 0 = 2 ∧ t.rd 0x0106 0 = (s.rd 0x0106 0 + 1) % 2 ^ 32 ∧
      t.fw.dataPath = s.stagedPath ∧ t.fw.step = 0 ∧ t.rc = s.tickRC el) ∧
  (∀ (s : State) (el k tag : Nat) (x : Session) (r : Request), s.owed = [] → s.sessions = [(k, x)] → x.isOpen = true → x.requests = [r] →
    s.committing = none → r.tag = tag → r.accepted = true → r.started = true → s.fw.who = some ⟨k, x.gen, tag⟩ →
    s.holder = some (k / 4) → s.fw.step = 1 ∨ s.fw.step = 3 →
    s.fw.standby = 1 - k / 4 → k < 8 → s.ctlState s.fw.standby ≠ 4 → s.ctlState s.fw.standby ≠ 5 → s.fw.stepAt + 300 * 400000000 ≤ s.clk + el →
    ∃ t, exec (.activationTimeout el) s = .next t ∧ t.fw.step = 0 ∧ t.rd 0x000E 0 = 5 ∧ t.rd 0x000F 0 = stStage * 256 + (if s.fw.step = 1 then 7 else 8) ∧
      t.rd 0x0011 0 = (s.rd 0x0011 0 + 1) % 2 ^ 32 ∧ Faulted t 209 ∧
      t.ctlState s.fw.standby = 1 ∧ t.rd 0x0008 s.fw.standby = 1 - s.rd 0x0008 s.fw.standby % 2 ∧
      t.out = s.out ++ [⟨k / 4, 0xE0, k % 4, tag, r.op, stStage, r.pid, r.inst,
        [if s.fw.step = 1 then 7 else 8]⟩]) ∧
  (∀ (s : State) (el : Nat), Quiet s → (s.fw.step ≠ 1 ∧ s.fw.step ≠ 3) ∨ s.clk + el < s.fw.stepAt + 300 * 400000000 ∨
      s.ctlState s.fw.standby = 4 ∨ s.ctlState s.fw.standby = 5 →
    exec (.activationTimeout el) s = .next (s.tick el))

/-- The hod's channels: descriptors started, completed, halted, timed out, paused, resumed, abandoned, aborted. An idle channel that is
not paused takes the descriptor at its ring's head, or the one that a link names: a good one runs with its addresses and length and
stands in DRAM; a bad one halts with status 9, one that needs the mortar line without the token with 6, one outside its space with
11; one whose domain drains waits at the boundary; an empty ring, or a descriptor that the hod does not own, leaves the channel
idle. A completed descriptor moves every byte of its source to its destination, at any alignment, and no other byte but its own
status and control changes; it is counted, and the ring moves on, or the link is followed, up to the chain limit (status 7, fault
bit 225). A read-back mismatch halts with status 1 and a read-back that fails with 2, both with fault bit 226, an uncorrectable
error with 4, an address outside its space with 11, a target that does not answer with 3 and fault bit 224, a power-down after 100
µs with 8 and fault bit 227. How many bytes a stopped channel has moved is free. A pause stops the channel, and its end lets it go
on; a resume starts a halted one again, and an abandon moves on with status 10; a channel that is not halted answers BUSY. Without
its condition no event changes anything. (R466, R467, R468, R471, R472, R473, R474, R475, PID 3800h, PID 380Eh.) -/
def Obligations.ChannelsRunTheirDescriptors : Prop :=
  (∀ (s : State) (el : Nat) (n : Fin 32) (b : BitVec 64) (z : Fin 9) (tl : BitVec 12) (d : BitVec 256), s.runs (n.val / 16) = true →
    s.chanState n.val = 0 → (s.chan n.val).cur = none → (s.chan n.val).link = none → s.rd 0x3806 n.val = 0 →
    s.rd 0x3805 n.val % 2 ^ (4 + z.val) = tl.toNat % 2 ^ (4 + z.val) ∨ (byteAt 32 d.toNat 20).testBit 7 = false →
    exec (.hodDescriptor el n b z tl d) s = .next (s.ran el ((((s.tick el).wr 0x3802 n.val b.toNat).wr 0x3803 n.val
      (2 ^ (4 + z.val))).wr 0x3804 n.val (tl.toNat % 2 ^ (4 + z.val))))) ∧
  (∀ (s : State) (el : Nat) (n : Fin 32) (b : BitVec 64) (z : Fin 9) (tl : BitVec 12) (d : BitVec 256), s.runs (n.val / 16) = true →
    s.chanState n.val = 0 → (s.chan n.val).cur = none → (s.chan n.val).link = none → s.rd 0x3806 n.val = 0 →
    s.rd 0x3805 n.val % 2 ^ (4 + z.val) ≠ tl.toNat % 2 ^ (4 + z.val) → (byteAt 32 d.toNat 20).testBit 7 = true →
    s.draining d.toNat = none → descOk d.toNat = true → s.holder = some (n.val / 16) → descInside d.toNat = true →
    ∃ t, exec (.hodDescriptor el n b z tl d) s = .next t ∧ t.chanState n.val = 1 ∧ (t.chan n.val).cur = some d.toNat ∧
      t.rd 0x3809 n.val = bytesAt 32 d.toNat 0 7 ∧ t.rd 0x380A n.val = bytesAt 32 d.toNat 8 15 ∧ t.rd 0x380B n.val = descLength d.toNat ∧
      t.rd 0x380C n.val = (b.toNat + 32 * (s.rd 0x3805 n.val % 2 ^ (4 + z.val))) % 2 ^ 64 ∧ t.rd 0x380D n.val = 1 ∧
      (b.toNat + 32 * (s.rd 0x3805 n.val % 2 ^ (4 + z.val)) + 32 ≤ 2 ^ 64 → ∀ i : Fin 32, t.memByte (n.val / 16)
        (b.toNat + 32 * (s.rd 0x3805 n.val % 2 ^ (4 + z.val)) + i.val) = (toBytes 32 d.toNat).getD i.val 0) ∧
      SameBut ([0x3800, 0x3802, 0x3803, 0x3804, 0x3809, 0x380A, 0x380B, 0x380C, 0x380D].map (fun p => (p, n.val))) s t) ∧
  (∀ (s : State) (el : Nat) (n : Fin 32) (b : BitVec 64) (z : Fin 9) (tl : BitVec 12) (d : BitVec 256), s.runs (n.val / 16) = true →
    s.chanState n.val = 0 → (s.chan n.val).cur = none → (s.chan n.val).link = none → s.rd 0x3806 n.val = 0 →
    s.rd 0x3805 n.val % 2 ^ (4 + z.val) ≠ tl.toNat % 2 ^ (4 + z.val) → (byteAt 32 d.toNat 20).testBit 7 = true →
    s.draining d.toNat = none → descOk d.toNat = false →
    ∃ t, exec (.hodDescriptor el n b z tl d) s = .next t ∧ t.chanState n.val = 4 ∧ t.rd 0x380E n.val = 9 ∧
      t.rd 0x3812 n.val = (s.rd 0x3812 n.val + 1) % 2 ^ 32 ∧ (t.chan n.val).cur = some d.toNat ∧ t.faults = s.faults) ∧
  (∀ (s : State) (el : Nat) (n : Fin 32) (b : BitVec 64) (z : Fin 9) (tl : BitVec 12) (d : BitVec 256), s.runs (n.val / 16) = true →
    s.chanState n.val = 0 → (s.chan n.val).cur = none → (s.chan n.val).link = none → s.rd 0x3806 n.val = 0 →
    s.rd 0x3805 n.val % 2 ^ (4 + z.val) ≠ tl.toNat % 2 ^ (4 + z.val) → (byteAt 32 d.toNat 20).testBit 7 = true →
    s.draining d.toNat = none → descOk d.toNat = true → s.holder ≠ some (n.val / 16) → spaceGated (descSrc d.toNat) = true →
    ∃ t, exec (.hodDescriptor el n b z tl d) s = .next t ∧ t.chanState n.val = 4 ∧ t.rd 0x380E n.val = 6 ∧ (t.chan n.val).cur = some d.toNat) ∧
  (∀ (s : State) (el : Nat) (n : Fin 32) (b : BitVec 64) (z : Fin 9) (tl : BitVec 12) (d : BitVec 256), s.runs (n.val / 16) = true →
    s.chanState n.val = 0 → (s.chan n.val).cur = none → (s.chan n.val).link = none → s.rd 0x3806 n.val = 0 →
    s.rd 0x3805 n.val % 2 ^ (4 + z.val) ≠ tl.toNat % 2 ^ (4 + z.val) → (byteAt 32 d.toNat 20).testBit 7 = true →
    s.draining d.toNat = none → descOk d.toNat = true →
    s.holder = some (n.val / 16) ∨ (spaceGated (descSrc d.toNat) = false ∧ spaceGated (descDst d.toNat) = false) →
    descInside d.toNat = false →
    ∃ t, exec (.hodDescriptor el n b z tl d) s = .next t ∧ t.chanState n.val = 4 ∧ t.rd 0x380E n.val = 11 ∧
      t.rd 0x3812 n.val = (s.rd 0x3812 n.val + 1) % 2 ^ 32 ∧ (t.chan n.val).cur = some d.toNat ∧ t.faults = s.faults) ∧
  (∀ (s : State) (el x at0 : Nat) (n : Fin 32) (b : BitVec 64) (z : Fin 9) (tl : BitVec 12) (d : BitVec 256), s.runs (n.val / 16) = true →
    s.chanState n.val = 0 → (s.chan n.val).cur = none →  s.rd 0x3806 n.val = 0 →
    s.rd 0x3805 n.val % 2 ^ (4 + z.val) ≠ tl.toNat % 2 ^ (4 + z.val) → (byteAt 32 d.toNat 20).testBit 7 = true →
    s.draining d.toNat = some (x, at0) →
    ∃ t, exec (.hodDescriptor el n b z tl d) s = .next t ∧ t.chanState n.val = 5 ∧ (t.chan n.val).boundary = some x ∧
      (t.chan n.val).cur = none ∧ (t.chan n.val).link = (s.chan n.val).link ∧
      SameBut ([0x3800, 0x3802, 0x3803, 0x3804].map (fun p => (p, n.val))) s t) ∧
  (∀ (s : State) (el a : Nat) (n : Fin 32) (b : BitVec 64) (z : Fin 9) (tl : BitVec 12) (d : BitVec 256), s.runs (n.val / 16) = true →
    s.chanState n.val = 0 → (s.chan n.val).cur = none → (s.chan n.val).link = some a → s.rd 0x3806 n.val = 0 →
    (byteAt 32 d.toNat 20).testBit 7 = true →
    s.draining d.toNat = none → descOk d.toNat = true → s.holder = some (n.val / 16) → descInside d.toNat = true →
    ∃ t, exec (.hodDescriptor el n b z tl d) s = .next t ∧ t.chanState n.val = 1 ∧ (t.chan n.val).cur = some d.toNat ∧
      (t.chan n.val).link = none ∧ t.rd 0x380C n.val = a % 2 ^ 64 ∧ t.rd 0x380D n.val = (s.rd 0x380D n.val + 1) % 2 ^ 16 ∧
      t.rd 0x380B n.val = descLength d.toNat) ∧
  (∀ (s : State) (el : Nat) (n : Fin 32) (b : BitVec 64) (z : Fin 9) (tl : BitVec 12) (d : BitVec 256), s.runs (n.val / 16) = false ∨
    s.chanState n.val ≠ 0 ∨ (s.chan n.val).cur ≠ none ∨ s.rd 0x3806 n.val ≠ 0 → exec (.hodDescriptor el n b z tl d) s = .next (s.tick el)) ∧
  (∀ (s : State) (el d : Nat) (n : Fin 32), (s.chan n.val).cur = some d → s.chanState n.val = 1 → (byteAt 32 d 20).testBit 6 = false →
    s.draining d = none → (s.chan n.val).boundary = none → s.rd 0x3806 n.val = 0 → 0 < s.rd 0x3803 n.val → s.rd 0x3803 n.val ≤ 4096 →
    ∃ t, exec (.descriptorComplete el n 0) s = .next t ∧ t.chanState n.val = 0 ∧ (t.chan n.val).cur = none ∧ t.rd 0x380E n.val = 0 ∧
      t.rd 0x3805 n.val = (s.rd 0x3805 n.val + 1) % s.rd 0x3803 n.val ∧ t.rd 0x380B n.val = 0 ∧
      t.rd 0x3810 n.val = (s.rd 0x3810 n.val + 1) % 2 ^ 64 ∧ t.rd 0x3811 n.val = (s.rd 0x3811 n.val + s.rd 0x380B n.val) % 2 ^ 64 ∧
      SameBut ([0x3800, 0x3805, 0x3809, 0x380A, 0x380B, 0x380D, 0x380E, 0x3810, 0x3811].map (fun p => (p, n.val))) s t) ∧
  (∀ (s : State) (el d g m i : Nat) (n : Fin 32), (s.chan n.val).cur = some d → s.chanState n.val = 1 →
    (spaceMems (n.val / 16) (descSrc d) (s.rd 0x3809 n.val)).head? = some g → m ∈ spaceMems (n.val / 16) (descDst d) (s.rd 0x380A n.val) →
    i < s.rd 0x380B n.val → s.rd 0x380A n.val + s.rd 0x380B n.val ≤ 2 ^ 64 →
    m ≠ n.val / 16 ∨ (s.rd 0x380A n.val + i ≠ (s.rd 0x380C n.val + 20) % 2 ^ 64 ∧
      s.rd 0x380A n.val + i ≠ (s.rd 0x380C n.val + 22) % 2 ^ 64) →
    ∃ t, exec (.descriptorComplete el n 0) s = .next t ∧
      t.memByte m (s.rd 0x380A n.val + i) = (s.tick el).memByte g (s.rd 0x3809 n.val + i)) ∧
  (∀ (s : State) (el d m x : Nat) (n : Fin 32), (s.chan n.val).cur = some d → s.chanState n.val = 1 → x < 2 ^ 64 →
    s.rd 0x380A n.val + s.rd 0x380B n.val ≤ 2 ^ 64 →
    m ∉ spaceMems (n.val / 16) (descDst d) (s.rd 0x380A n.val) ∨ x < s.rd 0x380A n.val ∨ s.rd 0x380A n.val + s.rd 0x380B n.val ≤ x →
    m ≠ n.val / 16 ∨ (x ≠ (s.rd 0x380C n.val + 20) % 2 ^ 64 ∧ x ≠ (s.rd 0x380C n.val + 22) % 2 ^ 64) →
    ∃ t, exec (.descriptorComplete el n 0) s = .next t ∧ t.memByte m x = (s.tick el).memByte m x) ∧
  (∀ (s : State) (el d : Nat) (n : Fin 32), (s.chan n.val).cur = some d → s.chanState n.val = 1 → (byteAt 32 d 20).testBit 6 = true →
    s.draining d = none → (s.chan n.val).boundary = none → s.rd 0x3806 n.val = 0 →
    ∃ t, exec (.descriptorComplete el n 0) s = .next t ∧ (t.chan n.val).cur = none ∧
      (t.chan n.val).link = some (bytesAt 32 d 24 31) ∧ t.rd 0x3805 n.val = s.rd 0x3805 n.val ∧
      t.rd 0x3810 n.val = (s.rd 0x3810 n.val + 1) % 2 ^ 64 ∧
      (if s.rd 0x3819 0 ≤ s.rd 0x380D n.val
        then t.chanState n.val = 4 ∧ t.rd 0x380E n.val = 7 ∧ Faulted t 225 ∧ t.rd 0x3814 n.val = (s.rd 0x3814 n.val + 1) % 2 ^ 32
        else t.chanState n.val = 0 ∧ t.rd 0x380E n.val = 0 ∧ t.faults = s.faults)) ∧
  (∀ (s : State) (el d : Nat) (n : Fin 32), (s.chan n.val).cur = some d → s.chanState n.val = 1 →
    ∃ t, exec (.descriptorComplete el n 2) s = .next t ∧ t.chanState n.val = 4 ∧ t.rd 0x380E n.val = 2 ∧ Faulted t 226 ∧
      t.rd 0x3815 n.val = (s.rd 0x3815 n.val + 1) % 2 ^ 32 ∧ (t.chan n.val).cur = some d) ∧
  (∀ (s : State) (el d : Nat) (n : Fin 32), (s.chan n.val).cur = some d → s.chanState n.val = 1 →
    ∃ t, exec (.descriptorComplete el n 4) s = .next t ∧ t.chanState n.val = 4 ∧ t.rd 0x380E n.val = 11 ∧ t.faults = s.faults ∧
      (t.chan n.val).cur = some d) ∧
  (∀ (s : State) (el d : Nat) (n : Fin 32), (s.chan n.val).cur = some d → s.chanState n.val = 1 →
    ∃ t, exec (.descriptorComplete el n 1) s = .next t ∧ t.chanState n.val = 4 ∧ t.rd 0x380E n.val = 1 ∧ Faulted t 226 ∧
      t.rd 0x3815 n.val = (s.rd 0x3815 n.val + 1) % 2 ^ 32 ∧ (t.chan n.val).cur = some d) ∧
  (∀ (s : State) (el d : Nat) (n : Fin 32), (s.chan n.val).cur = some d → s.chanState n.val = 1 →
    ∃ t, exec (.descriptorComplete el n 3) s = .next t ∧ t.chanState n.val = 4 ∧ t.rd 0x380E n.val = 4 ∧ t.drawn = s.drawn + 1 ∧
      (t.chan n.val).cur = some d ∧ ((spaceMems (n.val / 16) (descSrc d) (bytesAt 32 d 0 7)).all (fun m =>
        Tab.find? t.clocks.dataErrors m == some (s.clk + el))) = true) ∧
  (∀ (s : State) (el : Nat) (n : Fin 32) (r : Fin 5), (s.chan n.val).cur = none ∨ s.chanState n.val ≠ 1 →
    exec (.descriptorComplete el n r) s = .next (s.tick el)) ∧
  (∀ (s : State) (el d : Nat) (n : Fin 32), (s.chan n.val).cur = some d → s.chanState n.val = 1 →
    ∃ t, exec (.targetTimeout el n) s = .next t ∧ t.chanState n.val = 4 ∧ t.rd 0x380E n.val = 3 ∧ Faulted t 224 ∧
      t.rd 0x3813 n.val = (s.rd 0x3813 n.val + 1) % 2 ^ 32 ∧ t.drawn = s.drawn + 1 ∧ t.rd 0x380B n.val ≤ s.rd 0x380B n.val) ∧
  (∀ (s : State) (el : Nat) (n : Fin 32), (s.chan n.val).cur = none ∨ s.chanState n.val ≠ 1 →
    exec (.targetTimeout el n) s = .next (s.tick el)) ∧
  (∀ (s : State) (el : Nat) (q : Req), Ready s q roleSite → FullService s → q.inst.toNat < 32 → q.data = [1] →
    s.chanState q.inst.toNat = 1 →
    ∃ t, exec (.hodPause el q) s = .next t ∧ t.chanState q.inst.toNat = 3 ∧ t.rd 0x3806 q.inst.toNat = 1 ∧ t.drawn = s.drawn + 1 ∧
      t.out = s.out ++ [answer q 0x02 stOk 0x3806 q.inst.toNat []]) ∧
  (∀ (s : State) (el : Nat) (q : Req), Ready s q roleSite → FullService s → q.inst.toNat < 32 → q.data = [1] →
    s.chanState q.inst.toNat = 0 →
    ∃ t, exec (.hodPause el q) s = .next t ∧ t.chanState q.inst.toNat = 3 ∧ t.chans = s.chans ∧
      Answers s t q 0x02 stOk 0x3806 q.inst.toNat [] [(0x3800, q.inst.toNat), (0x3806, q.inst.toNat)]) ∧
  (∀ (s : State) (el d : Nat) (q : Req), Ready s q roleSite → FullService s → q.inst.toNat < 32 → q.data = [0] →
    s.chanState q.inst.toNat = 3 → (s.chan q.inst.toNat).cur = some d → descOk d = true → descInside d = true →
    s.holder = some (q.inst.toNat / 16) ∨ (spaceGated (descSrc d) = false ∧ spaceGated (descDst d) = false) →
    ∃ t, exec (.hodPause el q) s = .next t ∧ t.chanState q.inst.toNat = 1 ∧ t.chans = s.chans ∧
      Answers s t q 0x02 stOk 0x3806 q.inst.toNat [] [(0x3800, q.inst.toNat), (0x3806, q.inst.toNat)]) ∧
  (∀ (s : State) (el : Nat) (q : Req), Ready s q roleSite → FullService s → q.inst.toNat < 32 → q.data = [0] →
    s.chanState q.inst.toNat = 3 → (s.chan q.inst.toNat).cur = none →
    ∃ t, exec (.hodPause el q) s = .next t ∧ t.chanState q.inst.toNat = 0 ∧ t.rd 0x3806 q.inst.toNat = 0 ∧
      Answers s t q 0x02 stOk 0x3806 q.inst.toNat [] [(0x3800, q.inst.toNat), (0x3806, q.inst.toNat)]) ∧
  (∀ (s : State) (el d : Nat) (q : Req), Ready s q roleSite → FullService s → q.inst.toNat < 32 → s.chanState q.inst.toNat = 4 →
    (s.chan q.inst.toNat).cur = some d → s.rd 0x3806 q.inst.toNat = 0 → descOk d = true → descInside d = true →
    s.holder = some (q.inst.toNat / 16) ∨ (spaceGated (descSrc d) = false ∧ spaceGated (descDst d) = false) →
    ∃ t, exec (.hodResume el q) s = .next t ∧ t.chanState q.inst.toNat = 1 ∧ (t.chan q.inst.toNat).cur = some d ∧
      Answers s t q 0x02 stOk 0x3807 q.inst.toNat [] [(0x3800, q.inst.toNat)]) ∧
  (∀ (s : State) (el : Nat) (q : Req), Ready s q roleSite → FullService s → q.inst.toNat < 32 → s.chanState q.inst.toNat ≠ 4 →
    ∃ t, exec (.hodResume el q) s = .next t ∧ t.chans = s.chans ∧ Answers s t q 0x02 stBusy 0x3807 q.inst.toNat [] []) ∧
  (∀ (s : State) (el : Nat) (q : Req), Ready s q roleSite → FullService s → q.inst.toNat < 32 → s.chanState q.inst.toNat = 4 →
    s.rd 0x3806 q.inst.toNat = 1 → (s.chan q.inst.toNat).boundary = none →
    ∃ t, exec (.hodResume el q) s = .next t ∧ t.chanState q.inst.toNat = 3 ∧ t.chans = s.chans ∧
      Answers s t q 0x02 stOk 0x3807 q.inst.toNat [] [(0x3800, q.inst.toNat)]) ∧
  (∀ (s : State) (el : Nat) (q : Req), Ready s q roleSite → FullService s → q.inst.toNat < 32 → s.chanState q.inst.toNat ≠ 4 →
    ∃ t, exec (.hodAbandon el q) s = .next t ∧ t.chans = s.chans ∧ Answers s t q 0x02 stBusy 0x3807 q.inst.toNat [] []) ∧
  (∀ (s : State) (el d : Nat) (q : Req), Ready s q roleSite → FullService s → q.inst.toNat < 32 → s.chanState q.inst.toNat = 4 →
    (s.chan q.inst.toNat).cur = some d → (s.chan q.inst.toNat).boundary = none → s.rd 0x3806 q.inst.toNat = 0 →
    (byteAt 32 d 20).testBit 6 = false → s.draining d = none → 0 < s.rd 0x3803 q.inst.toNat → s.rd 0x3803 q.inst.toNat ≤ 4096 →
    ∃ t, exec (.hodAbandon el q) s = .next t ∧ t.chanState q.inst.toNat = 0 ∧ (t.chan q.inst.toNat).cur = none ∧
      t.rd 0x3805 q.inst.toNat = (s.rd 0x3805 q.inst.toNat + 1) % s.rd 0x3803 q.inst.toNat ∧ t.rd 0x380E q.inst.toNat = 10 ∧
      t.out = s.out ++ [answer q 0x02 stOk 0x3807 q.inst.toNat []]) ∧
  (∀ (s : State) (el d x at0 : Nat) (n : Fin 32), (s.chan n.val).cur = some d → s.draining d = some (x, at0) →
    s.chanState n.val = 1 ∨ s.chanState n.val = 3 → at0 + 40000 ≤ s.clk + el →
    ∃ t, exec (.hodPowerDownAbort el n) s = .next t ∧ t.chanState n.val = 4 ∧ t.rd 0x380E n.val = 8 ∧ Faulted t 227 ∧
      t.rd 0x3816 n.val = (s.rd 0x3816 n.val + 1) % 2 ^ 32 ∧ t.drawn = s.drawn + 1) ∧
  (∀ (s : State) (el d x at0 : Nat) (n : Fin 32), (s.chan n.val).cur = some d → s.draining d = some (x, at0) →
    (s.chanState n.val ≠ 1 ∧ s.chanState n.val ≠ 3) ∨ s.clk + el < at0 + 40000 →
    exec (.hodPowerDownAbort el n) s = .next (s.tick el)) ∧
  (∀ (s : State) (el d : Nat) (n : Fin 32), (s.chan n.val).cur = some d → s.draining d = none →
    exec (.hodPowerDownAbort el n) s = .next (s.tick el)) ∧
  (∀ (s : State) (el : Nat) (n : Fin 32), (s.chan n.val).cur = none → exec (.hodPowerDownAbort el n) s = .next (s.tick el))

/-- Frames to and from a controller: a copy is posted once, keys retire after 50 µs, a frame is injected in both planes. A good copy for
the controller that holds the token goes to a buffer of its channel's prefetch cache behind its receive header, handed over to a
core, and is counted (PID 381Dh); of an oversize frame the core records a parse error of class 7 and frees the buffer. The double of
a copy that was posted is discarded (PID 381Eh), a late one (PID 3820h), a bad one (PID 381Fh), whose key stays open for its twin,
one for a controller without the token (PID 3824h), one without a descriptor in the ring (PID 3823h), and one from a plane that is
not bonded or from before its join. A key that has stood 50 µs retires. Drops in 1,000 windows running set fault bit 228. A frame
whose header keeps R479 gets the next sequence number, is offered to the planes in the replication set, and its buffer is free
again; a bad header halts the channel with status 9, and a controller without the token with status 6. A channel that does not run,
or a controller that does not, injects nothing. (R477, R478, R479, R480, R483, PID 381Dh, PID 381Eh, PID 3823h, PID 3824h, PID
3825h, PID 3826h, PID 3827h.) -/
def Obligations.ControllersReceiveAndInjectFrames : Prop :=
  (∀ (s : State) (el : Nat) (c : CtlNo) (p : PlaneNo) (k : Fin 4) (r : Bool), Tab.get [] (s.pl p.val).links (144 + c.val) = [] →
    exec (.controllerCopyReceived el c p k r) s = .next (s.tick el)) ∧
  (∀ (s : State) (el a : Nat) (c : CtlNo) (p : PlaneNo) (k : Fin 4) (x : LinkCopy), Tab.get [] (s.pl p.val).links (144 + c.val) = [x] →
    x.status = some 0 → s.isOn p.val = true → s.rd 0x281F p.val = 2 → Tab.get 0 s.joins p.val ≤ x.frame.rc → s.holder = some c.val →
    s.recvOf c.val = ⟨[], []⟩ → s.wantsFraction x.frame = false → s.chanState (s.recvChannel c.val x.cls) = 0 →
    x.bytes.length ≤ 224 → x.frame.reason ≠ 4 →
    (s.bufCache c.val (s.recvChannel c.val x.cls % 16) 0).head? = some a →
    ∃ t, exec (.controllerCopyReceived el c p k true) s = .next t ∧
      (Tab.find? t.bufs a).map (fun b => (b.holder, b.held, b.quarantined, b.bytes)) =
        some (16 + k.val, true, false, recvHeader x.frame x.cls p.val x.bytes.length ++ x.bytes) ∧
      Tab.get [] (t.pl p.val).links (144 + c.val) = [] ∧ t.rd 0x381D c.val = (s.rd 0x381D c.val + 1) % 2 ^ 64 ∧
      t.rd 0x3828 c.val = (s.rd 0x3828 c.val + 1) % 2 ^ 64) ∧
  (∀ (s : State) (el a : Nat) (c : CtlNo) (p : PlaneNo) (k : Fin 4) (x : LinkCopy), Tab.get [] (s.pl p.val).links (144 + c.val) = [x] →
    x.status = some 0 → s.isOn p.val = true → s.rd 0x281F p.val = 2 → Tab.get 0 s.joins p.val ≤ x.frame.rc → s.holder = some c.val →
    s.recvOf c.val = ⟨[], []⟩ → s.wantsFraction x.frame = false → s.chanState (s.recvChannel c.val x.cls) = 0 →
    x.bytes.length ≤ 224 → x.frame.reason = 4 → s.rd 0x1005 0 = 1 →
    (s.bufCache c.val (s.recvChannel c.val x.cls % 16) 0).head? = some a →
    ∃ t, exec (.controllerCopyReceived el c p k true) s = .next t ∧ Tab.find? t.bufs a = none ∧
      t.rd 0x1006 (256 * p.val + s.rd 0x1007 p.val) = errorRecord x.frame 7 (bedTenant x.frame.bed) 0xFF 0 % 2 ^ 128 ∧
      t.rd 0x1007 p.val = (s.rd 0x1007 p.val + 1) % 256 ∧ t.rd 0x381D c.val = (s.rd 0x381D c.val + 1) % 2 ^ 64) ∧
  (∀ (s : State) (el : Nat) (c : CtlNo) (p : PlaneNo) (k : Fin 4) (r : Bool) (x : LinkCopy) (e : Nat),
    Tab.get [] (s.pl p.val).links (144 + c.val) = [x] → x.status.isSome = true → s.isOn p.val = true → s.rd 0x281F p.val = 2 →
    Tab.get 0 s.joins p.val ≤ x.frame.rc → s.holder = some c.val → s.recvOf c.val = ⟨[], [(x.frame.port, x.frame.seq, e)]⟩ →
    s.tickRC el ≤ e + s.rd 0x1428 0 * 400000 + 16192 →
    ∃ t, exec (.controllerCopyReceived el c p k r) s = .next t ∧ t.bufs = s.bufs ∧
      t.rd 0x3820 c.val = (s.rd 0x3820 c.val + 1) % 2 ^ 64 ∧ SameBut [(0x3820, c.val)] s t) ∧
  (∀ (s : State) (el st : Nat) (c : CtlNo) (p : PlaneNo) (k : Fin 4) (r : Bool) (x : LinkCopy),
    Tab.get [] (s.pl p.val).links (144 + c.val) = [x] → x.status = some st → st ≠ 0 → s.isOn 0 = true → s.isOn 1 = true →
    s.rd 0x281F 0 = 2 → s.rd 0x281F 1 = 2 → Tab.get 0 s.joins p.val ≤ x.frame.rc → s.holder = some c.val →
    s.recvOf c.val = ⟨[], []⟩ →
    ∃ t, exec (.controllerCopyReceived el c p k r) s = .next t ∧ t.bufs = s.bufs ∧
      t.recvOf c.val = ⟨[⟨x.frame.port, x.frame.seq, x.frame.rc, s.tickRC el, false⟩], []⟩ ∧
      t.rd 0x381F c.val = (s.rd 0x381F c.val + 1) % 2 ^ 64 ∧ SameBut [(0x381F, c.val)] s t) ∧
  (∀ (s : State) (el : Nat) (c : CtlNo) (p : PlaneNo) (k : Fin 4) (r : Bool) (x : LinkCopy),
    Tab.get [] (s.pl p.val).links (144 + c.val) = [x] → x.status.isSome = true →
    s.isOn p.val = false ∨ (s.rd 0x281F p.val ≠ 2 ∧ s.rd 0x281F p.val ≠ 3) ∨
      (s.rd 0x281F p.val = 2 ∧ x.frame.rc < Tab.get 0 s.joins p.val) →
    ∃ t, exec (.controllerCopyReceived el c p k r) s = .next t ∧ t.bufs = s.bufs ∧ t.recv = s.recv ∧ t.regs = s.regs ∧
      Tab.get [] (t.pl p.val).links (144 + c.val) = []) ∧
  (∀ (s : State) (el : Nat) (c : CtlNo) (p : PlaneNo) (k : Fin 4) (r : Bool) (x : LinkCopy) (l : List LinkCopy),
    Tab.get [] (s.pl p.val).links (144 + c.val) = x :: l → x.status = none →
    exec (.controllerCopyReceived el c p k r) s = .next (s.tick el)) ∧
  (∀ (s : State) (el : Nat) (c : CtlNo) (p : PlaneNo) (k : Fin 4) (r : Bool) (x : LinkCopy) (y : RecvKey),
    Tab.get [] (s.pl p.val).links (144 + c.val) = [x] → x.status.isSome = true → s.isOn p.val = true → s.rd 0x281F p.val = 2 →
    Tab.get 0 s.joins p.val ≤ x.frame.rc → s.holder = some c.val → s.recvOf c.val = ⟨[y], []⟩ → y.port = x.frame.port →
    y.seq = x.frame.seq → y.posted = true →
    ∃ t, exec (.controllerCopyReceived el c p k r) s = .next t ∧ t.bufs = s.bufs ∧
      Tab.get [] (t.pl p.val).links (144 + c.val) = [] ∧ t.rd 0x381E c.val = (s.rd 0x381E c.val + 1) % 2 ^ 64 ∧
      SameBut [(0x381E, c.val)] s t) ∧
  (∀ (s : State) (el : Nat) (c : CtlNo) (p : PlaneNo) (k : Fin 4) (r : Bool) (x : LinkCopy),
    Tab.get [] (s.pl p.val).links (144 + c.val) = [x] → x.status.isSome = true → s.isOn p.val = true → s.rd 0x281F p.val = 2 →
    Tab.get 0 s.joins p.val ≤ x.frame.rc → s.holder ≠ some c.val →
    ∃ t, exec (.controllerCopyReceived el c p k r) s = .next t ∧ t.bufs = s.bufs ∧
      t.rd 0x3824 c.val = (s.rd 0x3824 c.val + 1) % 2 ^ 64 ∧ SameBut [(0x3824, c.val)] s t) ∧
  (∀ (s : State) (el a : Nat) (c : CtlNo) (p : PlaneNo) (k : Fin 4) (x : LinkCopy), Tab.get [] (s.pl p.val).links (144 + c.val) = [x] →
    x.status = some 0 → s.isOn p.val = true → s.rd 0x281F p.val = 2 → Tab.get 0 s.joins p.val ≤ x.frame.rc → s.holder = some c.val →
    s.recvOf c.val = ⟨[], []⟩ → x.bytes.length ≤ 224 →
    (s.bufCache c.val (s.recvChannel c.val x.cls % 16) 0).head? = some a →
    ∃ t, exec (.controllerCopyReceived el c p k false) s = .next t ∧ Tab.find? t.bufs a = none ∧
      t.rd 0x3823 c.val = (s.rd 0x3823 c.val + 1) % 2 ^ 64 ∧ SameBut [(0x3823, c.val)] s t) ∧
  (∀ (s : State) (el : Nat) (c : CtlNo) (x y : RecvKey) (l : List (Nat × Nat × Nat)), s.recvOf c.val = ⟨[x, y], l⟩ →
    x.created + 20000 ≤ s.tickRC el → s.tickRC el < y.created + 20000 → l.length < 4096 →
    ∃ t, exec (.receiveWindowTimeBound el c) s = .next t ∧ t.recvOf c.val = ⟨[y], l ++ [(x.port, x.seq, x.arrival)]⟩ ∧ t.regs = s.regs) ∧
  (∀ (s : State) (el last run : Nat) (c : CtlNo), Tab.find? s.sustain (228 * 2 ^ 32 + c.val) = some (last, run) → 1000 ≤ run →
    run < raisedRun → s.tickRC el / 400000 ≤ last + 1 →
    ∃ t, exec (.receiveDropsSustained el c) s = .next t ∧ Faulted t 228 ∧ SameBut [(0x3E03, 0), (0x3E04, 0)] s t) ∧
  (∀ (s : State) (el last run : Nat) (c : CtlNo), Tab.find? s.sustain (228 * 2 ^ 32 + c.val) = some (last, run) →
    run < 1000 ∨ raisedRun ≤ run ∨ last + 1 < s.tickRC el / 400000 →
    exec (.receiveDropsSustained el c) s = .next (s.tick el)) ∧
  (∀ (s : State) (el : Nat) (c : CtlNo), Tab.find? s.sustain (228 * 2 ^ 32 + c.val) = none →
    exec (.receiveDropsSustained el c) s = .next (s.tick el)) ∧
  (∀ (s : State) (el : Nat) (c : CtlNo) (h : BitVec 128) (bs : List Byte), s.runs c.val = false ∨
      s.chanState (16 * c.val + (if 6 ≤ (txHeadOf h.toNat).cls then 3 else 2)) ≠ 0 →
    exec (.frameInjection el c h bs) s = .next (s.tick el)) ∧
  (∀ (s : State) (el n a : Nat) (c : CtlNo) (h : BitVec 128) (bs : List Byte), s.runs c.val = true →
    n = 16 * c.val + (if 6 ≤ (txHeadOf h.toNat).cls then 3 else 2) → s.chanState n = 0 → bs.length ≤ 224 →
    (s.bufCache c.val (n % 16) 0).head? = some a → s.holder = some c.val → txHeadOk h.toNat bs.length = true →
    ∃ t, exec (.frameInjection el c h bs) s = .next t ∧ Tab.find? t.bufs a = none ∧
      t.rd 0x3827 c.val = (s.rd 0x3827 c.val + 1) % 2 ^ 32 ∧ t.rd 0x3825 c.val = (s.rd 0x3825 c.val + 1) % 2 ^ 64 ∧
      (∀ p : PlaneNo, p.val ∈ s.replicationSet (s.tickRC el) → (t.pl p.val).ingress.length = (s.pl p.val).ingress.length + 1) ∧
      (∀ p : PlaneNo, p.val ∉ s.replicationSet (s.tickRC el) → t.pl p.val = s.pl p.val)) ∧
  (∀ (s : State) (el n a : Nat) (c : CtlNo) (h : BitVec 128) (bs : List Byte), s.runs c.val = true →
    n = 16 * c.val + (if 6 ≤ (txHeadOf h.toNat).cls then 3 else 2) → s.chanState n = 0 → bs.length ≤ 224 →
    (s.bufCache c.val (n % 16) 0).head? = some a → s.holder = some c.val → txHeadOk h.toNat bs.length = false →
    ∃ t, exec (.frameInjection el c h bs) s = .next t ∧ t.chanState n = 4 ∧ t.rd 0x380E n = 9 ∧
      t.rd 0x3826 c.val = (s.rd 0x3826 c.val + 1) % 2 ^ 64 ∧ t.pa = s.pa ∧ t.pb = s.pb) ∧
  (∀ (s : State) (el n a : Nat) (c : CtlNo) (h : BitVec 128) (bs : List Byte), s.runs c.val = true →
    n = 16 * c.val + (if 6 ≤ (txHeadOf h.toNat).cls then 3 else 2) → s.chanState n = 0 → bs.length ≤ 224 →
    (s.bufCache c.val (n % 16) 0).head? = some a → s.holder ≠ some c.val →
    ∃ t, exec (.frameInjection el c h bs) s = .next t ∧ t.chanState n = 4 ∧ t.rd 0x380E n = 6 ∧ t.pa = s.pa ∧ t.pb = s.pb)

/-- The bypass: its changes, the history latch that records them, the unmetered-interval records they start and end. A change of the
sense is recorded by a latch that runs, with its second and whether its clock is valid; the oldest of 32 entries is lost, with the
overflow flag where it was unread. With an active controller a closed bypass sets PID 4000h to 2, fault bit 241 and starts a record,
with fault bit 252 where it overwrites an unread one, and an open one ends it. A powered cartridge notes and logs the partial. The
same sense changes nothing. An active controller with valid DT sets the clock of a running latch once an hour. At a start it builds
the records from the unread entries: a change to closed starts one, a change to open ends it, also one read before the restart, with
the flags of R541; it marks all entries read and clears the overflow flag, which sets fault bit 253 and marks the first record
built. A bypass found closed has a record from the last entry where that is closed, else from now (the model's choice,
notes/assumptions/43.md). With nothing unread and the bypass open, nothing changes. A latch that has lost its power starts again
with its clock invalid, on from the last second it stored, and records a change where the sense differs from its last entry; an
empty ring is compared as open, and the last second stored is the later of the last set and the last entry's (both the model's
choice, notes/assumptions/43.md). (R51, R52, R53, R541, PID 4000h, PID 4017h, PID 4018h, PID 4019h.) -/
def Obligations.TheBypassSenseAndItsLatch : Prop :=
  (∀ (s : State) (el : Nat) (b : Bool), s.latch.closed = b → exec (.bypassSenseChange el b) s = .next (s.tick el)) ∧
  (∀ (s : State) (el : Nat), s.latch.closed = false → s.holder.isSome = true → s.bay.next < 64 →
    ∃ t, exec (.bypassSenseChange el true) s = .next t ∧ LatchTakes s t el true ∧ CartNotes s t el true ∧ t.rd 0x4000 0 = 2 ∧ Faulted t 241 ∧
      (s.bay.unread.contains s.bay.next = true → Faulted t 252) ∧
      t.bay.current = some s.bay.next ∧ t.bay.next = (s.bay.next + 1) % 64 ∧ t.rd 0x4018 0 = (s.rd 0x4018 0 + 1) % 2 ^ 32 ∧
      t.rd 0x4019 0 = 1 ∧ t.rd 0x4017 s.bay.next = ((s.tick el).dtNow * 2 ^ 272 + s.bay.seen * 2 ^ 96 + 4 * 2 ^ 24) % 2 ^ 384) ∧
  (∀ (s : State) (el n : Nat), s.latch.closed = true → s.holder.isSome = true → s.bay.current = some n → n < 64 → (s.tick el).dtNow < 2 ^ 112 →
    ∃ t, exec (.bypassSenseChange el false) s = .next t ∧ LatchTakes s t el false ∧ CartNotes s t el false ∧ t.rd 0x4000 0 = 0 ∧
      t.bay.current = none ∧ t.rd 0x4019 0 = 0 ∧ bytesAt 48 (t.rd 0x4017 n) 14 27 = (s.tick el).dtNow ∧
      bytesAt 48 (t.rd 0x4017 n) 0 13 = bytesAt 48 (s.rd 0x4017 n) 0 13 ∧ bytesAt 48 (t.rd 0x4017 n) 28 43 = bytesAt 48 (s.rd 0x4017 n) 28 43 ∧
      (bytesAt 48 (t.rd 0x4017 n) 44 44).testBit 2 = false ∧ SameBut [(0x4000, 0), (0x4017, n), (0x4019, 0)] s t) ∧
  (∀ (s : State) (el : Nat), s.latch.closed = true → s.holder.isSome = true → s.bay.current = none →
    ∃ t, exec (.bypassSenseChange el false) s = .next t ∧ LatchTakes s t el false ∧ CartNotes s t el false ∧ t.rd 0x4000 0 = 0 ∧
      t.bay = s.bay ∧ SameBut [(0x4000, 0)] s t) ∧
  (∀ (s : State) (el : Nat) (b : Bool), s.latch.closed = !b → s.holder = none →
    ∃ t, exec (.bypassSenseChange el b) s = .next t ∧ LatchTakes s t el b ∧ CartNotes s t el b ∧ t.bay = s.bay ∧ t.regs = s.regs) ∧
  (∀ (s : State) (el : Nat), s.holder.isSome = true → s.dtValid = true → (s.tick el).latchRuns = true →
    s.bay.latchSet.all (fun a => decide (a + 3600 * 400000000 ≤ s.clk + el)) = true →
    exec (.latchClockSet el) s = .next (s.ran el ({ s.tick el with latch := { s.latch with
      second := (floorDiv (s.time.triple.dtOf (s.tickRC el)) (nsUnits 1000000000)).toNat, since := s.clk + el, valid := true } }.updBay (fun q => { q with latchSet := some (s.clk + el) })))) ∧
  (∀ (s : State) (el : Nat), s.bay.latchSet.any (fun a => decide (s.clk + el < a + 3600 * 400000000)) = true →
    exec (.latchClockSet el) s = .next (s.tick el)) ∧
  (∀ (s : State) (el : Nat), s.dtValid = false ∨ s.holder = none ∨ (s.tick el).latchRuns = false →
    exec (.latchClockSet el) s = .next (s.tick el)) ∧
  (∀ (s : State) (el : Nat), s.holder = none → exec (.historyLatchRead el) s = .next (s.tick el)) ∧
  (∀ (s : State) (el : Nat) (e : LatchEntry), s.holder.isSome = true → s.latch.ring = [e] → e.closed = true → e.read = false →
    s.latch.closed = true → s.bay.current = none → s.latch.overflow = false → s.bay.next < 64 → s.bay.seen < 2 ^ 64 →
    ∃ t, exec (.historyLatchRead el) s = .next t ∧ t.latch.ring = [{ e with read := true }] ∧ t.bay.current = some s.bay.next ∧
      t.rd 0x4000 0 = 2 ∧ (s.rd 0x4000 0 ≠ 2 → Faulted t 241) ∧
      bytesAt 48 (t.rd 0x4017 s.bay.next) 0 13 = encDT (nsUnits (e.second * 1000000000)) % 2 ^ 112 ∧
      bytesAt 48 (t.rd 0x4017 s.bay.next) 44 44 = 5 + (if e.invalid then 16 else 0) ∧ t.rd 0x4018 0 = (s.rd 0x4018 0 + 1) % 2 ^ 32) ∧
  (∀ (s : State) (el : Nat) (e f : LatchEntry), s.holder.isSome = true → s.latch.ring = [e, f] → e.closed = true → f.closed = false → f.read = false →
    s.latch.closed = false → s.bay.current = none → s.latch.overflow = false → s.bay.next < 64 → s.bay.seen < 2 ^ 64 →
    e.second < 2 ^ 64 → f.second < 2 ^ 64 →
    ∃ t, exec (.historyLatchRead el) s = .next t ∧ t.latch.ring = [{ e with read := true }, { f with read := true }] ∧
      t.bay.current = none ∧ t.bay.next = (s.bay.next + 1) % 64 ∧ t.rd 0x4019 0 = 0 ∧ t.rd 0x4018 0 = (s.rd 0x4018 0 + 1) % 2 ^ 32 ∧
      bytesAt 48 (t.rd 0x4017 s.bay.next) 0 13 = e.second * 2 ^ 48 ∧ bytesAt 48 (t.rd 0x4017 s.bay.next) 14 27 = f.second * 2 ^ 48 ∧
      bytesAt 48 (t.rd 0x4017 s.bay.next) 44 44 = 3 + (if e.invalid || f.invalid then 16 else 0)) ∧
  (∀ (s : State) (el n : Nat) (f : LatchEntry), s.holder.isSome = true → s.latch.ring = [f] → f.closed = false → f.read = false →
    s.latch.closed = false → s.bay.current = some n → s.latch.overflow = false → n < 64 → f.second < 2 ^ 64 →
    ∃ t, exec (.historyLatchRead el) s = .next t ∧ t.latch.ring = [{ f with read := true }] ∧ t.bay.current = none ∧ t.bay.next = s.bay.next ∧
      t.rd 0x4019 0 = 0 ∧ t.rd 0x4018 0 = s.rd 0x4018 0 ∧ bytesAt 48 (t.rd 0x4017 n) 0 13 = bytesAt 48 (s.rd 0x4017 n) 0 13 ∧
      bytesAt 48 (t.rd 0x4017 n) 14 27 = f.second * 2 ^ 48 ∧ (bytesAt 48 (t.rd 0x4017 n) 44 44).testBit 1 = true ∧
      (bytesAt 48 (t.rd 0x4017 n) 44 44).testBit 2 = false ∧ (f.invalid = true → (bytesAt 48 (t.rd 0x4017 n) 44 44).testBit 4 = true)) ∧
  (∀ (s : State) (el : Nat), s.holder.isSome = true → s.latch.ring.all (fun e => e.read) = true → s.latch.closed = true → s.bay.current = none →
    s.latch.overflow = false → s.bay.next < 64 → s.bay.seen < 2 ^ 64 →
    ∃ t, exec (.historyLatchRead el) s = .next t ∧ t.latch = s.latch ∧ t.bay.current = some s.bay.next ∧ t.rd 0x4000 0 = 2 ∧ Faulted t 241 ∧
      t.rd 0x4019 0 = 1 ∧ t.rd 0x4018 0 = (s.rd 0x4018 0 + 1) % 2 ^ 32 ∧
      bytesAt 48 (t.rd 0x4017 s.bay.next) 0 13 = (match s.latch.ring.getLast? with
        | some e => if e.closed then encDT (nsUnits (e.second * 1000000000)) else (s.tick el).dtNow
        | none => (s.tick el).dtNow) % 2 ^ 112) ∧
  (∀ (s : State) (el : Nat), s.holder.isSome = true → s.latch.ring.all (fun e => e.read) = true → s.latch.overflow = false →
    s.latch.closed = false → s.rd 0x4000 0 ≠ 2 → exec (.historyLatchRead el) s = .next (s.tick el)) ∧
  (∀ (s : State) (el : Nat), s.holder.isSome = true → s.latch.overflow = true →
    ∃ t, exec (.historyLatchRead el) s = .next t ∧ t.latch.overflow = false ∧ Faulted t 253 ∧ t.latch.ring = s.latch.ring.map (fun e => { e with read := true })) ∧
  (∀ (s : State) (el : Nat) (f : LatchEntry), s.holder.isSome = true → s.latch.overflow = true → s.latch.ring = [f] → f.read = false →
    s.latch.closed = f.closed → s.bay.next < 64 → s.bay.current.getD 0 < 64 →
    ∃ t, exec (.historyLatchRead el) s = .next t ∧ (bytesAt 48 (t.rd 0x4017 (s.bay.current.getD s.bay.next)) 44 44).testBit 5 = true) ∧
  (∀ (s : State) (el : Nat), (s.tick el).latchRuns = true → exec (.latchRestart el) s = .next (s.tick el)) ∧
  (∀ (s : State) (el : Nat), (s.tick el).latchRuns = false →
    ∃ t, exec (.latchRestart el) s = .next t ∧ t.latch.on = true ∧ t.latch.valid = false ∧ t.latch.since = s.clk + el ∧ t.latch.dark = none ∧
      t.latch.closed = s.latch.closed ∧ t.latch.second = max s.latch.second ((s.latch.ring.getLast?.map LatchEntry.second).getD 0) ∧
      t.latch.ring = (if (s.latch.ring.getLast?.map LatchEntry.closed).getD false = s.latch.closed then s.latch.ring
        else pushRing 32 s.latch.ring ⟨s.latch.closed, t.latch.second, true, false⟩) ∧
      t.bay = s.bay ∧ t.cart = s.cart ∧ t.regs = s.regs ∧ t.faults = s.faults)

/-- The cartridge: powered, metering in quarter-hours, its log, overloads, its link and the fetch of its records. A cartridge that gains
power logs it, checks its firmware and opens an interval; where its clock's store was exhausted it restarts from the time last
saved, invalid, and logs that; another cartridge starts with its own identity, of part number SVN-16D, and no records. One that
loses power closes the open interval of every channel with a record and logs it; the latch then has its backup store. At a quarter
of an hour every channel's interval closes: its record is kept, its sequence number rises by one and its register by the energy
measured, and a day's slew is logged; with metering stopped no record is written. A failed self-check, an opened cover, an overload
as it begins and ends, with its peak, and a voltage out of range are logged, with their fault bits once the module reads the entry.
From Sill on the link comes up on a powered cartridge with the bypass open, and its identity is read; another identifier counts an
exchange, with fault bit 243, and the relayed values become the new cartridge's; the records that lack the identifier seated after
get it. Without a frame the link is lost, with fault bit 240. A record is fetched oldest first, counted; one that fails its
signature sets fault bit 242 where verification is on; a frame that fails its check is counted; with nothing to fetch, nothing
changes. A verification period past its end sets fault bit 247, one near it 246, once. What a signature is worth is free. (R522,
R525, R526, R527, R528, R529, R531, R534, R536, R540, R542, R544.) -/
def Obligations.TheCartridgeMetersAndLogs : Prop :=
  (∀ (s : State) (el : Nat) (i : Option (BitVec 1024)) (a b : Bool), s.cart.on = true → exec (.cartridgePowerUp el i a b) s = .next (s.tick el)) ∧
  (∀ (s : State) (el : Nat), s.cart.on = false →
    ∃ t, exec (.cartridgePowerUp el none true true) s = .next t ∧ t.cart.on = true ∧ t.cart.checked = true ∧
      t.cart.start = (s.tick el).cartUtc ∧ t.cart.flags = 32 ||| (if s.latch.closed then 1 else 0) ∧ t.cart.valid = s.cart.valid ∧
      t.cart.records = s.cart.records ∧ t.cart.regs = s.cart.regs ∧ t.latch.dark = (if (s.tick el).latchRuns then none else s.latch.dark) ∧
      t.cart.log = pushRing 1024 s.cart.log ⟨s.cart.nextLog, (s.tick el).cartUtc, 1, 0xFF, ((s.clk + el - s.cart.stoppedAt) / 400000000 : Nat)⟩ ∧
      (s.linkUp? = false → t.regs = s.regs)) ∧
  (∀ (s : State) (el : Nat), s.cart.on = false → s.cart.stoppedAt + 259200 * 400000000 ≤ s.clk + el →
    ∃ t, exec (.cartridgePowerUp el none false false) s = .next t ∧ t.cart.on = true ∧ t.cart.checked = false ∧ t.cart.valid = false ∧
      t.cart.start = s.cart.saved ∧
      t.cart.log = pushRing 1024 (pushRing 1024 (pushRing 1024 s.cart.log ⟨s.cart.nextLog, s.cart.saved, 0x0F, 0xFF, s.cart.saved⟩)
        ⟨s.cart.nextLog + 1, s.cart.saved, 1, 0xFF, -1⟩) ⟨s.cart.nextLog + 2, s.cart.saved, 0x0E, 0xFF, 0⟩) ∧
  (∀ (s : State) (el : Nat) (i : BitVec 1024), s.cart.on = false →
    ∃ t, exec (.cartridgePowerUp el (some i) true true) s = .next t ∧ t.cart.on = true ∧ t.cart.identity = asCartridge i.toNat ∧
      bytesAt 128 t.cart.identity 0 15 = 0x53564E2D313644 * 2 ^ 72 ∧ bytesAt 128 t.cart.identity 16 127 = bytesAt 128 i.toNat 16 127 ∧
      t.cart.records = [] ∧ t.cart.seqs = [] ∧ t.cart.nextLog = 1) ∧
  (∀ (s : State) (el : Nat) (m : BitVec 1408) (live : Bool), s.cart.on = true →
    ∃ t, exec (.cartridgePowerDown el ⟨m, live⟩) s = .next t ∧ t.cart.on = false ∧ t.cart.stoppedAt = s.clk + el ∧
      t.cart.saved = (s.tick el).cartUtc ∧ t.latch.dark = (if live then s.latch.dark else s.latch.dark.or (some (s.clk + el))) ∧
      t.cart.log = pushRing 1024 s.cart.log ⟨s.cart.nextLog, (s.tick el).cartUtc, 2, 0xFF, 0⟩ ∧ t.regs = s.regs ∧
      (s.cart.checked = true → ∀ c : Fin 16, Tab.get 0 t.cart.seqs c.val = Tab.get 0 s.cart.seqs c.val + 1 ∧
        (Tab.get [] t.cart.records c.val).getLast? = some (s.intervalContent m.toNat c.val 32)) ∧
      (s.cart.checked = false → t.cart.records = s.cart.records ∧ t.cart.seqs = s.cart.seqs ∧ t.cart.regs = s.cart.regs)) ∧
  (∀ (s : State) (el : Nat) (m : BitVec 1408), s.cart.on = false → exec (.cartridgePowerDown el ⟨m, true⟩) s = .next (s.tick el)) ∧
  (∀ (s : State) (el : Nat) (m : BitVec 1408), s.cart.on = false →
    exec (.cartridgePowerDown el ⟨m, false⟩) s = .next (s.ran el { s.tick el with latch := { s.latch with dark := s.latch.dark.or (some (s.clk + el)) } })) ∧
  (∀ (s : State) (el : Nat) (m : BitVec 1408), s.cart.on = true → s.cart.checked = true → s.cart.boundary ≤ (s.tick el).cartUtc →
    ∃ t, exec (.intervalEnd el m) s = .next t ∧ t.cart.start = s.cart.boundary ∧
      (∀ c : Fin 16, Tab.get 0 t.cart.seqs c.val = Tab.get 0 s.cart.seqs c.val + 1 ∧
        Tab.get 0 t.cart.regs c.val = Tab.get 0 s.cart.regs c.val + field (chanMeas m.toNat c.val) 87 56 ∧
        (Tab.get [] t.cart.records c.val).getLast? = some (s.intervalContent m.toNat c.val 0)) ∧
      t.cart.slewDay = floorDiv (s.tick el).cartUtc 86400 ∧
      t.cart.log = (if s.cart.slewDay = floorDiv (s.tick el).cartUtc 86400 ∨ s.cart.slewed = 0 then s.cart.log
        else pushRing 1024 s.cart.log ⟨s.cart.nextLog, (s.tick el).cartUtc, 3, 0xFF, ticksMs s.cart.slewed⟩)) ∧
  (∀ (s : State) (el : Nat) (m : BitVec 1408), s.cart.on = true → s.cart.checked = false → s.cart.boundary ≤ (s.tick el).cartUtc →
    ∃ t, exec (.intervalEnd el m) s = .next t ∧ t.cart.start = s.cart.boundary ∧ t.cart.records = s.cart.records ∧ t.cart.regs = s.cart.regs ∧
      t.cart.seqs = s.cart.seqs) ∧
  (∀ (s : State) (el : Nat) (m : BitVec 1408), s.cart.on = false ∨ (s.tick el).cartUtc < s.cart.boundary →
    exec (.intervalEnd el m) s = .next (s.tick el)) ∧
  (∀ (s : State) (el : Nat), s.cart.on = true →
    exec (.firmwareSelfCheck el true) s = .next (s.ran el ((s.tick el).updCart (fun q => { q with checked := true })))) ∧
  (∀ (s : State) (el : Nat), s.cart.on = true → s.cart.checked = true →
    ∃ t, exec (.firmwareSelfCheck el false) s = .next t ∧ t.cart.checked = false ∧ t.cart.regs = s.cart.regs ∧
      t.cart.log = pushRing 1024 s.cart.log ⟨s.cart.nextLog, (s.tick el).cartUtc, 0x0E, 0xFF, 0⟩ ∧
      (s.linkUp? = true → s.bay.logRead ≤ s.cart.nextLog → Faulted t 249)) ∧
  (∀ (s : State) (el : Nat) (b : Bool), s.cart.on = false ∨ (s.cart.checked = false ∧ b = false) →
    exec (.firmwareSelfCheck el b) s = .next (s.tick el)) ∧
  (∀ (s : State) (el : Nat),
    ∃ t, exec (.coverSwitchOpened el) s = .next t ∧ t.cart.log = pushRing 1024 s.cart.log ⟨s.cart.nextLog, (s.tick el).cartUtc, 7, 0xFF, 0⟩ ∧
      t.cart.nextLog = s.cart.nextLog + 1 ∧ (s.linkUp? = false → t.regs = s.regs ∧ t.faults = s.faults) ∧
      (s.linkUp? = true → t.bay.logRead = s.cart.nextLog + 1) ∧ (s.linkUp? = true → s.bay.logRead ≤ s.cart.nextLog → Faulted t 248)) ∧
  (∀ (s : State) (el : Nat) (c : Fin 16) (a : BitVec 16), s.cart.on = true → Tab.find? s.cart.overload c.val = none →
    4000 < a.toNat →
    ∃ t, exec (.channelOverload el c a) s = .next t ∧ Tab.find? t.cart.overload c.val = some a.toNat ∧
      t.cart.log = pushRing 1024 s.cart.log ⟨s.cart.nextLog, (s.tick el).cartUtc, 0x0B, c.val, a.toNat⟩ ∧
      (Tab.get 0 t.cart.chanFlags c.val).testBit 2 = true ∧ (s.linkUp? = true → s.bay.logRead ≤ s.cart.nextLog → Faulted t 250)) ∧
  (∀ (s : State) (el p : Nat) (c : Fin 16) (a : BitVec 16), s.cart.on = true → Tab.find? s.cart.overload c.val = some p → 4000 < a.toNat →
    ∃ t, exec (.channelOverload el c a) s = .next t ∧ Tab.find? t.cart.overload c.val = some (max p a.toNat) ∧ t.cart.log = s.cart.log) ∧
  (∀ (s : State) (el p : Nat) (c : Fin 16) (a : BitVec 16), s.cart.on = true → Tab.find? s.cart.overload c.val = some p → a.toNat ≤ 4000 →
    ∃ t, exec (.channelOverload el c a) s = .next t ∧ Tab.find? t.cart.overload c.val = none ∧
      t.cart.log = pushRing 1024 s.cart.log ⟨s.cart.nextLog, (s.tick el).cartUtc, 0x0C, c.val, p⟩) ∧
  (∀ (s : State) (el : Nat) (c : Fin 16) (a : BitVec 16), s.cart.on = false ∨
      (s.linkUp? = false ∧ Tab.find? s.cart.overload c.val = none ∧ a.toNat ≤ 4000) → exec (.channelOverload el c a) s = .next (s.tick el)) ∧
  (∀ (s : State) (el : Nat) (c : Fin 16) (v : BitVec 16), s.cart.on = true → v.toNat < 4000 ∨ 6000 < v.toNat →
    ∃ t, exec (.channelVoltageOutOfRange el c v) s = .next t ∧ (Tab.get 0 t.cart.chanFlags c.val).testBit 3 = true ∧
      t.cart.log = pushRing 1024 s.cart.log ⟨s.cart.nextLog, (s.tick el).cartUtc, 0x0D, c.val, v.toNat⟩ ∧
      (s.linkUp? = true → s.bay.logRead ≤ s.cart.nextLog → Faulted t 251)) ∧
  (∀ (s : State) (el : Nat) (c : Fin 16) (v : BitVec 16), s.cart.on = false ∨ (4000 ≤ v.toNat ∧ v.toNat ≤ 6000) →
    exec (.channelVoltageOutOfRange el c v) s = .next (s.tick el)) ∧
  (∀ (s : State) (el : Nat), s.holder.isSome = true → s.stageAtLeast 1 = true → s.cart.on = true → s.latch.closed = false → s.rd 0x4000 0 ≠ 1 →
    ∃ t, exec (.cartridgeLinkUp el) s = .next t ∧ t.rd 0x4000 0 = 1 ∧ t.rd 0x4001 0 = s.cart.identity % 2 ^ 1024 ∧
      t.rd 0x4002 0 = cartKey s.cart.identity ∧ t.rd 0x4003 0 = bytesAt 128 s.cart.identity 120 127 * 2 ^ 48 ∧
      t.bay.seen = cartIdentifier s.cart.identity ∧ t.bay.logRead = s.cart.nextLog ∧
      (∀ n : Fin 64, s.rd 0x4017 n.val ≠ 0 → bytesAt 48 (s.rd 0x4017 n.val) 36 43 = 0 → bytesAt 48 (s.rd 0x4017 n.val) 44 44 &&& 0xC4 = 0 →
        bytesAt 48 (t.rd 0x4017 n.val) 36 43 = cartIdentifier s.cart.identity % 2 ^ 64)) ∧
  (∀ (s : State) (el : Nat), s.holder.isSome = true → s.stageAtLeast 1 = true → s.cart.on = true → s.latch.closed = false → s.rd 0x4000 0 ≠ 1 →
    s.bay.seen ≠ 0 → cartIdentifier s.cart.identity ≠ s.bay.seen →
    ∃ t, exec (.cartridgeLinkUp el) s = .next t ∧ t.rd 0x401D 0 = (s.rd 0x401D 0 + 1) % 2 ^ 32 ∧ Faulted t 243 ∧ t.bay.fetched = s.cart.seqs ∧
      (∀ c : Fin 16, t.rd 0x401B c.val = ((Tab.get [] s.cart.records c.val).getLast?.map recordSeq).getD 0 ∧
        t.rd 0x4009 c.val = ((Tab.get [] s.cart.records c.val).getLast?.map (fun r => bytesAt 44 r 28 35)).getD 0 ∧
        t.rd 0x400A c.val = ((Tab.get [] s.cart.records c.val).getLast?.map (fun r => beNat (recordBytes (cartKey s.cart.identity) r))).getD 0)) ∧
  (∀ (s : State) (el : Nat), s.holder = none ∨ s.stageAtLeast 1 = false ∨ s.cart.on = false ∨ s.latch.closed = true ∨ s.rd 0x4000 0 = 1 →
    exec (.cartridgeLinkUp el) s = .next (s.tick el)) ∧
  (∀ (s : State) (el : Nat), s.rd 0x4000 0 = 1 → s.latch.closed = false →
    ∃ t, exec (.cartridgeLinkLost el) s = .next t ∧ t.rd 0x4000 0 = 0 ∧ Faulted t 240 ∧ t.cart = s.cart ∧
      SameBut [(0x4000, 0), (0x3E03, 0), (0x3E04, 0)] s t) ∧
  (∀ (s : State) (el : Nat), s.rd 0x4000 0 ≠ 1 ∨ s.latch.closed = true → exec (.cartridgeLinkLost el) s = .next (s.tick el)) ∧
  (∀ (s : State) (el r : Nat) (c : Fin 16) (res : Fin 3), s.linkUp? = true → res ≠ 2 →
    (Tab.get [] s.cart.records c.val).find? (fun r => decide (Tab.get 0 s.bay.fetched c.val ≤ recordSeq r)) = some r →
    ∃ t, exec (.recordFetch el c res) s = .next t ∧ Tab.get 0 t.bay.fetched c.val = recordSeq r + 1 ∧ t.cart = s.cart ∧
      t.rd 0x4011 0 = (s.rd 0x4011 0 + 1) % 2 ^ 64 ∧ t.rd 0x401B c.val = recordSeq r ∧
      t.rd 0x400A c.val = beNat (recordBytes (cartKey s.cart.identity) r) ∧ t.rd 0x4009 c.val = bytesAt 44 r 28 35 ∧
      (res = 1 → s.rd 0x401F 0 = 1 → t.rd 0x4012 0 = (s.rd 0x4012 0 + 1) % 2 ^ 32 ∧ Faulted t 242) ∧
      (res = 0 ∨ s.rd 0x401F 0 ≠ 1 → t.rd 0x4012 0 = s.rd 0x4012 0 ∧ t.faults = s.faults)) ∧
  (∀ (s : State) (el : Nat) (c : Fin 16), s.linkUp? = true →
    ∃ t, exec (.recordFetch el c 2) s = .next t ∧ t.rd 0x4013 0 = (s.rd 0x4013 0 + 1) % 2 ^ 32 ∧ t.bay = s.bay ∧ t.cart = s.cart ∧
      SameBut [(0x4013, 0)] s t) ∧
  (∀ (s : State) (el : Nat) (c : Fin 16) (r : Fin 3), s.linkUp? = false ∨ (r ≠ 2 ∧
      (Tab.get [] s.cart.records c.val).find? (fun r => decide (Tab.get 0 s.bay.fetched c.val ≤ recordSeq r)) = none) →
    exec (.recordFetch el c r) s = .next (s.tick el)) ∧
  (∀ (s : State) (el : Nat), s.holder.isSome = true → s.rd 0x4003 0 ≠ 0 → s.dtValid = true → ¬ Faulted s 247 →
    ((s.rd 0x4003 0 / 2 ^ 48 : Nat) : Int) ≤ (s.tick el).utcSeconds →
    ∃ t, exec (.verificationDue el) s = .next t ∧ Faulted t 247 ∧ SameBut [(0x3E03, 0), (0x3E04, 0)] s t) ∧
  (∀ (s : State) (el : Nat), s.holder.isSome = true → s.rd 0x4003 0 ≠ 0 → s.dtValid = true → ¬ Faulted s 246 →
    (s.tick el).utcSeconds < ((s.rd 0x4003 0 / 2 ^ 48 : Nat) : Int) →
    ((s.rd 0x4003 0 / 2 ^ 48 : Nat) : Int) ≤ (s.tick el).utcSeconds + s.rd 0x401E 0 * 86400 →
    ∃ t, exec (.verificationDue el) s = .next t ∧ Faulted t 246 ∧ SameBut [(0x3E03, 0), (0x3E04, 0)] s t) ∧
  (∀ (s : State) (el : Nat), s.holder = none ∨ s.rd 0x4003 0 = 0 ∨ s.dtValid = false ∨
      (s.tick el).utcSeconds + s.rd 0x401E 0 * 86400 < ((s.rd 0x4003 0 / 2 ^ 48 : Nat) : Int) ∨
      (Faulted s 247 ∧ ((s.rd 0x4003 0 / 2 ^ 48 : Nat) : Int) ≤ (s.tick el).utcSeconds) ∨
      (Faulted s 246 ∧ (s.tick el).utcSeconds < ((s.rd 0x4003 0 / 2 ^ 48 : Nat) : Int)) →
    exec (.verificationDue el) s = .next (s.tick el))

/-- The cartridge's time and readings: slewed, stepped or refused, authorised, and read by interval, sequence, identity and log. A
discipline message that is due goes to the cartridge, once per discipline interval, from Bonded on; one within 60 s of the last is
ignored and counted. A difference of at most 5 s slews its clock, at most at the rate and 1 s in a UTC day; a greater one is
refused, counted, logged at first and every 24 h, with fault bit 244 at first, unless an inspector has authorised a step for it; a
clock that is invalid is stepped once without that. A step past the interval's end closes it, with its flag. An offset that changes
by 1 s, announced in two messages before, is taken at the end of a UTC day. PID 400Dh shows the offset left, and one that comes to
pass 5 s sets fault bit 245. The authorisation is granted to an inspector while a step is refused, counted and logged with the
fingerprint, and lapses after 600 s; another role answers AUTH, with no refusal pending BUSY. On a ready session of any role a
reading of the identity, of records or of the log answers what the cartridge holds for the channels the role reads, while the link
is up, and INTERLOCK without it; a channel it does not read AUTH; a malformed payload, or more than 9,600 records, RANGE. The
optical port reads a powered cartridge: its identity, registers, load profile or log. (R526, R528, R532, R533, R534, R535, R537,
R538, R539, PID 4014h, PID 4015h, PID 4016h.) -/
def Obligations.TheCartridgeIsDisciplinedAndRead : Prop :=
  (∀ (s : State) (el : Nat) (d : BitVec 32) (m : BitVec 1408), s.linkUp? = false ∨ s.rd 0x400B 0 = 0 ∨ (s.tick el).disciplineTime = false ∨
    s.clk + el < s.bay.sentAt + s.rd 0x400C 0 * 400000000 → exec (.disciplineMessage el d m) s = .next (s.tick el)) ∧
  (∀ (s : State) (el : Nat) (d : BitVec 32) (m : BitVec 1408), MessageDue s el →
    ∃ t, exec (.disciplineMessage el d m) s = .next t ∧ t.rd 0x4014 0 = (s.rd 0x4014 0 + 1) % 2 ^ 32 ∧ t.bay.sentAt = s.clk + el ∧
      t.rd 0x4010 0 = (s.tick el).dtNow % 2 ^ 112 ∧
      (s.cart.on = true → s.cart.heard.any (fun a => decide (s.clk + el < a + 60 * 400000000)) = true →
        t.cart.ignored = s.cart.ignored + 1 ∧ t.cart.tai = s.cart.tai + clockGain s el d)) ∧
  (∀ (s : State) (el : Nat) (d : BitVec 32) (m : BitVec 1408) (x day w a : Int), TakesMessage s el → s.cart.valid = true →
    x = messageDiff s el d → x.natAbs ≤ 5 * 400000000 →
    day = floorDiv (floorDiv ((s.tick el).cartTai + clockGain s el d) 400000000 - s.cart.utcOff) 86400 →
    w = (if s.cart.slewDay = day then s.cart.slewed else 0) →
    a = max (-(min s.slewStep (max ((400000000 : Int) - w.natAbs) 0))) (min x (min s.slewStep (max ((400000000 : Int) - w.natAbs) 0))) →
    ∃ t, exec (.disciplineMessage el d m) s = .next t ∧ t.cart.tai = s.cart.tai + clockGain s el d + a ∧ t.cart.slewDay = day ∧
      t.cart.slewed = w + a ∧ t.cart.slewing = (a != x) ∧ t.cart.refused = none ∧ t.cart.heard = some (s.clk + el) ∧
      t.rd 0x400D 0 = unsignedOf 32 (ticksMs (a - x)) ∧ t.rd 0x400F 0 = unsignedOf 32 (ticksMs (w + a)) ∧ t.cart.utcOff = s.cart.utcOff) ∧
  (∀ (s : State) (el : Nat) (d : BitVec 32) (m : BitVec 1408) (x : Int), TakesMessage s el → s.cart.valid = true → x = messageDiff s el d →
    5 * 400000000 < x.natAbs → StepGranted s el x = false →
    ∃ t, exec (.disciplineMessage el d m) s = .next t ∧ t.cart.tai = s.cart.tai + clockGain s el d ∧ t.cart.auth = none ∧
      t.rd 0x4015 0 = (s.rd 0x4015 0 + 1) % 2 ^ 32 ∧ (s.cart.refused = none → Faulted t 244) ∧
      t.cart.refused = some (x, ((s.cart.refused.filter (fun r => decide (s.clk + el < r.2 + 86400 * 400000000))).map Prod.snd).getD (s.clk + el)) ∧
      t.cart.log = (if s.cart.refused.any (fun r => decide (s.clk + el < r.2 + 86400 * 400000000)) then s.cart.log
        else pushRing 1024 s.cart.log ⟨s.cart.nextLog, floorDiv ((s.tick el).cartTai + clockGain s el d) 400000000 - s.cart.utcOff, 5, 0xFF, ticksMs x⟩) ∧
      ((signed 32 (s.rd 0x400D 0)).natAbs ≤ 5000 → 5000 < (ticksMs (-x)).natAbs → Faulted t 245)) ∧
  (∀ (s : State) (el : Nat) (d : BitVec 32) (m : BitVec 1408) (x after : Int), TakesMessage s el → s.cart.valid = true → x = messageDiff s el d →
    5 * 400000000 < x.natAbs → StepGranted s el x = true →
    after = floorDiv ((s.tick el).cartTai + clockGain s el d + x) 400000000 - s.cart.utcOff →
    ∃ t, exec (.disciplineMessage el d m) s = .next t ∧ t.cart.tai = s.cart.tai + clockGain s el d + x ∧ t.cart.refused = none ∧
      t.cart.auth = none ∧ t.rd 0x4015 0 = s.rd 0x4015 0 ∧ t.rd 0x400D 0 = 0 ∧
      t.cart.log = pushRing 1024 s.cart.log ⟨s.cart.nextLog, after, 4, 0xFF, ticksMs x⟩ ∧
      (after < s.cart.boundary → t.cart.flags = s.cart.flags ||| 2 ∧ t.cart.records = s.cart.records ∧ t.cart.regs = s.cart.regs ∧
        t.cart.start = s.cart.start) ∧
      (s.cart.boundary ≤ after → t.cart.start = after ∧ (s.cart.checked = true → ∀ c : Fin 16,
        (Tab.get [] t.cart.records c.val).getLast? = some (s.intervalContent m.toNat c.val 2)))) ∧
  (∀ (s : State) (el : Nat) (d : BitVec 32) (m : BitVec 1408) (x : Int), MessageDue s el → s.cart.on = true →
    s.cart.heard.all (fun a => decide (a + 60 * 400000000 ≤ s.clk + el)) = true → s.cart.valid = false → x = messageDiff s el d →
    ∃ t, exec (.disciplineMessage el d m) s = .next t ∧ t.cart.tai = s.cart.tai + clockGain s el d + x ∧ t.cart.valid = true ∧
      t.cart.utcOff = signed 16 (s.rd 0x3009 0) ∧ t.cart.refused = none ∧ t.rd 0x400D 0 = 0 ∧ t.rd 0x4015 0 = s.rd 0x4015 0 ∧
      (t.cart.log.getLast?.map (fun e => (e.seq, e.code, e.data))) = some (s.cart.nextLog, 4, ((unsignedOf 64 (ticksMs x) ||| 2 ^ 63 : Nat) : Int))) ∧
  (∀ (s : State) (el : Nat) (d : BitVec 32) (m : BitVec 1408), MessageDue s el → s.cart.on = true →
    s.cart.heard.all (fun a => decide (a + 60 * 400000000 ≤ s.clk + el)) = true → s.cart.valid = true →
    (signed 16 (s.rd 0x3009 0) - s.cart.utcOff).natAbs = 1 → 2 ≤ s.cart.announced →
    (floorDiv ((s.tick el).cartTai + clockGain s el d) 400000000 - s.cart.utcOff) % 86400 < 3600 →
    ∃ t, exec (.disciplineMessage el d m) s = .next t ∧ t.cart.utcOff = signed 16 (s.rd 0x3009 0) ∧
      t.cart.log.any (fun e => e.seq == s.cart.nextLog && e.code == 0x0A && e.data == signed 16 (s.rd 0x3009 0)) = true) ∧
  (∀ (s : State) (el a : Nat), s.cart.auth = some a → a + 600 * 400000000 ≤ s.clk + el →
    exec (.stepAuthorisationLapse el) s = .next (s.ran el ((s.tick el).updCart (fun q => { q with auth := none })))) ∧
  (∀ (s : State) (el : Nat), s.cart.auth.all (fun a => decide (s.clk + el < a + 600 * 400000000)) = true →
    exec (.stepAuthorisationLapse el) s = .next (s.tick el)) ∧
  (∀ (s : State) (el : Nat) (q : Req), Ready s q roleInspector → FullService s → q.inst.toNat ≤ 16 → q.data = [0, 0, 0] →
    s.rd 0x4000 0 = 1 → (s.tick el).disciplineState = 3 →
    ∃ t, exec (.stepAuthorisation el q) s = .next t ∧ t.cart.auth = some (s.clk + el) ∧
      t.rd 0x4016 0 = (s.rd 0x4016 0 + 1) % 2 ^ 32 ∧
      t.cart.log = pushRing 1024 s.cart.log ⟨s.cart.nextLog, (s.tick el).cartUtc, 6, 0xFF, signed 64 (s.rd 0x0410 (Req.key q % 4) / 2 ^ 192)⟩ ∧
      Answers s t q 0x40 stOk 0x400A q.inst.toNat [] [(0x4016, 0)]) ∧
  (∀ (s : State) (el rl : Nat) (q : Req), Ready s q rl → FullService s → q.inst.toNat = 16 → rl ≠ roleInspector → q.data = [0, 0, 0] →
    ∃ t, exec (.stepAuthorisation el q) s = .next t ∧ t.cart = s.cart ∧ Answers s t q 0x40 stAuth 0x400A 16 [] []) ∧
  (∀ (s : State) (el : Nat) (q : Req), Ready s q roleInspector → FullService s → q.inst.toNat ≤ 16 → q.data = [0, 0, 0] →
    s.rd 0x4000 0 = 1 → (s.tick el).disciplineState ≠ 3 →
    ∃ t, exec (.stepAuthorisation el q) s = .next t ∧ t.cart = s.cart ∧ Answers s t q 0x40 stBusy 0x400A q.inst.toNat [] []) ∧
  (∀ (s : State) (el : Nat) (q : Req), Ready s q roleInspector → FullService s → q.inst.toNat ≤ 16 → q.data = [0, 0, 0] → s.rd 0x4000 0 ≠ 1 →
    ∃ t, exec (.stepAuthorisation el q) s = .next t ∧ t.cart = s.cart ∧ Answers s t q 0x40 stInterlock 0x400A q.inst.toNat [] []) ∧
  (∀ (s : State) (el rl : Nat) (q : Req), Ready s q rl → FullService s → q.inst.toNat = 16 ∨ (s.meterChannels rl).contains q.inst.toNat = true →
    q.data = [0, 0, 0] → s.rd 0x4000 0 = 1 →
    ∃ t, exec (.meterReadIdentity el q) s = .next t ∧ t.cart = s.cart ∧
      Answers s t q 0x40 stOk 0x400A q.inst.toNat (toBytes 128 s.cart.identity ++ toBytes 2 s.cartStatus) []) ∧
  (∀ (s : State) (el rl : Nat) (q : Req) (l : List Nat), Ready s q rl → FullService s →
    q.inst.toNat = 16 ∨ (s.meterChannels rl).contains q.inst.toNat = true → q.data.length = 19 → getBE q.data 0 3 = 0 → s.rd 0x4000 0 = 1 →
    l = (if q.inst.toNat = 16 then s.meterChannels rl else [q.inst.toNat]).flatMap (fun c => s.cart.byStart c (getBE q.data 3 8) (getBE q.data 11 8)) →
    l.length ≤ 9600 →
    ∃ t, exec (.meterReadByInterval el q) s = .next t ∧ t.cart = s.cart ∧
      Answers s t q 0x40 stOk 0x400A q.inst.toNat (l.flatMap (recordBytes (cartKey s.cart.identity))) []) ∧
  (∀ (s : State) (el rl : Nat) (q : Req) (l : List Nat), Ready s q rl → FullService s →
    q.inst.toNat = 16 ∨ (s.meterChannels rl).contains q.inst.toNat = true → q.data.length = 11 → getBE q.data 0 3 = 0 → s.rd 0x4000 0 = 1 →
    l = (if q.inst.toNat = 16 then s.meterChannels rl else [q.inst.toNat]).flatMap (fun c => s.cart.bySeq c (getBE q.data 3 4) (getBE q.data 7 4)) →
    l.length ≤ 9600 →
    ∃ t, exec (.meterReadBySequence el q) s = .next t ∧ t.cart = s.cart ∧
      Answers s t q 0x40 stOk 0x400A q.inst.toNat (l.flatMap (recordBytes (cartKey s.cart.identity))) []) ∧
  (∀ (s : State) (el : Nat) (q : Req), Ready s q roleSite → FullService s → q.inst.toNat < 16 → q.data.length = 11 →
    getBE q.data 0 3 = 0 → s.rd 0x4000 0 = 1 →
    9600 < (s.cart.bySeq q.inst.toNat (getBE q.data 3 4) (getBE q.data 7 4)).length →
    ∃ t, exec (.meterReadBySequence el q) s = .next t ∧ Answers s t q 0x40 stRange 0x400A q.inst.toNat [] []) ∧
  (∀ (s : State) (el : Nat) (q : Req), Ready s q roleSite → FullService s → q.inst.toNat < 16 → q.data.length = 19 →
    getBE q.data 0 3 = 0 → s.rd 0x4000 0 = 1 →
    9600 < (s.cart.byStart q.inst.toNat (getBE q.data 3 8) (getBE q.data 11 8)).length →
    ∃ t, exec (.meterReadByInterval el q) s = .next t ∧ Answers s t q 0x40 stRange 0x400A q.inst.toNat [] []) ∧
  (∀ (s : State) (el rl : Nat) (q : Req), Ready s q rl → FullService s → q.inst.toNat = 16 → q.data.length ≤ 65535 →
    (q.data.length ≠ 19 ∨ getBE q.data 0 3 ≠ 0) →
    ∃ t, exec (.meterReadByInterval el q) s = .next t ∧ Answers s t q 0x40 stRange 0x400A 16 [] []) ∧
  (∀ (s : State) (el rl : Nat) (q : Req), Ready s q rl → FullService s → q.inst.toNat = 16 → q.data.length ≤ 65535 →
    (q.data.length ≠ 11 ∨ getBE q.data 0 3 ≠ 0) →
    ∃ t, exec (.meterReadBySequence el q) s = .next t ∧ Answers s t q 0x40 stRange 0x400A 16 [] []) ∧
  (∀ (s : State) (el rl : Nat) (q : Req), Ready s q rl → FullService s → q.inst.toNat < 16 → (s.meterChannels rl).contains q.inst.toNat = false →
    q.data.length ≤ 65535 → ∃ t, exec (.meterReadByInterval el q) s = .next t ∧ Answers s t q 0x40 stAuth 0x400A q.inst.toNat [] []) ∧
  (∀ (s : State) (el rl : Nat) (q : Req), Ready s q rl → FullService s → q.inst.toNat < 16 → (s.meterChannels rl).contains q.inst.toNat = false →
    q.data.length ≤ 65535 → ∃ t, exec (.meterReadBySequence el q) s = .next t ∧ Answers s t q 0x40 stAuth 0x400A q.inst.toNat [] []) ∧
  (∀ (s : State) (el rl : Nat) (q : Req), Ready s q rl → FullService s → q.inst.toNat = 16 → q.data = [0, 0, 0] → s.rd 0x4000 0 ≠ 1 →
    ∃ t, exec (.meterReadIdentity el q) s = .next t ∧ Answers s t q 0x40 stInterlock 0x400A 16 [] []) ∧
  (∀ (s : State) (el rl : Nat) (q : Req), Ready s q rl → FullService s → q.inst.toNat = 16 → q.data.length = 19 → getBE q.data 0 3 = 0 →
    s.rd 0x4000 0 ≠ 1 → ∃ t, exec (.meterReadByInterval el q) s = .next t ∧ Answers s t q 0x40 stInterlock 0x400A 16 [] []) ∧
  (∀ (s : State) (el rl : Nat) (q : Req), Ready s q rl → FullService s → q.inst.toNat = 16 → q.data.length = 11 → getBE q.data 0 3 = 0 →
    s.rd 0x4000 0 ≠ 1 → ∃ t, exec (.meterReadBySequence el q) s = .next t ∧ Answers s t q 0x40 stInterlock 0x400A 16 [] []) ∧
  (∀ (s : State) (el rl lo : Nat) (q : Req), Ready s q rl → FullService s → q.inst = 0 → q.data.length = 8 → 1 ≤ getBE q.data 4 2 →
    getBE q.data 4 2 ≤ 1024 → getBE q.data 6 2 = 0 → s.rd 0x4000 0 = 1 →
    lo = (if getBE q.data 0 4 = 0 then (s.cart.log.head?.map LogEntry.seq).getD 0 else getBE q.data 0 4) →
    ∃ t, exec (.meterLog el q) s = .next t ∧ t.cart = s.cart ∧
      Answers s t q 0x41 stOk 0x401C 0 ((s.cart.log.filter (fun e => decide (lo ≤ e.seq) && decide (e.seq < lo + getBE q.data 4 2) &&
        (e.chan == 0xFF || (s.meterChannels rl).contains e.chan))).flatMap (fun e => e.bytes (cartKey s.cart.identity))) []) ∧
  (∀ (s : State) (el rl : Nat) (q : Req), Ready s q rl → FullService s → q.inst = 0 → q.data.length ≤ 65536 →
    q.data.length ≠ 8 ∨ getBE q.data 4 2 = 0 ∨ 1024 < getBE q.data 4 2 ∨ getBE q.data 6 2 ≠ 0 →
    ∃ t, exec (.meterLog el q) s = .next t ∧ Answers s t q 0x41 stRange 0x401C 0 [] []) ∧
  (∀ (s : State) (el rl : Nat) (q : Req), Ready s q rl → FullService s → q.inst = 0 → q.data.length = 8 → 1 ≤ getBE q.data 4 2 →
    getBE q.data 4 2 ≤ 1024 → getBE q.data 6 2 = 0 → s.rd 0x4000 0 ≠ 1 →
    ∃ t, exec (.meterLog el q) s = .next t ∧ Answers s t q 0x41 stInterlock 0x401C 0 [] []) ∧
  (∀ (s : State) (el : Nat) (c : Fin 16), s.cart.on = true →
    exec (.opticalReadout el 0 c) s = .next (s.ran el ((s.tick el).updBay (fun q => { q with
      optical := q.optical ++ [toBytes 128 s.cart.identity] })))) ∧
  (∀ (s : State) (el : Nat) (c : Fin 16), s.cart.on = true →
    exec (.opticalReadout el 1 c) s = .next (s.ran el ((s.tick el).updBay (fun q => { q with
      optical := q.optical ++ [(List.range 16).flatMap (fun k => toBytes 8 (Tab.get 0 s.cart.regs k))] })))) ∧
  (∀ (s : State) (el : Nat) (c : Fin 16), s.cart.on = true →
    exec (.opticalReadout el 2 c) s = .next (s.ran el ((s.tick el).updBay (fun q => { q with
      optical := q.optical ++ [(Tab.get [] s.cart.records c.val).flatMap (recordBytes (cartKey s.cart.identity))] })))) ∧
  (∀ (s : State) (el : Nat) (c : Fin 16), s.cart.on = true →
    exec (.opticalReadout el 3 c) s = .next (s.ran el ((s.tick el).updBay (fun q => { q with
      optical := q.optical ++ [s.meterLog 0 1024 (fun _ => true)] })))) ∧
  (∀ (s : State) (el : Nat) (k : Fin 4) (c : Fin 16), s.cart.on = false → exec (.opticalReadout el k c) s = .next (s.tick el))

/-- A step takes the command at the front of the queue and runs it on the state with the queue's rest. The queue of waiting commands is
the model's own (notes/assumptions/2.md): a step with a command at the front is that command's effect on the state with the queue's
rest, and a step on an empty queue leaves the state as it is. (R446, R448.) -/
def Obligations.StepRunsTheFrontCommand : Prop :=
  (∀ (s : State) (c : Instr) (rest : List Instr), s.pending = c :: rest → step s = exec c { s with pending := rest }) ∧
  (∀ (s : State), s.pending = [] → step s = .next s)

/-- Every command answers a next state at its tick, and none but the powering of a domain writes RC. For every command and state the
outcome is a next state: the elapsed time has risen by the command's ticks and the queue of waiting commands is untouched. RC has
gone on by those ticks, modulo 2^72, while it counts, and stands while it does not: no command writes, steps or steers it,
DOMAIN_POWERED apart, after which domain K starts it at 0 or at the majority of the copies. That the ticks between commands are an
operand is the model's choice (notes/assumptions/1.md). (R364, R372.) -/
def Obligations.EveryCommandRunsAtItsTick : Prop :=
  (∀ (i : Instr) (s : State), ∃ t, exec i s = .next t ∧ t.clk = s.clk + i.elapsed ∧ t.pending = s.pending ∧
    ((∀ (el : Nat) (d : Fin 13), i ≠ .domainPowered el d) →
      t.rc = if s.time.running then (s.rc + i.elapsed) % 2 ^ 72 else s.rc))

/-- Every step keeps RC a 72-bit count, and the elapsed time never runs backward. For every state whose RC is below 2^72, every step
answers a next state whose RC is below 2^72 and whose elapsed time is not earlier, whatever the command; a step takes exactly the
command at the front from the queue. (R364, R372.) -/
def Obligations.RawTimeStaysA72BitCount : Prop :=
  (∀ (s : State), s.rc < 2 ^ 72 → ∃ t, step s = .next t ∧ t.rc < 2 ^ 72 ∧ s.clk ≤ t.clk ∧ t.pending = s.pending.tail)

/-- The commands that wait run first in, first out, each in one step, and take the time they name. From every state, as many steps as
there are commands in a front part of the queue run exactly those commands: the rest of the queue stands as it was, and the elapsed
time has risen by the sum of their ticks. With as many steps as commands the queue is empty. Running a queue in two parts is running
the parts one after the other. The queue is the model's own (notes/assumptions/2.md). (R364, R446.) -/
def Obligations.WaitingCommandsRunInTheirOrder : Prop :=
  (∀ (s : State) (l m : List Instr), s.pending = l ++ m →
    ∃ t, core.run l.length s = .next t ∧ t.pending = m ∧ t.clk = s.clk + (l.map Instr.elapsed).sum) ∧
  (∀ (s : State), ∃ t, core.run s.pending.length s = .next t ∧ t.pending = [] ∧ t.clk = s.clk + (s.pending.map Instr.elapsed).sum) ∧
  (∀ (s t : State) (m n : Nat), core.run m s = .next t → core.run (m + n) s = core.run n t)

/-- After reset every parameter reads as its default, no fault is set, no command waits and RC is 0. After reset the register file lists
nothing and is canonical, so that every parameter reads as the default of its row, among them those written out here from the
parameter tables; the fault record is empty, the queue of commands is empty, RC is 0 and below 2^72, and the memories of the hod's
spaces list nothing, in canonical form. The base address ends in 00h, so that each of the 256 MAC addresses differs from it in its
last byte alone: M0 at offset 0, the ports at 1 to 144, C0 and C1 at 145 and 146, the rest reserved. The value 0 of the parameters
whose default is "—" is the model's choice (notes/assumptions/4.md). (R4, R67, R77, R364, R503, PID 0803h, PID 140Bh, PID 1A13h, PID
281Eh, PID 300Ah, PID 400Ch.) -/
def Obligations.ResetHoldsTheDefaults : Prop :=
  ((∀ p i, State.reset.rd p i = Catalogue.dflt p i) ∧ regsWf State.reset.regs = true ∧ State.reset.pending = [] ∧
    State.reset.faults = [] ∧ State.reset.rc = 0 ∧ State.reset.rc < 2 ^ 72 ∧ State.reset.hodMem = [] ∧ State.reset.memWf = true) ∧
  ((∀ o : Fin 256, State.reset.macAt o.val / 256 = State.reset.rd 0x0003 0 / 256 ∧ State.reset.macAt o.val % 256 = o.val) ∧
    macOwner 0 = .management ∧ (∀ i : PortNo, macOwner (1 + i.val) = .port i.val) ∧ (∀ c : CtlNo, macOwner (145 + c.val) = .controller c.val) ∧
    (∀ o : Fin 109, macOwner (147 + o.val) = .reserved) ∧ State.reset.managementMac = State.reset.macAt 0 ∧
    (∀ i : PortNo, State.reset.portMac i.val = State.reset.macAt (1 + i.val)) ∧ ∀ c : CtlNo, State.reset.controllerMac c.val = State.reset.macAt (145 + c.val)) ∧
  ((∀ i : PortNo, State.reset.rd 0x0803 i.val = 9216 ∧ State.reset.rd 0x0911 i.val = 0 ∧ State.reset.rd 0x0837 (8 * i.val) = 128) ∧
    (∀ t : Fin 16, State.reset.rd 0x140B t.val = 300) ∧ State.reset.rd 0x1A13 0 = 10 ∧ State.reset.rd 0x281E 0 = 3 ∧
    State.reset.rd 0x300A 0 = 37 ∧ State.reset.rd 0x400C 0 = 300 ∧ State.reset.rd 0x0407 0 = 4180 ∧ State.reset.rd 0x3008 0 = 100 ∧
    State.reset.rd 0x0101 0 = 0xFFFFFFFF ∧ State.reset.rd 0x2202 5 = 1000000 ∧ State.reset.rd 0x0A08 2 = 2 ∧ State.reset.rd 0x3E0C 0 = 60)

/-- A parameter reads back what was written, at its width, every other one is left alone, and equal files are equal data. A write of an
instance of a PID leaves it reading the value modulo its width and every other instance of every PID as before. The file keeps its
canonical form: keys rise, no entry equals its default, every entry fits its width. In a canonical file every instance that a
selector produces reads a value that fits its type, and two canonical files that read the same everywhere are the same. That
unlisted instances read as their defaults is how the model holds the file (notes/assumptions/4.md). (R490, R491, R492, R503.) -/
def Obligations.ParametersReadBackWhatIsWritten : Prop :=
  (∀ (s : State) (p i v a b : Nat), i < 2 ^ 32 → b < 2 ^ 32 →
    (s.wr p i v).rd a b = if a = p ∧ b = i then v % 2 ^ Catalogue.width p else s.rd a b) ∧
  (∀ (s : State) (p i v : Nat), i < 2 ^ 32 → regsWf s.regs = true → regsWf (s.wr p i v).regs = true) ∧
  (∀ (s : State) (p i : Nat) (row : Row), regsWf s.regs = true → Catalogue.row? p = some row → row.sel.has i = true →
    s.rd p i < 2 ^ (8 * row.ty.size)) ∧
  (∀ (s t : State), regsWf s.regs = true → regsWf t.regs = true → SameBut [] s t → s.regs = t.regs)

/-- A counter rises by what it counts, modulo its width of 32 or 64 bits, without saturating and without a fault. Every parameter that
is a counter is 32 or 64 bits wide, but for PID 2408h, whose sixteen bins are 64 bits each. Counting n events or bytes makes it read
its value plus n modulo 2 to its width, the difference between two readings modulo 2^width is n, and no other parameter and no entry
of the fault record changes. A bin of PID 2408h counts in the same way and leaves the other bins alone. (R505.) -/
def Obligations.CountersWrapAtTheirWidth : Prop :=
  (∀ (p : Nat), isCounter p = true → p ≠ 0x2408 → Catalogue.width p = 32 ∨ Catalogue.width p = 64) ∧
  (∀ (s : State) (p i n : Nat), isCounter p = true → i < 2 ^ 32 →
    (s.incBy p i n).rd p i = (s.rd p i + n) % 2 ^ Catalogue.width p ∧ (s.inc p i).rd p i = (s.rd p i + 1) % 2 ^ Catalogue.width p ∧
      (s.incBy p i n).faults = s.faults ∧ (s.inc p i).faults = s.faults ∧ SameBut [(p, i)] s (s.incBy p i n) ∧ SameBut [(p, i)] s (s.inc p i)) ∧
  (∀ (s : State) (p i n : Nat), isCounter p = true → i < 2 ^ 32 → s.rd p i < 2 ^ Catalogue.width p →
    ((s.incBy p i n).rd p i + 2 ^ Catalogue.width p - s.rd p i) % 2 ^ Catalogue.width p = n % 2 ^ Catalogue.width p) ∧
  (Catalogue.width 0x2408 = 1024 ∧
    ∀ (h : Nat) (k j : Fin 16), bytesAt 128 (bumpBin h k.val) (8 * j.val) (8 * j.val + 7) =
      if j = k then (bytesAt 128 h (8 * j.val) (8 * j.val + 7) + 1) % 2 ^ 64 else bytesAt 128 h (8 * j.val) (8 * j.val + 7))

/-- The first occurrence of a fault is recorded with DT and instance, later ones raise only its count, which saturates. A first
occurrence sets the entry's flag and records the DT, whether DT is valid, the instance and a count of 1, with PIDs 3E03h and 3E04h;
no other entry changes. Each later occurrence raises only the count, which stops at FFFFFFFFh and sets the saturation flag, over any
number of them. The 24 bytes of an entry hold its fields at the places of the table of R517, and bit k of the summary lies in byte
31 - k / 8 at bit k mod 8. (R517, R518, PID 3E00h, PID 3E01h, PID 3E03h, PID 3E04h.) -/
def Obligations.FaultEntriesCountTheirOccurrences : Prop :=
  (∀ (s : State) (b i : Nat), (s.entryAt b).set = false →
    (s.fault b i).entryAt b = ⟨true, !s.dtValid, false, false, 1, i, s.dtNow⟩ ∧ (∀ c, c ≠ b → (s.fault b i).entryAt c = s.entryAt c) ∧
      (s.fault b i).rd 0x3E03 0 = s.dtNow % 2 ^ 112 ∧ (s.fault b i).rd 0x3E04 0 = b % 2 ^ 8 ∧
      SameBut [(0x3E03, 0), (0x3E04, 0)] s (s.fault b i)) ∧
  (∀ (s : State) (b i : Nat), (s.entryAt b).set = true →
    (s.fault b i).entryAt b =
      { s.entryAt b with count := min ((s.entryAt b).count + 1) 0xFFFFFFFF, saturated := (s.entryAt b).saturated || decide (0xFFFFFFFF ≤ (s.entryAt b).count + 1) } ∧
      (∀ c, c ≠ b → (s.fault b i).entryAt c = s.entryAt c) ∧ (s.fault b i).regs = s.regs) ∧
  (∀ (s : State) (b i : Nat) (l : List Nat), (s.entryAt b).set = false →
    (l.foldl (fun s j => s.fault b j) (s.fault b i)).entryAt b =
      ⟨true, !s.dtValid, decide (0xFFFFFFFF ≤ l.length + 1), false, min (l.length + 1) 0xFFFFFFFF, i, s.dtNow⟩) ∧
  (∀ (b : Nat) (e : FaultEntry), b < 256 → e.count < 2 ^ 32 → e.inst < 2 ^ 32 → e.dt < 2 ^ 112 →
    (e.bytes b).length = 24 ∧ getBE (e.bytes b) 0 1 = b ∧ (getBE (e.bytes b) 1 1).testBit 0 = e.set ∧
      (getBE (e.bytes b) 1 1).testBit 1 = e.dtInvalid ∧ (getBE (e.bytes b) 1 1).testBit 2 = e.saturated ∧
      (getBE (e.bytes b) 1 1).testBit 3 = e.restored ∧ getBE (e.bytes b) 1 1 < 16 ∧ getBE (e.bytes b) 2 4 = e.count ∧
      getBE (e.bytes b) 6 4 = e.inst ∧ getBE (e.bytes b) 10 14 = e.dt) ∧
  (∀ (s : State) (k : Nat), k < 256 →
    (((toBytes 32 s.faultSummary)[31 - k / 8]?).getD 0).getLsbD (k % 8) = (s.entryAt k).set)

/-- DT is the exact floor of the triple's line through RC, and the RC of an instant is the least whose DT is at or after it. The DT of
an RC under a triple is the DT of its base plus the floor of the ticks since the base times 163,840 times (2^60 + rho), over 2^60,
toward minus infinity for an RC before the base too; every reader's DT is that of the triple in force. With |rho| at most 2^47, the
RC of an instant has a DT at or after it, and no RC that is less has. (R366.) -/
def Obligations.DeviceTimeIsComputedFromRC : Prop :=
  (∀ (x : Triple) (r : Nat), x.dtOf r = x.baseDT + (((r : Int) - x.baseRC) * 163840 * (2 ^ 60 + x.rho)) / 2 ^ 60) ∧
  (∀ (s : State), s.dt = s.time.triple.dtOf s.rc) ∧
  (∀ (x : Triple) (u : Int), x.rho.natAbs ≤ 2 ^ 47 →
    u ≤ x.dtOf (x.rcOf u) ∧ (∀ r : Nat, u ≤ x.dtOf r → x.rcOf u ≤ r))

/-- PIDs 3003h and 3004h answer the 32-byte record of the triple in force and of the one pending. On a ready session of the site
operator a GET of PID 3003h answers the 32-byte record of the triple in force, and one of PID 3004h that of the pending one, or
zeros where none is (the model's choice). The record holds base_RC in bytes 0 to 8, zero in byte 9, base_DT in bytes 10 to 23 and
rho in bytes 24 to 31. (R367.) -/
def Obligations.TripleRecordsAreReadAtTheirPlaces : Prop :=
  (∀ (s : State) (el : Nat) (q : Req), Ready s q roleSite → FullService s → q.inst = 0 → q.data = [] →
    ∃ t, exec (.get el q 0x3003) s = .next t ∧ Answers s t q 0x01 stOk 0x3003 0 (toBytes 32 (tripleRecord s.time.triple)) []) ∧
  (∀ (s : State) (el r : Nat) (q : Req) (x : Triple), Ready s q roleSite → FullService s → q.inst = 0 → q.data = [] →
    s.time.next = some (x, r) →
    ∃ t, exec (.get el q 0x3004) s = .next t ∧ Answers s t q 0x01 stOk 0x3004 0 (toBytes 32 (tripleRecord x)) []) ∧
  (∀ (s : State) (el : Nat) (q : Req), Ready s q roleSite → FullService s → q.inst = 0 → q.data = [] → s.time.next = none →
    ∃ t, exec (.get el q 0x3004) s = .next t ∧ Answers s t q 0x01 stOk 0x3004 0 (toBytes 32 0) []) ∧
  (∀ (x : Triple), x.baseRC < 2 ^ 72 → 0 ≤ x.baseDT → x.baseDT < 2 ^ 64 * 1000000000 * 65536 → x.rho.natAbs ≤ 2 ^ 47 →
    (toBytes 32 (tripleRecord x)).length = 32 ∧ getBE (toBytes 32 (tripleRecord x)) 0 9 = x.baseRC ∧
      getBE (toBytes 32 (tripleRecord x)) 9 1 = 0 ∧ decDT (getBE (toBytes 32 (tripleRecord x)) 10 14) = x.baseDT ∧
      signed 64 (getBE (toBytes 32 (tripleRecord x)) 24 8) = x.rho)

/-- The 14-byte code of a DT holds seconds, nanoseconds below 10^9 and a fraction, and reads back. Every DT at or after 0 is coded with
nanoseconds below 10^9 and reads back as itself, and within 2^64 seconds its code fits 14 bytes; every code whose nanoseconds are
below 10^9 is the code of what it reads as; a later DT has a larger code. (R365.) -/
def Obligations.DeviceTimeCodesReadBack : Prop :=
  (∀ (u : Int), 0 ≤ u → decDT (encDT u) = u ∧ encDT u / 2 ^ 16 % 2 ^ 32 < 1000000000) ∧
  (∀ (u : Int), 0 ≤ u → u < 2 ^ 64 * 1000000000 * 65536 → encDT u < 2 ^ 112) ∧
  (∀ (v : Nat), v / 2 ^ 16 % 2 ^ 32 < 1000000000 → encDT (decDT v) = v) ∧
  (∀ (u v : Int), 0 ≤ u → u < v → encDT u < encDT v)

/-- The 48-byte record of a table entry holds its fields at their places and gives the entry back. The record of an entry in a slot of a
plane is 48 bytes long; read by the places of R175 it gives the key type, the flags [7] static, [6] activity, [5] learned and [4]
frozen with [3:0] zero, the tenant, the plane, the slot, the generation, zero, the key and the result; and the entry made from it
has the same key type, tenant, key, result, static flag and activity. A key keeps R176 only where it fits the bits of its type.
(R175, R176, R177.) -/
def Obligations.EntryRecordsReadBack : Prop :=
  (∀ (p k : Nat) (e : Entry), p < 256 → k < 2 ^ 32 → e.ktype < 256 → e.tenant < 256 → e.gen < 2 ^ 16 → e.key < 2 ^ 160 → e.result < 2 ^ 128 →
    (entryRecord p k e).length = 48 ∧
      readRecord (entryRecord p k e) = ⟨e.ktype, e.static.toNat * 128 + e.activity.toNat * 64 + e.learned.toNat * 32 + e.frozen.toNat * 16,
        e.tenant, p, k, e.gen, 0, e.key, e.result⟩ ∧
      (readRecord (entryRecord p k e)).entry = hostEntry e.ktype e.tenant e.key e.result e.static e.activity ∧
      (readRecord (entryRecord p k e)).flags.testBit 5 = e.learned ∧ (readRecord (entryRecord p k e)).flags.testBit 4 = e.frozen) ∧
  (∀ (kt k : Nat), keyOk kt k = true → 1 ≤ kt ∧ kt ≤ 6 ∧ k < 2 ^ keyBits kt ∧
    (kt = 2 → k / 2 ^ 32 % 64 ≤ 32 ∧ k % 2 ^ 32 % 2 ^ (32 - k / 2 ^ 32 % 64) = 0) ∧
    (kt = 3 → k / 2 ^ 128 % 256 ≤ 128 ∧ k % 2 ^ 128 % 2 ^ (128 - k / 2 ^ 128 % 256) = 0))

/-- A format 0 time-of-day message holds its fields at their places, passes its own check, and no change of one byte does. The 16-byte
record is good by the check of R407 and holds the seconds, the offset, the servo state, the clock class and the leap second at the
places of R406; with any one byte replaced by another it is not good. (R406, R407.) -/
def Obligations.TimeOfDayMessagesCheckThemselves : Prop :=
  (∀ (sec utc servo cls leap : Nat), sec < 2 ^ 48 → utc < 2 ^ 16 → servo < 256 → cls < 256 →
    (todRecord sec utc servo cls leap).length = 16 ∧ todGood (todRecord sec utc servo cls leap) = true ∧
      getBE (todRecord sec utc servo cls leap) 0 2 = 0xAA55 ∧ getBE (todRecord sec utc servo cls leap) 2 1 = 1 ∧
      getBE (todRecord sec utc servo cls leap) 3 1 = 0x10 ∧ getBE (todRecord sec utc servo cls leap) 4 6 = sec ∧
      getBE (todRecord sec utc servo cls leap) 10 2 = utc ∧ getBE (todRecord sec utc servo cls leap) 12 1 = servo ∧
      getBE (todRecord sec utc servo cls leap) 13 1 = cls ∧ getBE (todRecord sec utc servo cls leap) 14 1 = leap % 4) ∧
  (∀ (sec utc servo cls leap k : Nat) (b : Byte), k < 16 → (todRecord sec utc servo cls leap)[k]? ≠ some b →
    todGood ((todRecord sec utc servo cls leap).set k b) = false)

/-- Every request that reaches the standby controller, its own reset apart, is answered NOT_ACTIVE and has no effect. Every command that
is a request, of whatever opcode and PID, on an open session of a controller that runs as standby and holds no token and that has no
request outstanding, is answered NOT_ACTIVE with no payload, and nothing in the module changes but that session's record of when it
was heard and of fragments still to be discarded, the number of requests issued and the time: every parameter, table, queue, fault
entry, clock and flash stands as it was. Apart stands, from Bonded on, the site operator's SET of PID 0107h to 2, by which the
standby resets itself (notes/assumptions/59.md). (R14, R82, R438, R442, R446.) -/
def Obligations.TheStandbyCarriesNothingOut : Prop :=
  (∀ (i : Instr) (s : State) (q : Req) (op pid inst : Nat) (data : List Byte), spelledRequest i = some (q, op, pid, inst, data) →
    s.holder ≠ some q.ctl.val → (s.ctlState q.ctl.val = 3 ∨ s.ctlState q.ctl.val = 4) → (s.ctl q.ctl.val).beats = true →
    (s.session (Req.key q)).isOpen = true → (s.session (Req.key q)).requests = [] → (s.session (Req.key q)).skip.contains q.tag.toNat = false →
    ¬(op = 0x02 ∧ pid = 0x0107 ∧ inst = 0 ∧ data = [2] ∧ (s.session (Req.key q)).role = roleSite ∧ (s.session (Req.key q)).enrol = .no ∧
      s.stageAtLeast 2 = true) →
    ∃ t, exec i s = .next t ∧ t.out = s.out ++ [answer q op stNotActive pid inst []] ∧
      t = s.ran i.elapsed { s with sessions := t.sessions, issued := s.issued + 1, out := t.out } ∧
      t.session (Req.key q) = { s.session (Req.key q) with heard := s.clk + i.elapsed, skip := (t.session (Req.key q)).skip } ∧
      ((t.session (Req.key q)).skip = (s.session (Req.key q)).skip ∨ (t.session (Req.key q)).skip = q.tag.toNat :: (s.session (Req.key q)).skip) ∧
      (∀ k, k ≠ Req.key q → t.session k = s.session k))

/-- At Sill every request but the reads and a SET of Sill hold by the site operator is answered BUSY and has no effect. At Sill, on a
ready session of any role, every command that is a request of another opcode than GET, GET_RANGE, PING, FAULT_READ,
COUNTER_SNAPSHOT, SUBSCRIBE and UNSUBSCRIBE, and no SET of PID 0108h on a session of the site operator, is answered BUSY, and every
parameter but the session's message counters reads as before; planes, ports, version slots, time, faults and flash stand. A PING is
answered there. (R68, R443, R445, R461.) -/
def Obligations.AtSillOtherRequestsAreBusy : Prop :=
  (∀ (i : Instr) (s : State) (q : Req) (role op pid inst : Nat) (data : List Byte), spelledRequest i = some (q, op, pid, inst, data) →
    Ready s q role → s.rd 0x0100 0 = 1 → data.length ≤ 65536 → op ∉ [0x01, 0x03, 0x7F, 0x21, 0x20, 0x07, 0x08] →
    (op = 0x02 → pid = 0x0108 → role ≠ roleSite) →
    ∃ t, exec i s = .next t ∧ Answers s t q op stBusy pid inst [] [] ∧ t.pa = s.pa ∧ t.pb = s.pb ∧ t.ports = s.ports ∧
      t.slots = s.slots ∧ t.courses = s.courses ∧ t.time = s.time ∧ t.servo = s.servo ∧ t.faults = s.faults ∧ t.flash = s.flash ∧
      t.power = s.power ∧ t.domOps = s.domOps ∧ t.fw = s.fw) ∧
  (∀ (s : State) (el : Nat) (q : Req), Ready s q roleSite → s.rd 0x0100 0 = 1 → q.data.length ≤ 64 →
    ∃ t, exec (.ping el q) s = .next t ∧ t.out = s.out ++ [answer q 0x7F stOk 0 0 (q.data ++ toBytes 14 (s.tick el).dtNow)])
end

