-- ==== Sys2Proof/Laws/Tab.lean ====
section
/-! SUPPORT. What the sparse tables' operations do: a read after a write, and the order of the keys. -/

namespace Sys2Proof.Machine.Tab
variable {α : Type}

@[simp] theorem find?_nil (x : Nat) : find? ([] : Tab α) x = none := rfl

@[simp] theorem get_nil (d : α) (x : Nat) : get d ([] : Tab α) x = d := rfl

theorem find?_set_same (t : Tab α) (x : Nat) (v : α) : find? (set t x v) x = some v := by
  induction t with
  | nil => simp [set, find?]
  | cons e t ih =>
    obtain ⟨k, w⟩ := e
    simp only [set]
    split
    · simp [find?]
    · split
      · simp [find?]
      · simp [find?, *]

theorem find?_set_ne (t : Tab α) {x y : Nat} (v : α) (h : y ≠ x) : find? (set t x v) y = find? t y := by
  induction t with
  | nil => simp [set, find?, h]
  | cons e t ih =>
    obtain ⟨k, w⟩ := e
    simp only [set]
    split
    · simp [find?, h]
    · split
      · rename_i h1 h2; subst h2; simp [find?, h]
      · simp [find?, ih]

theorem find?_del_same (t : Tab α) (x : Nat) : find? (del t x) x = none := by
  induction t with
  | nil => rfl
  | cons e t ih =>
    obtain ⟨k, w⟩ := e
    by_cases h : k = x
    · subst h; simpa [del] using ih
    · have : find? (del ((k, w) :: t) x) x = find? (del t x) x := by
        simp [del, h, find?, Ne.symm h]
      rw [this, ih]

theorem find?_del_ne (t : Tab α) {x y : Nat} (h : y ≠ x) : find? (del t x) y = find? t y := by
  induction t with
  | nil => rfl
  | cons e t ih =>
    obtain ⟨k, w⟩ := e
    by_cases hk : k = x
    · subst hk; simpa [del, find?, h] using ih
    · have : del ((k, w) :: t) x = (k, w) :: del t x := by simp [del, hk]
      rw [this]; simp [find?, ih]

@[simp] theorem get_set_same (d : α) (t : Tab α) (x : Nat) (v : α) : get d (set t x v) x = v := by
  simp [get, find?_set_same]

theorem get_set_ne (d : α) (t : Tab α) {x y : Nat} (v : α) (h : y ≠ x) : get d (set t x v) y = get d t y := by
  simp [get, find?_set_ne t v h]

@[simp] theorem get_del_same (d : α) (t : Tab α) (x : Nat) : get d (del t x) x = d := by
  simp [get, find?_del_same]

theorem get_del_ne (d : α) (t : Tab α) {x y : Nat} (h : y ≠ x) : get d (del t x) y = get d t y := by
  simp [get, find?_del_ne t h]

@[simp] theorem get_upd_same (d : α) (t : Tab α) (x : Nat) (f : α → α) : get d (upd d t x f) x = f (get d t x) := by
  simp [upd]

theorem get_upd_ne (d : α) (t : Tab α) {x y : Nat} (f : α → α) (h : y ≠ x) : get d (upd d t x f) y = get d t y := by
  simp [upd, get_set_ne d t _ h]

/-! ### Order of the keys -/

theorem rising_cons {k : Nat} {v : α} {t : Tab α} :
    rising ((k, v) :: t) = true ↔ (∀ e ∈ t, k < e.1) ∧ rising t = true := by
  induction t generalizing k v with
  | nil => simp [rising]
  | cons e t ih =>
    obtain ⟨k', v'⟩ := e
    simp only [rising, Bool.and_eq_true, decide_eq_true_eq]
    rw [ih]
    constructor
    · rintro ⟨h1, h2, h3⟩
      refine ⟨?_, h2, h3⟩
      intro e he
      rcases List.mem_cons.1 he with rfl | he
      · exact h1
      · exact Nat.lt_trans h1 (h2 e he)
    · rintro ⟨h1, h2, h3⟩
      exact ⟨h1 _ List.mem_cons_self, h2, h3⟩

theorem mem_set {t : Tab α} {x : Nat} {v : α} {e : Nat × α} (h : e ∈ set t x v) : e = (x, v) ∨ e ∈ t := by
  induction t with
  | nil => simpa [set] using h
  | cons a t ih =>
    obtain ⟨k, w⟩ := a
    simp only [set] at h
    split at h
    · rcases List.mem_cons.1 h with h | h
      · exact .inl h
      · exact .inr h
    · split at h
      · rcases List.mem_cons.1 h with h | h
        · exact .inl h
        · exact .inr (List.mem_cons_of_mem _ h)
      · rcases List.mem_cons.1 h with h | h
        · exact .inr (h ▸ List.mem_cons_self)
        · rcases ih h with h | h
          · exact .inl h
          · exact .inr (List.mem_cons_of_mem _ h)

/-- A write keeps the keys rising. -/
theorem rising_set {t : Tab α} (h : rising t = true) (x : Nat) (v : α) : rising (set t x v) = true := by
  induction t with
  | nil => rfl
  | cons e t ih =>
    obtain ⟨k, w⟩ := e
    obtain ⟨h1, h2⟩ := rising_cons.1 h
    simp only [set]
    split
    · rename_i hx
      refine rising_cons.2 ⟨?_, h⟩
      intro e he
      rcases List.mem_cons.1 he with rfl | he
      · exact hx
      · exact Nat.lt_trans hx (h1 e he)
    · split
      · rename_i hx; subst hx; exact rising_cons.2 ⟨h1, h2⟩
      · rename_i hx hne
        refine rising_cons.2 ⟨?_, ih h2⟩
        intro e he
        rcases mem_set he with rfl | he
        · simp; omega
        · exact h1 e he

/-- Leaving entries out keeps the keys rising. -/
theorem rising_filter {t : Tab α} (h : rising t = true) (f : Nat × α → Bool) : rising (t.filter f) = true := by
  induction t with
  | nil => rfl
  | cons e t ih =>
    obtain ⟨k, w⟩ := e
    obtain ⟨h1, h2⟩ := rising_cons.1 h
    by_cases hf : f (k, w) = true
    · rw [List.filter_cons_of_pos hf]
      exact rising_cons.2 ⟨fun e he => h1 e (List.mem_filter.1 he).1, ih h2⟩
    · rw [List.filter_cons_of_neg hf]; exact ih h2

/-- A removal keeps the keys rising. -/
theorem rising_del {t : Tab α} (h : rising t = true) (x : Nat) : rising (del t x) = true := rising_filter h _

end Sys2Proof.Machine.Tab
end

