-- ==== Sys2Proof/Laws/HodMem.lean ====
section
/-! SUPPORT. The memories of the hod's spaces: every operation keeps their canonical form, and a read after a write. -/

namespace Sys2Proof.Machine

theorem State.reset_memWf : State.reset.memWf = true := rfl

theorem State.putMemByte_memWf {s : State} (h : s.memWf = true) (m a : Nat) (v : Byte) : (s.putMemByte m a v).memWf = true := by
  unfold State.putMemByte
  split
  · exact h
  · exact Tab.rising_set h _ _

theorem State.putMemBytes_memWf (m : Nat) (l : List Byte) :
    ∀ (a : Nat) (s : State), s.memWf = true → (State.putMemBytes m a l s).memWf = true := by
  induction l with
  | nil => intro a s h; exact h
  | cons v l ih => intro a s h; exact ih (a + 1) _ (State.putMemByte_memWf h m a v)

theorem State.writeAccesses_memWf (m : Nat) (l : List HodAccess) :
    ∀ (bs : List Byte) (s : State), s.memWf = true → (State.writeAccesses m l bs s).memWf = true := by
  induction l with
  | nil => intro bs s h; exact h
  | cons x l ih => intro bs s h; exact ih _ _ (State.putMemBytes_memWf m _ _ s h)

theorem State.clearMem_memWf {s : State} (h : s.memWf = true) (m : Nat) : (s.clearMem m).memWf = true :=
  Tab.rising_filter h _

theorem State.foldl_writeAccesses_memWf (f : Nat → List HodAccess) (bs : List Byte) (ms : List Nat) :
    ∀ s : State, s.memWf = true → (ms.foldl (fun s m => State.writeAccesses m (f m) bs s) s).memWf = true := by
  induction ms with
  | nil => intro s h; exact h
  | cons m ms ih => intro s h; exact ih _ (State.writeAccesses_memWf m (f m) bs s h)

theorem State.transfer_memWf {s : State} (h : s.memWf = true) (n d a b k : Nat) : (s.transfer n d a b k).memWf = true :=
  State.foldl_writeAccesses_memWf (fun _ => _) _ _ s h

/-- A byte written where no buffer lies reads back. -/
theorem State.memByte_putMemByte_same {s : State} {m a : Nat} (h : s.bufferOver m a = none) (v : Byte) :
    (s.putMemByte m a v).memByte m a = v := by
  have hb : (s.putMemByte m a v).bufferOver m a = none := by
    unfold State.putMemByte; rw [h]; exact h
  unfold State.memByte
  rw [hb]
  unfold State.putMemByte
  rw [h]
  simp [Tab.find?_set_same]

/-- A byte written where no buffer lies leaves every other byte alone. -/
theorem State.memByte_putMemByte_ne {s : State} {m a : Nat} (h : s.bufferOver m a = none) (v : Byte) {m' a' : Nat}
    (hk : memKey m' a' ≠ memKey m a) : (s.putMemByte m a v).memByte m' a' = s.memByte m' a' := by
  have hb : (s.putMemByte m a v).bufferOver m' a' = s.bufferOver m' a' := by
    unfold State.putMemByte; rw [h]; rfl
  unfold State.memByte
  rw [hb]
  unfold State.putMemByte
  rw [h]
  simp [Tab.find?_set_ne _ v hk]

end Sys2Proof.Machine
end

