-- ==== Sys2Proof/Laws/State.lean ====
section
/-! SUPPORT. What the named updates of the state leave alone, field by field, and what a read gives after a write. -/

namespace Sys2Proof.Machine

/-! ### `State.tick` -/

@[simp] theorem State.tick_pending (s : State) (n : Nat) : (s.tick n).pending = s.pending := rfl
@[simp] theorem State.tick_regs (s : State) (n : Nat) : (s.tick n).regs = s.regs := rfl
@[simp] theorem State.tick_faults (s : State) (n : Nat) : (s.tick n).faults = s.faults := rfl
@[simp] theorem State.tick_drawn (s : State) (n : Nat) : (s.tick n).drawn = s.drawn := rfl
@[simp] theorem State.tick_slots (s : State) (n : Nat) : (s.tick n).slots = s.slots := rfl
@[simp] theorem State.tick_ports (s : State) (n : Nat) : (s.tick n).ports = s.ports := rfl
@[simp] theorem State.tick_groups (s : State) (n : Nat) : (s.tick n).groups = s.groups := rfl
@[simp] theorem State.tick_pa (s : State) (n : Nat) : (s.tick n).pa = s.pa := rfl
@[simp] theorem State.tick_pb (s : State) (n : Nat) : (s.tick n).pb = s.pb := rfl
@[simp] theorem State.tick_courses (s : State) (n : Nat) : (s.tick n).courses = s.courses := rfl
@[simp] theorem State.tick_joins (s : State) (n : Nat) : (s.tick n).joins = s.joins := rfl
@[simp] theorem State.tick_bonds (s : State) (n : Nat) : (s.tick n).bonds = s.bonds := rfl
@[simp] theorem State.tick_recovery (s : State) (n : Nat) : (s.tick n).recovery = s.recovery := rfl
@[simp] theorem State.tick_judge (s : State) (n : Nat) : (s.tick n).judge = s.judge := rfl
@[simp] theorem State.tick_leaving (s : State) (n : Nat) : (s.tick n).leaving = s.leaving := rfl
@[simp] theorem State.tick_gateChange (s : State) (n : Nat) : (s.tick n).gateChange = s.gateChange := rfl
@[simp] theorem State.tick_gateEdge (s : State) (n : Nat) : (s.tick n).gateEdge = s.gateEdge := rfl
@[simp] theorem State.tick_heldTicks (s : State) (n : Nat) : (s.tick n).heldTicks = s.heldTicks := rfl
@[simp] theorem State.tick_time (s : State) (n : Nat) : (s.tick n).time = s.time := rfl
@[simp] theorem State.tick_servo (s : State) (n : Nat) : (s.tick n).servo = s.servo := rfl
@[simp] theorem State.tick_gnss (s : State) (n : Nat) : (s.tick n).gnss = s.gnss := rfl
@[simp] theorem State.tick_ptp (s : State) (n : Nat) : (s.tick n).ptp = s.ptp := rfl
@[simp] theorem State.tick_departures (s : State) (n : Nat) : (s.tick n).departures = s.departures := rfl
@[simp] theorem State.tick_synce (s : State) (n : Nat) : (s.tick n).synce = s.synce := rfl
@[simp] theorem State.tick_tio (s : State) (n : Nat) : (s.tick n).tio = s.tio := rfl
@[simp] theorem State.tick_clocks (s : State) (n : Nat) : (s.tick n).clocks = s.clocks := rfl
@[simp] theorem State.tick_chans (s : State) (n : Nat) : (s.tick n).chans = s.chans := rfl
@[simp] theorem State.tick_bufs (s : State) (n : Nat) : (s.tick n).bufs = s.bufs := rfl
@[simp] theorem State.tick_hodMem (s : State) (n : Nat) : (s.tick n).hodMem = s.hodMem := rfl
@[simp] theorem State.tick_bufCaches (s : State) (n : Nat) : (s.tick n).bufCaches = s.bufCaches := rfl
@[simp] theorem State.tick_recv (s : State) (n : Nat) : (s.tick n).recv = s.recv := rfl
@[simp] theorem State.tick_quietNh (s : State) (n : Nat) : (s.tick n).quietNh = s.quietNh := rfl
@[simp] theorem State.tick_quietRw (s : State) (n : Nat) : (s.tick n).quietRw = s.quietRw := rfl
@[simp] theorem State.tick_physNh (s : State) (n : Nat) : (s.tick n).physNh = s.physNh := rfl
@[simp] theorem State.tick_physRw (s : State) (n : Nat) : (s.tick n).physRw = s.physRw := rfl
@[simp] theorem State.tick_seed (s : State) (n : Nat) : (s.tick n).seed = s.seed := rfl
@[simp] theorem State.tick_hostTab (s : State) (n : Nat) : (s.tick n).hostTab = s.hostTab := rfl
@[simp] theorem State.tick_filterEpoch (s : State) (n : Nat) : (s.tick n).filterEpoch = s.filterEpoch := rfl
@[simp] theorem State.tick_banks (s : State) (n : Nat) : (s.tick n).banks = s.banks := rfl
@[simp] theorem State.tick_sustain (s : State) (n : Nat) : (s.tick n).sustain = s.sustain := rfl
@[simp] theorem State.tick_sessions (s : State) (n : Nat) : (s.tick n).sessions = s.sessions := rfl
@[simp] theorem State.tick_issued (s : State) (n : Nat) : (s.tick n).issued = s.issued := rfl
@[simp] theorem State.tick_owed (s : State) (n : Nat) : (s.tick n).owed = s.owed := rfl
@[simp] theorem State.tick_out (s : State) (n : Nat) : (s.tick n).out = s.out := rfl
@[simp] theorem State.tick_enrolBar (s : State) (n : Nat) : (s.tick n).enrolBar = s.enrolBar := rfl
@[simp] theorem State.tick_authFails (s : State) (n : Nat) : (s.tick n).authFails = s.authFails := rfl
@[simp] theorem State.tick_committing (s : State) (n : Nat) : (s.tick n).committing = s.committing := rfl
@[simp] theorem State.tick_latest (s : State) (n : Nat) : (s.tick n).latest = s.latest := rfl
@[simp] theorem State.tick_latestSlot (s : State) (n : Nat) : (s.tick n).latestSlot = s.latestSlot := rfl
@[simp] theorem State.tick_ruleAt (s : State) (n : Nat) : (s.tick n).ruleAt = s.ruleAt := rfl
@[simp] theorem State.tick_flash (s : State) (n : Nat) : (s.tick n).flash = s.flash := rfl
@[simp] theorem State.tick_power (s : State) (n : Nat) : (s.tick n).power = s.power := rfl
@[simp] theorem State.tick_latch (s : State) (n : Nat) : (s.tick n).latch = s.latch := rfl
@[simp] theorem State.tick_cart (s : State) (n : Nat) : (s.tick n).cart = s.cart := rfl
@[simp] theorem State.tick_bay (s : State) (n : Nat) : (s.tick n).bay = s.bay := rfl
@[simp] theorem State.tick_domOps (s : State) (n : Nat) : (s.tick n).domOps = s.domOps := rfl
@[simp] theorem State.tick_reseed (s : State) (n : Nat) : (s.tick n).reseed = s.reseed := rfl
@[simp] theorem State.tick_ctls (s : State) (n : Nat) : (s.tick n).ctls = s.ctls := rfl
@[simp] theorem State.tick_silence (s : State) (n : Nat) : (s.tick n).silence = s.silence := rfl
@[simp] theorem State.tick_swap (s : State) (n : Nat) : (s.tick n).swap = s.swap := rfl
@[simp] theorem State.tick_swapTries (s : State) (n : Nat) : (s.tick n).swapTries = s.swapTries := rfl
@[simp] theorem State.tick_swapAt (s : State) (n : Nat) : (s.tick n).swapAt = s.swapAt := rfl
@[simp] theorem State.tick_swapDay (s : State) (n : Nat) : (s.tick n).swapDay = s.swapDay := rfl
@[simp] theorem State.tick_resync (s : State) (n : Nat) : (s.tick n).resync = s.resync := rfl
@[simp] theorem State.tick_fw (s : State) (n : Nat) : (s.tick n).fw = s.fw := rfl
@[simp] theorem State.tick_flushes (s : State) (n : Nat) : (s.tick n).flushes = s.flushes := rfl
@[simp] theorem State.tick_bulks (s : State) (n : Nat) : (s.tick n).bulks = s.bulks := rfl
@[simp] theorem State.tick_snaps (s : State) (n : Nat) : (s.tick n).snaps = s.snaps := rfl
@[simp] theorem State.tick_recordAt (s : State) (n : Nat) : (s.tick n).recordAt = s.recordAt := rfl
@[simp] theorem State.tick_tx (s : State) (n : Nat) : (s.tick n).tx = s.tx := rfl

/-! ### `State.wr` -/

@[simp] theorem State.wr_pending (s : State) (p i v : Nat) : (s.wr p i v).pending = s.pending := rfl
@[simp] theorem State.wr_rc (s : State) (p i v : Nat) : (s.wr p i v).rc = s.rc := rfl
@[simp] theorem State.wr_clk (s : State) (p i v : Nat) : (s.wr p i v).clk = s.clk := rfl
@[simp] theorem State.wr_faults (s : State) (p i v : Nat) : (s.wr p i v).faults = s.faults := rfl
@[simp] theorem State.wr_drawn (s : State) (p i v : Nat) : (s.wr p i v).drawn = s.drawn := rfl
@[simp] theorem State.wr_slots (s : State) (p i v : Nat) : (s.wr p i v).slots = s.slots := rfl
@[simp] theorem State.wr_ports (s : State) (p i v : Nat) : (s.wr p i v).ports = s.ports := rfl
@[simp] theorem State.wr_groups (s : State) (p i v : Nat) : (s.wr p i v).groups = s.groups := rfl
@[simp] theorem State.wr_pa (s : State) (p i v : Nat) : (s.wr p i v).pa = s.pa := rfl
@[simp] theorem State.wr_pb (s : State) (p i v : Nat) : (s.wr p i v).pb = s.pb := rfl
@[simp] theorem State.wr_courses (s : State) (p i v : Nat) : (s.wr p i v).courses = s.courses := rfl
@[simp] theorem State.wr_joins (s : State) (p i v : Nat) : (s.wr p i v).joins = s.joins := rfl
@[simp] theorem State.wr_bonds (s : State) (p i v : Nat) : (s.wr p i v).bonds = s.bonds := rfl
@[simp] theorem State.wr_recovery (s : State) (p i v : Nat) : (s.wr p i v).recovery = s.recovery := rfl
@[simp] theorem State.wr_judge (s : State) (p i v : Nat) : (s.wr p i v).judge = s.judge := rfl
@[simp] theorem State.wr_leaving (s : State) (p i v : Nat) : (s.wr p i v).leaving = s.leaving := rfl
@[simp] theorem State.wr_gateChange (s : State) (p i v : Nat) : (s.wr p i v).gateChange = s.gateChange := rfl
@[simp] theorem State.wr_gateEdge (s : State) (p i v : Nat) : (s.wr p i v).gateEdge = s.gateEdge := rfl
@[simp] theorem State.wr_heldTicks (s : State) (p i v : Nat) : (s.wr p i v).heldTicks = s.heldTicks := rfl
@[simp] theorem State.wr_time (s : State) (p i v : Nat) : (s.wr p i v).time = s.time := rfl
@[simp] theorem State.wr_servo (s : State) (p i v : Nat) : (s.wr p i v).servo = s.servo := rfl
@[simp] theorem State.wr_gnss (s : State) (p i v : Nat) : (s.wr p i v).gnss = s.gnss := rfl
@[simp] theorem State.wr_ptp (s : State) (p i v : Nat) : (s.wr p i v).ptp = s.ptp := rfl
@[simp] theorem State.wr_departures (s : State) (p i v : Nat) : (s.wr p i v).departures = s.departures := rfl
@[simp] theorem State.wr_synce (s : State) (p i v : Nat) : (s.wr p i v).synce = s.synce := rfl
@[simp] theorem State.wr_tio (s : State) (p i v : Nat) : (s.wr p i v).tio = s.tio := rfl
@[simp] theorem State.wr_clocks (s : State) (p i v : Nat) : (s.wr p i v).clocks = s.clocks := rfl
@[simp] theorem State.wr_chans (s : State) (p i v : Nat) : (s.wr p i v).chans = s.chans := rfl
@[simp] theorem State.wr_bufs (s : State) (p i v : Nat) : (s.wr p i v).bufs = s.bufs := rfl
@[simp] theorem State.wr_hodMem (s : State) (p i v : Nat) : (s.wr p i v).hodMem = s.hodMem := rfl
@[simp] theorem State.wr_bufCaches (s : State) (p i v : Nat) : (s.wr p i v).bufCaches = s.bufCaches := rfl
@[simp] theorem State.wr_recv (s : State) (p i v : Nat) : (s.wr p i v).recv = s.recv := rfl
@[simp] theorem State.wr_quietNh (s : State) (p i v : Nat) : (s.wr p i v).quietNh = s.quietNh := rfl
@[simp] theorem State.wr_quietRw (s : State) (p i v : Nat) : (s.wr p i v).quietRw = s.quietRw := rfl
@[simp] theorem State.wr_physNh (s : State) (p i v : Nat) : (s.wr p i v).physNh = s.physNh := rfl
@[simp] theorem State.wr_physRw (s : State) (p i v : Nat) : (s.wr p i v).physRw = s.physRw := rfl
@[simp] theorem State.wr_seed (s : State) (p i v : Nat) : (s.wr p i v).seed = s.seed := rfl
@[simp] theorem State.wr_hostTab (s : State) (p i v : Nat) : (s.wr p i v).hostTab = s.hostTab := rfl
@[simp] theorem State.wr_filterEpoch (s : State) (p i v : Nat) : (s.wr p i v).filterEpoch = s.filterEpoch := rfl
@[simp] theorem State.wr_banks (s : State) (p i v : Nat) : (s.wr p i v).banks = s.banks := rfl
@[simp] theorem State.wr_sustain (s : State) (p i v : Nat) : (s.wr p i v).sustain = s.sustain := rfl
@[simp] theorem State.wr_sessions (s : State) (p i v : Nat) : (s.wr p i v).sessions = s.sessions := rfl
@[simp] theorem State.wr_issued (s : State) (p i v : Nat) : (s.wr p i v).issued = s.issued := rfl
@[simp] theorem State.wr_owed (s : State) (p i v : Nat) : (s.wr p i v).owed = s.owed := rfl
@[simp] theorem State.wr_out (s : State) (p i v : Nat) : (s.wr p i v).out = s.out := rfl
@[simp] theorem State.wr_enrolBar (s : State) (p i v : Nat) : (s.wr p i v).enrolBar = s.enrolBar := rfl
@[simp] theorem State.wr_authFails (s : State) (p i v : Nat) : (s.wr p i v).authFails = s.authFails := rfl
@[simp] theorem State.wr_committing (s : State) (p i v : Nat) : (s.wr p i v).committing = s.committing := rfl
@[simp] theorem State.wr_latest (s : State) (p i v : Nat) : (s.wr p i v).latest = s.latest := rfl
@[simp] theorem State.wr_latestSlot (s : State) (p i v : Nat) : (s.wr p i v).latestSlot = s.latestSlot := rfl
@[simp] theorem State.wr_ruleAt (s : State) (p i v : Nat) : (s.wr p i v).ruleAt = s.ruleAt := rfl
@[simp] theorem State.wr_flash (s : State) (p i v : Nat) : (s.wr p i v).flash = s.flash := rfl
@[simp] theorem State.wr_power (s : State) (p i v : Nat) : (s.wr p i v).power = s.power := rfl
@[simp] theorem State.wr_latch (s : State) (p i v : Nat) : (s.wr p i v).latch = s.latch := rfl
@[simp] theorem State.wr_cart (s : State) (p i v : Nat) : (s.wr p i v).cart = s.cart := rfl
@[simp] theorem State.wr_bay (s : State) (p i v : Nat) : (s.wr p i v).bay = s.bay := rfl
@[simp] theorem State.wr_domOps (s : State) (p i v : Nat) : (s.wr p i v).domOps = s.domOps := rfl
@[simp] theorem State.wr_reseed (s : State) (p i v : Nat) : (s.wr p i v).reseed = s.reseed := rfl
@[simp] theorem State.wr_ctls (s : State) (p i v : Nat) : (s.wr p i v).ctls = s.ctls := rfl
@[simp] theorem State.wr_silence (s : State) (p i v : Nat) : (s.wr p i v).silence = s.silence := rfl
@[simp] theorem State.wr_swap (s : State) (p i v : Nat) : (s.wr p i v).swap = s.swap := rfl
@[simp] theorem State.wr_swapTries (s : State) (p i v : Nat) : (s.wr p i v).swapTries = s.swapTries := rfl
@[simp] theorem State.wr_swapAt (s : State) (p i v : Nat) : (s.wr p i v).swapAt = s.swapAt := rfl
@[simp] theorem State.wr_swapDay (s : State) (p i v : Nat) : (s.wr p i v).swapDay = s.swapDay := rfl
@[simp] theorem State.wr_resync (s : State) (p i v : Nat) : (s.wr p i v).resync = s.resync := rfl
@[simp] theorem State.wr_fw (s : State) (p i v : Nat) : (s.wr p i v).fw = s.fw := rfl
@[simp] theorem State.wr_flushes (s : State) (p i v : Nat) : (s.wr p i v).flushes = s.flushes := rfl
@[simp] theorem State.wr_bulks (s : State) (p i v : Nat) : (s.wr p i v).bulks = s.bulks := rfl
@[simp] theorem State.wr_snaps (s : State) (p i v : Nat) : (s.wr p i v).snaps = s.snaps := rfl
@[simp] theorem State.wr_recordAt (s : State) (p i v : Nat) : (s.wr p i v).recordAt = s.recordAt := rfl
@[simp] theorem State.wr_tx (s : State) (p i v : Nat) : (s.wr p i v).tx = s.tx := rfl

/-! ### `State.incBy` -/

@[simp] theorem State.incBy_pending (s : State) (p i n : Nat) : (s.incBy p i n).pending = s.pending := rfl
@[simp] theorem State.incBy_rc (s : State) (p i n : Nat) : (s.incBy p i n).rc = s.rc := rfl
@[simp] theorem State.incBy_clk (s : State) (p i n : Nat) : (s.incBy p i n).clk = s.clk := rfl
@[simp] theorem State.incBy_faults (s : State) (p i n : Nat) : (s.incBy p i n).faults = s.faults := rfl
@[simp] theorem State.incBy_drawn (s : State) (p i n : Nat) : (s.incBy p i n).drawn = s.drawn := rfl
@[simp] theorem State.incBy_slots (s : State) (p i n : Nat) : (s.incBy p i n).slots = s.slots := rfl
@[simp] theorem State.incBy_ports (s : State) (p i n : Nat) : (s.incBy p i n).ports = s.ports := rfl
@[simp] theorem State.incBy_groups (s : State) (p i n : Nat) : (s.incBy p i n).groups = s.groups := rfl
@[simp] theorem State.incBy_pa (s : State) (p i n : Nat) : (s.incBy p i n).pa = s.pa := rfl
@[simp] theorem State.incBy_pb (s : State) (p i n : Nat) : (s.incBy p i n).pb = s.pb := rfl
@[simp] theorem State.incBy_courses (s : State) (p i n : Nat) : (s.incBy p i n).courses = s.courses := rfl
@[simp] theorem State.incBy_joins (s : State) (p i n : Nat) : (s.incBy p i n).joins = s.joins := rfl
@[simp] theorem State.incBy_bonds (s : State) (p i n : Nat) : (s.incBy p i n).bonds = s.bonds := rfl
@[simp] theorem State.incBy_recovery (s : State) (p i n : Nat) : (s.incBy p i n).recovery = s.recovery := rfl
@[simp] theorem State.incBy_judge (s : State) (p i n : Nat) : (s.incBy p i n).judge = s.judge := rfl
@[simp] theorem State.incBy_leaving (s : State) (p i n : Nat) : (s.incBy p i n).leaving = s.leaving := rfl
@[simp] theorem State.incBy_gateChange (s : State) (p i n : Nat) : (s.incBy p i n).gateChange = s.gateChange := rfl
@[simp] theorem State.incBy_gateEdge (s : State) (p i n : Nat) : (s.incBy p i n).gateEdge = s.gateEdge := rfl
@[simp] theorem State.incBy_heldTicks (s : State) (p i n : Nat) : (s.incBy p i n).heldTicks = s.heldTicks := rfl
@[simp] theorem State.incBy_time (s : State) (p i n : Nat) : (s.incBy p i n).time = s.time := rfl
@[simp] theorem State.incBy_servo (s : State) (p i n : Nat) : (s.incBy p i n).servo = s.servo := rfl
@[simp] theorem State.incBy_gnss (s : State) (p i n : Nat) : (s.incBy p i n).gnss = s.gnss := rfl
@[simp] theorem State.incBy_ptp (s : State) (p i n : Nat) : (s.incBy p i n).ptp = s.ptp := rfl
@[simp] theorem State.incBy_departures (s : State) (p i n : Nat) : (s.incBy p i n).departures = s.departures := rfl
@[simp] theorem State.incBy_synce (s : State) (p i n : Nat) : (s.incBy p i n).synce = s.synce := rfl
@[simp] theorem State.incBy_tio (s : State) (p i n : Nat) : (s.incBy p i n).tio = s.tio := rfl
@[simp] theorem State.incBy_clocks (s : State) (p i n : Nat) : (s.incBy p i n).clocks = s.clocks := rfl
@[simp] theorem State.incBy_chans (s : State) (p i n : Nat) : (s.incBy p i n).chans = s.chans := rfl
@[simp] theorem State.incBy_bufs (s : State) (p i n : Nat) : (s.incBy p i n).bufs = s.bufs := rfl
@[simp] theorem State.incBy_hodMem (s : State) (p i n : Nat) : (s.incBy p i n).hodMem = s.hodMem := rfl
@[simp] theorem State.incBy_bufCaches (s : State) (p i n : Nat) : (s.incBy p i n).bufCaches = s.bufCaches := rfl
@[simp] theorem State.incBy_recv (s : State) (p i n : Nat) : (s.incBy p i n).recv = s.recv := rfl
@[simp] theorem State.incBy_quietNh (s : State) (p i n : Nat) : (s.incBy p i n).quietNh = s.quietNh := rfl
@[simp] theorem State.incBy_quietRw (s : State) (p i n : Nat) : (s.incBy p i n).quietRw = s.quietRw := rfl
@[simp] theorem State.incBy_physNh (s : State) (p i n : Nat) : (s.incBy p i n).physNh = s.physNh := rfl
@[simp] theorem State.incBy_physRw (s : State) (p i n : Nat) : (s.incBy p i n).physRw = s.physRw := rfl
@[simp] theorem State.incBy_seed (s : State) (p i n : Nat) : (s.incBy p i n).seed = s.seed := rfl
@[simp] theorem State.incBy_hostTab (s : State) (p i n : Nat) : (s.incBy p i n).hostTab = s.hostTab := rfl
@[simp] theorem State.incBy_filterEpoch (s : State) (p i n : Nat) : (s.incBy p i n).filterEpoch = s.filterEpoch := rfl
@[simp] theorem State.incBy_banks (s : State) (p i n : Nat) : (s.incBy p i n).banks = s.banks := rfl
@[simp] theorem State.incBy_sustain (s : State) (p i n : Nat) : (s.incBy p i n).sustain = s.sustain := rfl
@[simp] theorem State.incBy_sessions (s : State) (p i n : Nat) : (s.incBy p i n).sessions = s.sessions := rfl
@[simp] theorem State.incBy_issued (s : State) (p i n : Nat) : (s.incBy p i n).issued = s.issued := rfl
@[simp] theorem State.incBy_owed (s : State) (p i n : Nat) : (s.incBy p i n).owed = s.owed := rfl
@[simp] theorem State.incBy_out (s : State) (p i n : Nat) : (s.incBy p i n).out = s.out := rfl
@[simp] theorem State.incBy_enrolBar (s : State) (p i n : Nat) : (s.incBy p i n).enrolBar = s.enrolBar := rfl
@[simp] theorem State.incBy_authFails (s : State) (p i n : Nat) : (s.incBy p i n).authFails = s.authFails := rfl
@[simp] theorem State.incBy_committing (s : State) (p i n : Nat) : (s.incBy p i n).committing = s.committing := rfl
@[simp] theorem State.incBy_latest (s : State) (p i n : Nat) : (s.incBy p i n).latest = s.latest := rfl
@[simp] theorem State.incBy_latestSlot (s : State) (p i n : Nat) : (s.incBy p i n).latestSlot = s.latestSlot := rfl
@[simp] theorem State.incBy_ruleAt (s : State) (p i n : Nat) : (s.incBy p i n).ruleAt = s.ruleAt := rfl
@[simp] theorem State.incBy_flash (s : State) (p i n : Nat) : (s.incBy p i n).flash = s.flash := rfl
@[simp] theorem State.incBy_power (s : State) (p i n : Nat) : (s.incBy p i n).power = s.power := rfl
@[simp] theorem State.incBy_latch (s : State) (p i n : Nat) : (s.incBy p i n).latch = s.latch := rfl
@[simp] theorem State.incBy_cart (s : State) (p i n : Nat) : (s.incBy p i n).cart = s.cart := rfl
@[simp] theorem State.incBy_bay (s : State) (p i n : Nat) : (s.incBy p i n).bay = s.bay := rfl
@[simp] theorem State.incBy_domOps (s : State) (p i n : Nat) : (s.incBy p i n).domOps = s.domOps := rfl
@[simp] theorem State.incBy_reseed (s : State) (p i n : Nat) : (s.incBy p i n).reseed = s.reseed := rfl
@[simp] theorem State.incBy_ctls (s : State) (p i n : Nat) : (s.incBy p i n).ctls = s.ctls := rfl
@[simp] theorem State.incBy_silence (s : State) (p i n : Nat) : (s.incBy p i n).silence = s.silence := rfl
@[simp] theorem State.incBy_swap (s : State) (p i n : Nat) : (s.incBy p i n).swap = s.swap := rfl
@[simp] theorem State.incBy_swapTries (s : State) (p i n : Nat) : (s.incBy p i n).swapTries = s.swapTries := rfl
@[simp] theorem State.incBy_swapAt (s : State) (p i n : Nat) : (s.incBy p i n).swapAt = s.swapAt := rfl
@[simp] theorem State.incBy_swapDay (s : State) (p i n : Nat) : (s.incBy p i n).swapDay = s.swapDay := rfl
@[simp] theorem State.incBy_resync (s : State) (p i n : Nat) : (s.incBy p i n).resync = s.resync := rfl
@[simp] theorem State.incBy_fw (s : State) (p i n : Nat) : (s.incBy p i n).fw = s.fw := rfl
@[simp] theorem State.incBy_flushes (s : State) (p i n : Nat) : (s.incBy p i n).flushes = s.flushes := rfl
@[simp] theorem State.incBy_bulks (s : State) (p i n : Nat) : (s.incBy p i n).bulks = s.bulks := rfl
@[simp] theorem State.incBy_snaps (s : State) (p i n : Nat) : (s.incBy p i n).snaps = s.snaps := rfl
@[simp] theorem State.incBy_recordAt (s : State) (p i n : Nat) : (s.incBy p i n).recordAt = s.recordAt := rfl
@[simp] theorem State.incBy_tx (s : State) (p i n : Nat) : (s.incBy p i n).tx = s.tx := rfl

/-! ### `State.inc` -/

@[simp] theorem State.inc_pending (s : State) (p i : Nat) : (s.inc p i).pending = s.pending := rfl
@[simp] theorem State.inc_rc (s : State) (p i : Nat) : (s.inc p i).rc = s.rc := rfl
@[simp] theorem State.inc_clk (s : State) (p i : Nat) : (s.inc p i).clk = s.clk := rfl
@[simp] theorem State.inc_faults (s : State) (p i : Nat) : (s.inc p i).faults = s.faults := rfl
@[simp] theorem State.inc_drawn (s : State) (p i : Nat) : (s.inc p i).drawn = s.drawn := rfl
@[simp] theorem State.inc_slots (s : State) (p i : Nat) : (s.inc p i).slots = s.slots := rfl
@[simp] theorem State.inc_ports (s : State) (p i : Nat) : (s.inc p i).ports = s.ports := rfl
@[simp] theorem State.inc_groups (s : State) (p i : Nat) : (s.inc p i).groups = s.groups := rfl
@[simp] theorem State.inc_pa (s : State) (p i : Nat) : (s.inc p i).pa = s.pa := rfl
@[simp] theorem State.inc_pb (s : State) (p i : Nat) : (s.inc p i).pb = s.pb := rfl
@[simp] theorem State.inc_courses (s : State) (p i : Nat) : (s.inc p i).courses = s.courses := rfl
@[simp] theorem State.inc_joins (s : State) (p i : Nat) : (s.inc p i).joins = s.joins := rfl
@[simp] theorem State.inc_bonds (s : State) (p i : Nat) : (s.inc p i).bonds = s.bonds := rfl
@[simp] theorem State.inc_recovery (s : State) (p i : Nat) : (s.inc p i).recovery = s.recovery := rfl
@[simp] theorem State.inc_judge (s : State) (p i : Nat) : (s.inc p i).judge = s.judge := rfl
@[simp] theorem State.inc_leaving (s : State) (p i : Nat) : (s.inc p i).leaving = s.leaving := rfl
@[simp] theorem State.inc_gateChange (s : State) (p i : Nat) : (s.inc p i).gateChange = s.gateChange := rfl
@[simp] theorem State.inc_gateEdge (s : State) (p i : Nat) : (s.inc p i).gateEdge = s.gateEdge := rfl
@[simp] theorem State.inc_heldTicks (s : State) (p i : Nat) : (s.inc p i).heldTicks = s.heldTicks := rfl
@[simp] theorem State.inc_time (s : State) (p i : Nat) : (s.inc p i).time = s.time := rfl
@[simp] theorem State.inc_servo (s : State) (p i : Nat) : (s.inc p i).servo = s.servo := rfl
@[simp] theorem State.inc_gnss (s : State) (p i : Nat) : (s.inc p i).gnss = s.gnss := rfl
@[simp] theorem State.inc_ptp (s : State) (p i : Nat) : (s.inc p i).ptp = s.ptp := rfl
@[simp] theorem State.inc_departures (s : State) (p i : Nat) : (s.inc p i).departures = s.departures := rfl
@[simp] theorem State.inc_synce (s : State) (p i : Nat) : (s.inc p i).synce = s.synce := rfl
@[simp] theorem State.inc_tio (s : State) (p i : Nat) : (s.inc p i).tio = s.tio := rfl
@[simp] theorem State.inc_clocks (s : State) (p i : Nat) : (s.inc p i).clocks = s.clocks := rfl
@[simp] theorem State.inc_chans (s : State) (p i : Nat) : (s.inc p i).chans = s.chans := rfl
@[simp] theorem State.inc_bufs (s : State) (p i : Nat) : (s.inc p i).bufs = s.bufs := rfl
@[simp] theorem State.inc_hodMem (s : State) (p i : Nat) : (s.inc p i).hodMem = s.hodMem := rfl
@[simp] theorem State.inc_bufCaches (s : State) (p i : Nat) : (s.inc p i).bufCaches = s.bufCaches := rfl
@[simp] theorem State.inc_recv (s : State) (p i : Nat) : (s.inc p i).recv = s.recv := rfl
@[simp] theorem State.inc_quietNh (s : State) (p i : Nat) : (s.inc p i).quietNh = s.quietNh := rfl
@[simp] theorem State.inc_quietRw (s : State) (p i : Nat) : (s.inc p i).quietRw = s.quietRw := rfl
@[simp] theorem State.inc_physNh (s : State) (p i : Nat) : (s.inc p i).physNh = s.physNh := rfl
@[simp] theorem State.inc_physRw (s : State) (p i : Nat) : (s.inc p i).physRw = s.physRw := rfl
@[simp] theorem State.inc_seed (s : State) (p i : Nat) : (s.inc p i).seed = s.seed := rfl
@[simp] theorem State.inc_hostTab (s : State) (p i : Nat) : (s.inc p i).hostTab = s.hostTab := rfl
@[simp] theorem State.inc_filterEpoch (s : State) (p i : Nat) : (s.inc p i).filterEpoch = s.filterEpoch := rfl
@[simp] theorem State.inc_banks (s : State) (p i : Nat) : (s.inc p i).banks = s.banks := rfl
@[simp] theorem State.inc_sustain (s : State) (p i : Nat) : (s.inc p i).sustain = s.sustain := rfl
@[simp] theorem State.inc_sessions (s : State) (p i : Nat) : (s.inc p i).sessions = s.sessions := rfl
@[simp] theorem State.inc_issued (s : State) (p i : Nat) : (s.inc p i).issued = s.issued := rfl
@[simp] theorem State.inc_owed (s : State) (p i : Nat) : (s.inc p i).owed = s.owed := rfl
@[simp] theorem State.inc_out (s : State) (p i : Nat) : (s.inc p i).out = s.out := rfl
@[simp] theorem State.inc_enrolBar (s : State) (p i : Nat) : (s.inc p i).enrolBar = s.enrolBar := rfl
@[simp] theorem State.inc_authFails (s : State) (p i : Nat) : (s.inc p i).authFails = s.authFails := rfl
@[simp] theorem State.inc_committing (s : State) (p i : Nat) : (s.inc p i).committing = s.committing := rfl
@[simp] theorem State.inc_latest (s : State) (p i : Nat) : (s.inc p i).latest = s.latest := rfl
@[simp] theorem State.inc_latestSlot (s : State) (p i : Nat) : (s.inc p i).latestSlot = s.latestSlot := rfl
@[simp] theorem State.inc_ruleAt (s : State) (p i : Nat) : (s.inc p i).ruleAt = s.ruleAt := rfl
@[simp] theorem State.inc_flash (s : State) (p i : Nat) : (s.inc p i).flash = s.flash := rfl
@[simp] theorem State.inc_power (s : State) (p i : Nat) : (s.inc p i).power = s.power := rfl
@[simp] theorem State.inc_latch (s : State) (p i : Nat) : (s.inc p i).latch = s.latch := rfl
@[simp] theorem State.inc_cart (s : State) (p i : Nat) : (s.inc p i).cart = s.cart := rfl
@[simp] theorem State.inc_bay (s : State) (p i : Nat) : (s.inc p i).bay = s.bay := rfl
@[simp] theorem State.inc_domOps (s : State) (p i : Nat) : (s.inc p i).domOps = s.domOps := rfl
@[simp] theorem State.inc_reseed (s : State) (p i : Nat) : (s.inc p i).reseed = s.reseed := rfl
@[simp] theorem State.inc_ctls (s : State) (p i : Nat) : (s.inc p i).ctls = s.ctls := rfl
@[simp] theorem State.inc_silence (s : State) (p i : Nat) : (s.inc p i).silence = s.silence := rfl
@[simp] theorem State.inc_swap (s : State) (p i : Nat) : (s.inc p i).swap = s.swap := rfl
@[simp] theorem State.inc_swapTries (s : State) (p i : Nat) : (s.inc p i).swapTries = s.swapTries := rfl
@[simp] theorem State.inc_swapAt (s : State) (p i : Nat) : (s.inc p i).swapAt = s.swapAt := rfl
@[simp] theorem State.inc_swapDay (s : State) (p i : Nat) : (s.inc p i).swapDay = s.swapDay := rfl
@[simp] theorem State.inc_resync (s : State) (p i : Nat) : (s.inc p i).resync = s.resync := rfl
@[simp] theorem State.inc_fw (s : State) (p i : Nat) : (s.inc p i).fw = s.fw := rfl
@[simp] theorem State.inc_flushes (s : State) (p i : Nat) : (s.inc p i).flushes = s.flushes := rfl
@[simp] theorem State.inc_bulks (s : State) (p i : Nat) : (s.inc p i).bulks = s.bulks := rfl
@[simp] theorem State.inc_snaps (s : State) (p i : Nat) : (s.inc p i).snaps = s.snaps := rfl
@[simp] theorem State.inc_recordAt (s : State) (p i : Nat) : (s.inc p i).recordAt = s.recordAt := rfl
@[simp] theorem State.inc_tx (s : State) (p i : Nat) : (s.inc p i).tx = s.tx := rfl

/-! ### `State.stamp` -/

@[simp] theorem State.stamp_pending (s : State) (p i : Nat) : (s.stamp p i).pending = s.pending := s.wr_pending _ _ _
@[simp] theorem State.stamp_rc (s : State) (p i : Nat) : (s.stamp p i).rc = s.rc := s.wr_rc _ _ _
@[simp] theorem State.stamp_clk (s : State) (p i : Nat) : (s.stamp p i).clk = s.clk := s.wr_clk _ _ _
@[simp] theorem State.stamp_faults (s : State) (p i : Nat) : (s.stamp p i).faults = s.faults := s.wr_faults _ _ _
@[simp] theorem State.stamp_drawn (s : State) (p i : Nat) : (s.stamp p i).drawn = s.drawn := s.wr_drawn _ _ _
@[simp] theorem State.stamp_slots (s : State) (p i : Nat) : (s.stamp p i).slots = s.slots := s.wr_slots _ _ _
@[simp] theorem State.stamp_ports (s : State) (p i : Nat) : (s.stamp p i).ports = s.ports := s.wr_ports _ _ _
@[simp] theorem State.stamp_groups (s : State) (p i : Nat) : (s.stamp p i).groups = s.groups := s.wr_groups _ _ _
@[simp] theorem State.stamp_pa (s : State) (p i : Nat) : (s.stamp p i).pa = s.pa := s.wr_pa _ _ _
@[simp] theorem State.stamp_pb (s : State) (p i : Nat) : (s.stamp p i).pb = s.pb := s.wr_pb _ _ _
@[simp] theorem State.stamp_courses (s : State) (p i : Nat) : (s.stamp p i).courses = s.courses := s.wr_courses _ _ _
@[simp] theorem State.stamp_joins (s : State) (p i : Nat) : (s.stamp p i).joins = s.joins := s.wr_joins _ _ _
@[simp] theorem State.stamp_bonds (s : State) (p i : Nat) : (s.stamp p i).bonds = s.bonds := s.wr_bonds _ _ _
@[simp] theorem State.stamp_recovery (s : State) (p i : Nat) : (s.stamp p i).recovery = s.recovery := s.wr_recovery _ _ _
@[simp] theorem State.stamp_judge (s : State) (p i : Nat) : (s.stamp p i).judge = s.judge := s.wr_judge _ _ _
@[simp] theorem State.stamp_leaving (s : State) (p i : Nat) : (s.stamp p i).leaving = s.leaving := s.wr_leaving _ _ _
@[simp] theorem State.stamp_gateChange (s : State) (p i : Nat) : (s.stamp p i).gateChange = s.gateChange := s.wr_gateChange _ _ _
@[simp] theorem State.stamp_gateEdge (s : State) (p i : Nat) : (s.stamp p i).gateEdge = s.gateEdge := s.wr_gateEdge _ _ _
@[simp] theorem State.stamp_heldTicks (s : State) (p i : Nat) : (s.stamp p i).heldTicks = s.heldTicks := s.wr_heldTicks _ _ _
@[simp] theorem State.stamp_time (s : State) (p i : Nat) : (s.stamp p i).time = s.time := s.wr_time _ _ _
@[simp] theorem State.stamp_servo (s : State) (p i : Nat) : (s.stamp p i).servo = s.servo := s.wr_servo _ _ _
@[simp] theorem State.stamp_gnss (s : State) (p i : Nat) : (s.stamp p i).gnss = s.gnss := s.wr_gnss _ _ _
@[simp] theorem State.stamp_ptp (s : State) (p i : Nat) : (s.stamp p i).ptp = s.ptp := s.wr_ptp _ _ _
@[simp] theorem State.stamp_departures (s : State) (p i : Nat) : (s.stamp p i).departures = s.departures := s.wr_departures _ _ _
@[simp] theorem State.stamp_synce (s : State) (p i : Nat) : (s.stamp p i).synce = s.synce := s.wr_synce _ _ _
@[simp] theorem State.stamp_tio (s : State) (p i : Nat) : (s.stamp p i).tio = s.tio := s.wr_tio _ _ _
@[simp] theorem State.stamp_clocks (s : State) (p i : Nat) : (s.stamp p i).clocks = s.clocks := s.wr_clocks _ _ _
@[simp] theorem State.stamp_chans (s : State) (p i : Nat) : (s.stamp p i).chans = s.chans := s.wr_chans _ _ _
@[simp] theorem State.stamp_bufs (s : State) (p i : Nat) : (s.stamp p i).bufs = s.bufs := s.wr_bufs _ _ _
@[simp] theorem State.stamp_hodMem (s : State) (p i : Nat) : (s.stamp p i).hodMem = s.hodMem := s.wr_hodMem _ _ _
@[simp] theorem State.stamp_bufCaches (s : State) (p i : Nat) : (s.stamp p i).bufCaches = s.bufCaches := s.wr_bufCaches _ _ _
@[simp] theorem State.stamp_recv (s : State) (p i : Nat) : (s.stamp p i).recv = s.recv := s.wr_recv _ _ _
@[simp] theorem State.stamp_quietNh (s : State) (p i : Nat) : (s.stamp p i).quietNh = s.quietNh := s.wr_quietNh _ _ _
@[simp] theorem State.stamp_quietRw (s : State) (p i : Nat) : (s.stamp p i).quietRw = s.quietRw := s.wr_quietRw _ _ _
@[simp] theorem State.stamp_physNh (s : State) (p i : Nat) : (s.stamp p i).physNh = s.physNh := s.wr_physNh _ _ _
@[simp] theorem State.stamp_physRw (s : State) (p i : Nat) : (s.stamp p i).physRw = s.physRw := s.wr_physRw _ _ _
@[simp] theorem State.stamp_seed (s : State) (p i : Nat) : (s.stamp p i).seed = s.seed := s.wr_seed _ _ _
@[simp] theorem State.stamp_hostTab (s : State) (p i : Nat) : (s.stamp p i).hostTab = s.hostTab := s.wr_hostTab _ _ _
@[simp] theorem State.stamp_filterEpoch (s : State) (p i : Nat) : (s.stamp p i).filterEpoch = s.filterEpoch := s.wr_filterEpoch _ _ _
@[simp] theorem State.stamp_banks (s : State) (p i : Nat) : (s.stamp p i).banks = s.banks := s.wr_banks _ _ _
@[simp] theorem State.stamp_sustain (s : State) (p i : Nat) : (s.stamp p i).sustain = s.sustain := s.wr_sustain _ _ _
@[simp] theorem State.stamp_sessions (s : State) (p i : Nat) : (s.stamp p i).sessions = s.sessions := s.wr_sessions _ _ _
@[simp] theorem State.stamp_issued (s : State) (p i : Nat) : (s.stamp p i).issued = s.issued := s.wr_issued _ _ _
@[simp] theorem State.stamp_owed (s : State) (p i : Nat) : (s.stamp p i).owed = s.owed := s.wr_owed _ _ _
@[simp] theorem State.stamp_out (s : State) (p i : Nat) : (s.stamp p i).out = s.out := s.wr_out _ _ _
@[simp] theorem State.stamp_enrolBar (s : State) (p i : Nat) : (s.stamp p i).enrolBar = s.enrolBar := s.wr_enrolBar _ _ _
@[simp] theorem State.stamp_authFails (s : State) (p i : Nat) : (s.stamp p i).authFails = s.authFails := s.wr_authFails _ _ _
@[simp] theorem State.stamp_committing (s : State) (p i : Nat) : (s.stamp p i).committing = s.committing := s.wr_committing _ _ _
@[simp] theorem State.stamp_latest (s : State) (p i : Nat) : (s.stamp p i).latest = s.latest := s.wr_latest _ _ _
@[simp] theorem State.stamp_latestSlot (s : State) (p i : Nat) : (s.stamp p i).latestSlot = s.latestSlot := s.wr_latestSlot _ _ _
@[simp] theorem State.stamp_ruleAt (s : State) (p i : Nat) : (s.stamp p i).ruleAt = s.ruleAt := s.wr_ruleAt _ _ _
@[simp] theorem State.stamp_flash (s : State) (p i : Nat) : (s.stamp p i).flash = s.flash := s.wr_flash _ _ _
@[simp] theorem State.stamp_power (s : State) (p i : Nat) : (s.stamp p i).power = s.power := s.wr_power _ _ _
@[simp] theorem State.stamp_latch (s : State) (p i : Nat) : (s.stamp p i).latch = s.latch := s.wr_latch _ _ _
@[simp] theorem State.stamp_cart (s : State) (p i : Nat) : (s.stamp p i).cart = s.cart := s.wr_cart _ _ _
@[simp] theorem State.stamp_bay (s : State) (p i : Nat) : (s.stamp p i).bay = s.bay := s.wr_bay _ _ _
@[simp] theorem State.stamp_domOps (s : State) (p i : Nat) : (s.stamp p i).domOps = s.domOps := s.wr_domOps _ _ _
@[simp] theorem State.stamp_reseed (s : State) (p i : Nat) : (s.stamp p i).reseed = s.reseed := s.wr_reseed _ _ _
@[simp] theorem State.stamp_ctls (s : State) (p i : Nat) : (s.stamp p i).ctls = s.ctls := s.wr_ctls _ _ _
@[simp] theorem State.stamp_silence (s : State) (p i : Nat) : (s.stamp p i).silence = s.silence := s.wr_silence _ _ _
@[simp] theorem State.stamp_swap (s : State) (p i : Nat) : (s.stamp p i).swap = s.swap := s.wr_swap _ _ _
@[simp] theorem State.stamp_swapTries (s : State) (p i : Nat) : (s.stamp p i).swapTries = s.swapTries := s.wr_swapTries _ _ _
@[simp] theorem State.stamp_swapAt (s : State) (p i : Nat) : (s.stamp p i).swapAt = s.swapAt := s.wr_swapAt _ _ _
@[simp] theorem State.stamp_swapDay (s : State) (p i : Nat) : (s.stamp p i).swapDay = s.swapDay := s.wr_swapDay _ _ _
@[simp] theorem State.stamp_resync (s : State) (p i : Nat) : (s.stamp p i).resync = s.resync := s.wr_resync _ _ _
@[simp] theorem State.stamp_fw (s : State) (p i : Nat) : (s.stamp p i).fw = s.fw := s.wr_fw _ _ _
@[simp] theorem State.stamp_flushes (s : State) (p i : Nat) : (s.stamp p i).flushes = s.flushes := s.wr_flushes _ _ _
@[simp] theorem State.stamp_bulks (s : State) (p i : Nat) : (s.stamp p i).bulks = s.bulks := s.wr_bulks _ _ _
@[simp] theorem State.stamp_snaps (s : State) (p i : Nat) : (s.stamp p i).snaps = s.snaps := s.wr_snaps _ _ _
@[simp] theorem State.stamp_recordAt (s : State) (p i : Nat) : (s.stamp p i).recordAt = s.recordAt := s.wr_recordAt _ _ _
@[simp] theorem State.stamp_tx (s : State) (p i : Nat) : (s.stamp p i).tx = s.tx := s.wr_tx _ _ _

/-! ### `State.setDom` -/

@[simp] theorem State.setDom_pending (s : State) (d v : Nat) : (s.setDom d v).pending = s.pending := s.wr_pending _ _ _
@[simp] theorem State.setDom_rc (s : State) (d v : Nat) : (s.setDom d v).rc = s.rc := s.wr_rc _ _ _
@[simp] theorem State.setDom_clk (s : State) (d v : Nat) : (s.setDom d v).clk = s.clk := s.wr_clk _ _ _
@[simp] theorem State.setDom_faults (s : State) (d v : Nat) : (s.setDom d v).faults = s.faults := s.wr_faults _ _ _
@[simp] theorem State.setDom_drawn (s : State) (d v : Nat) : (s.setDom d v).drawn = s.drawn := s.wr_drawn _ _ _
@[simp] theorem State.setDom_slots (s : State) (d v : Nat) : (s.setDom d v).slots = s.slots := s.wr_slots _ _ _
@[simp] theorem State.setDom_ports (s : State) (d v : Nat) : (s.setDom d v).ports = s.ports := s.wr_ports _ _ _
@[simp] theorem State.setDom_groups (s : State) (d v : Nat) : (s.setDom d v).groups = s.groups := s.wr_groups _ _ _
@[simp] theorem State.setDom_pa (s : State) (d v : Nat) : (s.setDom d v).pa = s.pa := s.wr_pa _ _ _
@[simp] theorem State.setDom_pb (s : State) (d v : Nat) : (s.setDom d v).pb = s.pb := s.wr_pb _ _ _
@[simp] theorem State.setDom_courses (s : State) (d v : Nat) : (s.setDom d v).courses = s.courses := s.wr_courses _ _ _
@[simp] theorem State.setDom_joins (s : State) (d v : Nat) : (s.setDom d v).joins = s.joins := s.wr_joins _ _ _
@[simp] theorem State.setDom_bonds (s : State) (d v : Nat) : (s.setDom d v).bonds = s.bonds := s.wr_bonds _ _ _
@[simp] theorem State.setDom_recovery (s : State) (d v : Nat) : (s.setDom d v).recovery = s.recovery := s.wr_recovery _ _ _
@[simp] theorem State.setDom_judge (s : State) (d v : Nat) : (s.setDom d v).judge = s.judge := s.wr_judge _ _ _
@[simp] theorem State.setDom_leaving (s : State) (d v : Nat) : (s.setDom d v).leaving = s.leaving := s.wr_leaving _ _ _
@[simp] theorem State.setDom_gateChange (s : State) (d v : Nat) : (s.setDom d v).gateChange = s.gateChange := s.wr_gateChange _ _ _
@[simp] theorem State.setDom_gateEdge (s : State) (d v : Nat) : (s.setDom d v).gateEdge = s.gateEdge := s.wr_gateEdge _ _ _
@[simp] theorem State.setDom_heldTicks (s : State) (d v : Nat) : (s.setDom d v).heldTicks = s.heldTicks := s.wr_heldTicks _ _ _
@[simp] theorem State.setDom_time (s : State) (d v : Nat) : (s.setDom d v).time = s.time := s.wr_time _ _ _
@[simp] theorem State.setDom_servo (s : State) (d v : Nat) : (s.setDom d v).servo = s.servo := s.wr_servo _ _ _
@[simp] theorem State.setDom_gnss (s : State) (d v : Nat) : (s.setDom d v).gnss = s.gnss := s.wr_gnss _ _ _
@[simp] theorem State.setDom_ptp (s : State) (d v : Nat) : (s.setDom d v).ptp = s.ptp := s.wr_ptp _ _ _
@[simp] theorem State.setDom_departures (s : State) (d v : Nat) : (s.setDom d v).departures = s.departures := s.wr_departures _ _ _
@[simp] theorem State.setDom_synce (s : State) (d v : Nat) : (s.setDom d v).synce = s.synce := s.wr_synce _ _ _
@[simp] theorem State.setDom_tio (s : State) (d v : Nat) : (s.setDom d v).tio = s.tio := s.wr_tio _ _ _
@[simp] theorem State.setDom_clocks (s : State) (d v : Nat) : (s.setDom d v).clocks = s.clocks := s.wr_clocks _ _ _
@[simp] theorem State.setDom_chans (s : State) (d v : Nat) : (s.setDom d v).chans = s.chans := s.wr_chans _ _ _
@[simp] theorem State.setDom_bufs (s : State) (d v : Nat) : (s.setDom d v).bufs = s.bufs := s.wr_bufs _ _ _
@[simp] theorem State.setDom_hodMem (s : State) (d v : Nat) : (s.setDom d v).hodMem = s.hodMem := s.wr_hodMem _ _ _
@[simp] theorem State.setDom_bufCaches (s : State) (d v : Nat) : (s.setDom d v).bufCaches = s.bufCaches := s.wr_bufCaches _ _ _
@[simp] theorem State.setDom_recv (s : State) (d v : Nat) : (s.setDom d v).recv = s.recv := s.wr_recv _ _ _
@[simp] theorem State.setDom_quietNh (s : State) (d v : Nat) : (s.setDom d v).quietNh = s.quietNh := s.wr_quietNh _ _ _
@[simp] theorem State.setDom_quietRw (s : State) (d v : Nat) : (s.setDom d v).quietRw = s.quietRw := s.wr_quietRw _ _ _
@[simp] theorem State.setDom_physNh (s : State) (d v : Nat) : (s.setDom d v).physNh = s.physNh := s.wr_physNh _ _ _
@[simp] theorem State.setDom_physRw (s : State) (d v : Nat) : (s.setDom d v).physRw = s.physRw := s.wr_physRw _ _ _
@[simp] theorem State.setDom_seed (s : State) (d v : Nat) : (s.setDom d v).seed = s.seed := s.wr_seed _ _ _
@[simp] theorem State.setDom_hostTab (s : State) (d v : Nat) : (s.setDom d v).hostTab = s.hostTab := s.wr_hostTab _ _ _
@[simp] theorem State.setDom_filterEpoch (s : State) (d v : Nat) : (s.setDom d v).filterEpoch = s.filterEpoch := s.wr_filterEpoch _ _ _
@[simp] theorem State.setDom_banks (s : State) (d v : Nat) : (s.setDom d v).banks = s.banks := s.wr_banks _ _ _
@[simp] theorem State.setDom_sustain (s : State) (d v : Nat) : (s.setDom d v).sustain = s.sustain := s.wr_sustain _ _ _
@[simp] theorem State.setDom_sessions (s : State) (d v : Nat) : (s.setDom d v).sessions = s.sessions := s.wr_sessions _ _ _
@[simp] theorem State.setDom_issued (s : State) (d v : Nat) : (s.setDom d v).issued = s.issued := s.wr_issued _ _ _
@[simp] theorem State.setDom_owed (s : State) (d v : Nat) : (s.setDom d v).owed = s.owed := s.wr_owed _ _ _
@[simp] theorem State.setDom_out (s : State) (d v : Nat) : (s.setDom d v).out = s.out := s.wr_out _ _ _
@[simp] theorem State.setDom_enrolBar (s : State) (d v : Nat) : (s.setDom d v).enrolBar = s.enrolBar := s.wr_enrolBar _ _ _
@[simp] theorem State.setDom_authFails (s : State) (d v : Nat) : (s.setDom d v).authFails = s.authFails := s.wr_authFails _ _ _
@[simp] theorem State.setDom_committing (s : State) (d v : Nat) : (s.setDom d v).committing = s.committing := s.wr_committing _ _ _
@[simp] theorem State.setDom_latest (s : State) (d v : Nat) : (s.setDom d v).latest = s.latest := s.wr_latest _ _ _
@[simp] theorem State.setDom_latestSlot (s : State) (d v : Nat) : (s.setDom d v).latestSlot = s.latestSlot := s.wr_latestSlot _ _ _
@[simp] theorem State.setDom_ruleAt (s : State) (d v : Nat) : (s.setDom d v).ruleAt = s.ruleAt := s.wr_ruleAt _ _ _
@[simp] theorem State.setDom_flash (s : State) (d v : Nat) : (s.setDom d v).flash = s.flash := s.wr_flash _ _ _
@[simp] theorem State.setDom_power (s : State) (d v : Nat) : (s.setDom d v).power = s.power := s.wr_power _ _ _
@[simp] theorem State.setDom_latch (s : State) (d v : Nat) : (s.setDom d v).latch = s.latch := s.wr_latch _ _ _
@[simp] theorem State.setDom_cart (s : State) (d v : Nat) : (s.setDom d v).cart = s.cart := s.wr_cart _ _ _
@[simp] theorem State.setDom_bay (s : State) (d v : Nat) : (s.setDom d v).bay = s.bay := s.wr_bay _ _ _
@[simp] theorem State.setDom_domOps (s : State) (d v : Nat) : (s.setDom d v).domOps = s.domOps := s.wr_domOps _ _ _
@[simp] theorem State.setDom_reseed (s : State) (d v : Nat) : (s.setDom d v).reseed = s.reseed := s.wr_reseed _ _ _
@[simp] theorem State.setDom_ctls (s : State) (d v : Nat) : (s.setDom d v).ctls = s.ctls := s.wr_ctls _ _ _
@[simp] theorem State.setDom_silence (s : State) (d v : Nat) : (s.setDom d v).silence = s.silence := s.wr_silence _ _ _
@[simp] theorem State.setDom_swap (s : State) (d v : Nat) : (s.setDom d v).swap = s.swap := s.wr_swap _ _ _
@[simp] theorem State.setDom_swapTries (s : State) (d v : Nat) : (s.setDom d v).swapTries = s.swapTries := s.wr_swapTries _ _ _
@[simp] theorem State.setDom_swapAt (s : State) (d v : Nat) : (s.setDom d v).swapAt = s.swapAt := s.wr_swapAt _ _ _
@[simp] theorem State.setDom_swapDay (s : State) (d v : Nat) : (s.setDom d v).swapDay = s.swapDay := s.wr_swapDay _ _ _
@[simp] theorem State.setDom_resync (s : State) (d v : Nat) : (s.setDom d v).resync = s.resync := s.wr_resync _ _ _
@[simp] theorem State.setDom_fw (s : State) (d v : Nat) : (s.setDom d v).fw = s.fw := s.wr_fw _ _ _
@[simp] theorem State.setDom_flushes (s : State) (d v : Nat) : (s.setDom d v).flushes = s.flushes := s.wr_flushes _ _ _
@[simp] theorem State.setDom_bulks (s : State) (d v : Nat) : (s.setDom d v).bulks = s.bulks := s.wr_bulks _ _ _
@[simp] theorem State.setDom_snaps (s : State) (d v : Nat) : (s.setDom d v).snaps = s.snaps := s.wr_snaps _ _ _
@[simp] theorem State.setDom_recordAt (s : State) (d v : Nat) : (s.setDom d v).recordAt = s.recordAt := s.wr_recordAt _ _ _
@[simp] theorem State.setDom_tx (s : State) (d v : Nat) : (s.setDom d v).tx = s.tx := s.wr_tx _ _ _

/-! ### `State.updPort` -/

@[simp] theorem State.updPort_pending (s : State) (i : Nat) (f : Port → Port) : (s.updPort i f).pending = s.pending := rfl
@[simp] theorem State.updPort_rc (s : State) (i : Nat) (f : Port → Port) : (s.updPort i f).rc = s.rc := rfl
@[simp] theorem State.updPort_clk (s : State) (i : Nat) (f : Port → Port) : (s.updPort i f).clk = s.clk := rfl
@[simp] theorem State.updPort_regs (s : State) (i : Nat) (f : Port → Port) : (s.updPort i f).regs = s.regs := rfl
@[simp] theorem State.updPort_faults (s : State) (i : Nat) (f : Port → Port) : (s.updPort i f).faults = s.faults := rfl
@[simp] theorem State.updPort_drawn (s : State) (i : Nat) (f : Port → Port) : (s.updPort i f).drawn = s.drawn := rfl
@[simp] theorem State.updPort_slots (s : State) (i : Nat) (f : Port → Port) : (s.updPort i f).slots = s.slots := rfl
@[simp] theorem State.updPort_groups (s : State) (i : Nat) (f : Port → Port) : (s.updPort i f).groups = s.groups := rfl
@[simp] theorem State.updPort_pa (s : State) (i : Nat) (f : Port → Port) : (s.updPort i f).pa = s.pa := rfl
@[simp] theorem State.updPort_pb (s : State) (i : Nat) (f : Port → Port) : (s.updPort i f).pb = s.pb := rfl
@[simp] theorem State.updPort_courses (s : State) (i : Nat) (f : Port → Port) : (s.updPort i f).courses = s.courses := rfl
@[simp] theorem State.updPort_joins (s : State) (i : Nat) (f : Port → Port) : (s.updPort i f).joins = s.joins := rfl
@[simp] theorem State.updPort_bonds (s : State) (i : Nat) (f : Port → Port) : (s.updPort i f).bonds = s.bonds := rfl
@[simp] theorem State.updPort_recovery (s : State) (i : Nat) (f : Port → Port) : (s.updPort i f).recovery = s.recovery := rfl
@[simp] theorem State.updPort_judge (s : State) (i : Nat) (f : Port → Port) : (s.updPort i f).judge = s.judge := rfl
@[simp] theorem State.updPort_leaving (s : State) (i : Nat) (f : Port → Port) : (s.updPort i f).leaving = s.leaving := rfl
@[simp] theorem State.updPort_gateChange (s : State) (i : Nat) (f : Port → Port) : (s.updPort i f).gateChange = s.gateChange := rfl
@[simp] theorem State.updPort_gateEdge (s : State) (i : Nat) (f : Port → Port) : (s.updPort i f).gateEdge = s.gateEdge := rfl
@[simp] theorem State.updPort_heldTicks (s : State) (i : Nat) (f : Port → Port) : (s.updPort i f).heldTicks = s.heldTicks := rfl
@[simp] theorem State.updPort_time (s : State) (i : Nat) (f : Port → Port) : (s.updPort i f).time = s.time := rfl
@[simp] theorem State.updPort_servo (s : State) (i : Nat) (f : Port → Port) : (s.updPort i f).servo = s.servo := rfl
@[simp] theorem State.updPort_gnss (s : State) (i : Nat) (f : Port → Port) : (s.updPort i f).gnss = s.gnss := rfl
@[simp] theorem State.updPort_ptp (s : State) (i : Nat) (f : Port → Port) : (s.updPort i f).ptp = s.ptp := rfl
@[simp] theorem State.updPort_departures (s : State) (i : Nat) (f : Port → Port) : (s.updPort i f).departures = s.departures := rfl
@[simp] theorem State.updPort_synce (s : State) (i : Nat) (f : Port → Port) : (s.updPort i f).synce = s.synce := rfl
@[simp] theorem State.updPort_tio (s : State) (i : Nat) (f : Port → Port) : (s.updPort i f).tio = s.tio := rfl
@[simp] theorem State.updPort_clocks (s : State) (i : Nat) (f : Port → Port) : (s.updPort i f).clocks = s.clocks := rfl
@[simp] theorem State.updPort_chans (s : State) (i : Nat) (f : Port → Port) : (s.updPort i f).chans = s.chans := rfl
@[simp] theorem State.updPort_bufs (s : State) (i : Nat) (f : Port → Port) : (s.updPort i f).bufs = s.bufs := rfl
@[simp] theorem State.updPort_hodMem (s : State) (i : Nat) (f : Port → Port) : (s.updPort i f).hodMem = s.hodMem := rfl
@[simp] theorem State.updPort_bufCaches (s : State) (i : Nat) (f : Port → Port) : (s.updPort i f).bufCaches = s.bufCaches := rfl
@[simp] theorem State.updPort_recv (s : State) (i : Nat) (f : Port → Port) : (s.updPort i f).recv = s.recv := rfl
@[simp] theorem State.updPort_quietNh (s : State) (i : Nat) (f : Port → Port) : (s.updPort i f).quietNh = s.quietNh := rfl
@[simp] theorem State.updPort_quietRw (s : State) (i : Nat) (f : Port → Port) : (s.updPort i f).quietRw = s.quietRw := rfl
@[simp] theorem State.updPort_physNh (s : State) (i : Nat) (f : Port → Port) : (s.updPort i f).physNh = s.physNh := rfl
@[simp] theorem State.updPort_physRw (s : State) (i : Nat) (f : Port → Port) : (s.updPort i f).physRw = s.physRw := rfl
@[simp] theorem State.updPort_seed (s : State) (i : Nat) (f : Port → Port) : (s.updPort i f).seed = s.seed := rfl
@[simp] theorem State.updPort_hostTab (s : State) (i : Nat) (f : Port → Port) : (s.updPort i f).hostTab = s.hostTab := rfl
@[simp] theorem State.updPort_filterEpoch (s : State) (i : Nat) (f : Port → Port) : (s.updPort i f).filterEpoch = s.filterEpoch := rfl
@[simp] theorem State.updPort_banks (s : State) (i : Nat) (f : Port → Port) : (s.updPort i f).banks = s.banks := rfl
@[simp] theorem State.updPort_sustain (s : State) (i : Nat) (f : Port → Port) : (s.updPort i f).sustain = s.sustain := rfl
@[simp] theorem State.updPort_sessions (s : State) (i : Nat) (f : Port → Port) : (s.updPort i f).sessions = s.sessions := rfl
@[simp] theorem State.updPort_issued (s : State) (i : Nat) (f : Port → Port) : (s.updPort i f).issued = s.issued := rfl
@[simp] theorem State.updPort_owed (s : State) (i : Nat) (f : Port → Port) : (s.updPort i f).owed = s.owed := rfl
@[simp] theorem State.updPort_out (s : State) (i : Nat) (f : Port → Port) : (s.updPort i f).out = s.out := rfl
@[simp] theorem State.updPort_enrolBar (s : State) (i : Nat) (f : Port → Port) : (s.updPort i f).enrolBar = s.enrolBar := rfl
@[simp] theorem State.updPort_authFails (s : State) (i : Nat) (f : Port → Port) : (s.updPort i f).authFails = s.authFails := rfl
@[simp] theorem State.updPort_committing (s : State) (i : Nat) (f : Port → Port) : (s.updPort i f).committing = s.committing := rfl
@[simp] theorem State.updPort_latest (s : State) (i : Nat) (f : Port → Port) : (s.updPort i f).latest = s.latest := rfl
@[simp] theorem State.updPort_latestSlot (s : State) (i : Nat) (f : Port → Port) : (s.updPort i f).latestSlot = s.latestSlot := rfl
@[simp] theorem State.updPort_ruleAt (s : State) (i : Nat) (f : Port → Port) : (s.updPort i f).ruleAt = s.ruleAt := rfl
@[simp] theorem State.updPort_flash (s : State) (i : Nat) (f : Port → Port) : (s.updPort i f).flash = s.flash := rfl
@[simp] theorem State.updPort_power (s : State) (i : Nat) (f : Port → Port) : (s.updPort i f).power = s.power := rfl
@[simp] theorem State.updPort_latch (s : State) (i : Nat) (f : Port → Port) : (s.updPort i f).latch = s.latch := rfl
@[simp] theorem State.updPort_cart (s : State) (i : Nat) (f : Port → Port) : (s.updPort i f).cart = s.cart := rfl
@[simp] theorem State.updPort_bay (s : State) (i : Nat) (f : Port → Port) : (s.updPort i f).bay = s.bay := rfl
@[simp] theorem State.updPort_domOps (s : State) (i : Nat) (f : Port → Port) : (s.updPort i f).domOps = s.domOps := rfl
@[simp] theorem State.updPort_reseed (s : State) (i : Nat) (f : Port → Port) : (s.updPort i f).reseed = s.reseed := rfl
@[simp] theorem State.updPort_ctls (s : State) (i : Nat) (f : Port → Port) : (s.updPort i f).ctls = s.ctls := rfl
@[simp] theorem State.updPort_silence (s : State) (i : Nat) (f : Port → Port) : (s.updPort i f).silence = s.silence := rfl
@[simp] theorem State.updPort_swap (s : State) (i : Nat) (f : Port → Port) : (s.updPort i f).swap = s.swap := rfl
@[simp] theorem State.updPort_swapTries (s : State) (i : Nat) (f : Port → Port) : (s.updPort i f).swapTries = s.swapTries := rfl
@[simp] theorem State.updPort_swapAt (s : State) (i : Nat) (f : Port → Port) : (s.updPort i f).swapAt = s.swapAt := rfl
@[simp] theorem State.updPort_swapDay (s : State) (i : Nat) (f : Port → Port) : (s.updPort i f).swapDay = s.swapDay := rfl
@[simp] theorem State.updPort_resync (s : State) (i : Nat) (f : Port → Port) : (s.updPort i f).resync = s.resync := rfl
@[simp] theorem State.updPort_fw (s : State) (i : Nat) (f : Port → Port) : (s.updPort i f).fw = s.fw := rfl
@[simp] theorem State.updPort_flushes (s : State) (i : Nat) (f : Port → Port) : (s.updPort i f).flushes = s.flushes := rfl
@[simp] theorem State.updPort_bulks (s : State) (i : Nat) (f : Port → Port) : (s.updPort i f).bulks = s.bulks := rfl
@[simp] theorem State.updPort_snaps (s : State) (i : Nat) (f : Port → Port) : (s.updPort i f).snaps = s.snaps := rfl
@[simp] theorem State.updPort_recordAt (s : State) (i : Nat) (f : Port → Port) : (s.updPort i f).recordAt = s.recordAt := rfl
@[simp] theorem State.updPort_tx (s : State) (i : Nat) (f : Port → Port) : (s.updPort i f).tx = s.tx := rfl

/-! ### `State.updGroup` -/

@[simp] theorem State.updGroup_pending (s : State) (g : Nat) (f : PortGroup → PortGroup) : (s.updGroup g f).pending = s.pending := rfl
@[simp] theorem State.updGroup_rc (s : State) (g : Nat) (f : PortGroup → PortGroup) : (s.updGroup g f).rc = s.rc := rfl
@[simp] theorem State.updGroup_clk (s : State) (g : Nat) (f : PortGroup → PortGroup) : (s.updGroup g f).clk = s.clk := rfl
@[simp] theorem State.updGroup_regs (s : State) (g : Nat) (f : PortGroup → PortGroup) : (s.updGroup g f).regs = s.regs := rfl
@[simp] theorem State.updGroup_faults (s : State) (g : Nat) (f : PortGroup → PortGroup) : (s.updGroup g f).faults = s.faults := rfl
@[simp] theorem State.updGroup_drawn (s : State) (g : Nat) (f : PortGroup → PortGroup) : (s.updGroup g f).drawn = s.drawn := rfl
@[simp] theorem State.updGroup_slots (s : State) (g : Nat) (f : PortGroup → PortGroup) : (s.updGroup g f).slots = s.slots := rfl
@[simp] theorem State.updGroup_ports (s : State) (g : Nat) (f : PortGroup → PortGroup) : (s.updGroup g f).ports = s.ports := rfl
@[simp] theorem State.updGroup_pa (s : State) (g : Nat) (f : PortGroup → PortGroup) : (s.updGroup g f).pa = s.pa := rfl
@[simp] theorem State.updGroup_pb (s : State) (g : Nat) (f : PortGroup → PortGroup) : (s.updGroup g f).pb = s.pb := rfl
@[simp] theorem State.updGroup_courses (s : State) (g : Nat) (f : PortGroup → PortGroup) : (s.updGroup g f).courses = s.courses := rfl
@[simp] theorem State.updGroup_joins (s : State) (g : Nat) (f : PortGroup → PortGroup) : (s.updGroup g f).joins = s.joins := rfl
@[simp] theorem State.updGroup_bonds (s : State) (g : Nat) (f : PortGroup → PortGroup) : (s.updGroup g f).bonds = s.bonds := rfl
@[simp] theorem State.updGroup_recovery (s : State) (g : Nat) (f : PortGroup → PortGroup) : (s.updGroup g f).recovery = s.recovery := rfl
@[simp] theorem State.updGroup_judge (s : State) (g : Nat) (f : PortGroup → PortGroup) : (s.updGroup g f).judge = s.judge := rfl
@[simp] theorem State.updGroup_leaving (s : State) (g : Nat) (f : PortGroup → PortGroup) : (s.updGroup g f).leaving = s.leaving := rfl
@[simp] theorem State.updGroup_gateChange (s : State) (g : Nat) (f : PortGroup → PortGroup) : (s.updGroup g f).gateChange = s.gateChange := rfl
@[simp] theorem State.updGroup_gateEdge (s : State) (g : Nat) (f : PortGroup → PortGroup) : (s.updGroup g f).gateEdge = s.gateEdge := rfl
@[simp] theorem State.updGroup_heldTicks (s : State) (g : Nat) (f : PortGroup → PortGroup) : (s.updGroup g f).heldTicks = s.heldTicks := rfl
@[simp] theorem State.updGroup_time (s : State) (g : Nat) (f : PortGroup → PortGroup) : (s.updGroup g f).time = s.time := rfl
@[simp] theorem State.updGroup_servo (s : State) (g : Nat) (f : PortGroup → PortGroup) : (s.updGroup g f).servo = s.servo := rfl
@[simp] theorem State.updGroup_gnss (s : State) (g : Nat) (f : PortGroup → PortGroup) : (s.updGroup g f).gnss = s.gnss := rfl
@[simp] theorem State.updGroup_ptp (s : State) (g : Nat) (f : PortGroup → PortGroup) : (s.updGroup g f).ptp = s.ptp := rfl
@[simp] theorem State.updGroup_departures (s : State) (g : Nat) (f : PortGroup → PortGroup) : (s.updGroup g f).departures = s.departures := rfl
@[simp] theorem State.updGroup_synce (s : State) (g : Nat) (f : PortGroup → PortGroup) : (s.updGroup g f).synce = s.synce := rfl
@[simp] theorem State.updGroup_tio (s : State) (g : Nat) (f : PortGroup → PortGroup) : (s.updGroup g f).tio = s.tio := rfl
@[simp] theorem State.updGroup_clocks (s : State) (g : Nat) (f : PortGroup → PortGroup) : (s.updGroup g f).clocks = s.clocks := rfl
@[simp] theorem State.updGroup_chans (s : State) (g : Nat) (f : PortGroup → PortGroup) : (s.updGroup g f).chans = s.chans := rfl
@[simp] theorem State.updGroup_bufs (s : State) (g : Nat) (f : PortGroup → PortGroup) : (s.updGroup g f).bufs = s.bufs := rfl
@[simp] theorem State.updGroup_hodMem (s : State) (g : Nat) (f : PortGroup → PortGroup) : (s.updGroup g f).hodMem = s.hodMem := rfl
@[simp] theorem State.updGroup_bufCaches (s : State) (g : Nat) (f : PortGroup → PortGroup) : (s.updGroup g f).bufCaches = s.bufCaches := rfl
@[simp] theorem State.updGroup_recv (s : State) (g : Nat) (f : PortGroup → PortGroup) : (s.updGroup g f).recv = s.recv := rfl
@[simp] theorem State.updGroup_quietNh (s : State) (g : Nat) (f : PortGroup → PortGroup) : (s.updGroup g f).quietNh = s.quietNh := rfl
@[simp] theorem State.updGroup_quietRw (s : State) (g : Nat) (f : PortGroup → PortGroup) : (s.updGroup g f).quietRw = s.quietRw := rfl
@[simp] theorem State.updGroup_physNh (s : State) (g : Nat) (f : PortGroup → PortGroup) : (s.updGroup g f).physNh = s.physNh := rfl
@[simp] theorem State.updGroup_physRw (s : State) (g : Nat) (f : PortGroup → PortGroup) : (s.updGroup g f).physRw = s.physRw := rfl
@[simp] theorem State.updGroup_seed (s : State) (g : Nat) (f : PortGroup → PortGroup) : (s.updGroup g f).seed = s.seed := rfl
@[simp] theorem State.updGroup_hostTab (s : State) (g : Nat) (f : PortGroup → PortGroup) : (s.updGroup g f).hostTab = s.hostTab := rfl
@[simp] theorem State.updGroup_filterEpoch (s : State) (g : Nat) (f : PortGroup → PortGroup) : (s.updGroup g f).filterEpoch = s.filterEpoch := rfl
@[simp] theorem State.updGroup_banks (s : State) (g : Nat) (f : PortGroup → PortGroup) : (s.updGroup g f).banks = s.banks := rfl
@[simp] theorem State.updGroup_sustain (s : State) (g : Nat) (f : PortGroup → PortGroup) : (s.updGroup g f).sustain = s.sustain := rfl
@[simp] theorem State.updGroup_sessions (s : State) (g : Nat) (f : PortGroup → PortGroup) : (s.updGroup g f).sessions = s.sessions := rfl
@[simp] theorem State.updGroup_issued (s : State) (g : Nat) (f : PortGroup → PortGroup) : (s.updGroup g f).issued = s.issued := rfl
@[simp] theorem State.updGroup_owed (s : State) (g : Nat) (f : PortGroup → PortGroup) : (s.updGroup g f).owed = s.owed := rfl
@[simp] theorem State.updGroup_out (s : State) (g : Nat) (f : PortGroup → PortGroup) : (s.updGroup g f).out = s.out := rfl
@[simp] theorem State.updGroup_enrolBar (s : State) (g : Nat) (f : PortGroup → PortGroup) : (s.updGroup g f).enrolBar = s.enrolBar := rfl
@[simp] theorem State.updGroup_authFails (s : State) (g : Nat) (f : PortGroup → PortGroup) : (s.updGroup g f).authFails = s.authFails := rfl
@[simp] theorem State.updGroup_committing (s : State) (g : Nat) (f : PortGroup → PortGroup) : (s.updGroup g f).committing = s.committing := rfl
@[simp] theorem State.updGroup_latest (s : State) (g : Nat) (f : PortGroup → PortGroup) : (s.updGroup g f).latest = s.latest := rfl
@[simp] theorem State.updGroup_latestSlot (s : State) (g : Nat) (f : PortGroup → PortGroup) : (s.updGroup g f).latestSlot = s.latestSlot := rfl
@[simp] theorem State.updGroup_ruleAt (s : State) (g : Nat) (f : PortGroup → PortGroup) : (s.updGroup g f).ruleAt = s.ruleAt := rfl
@[simp] theorem State.updGroup_flash (s : State) (g : Nat) (f : PortGroup → PortGroup) : (s.updGroup g f).flash = s.flash := rfl
@[simp] theorem State.updGroup_power (s : State) (g : Nat) (f : PortGroup → PortGroup) : (s.updGroup g f).power = s.power := rfl
@[simp] theorem State.updGroup_latch (s : State) (g : Nat) (f : PortGroup → PortGroup) : (s.updGroup g f).latch = s.latch := rfl
@[simp] theorem State.updGroup_cart (s : State) (g : Nat) (f : PortGroup → PortGroup) : (s.updGroup g f).cart = s.cart := rfl
@[simp] theorem State.updGroup_bay (s : State) (g : Nat) (f : PortGroup → PortGroup) : (s.updGroup g f).bay = s.bay := rfl
@[simp] theorem State.updGroup_domOps (s : State) (g : Nat) (f : PortGroup → PortGroup) : (s.updGroup g f).domOps = s.domOps := rfl
@[simp] theorem State.updGroup_reseed (s : State) (g : Nat) (f : PortGroup → PortGroup) : (s.updGroup g f).reseed = s.reseed := rfl
@[simp] theorem State.updGroup_ctls (s : State) (g : Nat) (f : PortGroup → PortGroup) : (s.updGroup g f).ctls = s.ctls := rfl
@[simp] theorem State.updGroup_silence (s : State) (g : Nat) (f : PortGroup → PortGroup) : (s.updGroup g f).silence = s.silence := rfl
@[simp] theorem State.updGroup_swap (s : State) (g : Nat) (f : PortGroup → PortGroup) : (s.updGroup g f).swap = s.swap := rfl
@[simp] theorem State.updGroup_swapTries (s : State) (g : Nat) (f : PortGroup → PortGroup) : (s.updGroup g f).swapTries = s.swapTries := rfl
@[simp] theorem State.updGroup_swapAt (s : State) (g : Nat) (f : PortGroup → PortGroup) : (s.updGroup g f).swapAt = s.swapAt := rfl
@[simp] theorem State.updGroup_swapDay (s : State) (g : Nat) (f : PortGroup → PortGroup) : (s.updGroup g f).swapDay = s.swapDay := rfl
@[simp] theorem State.updGroup_resync (s : State) (g : Nat) (f : PortGroup → PortGroup) : (s.updGroup g f).resync = s.resync := rfl
@[simp] theorem State.updGroup_fw (s : State) (g : Nat) (f : PortGroup → PortGroup) : (s.updGroup g f).fw = s.fw := rfl
@[simp] theorem State.updGroup_flushes (s : State) (g : Nat) (f : PortGroup → PortGroup) : (s.updGroup g f).flushes = s.flushes := rfl
@[simp] theorem State.updGroup_bulks (s : State) (g : Nat) (f : PortGroup → PortGroup) : (s.updGroup g f).bulks = s.bulks := rfl
@[simp] theorem State.updGroup_snaps (s : State) (g : Nat) (f : PortGroup → PortGroup) : (s.updGroup g f).snaps = s.snaps := rfl
@[simp] theorem State.updGroup_recordAt (s : State) (g : Nat) (f : PortGroup → PortGroup) : (s.updGroup g f).recordAt = s.recordAt := rfl
@[simp] theorem State.updGroup_tx (s : State) (g : Nat) (f : PortGroup → PortGroup) : (s.updGroup g f).tx = s.tx := rfl

/-! ### `State.updSlot` -/

@[simp] theorem State.updSlot_pending (s : State) (v : Nat) (f : Slot → Slot) : (s.updSlot v f).pending = s.pending := rfl
@[simp] theorem State.updSlot_rc (s : State) (v : Nat) (f : Slot → Slot) : (s.updSlot v f).rc = s.rc := rfl
@[simp] theorem State.updSlot_clk (s : State) (v : Nat) (f : Slot → Slot) : (s.updSlot v f).clk = s.clk := rfl
@[simp] theorem State.updSlot_regs (s : State) (v : Nat) (f : Slot → Slot) : (s.updSlot v f).regs = s.regs := rfl
@[simp] theorem State.updSlot_faults (s : State) (v : Nat) (f : Slot → Slot) : (s.updSlot v f).faults = s.faults := rfl
@[simp] theorem State.updSlot_drawn (s : State) (v : Nat) (f : Slot → Slot) : (s.updSlot v f).drawn = s.drawn := rfl
@[simp] theorem State.updSlot_ports (s : State) (v : Nat) (f : Slot → Slot) : (s.updSlot v f).ports = s.ports := rfl
@[simp] theorem State.updSlot_groups (s : State) (v : Nat) (f : Slot → Slot) : (s.updSlot v f).groups = s.groups := rfl
@[simp] theorem State.updSlot_pa (s : State) (v : Nat) (f : Slot → Slot) : (s.updSlot v f).pa = s.pa := rfl
@[simp] theorem State.updSlot_pb (s : State) (v : Nat) (f : Slot → Slot) : (s.updSlot v f).pb = s.pb := rfl
@[simp] theorem State.updSlot_courses (s : State) (v : Nat) (f : Slot → Slot) : (s.updSlot v f).courses = s.courses := rfl
@[simp] theorem State.updSlot_joins (s : State) (v : Nat) (f : Slot → Slot) : (s.updSlot v f).joins = s.joins := rfl
@[simp] theorem State.updSlot_bonds (s : State) (v : Nat) (f : Slot → Slot) : (s.updSlot v f).bonds = s.bonds := rfl
@[simp] theorem State.updSlot_recovery (s : State) (v : Nat) (f : Slot → Slot) : (s.updSlot v f).recovery = s.recovery := rfl
@[simp] theorem State.updSlot_judge (s : State) (v : Nat) (f : Slot → Slot) : (s.updSlot v f).judge = s.judge := rfl
@[simp] theorem State.updSlot_leaving (s : State) (v : Nat) (f : Slot → Slot) : (s.updSlot v f).leaving = s.leaving := rfl
@[simp] theorem State.updSlot_gateChange (s : State) (v : Nat) (f : Slot → Slot) : (s.updSlot v f).gateChange = s.gateChange := rfl
@[simp] theorem State.updSlot_gateEdge (s : State) (v : Nat) (f : Slot → Slot) : (s.updSlot v f).gateEdge = s.gateEdge := rfl
@[simp] theorem State.updSlot_heldTicks (s : State) (v : Nat) (f : Slot → Slot) : (s.updSlot v f).heldTicks = s.heldTicks := rfl
@[simp] theorem State.updSlot_time (s : State) (v : Nat) (f : Slot → Slot) : (s.updSlot v f).time = s.time := rfl
@[simp] theorem State.updSlot_servo (s : State) (v : Nat) (f : Slot → Slot) : (s.updSlot v f).servo = s.servo := rfl
@[simp] theorem State.updSlot_gnss (s : State) (v : Nat) (f : Slot → Slot) : (s.updSlot v f).gnss = s.gnss := rfl
@[simp] theorem State.updSlot_ptp (s : State) (v : Nat) (f : Slot → Slot) : (s.updSlot v f).ptp = s.ptp := rfl
@[simp] theorem State.updSlot_departures (s : State) (v : Nat) (f : Slot → Slot) : (s.updSlot v f).departures = s.departures := rfl
@[simp] theorem State.updSlot_synce (s : State) (v : Nat) (f : Slot → Slot) : (s.updSlot v f).synce = s.synce := rfl
@[simp] theorem State.updSlot_tio (s : State) (v : Nat) (f : Slot → Slot) : (s.updSlot v f).tio = s.tio := rfl
@[simp] theorem State.updSlot_clocks (s : State) (v : Nat) (f : Slot → Slot) : (s.updSlot v f).clocks = s.clocks := rfl
@[simp] theorem State.updSlot_chans (s : State) (v : Nat) (f : Slot → Slot) : (s.updSlot v f).chans = s.chans := rfl
@[simp] theorem State.updSlot_bufs (s : State) (v : Nat) (f : Slot → Slot) : (s.updSlot v f).bufs = s.bufs := rfl
@[simp] theorem State.updSlot_hodMem (s : State) (v : Nat) (f : Slot → Slot) : (s.updSlot v f).hodMem = s.hodMem := rfl
@[simp] theorem State.updSlot_bufCaches (s : State) (v : Nat) (f : Slot → Slot) : (s.updSlot v f).bufCaches = s.bufCaches := rfl
@[simp] theorem State.updSlot_recv (s : State) (v : Nat) (f : Slot → Slot) : (s.updSlot v f).recv = s.recv := rfl
@[simp] theorem State.updSlot_quietNh (s : State) (v : Nat) (f : Slot → Slot) : (s.updSlot v f).quietNh = s.quietNh := rfl
@[simp] theorem State.updSlot_quietRw (s : State) (v : Nat) (f : Slot → Slot) : (s.updSlot v f).quietRw = s.quietRw := rfl
@[simp] theorem State.updSlot_physNh (s : State) (v : Nat) (f : Slot → Slot) : (s.updSlot v f).physNh = s.physNh := rfl
@[simp] theorem State.updSlot_physRw (s : State) (v : Nat) (f : Slot → Slot) : (s.updSlot v f).physRw = s.physRw := rfl
@[simp] theorem State.updSlot_seed (s : State) (v : Nat) (f : Slot → Slot) : (s.updSlot v f).seed = s.seed := rfl
@[simp] theorem State.updSlot_hostTab (s : State) (v : Nat) (f : Slot → Slot) : (s.updSlot v f).hostTab = s.hostTab := rfl
@[simp] theorem State.updSlot_filterEpoch (s : State) (v : Nat) (f : Slot → Slot) : (s.updSlot v f).filterEpoch = s.filterEpoch := rfl
@[simp] theorem State.updSlot_banks (s : State) (v : Nat) (f : Slot → Slot) : (s.updSlot v f).banks = s.banks := rfl
@[simp] theorem State.updSlot_sustain (s : State) (v : Nat) (f : Slot → Slot) : (s.updSlot v f).sustain = s.sustain := rfl
@[simp] theorem State.updSlot_sessions (s : State) (v : Nat) (f : Slot → Slot) : (s.updSlot v f).sessions = s.sessions := rfl
@[simp] theorem State.updSlot_issued (s : State) (v : Nat) (f : Slot → Slot) : (s.updSlot v f).issued = s.issued := rfl
@[simp] theorem State.updSlot_owed (s : State) (v : Nat) (f : Slot → Slot) : (s.updSlot v f).owed = s.owed := rfl
@[simp] theorem State.updSlot_out (s : State) (v : Nat) (f : Slot → Slot) : (s.updSlot v f).out = s.out := rfl
@[simp] theorem State.updSlot_enrolBar (s : State) (v : Nat) (f : Slot → Slot) : (s.updSlot v f).enrolBar = s.enrolBar := rfl
@[simp] theorem State.updSlot_authFails (s : State) (v : Nat) (f : Slot → Slot) : (s.updSlot v f).authFails = s.authFails := rfl
@[simp] theorem State.updSlot_committing (s : State) (v : Nat) (f : Slot → Slot) : (s.updSlot v f).committing = s.committing := rfl
@[simp] theorem State.updSlot_latest (s : State) (v : Nat) (f : Slot → Slot) : (s.updSlot v f).latest = s.latest := rfl
@[simp] theorem State.updSlot_latestSlot (s : State) (v : Nat) (f : Slot → Slot) : (s.updSlot v f).latestSlot = s.latestSlot := rfl
@[simp] theorem State.updSlot_ruleAt (s : State) (v : Nat) (f : Slot → Slot) : (s.updSlot v f).ruleAt = s.ruleAt := rfl
@[simp] theorem State.updSlot_flash (s : State) (v : Nat) (f : Slot → Slot) : (s.updSlot v f).flash = s.flash := rfl
@[simp] theorem State.updSlot_power (s : State) (v : Nat) (f : Slot → Slot) : (s.updSlot v f).power = s.power := rfl
@[simp] theorem State.updSlot_latch (s : State) (v : Nat) (f : Slot → Slot) : (s.updSlot v f).latch = s.latch := rfl
@[simp] theorem State.updSlot_cart (s : State) (v : Nat) (f : Slot → Slot) : (s.updSlot v f).cart = s.cart := rfl
@[simp] theorem State.updSlot_bay (s : State) (v : Nat) (f : Slot → Slot) : (s.updSlot v f).bay = s.bay := rfl
@[simp] theorem State.updSlot_domOps (s : State) (v : Nat) (f : Slot → Slot) : (s.updSlot v f).domOps = s.domOps := rfl
@[simp] theorem State.updSlot_reseed (s : State) (v : Nat) (f : Slot → Slot) : (s.updSlot v f).reseed = s.reseed := rfl
@[simp] theorem State.updSlot_ctls (s : State) (v : Nat) (f : Slot → Slot) : (s.updSlot v f).ctls = s.ctls := rfl
@[simp] theorem State.updSlot_silence (s : State) (v : Nat) (f : Slot → Slot) : (s.updSlot v f).silence = s.silence := rfl
@[simp] theorem State.updSlot_swap (s : State) (v : Nat) (f : Slot → Slot) : (s.updSlot v f).swap = s.swap := rfl
@[simp] theorem State.updSlot_swapTries (s : State) (v : Nat) (f : Slot → Slot) : (s.updSlot v f).swapTries = s.swapTries := rfl
@[simp] theorem State.updSlot_swapAt (s : State) (v : Nat) (f : Slot → Slot) : (s.updSlot v f).swapAt = s.swapAt := rfl
@[simp] theorem State.updSlot_swapDay (s : State) (v : Nat) (f : Slot → Slot) : (s.updSlot v f).swapDay = s.swapDay := rfl
@[simp] theorem State.updSlot_resync (s : State) (v : Nat) (f : Slot → Slot) : (s.updSlot v f).resync = s.resync := rfl
@[simp] theorem State.updSlot_fw (s : State) (v : Nat) (f : Slot → Slot) : (s.updSlot v f).fw = s.fw := rfl
@[simp] theorem State.updSlot_flushes (s : State) (v : Nat) (f : Slot → Slot) : (s.updSlot v f).flushes = s.flushes := rfl
@[simp] theorem State.updSlot_bulks (s : State) (v : Nat) (f : Slot → Slot) : (s.updSlot v f).bulks = s.bulks := rfl
@[simp] theorem State.updSlot_snaps (s : State) (v : Nat) (f : Slot → Slot) : (s.updSlot v f).snaps = s.snaps := rfl
@[simp] theorem State.updSlot_recordAt (s : State) (v : Nat) (f : Slot → Slot) : (s.updSlot v f).recordAt = s.recordAt := rfl
@[simp] theorem State.updSlot_tx (s : State) (v : Nat) (f : Slot → Slot) : (s.updSlot v f).tx = s.tx := rfl

/-! ### `State.updPl` -/

@[simp] theorem State.updPl_pending (s : State) (p : Nat) (f : Plane → Plane) : (s.updPl p f).pending = s.pending := by unfold State.updPl; split <;> rfl
@[simp] theorem State.updPl_rc (s : State) (p : Nat) (f : Plane → Plane) : (s.updPl p f).rc = s.rc := by unfold State.updPl; split <;> rfl
@[simp] theorem State.updPl_clk (s : State) (p : Nat) (f : Plane → Plane) : (s.updPl p f).clk = s.clk := by unfold State.updPl; split <;> rfl
@[simp] theorem State.updPl_regs (s : State) (p : Nat) (f : Plane → Plane) : (s.updPl p f).regs = s.regs := by unfold State.updPl; split <;> rfl
@[simp] theorem State.updPl_faults (s : State) (p : Nat) (f : Plane → Plane) : (s.updPl p f).faults = s.faults := by unfold State.updPl; split <;> rfl
@[simp] theorem State.updPl_drawn (s : State) (p : Nat) (f : Plane → Plane) : (s.updPl p f).drawn = s.drawn := by unfold State.updPl; split <;> rfl
@[simp] theorem State.updPl_slots (s : State) (p : Nat) (f : Plane → Plane) : (s.updPl p f).slots = s.slots := by unfold State.updPl; split <;> rfl
@[simp] theorem State.updPl_ports (s : State) (p : Nat) (f : Plane → Plane) : (s.updPl p f).ports = s.ports := by unfold State.updPl; split <;> rfl
@[simp] theorem State.updPl_groups (s : State) (p : Nat) (f : Plane → Plane) : (s.updPl p f).groups = s.groups := by unfold State.updPl; split <;> rfl
@[simp] theorem State.updPl_courses (s : State) (p : Nat) (f : Plane → Plane) : (s.updPl p f).courses = s.courses := by unfold State.updPl; split <;> rfl
@[simp] theorem State.updPl_joins (s : State) (p : Nat) (f : Plane → Plane) : (s.updPl p f).joins = s.joins := by unfold State.updPl; split <;> rfl
@[simp] theorem State.updPl_bonds (s : State) (p : Nat) (f : Plane → Plane) : (s.updPl p f).bonds = s.bonds := by unfold State.updPl; split <;> rfl
@[simp] theorem State.updPl_recovery (s : State) (p : Nat) (f : Plane → Plane) : (s.updPl p f).recovery = s.recovery := by unfold State.updPl; split <;> rfl
@[simp] theorem State.updPl_judge (s : State) (p : Nat) (f : Plane → Plane) : (s.updPl p f).judge = s.judge := by unfold State.updPl; split <;> rfl
@[simp] theorem State.updPl_leaving (s : State) (p : Nat) (f : Plane → Plane) : (s.updPl p f).leaving = s.leaving := by unfold State.updPl; split <;> rfl
@[simp] theorem State.updPl_gateChange (s : State) (p : Nat) (f : Plane → Plane) : (s.updPl p f).gateChange = s.gateChange := by unfold State.updPl; split <;> rfl
@[simp] theorem State.updPl_gateEdge (s : State) (p : Nat) (f : Plane → Plane) : (s.updPl p f).gateEdge = s.gateEdge := by unfold State.updPl; split <;> rfl
@[simp] theorem State.updPl_heldTicks (s : State) (p : Nat) (f : Plane → Plane) : (s.updPl p f).heldTicks = s.heldTicks := by unfold State.updPl; split <;> rfl
@[simp] theorem State.updPl_time (s : State) (p : Nat) (f : Plane → Plane) : (s.updPl p f).time = s.time := by unfold State.updPl; split <;> rfl
@[simp] theorem State.updPl_servo (s : State) (p : Nat) (f : Plane → Plane) : (s.updPl p f).servo = s.servo := by unfold State.updPl; split <;> rfl
@[simp] theorem State.updPl_gnss (s : State) (p : Nat) (f : Plane → Plane) : (s.updPl p f).gnss = s.gnss := by unfold State.updPl; split <;> rfl
@[simp] theorem State.updPl_ptp (s : State) (p : Nat) (f : Plane → Plane) : (s.updPl p f).ptp = s.ptp := by unfold State.updPl; split <;> rfl
@[simp] theorem State.updPl_departures (s : State) (p : Nat) (f : Plane → Plane) : (s.updPl p f).departures = s.departures := by unfold State.updPl; split <;> rfl
@[simp] theorem State.updPl_synce (s : State) (p : Nat) (f : Plane → Plane) : (s.updPl p f).synce = s.synce := by unfold State.updPl; split <;> rfl
@[simp] theorem State.updPl_tio (s : State) (p : Nat) (f : Plane → Plane) : (s.updPl p f).tio = s.tio := by unfold State.updPl; split <;> rfl
@[simp] theorem State.updPl_clocks (s : State) (p : Nat) (f : Plane → Plane) : (s.updPl p f).clocks = s.clocks := by unfold State.updPl; split <;> rfl
@[simp] theorem State.updPl_chans (s : State) (p : Nat) (f : Plane → Plane) : (s.updPl p f).chans = s.chans := by unfold State.updPl; split <;> rfl
@[simp] theorem State.updPl_bufs (s : State) (p : Nat) (f : Plane → Plane) : (s.updPl p f).bufs = s.bufs := by unfold State.updPl; split <;> rfl
@[simp] theorem State.updPl_hodMem (s : State) (p : Nat) (f : Plane → Plane) : (s.updPl p f).hodMem = s.hodMem := by unfold State.updPl; split <;> rfl
@[simp] theorem State.updPl_bufCaches (s : State) (p : Nat) (f : Plane → Plane) : (s.updPl p f).bufCaches = s.bufCaches := by unfold State.updPl; split <;> rfl
@[simp] theorem State.updPl_recv (s : State) (p : Nat) (f : Plane → Plane) : (s.updPl p f).recv = s.recv := by unfold State.updPl; split <;> rfl
@[simp] theorem State.updPl_quietNh (s : State) (p : Nat) (f : Plane → Plane) : (s.updPl p f).quietNh = s.quietNh := by unfold State.updPl; split <;> rfl
@[simp] theorem State.updPl_quietRw (s : State) (p : Nat) (f : Plane → Plane) : (s.updPl p f).quietRw = s.quietRw := by unfold State.updPl; split <;> rfl
@[simp] theorem State.updPl_physNh (s : State) (p : Nat) (f : Plane → Plane) : (s.updPl p f).physNh = s.physNh := by unfold State.updPl; split <;> rfl
@[simp] theorem State.updPl_physRw (s : State) (p : Nat) (f : Plane → Plane) : (s.updPl p f).physRw = s.physRw := by unfold State.updPl; split <;> rfl
@[simp] theorem State.updPl_seed (s : State) (p : Nat) (f : Plane → Plane) : (s.updPl p f).seed = s.seed := by unfold State.updPl; split <;> rfl
@[simp] theorem State.updPl_hostTab (s : State) (p : Nat) (f : Plane → Plane) : (s.updPl p f).hostTab = s.hostTab := by unfold State.updPl; split <;> rfl
@[simp] theorem State.updPl_filterEpoch (s : State) (p : Nat) (f : Plane → Plane) : (s.updPl p f).filterEpoch = s.filterEpoch := by unfold State.updPl; split <;> rfl
@[simp] theorem State.updPl_banks (s : State) (p : Nat) (f : Plane → Plane) : (s.updPl p f).banks = s.banks := by unfold State.updPl; split <;> rfl
@[simp] theorem State.updPl_sustain (s : State) (p : Nat) (f : Plane → Plane) : (s.updPl p f).sustain = s.sustain := by unfold State.updPl; split <;> rfl
@[simp] theorem State.updPl_sessions (s : State) (p : Nat) (f : Plane → Plane) : (s.updPl p f).sessions = s.sessions := by unfold State.updPl; split <;> rfl
@[simp] theorem State.updPl_issued (s : State) (p : Nat) (f : Plane → Plane) : (s.updPl p f).issued = s.issued := by unfold State.updPl; split <;> rfl
@[simp] theorem State.updPl_owed (s : State) (p : Nat) (f : Plane → Plane) : (s.updPl p f).owed = s.owed := by unfold State.updPl; split <;> rfl
@[simp] theorem State.updPl_out (s : State) (p : Nat) (f : Plane → Plane) : (s.updPl p f).out = s.out := by unfold State.updPl; split <;> rfl
@[simp] theorem State.updPl_enrolBar (s : State) (p : Nat) (f : Plane → Plane) : (s.updPl p f).enrolBar = s.enrolBar := by unfold State.updPl; split <;> rfl
@[simp] theorem State.updPl_authFails (s : State) (p : Nat) (f : Plane → Plane) : (s.updPl p f).authFails = s.authFails := by unfold State.updPl; split <;> rfl
@[simp] theorem State.updPl_committing (s : State) (p : Nat) (f : Plane → Plane) : (s.updPl p f).committing = s.committing := by unfold State.updPl; split <;> rfl
@[simp] theorem State.updPl_latest (s : State) (p : Nat) (f : Plane → Plane) : (s.updPl p f).latest = s.latest := by unfold State.updPl; split <;> rfl
@[simp] theorem State.updPl_latestSlot (s : State) (p : Nat) (f : Plane → Plane) : (s.updPl p f).latestSlot = s.latestSlot := by unfold State.updPl; split <;> rfl
@[simp] theorem State.updPl_ruleAt (s : State) (p : Nat) (f : Plane → Plane) : (s.updPl p f).ruleAt = s.ruleAt := by unfold State.updPl; split <;> rfl
@[simp] theorem State.updPl_flash (s : State) (p : Nat) (f : Plane → Plane) : (s.updPl p f).flash = s.flash := by unfold State.updPl; split <;> rfl
@[simp] theorem State.updPl_power (s : State) (p : Nat) (f : Plane → Plane) : (s.updPl p f).power = s.power := by unfold State.updPl; split <;> rfl
@[simp] theorem State.updPl_latch (s : State) (p : Nat) (f : Plane → Plane) : (s.updPl p f).latch = s.latch := by unfold State.updPl; split <;> rfl
@[simp] theorem State.updPl_cart (s : State) (p : Nat) (f : Plane → Plane) : (s.updPl p f).cart = s.cart := by unfold State.updPl; split <;> rfl
@[simp] theorem State.updPl_bay (s : State) (p : Nat) (f : Plane → Plane) : (s.updPl p f).bay = s.bay := by unfold State.updPl; split <;> rfl
@[simp] theorem State.updPl_domOps (s : State) (p : Nat) (f : Plane → Plane) : (s.updPl p f).domOps = s.domOps := by unfold State.updPl; split <;> rfl
@[simp] theorem State.updPl_reseed (s : State) (p : Nat) (f : Plane → Plane) : (s.updPl p f).reseed = s.reseed := by unfold State.updPl; split <;> rfl
@[simp] theorem State.updPl_ctls (s : State) (p : Nat) (f : Plane → Plane) : (s.updPl p f).ctls = s.ctls := by unfold State.updPl; split <;> rfl
@[simp] theorem State.updPl_silence (s : State) (p : Nat) (f : Plane → Plane) : (s.updPl p f).silence = s.silence := by unfold State.updPl; split <;> rfl
@[simp] theorem State.updPl_swap (s : State) (p : Nat) (f : Plane → Plane) : (s.updPl p f).swap = s.swap := by unfold State.updPl; split <;> rfl
@[simp] theorem State.updPl_swapTries (s : State) (p : Nat) (f : Plane → Plane) : (s.updPl p f).swapTries = s.swapTries := by unfold State.updPl; split <;> rfl
@[simp] theorem State.updPl_swapAt (s : State) (p : Nat) (f : Plane → Plane) : (s.updPl p f).swapAt = s.swapAt := by unfold State.updPl; split <;> rfl
@[simp] theorem State.updPl_swapDay (s : State) (p : Nat) (f : Plane → Plane) : (s.updPl p f).swapDay = s.swapDay := by unfold State.updPl; split <;> rfl
@[simp] theorem State.updPl_resync (s : State) (p : Nat) (f : Plane → Plane) : (s.updPl p f).resync = s.resync := by unfold State.updPl; split <;> rfl
@[simp] theorem State.updPl_fw (s : State) (p : Nat) (f : Plane → Plane) : (s.updPl p f).fw = s.fw := by unfold State.updPl; split <;> rfl
@[simp] theorem State.updPl_flushes (s : State) (p : Nat) (f : Plane → Plane) : (s.updPl p f).flushes = s.flushes := by unfold State.updPl; split <;> rfl
@[simp] theorem State.updPl_bulks (s : State) (p : Nat) (f : Plane → Plane) : (s.updPl p f).bulks = s.bulks := by unfold State.updPl; split <;> rfl
@[simp] theorem State.updPl_snaps (s : State) (p : Nat) (f : Plane → Plane) : (s.updPl p f).snaps = s.snaps := by unfold State.updPl; split <;> rfl
@[simp] theorem State.updPl_recordAt (s : State) (p : Nat) (f : Plane → Plane) : (s.updPl p f).recordAt = s.recordAt := by unfold State.updPl; split <;> rfl
@[simp] theorem State.updPl_tx (s : State) (p : Nat) (f : Plane → Plane) : (s.updPl p f).tx = s.tx := by unfold State.updPl; split <;> rfl

/-! ### `State.fault` -/

@[simp] theorem State.fault_pending (s : State) (b i : Nat) : (s.fault b i).pending = s.pending := by
  unfold State.fault; simp only; split
  · rfl
  · rw [State.wr_pending, State.stamp_pending]
@[simp] theorem State.fault_rc (s : State) (b i : Nat) : (s.fault b i).rc = s.rc := by
  unfold State.fault; simp only; split
  · rfl
  · rw [State.wr_rc, State.stamp_rc]
@[simp] theorem State.fault_clk (s : State) (b i : Nat) : (s.fault b i).clk = s.clk := by
  unfold State.fault; simp only; split
  · rfl
  · rw [State.wr_clk, State.stamp_clk]
@[simp] theorem State.fault_drawn (s : State) (b i : Nat) : (s.fault b i).drawn = s.drawn := by
  unfold State.fault; simp only; split
  · rfl
  · rw [State.wr_drawn, State.stamp_drawn]
@[simp] theorem State.fault_slots (s : State) (b i : Nat) : (s.fault b i).slots = s.slots := by
  unfold State.fault; simp only; split
  · rfl
  · rw [State.wr_slots, State.stamp_slots]
@[simp] theorem State.fault_ports (s : State) (b i : Nat) : (s.fault b i).ports = s.ports := by
  unfold State.fault; simp only; split
  · rfl
  · rw [State.wr_ports, State.stamp_ports]
@[simp] theorem State.fault_groups (s : State) (b i : Nat) : (s.fault b i).groups = s.groups := by
  unfold State.fault; simp only; split
  · rfl
  · rw [State.wr_groups, State.stamp_groups]
@[simp] theorem State.fault_pa (s : State) (b i : Nat) : (s.fault b i).pa = s.pa := by
  unfold State.fault; simp only; split
  · rfl
  · rw [State.wr_pa, State.stamp_pa]
@[simp] theorem State.fault_pb (s : State) (b i : Nat) : (s.fault b i).pb = s.pb := by
  unfold State.fault; simp only; split
  · rfl
  · rw [State.wr_pb, State.stamp_pb]
@[simp] theorem State.fault_courses (s : State) (b i : Nat) : (s.fault b i).courses = s.courses := by
  unfold State.fault; simp only; split
  · rfl
  · rw [State.wr_courses, State.stamp_courses]
@[simp] theorem State.fault_joins (s : State) (b i : Nat) : (s.fault b i).joins = s.joins := by
  unfold State.fault; simp only; split
  · rfl
  · rw [State.wr_joins, State.stamp_joins]
@[simp] theorem State.fault_bonds (s : State) (b i : Nat) : (s.fault b i).bonds = s.bonds := by
  unfold State.fault; simp only; split
  · rfl
  · rw [State.wr_bonds, State.stamp_bonds]
@[simp] theorem State.fault_recovery (s : State) (b i : Nat) : (s.fault b i).recovery = s.recovery := by
  unfold State.fault; simp only; split
  · rfl
  · rw [State.wr_recovery, State.stamp_recovery]
@[simp] theorem State.fault_judge (s : State) (b i : Nat) : (s.fault b i).judge = s.judge := by
  unfold State.fault; simp only; split
  · rfl
  · rw [State.wr_judge, State.stamp_judge]
@[simp] theorem State.fault_leaving (s : State) (b i : Nat) : (s.fault b i).leaving = s.leaving := by
  unfold State.fault; simp only; split
  · rfl
  · rw [State.wr_leaving, State.stamp_leaving]
@[simp] theorem State.fault_gateChange (s : State) (b i : Nat) : (s.fault b i).gateChange = s.gateChange := by
  unfold State.fault; simp only; split
  · rfl
  · rw [State.wr_gateChange, State.stamp_gateChange]
@[simp] theorem State.fault_gateEdge (s : State) (b i : Nat) : (s.fault b i).gateEdge = s.gateEdge := by
  unfold State.fault; simp only; split
  · rfl
  · rw [State.wr_gateEdge, State.stamp_gateEdge]
@[simp] theorem State.fault_heldTicks (s : State) (b i : Nat) : (s.fault b i).heldTicks = s.heldTicks := by
  unfold State.fault; simp only; split
  · rfl
  · rw [State.wr_heldTicks, State.stamp_heldTicks]
@[simp] theorem State.fault_time (s : State) (b i : Nat) : (s.fault b i).time = s.time := by
  unfold State.fault; simp only; split
  · rfl
  · rw [State.wr_time, State.stamp_time]
@[simp] theorem State.fault_servo (s : State) (b i : Nat) : (s.fault b i).servo = s.servo := by
  unfold State.fault; simp only; split
  · rfl
  · rw [State.wr_servo, State.stamp_servo]
@[simp] theorem State.fault_gnss (s : State) (b i : Nat) : (s.fault b i).gnss = s.gnss := by
  unfold State.fault; simp only; split
  · rfl
  · rw [State.wr_gnss, State.stamp_gnss]
@[simp] theorem State.fault_ptp (s : State) (b i : Nat) : (s.fault b i).ptp = s.ptp := by
  unfold State.fault; simp only; split
  · rfl
  · rw [State.wr_ptp, State.stamp_ptp]
@[simp] theorem State.fault_departures (s : State) (b i : Nat) : (s.fault b i).departures = s.departures := by
  unfold State.fault; simp only; split
  · rfl
  · rw [State.wr_departures, State.stamp_departures]
@[simp] theorem State.fault_synce (s : State) (b i : Nat) : (s.fault b i).synce = s.synce := by
  unfold State.fault; simp only; split
  · rfl
  · rw [State.wr_synce, State.stamp_synce]
@[simp] theorem State.fault_tio (s : State) (b i : Nat) : (s.fault b i).tio = s.tio := by
  unfold State.fault; simp only; split
  · rfl
  · rw [State.wr_tio, State.stamp_tio]
@[simp] theorem State.fault_clocks (s : State) (b i : Nat) : (s.fault b i).clocks = s.clocks := by
  unfold State.fault; simp only; split
  · rfl
  · rw [State.wr_clocks, State.stamp_clocks]
@[simp] theorem State.fault_chans (s : State) (b i : Nat) : (s.fault b i).chans = s.chans := by
  unfold State.fault; simp only; split
  · rfl
  · rw [State.wr_chans, State.stamp_chans]
@[simp] theorem State.fault_bufs (s : State) (b i : Nat) : (s.fault b i).bufs = s.bufs := by
  unfold State.fault; simp only; split
  · rfl
  · rw [State.wr_bufs, State.stamp_bufs]
@[simp] theorem State.fault_hodMem (s : State) (b i : Nat) : (s.fault b i).hodMem = s.hodMem := by
  unfold State.fault; simp only; split
  · rfl
  · rw [State.wr_hodMem, State.stamp_hodMem]
@[simp] theorem State.fault_bufCaches (s : State) (b i : Nat) : (s.fault b i).bufCaches = s.bufCaches := by
  unfold State.fault; simp only; split
  · rfl
  · rw [State.wr_bufCaches, State.stamp_bufCaches]
@[simp] theorem State.fault_recv (s : State) (b i : Nat) : (s.fault b i).recv = s.recv := by
  unfold State.fault; simp only; split
  · rfl
  · rw [State.wr_recv, State.stamp_recv]
@[simp] theorem State.fault_quietNh (s : State) (b i : Nat) : (s.fault b i).quietNh = s.quietNh := by
  unfold State.fault; simp only; split
  · rfl
  · rw [State.wr_quietNh, State.stamp_quietNh]
@[simp] theorem State.fault_quietRw (s : State) (b i : Nat) : (s.fault b i).quietRw = s.quietRw := by
  unfold State.fault; simp only; split
  · rfl
  · rw [State.wr_quietRw, State.stamp_quietRw]
@[simp] theorem State.fault_physNh (s : State) (b i : Nat) : (s.fault b i).physNh = s.physNh := by
  unfold State.fault; simp only; split
  · rfl
  · rw [State.wr_physNh, State.stamp_physNh]
@[simp] theorem State.fault_physRw (s : State) (b i : Nat) : (s.fault b i).physRw = s.physRw := by
  unfold State.fault; simp only; split
  · rfl
  · rw [State.wr_physRw, State.stamp_physRw]
@[simp] theorem State.fault_seed (s : State) (b i : Nat) : (s.fault b i).seed = s.seed := by
  unfold State.fault; simp only; split
  · rfl
  · rw [State.wr_seed, State.stamp_seed]
@[simp] theorem State.fault_hostTab (s : State) (b i : Nat) : (s.fault b i).hostTab = s.hostTab := by
  unfold State.fault; simp only; split
  · rfl
  · rw [State.wr_hostTab, State.stamp_hostTab]
@[simp] theorem State.fault_filterEpoch (s : State) (b i : Nat) : (s.fault b i).filterEpoch = s.filterEpoch := by
  unfold State.fault; simp only; split
  · rfl
  · rw [State.wr_filterEpoch, State.stamp_filterEpoch]
@[simp] theorem State.fault_banks (s : State) (b i : Nat) : (s.fault b i).banks = s.banks := by
  unfold State.fault; simp only; split
  · rfl
  · rw [State.wr_banks, State.stamp_banks]
@[simp] theorem State.fault_sustain (s : State) (b i : Nat) : (s.fault b i).sustain = s.sustain := by
  unfold State.fault; simp only; split
  · rfl
  · rw [State.wr_sustain, State.stamp_sustain]
@[simp] theorem State.fault_sessions (s : State) (b i : Nat) : (s.fault b i).sessions = s.sessions := by
  unfold State.fault; simp only; split
  · rfl
  · rw [State.wr_sessions, State.stamp_sessions]
@[simp] theorem State.fault_issued (s : State) (b i : Nat) : (s.fault b i).issued = s.issued := by
  unfold State.fault; simp only; split
  · rfl
  · rw [State.wr_issued, State.stamp_issued]
@[simp] theorem State.fault_owed (s : State) (b i : Nat) : (s.fault b i).owed = s.owed := by
  unfold State.fault; simp only; split
  · rfl
  · rw [State.wr_owed, State.stamp_owed]
@[simp] theorem State.fault_out (s : State) (b i : Nat) : (s.fault b i).out = s.out := by
  unfold State.fault; simp only; split
  · rfl
  · rw [State.wr_out, State.stamp_out]
@[simp] theorem State.fault_enrolBar (s : State) (b i : Nat) : (s.fault b i).enrolBar = s.enrolBar := by
  unfold State.fault; simp only; split
  · rfl
  · rw [State.wr_enrolBar, State.stamp_enrolBar]
@[simp] theorem State.fault_authFails (s : State) (b i : Nat) : (s.fault b i).authFails = s.authFails := by
  unfold State.fault; simp only; split
  · rfl
  · rw [State.wr_authFails, State.stamp_authFails]
@[simp] theorem State.fault_committing (s : State) (b i : Nat) : (s.fault b i).committing = s.committing := by
  unfold State.fault; simp only; split
  · rfl
  · rw [State.wr_committing, State.stamp_committing]
@[simp] theorem State.fault_latest (s : State) (b i : Nat) : (s.fault b i).latest = s.latest := by
  unfold State.fault; simp only; split
  · rfl
  · rw [State.wr_latest, State.stamp_latest]
@[simp] theorem State.fault_latestSlot (s : State) (b i : Nat) : (s.fault b i).latestSlot = s.latestSlot := by
  unfold State.fault; simp only; split
  · rfl
  · rw [State.wr_latestSlot, State.stamp_latestSlot]
@[simp] theorem State.fault_ruleAt (s : State) (b i : Nat) : (s.fault b i).ruleAt = s.ruleAt := by
  unfold State.fault; simp only; split
  · rfl
  · rw [State.wr_ruleAt, State.stamp_ruleAt]
@[simp] theorem State.fault_flash (s : State) (b i : Nat) : (s.fault b i).flash = s.flash := by
  unfold State.fault; simp only; split
  · rfl
  · rw [State.wr_flash, State.stamp_flash]
@[simp] theorem State.fault_power (s : State) (b i : Nat) : (s.fault b i).power = s.power := by
  unfold State.fault; simp only; split
  · rfl
  · rw [State.wr_power, State.stamp_power]
@[simp] theorem State.fault_latch (s : State) (b i : Nat) : (s.fault b i).latch = s.latch := by
  unfold State.fault; simp only; split
  · rfl
  · rw [State.wr_latch, State.stamp_latch]
@[simp] theorem State.fault_cart (s : State) (b i : Nat) : (s.fault b i).cart = s.cart := by
  unfold State.fault; simp only; split
  · rfl
  · rw [State.wr_cart, State.stamp_cart]
@[simp] theorem State.fault_bay (s : State) (b i : Nat) : (s.fault b i).bay = s.bay := by
  unfold State.fault; simp only; split
  · rfl
  · rw [State.wr_bay, State.stamp_bay]
@[simp] theorem State.fault_domOps (s : State) (b i : Nat) : (s.fault b i).domOps = s.domOps := by
  unfold State.fault; simp only; split
  · rfl
  · rw [State.wr_domOps, State.stamp_domOps]
@[simp] theorem State.fault_reseed (s : State) (b i : Nat) : (s.fault b i).reseed = s.reseed := by
  unfold State.fault; simp only; split
  · rfl
  · rw [State.wr_reseed, State.stamp_reseed]
@[simp] theorem State.fault_ctls (s : State) (b i : Nat) : (s.fault b i).ctls = s.ctls := by
  unfold State.fault; simp only; split
  · rfl
  · rw [State.wr_ctls, State.stamp_ctls]
@[simp] theorem State.fault_silence (s : State) (b i : Nat) : (s.fault b i).silence = s.silence := by
  unfold State.fault; simp only; split
  · rfl
  · rw [State.wr_silence, State.stamp_silence]
@[simp] theorem State.fault_swap (s : State) (b i : Nat) : (s.fault b i).swap = s.swap := by
  unfold State.fault; simp only; split
  · rfl
  · rw [State.wr_swap, State.stamp_swap]
@[simp] theorem State.fault_swapTries (s : State) (b i : Nat) : (s.fault b i).swapTries = s.swapTries := by
  unfold State.fault; simp only; split
  · rfl
  · rw [State.wr_swapTries, State.stamp_swapTries]
@[simp] theorem State.fault_swapAt (s : State) (b i : Nat) : (s.fault b i).swapAt = s.swapAt := by
  unfold State.fault; simp only; split
  · rfl
  · rw [State.wr_swapAt, State.stamp_swapAt]
@[simp] theorem State.fault_swapDay (s : State) (b i : Nat) : (s.fault b i).swapDay = s.swapDay := by
  unfold State.fault; simp only; split
  · rfl
  · rw [State.wr_swapDay, State.stamp_swapDay]
@[simp] theorem State.fault_resync (s : State) (b i : Nat) : (s.fault b i).resync = s.resync := by
  unfold State.fault; simp only; split
  · rfl
  · rw [State.wr_resync, State.stamp_resync]
@[simp] theorem State.fault_fw (s : State) (b i : Nat) : (s.fault b i).fw = s.fw := by
  unfold State.fault; simp only; split
  · rfl
  · rw [State.wr_fw, State.stamp_fw]
@[simp] theorem State.fault_flushes (s : State) (b i : Nat) : (s.fault b i).flushes = s.flushes := by
  unfold State.fault; simp only; split
  · rfl
  · rw [State.wr_flushes, State.stamp_flushes]
@[simp] theorem State.fault_bulks (s : State) (b i : Nat) : (s.fault b i).bulks = s.bulks := by
  unfold State.fault; simp only; split
  · rfl
  · rw [State.wr_bulks, State.stamp_bulks]
@[simp] theorem State.fault_snaps (s : State) (b i : Nat) : (s.fault b i).snaps = s.snaps := by
  unfold State.fault; simp only; split
  · rfl
  · rw [State.wr_snaps, State.stamp_snaps]
@[simp] theorem State.fault_recordAt (s : State) (b i : Nat) : (s.fault b i).recordAt = s.recordAt := by
  unfold State.fault; simp only; split
  · rfl
  · rw [State.wr_recordAt, State.stamp_recordAt]
@[simp] theorem State.fault_tx (s : State) (b i : Nat) : (s.fault b i).tx = s.tx := by
  unfold State.fault; simp only; split
  · rfl
  · rw [State.wr_tx, State.stamp_tx]

/-! ### Ticks -/

@[simp] theorem State.tick_clk (s : State) (n : Nat) : (s.tick n).clk = s.clk + n := rfl
@[simp] theorem State.tick_rc (s : State) (n : Nat) : (s.tick n).rc = s.tickRC n := rfl
theorem State.tickRC_running {s : State} (h : s.time.running = true) (n : Nat) : s.tickRC n = (s.rc + n) % rcModulus := by
  simp [State.tickRC, h]
theorem State.tickRC_stopped {s : State} (h : s.time.running = false) (n : Nat) : s.tickRC n = s.rc := by
  simp [State.tickRC, h]
@[simp] theorem State.tick_pl (s : State) (n p : Nat) : (s.tick n).pl p = s.pl p := rfl
@[simp] theorem State.tick_rd (s : State) (n p i : Nat) : (s.tick n).rd p i = s.rd p i := rfl
@[simp] theorem State.tick_port (s : State) (n i : Nat) : (s.tick n).port i = s.port i := rfl
@[simp] theorem State.tick_group (s : State) (n i : Nat) : (s.tick n).group i = s.group i := rfl
@[simp] theorem State.tick_slot (s : State) (n i : Nat) : (s.tick n).slot i = s.slot i := rfl
@[simp] theorem State.tick_flag (s : State) (n p i : Nat) : (s.tick n).flag p i = s.flag p i := rfl
@[simp] theorem State.tick_dom (s : State) (n d : Nat) : (s.tick n).dom d = s.dom d := rfl
@[simp] theorem State.tick_isOn (s : State) (n d : Nat) : (s.tick n).isOn d = s.isOn d := rfl
@[simp] theorem State.tick_stageAtLeast (s : State) (n k : Nat) : (s.tick n).stageAtLeast k = s.stageAtLeast k := rfl
@[simp] theorem State.tick_holder (s : State) (n : Nat) : (s.tick n).holder = s.holder := rfl
@[simp] theorem State.tick_active (s : State) (n : Nat) : (s.tick n).active = s.active := rfl
@[simp] theorem State.tick_link (s : State) (n i : Nat) : (s.tick n).link i = s.link i := rfl
@[simp] theorem State.tick_dtValid (s : State) (n : Nat) : (s.tick n).dtValid = s.dtValid := rfl
@[simp] theorem State.tick_timed (s : State) (n : Nat) : (s.tick n).timed = s.timed := rfl

/-! ### Reads after writes -/

theorem regKey_inj {p i p' i' : Nat} (hi : i < 2 ^ 32) (hi' : i' < 2 ^ 32) : regKey p i = regKey p' i' ↔ p = p' ∧ i = i' := by
  unfold regKey; omega

/-- A write is read back modulo the width of its PID. -/
@[simp] theorem State.rd_wr_same (s : State) (p i v : Nat) : (s.wr p i v).rd p i = v % 2 ^ Catalogue.width p := by
  simp only [State.rd, State.wr, regSet]
  split
  · next h => rw [Tab.get_del_same, h]
  · rw [Tab.get_set_same]

/-- A write leaves every other key alone. -/
theorem State.rd_wr_ne (s : State) {p i p' i' : Nat} (v : Nat) (h : regKey p' i' ≠ regKey p i) : (s.wr p i v).rd p' i' = s.rd p' i' := by
  simp only [State.rd, State.wr, regSet]
  split
  · rw [Tab.get_del_ne _ _ h]
  · rw [Tab.get_set_ne _ _ _ h]

/-- A write of one PID leaves the instances of another alone, where both are instances of 32 bits. -/
theorem State.rd_wr_pid (s : State) {p i p' i' : Nat} (v : Nat) (hi : i < 2 ^ 32) (hi' : i' < 2 ^ 32) (h : p' ≠ p) :
    (s.wr p i v).rd p' i' = s.rd p' i' := by
  refine s.rd_wr_ne v ?_
  intro e
  exact h ((regKey_inj hi' hi).1 e).1

@[simp] theorem State.rd_inc_same (s : State) (p i : Nat) : (s.inc p i).rd p i = (s.rd p i + 1) % 2 ^ Catalogue.width p := by
  simp [State.inc, State.incBy]

theorem State.rd_inc_ne (s : State) {p i p' i' : Nat} (h : regKey p' i' ≠ regKey p i) : (s.inc p i).rd p' i' = s.rd p' i' :=
  s.rd_wr_ne _ h

theorem State.rd_inc_pid (s : State) {p i p' i' : Nat} (hi : i < 2 ^ 32) (hi' : i' < 2 ^ 32) (h : p' ≠ p) :
    (s.inc p i).rd p' i' = s.rd p' i' := s.rd_wr_pid _ hi hi' h

@[simp] theorem State.rd_updPort (s : State) (p i k : Nat) (f : Port → Port) : (s.updPort k f).rd p i = s.rd p i := rfl
@[simp] theorem State.rd_updGroup (s : State) (p i k : Nat) (f : PortGroup → PortGroup) : (s.updGroup k f).rd p i = s.rd p i := rfl
@[simp] theorem State.rd_updSlot (s : State) (p i k : Nat) (f : Slot → Slot) : (s.updSlot k f).rd p i = s.rd p i := rfl
@[simp] theorem State.rd_updPl (s : State) (p i k : Nat) (f : Plane → Plane) : (s.updPl k f).rd p i = s.rd p i := by
  simp [State.rd]

/-! ### Ports, port groups, planes and slots after their updates -/

@[simp] theorem State.port_wr (s : State) (p i v k : Nat) : (s.wr p i v).port k = s.port k := rfl
@[simp] theorem State.group_wr (s : State) (p i v k : Nat) : (s.wr p i v).group k = s.group k := rfl
@[simp] theorem State.slot_wr (s : State) (p i v k : Nat) : (s.wr p i v).slot k = s.slot k := rfl
@[simp] theorem State.pl_wr (s : State) (p i v k : Nat) : (s.wr p i v).pl k = s.pl k := rfl
@[simp] theorem State.pl_inc (s : State) (p i k : Nat) : (s.inc p i).pl k = s.pl k := rfl
@[simp] theorem State.port_inc (s : State) (p i k : Nat) : (s.inc p i).port k = s.port k := rfl

@[simp] theorem State.port_updPort_same (s : State) (i : Nat) (f : Port → Port) : (s.updPort i f).port i = f (s.port i) := by
  simp [State.port, State.updPort]
theorem State.port_updPort_ne (s : State) {i j : Nat} (f : Port → Port) (h : j ≠ i) : (s.updPort i f).port j = s.port j := by
  simp [State.port, State.updPort, Tab.get_upd_ne _ _ _ h]
@[simp] theorem State.group_updGroup_same (s : State) (i : Nat) (f : PortGroup → PortGroup) : (s.updGroup i f).group i = f (s.group i) := by
  simp [State.group, State.updGroup]
theorem State.group_updGroup_ne (s : State) {i j : Nat} (f : PortGroup → PortGroup) (h : j ≠ i) :
    (s.updGroup i f).group j = s.group j := by
  simp [State.group, State.updGroup, Tab.get_upd_ne _ _ _ h]
@[simp] theorem State.slot_updSlot_same (s : State) (i : Nat) (f : Slot → Slot) : (s.updSlot i f).slot i = f (s.slot i) := by
  simp [State.slot, State.updSlot]
theorem State.slot_updSlot_ne (s : State) {i j : Nat} (f : Slot → Slot) (h : j ≠ i) : (s.updSlot i f).slot j = s.slot j := by
  simp [State.slot, State.updSlot, Tab.get_upd_ne _ _ _ h]
@[simp] theorem State.pl_updPl_same (s : State) (p : Nat) (f : Plane → Plane) : (s.updPl p f).pl p = f (s.pl p) := by
  unfold State.updPl State.pl; split <;> simp_all
/-- A change of one plane leaves the other alone. -/
theorem State.pl_updPl_ne (s : State) {p q : Nat} (f : Plane → Plane) (h : (p = 0) ≠ (q = 0)) : (s.updPl p f).pl q = s.pl q := by
  unfold State.updPl State.pl
  by_cases hp : p = 0 <;> by_cases hq : q = 0 <;> simp_all

/-! ### The fault record -/

/-- A fault sets its entry; the occurrence keeps the first one's time and instance, and raises the count. -/
@[simp] theorem State.faults_fault (s : State) (b i : Nat) :
    (s.fault b i).faults = Tab.set s.faults b ((Tab.get FaultEntry.clear s.faults b).occur i s.dtNow s.dtValid) := by
  unfold State.fault; simp only; split
  · rfl
  · rw [State.wr_faults, State.stamp_faults]

/-- A fault writes no parameter but PIDs 3E03h and 3E04h. -/
theorem State.rd_fault (s : State) (b i : Nat) {p k : Nat} (hk : k < 2 ^ 32) (h3 : p ≠ 0x3E03) (h4 : p ≠ 0x3E04) :
    (s.fault b i).rd p k = s.rd p k := by
  unfold State.fault
  simp only
  split
  · rfl
  · unfold State.stamp
    rw [State.rd_wr_pid _ _ (by decide) hk h4, State.rd_wr_pid _ _ (by decide) hk h3]
    rfl

theorem FaultEntry.occur_set (e : FaultEntry) (i d : Nat) (v : Bool) : (e.occur i d v).set = true := by
  unfold FaultEntry.occur; split
  · split <;> simp_all
  · rfl

/-! ### Running a command -/

/-- A command's effect is what `run` answers, with RC, the elapsed time and the queue of the tick. -/
theorem State.run_eq (s : State) (el : Nat) (f : State → State) :
    s.run el f = .next { f (s.tick el) with rc := s.tickRC el, clk := s.clk + el, pending := s.pending } := rfl

/-- An effect that writes none of the three is the answer. -/
theorem State.run_next {s : State} {el : Nat} {f : State → State} (h1 : (f (s.tick el)).rc = s.tickRC el)
    (h2 : (f (s.tick el)).clk = s.clk + el) (h3 : (f (s.tick el)).pending = s.pending) : s.run el f = .next (f (s.tick el)) := by
  rw [State.run_eq, ← h1, ← h2, ← h3]

end Sys2Proof.Machine
end

