-- ==== Sys2Proof/Laws/Mail.lean ====
section
/-! SUPPORT. What sessions, messages and answers leave alone, and how a request runs on a session that is ready for it. -/

namespace Sys2Proof.Machine

/-! ### `State.updSession` -/

@[simp] theorem State.updSession_pending (s : State) (k : Nat) (f : Session → Session) : (s.updSession k f).pending = s.pending := rfl
@[simp] theorem State.updSession_rc (s : State) (k : Nat) (f : Session → Session) : (s.updSession k f).rc = s.rc := rfl
@[simp] theorem State.updSession_clk (s : State) (k : Nat) (f : Session → Session) : (s.updSession k f).clk = s.clk := rfl
@[simp] theorem State.updSession_regs (s : State) (k : Nat) (f : Session → Session) : (s.updSession k f).regs = s.regs := rfl
@[simp] theorem State.updSession_faults (s : State) (k : Nat) (f : Session → Session) : (s.updSession k f).faults = s.faults := rfl
@[simp] theorem State.updSession_drawn (s : State) (k : Nat) (f : Session → Session) : (s.updSession k f).drawn = s.drawn := rfl
@[simp] theorem State.updSession_slots (s : State) (k : Nat) (f : Session → Session) : (s.updSession k f).slots = s.slots := rfl
@[simp] theorem State.updSession_ports (s : State) (k : Nat) (f : Session → Session) : (s.updSession k f).ports = s.ports := rfl
@[simp] theorem State.updSession_groups (s : State) (k : Nat) (f : Session → Session) : (s.updSession k f).groups = s.groups := rfl
@[simp] theorem State.updSession_pa (s : State) (k : Nat) (f : Session → Session) : (s.updSession k f).pa = s.pa := rfl
@[simp] theorem State.updSession_pb (s : State) (k : Nat) (f : Session → Session) : (s.updSession k f).pb = s.pb := rfl
@[simp] theorem State.updSession_courses (s : State) (k : Nat) (f : Session → Session) : (s.updSession k f).courses = s.courses := rfl
@[simp] theorem State.updSession_joins (s : State) (k : Nat) (f : Session → Session) : (s.updSession k f).joins = s.joins := rfl
@[simp] theorem State.updSession_bonds (s : State) (k : Nat) (f : Session → Session) : (s.updSession k f).bonds = s.bonds := rfl
@[simp] theorem State.updSession_recovery (s : State) (k : Nat) (f : Session → Session) : (s.updSession k f).recovery = s.recovery := rfl
@[simp] theorem State.updSession_judge (s : State) (k : Nat) (f : Session → Session) : (s.updSession k f).judge = s.judge := rfl
@[simp] theorem State.updSession_leaving (s : State) (k : Nat) (f : Session → Session) : (s.updSession k f).leaving = s.leaving := rfl
@[simp] theorem State.updSession_gateChange (s : State) (k : Nat) (f : Session → Session) : (s.updSession k f).gateChange = s.gateChange := rfl
@[simp] theorem State.updSession_gateEdge (s : State) (k : Nat) (f : Session → Session) : (s.updSession k f).gateEdge = s.gateEdge := rfl
@[simp] theorem State.updSession_heldTicks (s : State) (k : Nat) (f : Session → Session) : (s.updSession k f).heldTicks = s.heldTicks := rfl
@[simp] theorem State.updSession_time (s : State) (k : Nat) (f : Session → Session) : (s.updSession k f).time = s.time := rfl
@[simp] theorem State.updSession_servo (s : State) (k : Nat) (f : Session → Session) : (s.updSession k f).servo = s.servo := rfl
@[simp] theorem State.updSession_gnss (s : State) (k : Nat) (f : Session → Session) : (s.updSession k f).gnss = s.gnss := rfl
@[simp] theorem State.updSession_ptp (s : State) (k : Nat) (f : Session → Session) : (s.updSession k f).ptp = s.ptp := rfl
@[simp] theorem State.updSession_departures (s : State) (k : Nat) (f : Session → Session) : (s.updSession k f).departures = s.departures := rfl
@[simp] theorem State.updSession_synce (s : State) (k : Nat) (f : Session → Session) : (s.updSession k f).synce = s.synce := rfl
@[simp] theorem State.updSession_tio (s : State) (k : Nat) (f : Session → Session) : (s.updSession k f).tio = s.tio := rfl
@[simp] theorem State.updSession_clocks (s : State) (k : Nat) (f : Session → Session) : (s.updSession k f).clocks = s.clocks := rfl
@[simp] theorem State.updSession_chans (s : State) (k : Nat) (f : Session → Session) : (s.updSession k f).chans = s.chans := rfl
@[simp] theorem State.updSession_bufs (s : State) (k : Nat) (f : Session → Session) : (s.updSession k f).bufs = s.bufs := rfl
@[simp] theorem State.updSession_hodMem (s : State) (k : Nat) (f : Session → Session) : (s.updSession k f).hodMem = s.hodMem := rfl
@[simp] theorem State.updSession_bufCaches (s : State) (k : Nat) (f : Session → Session) : (s.updSession k f).bufCaches = s.bufCaches := rfl
@[simp] theorem State.updSession_recv (s : State) (k : Nat) (f : Session → Session) : (s.updSession k f).recv = s.recv := rfl
@[simp] theorem State.updSession_quietNh (s : State) (k : Nat) (f : Session → Session) : (s.updSession k f).quietNh = s.quietNh := rfl
@[simp] theorem State.updSession_quietRw (s : State) (k : Nat) (f : Session → Session) : (s.updSession k f).quietRw = s.quietRw := rfl
@[simp] theorem State.updSession_physNh (s : State) (k : Nat) (f : Session → Session) : (s.updSession k f).physNh = s.physNh := rfl
@[simp] theorem State.updSession_physRw (s : State) (k : Nat) (f : Session → Session) : (s.updSession k f).physRw = s.physRw := rfl
@[simp] theorem State.updSession_seed (s : State) (k : Nat) (f : Session → Session) : (s.updSession k f).seed = s.seed := rfl
@[simp] theorem State.updSession_hostTab (s : State) (k : Nat) (f : Session → Session) : (s.updSession k f).hostTab = s.hostTab := rfl
@[simp] theorem State.updSession_filterEpoch (s : State) (k : Nat) (f : Session → Session) : (s.updSession k f).filterEpoch = s.filterEpoch := rfl
@[simp] theorem State.updSession_banks (s : State) (k : Nat) (f : Session → Session) : (s.updSession k f).banks = s.banks := rfl
@[simp] theorem State.updSession_sustain (s : State) (k : Nat) (f : Session → Session) : (s.updSession k f).sustain = s.sustain := rfl
@[simp] theorem State.updSession_issued (s : State) (k : Nat) (f : Session → Session) : (s.updSession k f).issued = s.issued := rfl
@[simp] theorem State.updSession_owed (s : State) (k : Nat) (f : Session → Session) : (s.updSession k f).owed = s.owed := rfl
@[simp] theorem State.updSession_out (s : State) (k : Nat) (f : Session → Session) : (s.updSession k f).out = s.out := rfl
@[simp] theorem State.updSession_enrolBar (s : State) (k : Nat) (f : Session → Session) : (s.updSession k f).enrolBar = s.enrolBar := rfl
@[simp] theorem State.updSession_authFails (s : State) (k : Nat) (f : Session → Session) : (s.updSession k f).authFails = s.authFails := rfl
@[simp] theorem State.updSession_committing (s : State) (k : Nat) (f : Session → Session) : (s.updSession k f).committing = s.committing := rfl
@[simp] theorem State.updSession_latest (s : State) (k : Nat) (f : Session → Session) : (s.updSession k f).latest = s.latest := rfl
@[simp] theorem State.updSession_latestSlot (s : State) (k : Nat) (f : Session → Session) : (s.updSession k f).latestSlot = s.latestSlot := rfl
@[simp] theorem State.updSession_ruleAt (s : State) (k : Nat) (f : Session → Session) : (s.updSession k f).ruleAt = s.ruleAt := rfl
@[simp] theorem State.updSession_flash (s : State) (k : Nat) (f : Session → Session) : (s.updSession k f).flash = s.flash := rfl
@[simp] theorem State.updSession_power (s : State) (k : Nat) (f : Session → Session) : (s.updSession k f).power = s.power := rfl
@[simp] theorem State.updSession_latch (s : State) (k : Nat) (f : Session → Session) : (s.updSession k f).latch = s.latch := rfl
@[simp] theorem State.updSession_cart (s : State) (k : Nat) (f : Session → Session) : (s.updSession k f).cart = s.cart := rfl
@[simp] theorem State.updSession_bay (s : State) (k : Nat) (f : Session → Session) : (s.updSession k f).bay = s.bay := rfl
@[simp] theorem State.updSession_domOps (s : State) (k : Nat) (f : Session → Session) : (s.updSession k f).domOps = s.domOps := rfl
@[simp] theorem State.updSession_reseed (s : State) (k : Nat) (f : Session → Session) : (s.updSession k f).reseed = s.reseed := rfl
@[simp] theorem State.updSession_ctls (s : State) (k : Nat) (f : Session → Session) : (s.updSession k f).ctls = s.ctls := rfl
@[simp] theorem State.updSession_silence (s : State) (k : Nat) (f : Session → Session) : (s.updSession k f).silence = s.silence := rfl
@[simp] theorem State.updSession_swap (s : State) (k : Nat) (f : Session → Session) : (s.updSession k f).swap = s.swap := rfl
@[simp] theorem State.updSession_swapTries (s : State) (k : Nat) (f : Session → Session) : (s.updSession k f).swapTries = s.swapTries := rfl
@[simp] theorem State.updSession_swapAt (s : State) (k : Nat) (f : Session → Session) : (s.updSession k f).swapAt = s.swapAt := rfl
@[simp] theorem State.updSession_swapDay (s : State) (k : Nat) (f : Session → Session) : (s.updSession k f).swapDay = s.swapDay := rfl
@[simp] theorem State.updSession_resync (s : State) (k : Nat) (f : Session → Session) : (s.updSession k f).resync = s.resync := rfl
@[simp] theorem State.updSession_fw (s : State) (k : Nat) (f : Session → Session) : (s.updSession k f).fw = s.fw := rfl
@[simp] theorem State.updSession_flushes (s : State) (k : Nat) (f : Session → Session) : (s.updSession k f).flushes = s.flushes := rfl
@[simp] theorem State.updSession_bulks (s : State) (k : Nat) (f : Session → Session) : (s.updSession k f).bulks = s.bulks := rfl
@[simp] theorem State.updSession_snaps (s : State) (k : Nat) (f : Session → Session) : (s.updSession k f).snaps = s.snaps := rfl
@[simp] theorem State.updSession_recordAt (s : State) (k : Nat) (f : Session → Session) : (s.updSession k f).recordAt = s.recordAt := rfl
@[simp] theorem State.updSession_tx (s : State) (k : Nat) (f : Session → Session) : (s.updSession k f).tx = s.tx := rfl

/-! ### `State.updCtl` -/

@[simp] theorem State.updCtl_pending (s : State) (c : Nat) (f : Ctl → Ctl) : (s.updCtl c f).pending = s.pending := rfl
@[simp] theorem State.updCtl_rc (s : State) (c : Nat) (f : Ctl → Ctl) : (s.updCtl c f).rc = s.rc := rfl
@[simp] theorem State.updCtl_clk (s : State) (c : Nat) (f : Ctl → Ctl) : (s.updCtl c f).clk = s.clk := rfl
@[simp] theorem State.updCtl_regs (s : State) (c : Nat) (f : Ctl → Ctl) : (s.updCtl c f).regs = s.regs := rfl
@[simp] theorem State.updCtl_faults (s : State) (c : Nat) (f : Ctl → Ctl) : (s.updCtl c f).faults = s.faults := rfl
@[simp] theorem State.updCtl_drawn (s : State) (c : Nat) (f : Ctl → Ctl) : (s.updCtl c f).drawn = s.drawn := rfl
@[simp] theorem State.updCtl_slots (s : State) (c : Nat) (f : Ctl → Ctl) : (s.updCtl c f).slots = s.slots := rfl
@[simp] theorem State.updCtl_ports (s : State) (c : Nat) (f : Ctl → Ctl) : (s.updCtl c f).ports = s.ports := rfl
@[simp] theorem State.updCtl_groups (s : State) (c : Nat) (f : Ctl → Ctl) : (s.updCtl c f).groups = s.groups := rfl
@[simp] theorem State.updCtl_pa (s : State) (c : Nat) (f : Ctl → Ctl) : (s.updCtl c f).pa = s.pa := rfl
@[simp] theorem State.updCtl_pb (s : State) (c : Nat) (f : Ctl → Ctl) : (s.updCtl c f).pb = s.pb := rfl
@[simp] theorem State.updCtl_courses (s : State) (c : Nat) (f : Ctl → Ctl) : (s.updCtl c f).courses = s.courses := rfl
@[simp] theorem State.updCtl_joins (s : State) (c : Nat) (f : Ctl → Ctl) : (s.updCtl c f).joins = s.joins := rfl
@[simp] theorem State.updCtl_bonds (s : State) (c : Nat) (f : Ctl → Ctl) : (s.updCtl c f).bonds = s.bonds := rfl
@[simp] theorem State.updCtl_recovery (s : State) (c : Nat) (f : Ctl → Ctl) : (s.updCtl c f).recovery = s.recovery := rfl
@[simp] theorem State.updCtl_judge (s : State) (c : Nat) (f : Ctl → Ctl) : (s.updCtl c f).judge = s.judge := rfl
@[simp] theorem State.updCtl_leaving (s : State) (c : Nat) (f : Ctl → Ctl) : (s.updCtl c f).leaving = s.leaving := rfl
@[simp] theorem State.updCtl_gateChange (s : State) (c : Nat) (f : Ctl → Ctl) : (s.updCtl c f).gateChange = s.gateChange := rfl
@[simp] theorem State.updCtl_gateEdge (s : State) (c : Nat) (f : Ctl → Ctl) : (s.updCtl c f).gateEdge = s.gateEdge := rfl
@[simp] theorem State.updCtl_heldTicks (s : State) (c : Nat) (f : Ctl → Ctl) : (s.updCtl c f).heldTicks = s.heldTicks := rfl
@[simp] theorem State.updCtl_time (s : State) (c : Nat) (f : Ctl → Ctl) : (s.updCtl c f).time = s.time := rfl
@[simp] theorem State.updCtl_servo (s : State) (c : Nat) (f : Ctl → Ctl) : (s.updCtl c f).servo = s.servo := rfl
@[simp] theorem State.updCtl_gnss (s : State) (c : Nat) (f : Ctl → Ctl) : (s.updCtl c f).gnss = s.gnss := rfl
@[simp] theorem State.updCtl_ptp (s : State) (c : Nat) (f : Ctl → Ctl) : (s.updCtl c f).ptp = s.ptp := rfl
@[simp] theorem State.updCtl_departures (s : State) (c : Nat) (f : Ctl → Ctl) : (s.updCtl c f).departures = s.departures := rfl
@[simp] theorem State.updCtl_synce (s : State) (c : Nat) (f : Ctl → Ctl) : (s.updCtl c f).synce = s.synce := rfl
@[simp] theorem State.updCtl_tio (s : State) (c : Nat) (f : Ctl → Ctl) : (s.updCtl c f).tio = s.tio := rfl
@[simp] theorem State.updCtl_clocks (s : State) (c : Nat) (f : Ctl → Ctl) : (s.updCtl c f).clocks = s.clocks := rfl
@[simp] theorem State.updCtl_chans (s : State) (c : Nat) (f : Ctl → Ctl) : (s.updCtl c f).chans = s.chans := rfl
@[simp] theorem State.updCtl_bufs (s : State) (c : Nat) (f : Ctl → Ctl) : (s.updCtl c f).bufs = s.bufs := rfl
@[simp] theorem State.updCtl_hodMem (s : State) (c : Nat) (f : Ctl → Ctl) : (s.updCtl c f).hodMem = s.hodMem := rfl
@[simp] theorem State.updCtl_bufCaches (s : State) (c : Nat) (f : Ctl → Ctl) : (s.updCtl c f).bufCaches = s.bufCaches := rfl
@[simp] theorem State.updCtl_recv (s : State) (c : Nat) (f : Ctl → Ctl) : (s.updCtl c f).recv = s.recv := rfl
@[simp] theorem State.updCtl_quietNh (s : State) (c : Nat) (f : Ctl → Ctl) : (s.updCtl c f).quietNh = s.quietNh := rfl
@[simp] theorem State.updCtl_quietRw (s : State) (c : Nat) (f : Ctl → Ctl) : (s.updCtl c f).quietRw = s.quietRw := rfl
@[simp] theorem State.updCtl_physNh (s : State) (c : Nat) (f : Ctl → Ctl) : (s.updCtl c f).physNh = s.physNh := rfl
@[simp] theorem State.updCtl_physRw (s : State) (c : Nat) (f : Ctl → Ctl) : (s.updCtl c f).physRw = s.physRw := rfl
@[simp] theorem State.updCtl_seed (s : State) (c : Nat) (f : Ctl → Ctl) : (s.updCtl c f).seed = s.seed := rfl
@[simp] theorem State.updCtl_hostTab (s : State) (c : Nat) (f : Ctl → Ctl) : (s.updCtl c f).hostTab = s.hostTab := rfl
@[simp] theorem State.updCtl_filterEpoch (s : State) (c : Nat) (f : Ctl → Ctl) : (s.updCtl c f).filterEpoch = s.filterEpoch := rfl
@[simp] theorem State.updCtl_banks (s : State) (c : Nat) (f : Ctl → Ctl) : (s.updCtl c f).banks = s.banks := rfl
@[simp] theorem State.updCtl_sustain (s : State) (c : Nat) (f : Ctl → Ctl) : (s.updCtl c f).sustain = s.sustain := rfl
@[simp] theorem State.updCtl_sessions (s : State) (c : Nat) (f : Ctl → Ctl) : (s.updCtl c f).sessions = s.sessions := rfl
@[simp] theorem State.updCtl_issued (s : State) (c : Nat) (f : Ctl → Ctl) : (s.updCtl c f).issued = s.issued := rfl
@[simp] theorem State.updCtl_owed (s : State) (c : Nat) (f : Ctl → Ctl) : (s.updCtl c f).owed = s.owed := rfl
@[simp] theorem State.updCtl_out (s : State) (c : Nat) (f : Ctl → Ctl) : (s.updCtl c f).out = s.out := rfl
@[simp] theorem State.updCtl_enrolBar (s : State) (c : Nat) (f : Ctl → Ctl) : (s.updCtl c f).enrolBar = s.enrolBar := rfl
@[simp] theorem State.updCtl_authFails (s : State) (c : Nat) (f : Ctl → Ctl) : (s.updCtl c f).authFails = s.authFails := rfl
@[simp] theorem State.updCtl_committing (s : State) (c : Nat) (f : Ctl → Ctl) : (s.updCtl c f).committing = s.committing := rfl
@[simp] theorem State.updCtl_latest (s : State) (c : Nat) (f : Ctl → Ctl) : (s.updCtl c f).latest = s.latest := rfl
@[simp] theorem State.updCtl_latestSlot (s : State) (c : Nat) (f : Ctl → Ctl) : (s.updCtl c f).latestSlot = s.latestSlot := rfl
@[simp] theorem State.updCtl_ruleAt (s : State) (c : Nat) (f : Ctl → Ctl) : (s.updCtl c f).ruleAt = s.ruleAt := rfl
@[simp] theorem State.updCtl_flash (s : State) (c : Nat) (f : Ctl → Ctl) : (s.updCtl c f).flash = s.flash := rfl
@[simp] theorem State.updCtl_power (s : State) (c : Nat) (f : Ctl → Ctl) : (s.updCtl c f).power = s.power := rfl
@[simp] theorem State.updCtl_latch (s : State) (c : Nat) (f : Ctl → Ctl) : (s.updCtl c f).latch = s.latch := rfl
@[simp] theorem State.updCtl_cart (s : State) (c : Nat) (f : Ctl → Ctl) : (s.updCtl c f).cart = s.cart := rfl
@[simp] theorem State.updCtl_bay (s : State) (c : Nat) (f : Ctl → Ctl) : (s.updCtl c f).bay = s.bay := rfl
@[simp] theorem State.updCtl_domOps (s : State) (c : Nat) (f : Ctl → Ctl) : (s.updCtl c f).domOps = s.domOps := rfl
@[simp] theorem State.updCtl_reseed (s : State) (c : Nat) (f : Ctl → Ctl) : (s.updCtl c f).reseed = s.reseed := rfl
@[simp] theorem State.updCtl_silence (s : State) (c : Nat) (f : Ctl → Ctl) : (s.updCtl c f).silence = s.silence := rfl
@[simp] theorem State.updCtl_swap (s : State) (c : Nat) (f : Ctl → Ctl) : (s.updCtl c f).swap = s.swap := rfl
@[simp] theorem State.updCtl_swapTries (s : State) (c : Nat) (f : Ctl → Ctl) : (s.updCtl c f).swapTries = s.swapTries := rfl
@[simp] theorem State.updCtl_swapAt (s : State) (c : Nat) (f : Ctl → Ctl) : (s.updCtl c f).swapAt = s.swapAt := rfl
@[simp] theorem State.updCtl_swapDay (s : State) (c : Nat) (f : Ctl → Ctl) : (s.updCtl c f).swapDay = s.swapDay := rfl
@[simp] theorem State.updCtl_resync (s : State) (c : Nat) (f : Ctl → Ctl) : (s.updCtl c f).resync = s.resync := rfl
@[simp] theorem State.updCtl_fw (s : State) (c : Nat) (f : Ctl → Ctl) : (s.updCtl c f).fw = s.fw := rfl
@[simp] theorem State.updCtl_flushes (s : State) (c : Nat) (f : Ctl → Ctl) : (s.updCtl c f).flushes = s.flushes := rfl
@[simp] theorem State.updCtl_bulks (s : State) (c : Nat) (f : Ctl → Ctl) : (s.updCtl c f).bulks = s.bulks := rfl
@[simp] theorem State.updCtl_snaps (s : State) (c : Nat) (f : Ctl → Ctl) : (s.updCtl c f).snaps = s.snaps := rfl
@[simp] theorem State.updCtl_recordAt (s : State) (c : Nat) (f : Ctl → Ctl) : (s.updCtl c f).recordAt = s.recordAt := rfl
@[simp] theorem State.updCtl_tx (s : State) (c : Nat) (f : Ctl → Ctl) : (s.updCtl c f).tx = s.tx := rfl

/-! ### `State.updPower` -/

@[simp] theorem State.updPower_pending (s : State) (f : Power → Power) : (s.updPower f).pending = s.pending := rfl
@[simp] theorem State.updPower_rc (s : State) (f : Power → Power) : (s.updPower f).rc = s.rc := rfl
@[simp] theorem State.updPower_clk (s : State) (f : Power → Power) : (s.updPower f).clk = s.clk := rfl
@[simp] theorem State.updPower_regs (s : State) (f : Power → Power) : (s.updPower f).regs = s.regs := rfl
@[simp] theorem State.updPower_faults (s : State) (f : Power → Power) : (s.updPower f).faults = s.faults := rfl
@[simp] theorem State.updPower_drawn (s : State) (f : Power → Power) : (s.updPower f).drawn = s.drawn := rfl
@[simp] theorem State.updPower_slots (s : State) (f : Power → Power) : (s.updPower f).slots = s.slots := rfl
@[simp] theorem State.updPower_ports (s : State) (f : Power → Power) : (s.updPower f).ports = s.ports := rfl
@[simp] theorem State.updPower_groups (s : State) (f : Power → Power) : (s.updPower f).groups = s.groups := rfl
@[simp] theorem State.updPower_pa (s : State) (f : Power → Power) : (s.updPower f).pa = s.pa := rfl
@[simp] theorem State.updPower_pb (s : State) (f : Power → Power) : (s.updPower f).pb = s.pb := rfl
@[simp] theorem State.updPower_courses (s : State) (f : Power → Power) : (s.updPower f).courses = s.courses := rfl
@[simp] theorem State.updPower_joins (s : State) (f : Power → Power) : (s.updPower f).joins = s.joins := rfl
@[simp] theorem State.updPower_bonds (s : State) (f : Power → Power) : (s.updPower f).bonds = s.bonds := rfl
@[simp] theorem State.updPower_recovery (s : State) (f : Power → Power) : (s.updPower f).recovery = s.recovery := rfl
@[simp] theorem State.updPower_judge (s : State) (f : Power → Power) : (s.updPower f).judge = s.judge := rfl
@[simp] theorem State.updPower_leaving (s : State) (f : Power → Power) : (s.updPower f).leaving = s.leaving := rfl
@[simp] theorem State.updPower_gateChange (s : State) (f : Power → Power) : (s.updPower f).gateChange = s.gateChange := rfl
@[simp] theorem State.updPower_gateEdge (s : State) (f : Power → Power) : (s.updPower f).gateEdge = s.gateEdge := rfl
@[simp] theorem State.updPower_heldTicks (s : State) (f : Power → Power) : (s.updPower f).heldTicks = s.heldTicks := rfl
@[simp] theorem State.updPower_time (s : State) (f : Power → Power) : (s.updPower f).time = s.time := rfl
@[simp] theorem State.updPower_servo (s : State) (f : Power → Power) : (s.updPower f).servo = s.servo := rfl
@[simp] theorem State.updPower_gnss (s : State) (f : Power → Power) : (s.updPower f).gnss = s.gnss := rfl
@[simp] theorem State.updPower_ptp (s : State) (f : Power → Power) : (s.updPower f).ptp = s.ptp := rfl
@[simp] theorem State.updPower_departures (s : State) (f : Power → Power) : (s.updPower f).departures = s.departures := rfl
@[simp] theorem State.updPower_synce (s : State) (f : Power → Power) : (s.updPower f).synce = s.synce := rfl
@[simp] theorem State.updPower_tio (s : State) (f : Power → Power) : (s.updPower f).tio = s.tio := rfl
@[simp] theorem State.updPower_clocks (s : State) (f : Power → Power) : (s.updPower f).clocks = s.clocks := rfl
@[simp] theorem State.updPower_chans (s : State) (f : Power → Power) : (s.updPower f).chans = s.chans := rfl
@[simp] theorem State.updPower_bufs (s : State) (f : Power → Power) : (s.updPower f).bufs = s.bufs := rfl
@[simp] theorem State.updPower_hodMem (s : State) (f : Power → Power) : (s.updPower f).hodMem = s.hodMem := rfl
@[simp] theorem State.updPower_bufCaches (s : State) (f : Power → Power) : (s.updPower f).bufCaches = s.bufCaches := rfl
@[simp] theorem State.updPower_recv (s : State) (f : Power → Power) : (s.updPower f).recv = s.recv := rfl
@[simp] theorem State.updPower_quietNh (s : State) (f : Power → Power) : (s.updPower f).quietNh = s.quietNh := rfl
@[simp] theorem State.updPower_quietRw (s : State) (f : Power → Power) : (s.updPower f).quietRw = s.quietRw := rfl
@[simp] theorem State.updPower_physNh (s : State) (f : Power → Power) : (s.updPower f).physNh = s.physNh := rfl
@[simp] theorem State.updPower_physRw (s : State) (f : Power → Power) : (s.updPower f).physRw = s.physRw := rfl
@[simp] theorem State.updPower_seed (s : State) (f : Power → Power) : (s.updPower f).seed = s.seed := rfl
@[simp] theorem State.updPower_hostTab (s : State) (f : Power → Power) : (s.updPower f).hostTab = s.hostTab := rfl
@[simp] theorem State.updPower_filterEpoch (s : State) (f : Power → Power) : (s.updPower f).filterEpoch = s.filterEpoch := rfl
@[simp] theorem State.updPower_banks (s : State) (f : Power → Power) : (s.updPower f).banks = s.banks := rfl
@[simp] theorem State.updPower_sustain (s : State) (f : Power → Power) : (s.updPower f).sustain = s.sustain := rfl
@[simp] theorem State.updPower_sessions (s : State) (f : Power → Power) : (s.updPower f).sessions = s.sessions := rfl
@[simp] theorem State.updPower_issued (s : State) (f : Power → Power) : (s.updPower f).issued = s.issued := rfl
@[simp] theorem State.updPower_owed (s : State) (f : Power → Power) : (s.updPower f).owed = s.owed := rfl
@[simp] theorem State.updPower_out (s : State) (f : Power → Power) : (s.updPower f).out = s.out := rfl
@[simp] theorem State.updPower_enrolBar (s : State) (f : Power → Power) : (s.updPower f).enrolBar = s.enrolBar := rfl
@[simp] theorem State.updPower_authFails (s : State) (f : Power → Power) : (s.updPower f).authFails = s.authFails := rfl
@[simp] theorem State.updPower_committing (s : State) (f : Power → Power) : (s.updPower f).committing = s.committing := rfl
@[simp] theorem State.updPower_latest (s : State) (f : Power → Power) : (s.updPower f).latest = s.latest := rfl
@[simp] theorem State.updPower_latestSlot (s : State) (f : Power → Power) : (s.updPower f).latestSlot = s.latestSlot := rfl
@[simp] theorem State.updPower_ruleAt (s : State) (f : Power → Power) : (s.updPower f).ruleAt = s.ruleAt := rfl
@[simp] theorem State.updPower_flash (s : State) (f : Power → Power) : (s.updPower f).flash = s.flash := rfl
@[simp] theorem State.updPower_latch (s : State) (f : Power → Power) : (s.updPower f).latch = s.latch := rfl
@[simp] theorem State.updPower_cart (s : State) (f : Power → Power) : (s.updPower f).cart = s.cart := rfl
@[simp] theorem State.updPower_bay (s : State) (f : Power → Power) : (s.updPower f).bay = s.bay := rfl
@[simp] theorem State.updPower_domOps (s : State) (f : Power → Power) : (s.updPower f).domOps = s.domOps := rfl
@[simp] theorem State.updPower_reseed (s : State) (f : Power → Power) : (s.updPower f).reseed = s.reseed := rfl
@[simp] theorem State.updPower_ctls (s : State) (f : Power → Power) : (s.updPower f).ctls = s.ctls := rfl
@[simp] theorem State.updPower_silence (s : State) (f : Power → Power) : (s.updPower f).silence = s.silence := rfl
@[simp] theorem State.updPower_swap (s : State) (f : Power → Power) : (s.updPower f).swap = s.swap := rfl
@[simp] theorem State.updPower_swapTries (s : State) (f : Power → Power) : (s.updPower f).swapTries = s.swapTries := rfl
@[simp] theorem State.updPower_swapAt (s : State) (f : Power → Power) : (s.updPower f).swapAt = s.swapAt := rfl
@[simp] theorem State.updPower_swapDay (s : State) (f : Power → Power) : (s.updPower f).swapDay = s.swapDay := rfl
@[simp] theorem State.updPower_resync (s : State) (f : Power → Power) : (s.updPower f).resync = s.resync := rfl
@[simp] theorem State.updPower_fw (s : State) (f : Power → Power) : (s.updPower f).fw = s.fw := rfl
@[simp] theorem State.updPower_flushes (s : State) (f : Power → Power) : (s.updPower f).flushes = s.flushes := rfl
@[simp] theorem State.updPower_bulks (s : State) (f : Power → Power) : (s.updPower f).bulks = s.bulks := rfl
@[simp] theorem State.updPower_snaps (s : State) (f : Power → Power) : (s.updPower f).snaps = s.snaps := rfl
@[simp] theorem State.updPower_recordAt (s : State) (f : Power → Power) : (s.updPower f).recordAt = s.recordAt := rfl
@[simp] theorem State.updPower_tx (s : State) (f : Power → Power) : (s.updPower f).tx = s.tx := rfl

/-! ### `State.sendMsg` -/

@[simp] theorem State.sendMsg_pending (s : State) (k fl tg op st p i : Nat) (b : List Byte) : (s.sendMsg k fl tg op st p i b).pending = s.pending := by
  unfold State.sendMsg; simp only; split
  · rw [State.incBy_pending]
  · rfl
@[simp] theorem State.sendMsg_rc (s : State) (k fl tg op st p i : Nat) (b : List Byte) : (s.sendMsg k fl tg op st p i b).rc = s.rc := by
  unfold State.sendMsg; simp only; split
  · rw [State.incBy_rc]
  · rfl
@[simp] theorem State.sendMsg_clk (s : State) (k fl tg op st p i : Nat) (b : List Byte) : (s.sendMsg k fl tg op st p i b).clk = s.clk := by
  unfold State.sendMsg; simp only; split
  · rw [State.incBy_clk]
  · rfl
@[simp] theorem State.sendMsg_faults (s : State) (k fl tg op st p i : Nat) (b : List Byte) : (s.sendMsg k fl tg op st p i b).faults = s.faults := by
  unfold State.sendMsg; simp only; split
  · rw [State.incBy_faults]
  · rfl
@[simp] theorem State.sendMsg_drawn (s : State) (k fl tg op st p i : Nat) (b : List Byte) : (s.sendMsg k fl tg op st p i b).drawn = s.drawn := by
  unfold State.sendMsg; simp only; split
  · rw [State.incBy_drawn]
  · rfl
@[simp] theorem State.sendMsg_slots (s : State) (k fl tg op st p i : Nat) (b : List Byte) : (s.sendMsg k fl tg op st p i b).slots = s.slots := by
  unfold State.sendMsg; simp only; split
  · rw [State.incBy_slots]
  · rfl
@[simp] theorem State.sendMsg_ports (s : State) (k fl tg op st p i : Nat) (b : List Byte) : (s.sendMsg k fl tg op st p i b).ports = s.ports := by
  unfold State.sendMsg; simp only; split
  · rw [State.incBy_ports]
  · rfl
@[simp] theorem State.sendMsg_groups (s : State) (k fl tg op st p i : Nat) (b : List Byte) : (s.sendMsg k fl tg op st p i b).groups = s.groups := by
  unfold State.sendMsg; simp only; split
  · rw [State.incBy_groups]
  · rfl
@[simp] theorem State.sendMsg_pa (s : State) (k fl tg op st p i : Nat) (b : List Byte) : (s.sendMsg k fl tg op st p i b).pa = s.pa := by
  unfold State.sendMsg; simp only; split
  · rw [State.incBy_pa]
  · rfl
@[simp] theorem State.sendMsg_pb (s : State) (k fl tg op st p i : Nat) (b : List Byte) : (s.sendMsg k fl tg op st p i b).pb = s.pb := by
  unfold State.sendMsg; simp only; split
  · rw [State.incBy_pb]
  · rfl
@[simp] theorem State.sendMsg_courses (s : State) (k fl tg op st p i : Nat) (b : List Byte) : (s.sendMsg k fl tg op st p i b).courses = s.courses := by
  unfold State.sendMsg; simp only; split
  · rw [State.incBy_courses]
  · rfl
@[simp] theorem State.sendMsg_joins (s : State) (k fl tg op st p i : Nat) (b : List Byte) : (s.sendMsg k fl tg op st p i b).joins = s.joins := by
  unfold State.sendMsg; simp only; split
  · rw [State.incBy_joins]
  · rfl
@[simp] theorem State.sendMsg_bonds (s : State) (k fl tg op st p i : Nat) (b : List Byte) : (s.sendMsg k fl tg op st p i b).bonds = s.bonds := by
  unfold State.sendMsg; simp only; split
  · rw [State.incBy_bonds]
  · rfl
@[simp] theorem State.sendMsg_recovery (s : State) (k fl tg op st p i : Nat) (b : List Byte) : (s.sendMsg k fl tg op st p i b).recovery = s.recovery := by
  unfold State.sendMsg; simp only; split
  · rw [State.incBy_recovery]
  · rfl
@[simp] theorem State.sendMsg_judge (s : State) (k fl tg op st p i : Nat) (b : List Byte) : (s.sendMsg k fl tg op st p i b).judge = s.judge := by
  unfold State.sendMsg; simp only; split
  · rw [State.incBy_judge]
  · rfl
@[simp] theorem State.sendMsg_leaving (s : State) (k fl tg op st p i : Nat) (b : List Byte) : (s.sendMsg k fl tg op st p i b).leaving = s.leaving := by
  unfold State.sendMsg; simp only; split
  · rw [State.incBy_leaving]
  · rfl
@[simp] theorem State.sendMsg_gateChange (s : State) (k fl tg op st p i : Nat) (b : List Byte) : (s.sendMsg k fl tg op st p i b).gateChange = s.gateChange := by
  unfold State.sendMsg; simp only; split
  · rw [State.incBy_gateChange]
  · rfl
@[simp] theorem State.sendMsg_gateEdge (s : State) (k fl tg op st p i : Nat) (b : List Byte) : (s.sendMsg k fl tg op st p i b).gateEdge = s.gateEdge := by
  unfold State.sendMsg; simp only; split
  · rw [State.incBy_gateEdge]
  · rfl
@[simp] theorem State.sendMsg_heldTicks (s : State) (k fl tg op st p i : Nat) (b : List Byte) : (s.sendMsg k fl tg op st p i b).heldTicks = s.heldTicks := by
  unfold State.sendMsg; simp only; split
  · rw [State.incBy_heldTicks]
  · rfl
@[simp] theorem State.sendMsg_time (s : State) (k fl tg op st p i : Nat) (b : List Byte) : (s.sendMsg k fl tg op st p i b).time = s.time := by
  unfold State.sendMsg; simp only; split
  · rw [State.incBy_time]
  · rfl
@[simp] theorem State.sendMsg_servo (s : State) (k fl tg op st p i : Nat) (b : List Byte) : (s.sendMsg k fl tg op st p i b).servo = s.servo := by
  unfold State.sendMsg; simp only; split
  · rw [State.incBy_servo]
  · rfl
@[simp] theorem State.sendMsg_gnss (s : State) (k fl tg op st p i : Nat) (b : List Byte) : (s.sendMsg k fl tg op st p i b).gnss = s.gnss := by
  unfold State.sendMsg; simp only; split
  · rw [State.incBy_gnss]
  · rfl
@[simp] theorem State.sendMsg_ptp (s : State) (k fl tg op st p i : Nat) (b : List Byte) : (s.sendMsg k fl tg op st p i b).ptp = s.ptp := by
  unfold State.sendMsg; simp only; split
  · rw [State.incBy_ptp]
  · rfl
@[simp] theorem State.sendMsg_departures (s : State) (k fl tg op st p i : Nat) (b : List Byte) : (s.sendMsg k fl tg op st p i b).departures = s.departures := by
  unfold State.sendMsg; simp only; split
  · rw [State.incBy_departures]
  · rfl
@[simp] theorem State.sendMsg_synce (s : State) (k fl tg op st p i : Nat) (b : List Byte) : (s.sendMsg k fl tg op st p i b).synce = s.synce := by
  unfold State.sendMsg; simp only; split
  · rw [State.incBy_synce]
  · rfl
@[simp] theorem State.sendMsg_tio (s : State) (k fl tg op st p i : Nat) (b : List Byte) : (s.sendMsg k fl tg op st p i b).tio = s.tio := by
  unfold State.sendMsg; simp only; split
  · rw [State.incBy_tio]
  · rfl
@[simp] theorem State.sendMsg_clocks (s : State) (k fl tg op st p i : Nat) (b : List Byte) : (s.sendMsg k fl tg op st p i b).clocks = s.clocks := by
  unfold State.sendMsg; simp only; split
  · rw [State.incBy_clocks]
  · rfl
@[simp] theorem State.sendMsg_chans (s : State) (k fl tg op st p i : Nat) (b : List Byte) : (s.sendMsg k fl tg op st p i b).chans = s.chans := by
  unfold State.sendMsg; simp only; split
  · rw [State.incBy_chans]
  · rfl
@[simp] theorem State.sendMsg_bufs (s : State) (k fl tg op st p i : Nat) (b : List Byte) : (s.sendMsg k fl tg op st p i b).bufs = s.bufs := by
  unfold State.sendMsg; simp only; split
  · rw [State.incBy_bufs]
  · rfl
@[simp] theorem State.sendMsg_hodMem (s : State) (k fl tg op st p i : Nat) (b : List Byte) : (s.sendMsg k fl tg op st p i b).hodMem = s.hodMem := by
  unfold State.sendMsg; simp only; split
  · rw [State.incBy_hodMem]
  · rfl
@[simp] theorem State.sendMsg_bufCaches (s : State) (k fl tg op st p i : Nat) (b : List Byte) : (s.sendMsg k fl tg op st p i b).bufCaches = s.bufCaches := by
  unfold State.sendMsg; simp only; split
  · rw [State.incBy_bufCaches]
  · rfl
@[simp] theorem State.sendMsg_recv (s : State) (k fl tg op st p i : Nat) (b : List Byte) : (s.sendMsg k fl tg op st p i b).recv = s.recv := by
  unfold State.sendMsg; simp only; split
  · rw [State.incBy_recv]
  · rfl
@[simp] theorem State.sendMsg_quietNh (s : State) (k fl tg op st p i : Nat) (b : List Byte) : (s.sendMsg k fl tg op st p i b).quietNh = s.quietNh := by
  unfold State.sendMsg; simp only; split
  · rw [State.incBy_quietNh]
  · rfl
@[simp] theorem State.sendMsg_quietRw (s : State) (k fl tg op st p i : Nat) (b : List Byte) : (s.sendMsg k fl tg op st p i b).quietRw = s.quietRw := by
  unfold State.sendMsg; simp only; split
  · rw [State.incBy_quietRw]
  · rfl
@[simp] theorem State.sendMsg_physNh (s : State) (k fl tg op st p i : Nat) (b : List Byte) : (s.sendMsg k fl tg op st p i b).physNh = s.physNh := by
  unfold State.sendMsg; simp only; split
  · rw [State.incBy_physNh]
  · rfl
@[simp] theorem State.sendMsg_physRw (s : State) (k fl tg op st p i : Nat) (b : List Byte) : (s.sendMsg k fl tg op st p i b).physRw = s.physRw := by
  unfold State.sendMsg; simp only; split
  · rw [State.incBy_physRw]
  · rfl
@[simp] theorem State.sendMsg_seed (s : State) (k fl tg op st p i : Nat) (b : List Byte) : (s.sendMsg k fl tg op st p i b).seed = s.seed := by
  unfold State.sendMsg; simp only; split
  · rw [State.incBy_seed]
  · rfl
@[simp] theorem State.sendMsg_hostTab (s : State) (k fl tg op st p i : Nat) (b : List Byte) : (s.sendMsg k fl tg op st p i b).hostTab = s.hostTab := by
  unfold State.sendMsg; simp only; split
  · rw [State.incBy_hostTab]
  · rfl
@[simp] theorem State.sendMsg_filterEpoch (s : State) (k fl tg op st p i : Nat) (b : List Byte) : (s.sendMsg k fl tg op st p i b).filterEpoch = s.filterEpoch := by
  unfold State.sendMsg; simp only; split
  · rw [State.incBy_filterEpoch]
  · rfl
@[simp] theorem State.sendMsg_banks (s : State) (k fl tg op st p i : Nat) (b : List Byte) : (s.sendMsg k fl tg op st p i b).banks = s.banks := by
  unfold State.sendMsg; simp only; split
  · rw [State.incBy_banks]
  · rfl
@[simp] theorem State.sendMsg_sustain (s : State) (k fl tg op st p i : Nat) (b : List Byte) : (s.sendMsg k fl tg op st p i b).sustain = s.sustain := by
  unfold State.sendMsg; simp only; split
  · rw [State.incBy_sustain]
  · rfl
@[simp] theorem State.sendMsg_sessions (s : State) (k fl tg op st p i : Nat) (b : List Byte) : (s.sendMsg k fl tg op st p i b).sessions = s.sessions := by
  unfold State.sendMsg; simp only; split
  · rw [State.incBy_sessions]
  · rfl
@[simp] theorem State.sendMsg_issued (s : State) (k fl tg op st p i : Nat) (b : List Byte) : (s.sendMsg k fl tg op st p i b).issued = s.issued := by
  unfold State.sendMsg; simp only; split
  · rw [State.incBy_issued]
  · rfl
@[simp] theorem State.sendMsg_owed (s : State) (k fl tg op st p i : Nat) (b : List Byte) : (s.sendMsg k fl tg op st p i b).owed = s.owed := by
  unfold State.sendMsg; simp only; split
  · rw [State.incBy_owed]
  · rfl
@[simp] theorem State.sendMsg_enrolBar (s : State) (k fl tg op st p i : Nat) (b : List Byte) : (s.sendMsg k fl tg op st p i b).enrolBar = s.enrolBar := by
  unfold State.sendMsg; simp only; split
  · rw [State.incBy_enrolBar]
  · rfl
@[simp] theorem State.sendMsg_authFails (s : State) (k fl tg op st p i : Nat) (b : List Byte) : (s.sendMsg k fl tg op st p i b).authFails = s.authFails := by
  unfold State.sendMsg; simp only; split
  · rw [State.incBy_authFails]
  · rfl
@[simp] theorem State.sendMsg_committing (s : State) (k fl tg op st p i : Nat) (b : List Byte) : (s.sendMsg k fl tg op st p i b).committing = s.committing := by
  unfold State.sendMsg; simp only; split
  · rw [State.incBy_committing]
  · rfl
@[simp] theorem State.sendMsg_latest (s : State) (k fl tg op st p i : Nat) (b : List Byte) : (s.sendMsg k fl tg op st p i b).latest = s.latest := by
  unfold State.sendMsg; simp only; split
  · rw [State.incBy_latest]
  · rfl
@[simp] theorem State.sendMsg_latestSlot (s : State) (k fl tg op st p i : Nat) (b : List Byte) : (s.sendMsg k fl tg op st p i b).latestSlot = s.latestSlot := by
  unfold State.sendMsg; simp only; split
  · rw [State.incBy_latestSlot]
  · rfl
@[simp] theorem State.sendMsg_ruleAt (s : State) (k fl tg op st p i : Nat) (b : List Byte) : (s.sendMsg k fl tg op st p i b).ruleAt = s.ruleAt := by
  unfold State.sendMsg; simp only; split
  · rw [State.incBy_ruleAt]
  · rfl
@[simp] theorem State.sendMsg_flash (s : State) (k fl tg op st p i : Nat) (b : List Byte) : (s.sendMsg k fl tg op st p i b).flash = s.flash := by
  unfold State.sendMsg; simp only; split
  · rw [State.incBy_flash]
  · rfl
@[simp] theorem State.sendMsg_power (s : State) (k fl tg op st p i : Nat) (b : List Byte) : (s.sendMsg k fl tg op st p i b).power = s.power := by
  unfold State.sendMsg; simp only; split
  · rw [State.incBy_power]
  · rfl
@[simp] theorem State.sendMsg_latch (s : State) (k fl tg op st p i : Nat) (b : List Byte) : (s.sendMsg k fl tg op st p i b).latch = s.latch := by
  unfold State.sendMsg; simp only; split
  · rw [State.incBy_latch]
  · rfl
@[simp] theorem State.sendMsg_cart (s : State) (k fl tg op st p i : Nat) (b : List Byte) : (s.sendMsg k fl tg op st p i b).cart = s.cart := by
  unfold State.sendMsg; simp only; split
  · rw [State.incBy_cart]
  · rfl
@[simp] theorem State.sendMsg_bay (s : State) (k fl tg op st p i : Nat) (b : List Byte) : (s.sendMsg k fl tg op st p i b).bay = s.bay := by
  unfold State.sendMsg; simp only; split
  · rw [State.incBy_bay]
  · rfl
@[simp] theorem State.sendMsg_domOps (s : State) (k fl tg op st p i : Nat) (b : List Byte) : (s.sendMsg k fl tg op st p i b).domOps = s.domOps := by
  unfold State.sendMsg; simp only; split
  · rw [State.incBy_domOps]
  · rfl
@[simp] theorem State.sendMsg_reseed (s : State) (k fl tg op st p i : Nat) (b : List Byte) : (s.sendMsg k fl tg op st p i b).reseed = s.reseed := by
  unfold State.sendMsg; simp only; split
  · rw [State.incBy_reseed]
  · rfl
@[simp] theorem State.sendMsg_ctls (s : State) (k fl tg op st p i : Nat) (b : List Byte) : (s.sendMsg k fl tg op st p i b).ctls = s.ctls := by
  unfold State.sendMsg; simp only; split
  · rw [State.incBy_ctls]
  · rfl
@[simp] theorem State.sendMsg_silence (s : State) (k fl tg op st p i : Nat) (b : List Byte) : (s.sendMsg k fl tg op st p i b).silence = s.silence := by
  unfold State.sendMsg; simp only; split
  · rw [State.incBy_silence]
  · rfl
@[simp] theorem State.sendMsg_swap (s : State) (k fl tg op st p i : Nat) (b : List Byte) : (s.sendMsg k fl tg op st p i b).swap = s.swap := by
  unfold State.sendMsg; simp only; split
  · rw [State.incBy_swap]
  · rfl
@[simp] theorem State.sendMsg_swapTries (s : State) (k fl tg op st p i : Nat) (b : List Byte) : (s.sendMsg k fl tg op st p i b).swapTries = s.swapTries := by
  unfold State.sendMsg; simp only; split
  · rw [State.incBy_swapTries]
  · rfl
@[simp] theorem State.sendMsg_swapAt (s : State) (k fl tg op st p i : Nat) (b : List Byte) : (s.sendMsg k fl tg op st p i b).swapAt = s.swapAt := by
  unfold State.sendMsg; simp only; split
  · rw [State.incBy_swapAt]
  · rfl
@[simp] theorem State.sendMsg_swapDay (s : State) (k fl tg op st p i : Nat) (b : List Byte) : (s.sendMsg k fl tg op st p i b).swapDay = s.swapDay := by
  unfold State.sendMsg; simp only; split
  · rw [State.incBy_swapDay]
  · rfl
@[simp] theorem State.sendMsg_resync (s : State) (k fl tg op st p i : Nat) (b : List Byte) : (s.sendMsg k fl tg op st p i b).resync = s.resync := by
  unfold State.sendMsg; simp only; split
  · rw [State.incBy_resync]
  · rfl
@[simp] theorem State.sendMsg_fw (s : State) (k fl tg op st p i : Nat) (b : List Byte) : (s.sendMsg k fl tg op st p i b).fw = s.fw := by
  unfold State.sendMsg; simp only; split
  · rw [State.incBy_fw]
  · rfl
@[simp] theorem State.sendMsg_flushes (s : State) (k fl tg op st p i : Nat) (b : List Byte) : (s.sendMsg k fl tg op st p i b).flushes = s.flushes := by
  unfold State.sendMsg; simp only; split
  · rw [State.incBy_flushes]
  · rfl
@[simp] theorem State.sendMsg_bulks (s : State) (k fl tg op st p i : Nat) (b : List Byte) : (s.sendMsg k fl tg op st p i b).bulks = s.bulks := by
  unfold State.sendMsg; simp only; split
  · rw [State.incBy_bulks]
  · rfl
@[simp] theorem State.sendMsg_snaps (s : State) (k fl tg op st p i : Nat) (b : List Byte) : (s.sendMsg k fl tg op st p i b).snaps = s.snaps := by
  unfold State.sendMsg; simp only; split
  · rw [State.incBy_snaps]
  · rfl
@[simp] theorem State.sendMsg_recordAt (s : State) (k fl tg op st p i : Nat) (b : List Byte) : (s.sendMsg k fl tg op st p i b).recordAt = s.recordAt := by
  unfold State.sendMsg; simp only; split
  · rw [State.incBy_recordAt]
  · rfl
@[simp] theorem State.sendMsg_tx (s : State) (k fl tg op st p i : Nat) (b : List Byte) : (s.sendMsg k fl tg op st p i b).tx = s.tx := by
  unfold State.sendMsg; simp only; split
  · rw [State.incBy_tx]
  · rfl

/-! ### `State.reply` -/

@[simp] theorem State.reply_pending (s : State) (k : Nat) (r : Request) (st : Nat) (b : List Byte) : (s.reply k r st b).pending = s.pending := by
  unfold State.reply; simp only; rw [State.sendMsg_pending, State.updSession_pending]
@[simp] theorem State.reply_rc (s : State) (k : Nat) (r : Request) (st : Nat) (b : List Byte) : (s.reply k r st b).rc = s.rc := by
  unfold State.reply; simp only; rw [State.sendMsg_rc, State.updSession_rc]
@[simp] theorem State.reply_clk (s : State) (k : Nat) (r : Request) (st : Nat) (b : List Byte) : (s.reply k r st b).clk = s.clk := by
  unfold State.reply; simp only; rw [State.sendMsg_clk, State.updSession_clk]
@[simp] theorem State.reply_faults (s : State) (k : Nat) (r : Request) (st : Nat) (b : List Byte) : (s.reply k r st b).faults = s.faults := by
  unfold State.reply; simp only; rw [State.sendMsg_faults, State.updSession_faults]
@[simp] theorem State.reply_drawn (s : State) (k : Nat) (r : Request) (st : Nat) (b : List Byte) : (s.reply k r st b).drawn = s.drawn := by
  unfold State.reply; simp only; rw [State.sendMsg_drawn, State.updSession_drawn]
@[simp] theorem State.reply_slots (s : State) (k : Nat) (r : Request) (st : Nat) (b : List Byte) : (s.reply k r st b).slots = s.slots := by
  unfold State.reply; simp only; rw [State.sendMsg_slots, State.updSession_slots]
@[simp] theorem State.reply_ports (s : State) (k : Nat) (r : Request) (st : Nat) (b : List Byte) : (s.reply k r st b).ports = s.ports := by
  unfold State.reply; simp only; rw [State.sendMsg_ports, State.updSession_ports]
@[simp] theorem State.reply_groups (s : State) (k : Nat) (r : Request) (st : Nat) (b : List Byte) : (s.reply k r st b).groups = s.groups := by
  unfold State.reply; simp only; rw [State.sendMsg_groups, State.updSession_groups]
@[simp] theorem State.reply_pa (s : State) (k : Nat) (r : Request) (st : Nat) (b : List Byte) : (s.reply k r st b).pa = s.pa := by
  unfold State.reply; simp only; rw [State.sendMsg_pa, State.updSession_pa]
@[simp] theorem State.reply_pb (s : State) (k : Nat) (r : Request) (st : Nat) (b : List Byte) : (s.reply k r st b).pb = s.pb := by
  unfold State.reply; simp only; rw [State.sendMsg_pb, State.updSession_pb]
@[simp] theorem State.reply_courses (s : State) (k : Nat) (r : Request) (st : Nat) (b : List Byte) : (s.reply k r st b).courses = s.courses := by
  unfold State.reply; simp only; rw [State.sendMsg_courses, State.updSession_courses]
@[simp] theorem State.reply_joins (s : State) (k : Nat) (r : Request) (st : Nat) (b : List Byte) : (s.reply k r st b).joins = s.joins := by
  unfold State.reply; simp only; rw [State.sendMsg_joins, State.updSession_joins]
@[simp] theorem State.reply_bonds (s : State) (k : Nat) (r : Request) (st : Nat) (b : List Byte) : (s.reply k r st b).bonds = s.bonds := by
  unfold State.reply; simp only; rw [State.sendMsg_bonds, State.updSession_bonds]
@[simp] theorem State.reply_recovery (s : State) (k : Nat) (r : Request) (st : Nat) (b : List Byte) : (s.reply k r st b).recovery = s.recovery := by
  unfold State.reply; simp only; rw [State.sendMsg_recovery, State.updSession_recovery]
@[simp] theorem State.reply_judge (s : State) (k : Nat) (r : Request) (st : Nat) (b : List Byte) : (s.reply k r st b).judge = s.judge := by
  unfold State.reply; simp only; rw [State.sendMsg_judge, State.updSession_judge]
@[simp] theorem State.reply_leaving (s : State) (k : Nat) (r : Request) (st : Nat) (b : List Byte) : (s.reply k r st b).leaving = s.leaving := by
  unfold State.reply; simp only; rw [State.sendMsg_leaving, State.updSession_leaving]
@[simp] theorem State.reply_gateChange (s : State) (k : Nat) (r : Request) (st : Nat) (b : List Byte) : (s.reply k r st b).gateChange = s.gateChange := by
  unfold State.reply; simp only; rw [State.sendMsg_gateChange, State.updSession_gateChange]
@[simp] theorem State.reply_gateEdge (s : State) (k : Nat) (r : Request) (st : Nat) (b : List Byte) : (s.reply k r st b).gateEdge = s.gateEdge := by
  unfold State.reply; simp only; rw [State.sendMsg_gateEdge, State.updSession_gateEdge]
@[simp] theorem State.reply_heldTicks (s : State) (k : Nat) (r : Request) (st : Nat) (b : List Byte) : (s.reply k r st b).heldTicks = s.heldTicks := by
  unfold State.reply; simp only; rw [State.sendMsg_heldTicks, State.updSession_heldTicks]
@[simp] theorem State.reply_time (s : State) (k : Nat) (r : Request) (st : Nat) (b : List Byte) : (s.reply k r st b).time = s.time := by
  unfold State.reply; simp only; rw [State.sendMsg_time, State.updSession_time]
@[simp] theorem State.reply_servo (s : State) (k : Nat) (r : Request) (st : Nat) (b : List Byte) : (s.reply k r st b).servo = s.servo := by
  unfold State.reply; simp only; rw [State.sendMsg_servo, State.updSession_servo]
@[simp] theorem State.reply_gnss (s : State) (k : Nat) (r : Request) (st : Nat) (b : List Byte) : (s.reply k r st b).gnss = s.gnss := by
  unfold State.reply; simp only; rw [State.sendMsg_gnss, State.updSession_gnss]
@[simp] theorem State.reply_ptp (s : State) (k : Nat) (r : Request) (st : Nat) (b : List Byte) : (s.reply k r st b).ptp = s.ptp := by
  unfold State.reply; simp only; rw [State.sendMsg_ptp, State.updSession_ptp]
@[simp] theorem State.reply_departures (s : State) (k : Nat) (r : Request) (st : Nat) (b : List Byte) : (s.reply k r st b).departures = s.departures := by
  unfold State.reply; simp only; rw [State.sendMsg_departures, State.updSession_departures]
@[simp] theorem State.reply_synce (s : State) (k : Nat) (r : Request) (st : Nat) (b : List Byte) : (s.reply k r st b).synce = s.synce := by
  unfold State.reply; simp only; rw [State.sendMsg_synce, State.updSession_synce]
@[simp] theorem State.reply_tio (s : State) (k : Nat) (r : Request) (st : Nat) (b : List Byte) : (s.reply k r st b).tio = s.tio := by
  unfold State.reply; simp only; rw [State.sendMsg_tio, State.updSession_tio]
@[simp] theorem State.reply_clocks (s : State) (k : Nat) (r : Request) (st : Nat) (b : List Byte) : (s.reply k r st b).clocks = s.clocks := by
  unfold State.reply; simp only; rw [State.sendMsg_clocks, State.updSession_clocks]
@[simp] theorem State.reply_chans (s : State) (k : Nat) (r : Request) (st : Nat) (b : List Byte) : (s.reply k r st b).chans = s.chans := by
  unfold State.reply; simp only; rw [State.sendMsg_chans, State.updSession_chans]
@[simp] theorem State.reply_bufs (s : State) (k : Nat) (r : Request) (st : Nat) (b : List Byte) : (s.reply k r st b).bufs = s.bufs := by
  unfold State.reply; simp only; rw [State.sendMsg_bufs, State.updSession_bufs]
@[simp] theorem State.reply_hodMem (s : State) (k : Nat) (r : Request) (st : Nat) (b : List Byte) : (s.reply k r st b).hodMem = s.hodMem := by
  unfold State.reply; simp only; rw [State.sendMsg_hodMem, State.updSession_hodMem]
@[simp] theorem State.reply_bufCaches (s : State) (k : Nat) (r : Request) (st : Nat) (b : List Byte) : (s.reply k r st b).bufCaches = s.bufCaches := by
  unfold State.reply; simp only; rw [State.sendMsg_bufCaches, State.updSession_bufCaches]
@[simp] theorem State.reply_recv (s : State) (k : Nat) (r : Request) (st : Nat) (b : List Byte) : (s.reply k r st b).recv = s.recv := by
  unfold State.reply; simp only; rw [State.sendMsg_recv, State.updSession_recv]
@[simp] theorem State.reply_quietNh (s : State) (k : Nat) (r : Request) (st : Nat) (b : List Byte) : (s.reply k r st b).quietNh = s.quietNh := by
  unfold State.reply; simp only; rw [State.sendMsg_quietNh, State.updSession_quietNh]
@[simp] theorem State.reply_quietRw (s : State) (k : Nat) (r : Request) (st : Nat) (b : List Byte) : (s.reply k r st b).quietRw = s.quietRw := by
  unfold State.reply; simp only; rw [State.sendMsg_quietRw, State.updSession_quietRw]
@[simp] theorem State.reply_physNh (s : State) (k : Nat) (r : Request) (st : Nat) (b : List Byte) : (s.reply k r st b).physNh = s.physNh := by
  unfold State.reply; simp only; rw [State.sendMsg_physNh, State.updSession_physNh]
@[simp] theorem State.reply_physRw (s : State) (k : Nat) (r : Request) (st : Nat) (b : List Byte) : (s.reply k r st b).physRw = s.physRw := by
  unfold State.reply; simp only; rw [State.sendMsg_physRw, State.updSession_physRw]
@[simp] theorem State.reply_seed (s : State) (k : Nat) (r : Request) (st : Nat) (b : List Byte) : (s.reply k r st b).seed = s.seed := by
  unfold State.reply; simp only; rw [State.sendMsg_seed, State.updSession_seed]
@[simp] theorem State.reply_hostTab (s : State) (k : Nat) (r : Request) (st : Nat) (b : List Byte) : (s.reply k r st b).hostTab = s.hostTab := by
  unfold State.reply; simp only; rw [State.sendMsg_hostTab, State.updSession_hostTab]
@[simp] theorem State.reply_filterEpoch (s : State) (k : Nat) (r : Request) (st : Nat) (b : List Byte) : (s.reply k r st b).filterEpoch = s.filterEpoch := by
  unfold State.reply; simp only; rw [State.sendMsg_filterEpoch, State.updSession_filterEpoch]
@[simp] theorem State.reply_banks (s : State) (k : Nat) (r : Request) (st : Nat) (b : List Byte) : (s.reply k r st b).banks = s.banks := by
  unfold State.reply; simp only; rw [State.sendMsg_banks, State.updSession_banks]
@[simp] theorem State.reply_sustain (s : State) (k : Nat) (r : Request) (st : Nat) (b : List Byte) : (s.reply k r st b).sustain = s.sustain := by
  unfold State.reply; simp only; rw [State.sendMsg_sustain, State.updSession_sustain]
@[simp] theorem State.reply_issued (s : State) (k : Nat) (r : Request) (st : Nat) (b : List Byte) : (s.reply k r st b).issued = s.issued := by
  unfold State.reply; simp only; rw [State.sendMsg_issued, State.updSession_issued]
@[simp] theorem State.reply_owed (s : State) (k : Nat) (r : Request) (st : Nat) (b : List Byte) : (s.reply k r st b).owed = s.owed := by
  unfold State.reply; simp only; rw [State.sendMsg_owed, State.updSession_owed]
@[simp] theorem State.reply_enrolBar (s : State) (k : Nat) (r : Request) (st : Nat) (b : List Byte) : (s.reply k r st b).enrolBar = s.enrolBar := by
  unfold State.reply; simp only; rw [State.sendMsg_enrolBar, State.updSession_enrolBar]
@[simp] theorem State.reply_authFails (s : State) (k : Nat) (r : Request) (st : Nat) (b : List Byte) : (s.reply k r st b).authFails = s.authFails := by
  unfold State.reply; simp only; rw [State.sendMsg_authFails, State.updSession_authFails]
@[simp] theorem State.reply_committing (s : State) (k : Nat) (r : Request) (st : Nat) (b : List Byte) : (s.reply k r st b).committing = s.committing := by
  unfold State.reply; simp only; rw [State.sendMsg_committing, State.updSession_committing]
@[simp] theorem State.reply_latest (s : State) (k : Nat) (r : Request) (st : Nat) (b : List Byte) : (s.reply k r st b).latest = s.latest := by
  unfold State.reply; simp only; rw [State.sendMsg_latest, State.updSession_latest]
@[simp] theorem State.reply_latestSlot (s : State) (k : Nat) (r : Request) (st : Nat) (b : List Byte) : (s.reply k r st b).latestSlot = s.latestSlot := by
  unfold State.reply; simp only; rw [State.sendMsg_latestSlot, State.updSession_latestSlot]
@[simp] theorem State.reply_ruleAt (s : State) (k : Nat) (r : Request) (st : Nat) (b : List Byte) : (s.reply k r st b).ruleAt = s.ruleAt := by
  unfold State.reply; simp only; rw [State.sendMsg_ruleAt, State.updSession_ruleAt]
@[simp] theorem State.reply_flash (s : State) (k : Nat) (r : Request) (st : Nat) (b : List Byte) : (s.reply k r st b).flash = s.flash := by
  unfold State.reply; simp only; rw [State.sendMsg_flash, State.updSession_flash]
@[simp] theorem State.reply_power (s : State) (k : Nat) (r : Request) (st : Nat) (b : List Byte) : (s.reply k r st b).power = s.power := by
  unfold State.reply; simp only; rw [State.sendMsg_power, State.updSession_power]
@[simp] theorem State.reply_latch (s : State) (k : Nat) (r : Request) (st : Nat) (b : List Byte) : (s.reply k r st b).latch = s.latch := by
  unfold State.reply; simp only; rw [State.sendMsg_latch, State.updSession_latch]
@[simp] theorem State.reply_cart (s : State) (k : Nat) (r : Request) (st : Nat) (b : List Byte) : (s.reply k r st b).cart = s.cart := by
  unfold State.reply; simp only; rw [State.sendMsg_cart, State.updSession_cart]
@[simp] theorem State.reply_bay (s : State) (k : Nat) (r : Request) (st : Nat) (b : List Byte) : (s.reply k r st b).bay = s.bay := by
  unfold State.reply; simp only; rw [State.sendMsg_bay, State.updSession_bay]
@[simp] theorem State.reply_domOps (s : State) (k : Nat) (r : Request) (st : Nat) (b : List Byte) : (s.reply k r st b).domOps = s.domOps := by
  unfold State.reply; simp only; rw [State.sendMsg_domOps, State.updSession_domOps]
@[simp] theorem State.reply_reseed (s : State) (k : Nat) (r : Request) (st : Nat) (b : List Byte) : (s.reply k r st b).reseed = s.reseed := by
  unfold State.reply; simp only; rw [State.sendMsg_reseed, State.updSession_reseed]
@[simp] theorem State.reply_ctls (s : State) (k : Nat) (r : Request) (st : Nat) (b : List Byte) : (s.reply k r st b).ctls = s.ctls := by
  unfold State.reply; simp only; rw [State.sendMsg_ctls, State.updSession_ctls]
@[simp] theorem State.reply_silence (s : State) (k : Nat) (r : Request) (st : Nat) (b : List Byte) : (s.reply k r st b).silence = s.silence := by
  unfold State.reply; simp only; rw [State.sendMsg_silence, State.updSession_silence]
@[simp] theorem State.reply_swap (s : State) (k : Nat) (r : Request) (st : Nat) (b : List Byte) : (s.reply k r st b).swap = s.swap := by
  unfold State.reply; simp only; rw [State.sendMsg_swap, State.updSession_swap]
@[simp] theorem State.reply_swapTries (s : State) (k : Nat) (r : Request) (st : Nat) (b : List Byte) : (s.reply k r st b).swapTries = s.swapTries := by
  unfold State.reply; simp only; rw [State.sendMsg_swapTries, State.updSession_swapTries]
@[simp] theorem State.reply_swapAt (s : State) (k : Nat) (r : Request) (st : Nat) (b : List Byte) : (s.reply k r st b).swapAt = s.swapAt := by
  unfold State.reply; simp only; rw [State.sendMsg_swapAt, State.updSession_swapAt]
@[simp] theorem State.reply_swapDay (s : State) (k : Nat) (r : Request) (st : Nat) (b : List Byte) : (s.reply k r st b).swapDay = s.swapDay := by
  unfold State.reply; simp only; rw [State.sendMsg_swapDay, State.updSession_swapDay]
@[simp] theorem State.reply_resync (s : State) (k : Nat) (r : Request) (st : Nat) (b : List Byte) : (s.reply k r st b).resync = s.resync := by
  unfold State.reply; simp only; rw [State.sendMsg_resync, State.updSession_resync]
@[simp] theorem State.reply_fw (s : State) (k : Nat) (r : Request) (st : Nat) (b : List Byte) : (s.reply k r st b).fw = s.fw := by
  unfold State.reply; simp only; rw [State.sendMsg_fw, State.updSession_fw]
@[simp] theorem State.reply_flushes (s : State) (k : Nat) (r : Request) (st : Nat) (b : List Byte) : (s.reply k r st b).flushes = s.flushes := by
  unfold State.reply; simp only; rw [State.sendMsg_flushes, State.updSession_flushes]
@[simp] theorem State.reply_bulks (s : State) (k : Nat) (r : Request) (st : Nat) (b : List Byte) : (s.reply k r st b).bulks = s.bulks := by
  unfold State.reply; simp only; rw [State.sendMsg_bulks, State.updSession_bulks]
@[simp] theorem State.reply_snaps (s : State) (k : Nat) (r : Request) (st : Nat) (b : List Byte) : (s.reply k r st b).snaps = s.snaps := by
  unfold State.reply; simp only; rw [State.sendMsg_snaps, State.updSession_snaps]
@[simp] theorem State.reply_recordAt (s : State) (k : Nat) (r : Request) (st : Nat) (b : List Byte) : (s.reply k r st b).recordAt = s.recordAt := by
  unfold State.reply; simp only; rw [State.sendMsg_recordAt, State.updSession_recordAt]
@[simp] theorem State.reply_tx (s : State) (k : Nat) (r : Request) (st : Nat) (b : List Byte) : (s.reply k r st b).tx = s.tx := by
  unfold State.reply; simp only; rw [State.sendMsg_tx, State.updSession_tx]

/-! ### `State.heard` -/

@[simp] theorem State.heard_pending (s : State) (k n : Nat) : (s.heard k n).pending = s.pending := by
  unfold State.heard; simp only; split
  · rw [State.incBy_pending, State.updSession_pending]
  · rw [State.updSession_pending]
@[simp] theorem State.heard_rc (s : State) (k n : Nat) : (s.heard k n).rc = s.rc := by
  unfold State.heard; simp only; split
  · rw [State.incBy_rc, State.updSession_rc]
  · rw [State.updSession_rc]
@[simp] theorem State.heard_clk (s : State) (k n : Nat) : (s.heard k n).clk = s.clk := by
  unfold State.heard; simp only; split
  · rw [State.incBy_clk, State.updSession_clk]
  · rw [State.updSession_clk]
@[simp] theorem State.heard_faults (s : State) (k n : Nat) : (s.heard k n).faults = s.faults := by
  unfold State.heard; simp only; split
  · rw [State.incBy_faults, State.updSession_faults]
  · rw [State.updSession_faults]
@[simp] theorem State.heard_drawn (s : State) (k n : Nat) : (s.heard k n).drawn = s.drawn := by
  unfold State.heard; simp only; split
  · rw [State.incBy_drawn, State.updSession_drawn]
  · rw [State.updSession_drawn]
@[simp] theorem State.heard_slots (s : State) (k n : Nat) : (s.heard k n).slots = s.slots := by
  unfold State.heard; simp only; split
  · rw [State.incBy_slots, State.updSession_slots]
  · rw [State.updSession_slots]
@[simp] theorem State.heard_ports (s : State) (k n : Nat) : (s.heard k n).ports = s.ports := by
  unfold State.heard; simp only; split
  · rw [State.incBy_ports, State.updSession_ports]
  · rw [State.updSession_ports]
@[simp] theorem State.heard_groups (s : State) (k n : Nat) : (s.heard k n).groups = s.groups := by
  unfold State.heard; simp only; split
  · rw [State.incBy_groups, State.updSession_groups]
  · rw [State.updSession_groups]
@[simp] theorem State.heard_pa (s : State) (k n : Nat) : (s.heard k n).pa = s.pa := by
  unfold State.heard; simp only; split
  · rw [State.incBy_pa, State.updSession_pa]
  · rw [State.updSession_pa]
@[simp] theorem State.heard_pb (s : State) (k n : Nat) : (s.heard k n).pb = s.pb := by
  unfold State.heard; simp only; split
  · rw [State.incBy_pb, State.updSession_pb]
  · rw [State.updSession_pb]
@[simp] theorem State.heard_courses (s : State) (k n : Nat) : (s.heard k n).courses = s.courses := by
  unfold State.heard; simp only; split
  · rw [State.incBy_courses, State.updSession_courses]
  · rw [State.updSession_courses]
@[simp] theorem State.heard_joins (s : State) (k n : Nat) : (s.heard k n).joins = s.joins := by
  unfold State.heard; simp only; split
  · rw [State.incBy_joins, State.updSession_joins]
  · rw [State.updSession_joins]
@[simp] theorem State.heard_bonds (s : State) (k n : Nat) : (s.heard k n).bonds = s.bonds := by
  unfold State.heard; simp only; split
  · rw [State.incBy_bonds, State.updSession_bonds]
  · rw [State.updSession_bonds]
@[simp] theorem State.heard_recovery (s : State) (k n : Nat) : (s.heard k n).recovery = s.recovery := by
  unfold State.heard; simp only; split
  · rw [State.incBy_recovery, State.updSession_recovery]
  · rw [State.updSession_recovery]
@[simp] theorem State.heard_judge (s : State) (k n : Nat) : (s.heard k n).judge = s.judge := by
  unfold State.heard; simp only; split
  · rw [State.incBy_judge, State.updSession_judge]
  · rw [State.updSession_judge]
@[simp] theorem State.heard_leaving (s : State) (k n : Nat) : (s.heard k n).leaving = s.leaving := by
  unfold State.heard; simp only; split
  · rw [State.incBy_leaving, State.updSession_leaving]
  · rw [State.updSession_leaving]
@[simp] theorem State.heard_gateChange (s : State) (k n : Nat) : (s.heard k n).gateChange = s.gateChange := by
  unfold State.heard; simp only; split
  · rw [State.incBy_gateChange, State.updSession_gateChange]
  · rw [State.updSession_gateChange]
@[simp] theorem State.heard_gateEdge (s : State) (k n : Nat) : (s.heard k n).gateEdge = s.gateEdge := by
  unfold State.heard; simp only; split
  · rw [State.incBy_gateEdge, State.updSession_gateEdge]
  · rw [State.updSession_gateEdge]
@[simp] theorem State.heard_heldTicks (s : State) (k n : Nat) : (s.heard k n).heldTicks = s.heldTicks := by
  unfold State.heard; simp only; split
  · rw [State.incBy_heldTicks, State.updSession_heldTicks]
  · rw [State.updSession_heldTicks]
@[simp] theorem State.heard_time (s : State) (k n : Nat) : (s.heard k n).time = s.time := by
  unfold State.heard; simp only; split
  · rw [State.incBy_time, State.updSession_time]
  · rw [State.updSession_time]
@[simp] theorem State.heard_servo (s : State) (k n : Nat) : (s.heard k n).servo = s.servo := by
  unfold State.heard; simp only; split
  · rw [State.incBy_servo, State.updSession_servo]
  · rw [State.updSession_servo]
@[simp] theorem State.heard_gnss (s : State) (k n : Nat) : (s.heard k n).gnss = s.gnss := by
  unfold State.heard; simp only; split
  · rw [State.incBy_gnss, State.updSession_gnss]
  · rw [State.updSession_gnss]
@[simp] theorem State.heard_ptp (s : State) (k n : Nat) : (s.heard k n).ptp = s.ptp := by
  unfold State.heard; simp only; split
  · rw [State.incBy_ptp, State.updSession_ptp]
  · rw [State.updSession_ptp]
@[simp] theorem State.heard_departures (s : State) (k n : Nat) : (s.heard k n).departures = s.departures := by
  unfold State.heard; simp only; split
  · rw [State.incBy_departures, State.updSession_departures]
  · rw [State.updSession_departures]
@[simp] theorem State.heard_synce (s : State) (k n : Nat) : (s.heard k n).synce = s.synce := by
  unfold State.heard; simp only; split
  · rw [State.incBy_synce, State.updSession_synce]
  · rw [State.updSession_synce]
@[simp] theorem State.heard_tio (s : State) (k n : Nat) : (s.heard k n).tio = s.tio := by
  unfold State.heard; simp only; split
  · rw [State.incBy_tio, State.updSession_tio]
  · rw [State.updSession_tio]
@[simp] theorem State.heard_clocks (s : State) (k n : Nat) : (s.heard k n).clocks = s.clocks := by
  unfold State.heard; simp only; split
  · rw [State.incBy_clocks, State.updSession_clocks]
  · rw [State.updSession_clocks]
@[simp] theorem State.heard_chans (s : State) (k n : Nat) : (s.heard k n).chans = s.chans := by
  unfold State.heard; simp only; split
  · rw [State.incBy_chans, State.updSession_chans]
  · rw [State.updSession_chans]
@[simp] theorem State.heard_bufs (s : State) (k n : Nat) : (s.heard k n).bufs = s.bufs := by
  unfold State.heard; simp only; split
  · rw [State.incBy_bufs, State.updSession_bufs]
  · rw [State.updSession_bufs]
@[simp] theorem State.heard_hodMem (s : State) (k n : Nat) : (s.heard k n).hodMem = s.hodMem := by
  unfold State.heard; simp only; split
  · rw [State.incBy_hodMem, State.updSession_hodMem]
  · rw [State.updSession_hodMem]
@[simp] theorem State.heard_bufCaches (s : State) (k n : Nat) : (s.heard k n).bufCaches = s.bufCaches := by
  unfold State.heard; simp only; split
  · rw [State.incBy_bufCaches, State.updSession_bufCaches]
  · rw [State.updSession_bufCaches]
@[simp] theorem State.heard_recv (s : State) (k n : Nat) : (s.heard k n).recv = s.recv := by
  unfold State.heard; simp only; split
  · rw [State.incBy_recv, State.updSession_recv]
  · rw [State.updSession_recv]
@[simp] theorem State.heard_quietNh (s : State) (k n : Nat) : (s.heard k n).quietNh = s.quietNh := by
  unfold State.heard; simp only; split
  · rw [State.incBy_quietNh, State.updSession_quietNh]
  · rw [State.updSession_quietNh]
@[simp] theorem State.heard_quietRw (s : State) (k n : Nat) : (s.heard k n).quietRw = s.quietRw := by
  unfold State.heard; simp only; split
  · rw [State.incBy_quietRw, State.updSession_quietRw]
  · rw [State.updSession_quietRw]
@[simp] theorem State.heard_physNh (s : State) (k n : Nat) : (s.heard k n).physNh = s.physNh := by
  unfold State.heard; simp only; split
  · rw [State.incBy_physNh, State.updSession_physNh]
  · rw [State.updSession_physNh]
@[simp] theorem State.heard_physRw (s : State) (k n : Nat) : (s.heard k n).physRw = s.physRw := by
  unfold State.heard; simp only; split
  · rw [State.incBy_physRw, State.updSession_physRw]
  · rw [State.updSession_physRw]
@[simp] theorem State.heard_seed (s : State) (k n : Nat) : (s.heard k n).seed = s.seed := by
  unfold State.heard; simp only; split
  · rw [State.incBy_seed, State.updSession_seed]
  · rw [State.updSession_seed]
@[simp] theorem State.heard_hostTab (s : State) (k n : Nat) : (s.heard k n).hostTab = s.hostTab := by
  unfold State.heard; simp only; split
  · rw [State.incBy_hostTab, State.updSession_hostTab]
  · rw [State.updSession_hostTab]
@[simp] theorem State.heard_filterEpoch (s : State) (k n : Nat) : (s.heard k n).filterEpoch = s.filterEpoch := by
  unfold State.heard; simp only; split
  · rw [State.incBy_filterEpoch, State.updSession_filterEpoch]
  · rw [State.updSession_filterEpoch]
@[simp] theorem State.heard_banks (s : State) (k n : Nat) : (s.heard k n).banks = s.banks := by
  unfold State.heard; simp only; split
  · rw [State.incBy_banks, State.updSession_banks]
  · rw [State.updSession_banks]
@[simp] theorem State.heard_sustain (s : State) (k n : Nat) : (s.heard k n).sustain = s.sustain := by
  unfold State.heard; simp only; split
  · rw [State.incBy_sustain, State.updSession_sustain]
  · rw [State.updSession_sustain]
@[simp] theorem State.heard_issued (s : State) (k n : Nat) : (s.heard k n).issued = s.issued := by
  unfold State.heard; simp only; split
  · rw [State.incBy_issued, State.updSession_issued]
  · rw [State.updSession_issued]
@[simp] theorem State.heard_owed (s : State) (k n : Nat) : (s.heard k n).owed = s.owed := by
  unfold State.heard; simp only; split
  · rw [State.incBy_owed, State.updSession_owed]
  · rw [State.updSession_owed]
@[simp] theorem State.heard_out (s : State) (k n : Nat) : (s.heard k n).out = s.out := by
  unfold State.heard; simp only; split
  · rw [State.incBy_out, State.updSession_out]
  · rw [State.updSession_out]
@[simp] theorem State.heard_enrolBar (s : State) (k n : Nat) : (s.heard k n).enrolBar = s.enrolBar := by
  unfold State.heard; simp only; split
  · rw [State.incBy_enrolBar, State.updSession_enrolBar]
  · rw [State.updSession_enrolBar]
@[simp] theorem State.heard_authFails (s : State) (k n : Nat) : (s.heard k n).authFails = s.authFails := by
  unfold State.heard; simp only; split
  · rw [State.incBy_authFails, State.updSession_authFails]
  · rw [State.updSession_authFails]
@[simp] theorem State.heard_committing (s : State) (k n : Nat) : (s.heard k n).committing = s.committing := by
  unfold State.heard; simp only; split
  · rw [State.incBy_committing, State.updSession_committing]
  · rw [State.updSession_committing]
@[simp] theorem State.heard_latest (s : State) (k n : Nat) : (s.heard k n).latest = s.latest := by
  unfold State.heard; simp only; split
  · rw [State.incBy_latest, State.updSession_latest]
  · rw [State.updSession_latest]
@[simp] theorem State.heard_latestSlot (s : State) (k n : Nat) : (s.heard k n).latestSlot = s.latestSlot := by
  unfold State.heard; simp only; split
  · rw [State.incBy_latestSlot, State.updSession_latestSlot]
  · rw [State.updSession_latestSlot]
@[simp] theorem State.heard_ruleAt (s : State) (k n : Nat) : (s.heard k n).ruleAt = s.ruleAt := by
  unfold State.heard; simp only; split
  · rw [State.incBy_ruleAt, State.updSession_ruleAt]
  · rw [State.updSession_ruleAt]
@[simp] theorem State.heard_flash (s : State) (k n : Nat) : (s.heard k n).flash = s.flash := by
  unfold State.heard; simp only; split
  · rw [State.incBy_flash, State.updSession_flash]
  · rw [State.updSession_flash]
@[simp] theorem State.heard_power (s : State) (k n : Nat) : (s.heard k n).power = s.power := by
  unfold State.heard; simp only; split
  · rw [State.incBy_power, State.updSession_power]
  · rw [State.updSession_power]
@[simp] theorem State.heard_latch (s : State) (k n : Nat) : (s.heard k n).latch = s.latch := by
  unfold State.heard; simp only; split
  · rw [State.incBy_latch, State.updSession_latch]
  · rw [State.updSession_latch]
@[simp] theorem State.heard_cart (s : State) (k n : Nat) : (s.heard k n).cart = s.cart := by
  unfold State.heard; simp only; split
  · rw [State.incBy_cart, State.updSession_cart]
  · rw [State.updSession_cart]
@[simp] theorem State.heard_bay (s : State) (k n : Nat) : (s.heard k n).bay = s.bay := by
  unfold State.heard; simp only; split
  · rw [State.incBy_bay, State.updSession_bay]
  · rw [State.updSession_bay]
@[simp] theorem State.heard_domOps (s : State) (k n : Nat) : (s.heard k n).domOps = s.domOps := by
  unfold State.heard; simp only; split
  · rw [State.incBy_domOps, State.updSession_domOps]
  · rw [State.updSession_domOps]
@[simp] theorem State.heard_reseed (s : State) (k n : Nat) : (s.heard k n).reseed = s.reseed := by
  unfold State.heard; simp only; split
  · rw [State.incBy_reseed, State.updSession_reseed]
  · rw [State.updSession_reseed]
@[simp] theorem State.heard_ctls (s : State) (k n : Nat) : (s.heard k n).ctls = s.ctls := by
  unfold State.heard; simp only; split
  · rw [State.incBy_ctls, State.updSession_ctls]
  · rw [State.updSession_ctls]
@[simp] theorem State.heard_silence (s : State) (k n : Nat) : (s.heard k n).silence = s.silence := by
  unfold State.heard; simp only; split
  · rw [State.incBy_silence, State.updSession_silence]
  · rw [State.updSession_silence]
@[simp] theorem State.heard_swap (s : State) (k n : Nat) : (s.heard k n).swap = s.swap := by
  unfold State.heard; simp only; split
  · rw [State.incBy_swap, State.updSession_swap]
  · rw [State.updSession_swap]
@[simp] theorem State.heard_swapTries (s : State) (k n : Nat) : (s.heard k n).swapTries = s.swapTries := by
  unfold State.heard; simp only; split
  · rw [State.incBy_swapTries, State.updSession_swapTries]
  · rw [State.updSession_swapTries]
@[simp] theorem State.heard_swapAt (s : State) (k n : Nat) : (s.heard k n).swapAt = s.swapAt := by
  unfold State.heard; simp only; split
  · rw [State.incBy_swapAt, State.updSession_swapAt]
  · rw [State.updSession_swapAt]
@[simp] theorem State.heard_swapDay (s : State) (k n : Nat) : (s.heard k n).swapDay = s.swapDay := by
  unfold State.heard; simp only; split
  · rw [State.incBy_swapDay, State.updSession_swapDay]
  · rw [State.updSession_swapDay]
@[simp] theorem State.heard_resync (s : State) (k n : Nat) : (s.heard k n).resync = s.resync := by
  unfold State.heard; simp only; split
  · rw [State.incBy_resync, State.updSession_resync]
  · rw [State.updSession_resync]
@[simp] theorem State.heard_fw (s : State) (k n : Nat) : (s.heard k n).fw = s.fw := by
  unfold State.heard; simp only; split
  · rw [State.incBy_fw, State.updSession_fw]
  · rw [State.updSession_fw]
@[simp] theorem State.heard_flushes (s : State) (k n : Nat) : (s.heard k n).flushes = s.flushes := by
  unfold State.heard; simp only; split
  · rw [State.incBy_flushes, State.updSession_flushes]
  · rw [State.updSession_flushes]
@[simp] theorem State.heard_bulks (s : State) (k n : Nat) : (s.heard k n).bulks = s.bulks := by
  unfold State.heard; simp only; split
  · rw [State.incBy_bulks, State.updSession_bulks]
  · rw [State.updSession_bulks]
@[simp] theorem State.heard_snaps (s : State) (k n : Nat) : (s.heard k n).snaps = s.snaps := by
  unfold State.heard; simp only; split
  · rw [State.incBy_snaps, State.updSession_snaps]
  · rw [State.updSession_snaps]
@[simp] theorem State.heard_recordAt (s : State) (k n : Nat) : (s.heard k n).recordAt = s.recordAt := by
  unfold State.heard; simp only; split
  · rw [State.incBy_recordAt, State.updSession_recordAt]
  · rw [State.updSession_recordAt]
@[simp] theorem State.heard_tx (s : State) (k n : Nat) : (s.heard k n).tx = s.tx := by
  unfold State.heard; simp only; split
  · rw [State.incBy_tx, State.updSession_tx]
  · rw [State.updSession_tx]

/-! ### `State.issue` -/

@[simp] theorem State.issue_pending (s : State) (k : Nat) (r : Request) : (s.issue k r).pending = s.pending := rfl
@[simp] theorem State.issue_rc (s : State) (k : Nat) (r : Request) : (s.issue k r).rc = s.rc := rfl
@[simp] theorem State.issue_clk (s : State) (k : Nat) (r : Request) : (s.issue k r).clk = s.clk := rfl
@[simp] theorem State.issue_regs (s : State) (k : Nat) (r : Request) : (s.issue k r).regs = s.regs := rfl
@[simp] theorem State.issue_faults (s : State) (k : Nat) (r : Request) : (s.issue k r).faults = s.faults := rfl
@[simp] theorem State.issue_drawn (s : State) (k : Nat) (r : Request) : (s.issue k r).drawn = s.drawn := rfl
@[simp] theorem State.issue_slots (s : State) (k : Nat) (r : Request) : (s.issue k r).slots = s.slots := rfl
@[simp] theorem State.issue_ports (s : State) (k : Nat) (r : Request) : (s.issue k r).ports = s.ports := rfl
@[simp] theorem State.issue_groups (s : State) (k : Nat) (r : Request) : (s.issue k r).groups = s.groups := rfl
@[simp] theorem State.issue_pa (s : State) (k : Nat) (r : Request) : (s.issue k r).pa = s.pa := rfl
@[simp] theorem State.issue_pb (s : State) (k : Nat) (r : Request) : (s.issue k r).pb = s.pb := rfl
@[simp] theorem State.issue_courses (s : State) (k : Nat) (r : Request) : (s.issue k r).courses = s.courses := rfl
@[simp] theorem State.issue_joins (s : State) (k : Nat) (r : Request) : (s.issue k r).joins = s.joins := rfl
@[simp] theorem State.issue_bonds (s : State) (k : Nat) (r : Request) : (s.issue k r).bonds = s.bonds := rfl
@[simp] theorem State.issue_recovery (s : State) (k : Nat) (r : Request) : (s.issue k r).recovery = s.recovery := rfl
@[simp] theorem State.issue_judge (s : State) (k : Nat) (r : Request) : (s.issue k r).judge = s.judge := rfl
@[simp] theorem State.issue_leaving (s : State) (k : Nat) (r : Request) : (s.issue k r).leaving = s.leaving := rfl
@[simp] theorem State.issue_gateChange (s : State) (k : Nat) (r : Request) : (s.issue k r).gateChange = s.gateChange := rfl
@[simp] theorem State.issue_gateEdge (s : State) (k : Nat) (r : Request) : (s.issue k r).gateEdge = s.gateEdge := rfl
@[simp] theorem State.issue_heldTicks (s : State) (k : Nat) (r : Request) : (s.issue k r).heldTicks = s.heldTicks := rfl
@[simp] theorem State.issue_time (s : State) (k : Nat) (r : Request) : (s.issue k r).time = s.time := rfl
@[simp] theorem State.issue_servo (s : State) (k : Nat) (r : Request) : (s.issue k r).servo = s.servo := rfl
@[simp] theorem State.issue_gnss (s : State) (k : Nat) (r : Request) : (s.issue k r).gnss = s.gnss := rfl
@[simp] theorem State.issue_ptp (s : State) (k : Nat) (r : Request) : (s.issue k r).ptp = s.ptp := rfl
@[simp] theorem State.issue_departures (s : State) (k : Nat) (r : Request) : (s.issue k r).departures = s.departures := rfl
@[simp] theorem State.issue_synce (s : State) (k : Nat) (r : Request) : (s.issue k r).synce = s.synce := rfl
@[simp] theorem State.issue_tio (s : State) (k : Nat) (r : Request) : (s.issue k r).tio = s.tio := rfl
@[simp] theorem State.issue_clocks (s : State) (k : Nat) (r : Request) : (s.issue k r).clocks = s.clocks := rfl
@[simp] theorem State.issue_chans (s : State) (k : Nat) (r : Request) : (s.issue k r).chans = s.chans := rfl
@[simp] theorem State.issue_bufs (s : State) (k : Nat) (r : Request) : (s.issue k r).bufs = s.bufs := rfl
@[simp] theorem State.issue_hodMem (s : State) (k : Nat) (r : Request) : (s.issue k r).hodMem = s.hodMem := rfl
@[simp] theorem State.issue_bufCaches (s : State) (k : Nat) (r : Request) : (s.issue k r).bufCaches = s.bufCaches := rfl
@[simp] theorem State.issue_recv (s : State) (k : Nat) (r : Request) : (s.issue k r).recv = s.recv := rfl
@[simp] theorem State.issue_quietNh (s : State) (k : Nat) (r : Request) : (s.issue k r).quietNh = s.quietNh := rfl
@[simp] theorem State.issue_quietRw (s : State) (k : Nat) (r : Request) : (s.issue k r).quietRw = s.quietRw := rfl
@[simp] theorem State.issue_physNh (s : State) (k : Nat) (r : Request) : (s.issue k r).physNh = s.physNh := rfl
@[simp] theorem State.issue_physRw (s : State) (k : Nat) (r : Request) : (s.issue k r).physRw = s.physRw := rfl
@[simp] theorem State.issue_seed (s : State) (k : Nat) (r : Request) : (s.issue k r).seed = s.seed := rfl
@[simp] theorem State.issue_hostTab (s : State) (k : Nat) (r : Request) : (s.issue k r).hostTab = s.hostTab := rfl
@[simp] theorem State.issue_filterEpoch (s : State) (k : Nat) (r : Request) : (s.issue k r).filterEpoch = s.filterEpoch := rfl
@[simp] theorem State.issue_banks (s : State) (k : Nat) (r : Request) : (s.issue k r).banks = s.banks := rfl
@[simp] theorem State.issue_sustain (s : State) (k : Nat) (r : Request) : (s.issue k r).sustain = s.sustain := rfl
@[simp] theorem State.issue_owed (s : State) (k : Nat) (r : Request) : (s.issue k r).owed = s.owed := rfl
@[simp] theorem State.issue_out (s : State) (k : Nat) (r : Request) : (s.issue k r).out = s.out := rfl
@[simp] theorem State.issue_enrolBar (s : State) (k : Nat) (r : Request) : (s.issue k r).enrolBar = s.enrolBar := rfl
@[simp] theorem State.issue_authFails (s : State) (k : Nat) (r : Request) : (s.issue k r).authFails = s.authFails := rfl
@[simp] theorem State.issue_committing (s : State) (k : Nat) (r : Request) : (s.issue k r).committing = s.committing := rfl
@[simp] theorem State.issue_latest (s : State) (k : Nat) (r : Request) : (s.issue k r).latest = s.latest := rfl
@[simp] theorem State.issue_latestSlot (s : State) (k : Nat) (r : Request) : (s.issue k r).latestSlot = s.latestSlot := rfl
@[simp] theorem State.issue_ruleAt (s : State) (k : Nat) (r : Request) : (s.issue k r).ruleAt = s.ruleAt := rfl
@[simp] theorem State.issue_flash (s : State) (k : Nat) (r : Request) : (s.issue k r).flash = s.flash := rfl
@[simp] theorem State.issue_power (s : State) (k : Nat) (r : Request) : (s.issue k r).power = s.power := rfl
@[simp] theorem State.issue_latch (s : State) (k : Nat) (r : Request) : (s.issue k r).latch = s.latch := rfl
@[simp] theorem State.issue_cart (s : State) (k : Nat) (r : Request) : (s.issue k r).cart = s.cart := rfl
@[simp] theorem State.issue_bay (s : State) (k : Nat) (r : Request) : (s.issue k r).bay = s.bay := rfl
@[simp] theorem State.issue_domOps (s : State) (k : Nat) (r : Request) : (s.issue k r).domOps = s.domOps := rfl
@[simp] theorem State.issue_reseed (s : State) (k : Nat) (r : Request) : (s.issue k r).reseed = s.reseed := rfl
@[simp] theorem State.issue_ctls (s : State) (k : Nat) (r : Request) : (s.issue k r).ctls = s.ctls := rfl
@[simp] theorem State.issue_silence (s : State) (k : Nat) (r : Request) : (s.issue k r).silence = s.silence := rfl
@[simp] theorem State.issue_swap (s : State) (k : Nat) (r : Request) : (s.issue k r).swap = s.swap := rfl
@[simp] theorem State.issue_swapTries (s : State) (k : Nat) (r : Request) : (s.issue k r).swapTries = s.swapTries := rfl
@[simp] theorem State.issue_swapAt (s : State) (k : Nat) (r : Request) : (s.issue k r).swapAt = s.swapAt := rfl
@[simp] theorem State.issue_swapDay (s : State) (k : Nat) (r : Request) : (s.issue k r).swapDay = s.swapDay := rfl
@[simp] theorem State.issue_resync (s : State) (k : Nat) (r : Request) : (s.issue k r).resync = s.resync := rfl
@[simp] theorem State.issue_fw (s : State) (k : Nat) (r : Request) : (s.issue k r).fw = s.fw := rfl
@[simp] theorem State.issue_flushes (s : State) (k : Nat) (r : Request) : (s.issue k r).flushes = s.flushes := rfl
@[simp] theorem State.issue_bulks (s : State) (k : Nat) (r : Request) : (s.issue k r).bulks = s.bulks := rfl
@[simp] theorem State.issue_snaps (s : State) (k : Nat) (r : Request) : (s.issue k r).snaps = s.snaps := rfl
@[simp] theorem State.issue_recordAt (s : State) (k : Nat) (r : Request) : (s.issue k r).recordAt = s.recordAt := rfl
@[simp] theorem State.issue_tx (s : State) (k : Nat) (r : Request) : (s.issue k r).tx = s.tx := rfl

/-! ### `State.updRequest` -/

@[simp] theorem State.updRequest_pending (s : State) (k tg : Nat) (f : Request → Request) : (s.updRequest k tg f).pending = s.pending := rfl
@[simp] theorem State.updRequest_rc (s : State) (k tg : Nat) (f : Request → Request) : (s.updRequest k tg f).rc = s.rc := rfl
@[simp] theorem State.updRequest_clk (s : State) (k tg : Nat) (f : Request → Request) : (s.updRequest k tg f).clk = s.clk := rfl
@[simp] theorem State.updRequest_regs (s : State) (k tg : Nat) (f : Request → Request) : (s.updRequest k tg f).regs = s.regs := rfl
@[simp] theorem State.updRequest_faults (s : State) (k tg : Nat) (f : Request → Request) : (s.updRequest k tg f).faults = s.faults := rfl
@[simp] theorem State.updRequest_drawn (s : State) (k tg : Nat) (f : Request → Request) : (s.updRequest k tg f).drawn = s.drawn := rfl
@[simp] theorem State.updRequest_slots (s : State) (k tg : Nat) (f : Request → Request) : (s.updRequest k tg f).slots = s.slots := rfl
@[simp] theorem State.updRequest_ports (s : State) (k tg : Nat) (f : Request → Request) : (s.updRequest k tg f).ports = s.ports := rfl
@[simp] theorem State.updRequest_groups (s : State) (k tg : Nat) (f : Request → Request) : (s.updRequest k tg f).groups = s.groups := rfl
@[simp] theorem State.updRequest_pa (s : State) (k tg : Nat) (f : Request → Request) : (s.updRequest k tg f).pa = s.pa := rfl
@[simp] theorem State.updRequest_pb (s : State) (k tg : Nat) (f : Request → Request) : (s.updRequest k tg f).pb = s.pb := rfl
@[simp] theorem State.updRequest_courses (s : State) (k tg : Nat) (f : Request → Request) : (s.updRequest k tg f).courses = s.courses := rfl
@[simp] theorem State.updRequest_joins (s : State) (k tg : Nat) (f : Request → Request) : (s.updRequest k tg f).joins = s.joins := rfl
@[simp] theorem State.updRequest_bonds (s : State) (k tg : Nat) (f : Request → Request) : (s.updRequest k tg f).bonds = s.bonds := rfl
@[simp] theorem State.updRequest_recovery (s : State) (k tg : Nat) (f : Request → Request) : (s.updRequest k tg f).recovery = s.recovery := rfl
@[simp] theorem State.updRequest_judge (s : State) (k tg : Nat) (f : Request → Request) : (s.updRequest k tg f).judge = s.judge := rfl
@[simp] theorem State.updRequest_leaving (s : State) (k tg : Nat) (f : Request → Request) : (s.updRequest k tg f).leaving = s.leaving := rfl
@[simp] theorem State.updRequest_gateChange (s : State) (k tg : Nat) (f : Request → Request) : (s.updRequest k tg f).gateChange = s.gateChange := rfl
@[simp] theorem State.updRequest_gateEdge (s : State) (k tg : Nat) (f : Request → Request) : (s.updRequest k tg f).gateEdge = s.gateEdge := rfl
@[simp] theorem State.updRequest_heldTicks (s : State) (k tg : Nat) (f : Request → Request) : (s.updRequest k tg f).heldTicks = s.heldTicks := rfl
@[simp] theorem State.updRequest_time (s : State) (k tg : Nat) (f : Request → Request) : (s.updRequest k tg f).time = s.time := rfl
@[simp] theorem State.updRequest_servo (s : State) (k tg : Nat) (f : Request → Request) : (s.updRequest k tg f).servo = s.servo := rfl
@[simp] theorem State.updRequest_gnss (s : State) (k tg : Nat) (f : Request → Request) : (s.updRequest k tg f).gnss = s.gnss := rfl
@[simp] theorem State.updRequest_ptp (s : State) (k tg : Nat) (f : Request → Request) : (s.updRequest k tg f).ptp = s.ptp := rfl
@[simp] theorem State.updRequest_departures (s : State) (k tg : Nat) (f : Request → Request) : (s.updRequest k tg f).departures = s.departures := rfl
@[simp] theorem State.updRequest_synce (s : State) (k tg : Nat) (f : Request → Request) : (s.updRequest k tg f).synce = s.synce := rfl
@[simp] theorem State.updRequest_tio (s : State) (k tg : Nat) (f : Request → Request) : (s.updRequest k tg f).tio = s.tio := rfl
@[simp] theorem State.updRequest_clocks (s : State) (k tg : Nat) (f : Request → Request) : (s.updRequest k tg f).clocks = s.clocks := rfl
@[simp] theorem State.updRequest_chans (s : State) (k tg : Nat) (f : Request → Request) : (s.updRequest k tg f).chans = s.chans := rfl
@[simp] theorem State.updRequest_bufs (s : State) (k tg : Nat) (f : Request → Request) : (s.updRequest k tg f).bufs = s.bufs := rfl
@[simp] theorem State.updRequest_hodMem (s : State) (k tg : Nat) (f : Request → Request) : (s.updRequest k tg f).hodMem = s.hodMem := rfl
@[simp] theorem State.updRequest_bufCaches (s : State) (k tg : Nat) (f : Request → Request) : (s.updRequest k tg f).bufCaches = s.bufCaches := rfl
@[simp] theorem State.updRequest_recv (s : State) (k tg : Nat) (f : Request → Request) : (s.updRequest k tg f).recv = s.recv := rfl
@[simp] theorem State.updRequest_quietNh (s : State) (k tg : Nat) (f : Request → Request) : (s.updRequest k tg f).quietNh = s.quietNh := rfl
@[simp] theorem State.updRequest_quietRw (s : State) (k tg : Nat) (f : Request → Request) : (s.updRequest k tg f).quietRw = s.quietRw := rfl
@[simp] theorem State.updRequest_physNh (s : State) (k tg : Nat) (f : Request → Request) : (s.updRequest k tg f).physNh = s.physNh := rfl
@[simp] theorem State.updRequest_physRw (s : State) (k tg : Nat) (f : Request → Request) : (s.updRequest k tg f).physRw = s.physRw := rfl
@[simp] theorem State.updRequest_seed (s : State) (k tg : Nat) (f : Request → Request) : (s.updRequest k tg f).seed = s.seed := rfl
@[simp] theorem State.updRequest_hostTab (s : State) (k tg : Nat) (f : Request → Request) : (s.updRequest k tg f).hostTab = s.hostTab := rfl
@[simp] theorem State.updRequest_filterEpoch (s : State) (k tg : Nat) (f : Request → Request) : (s.updRequest k tg f).filterEpoch = s.filterEpoch := rfl
@[simp] theorem State.updRequest_banks (s : State) (k tg : Nat) (f : Request → Request) : (s.updRequest k tg f).banks = s.banks := rfl
@[simp] theorem State.updRequest_sustain (s : State) (k tg : Nat) (f : Request → Request) : (s.updRequest k tg f).sustain = s.sustain := rfl
@[simp] theorem State.updRequest_issued (s : State) (k tg : Nat) (f : Request → Request) : (s.updRequest k tg f).issued = s.issued := rfl
@[simp] theorem State.updRequest_owed (s : State) (k tg : Nat) (f : Request → Request) : (s.updRequest k tg f).owed = s.owed := rfl
@[simp] theorem State.updRequest_out (s : State) (k tg : Nat) (f : Request → Request) : (s.updRequest k tg f).out = s.out := rfl
@[simp] theorem State.updRequest_enrolBar (s : State) (k tg : Nat) (f : Request → Request) : (s.updRequest k tg f).enrolBar = s.enrolBar := rfl
@[simp] theorem State.updRequest_authFails (s : State) (k tg : Nat) (f : Request → Request) : (s.updRequest k tg f).authFails = s.authFails := rfl
@[simp] theorem State.updRequest_committing (s : State) (k tg : Nat) (f : Request → Request) : (s.updRequest k tg f).committing = s.committing := rfl
@[simp] theorem State.updRequest_latest (s : State) (k tg : Nat) (f : Request → Request) : (s.updRequest k tg f).latest = s.latest := rfl
@[simp] theorem State.updRequest_latestSlot (s : State) (k tg : Nat) (f : Request → Request) : (s.updRequest k tg f).latestSlot = s.latestSlot := rfl
@[simp] theorem State.updRequest_ruleAt (s : State) (k tg : Nat) (f : Request → Request) : (s.updRequest k tg f).ruleAt = s.ruleAt := rfl
@[simp] theorem State.updRequest_flash (s : State) (k tg : Nat) (f : Request → Request) : (s.updRequest k tg f).flash = s.flash := rfl
@[simp] theorem State.updRequest_power (s : State) (k tg : Nat) (f : Request → Request) : (s.updRequest k tg f).power = s.power := rfl
@[simp] theorem State.updRequest_latch (s : State) (k tg : Nat) (f : Request → Request) : (s.updRequest k tg f).latch = s.latch := rfl
@[simp] theorem State.updRequest_cart (s : State) (k tg : Nat) (f : Request → Request) : (s.updRequest k tg f).cart = s.cart := rfl
@[simp] theorem State.updRequest_bay (s : State) (k tg : Nat) (f : Request → Request) : (s.updRequest k tg f).bay = s.bay := rfl
@[simp] theorem State.updRequest_domOps (s : State) (k tg : Nat) (f : Request → Request) : (s.updRequest k tg f).domOps = s.domOps := rfl
@[simp] theorem State.updRequest_reseed (s : State) (k tg : Nat) (f : Request → Request) : (s.updRequest k tg f).reseed = s.reseed := rfl
@[simp] theorem State.updRequest_ctls (s : State) (k tg : Nat) (f : Request → Request) : (s.updRequest k tg f).ctls = s.ctls := rfl
@[simp] theorem State.updRequest_silence (s : State) (k tg : Nat) (f : Request → Request) : (s.updRequest k tg f).silence = s.silence := rfl
@[simp] theorem State.updRequest_swap (s : State) (k tg : Nat) (f : Request → Request) : (s.updRequest k tg f).swap = s.swap := rfl
@[simp] theorem State.updRequest_swapTries (s : State) (k tg : Nat) (f : Request → Request) : (s.updRequest k tg f).swapTries = s.swapTries := rfl
@[simp] theorem State.updRequest_swapAt (s : State) (k tg : Nat) (f : Request → Request) : (s.updRequest k tg f).swapAt = s.swapAt := rfl
@[simp] theorem State.updRequest_swapDay (s : State) (k tg : Nat) (f : Request → Request) : (s.updRequest k tg f).swapDay = s.swapDay := rfl
@[simp] theorem State.updRequest_resync (s : State) (k tg : Nat) (f : Request → Request) : (s.updRequest k tg f).resync = s.resync := rfl
@[simp] theorem State.updRequest_fw (s : State) (k tg : Nat) (f : Request → Request) : (s.updRequest k tg f).fw = s.fw := rfl
@[simp] theorem State.updRequest_flushes (s : State) (k tg : Nat) (f : Request → Request) : (s.updRequest k tg f).flushes = s.flushes := rfl
@[simp] theorem State.updRequest_bulks (s : State) (k tg : Nat) (f : Request → Request) : (s.updRequest k tg f).bulks = s.bulks := rfl
@[simp] theorem State.updRequest_snaps (s : State) (k tg : Nat) (f : Request → Request) : (s.updRequest k tg f).snaps = s.snaps := rfl
@[simp] theorem State.updRequest_recordAt (s : State) (k tg : Nat) (f : Request → Request) : (s.updRequest k tg f).recordAt = s.recordAt := rfl
@[simp] theorem State.updRequest_tx (s : State) (k tg : Nat) (f : Request → Request) : (s.updRequest k tg f).tx = s.tx := rfl

/-! ### Sessions and messages -/

@[simp] theorem State.rd_updSession (s : State) (p i k : Nat) (f : Session → Session) : (s.updSession k f).rd p i = s.rd p i := rfl
@[simp] theorem State.rd_updRequest (s : State) (p i k tg : Nat) (f : Request → Request) : (s.updRequest k tg f).rd p i = s.rd p i := rfl
@[simp] theorem State.rd_issue (s : State) (p i k : Nat) (r : Request) : (s.issue k r).rd p i = s.rd p i := rfl
@[simp] theorem State.session_updSession_same (s : State) (k : Nat) (f : Session → Session) :
    (s.updSession k f).session k = f (s.session k) := by
  simp [State.session, State.updSession]
theorem State.session_updSession_ne (s : State) {k j : Nat} (f : Session → Session) (h : j ≠ k) :
    (s.updSession k f).session j = s.session j := by
  simp [State.session, State.updSession, Tab.get_upd_ne _ _ _ h]

/-- A payload of at most one piece is one piece. -/
theorem pieces_short (z n : Nat) {l : List Byte} (h : l.length ≤ z) : pieces z n l = [l] := by
  cases n <;> simp [pieces, h]

/-- A message whose payload fits one fragment is sent as it stands (R443). -/
theorem Msg.split_short {m : Msg} (h : m.payload.length ≤ 4096) : m.split = [m] := by
  simp [Msg.split, pieces_short _ _ h]

/-- A message without payload is one fragment. -/
@[simp] theorem Msg.split_nil (c fl k tg op st p i : Nat) : Msg.split ⟨c, fl, k, tg, op, st, p, i, []⟩ = [⟨c, fl, k, tg, op, st, p, i, []⟩] :=
  Msg.split_short (by simp)

/-- A message is sent after those sent before, in its fragments. -/
@[simp] theorem State.out_sendMsg (s : State) (k fl tg op st p i : Nat) (b : List Byte) :
    (s.sendMsg k fl tg op st p i b).out = s.out ++ Msg.split ⟨k / 4, fl, k % 4, tg, op, st, p, i, b⟩ := by
  unfold State.sendMsg; simp only; split
  · rw [State.incBy_out]
  · rfl

/-- An answer carries A0h, and E0h where the request was accepted before. -/
@[simp] theorem State.out_reply (s : State) (k : Nat) (r : Request) (st : Nat) (b : List Byte) :
    (s.reply k r st b).out =
      s.out ++ Msg.split ⟨k / 4, if r.accepted then 0xE0 else 0xA0, k % 4, r.tag, r.op, st, r.pid, r.inst, b⟩ := by
  unfold State.reply; simp only [State.out_sendMsg, State.updSession_out]

/-- A message writes no parameter but PID 0414h. -/
theorem State.rd_sendMsg (s : State) (k fl tg op st p i : Nat) (b : List Byte) {x j : Nat} (hj : j < 2 ^ 32)
    (h : (x, j) ≠ (0x0414, 2 * (k % 4) + 1)) : (s.sendMsg k fl tg op st p i b).rd x j = s.rd x j := by
  unfold State.sendMsg; simp only; split
  · refine State.rd_wr_ne _ _ ?_
    intro e
    have := (regKey_inj hj (by omega)).1 e
    exact h (by rw [this.1, this.2])
  · rfl

theorem State.rd_reply (s : State) (k : Nat) (r : Request) (st : Nat) (b : List Byte) {x j : Nat} (hj : j < 2 ^ 32)
    (h : (x, j) ≠ (0x0414, 2 * (k % 4) + 1)) : (s.reply k r st b).rd x j = s.rd x j := by
  unfold State.reply; simp only; rw [State.rd_sendMsg _ _ _ _ _ _ _ _ _ hj h, State.rd_updSession]

/-- A message received writes no parameter but PID 0414h. -/
theorem State.rd_heard (s : State) (k n : Nat) {x j : Nat} (hj : j < 2 ^ 32)
    (h : (x, j) ≠ (0x0414, 2 * (k % 4))) : (s.heard k n).rd x j = s.rd x j := by
  unfold State.heard; simp only; split
  · refine (State.rd_wr_ne _ _ ?_).trans (State.rd_updSession _ _ _ _ _)
    intro e
    have := (regKey_inj hj (by omega)).1 e
    exact h (by rw [this.1, this.2])
  · exact State.rd_updSession _ _ _ _ _


/-! ### A request on a session that is ready -/

theorem foldl_requests_set (t : Tab Session) (k : Nat) (x : Session) (h : ∀ e ∈ t, e.2.requests = []) (a : Nat) :
    (Tab.set t k x).foldl (fun a e => a + e.2.requests.length) a = a + x.requests.length := by
  have flat : ∀ (l : Tab Session) (b : Nat), (∀ e ∈ l, e.2.requests = []) →
      l.foldl (fun a e => a + e.2.requests.length) b = b := by
    intro l
    induction l with
    | nil => intro b _; rfl
    | cons e l ih =>
      intro b hl
      rw [List.foldl_cons, hl e (by simp)]
      exact ih b fun f hf => hl f (by simp [hf])
  induction t generalizing a with
  | nil => simp [Tab.set]
  | cons e t ih =>
    obtain ⟨j, y⟩ := e
    have hy : y.requests = [] := h (j, y) (by simp)
    have ht : ∀ f ∈ t, f.2.requests = [] := fun f hf => h f (by simp [hf])
    unfold Tab.set
    split
    · simp only [List.foldl_cons, hy, List.length_nil, Nat.add_zero]
      exact flat t _ ht
    · split
      · simp only [List.foldl_cons]
        exact flat t _ ht
      · simp only [List.foldl_cons, hy, List.length_nil, Nat.add_zero]
        exact ih ht a

theorem flatMap_requests_set {β : Type} (t : Tab Session) (k : Nat) (x : Session) (h : ∀ e ∈ t, e.2.requests = [])
    (p : Nat × Session → Bool) (f : Nat × Session → List β) (hf : ∀ e, e.2.requests = [] → f e = []) :
    ((Tab.set t k x).filter p).flatMap f = if p (k, x) then f (k, x) else [] := by
  have flat : ∀ (l : Tab Session), (∀ e ∈ l, e.2.requests = []) → (l.filter p).flatMap f = [] := by
    intro l hl
    refine List.flatMap_eq_nil_iff.2 fun e he => hf e (hl e (List.mem_filter.1 he).1)
  induction t with
  | nil => unfold Tab.set; by_cases hp : p (k, x) = true <;> simp [hp]
  | cons e t ih =>
    obtain ⟨j, y⟩ := e
    have hy : f (j, y) = [] := hf _ (h (j, y) (by simp))
    have ht : ∀ g ∈ t, g.2.requests = [] := fun g hg => h g (by simp [hg])
    have hall : ∀ g ∈ (j, y) :: t, g.2.requests = [] := h
    unfold Tab.set
    split
    · have := flat _ hall
      rw [List.filter_cons]
      split
      · rw [List.flatMap_cons, this, List.append_nil]
      · exact this
    · split
      · have := flat t ht
        rw [List.filter_cons]
        split
        · rw [List.flatMap_cons, this, List.append_nil]
        · exact this
      · rw [List.filter_cons]
        split
        · rw [List.flatMap_cons, hy, List.nil_append]; exact ih ht
        · exact ih ht

/-- A session of a table in which no session has an outstanding request has none. -/
theorem requests_nil {s : State} (h : ∀ e ∈ s.sessions, e.2.requests = []) (k : Nat) : (s.session k).requests = [] := by
  unfold State.session Tab.get
  cases e : Tab.find? s.sessions k with
  | none => rfl
  | some x =>
    have mem : ∀ (t : Tab Session), Tab.find? t k = some x → (k, x) ∈ t := by
      intro t
      induction t with
      | nil => intro h; cases h
      | cons e t ih =>
        obtain ⟨j, y⟩ := e
        unfold Tab.find?
        split
        · intro h; cases h; simp [*]
        · intro h; exact List.mem_cons_of_mem _ (ih h)
    exact h _ (mem _ e)

theorem key_div (q : Req) : Req.key q / 4 = q.ctl.val := by unfold Req.key sessionKey; omega
theorem key_mod (q : Req) : Req.key q % 4 = q.sess.val := by unfold Req.key sessionKey; omega

/-- Answers that are due: none. -/
theorem State.settleAll_none {s : State} (h : s.owed = []) : s.settleAll = s := by
  cases s; simp only [State.settleAll] at *; subst h; rfl

/-- The one request outstanding is carried out at once, where nothing else holds it (14 R446, R448). -/
theorem State.settle_single {s : State} {k : Nat} {x : Session} {r : Request} {t : Tab Session} {c : Nat} (hs : s.sessions = Tab.set t k x)
    (ht : ∀ e ∈ t, e.2.requests = []) (hx : x.requests = [r]) (hr : r.started = false) (ho : s.owed = []) (hc : s.committing = none)
    (hh : s.holder = some c) (hk : k / 4 = c) (hopen : x.isOpen = true) (hserv : s.serving c = true) : s.settle = s.carryOut k r := by
  have hout : s.outstanding = 1 := by
    unfold State.outstanding
    rw [hs, foldl_requests_set t k x ht, hx]
    rfl
  have hp : (fun e : Nat × Session => s.holder == some (e.1 / 4) && e.2.isOpen) (k, x) = true := by simp [hh, hk, hopen]
  have hwait : s.commitWaits r = false := by
    have hany : s.openSessions.any (fun e => e.2.requests.any (fun q => q.commits && decide (q.order < r.order))) = false := by
      have key := flatMap_requests_set t k x ht (fun e => s.holder == some (e.1 / 4) && e.2.isOpen)
        (fun e => e.2.requests.filter (fun q => q.commits && decide (q.order < r.order))) (fun e he => by simp [he])
      rw [if_pos hp] at key
      simp only [hx] at key
      rw [Bool.eq_false_iff]
      intro hany
      obtain ⟨e, he, hq⟩ := List.any_eq_true.1 hany
      obtain ⟨q, hq, hlt⟩ := List.any_eq_true.1 hq
      have : q ∈ ((Tab.set t k x).filter (fun e => s.holder == some (e.1 / 4) && e.2.isOpen)).flatMap
          (fun e => e.2.requests.filter (fun q => q.commits && decide (q.order < r.order))) := by
        refine List.mem_flatMap.2 ⟨e, ?_, List.mem_filter.2 ⟨hq, hlt⟩⟩
        rw [← hs]; exact he
      rw [key] at this
      simp at this
    unfold State.commitWaits
    rw [hany, hc]; simp
  have hnext : s.nextRequest = some (k, r) := by
    unfold State.nextRequest State.openSessions
    rw [hs, flatMap_requests_set t k x ht _ _ (fun e he => by simp [he]), if_pos hp]
    have : s.mayBegin x r = true := by
      unfold State.mayBegin
      simp [hr, hx, hwait, Request.holds]
    simp [hx, this]
  unfold State.settle
  simp only [State.settleAll_none ho, hout]
  unfold State.serve
  have : s.active = c := by simp [State.active, hh]
  rw [this, hserv, hnext]
  rfl

/-- The request as it is outstanding. -/
def State.issuedAs (s : State) (r : Request) : Request := { r with since := s.clk, order := s.issued }

/-- A request of at most 65,536 bytes on a session that is ready for it is carried out at once. -/
theorem State.take_ready {s : State} {q : Req} {role : Nat} (h : Ready s q role) (op pid inst : Nat) {data : List Byte}
    (hd : data.length ≤ 65536) :
    s.take q op pid inst data = (((s.heard (Req.key q) (fragments data)).issue (Req.key q) (requestOf q op pid inst data)).carryOut
      (Req.key q) (s.issuedAs (requestOf q op pid inst data))) := by
  obtain ⟨h1, h2, h3, h4, h5, h6, h8, h9, h10, h11, h12⟩ := h
  have hserv : s.serving q.ctl.val = true := by simp [State.serving, h1, h2, h3, h4]
  have hk := key_div q
  have hnil := requests_nil h8 (Req.key q)
  have hsess : (s.heard (Req.key q) (fragments data)).sessions =
      Tab.set s.sessions (Req.key q) { s.session (Req.key q) with heard := s.clk } := by
    unfold State.heard; simp only; split
    · rfl
    · rfl
  have hreq : ((s.heard (Req.key q) (fragments data)).session (Req.key q)).requests = [] := by
    unfold State.session
    rw [hsess, Tab.get_set_same]
    exact hnil
  have hkey : sessionKey q.ctl q.sess = Req.key q := rfl
  unfold State.take State.receive
  rw [hkey]
  have hl : (s.session (Req.key q)).isOpen = true ∧ s.listens (Req.key q / 4) = true := by
    refine ⟨h9, ?_⟩
    rw [hk]; simp [State.listens, hserv]
  rw [if_pos hl]
  change (if _ then _ else _) = _
  have hskip : ((s.heard (Req.key q) (fragments data)).session (Req.key q)).skip.contains (requestOf q op pid inst data).tag = false := by
    unfold State.session
    rw [hsess, Tab.get_set_same]
    exact h12
  have hnone : (((s.heard (Req.key q) (fragments data)).session (Req.key q)).request (requestOf q op pid inst data).tag).isSome = false := by
    unfold Session.request
    rw [hreq]; rfl
  have hdata : (requestOf q op pid inst data).data = data := rfl
  simp only [hdata]
  change (if (((s.heard (Req.key q) (fragments data)).session (Req.key q)).skip.contains _) = true then _ else _) = _
  rw [hskip, if_neg (by simp), hnone, if_neg (by simp)]
  have hh : (s.heard (Req.key q) (fragments data)).holder = some q.ctl.val := by
    rw [← h1]; unfold State.holder
    rw [State.rd_heard _ _ _ (by decide) (by simp)]
  have hh' : ¬ ((s.heard (Req.key q) (fragments data)).holder ≠ some (Req.key q / 4)) := by
    rw [hk]; simpa using hh
  rw [if_neg hh', if_neg (by omega)]
  have e : (s.issuedAs (requestOf q op pid inst data)) = { requestOf q op pid inst data with since := s.clk, order := s.issued } := rfl
  have hclk : (s.heard (Req.key q) (fragments data)).clk = s.clk := State.heard_clk _ _ _
  have hiss : (s.heard (Req.key q) (fragments data)).issued = s.issued := State.heard_issued _ _ _
  have hall : ∀ e ∈ (s.heard (Req.key q) (fragments data)).sessions, e.2.requests = [] := by
    rw [hsess]
    intro e he
    rcases Tab.mem_set he with rfl | he
    · exact hnil
    · exact h8 e he
  refine State.settle_single (c := q.ctl.val)
    (x := { (s.heard (Req.key q) (fragments data)).session (Req.key q) with
      requests := ((s.heard (Req.key q) (fragments data)).session (Req.key q)).requests ++ [s.issuedAs (requestOf q op pid inst data)] })
    (t := (s.heard (Req.key q) (fragments data)).sessions) ?_ hall ?_ rfl ?_ ?_ ?_ hk ?_ ?_
  · rw [e, ← hclk, ← hiss]
    rfl
  · simp [hreq]
  · rw [State.issue_owed, State.heard_owed, h6]
  · rw [State.issue_committing, State.heard_committing, h5]
  · unfold State.holder; rw [State.rd_issue]; exact hh
  · show ((s.heard (Req.key q) (fragments data)).session (Req.key q)).isOpen = true
    unfold State.session; rw [hsess, Tab.get_set_same]; exact h9
  · have hbeats : (((s.heard (Req.key q) (fragments data)).issue (Req.key q) (requestOf q op pid inst data)).ctl q.ctl.val).beats = true := by
      unfold State.ctl; rw [State.issue_ctls, State.heard_ctls]; exact h3
    have hst : ((s.heard (Req.key q) (fragments data)).issue (Req.key q) (requestOf q op pid inst data)).ctlState q.ctl.val = 5 := by
      unfold State.ctlState
      rw [State.rd_issue, State.rd_heard _ _ _ (by omega) (by simp)]; exact h2
    have hho : ((s.heard (Req.key q) (fragments data)).issue (Req.key q) (requestOf q op pid inst data)).holder = some q.ctl.val := by
      unfold State.holder; rw [State.rd_issue]; exact hh
    simp [State.serving, hho, hst, hbeats, h4]



/-- The request as it is carried out. -/
def State.startedAs (s : State) (r : Request) : Request := { s.issuedAs r with started := true }

/-- The state in which a request on a session that is ready is carried out. -/
def State.inHand (s : State) (q : Req) (r : Request) : State :=
  ((s.heard (Req.key q) (fragments r.data)).issue (Req.key q) r).updRequest (Req.key q) r.tag (fun y => { y with started := true })

/-- A request that has arrived changes no parameter but PID 0414h. -/
theorem State.rd_inHand (s : State) (q : Req) (r : Request) {x j : Nat} (hj : j < 2 ^ 32) (h : (x, j) ≠ (0x0414, 2 * q.sess.val)) :
    (s.inHand q r).rd x j = s.rd x j := by
  unfold State.inHand
  rw [State.rd_updRequest, State.rd_issue, State.rd_heard _ _ _ hj (by rw [key_mod]; exact h)]

theorem State.rd_inHand_pid (s : State) (q : Req) (r : Request) {x j : Nat} (hj : j < 2 ^ 32) (h : x ≠ 0x0414) :
    (s.inHand q r).rd x j = s.rd x j := s.rd_inHand q r hj (by simp [h])

/-- What a session is when its request is carried out, but for its requests and the time of its last message. -/
def Session.like (x y : Session) : Prop :=
  x.isOpen = y.isOpen ∧ x.gen = y.gen ∧ x.role = y.role ∧ x.enrol = y.enrol ∧ x.bundle = y.bundle ∧ x.subs = y.subs ∧ x.queue = y.queue

theorem State.session_heard (s : State) (k n : Nat) : (s.heard k n).session k = { s.session k with heard := s.clk } := by
  have : (s.heard k n).sessions = Tab.set s.sessions k { s.session k with heard := s.clk } := by
    unfold State.heard; simp only; split <;> rfl
  unfold State.session; rw [this, Tab.get_set_same]; rfl

theorem State.session_inHand (s : State) (q : Req) (r : Request) :
    Session.like ((s.inHand q r).session (Req.key q)) (s.session (Req.key q)) := by
  unfold State.inHand State.updRequest
  rw [State.session_updSession_same]
  unfold State.issue
  simp only [State.session_updSession_same]
  change Session.like { ((s.heard (Req.key q) (fragments r.data)).session (Req.key q)) with requests := _ } _
  rw [State.session_heard]
  exact ⟨rfl, rfl, rfl, rfl, rfl, rfl, rfl⟩

theorem State.whoOf_inHand (s : State) (q : Req) (r r' : Request) :
    (s.inHand q r).whoOf (Req.key q) r' = ⟨Req.key q, (s.session (Req.key q)).gen, r'.tag⟩ := by
  unfold State.whoOf
  rw [(s.session_inHand q r).2.1]

theorem State.issue_inHand (s : State) (q : Req) (r : Request) :
    ((s.heard (Req.key q) (fragments r.data)).issue (Req.key q) r).updRequest (Req.key q) (s.issuedAs r).tag
      (fun y => { y with started := true }) = s.inHand q r := rfl

/-- A request on a session that is ready: its outcome, its answer, and what follows the answer. -/
theorem State.take_outcome {s : State} {q : Req} {role : Nat} (h : Ready s q role) (op pid inst : Nat) {data : List Byte}
    (hd : data.length ≤ 65536) :
    ∃ x : Session, x.like (s.session (Req.key q)) ∧
      s.take q op pid inst data =
        let r := s.startedAs (requestOf q op pid inst data)
        let o := (s.inHand q (requestOf q op pid inst data)).outcome (Req.key q) x r
        (((o.1.answerNow (Req.key q) r o.2).settleAll).afterAnswer (Req.key q) x r o.2) := by
  refine ⟨((s.heard (Req.key q) (fragments data)).issue (Req.key q) (requestOf q op pid inst data)).session (Req.key q), ?_, ?_⟩
  · unfold State.issue
    rw [State.session_updSession_same]
    change Session.like { ((s.heard (Req.key q) (fragments data)).session (Req.key q)) with requests := _ } _
    rw [State.session_heard]
    exact ⟨rfl, rfl, rfl, rfl, rfl, rfl, rfl⟩
  · rw [State.take_ready h op pid inst hd]
    unfold State.carryOut
    have henrol : (((s.heard (Req.key q) (fragments data)).issue (Req.key q) (requestOf q op pid inst data)).session (Req.key q)).enrol = .no := by
      unfold State.issue
      rw [State.session_updSession_same]
      change ((s.heard (Req.key q) (fragments data)).session (Req.key q)).enrol = .no
      rw [State.session_heard]
      exact h.2.2.2.2.2.2.2.2.2.1
    simp only [henrol]
    rw [if_neg (by simp)]
    rfl

/-- A request that is answered at once: the answer, and nothing after it. -/
theorem State.take_done {s t : State} {q : Req} {role : Nat} (h : Ready s q role) {op pid inst st : Nat} {data p : List Byte}
    (hd : data.length ≤ 65536)
    (ho : ∀ x : Session, x.like (s.session (Req.key q)) →
      (s.inHand q (requestOf q op pid inst data)).outcome (Req.key q) x (s.startedAs (requestOf q op pid inst data)) = (t, .done st p))
    (hst : st ≠ stInternal) (howed : t.owed = []) (h7 : op ≠ 0x07 ∨ st ≠ 0) (h107 : ¬(op = 0x02 ∧ pid = 0x0107 ∧ beNat data = 1)) :
    s.take q op pid inst data = t.reply (Req.key q) (s.startedAs (requestOf q op pid inst data)) st p := by
  obtain ⟨x, hx, e⟩ := State.take_outcome h op pid inst hd
  simp only [e, ho x hx]
  have henrol : x.enrol = .no := by rw [hx.2.2.2.1]; exact h.2.2.2.2.2.2.2.2.2.1
  have hans : t.answerNow (Req.key q) (s.startedAs (requestOf q op pid inst data)) (.done st p) =
      t.reply (Req.key q) (s.startedAs (requestOf q op pid inst data)) st p := by
    unfold State.answerNow
    simp only [if_neg hst]
    rfl
  simp only [hans]
  rw [State.settleAll_none (by rw [State.reply_owed, howed])]
  unfold State.afterAnswer
  split
  · next heq =>
    cases heq
    refine (if_neg ?_).trans ((if_neg h107).trans (if_neg ?_))
    · rcases h7 with h7 | h7
      · exact h7
      · exact absurd rfl h7
    · rw [henrol]; simp
  · rfl

theorem SameBut.refl (keys : List (Nat × Nat)) (s : State) : SameBut keys s s := fun _ _ _ _ => rfl
theorem SameBut.trans {k1 k2 : List (Nat × Nat)} {s t u : State} (h : SameBut k1 s t) (h' : SameBut k2 t u) : SameBut (k1 ++ k2) s u := by
  intro p i hi hn
  rw [h' p i hi (fun hm => hn (List.mem_append.2 (.inr hm))), h p i hi (fun hm => hn (List.mem_append.2 (.inl hm)))]
theorem SameBut.wr {keys : List (Nat × Nat)} {s t : State} (h : SameBut keys s t) {p i v : Nat} (hi : i < 2 ^ 32) (hm : (p, i) ∈ keys) :
    SameBut keys s (t.wr p i v) := by
  intro p' i' hi' hn
  rw [State.rd_wr_ne _ _ (fun e => hn (by rw [((regKey_inj hi' hi).1 e).1, ((regKey_inj hi' hi).1 e).2]; exact hm)), h p' i' hi' hn]
theorem SameBut.inc {keys : List (Nat × Nat)} {s t : State} (h : SameBut keys s t) {p i : Nat} (hi : i < 2 ^ 32) (hm : (p, i) ∈ keys) :
    SameBut keys s (t.inc p i) := h.wr hi hm
theorem SameBut.stamp {keys : List (Nat × Nat)} {s t : State} (h : SameBut keys s t) {p i : Nat} (hi : i < 2 ^ 32) (hm : (p, i) ∈ keys) :
    SameBut keys s (t.stamp p i) := h.wr hi hm

/-- A request that is answered at once, in the terms of the statements. -/
theorem State.take_answers {s t : State} {q : Req} {role : Nat} (h : Ready s q role) {op pid inst st : Nat} {data p : List Byte}
    {keys : List (Nat × Nat)} (hd : data.length ≤ 65536)
    (ho : ∀ x : Session, x.like (s.session (Req.key q)) →
      (s.inHand q (requestOf q op pid inst data)).outcome (Req.key q) x (s.startedAs (requestOf q op pid inst data)) = (t, .done st p))
    (hst : st ≠ stInternal) (howed : t.owed = []) (h7 : op ≠ 0x07 ∨ st ≠ 0) (h107 : ¬(op = 0x02 ∧ pid = 0x0107 ∧ beNat data = 1))
    (hout : t.out = s.out) (hregs : SameBut keys (s.inHand q (requestOf q op pid inst data)) t) :
    Answers s (s.take q op pid inst data) q op st pid inst p keys := by
  rw [State.take_done h hd ho hst howed h7 h107]
  refine ⟨?_, ?_⟩
  · rw [State.out_reply, hout, key_div, key_mod]; rfl
  · intro p' i' hi hn
    have hm : (p', i') ∉ mailCounters q ∧ (p', i') ∉ keys := by
      constructor <;> intro hm <;> exact hn (by simp [hm])
    have h1 : (p', i') ≠ (0x0414, 2 * q.sess.val) := fun e => hm.1 (by rw [e]; simp [mailCounters])
    have h2 : (p', i') ≠ (0x0414, 2 * (Req.key q % 4) + 1) := by
      rw [key_mod]; exact fun e => hm.1 (by rw [e]; simp [mailCounters])
    rw [State.rd_reply _ _ _ _ _ hi h2, hregs p' i' hi hm.2, State.rd_inHand _ _ _ hi h1]

/-! ### `State.inHand` -/

@[simp] theorem State.inHand_pending (s : State) (q : Req) (r : Request) : (s.inHand q r).pending = s.pending := by
  unfold State.inHand; rw [State.updRequest_pending, State.issue_pending, State.heard_pending]
@[simp] theorem State.inHand_rc (s : State) (q : Req) (r : Request) : (s.inHand q r).rc = s.rc := by
  unfold State.inHand; rw [State.updRequest_rc, State.issue_rc, State.heard_rc]
@[simp] theorem State.inHand_clk (s : State) (q : Req) (r : Request) : (s.inHand q r).clk = s.clk := by
  unfold State.inHand; rw [State.updRequest_clk, State.issue_clk, State.heard_clk]
@[simp] theorem State.inHand_faults (s : State) (q : Req) (r : Request) : (s.inHand q r).faults = s.faults := by
  unfold State.inHand; rw [State.updRequest_faults, State.issue_faults, State.heard_faults]
@[simp] theorem State.inHand_drawn (s : State) (q : Req) (r : Request) : (s.inHand q r).drawn = s.drawn := by
  unfold State.inHand; rw [State.updRequest_drawn, State.issue_drawn, State.heard_drawn]
@[simp] theorem State.inHand_slots (s : State) (q : Req) (r : Request) : (s.inHand q r).slots = s.slots := by
  unfold State.inHand; rw [State.updRequest_slots, State.issue_slots, State.heard_slots]
@[simp] theorem State.inHand_ports (s : State) (q : Req) (r : Request) : (s.inHand q r).ports = s.ports := by
  unfold State.inHand; rw [State.updRequest_ports, State.issue_ports, State.heard_ports]
@[simp] theorem State.inHand_groups (s : State) (q : Req) (r : Request) : (s.inHand q r).groups = s.groups := by
  unfold State.inHand; rw [State.updRequest_groups, State.issue_groups, State.heard_groups]
@[simp] theorem State.inHand_pa (s : State) (q : Req) (r : Request) : (s.inHand q r).pa = s.pa := by
  unfold State.inHand; rw [State.updRequest_pa, State.issue_pa, State.heard_pa]
@[simp] theorem State.inHand_pb (s : State) (q : Req) (r : Request) : (s.inHand q r).pb = s.pb := by
  unfold State.inHand; rw [State.updRequest_pb, State.issue_pb, State.heard_pb]
@[simp] theorem State.inHand_courses (s : State) (q : Req) (r : Request) : (s.inHand q r).courses = s.courses := by
  unfold State.inHand; rw [State.updRequest_courses, State.issue_courses, State.heard_courses]
@[simp] theorem State.inHand_joins (s : State) (q : Req) (r : Request) : (s.inHand q r).joins = s.joins := by
  unfold State.inHand; rw [State.updRequest_joins, State.issue_joins, State.heard_joins]
@[simp] theorem State.inHand_bonds (s : State) (q : Req) (r : Request) : (s.inHand q r).bonds = s.bonds := by
  unfold State.inHand; rw [State.updRequest_bonds, State.issue_bonds, State.heard_bonds]
@[simp] theorem State.inHand_recovery (s : State) (q : Req) (r : Request) : (s.inHand q r).recovery = s.recovery := by
  unfold State.inHand; rw [State.updRequest_recovery, State.issue_recovery, State.heard_recovery]
@[simp] theorem State.inHand_judge (s : State) (q : Req) (r : Request) : (s.inHand q r).judge = s.judge := by
  unfold State.inHand; rw [State.updRequest_judge, State.issue_judge, State.heard_judge]
@[simp] theorem State.inHand_leaving (s : State) (q : Req) (r : Request) : (s.inHand q r).leaving = s.leaving := by
  unfold State.inHand; rw [State.updRequest_leaving, State.issue_leaving, State.heard_leaving]
@[simp] theorem State.inHand_gateChange (s : State) (q : Req) (r : Request) : (s.inHand q r).gateChange = s.gateChange := by
  unfold State.inHand; rw [State.updRequest_gateChange, State.issue_gateChange, State.heard_gateChange]
@[simp] theorem State.inHand_gateEdge (s : State) (q : Req) (r : Request) : (s.inHand q r).gateEdge = s.gateEdge := by
  unfold State.inHand; rw [State.updRequest_gateEdge, State.issue_gateEdge, State.heard_gateEdge]
@[simp] theorem State.inHand_heldTicks (s : State) (q : Req) (r : Request) : (s.inHand q r).heldTicks = s.heldTicks := by
  unfold State.inHand; rw [State.updRequest_heldTicks, State.issue_heldTicks, State.heard_heldTicks]
@[simp] theorem State.inHand_time (s : State) (q : Req) (r : Request) : (s.inHand q r).time = s.time := by
  unfold State.inHand; rw [State.updRequest_time, State.issue_time, State.heard_time]
@[simp] theorem State.inHand_servo (s : State) (q : Req) (r : Request) : (s.inHand q r).servo = s.servo := by
  unfold State.inHand; rw [State.updRequest_servo, State.issue_servo, State.heard_servo]
@[simp] theorem State.inHand_gnss (s : State) (q : Req) (r : Request) : (s.inHand q r).gnss = s.gnss := by
  unfold State.inHand; rw [State.updRequest_gnss, State.issue_gnss, State.heard_gnss]
@[simp] theorem State.inHand_ptp (s : State) (q : Req) (r : Request) : (s.inHand q r).ptp = s.ptp := by
  unfold State.inHand; rw [State.updRequest_ptp, State.issue_ptp, State.heard_ptp]
@[simp] theorem State.inHand_departures (s : State) (q : Req) (r : Request) : (s.inHand q r).departures = s.departures := by
  unfold State.inHand; rw [State.updRequest_departures, State.issue_departures, State.heard_departures]
@[simp] theorem State.inHand_synce (s : State) (q : Req) (r : Request) : (s.inHand q r).synce = s.synce := by
  unfold State.inHand; rw [State.updRequest_synce, State.issue_synce, State.heard_synce]
@[simp] theorem State.inHand_tio (s : State) (q : Req) (r : Request) : (s.inHand q r).tio = s.tio := by
  unfold State.inHand; rw [State.updRequest_tio, State.issue_tio, State.heard_tio]
@[simp] theorem State.inHand_clocks (s : State) (q : Req) (r : Request) : (s.inHand q r).clocks = s.clocks := by
  unfold State.inHand; rw [State.updRequest_clocks, State.issue_clocks, State.heard_clocks]
@[simp] theorem State.inHand_chans (s : State) (q : Req) (r : Request) : (s.inHand q r).chans = s.chans := by
  unfold State.inHand; rw [State.updRequest_chans, State.issue_chans, State.heard_chans]
@[simp] theorem State.inHand_bufs (s : State) (q : Req) (r : Request) : (s.inHand q r).bufs = s.bufs := by
  unfold State.inHand; rw [State.updRequest_bufs, State.issue_bufs, State.heard_bufs]
@[simp] theorem State.inHand_hodMem (s : State) (q : Req) (r : Request) : (s.inHand q r).hodMem = s.hodMem := by
  unfold State.inHand; rw [State.updRequest_hodMem, State.issue_hodMem, State.heard_hodMem]
@[simp] theorem State.inHand_bufCaches (s : State) (q : Req) (r : Request) : (s.inHand q r).bufCaches = s.bufCaches := by
  unfold State.inHand; rw [State.updRequest_bufCaches, State.issue_bufCaches, State.heard_bufCaches]
@[simp] theorem State.inHand_recv (s : State) (q : Req) (r : Request) : (s.inHand q r).recv = s.recv := by
  unfold State.inHand; rw [State.updRequest_recv, State.issue_recv, State.heard_recv]
@[simp] theorem State.inHand_quietNh (s : State) (q : Req) (r : Request) : (s.inHand q r).quietNh = s.quietNh := by
  unfold State.inHand; rw [State.updRequest_quietNh, State.issue_quietNh, State.heard_quietNh]
@[simp] theorem State.inHand_quietRw (s : State) (q : Req) (r : Request) : (s.inHand q r).quietRw = s.quietRw := by
  unfold State.inHand; rw [State.updRequest_quietRw, State.issue_quietRw, State.heard_quietRw]
@[simp] theorem State.inHand_physNh (s : State) (q : Req) (r : Request) : (s.inHand q r).physNh = s.physNh := by
  unfold State.inHand; rw [State.updRequest_physNh, State.issue_physNh, State.heard_physNh]
@[simp] theorem State.inHand_physRw (s : State) (q : Req) (r : Request) : (s.inHand q r).physRw = s.physRw := by
  unfold State.inHand; rw [State.updRequest_physRw, State.issue_physRw, State.heard_physRw]
@[simp] theorem State.inHand_seed (s : State) (q : Req) (r : Request) : (s.inHand q r).seed = s.seed := by
  unfold State.inHand; rw [State.updRequest_seed, State.issue_seed, State.heard_seed]
@[simp] theorem State.inHand_hostTab (s : State) (q : Req) (r : Request) : (s.inHand q r).hostTab = s.hostTab := by
  unfold State.inHand; rw [State.updRequest_hostTab, State.issue_hostTab, State.heard_hostTab]
@[simp] theorem State.inHand_filterEpoch (s : State) (q : Req) (r : Request) : (s.inHand q r).filterEpoch = s.filterEpoch := by
  unfold State.inHand; rw [State.updRequest_filterEpoch, State.issue_filterEpoch, State.heard_filterEpoch]
@[simp] theorem State.inHand_banks (s : State) (q : Req) (r : Request) : (s.inHand q r).banks = s.banks := by
  unfold State.inHand; rw [State.updRequest_banks, State.issue_banks, State.heard_banks]
@[simp] theorem State.inHand_sustain (s : State) (q : Req) (r : Request) : (s.inHand q r).sustain = s.sustain := by
  unfold State.inHand; rw [State.updRequest_sustain, State.issue_sustain, State.heard_sustain]
@[simp] theorem State.inHand_owed (s : State) (q : Req) (r : Request) : (s.inHand q r).owed = s.owed := by
  unfold State.inHand; rw [State.updRequest_owed, State.issue_owed, State.heard_owed]
@[simp] theorem State.inHand_out (s : State) (q : Req) (r : Request) : (s.inHand q r).out = s.out := by
  unfold State.inHand; rw [State.updRequest_out, State.issue_out, State.heard_out]
@[simp] theorem State.inHand_enrolBar (s : State) (q : Req) (r : Request) : (s.inHand q r).enrolBar = s.enrolBar := by
  unfold State.inHand; rw [State.updRequest_enrolBar, State.issue_enrolBar, State.heard_enrolBar]
@[simp] theorem State.inHand_authFails (s : State) (q : Req) (r : Request) : (s.inHand q r).authFails = s.authFails := by
  unfold State.inHand; rw [State.updRequest_authFails, State.issue_authFails, State.heard_authFails]
@[simp] theorem State.inHand_committing (s : State) (q : Req) (r : Request) : (s.inHand q r).committing = s.committing := by
  unfold State.inHand; rw [State.updRequest_committing, State.issue_committing, State.heard_committing]
@[simp] theorem State.inHand_latest (s : State) (q : Req) (r : Request) : (s.inHand q r).latest = s.latest := by
  unfold State.inHand; rw [State.updRequest_latest, State.issue_latest, State.heard_latest]
@[simp] theorem State.inHand_latestSlot (s : State) (q : Req) (r : Request) : (s.inHand q r).latestSlot = s.latestSlot := by
  unfold State.inHand; rw [State.updRequest_latestSlot, State.issue_latestSlot, State.heard_latestSlot]
@[simp] theorem State.inHand_ruleAt (s : State) (q : Req) (r : Request) : (s.inHand q r).ruleAt = s.ruleAt := by
  unfold State.inHand; rw [State.updRequest_ruleAt, State.issue_ruleAt, State.heard_ruleAt]
@[simp] theorem State.inHand_flash (s : State) (q : Req) (r : Request) : (s.inHand q r).flash = s.flash := by
  unfold State.inHand; rw [State.updRequest_flash, State.issue_flash, State.heard_flash]
@[simp] theorem State.inHand_power (s : State) (q : Req) (r : Request) : (s.inHand q r).power = s.power := by
  unfold State.inHand; rw [State.updRequest_power, State.issue_power, State.heard_power]
@[simp] theorem State.inHand_latch (s : State) (q : Req) (r : Request) : (s.inHand q r).latch = s.latch := by
  unfold State.inHand; rw [State.updRequest_latch, State.issue_latch, State.heard_latch]
@[simp] theorem State.inHand_cart (s : State) (q : Req) (r : Request) : (s.inHand q r).cart = s.cart := by
  unfold State.inHand; rw [State.updRequest_cart, State.issue_cart, State.heard_cart]
@[simp] theorem State.inHand_bay (s : State) (q : Req) (r : Request) : (s.inHand q r).bay = s.bay := by
  unfold State.inHand; rw [State.updRequest_bay, State.issue_bay, State.heard_bay]
@[simp] theorem State.inHand_domOps (s : State) (q : Req) (r : Request) : (s.inHand q r).domOps = s.domOps := by
  unfold State.inHand; rw [State.updRequest_domOps, State.issue_domOps, State.heard_domOps]
@[simp] theorem State.inHand_reseed (s : State) (q : Req) (r : Request) : (s.inHand q r).reseed = s.reseed := by
  unfold State.inHand; rw [State.updRequest_reseed, State.issue_reseed, State.heard_reseed]
@[simp] theorem State.inHand_ctls (s : State) (q : Req) (r : Request) : (s.inHand q r).ctls = s.ctls := by
  unfold State.inHand; rw [State.updRequest_ctls, State.issue_ctls, State.heard_ctls]
@[simp] theorem State.inHand_silence (s : State) (q : Req) (r : Request) : (s.inHand q r).silence = s.silence := by
  unfold State.inHand; rw [State.updRequest_silence, State.issue_silence, State.heard_silence]
@[simp] theorem State.inHand_swap (s : State) (q : Req) (r : Request) : (s.inHand q r).swap = s.swap := by
  unfold State.inHand; rw [State.updRequest_swap, State.issue_swap, State.heard_swap]
@[simp] theorem State.inHand_swapTries (s : State) (q : Req) (r : Request) : (s.inHand q r).swapTries = s.swapTries := by
  unfold State.inHand; rw [State.updRequest_swapTries, State.issue_swapTries, State.heard_swapTries]
@[simp] theorem State.inHand_swapAt (s : State) (q : Req) (r : Request) : (s.inHand q r).swapAt = s.swapAt := by
  unfold State.inHand; rw [State.updRequest_swapAt, State.issue_swapAt, State.heard_swapAt]
@[simp] theorem State.inHand_swapDay (s : State) (q : Req) (r : Request) : (s.inHand q r).swapDay = s.swapDay := by
  unfold State.inHand; rw [State.updRequest_swapDay, State.issue_swapDay, State.heard_swapDay]
@[simp] theorem State.inHand_resync (s : State) (q : Req) (r : Request) : (s.inHand q r).resync = s.resync := by
  unfold State.inHand; rw [State.updRequest_resync, State.issue_resync, State.heard_resync]
@[simp] theorem State.inHand_fw (s : State) (q : Req) (r : Request) : (s.inHand q r).fw = s.fw := by
  unfold State.inHand; rw [State.updRequest_fw, State.issue_fw, State.heard_fw]
@[simp] theorem State.inHand_flushes (s : State) (q : Req) (r : Request) : (s.inHand q r).flushes = s.flushes := by
  unfold State.inHand; rw [State.updRequest_flushes, State.issue_flushes, State.heard_flushes]
@[simp] theorem State.inHand_bulks (s : State) (q : Req) (r : Request) : (s.inHand q r).bulks = s.bulks := by
  unfold State.inHand; rw [State.updRequest_bulks, State.issue_bulks, State.heard_bulks]
@[simp] theorem State.inHand_snaps (s : State) (q : Req) (r : Request) : (s.inHand q r).snaps = s.snaps := by
  unfold State.inHand; rw [State.updRequest_snaps, State.issue_snaps, State.heard_snaps]
@[simp] theorem State.inHand_recordAt (s : State) (q : Req) (r : Request) : (s.inHand q r).recordAt = s.recordAt := by
  unfold State.inHand; rw [State.updRequest_recordAt, State.issue_recordAt, State.heard_recordAt]
@[simp] theorem State.inHand_tx (s : State) (q : Req) (r : Request) : (s.inHand q r).tx = s.tx := by
  unfold State.inHand; rw [State.updRequest_tx, State.issue_tx, State.heard_tx]

/-! ### `State.closeGates` -/

@[simp] theorem State.closeGates_pending (s : State) (o : State) : (s.closeGates o).pending = s.pending := by
  unfold State.closeGates; generalize List.filter _ allGates = l
  induction l generalizing s with
  | nil => rfl
  | cons n l ih => rw [List.foldl_cons, ih]; rfl
@[simp] theorem State.closeGates_rc (s : State) (o : State) : (s.closeGates o).rc = s.rc := by
  unfold State.closeGates; generalize List.filter _ allGates = l
  induction l generalizing s with
  | nil => rfl
  | cons n l ih => rw [List.foldl_cons, ih]; rfl
@[simp] theorem State.closeGates_clk (s : State) (o : State) : (s.closeGates o).clk = s.clk := by
  unfold State.closeGates; generalize List.filter _ allGates = l
  induction l generalizing s with
  | nil => rfl
  | cons n l ih => rw [List.foldl_cons, ih]; rfl
@[simp] theorem State.closeGates_regs (s : State) (o : State) : (s.closeGates o).regs = s.regs := by
  unfold State.closeGates; generalize List.filter _ allGates = l
  induction l generalizing s with
  | nil => rfl
  | cons n l ih => rw [List.foldl_cons, ih]; rfl
@[simp] theorem State.closeGates_faults (s : State) (o : State) : (s.closeGates o).faults = s.faults := by
  unfold State.closeGates; generalize List.filter _ allGates = l
  induction l generalizing s with
  | nil => rfl
  | cons n l ih => rw [List.foldl_cons, ih]; rfl
@[simp] theorem State.closeGates_drawn (s : State) (o : State) : (s.closeGates o).drawn = s.drawn := by
  unfold State.closeGates; generalize List.filter _ allGates = l
  induction l generalizing s with
  | nil => rfl
  | cons n l ih => rw [List.foldl_cons, ih]; rfl
@[simp] theorem State.closeGates_slots (s : State) (o : State) : (s.closeGates o).slots = s.slots := by
  unfold State.closeGates; generalize List.filter _ allGates = l
  induction l generalizing s with
  | nil => rfl
  | cons n l ih => rw [List.foldl_cons, ih]; rfl
@[simp] theorem State.closeGates_ports (s : State) (o : State) : (s.closeGates o).ports = s.ports := by
  unfold State.closeGates; generalize List.filter _ allGates = l
  induction l generalizing s with
  | nil => rfl
  | cons n l ih => rw [List.foldl_cons, ih]; rfl
@[simp] theorem State.closeGates_groups (s : State) (o : State) : (s.closeGates o).groups = s.groups := by
  unfold State.closeGates; generalize List.filter _ allGates = l
  induction l generalizing s with
  | nil => rfl
  | cons n l ih => rw [List.foldl_cons, ih]; rfl
@[simp] theorem State.closeGates_pa (s : State) (o : State) : (s.closeGates o).pa = s.pa := by
  unfold State.closeGates; generalize List.filter _ allGates = l
  induction l generalizing s with
  | nil => rfl
  | cons n l ih => rw [List.foldl_cons, ih]; rfl
@[simp] theorem State.closeGates_pb (s : State) (o : State) : (s.closeGates o).pb = s.pb := by
  unfold State.closeGates; generalize List.filter _ allGates = l
  induction l generalizing s with
  | nil => rfl
  | cons n l ih => rw [List.foldl_cons, ih]; rfl
@[simp] theorem State.closeGates_courses (s : State) (o : State) : (s.closeGates o).courses = s.courses := by
  unfold State.closeGates; generalize List.filter _ allGates = l
  induction l generalizing s with
  | nil => rfl
  | cons n l ih => rw [List.foldl_cons, ih]; rfl
@[simp] theorem State.closeGates_joins (s : State) (o : State) : (s.closeGates o).joins = s.joins := by
  unfold State.closeGates; generalize List.filter _ allGates = l
  induction l generalizing s with
  | nil => rfl
  | cons n l ih => rw [List.foldl_cons, ih]; rfl
@[simp] theorem State.closeGates_bonds (s : State) (o : State) : (s.closeGates o).bonds = s.bonds := by
  unfold State.closeGates; generalize List.filter _ allGates = l
  induction l generalizing s with
  | nil => rfl
  | cons n l ih => rw [List.foldl_cons, ih]; rfl
@[simp] theorem State.closeGates_recovery (s : State) (o : State) : (s.closeGates o).recovery = s.recovery := by
  unfold State.closeGates; generalize List.filter _ allGates = l
  induction l generalizing s with
  | nil => rfl
  | cons n l ih => rw [List.foldl_cons, ih]; rfl
@[simp] theorem State.closeGates_judge (s : State) (o : State) : (s.closeGates o).judge = s.judge := by
  unfold State.closeGates; generalize List.filter _ allGates = l
  induction l generalizing s with
  | nil => rfl
  | cons n l ih => rw [List.foldl_cons, ih]; rfl
@[simp] theorem State.closeGates_leaving (s : State) (o : State) : (s.closeGates o).leaving = s.leaving := by
  unfold State.closeGates; generalize List.filter _ allGates = l
  induction l generalizing s with
  | nil => rfl
  | cons n l ih => rw [List.foldl_cons, ih]; rfl
@[simp] theorem State.closeGates_gateChange (s : State) (o : State) : (s.closeGates o).gateChange = s.gateChange := by
  unfold State.closeGates; generalize List.filter _ allGates = l
  induction l generalizing s with
  | nil => rfl
  | cons n l ih => rw [List.foldl_cons, ih]; rfl
@[simp] theorem State.closeGates_gateEdge (s : State) (o : State) : (s.closeGates o).gateEdge = s.gateEdge := by
  unfold State.closeGates; generalize List.filter _ allGates = l
  induction l generalizing s with
  | nil => rfl
  | cons n l ih => rw [List.foldl_cons, ih]; rfl
@[simp] theorem State.closeGates_heldTicks (s : State) (o : State) : (s.closeGates o).heldTicks = s.heldTicks := by
  unfold State.closeGates; generalize List.filter _ allGates = l
  induction l generalizing s with
  | nil => rfl
  | cons n l ih => rw [List.foldl_cons, ih]; rfl
@[simp] theorem State.closeGates_time (s : State) (o : State) : (s.closeGates o).time = s.time := by
  unfold State.closeGates; generalize List.filter _ allGates = l
  induction l generalizing s with
  | nil => rfl
  | cons n l ih => rw [List.foldl_cons, ih]; rfl
@[simp] theorem State.closeGates_servo (s : State) (o : State) : (s.closeGates o).servo = s.servo := by
  unfold State.closeGates; generalize List.filter _ allGates = l
  induction l generalizing s with
  | nil => rfl
  | cons n l ih => rw [List.foldl_cons, ih]; rfl
@[simp] theorem State.closeGates_gnss (s : State) (o : State) : (s.closeGates o).gnss = s.gnss := by
  unfold State.closeGates; generalize List.filter _ allGates = l
  induction l generalizing s with
  | nil => rfl
  | cons n l ih => rw [List.foldl_cons, ih]; rfl
@[simp] theorem State.closeGates_ptp (s : State) (o : State) : (s.closeGates o).ptp = s.ptp := by
  unfold State.closeGates; generalize List.filter _ allGates = l
  induction l generalizing s with
  | nil => rfl
  | cons n l ih => rw [List.foldl_cons, ih]; rfl
@[simp] theorem State.closeGates_departures (s : State) (o : State) : (s.closeGates o).departures = s.departures := by
  unfold State.closeGates; generalize List.filter _ allGates = l
  induction l generalizing s with
  | nil => rfl
  | cons n l ih => rw [List.foldl_cons, ih]; rfl
@[simp] theorem State.closeGates_synce (s : State) (o : State) : (s.closeGates o).synce = s.synce := by
  unfold State.closeGates; generalize List.filter _ allGates = l
  induction l generalizing s with
  | nil => rfl
  | cons n l ih => rw [List.foldl_cons, ih]; rfl
@[simp] theorem State.closeGates_tio (s : State) (o : State) : (s.closeGates o).tio = s.tio := by
  unfold State.closeGates; generalize List.filter _ allGates = l
  induction l generalizing s with
  | nil => rfl
  | cons n l ih => rw [List.foldl_cons, ih]; rfl
@[simp] theorem State.closeGates_chans (s : State) (o : State) : (s.closeGates o).chans = s.chans := by
  unfold State.closeGates; generalize List.filter _ allGates = l
  induction l generalizing s with
  | nil => rfl
  | cons n l ih => rw [List.foldl_cons, ih]; rfl
@[simp] theorem State.closeGates_bufs (s : State) (o : State) : (s.closeGates o).bufs = s.bufs := by
  unfold State.closeGates; generalize List.filter _ allGates = l
  induction l generalizing s with
  | nil => rfl
  | cons n l ih => rw [List.foldl_cons, ih]; rfl
@[simp] theorem State.closeGates_hodMem (s : State) (o : State) : (s.closeGates o).hodMem = s.hodMem := by
  unfold State.closeGates; generalize List.filter _ allGates = l
  induction l generalizing s with
  | nil => rfl
  | cons n l ih => rw [List.foldl_cons, ih]; rfl
@[simp] theorem State.closeGates_bufCaches (s : State) (o : State) : (s.closeGates o).bufCaches = s.bufCaches := by
  unfold State.closeGates; generalize List.filter _ allGates = l
  induction l generalizing s with
  | nil => rfl
  | cons n l ih => rw [List.foldl_cons, ih]; rfl
@[simp] theorem State.closeGates_recv (s : State) (o : State) : (s.closeGates o).recv = s.recv := by
  unfold State.closeGates; generalize List.filter _ allGates = l
  induction l generalizing s with
  | nil => rfl
  | cons n l ih => rw [List.foldl_cons, ih]; rfl
@[simp] theorem State.closeGates_quietNh (s : State) (o : State) : (s.closeGates o).quietNh = s.quietNh := by
  unfold State.closeGates; generalize List.filter _ allGates = l
  induction l generalizing s with
  | nil => rfl
  | cons n l ih => rw [List.foldl_cons, ih]; rfl
@[simp] theorem State.closeGates_quietRw (s : State) (o : State) : (s.closeGates o).quietRw = s.quietRw := by
  unfold State.closeGates; generalize List.filter _ allGates = l
  induction l generalizing s with
  | nil => rfl
  | cons n l ih => rw [List.foldl_cons, ih]; rfl
@[simp] theorem State.closeGates_physNh (s : State) (o : State) : (s.closeGates o).physNh = s.physNh := by
  unfold State.closeGates; generalize List.filter _ allGates = l
  induction l generalizing s with
  | nil => rfl
  | cons n l ih => rw [List.foldl_cons, ih]; rfl
@[simp] theorem State.closeGates_physRw (s : State) (o : State) : (s.closeGates o).physRw = s.physRw := by
  unfold State.closeGates; generalize List.filter _ allGates = l
  induction l generalizing s with
  | nil => rfl
  | cons n l ih => rw [List.foldl_cons, ih]; rfl
@[simp] theorem State.closeGates_seed (s : State) (o : State) : (s.closeGates o).seed = s.seed := by
  unfold State.closeGates; generalize List.filter _ allGates = l
  induction l generalizing s with
  | nil => rfl
  | cons n l ih => rw [List.foldl_cons, ih]; rfl
@[simp] theorem State.closeGates_hostTab (s : State) (o : State) : (s.closeGates o).hostTab = s.hostTab := by
  unfold State.closeGates; generalize List.filter _ allGates = l
  induction l generalizing s with
  | nil => rfl
  | cons n l ih => rw [List.foldl_cons, ih]; rfl
@[simp] theorem State.closeGates_filterEpoch (s : State) (o : State) : (s.closeGates o).filterEpoch = s.filterEpoch := by
  unfold State.closeGates; generalize List.filter _ allGates = l
  induction l generalizing s with
  | nil => rfl
  | cons n l ih => rw [List.foldl_cons, ih]; rfl
@[simp] theorem State.closeGates_banks (s : State) (o : State) : (s.closeGates o).banks = s.banks := by
  unfold State.closeGates; generalize List.filter _ allGates = l
  induction l generalizing s with
  | nil => rfl
  | cons n l ih => rw [List.foldl_cons, ih]; rfl
@[simp] theorem State.closeGates_sustain (s : State) (o : State) : (s.closeGates o).sustain = s.sustain := by
  unfold State.closeGates; generalize List.filter _ allGates = l
  induction l generalizing s with
  | nil => rfl
  | cons n l ih => rw [List.foldl_cons, ih]; rfl
@[simp] theorem State.closeGates_sessions (s : State) (o : State) : (s.closeGates o).sessions = s.sessions := by
  unfold State.closeGates; generalize List.filter _ allGates = l
  induction l generalizing s with
  | nil => rfl
  | cons n l ih => rw [List.foldl_cons, ih]; rfl
@[simp] theorem State.closeGates_issued (s : State) (o : State) : (s.closeGates o).issued = s.issued := by
  unfold State.closeGates; generalize List.filter _ allGates = l
  induction l generalizing s with
  | nil => rfl
  | cons n l ih => rw [List.foldl_cons, ih]; rfl
@[simp] theorem State.closeGates_owed (s : State) (o : State) : (s.closeGates o).owed = s.owed := by
  unfold State.closeGates; generalize List.filter _ allGates = l
  induction l generalizing s with
  | nil => rfl
  | cons n l ih => rw [List.foldl_cons, ih]; rfl
@[simp] theorem State.closeGates_out (s : State) (o : State) : (s.closeGates o).out = s.out := by
  unfold State.closeGates; generalize List.filter _ allGates = l
  induction l generalizing s with
  | nil => rfl
  | cons n l ih => rw [List.foldl_cons, ih]; rfl
@[simp] theorem State.closeGates_enrolBar (s : State) (o : State) : (s.closeGates o).enrolBar = s.enrolBar := by
  unfold State.closeGates; generalize List.filter _ allGates = l
  induction l generalizing s with
  | nil => rfl
  | cons n l ih => rw [List.foldl_cons, ih]; rfl
@[simp] theorem State.closeGates_authFails (s : State) (o : State) : (s.closeGates o).authFails = s.authFails := by
  unfold State.closeGates; generalize List.filter _ allGates = l
  induction l generalizing s with
  | nil => rfl
  | cons n l ih => rw [List.foldl_cons, ih]; rfl
@[simp] theorem State.closeGates_committing (s : State) (o : State) : (s.closeGates o).committing = s.committing := by
  unfold State.closeGates; generalize List.filter _ allGates = l
  induction l generalizing s with
  | nil => rfl
  | cons n l ih => rw [List.foldl_cons, ih]; rfl
@[simp] theorem State.closeGates_latest (s : State) (o : State) : (s.closeGates o).latest = s.latest := by
  unfold State.closeGates; generalize List.filter _ allGates = l
  induction l generalizing s with
  | nil => rfl
  | cons n l ih => rw [List.foldl_cons, ih]; rfl
@[simp] theorem State.closeGates_latestSlot (s : State) (o : State) : (s.closeGates o).latestSlot = s.latestSlot := by
  unfold State.closeGates; generalize List.filter _ allGates = l
  induction l generalizing s with
  | nil => rfl
  | cons n l ih => rw [List.foldl_cons, ih]; rfl
@[simp] theorem State.closeGates_ruleAt (s : State) (o : State) : (s.closeGates o).ruleAt = s.ruleAt := by
  unfold State.closeGates; generalize List.filter _ allGates = l
  induction l generalizing s with
  | nil => rfl
  | cons n l ih => rw [List.foldl_cons, ih]; rfl
@[simp] theorem State.closeGates_flash (s : State) (o : State) : (s.closeGates o).flash = s.flash := by
  unfold State.closeGates; generalize List.filter _ allGates = l
  induction l generalizing s with
  | nil => rfl
  | cons n l ih => rw [List.foldl_cons, ih]; rfl
@[simp] theorem State.closeGates_power (s : State) (o : State) : (s.closeGates o).power = s.power := by
  unfold State.closeGates; generalize List.filter _ allGates = l
  induction l generalizing s with
  | nil => rfl
  | cons n l ih => rw [List.foldl_cons, ih]; rfl
@[simp] theorem State.closeGates_latch (s : State) (o : State) : (s.closeGates o).latch = s.latch := by
  unfold State.closeGates; generalize List.filter _ allGates = l
  induction l generalizing s with
  | nil => rfl
  | cons n l ih => rw [List.foldl_cons, ih]; rfl
@[simp] theorem State.closeGates_cart (s : State) (o : State) : (s.closeGates o).cart = s.cart := by
  unfold State.closeGates; generalize List.filter _ allGates = l
  induction l generalizing s with
  | nil => rfl
  | cons n l ih => rw [List.foldl_cons, ih]; rfl
@[simp] theorem State.closeGates_bay (s : State) (o : State) : (s.closeGates o).bay = s.bay := by
  unfold State.closeGates; generalize List.filter _ allGates = l
  induction l generalizing s with
  | nil => rfl
  | cons n l ih => rw [List.foldl_cons, ih]; rfl
@[simp] theorem State.closeGates_domOps (s : State) (o : State) : (s.closeGates o).domOps = s.domOps := by
  unfold State.closeGates; generalize List.filter _ allGates = l
  induction l generalizing s with
  | nil => rfl
  | cons n l ih => rw [List.foldl_cons, ih]; rfl
@[simp] theorem State.closeGates_reseed (s : State) (o : State) : (s.closeGates o).reseed = s.reseed := by
  unfold State.closeGates; generalize List.filter _ allGates = l
  induction l generalizing s with
  | nil => rfl
  | cons n l ih => rw [List.foldl_cons, ih]; rfl
@[simp] theorem State.closeGates_ctls (s : State) (o : State) : (s.closeGates o).ctls = s.ctls := by
  unfold State.closeGates; generalize List.filter _ allGates = l
  induction l generalizing s with
  | nil => rfl
  | cons n l ih => rw [List.foldl_cons, ih]; rfl
@[simp] theorem State.closeGates_silence (s : State) (o : State) : (s.closeGates o).silence = s.silence := by
  unfold State.closeGates; generalize List.filter _ allGates = l
  induction l generalizing s with
  | nil => rfl
  | cons n l ih => rw [List.foldl_cons, ih]; rfl
@[simp] theorem State.closeGates_swap (s : State) (o : State) : (s.closeGates o).swap = s.swap := by
  unfold State.closeGates; generalize List.filter _ allGates = l
  induction l generalizing s with
  | nil => rfl
  | cons n l ih => rw [List.foldl_cons, ih]; rfl
@[simp] theorem State.closeGates_swapTries (s : State) (o : State) : (s.closeGates o).swapTries = s.swapTries := by
  unfold State.closeGates; generalize List.filter _ allGates = l
  induction l generalizing s with
  | nil => rfl
  | cons n l ih => rw [List.foldl_cons, ih]; rfl
@[simp] theorem State.closeGates_swapAt (s : State) (o : State) : (s.closeGates o).swapAt = s.swapAt := by
  unfold State.closeGates; generalize List.filter _ allGates = l
  induction l generalizing s with
  | nil => rfl
  | cons n l ih => rw [List.foldl_cons, ih]; rfl
@[simp] theorem State.closeGates_swapDay (s : State) (o : State) : (s.closeGates o).swapDay = s.swapDay := by
  unfold State.closeGates; generalize List.filter _ allGates = l
  induction l generalizing s with
  | nil => rfl
  | cons n l ih => rw [List.foldl_cons, ih]; rfl
@[simp] theorem State.closeGates_resync (s : State) (o : State) : (s.closeGates o).resync = s.resync := by
  unfold State.closeGates; generalize List.filter _ allGates = l
  induction l generalizing s with
  | nil => rfl
  | cons n l ih => rw [List.foldl_cons, ih]; rfl
@[simp] theorem State.closeGates_fw (s : State) (o : State) : (s.closeGates o).fw = s.fw := by
  unfold State.closeGates; generalize List.filter _ allGates = l
  induction l generalizing s with
  | nil => rfl
  | cons n l ih => rw [List.foldl_cons, ih]; rfl
@[simp] theorem State.closeGates_flushes (s : State) (o : State) : (s.closeGates o).flushes = s.flushes := by
  unfold State.closeGates; generalize List.filter _ allGates = l
  induction l generalizing s with
  | nil => rfl
  | cons n l ih => rw [List.foldl_cons, ih]; rfl
@[simp] theorem State.closeGates_bulks (s : State) (o : State) : (s.closeGates o).bulks = s.bulks := by
  unfold State.closeGates; generalize List.filter _ allGates = l
  induction l generalizing s with
  | nil => rfl
  | cons n l ih => rw [List.foldl_cons, ih]; rfl
@[simp] theorem State.closeGates_snaps (s : State) (o : State) : (s.closeGates o).snaps = s.snaps := by
  unfold State.closeGates; generalize List.filter _ allGates = l
  induction l generalizing s with
  | nil => rfl
  | cons n l ih => rw [List.foldl_cons, ih]; rfl
@[simp] theorem State.closeGates_recordAt (s : State) (o : State) : (s.closeGates o).recordAt = s.recordAt := by
  unfold State.closeGates; generalize List.filter _ allGates = l
  induction l generalizing s with
  | nil => rfl
  | cons n l ih => rw [List.foldl_cons, ih]; rfl
@[simp] theorem State.closeGates_tx (s : State) (o : State) : (s.closeGates o).tx = s.tx := by
  unfold State.closeGates; generalize List.filter _ allGates = l
  induction l generalizing s with
  | nil => rfl
  | cons n l ih => rw [List.foldl_cons, ih]; rfl

@[simp] theorem State.rd_closeGates (s o : State) (p i : Nat) : (s.closeGates o).rd p i = s.rd p i := by
  unfold State.rd; rw [State.closeGates_regs]

/-! ### The checks of a SET by the site operator (14 R445) -/

/-- A SET by the site operator that passes the checks of R445 has the outcome of its effect. -/
theorem State.outcome_set_site {u : State} {k : Nat} {x : Session} {r : Request} {row : Row} (hrole : x.role = roleSite)
    (henrol : x.enrol = .no) (hstage : u.rd 0x0100 0 ≠ 1) (hop : r.op = 0x02) (hrow : Catalogue.row? r.pid = some row)
    (hsel : row.sel.has r.inst = true) (hdom : ¬(r.pid = 0x010D ∧ 10 ≤ r.inst)) (hcode : r.pid ≠ 0x040A) (hacc : row.acc ≠ .ro)
    (hport : ¬(r.pid = 0x2000 ∧ r.inst < 1184)) (hlen : r.data.length = row.ty.size) (hok : row.valueOk (beNat r.data) = true)
    (hgate : u.gated row r.pid r.inst = none) (hown : u.ownerStatus r.pid r.inst (beNat r.data) = stOk) :
    u.outcome k x r = (((u.setValue k r row (beNat r.data)).1).closeGates u, (u.setValue k r row (beNat r.data)).2) := by
  have hpid : pidStatus r = stOk := by
    unfold pidStatus
    rw [if_pos (by rw [hop]; rfl)]
    simp only [hrow]
    rw [if_neg (by rw [hop]; simp [readsPid]), if_neg (by simp [hsel, hdom])]
  have hpre : u.precheck x r = stOk := by
    unfold State.precheck
    rw [if_neg (by simp [hstage]), hpid, if_neg (by simp)]
    unfold State.roleStatus
    rw [hrole, hop, henrol]
    rw [if_neg (by decide), if_neg (by simp), if_pos rfl]
    rw [if_pos (by unfold State.mayWrite; rfl)]
  unfold State.outcome
  rw [hpre, if_neg (by simp), if_neg (by simp [hcode])]
  unfold State.dispatch
  rw [hop]
  change u.doSet k x r = _
  unfold State.doSet
  simp only [hrow]
  rw [if_neg (by simp [hacc, hport]), if_neg (by simp [hlen, hok])]
  have hcap : u.overCap x.role r.pid (beNat r.data) = none := by rw [hrole]; unfold State.overCap; rfl
  simp only [hcap, hgate, hown]
  rw [if_neg (by simp)]


/-- A request that is accepted: ACCEPTED now, the final answer when its operation ends (14 R454). -/
theorem State.take_accepted {s t : State} {q : Req} {role : Nat} (h : Ready s q role) {op pid inst : Nat} {data : List Byte}
    {keys : List (Nat × Nat)} (hd : data.length ≤ 65536)
    (ho : ∀ x : Session, x.like (s.session (Req.key q)) →
      (s.inHand q (requestOf q op pid inst data)).outcome (Req.key q) x (s.startedAs (requestOf q op pid inst data)) = (t, .accepted))
    (howed : t.owed = []) (hout : t.out = s.out) (hregs : SameBut keys (s.inHand q (requestOf q op pid inst data)) t) :
    s.take q op pid inst data = t.accept2 (Req.key q) (s.startedAs (requestOf q op pid inst data)) ∧
      Answers s (s.take q op pid inst data) q op stAccepted pid inst [] keys := by
  obtain ⟨x, hx, e⟩ := State.take_outcome h op pid inst hd
  have e2 : s.take q op pid inst data = t.accept2 (Req.key q) (s.startedAs (requestOf q op pid inst data)) := by
    simp only [e, ho x hx]
    change (t.accept2 (Req.key q) (s.startedAs (requestOf q op pid inst data))).settleAll = _
    refine State.settleAll_none ?_
    unfold State.accept2
    rw [State.sendMsg_owed, State.updRequest_owed, howed]
  refine ⟨e2, ?_, ?_⟩
  · rw [e2]; unfold State.accept2
    rw [State.out_sendMsg, State.updRequest_out, hout, key_div, key_mod]; rfl
  · intro p' i' hi hn
    have hm : (p', i') ∉ mailCounters q ∧ (p', i') ∉ keys := by
      constructor <;> intro hm <;> exact hn (by simp [hm])
    have h1 : (p', i') ≠ (0x0414, 2 * q.sess.val) := fun e => hm.1 (by rw [e]; simp [mailCounters])
    have h2 : (p', i') ≠ (0x0414, 2 * (Req.key q % 4) + 1) := by
      rw [key_mod]; exact fun e => hm.1 (by rw [e]; simp [mailCounters])
    rw [e2]; unfold State.accept2
    rw [State.rd_sendMsg _ _ _ _ _ _ _ _ _ hi h2, State.rd_updRequest, hregs p' i' hi hm.2, State.rd_inHand _ _ _ hi h1]

/-- A request whose answer comes later: nothing is sent now. -/
theorem State.take_later {s t : State} {q : Req} {role : Nat} (h : Ready s q role) {op pid inst : Nat} {data : List Byte}
    (hd : data.length ≤ 65536)
    (ho : ∀ x : Session, x.like (s.session (Req.key q)) →
      (s.inHand q (requestOf q op pid inst data)).outcome (Req.key q) x (s.startedAs (requestOf q op pid inst data)) = (t, .later))
    (howed : t.owed = []) : s.take q op pid inst data = t := by
  obtain ⟨x, hx, e⟩ := State.take_outcome h op pid inst hd
  simp only [e, ho x hx]
  exact State.settleAll_none howed


end Sys2Proof.Machine
end

