-- ==== Sys2Proof/Tests/Slice0.lean ====
section
/-! SUPPORT. Tests: the checks of WellFormed refuse ill-formed terms, and every statement with hypotheses has a state and operands that
meet them together. -/

set_option Elab.async false

open Sys2Proof Sys2Proof.Machine

/-! ### States for the tests -/

/-- A state with parameters written. -/
def wRegs (l : List (Nat × Nat × Nat)) : State := l.foldl (fun s e => s.wr e.1 e.2.1 e.2.2) State.reset

/-- Both planes, the port groups, the controllers and domain K are on, the module is at Topped-out, C0 is active, and its session 0 is
open in the role of the site operator. -/
def wUp (l : List (Nat × Nat × Nat)) : State :=
  let s := (wRegs (((List.range 13).map (fun d => (0x010E + d, 0, 2))) ++
    [(0x011C, 0, 1), (0x011C, 1, 1), (0x0100, 0, 3), (0x0101, 0, 300), (0x0301, 0, 5), (0x0301, 1, 4), (0x0302, 0, 1),
     (0x281F, 0, 2), (0x281F, 1, 2)] ++ l))
  { s with
    sessions := [(0, { Session.init with isOpen := true, role := roleSite })]
    ctls := [(0, { Ctl.init with beats := true }), (1, { Ctl.init with beats := true })]
    power := { Power.init with mains := some 0, applied := true, tests := [(0, true), (1, true)] } }

/-- A request on session 0 of C0. -/
def wReq (inst : Nat) (data : List Byte) : Req := ⟨0, 0, 7, false, BitVec.ofNat 32 inst, data, true⟩

/-- The last gasp, with `n` steps of the shutdown table done. -/
def wGasp (n : Nat) : State :=
  { wUp [(0x011C, 0, 0), (0x011C, 1, 0)] with power := { Power.init with mains := some 0, gasp := some 0, shut := n } }

/-- Port group PG0 drains. -/
def wDraining : State := { wUp [(0x0110, 0, 3)] with domOps := [(2, ⟨1, 0, none⟩)] }

/-- Before Footing. -/
def wFooting (l : List (Nat × Nat × Nat)) : State := wUp ([(0x0100, 0, 0), (0x0101, 0, 0xFFFFFFFF)] ++ l)

/-- At Sill, with the second plane bonded. -/
def wSill (l : List (Nat × Nat × Nat)) : State := wUp ([(0x0100, 0, 1), (0x281F, 0, 3)] ++ l)

/-- At Footing, with no self-test ended. -/
def wTest : State := { wUp [(0x0100, 0, 0)] with power := { Power.init with mains := some 0 } }

/-- Both planes have failed their self-tests. -/
def wFailed : State := { wUp [(0x0100, 0, 1)] with power := { Power.init with mains := some 0, tests := [(0, false), (1, false)] } }

/-- A bundle that waits to be re-armed. -/
def wKept : Kept := ⟨5, 1000000, []⟩

/-- DT is valid, and a bundle waits. -/
def wRearm : State := { wUp [(0x3002, 0, 1)] with power := { Power.init with mains := some 0, rearm := [wKept] } }

/-- A change of one port. -/
def wPort (l : List (Nat × Nat × Nat)) (i : Nat) (f : Port → Port) : State := (wUp l).updPort i f

/-- A PAUSE frame of 64 bytes. -/
def wPause (op quanta : Nat) (n : Nat) : List Byte :=
  toBytes 6 0x0180C2000001 ++ toBytes 6 0x02 ++ toBytes 2 0x8808 ++ toBytes 2 op ++ toBytes 2 quanta ++ List.replicate n 0

/-- A port that asked for a step down. -/
def wStep (attempts : Nat) : State :=
  wPort [(0x0805, 5, 3), (0x0840, 5, 1), (0x0800, 5, 1)] 5 (fun q => { q with step := ⟨9, attempts, 1, 0, 0⟩ })

/-- RC counts. -/
def wRunning (s : State) : State := { s with time := { s.time with running := true } }

/-- The company identifier of the step messages. -/
def wCo : BitVec 24 := BitVec.ofNat 24 (State.reset.rd 0x0842 0)

/-- A port that receives. -/
def wRx (f : Port → Port) : State := wPort [(0x0800, 5, 1), (0x0805, 5, 3)] 5 f

/-- An Ethernet frame of 14 + `n` bytes. -/
def wEth (n : Nat) : List Byte := toBytes 6 0x021122334455 ++ toBytes 6 0x02 ++ toBytes 2 0x0800 ++ List.replicate n 0

/-- A frame in reception. -/
def wRecv (head : List Byte) : RxFrame := ⟨head, 0, 0, false, false, false, 0, 0, none, none, [], none, false, false, false⟩

/-- A frame in a plane, of pipeline 3. -/
def wFrame : Frame := { (moduleHead 0 0 false false).frame 0 0 0 (wEth 46) with inject := none, pipe := 3, port := 5 }

/-- A state whose plane A is changed. -/
def wPlane (l : List (Nat × Nat × Nat)) (f : Plane → Plane) : State := (wUp l).updPl 0 f

/-- A descriptor of a stored frame of one tile. -/
def wDesc : Desc := ⟨wFrame, 1, 1, 9, 2 ^ 5, 1, 0, 0, none, 0, 0, [2], 0, 512384650⟩

/-- A descriptor of a frame whose TTL is 0, with a rewrite that decrements it. -/
def wDescT : Desc := { wDesc with frame := { wFrame with ipOff := some 14 }, rewrite := 1 }

/-- A copy of it to port 5. -/
def wCopy : Copy := ⟨9, 1, 5, 40, 0, 0, none, false, false, false, false⟩

/-- The scheduler's state of a plane after the choice of a copy of 84 bytes in a queue below a class element. -/
def wSched (q k : Nat) : PlaneSched := { PlaneSched.init with deficit := [(q, 172)], current := [(k, q)] }

/-- A copy that is sent on port 5. -/
def wSending : Sending := ⟨wCopy, true, 0, [], 64, true, 25000⟩

/-- Slot V0 is active. -/
def wActive (s : State) : State := s.updSlot 0 (fun x => { x with state := .active })

/-- A buffer of the second pool of C0. -/
def wBuf (l : Tab Buffer) : State := { wUp [] with bufs := l }

/-- The address of the first buffer of C0's second region. -/
def wAddr : BitVec 64 := BitVec.ofNat 64 (State.reset.rd 0x182D 1)

/-- A descriptor of a frame that is still written and needs a second tile. -/
def wLong : Desc := { wDesc with frame := { wFrame with bytes := wEth 300 }, holders := 2 ^ 148 + 2 ^ 5, refs := 2, tail := 9 }

/-- A copy for scheduler port 147; one that has just come. -/
def wCopyE : Copy := { wCopy with rc := 1000000000000, port := 147, queue := 8 * 147 }
def wCopyY : Copy := { wCopy with rc := 1000000000000 }

/-- A frame whose end has not come; one for its second pass; one that is injected. -/
def wFrameB : Frame := { wFrame with ended := false }
def wFrameO : Frame := { wFrameB with bytes := wEth 0 ++ [0x4F] ++ List.replicate 9 0 }
def wFrame2 : Frame := { wFrame with second := true }
def wFrameI : Frame := { wFrame with inject := some (0, 5, 0xFFFF) }

/-- A frame in reception that is replicated; one that is discarded; one that is policed. -/
def wRecvS : RxFrame := { wRecv (wEth 40) with seq := some 4 }
def wRecvD : RxFrame := { wRecv (wEth 40) with drop := true }
def wRecvP : RxFrame := { wRecv (wEth 40) with policer := some 7 }

/-- A MAC address learned on port 3. -/
def wLearned : Entry := ⟨1, 2, macKey 9 0x021122334455, portResult 3, false, true, false, true, 4, [], 0⟩

/-- The request to learn it on port 7. -/
def wLearn : LearnReq := ⟨2, 9, 0x021122334455, 7, 0, true⟩

/-- An entry that is frozen, or idle. -/
def wFrozen : Entry := { wLearned with frozen := true, frozenUntil := 5 }
def wIdle : Entry := { wLearned with activity := false }
def wFrozenL : Entry := { wFrozen with frozenUntil := 10000000000000 }

/-- A request with an operand payload, with a record, on session 0 of C0. -/
def wRec (ktype flags : Nat) : List Byte :=
  toBytes 1 ktype ++ toBytes 1 flags ++ [2, 0] ++ toBytes 4 0xFFFFFFFF ++ toBytes 4 0 ++ toBytes 20 (macKey 9 0x021122334455) ++
    toBytes 16 (portResult 7)

/-- A static entry of that key. -/
def wHost : Entry := ⟨1, 2, macKey 9 0x021122334455, portResult 3, true, false, false, false, 4, [], 0⟩

/-- A request in hand that was accepted, and its session. -/
def wReqA (op : Nat) : Request := ⟨7, op, 0x1400, 0, [], false, true, true, 0, 0, true, true, false⟩
def wSessA (op : Nat) : Session := { Session.init with isOpen := true, role := roleSite, gen := 3, requests := [wReqA op] }
def wFlush : Flush := ⟨⟨0, 3, 7⟩, 3, 0, 0, 0⟩
def wBulk : Bulk := ⟨⟨0, 3, 7⟩, [], 5, 1, 2, 6, true⟩

/-- A frame on the slow path, in the first buffer of C0. -/
def wSlow (b : Buffer) (l : List (Nat × Nat × Nat)) : State := { wUp l with bufs := [(0, b)] }
def wSlowF : Frame := { wFrame with reason := 3 }
def wSlowB : Buffer := ⟨0, true, false, List.replicate 96 0, some wSlowF⟩
def wSlowG : Frame := { wFrame with reason := 3, bytes := wEth 46, ipOff := some 14 }
def wSlowC : Buffer := ⟨0, true, false, List.replicate 96 0, some wSlowG⟩
def wRoute : State := { wSlow wSlowC [] with hostTab := [(hostKey 2 0 0, (2 ^ 18 * 2 ^ 108, true))] }
def wRouteBad : State := { wSlow wSlowC [] with hostTab := [(hostKey 2 0 0, (2 ^ 18 * 2 ^ 108 + 200 * 2 ^ 108, true))] }
def wTxHead : TxHead := ⟨0, 0, 0, 0, 0, 0, 0xFFFF, false, false⟩

/-- No physical next hop is free: the whole reserve is quiet. -/
def wNoneFree : State := { wUp [] with quietNh := (List.range 16384).map (fun i => (65536 + i, 0)) }

/-- No physical rewrite entry is free. -/
def wNoneFreeR : State := { wUp [] with quietRw := (List.range 32768).map (fun i => (131072 + i, 0)) }

/-- Next hop 0 is of kind 0, to port 0. -/
def wNextHop : State := { wUp [] with physNh := [(0, 0)] }

/-- Coursing runs, and port 5 has a calendar. -/
def wCal (c : CoursePort) (l : List (Nat × Nat × Nat)) : State := { wUp ([(0x1C11, 0, 1), (0x1C00, 5, 1)] ++ l) with courses := [(5, c)] }

/-- A calendar whose next edge is due. -/
def wEdge (opens : Bool) : CoursePort := ⟨true, 3, 0, 0, opens, 0, 0, 0, [], none, ⟨0, 0, 0, []⟩⟩
def wOld : CoursePort := { wEdge false with old := [⟨3, 7, 0, 0, 0, 0⟩] }
def wBank : CourseBank := ⟨1000000, 7, 500, [1]⟩
def wSwapDue : CoursePort := { CoursePort.init with swapRC := some 0, swapBank := wBank }

/-- The gate list of port 5 passes its checks; its list runs at an entry of two. -/
def wGate (l : List (Nat × Nat × Nat)) : State := wUp ([(0x2203, 5, 1), (0x2202, 5, 1000), (0x2204, 1280, 100 * 2 ^ 32 + 7 * 2 ^ 24)] ++ l)
def wList (n : Nat) : State :=
  { wUp [(0x220A, 5, 2), (0x220B, 1280, 100 * 2 ^ 32 + 7 * 2 ^ 24), (0x220B, 1281, 100 * 2 ^ 32 + 3 * 2 ^ 24), (0x2209, 5, 1000),
      (0x221F, 5, 2), (0x220C, 5, n)] with gateEdge := [(5, 0)] }

/-- Port 5 has sent a PFC frame of class 3 and its occupancy stays high. -/
def wXoff : State :=
  { (wPort [(0x0800, 5, 1), (0x0805, 5, 3), (0x0832, 5, 8)] 5 (fun q => { q with xoff := [(3, 0)] })).updPl 0
      (fun q => { q with pools := { q.pools with occ := [(43, 60000)] } }) with time := { (wUp []).time with running := true } }

/-- A copy on its way to port 5 from plane A, and a bond unit. -/
def wLink : LinkCopy := ⟨wFrame, wEth 46, 0, 40, 60, true, none, 0, .waiting⟩
def wLinkEnd (r : Role) (d : Nat) : LinkCopy := ⟨wFrame, wEth 46, 0, 40, 60, true, some 0, d, r⟩
def wLinkF : LinkCopy := { wLink with frame := { wFrame with frer := some (2 ^ 30) } }
def wItem (n : Nat) : FifoItem := ⟨wFrame, 0, n, 0, 0, [], none, false⟩
def wBond (p : Nat) (x : List LinkCopy) (b : Bond) (l : List (Nat × Nat × Nat)) : State :=
  { (wUp ([(0x281F, 0, 2), (0x281F, 1, 2)] ++ l)).updPl p (fun q => { q with links := [(5, x)] }) with bonds := [(5, b)] }

/-- An entry sent from plane A. -/
def wEntry (st : BondState) (seen : Nat) : BondEntry := ⟨5, wFrame.seq, wFrame.rc, 0, st, 0, seen, true, false, 9, false, false, none, false⟩
def wUnit (n : BondEntry) : Bond := ⟨[n], [], [], 0⟩

/-- Both planes are bonded, and plane A has met a condition of R339, or both have. -/
def wJudge (f : Judge → Judge) (l : List (Nat × Nat × Nat)) : State :=
  let s := wUp l
  { s with judge := f s.judge }
def wInteg (j : Judge) : Judge := { j with integ := [(0, ⟨0, 16, 0⟩)] }
def wIntegs (j : Judge) : Judge := { j with integ := [(0, ⟨0, 16, 0⟩), (1, ⟨0, 99, 0⟩)] }

/-- An armed slot whose activation RC differs in plane A. -/
def wDiffer : State := (wUp []).updSlot 0 (fun x => { x with state := .armed, actRC := 9, actA := 8, actB := 9 })

def wDiffer2 : State := (wUp []).updSlot 0 (fun x => { x with state := .armed, actRC := 9, actA := 8, actB := 8 })

/-- A reseed under way. -/
def wReseed (p : Nat) (l : List (Nat × Nat × Nat)) : State := { wUp l with reseed := some ⟨p, 6, false, 0, none, 0, 0⟩ }
def wReseedOf (p : Nat) : Reseed := ⟨p, 6, false, 0, none, 0, 0⟩

/-- A change of the controllers. -/
def wCtls (a b : Ctl) (l : List (Nat × Nat × Nat)) : State := { wUp l with ctls := [(0, a), (1, b)] }
def wBeats : Ctl := { Ctl.init with beats := true }
def wLone : Ctl := { Ctl.init with lone := true }
def wAsks : Ctl := { Ctl.init with beats := true, asking := some 0 }

/-- The token has just been granted to C1, whose peer failed, with a session of C0. -/
def wOver (v : Nat) (l : Tab Session) : State := { wUp [(0x0302, 0, 2), (0x0300, 0, 0), (0x0301, 1, v), (0x0301, 0, 1)] with sessions := l }
def wSessR : Session := { wSessA 0x7F with requests := [{ wReqA 0x7F with accepted := false }] }
def wReqR : Request := { wReqA 0x7F with accepted := false }

/-- A triple is pending for an RC. -/
def wTriple : Triple := ⟨5, 7, 9⟩
def wNext (r : Nat) : State := let s := wUp []; { s with time := { s.time with next := some (wTriple, r) } }

/-- The servo runs, and is in a state. -/
def wServo (f : Servo → Servo) (l : List (Nat × Nat × Nat)) : State := (wUp l).updServo f

/-- A PTP message over Ethernet, of domain 24, from a port identity. -/
def wPtp (dom ty flags src n : Nat) (body : List Byte) : List Byte :=
  toBytes 6 0x011B19000000 ++ toBytes 6 0x02 ++ toBytes 2 0x88F7 ++ toBytes 1 ty ++ toBytes 1 0x12 ++ toBytes 2 (34 + body.length) ++
    toBytes 1 dom ++ toBytes 1 0 ++ toBytes 2 flags ++ toBytes 8 0 ++ toBytes 4 0 ++ toBytes 10 src ++ toBytes 2 n ++ toBytes 2 0 ++ body

/-- PTP runs on port 5, in a state, with parent 77. -/
def wPtpUp (st : Nat) (f : PtpPort → PtpPort) (l : List (Nat × Nat × Nat)) : State :=
  (wUp ([(0x3108, 5, 1), (0x3100, 0, 1), (0x0805, 5, 3), (0x3102, 0, 24), (0x3110, 5, st), (0x3113, 0, 77)] ++ l)).updPtp 5 f

/-- An IPv6 PTP interface of port 5, and a Signaling message to it. -/
def wSignal (parts : List Byte) : List Byte :=
  toBytes 6 0x021122334455 ++ toBytes 6 0x02 ++ toBytes 2 0x86DD ++ toBytes 4 (6 * 2 ^ 28) ++ toBytes 2 (52 + parts.length) ++ toBytes 1 17 ++
    toBytes 1 64 ++ toBytes 16 99 ++ toBytes 16 98 ++ toBytes 2 320 ++ toBytes 2 320 ++ toBytes 2 (52 + parts.length) ++ toBytes 2 0 ++
    toBytes 1 12 ++ toBytes 1 0x12 ++ toBytes 2 (44 + parts.length) ++ toBytes 1 24 ++ toBytes 1 0 ++ toBytes 2 0x0400 ++ toBytes 8 0 ++
    toBytes 4 0 ++ toBytes 10 77 ++ toBytes 2 3 ++ toBytes 2 0 ++ toBytes 10 ((wPtpUp 6 id []).portIdentity 5) ++ parts
def wAsk : List Byte := toBytes 2 4 ++ toBytes 2 6 ++ toBytes 1 176 ++ toBytes 1 0 ++ toBytes 4 300
def wDep (m : Nat) : Departure := ⟨m, 24, 3, 9, 1⟩
def wLeave (m : Nat) (l : List (Nat × Nat × Nat)) : State := { wUp l with leaving := [(5, [wDep m])] }

/-- A PTP message of a type to the IPv6 interface of port 5, and the registers of that interface. -/
def wUni (ty : Nat) (body : List Byte) : List Byte :=
  toBytes 6 0x021122334455 ++ toBytes 6 0x02 ++ toBytes 2 0x86DD ++ toBytes 4 (6 * 2 ^ 28) ++ toBytes 2 (42 + body.length) ++ toBytes 1 17 ++
    toBytes 1 64 ++ toBytes 16 99 ++ toBytes 16 98 ++ toBytes 2 319 ++ toBytes 2 319 ++ toBytes 2 (42 + body.length) ++ toBytes 2 0 ++
    toBytes 1 ty ++ toBytes 1 0x12 ++ toBytes 2 (34 + body.length) ++ toBytes 1 24 ++ toBytes 1 0 ++ toBytes 2 0x0400 ++ toBytes 8 0 ++
    toBytes 4 0 ++ toBytes 10 77 ++ toBytes 2 3 ++ toBytes 2 0 ++ body
def wUniRegs : List (Nat × Nat × Nat) := [(0x3101, 0, 1), (0x311D, 5, 1), (0x311F, 5, 6 * 2 ^ 152 + 98 * 2 ^ 24)]

/-- An ESMC PDU with QL PRC and no enhanced code. -/
def wEsmc : List Byte :=
  toBytes 6 0x0180C2000002 ++ toBytes 6 0x02 ++ toBytes 2 0x8809 ++ toBytes 1 0x0A ++ toBytes 3 0x0019A7 ++ toBytes 2 1 ++ toBytes 1 0x10 ++
    toBytes 3 0 ++ toBytes 3 0x010004 ++ toBytes 1 2 ++ toBytes 32 0
def wSynce (f : Synce → Synce) (l : List (Nat × Nat × Nat)) : State := (wUp ([(0x3200, 0, 1), (0x0805, 5, 3)] ++ l)).updSynce f

/-- A change of the receiver's record; of the TIO connector's. -/
def wGnss (f : Gnss → Gnss) (l : List (Nat × Nat × Nat)) : State := (wUp l).updGnss f
def wTio (f : Tio → Tio) (l : List (Nat × Nat × Nat)) : State := (wUp l).updTio f

/-- A change of the clocks' record; a channel of C1 reads plane A's memory, whose gate is asked to close. -/
def wClk (f : Clocks → Clocks) (l : List (Nat × Nat × Nat)) : State := (wUp l).updClocks f
def wGateAccess : State :=
  { wClk (fun q => { q with closing := [(0, 0)] }) [(0x3800, 31, 1), (0x380B, 31, 100)] with
    chans := [(31, ⟨some ((3 * 16 + 1) * 2 ^ (8 * 10)), none, none⟩)] }

/-- C0 is active and has no session. -/
def wNoSess : State := { wUp [] with sessions := [] }

/-- A certificate of an observer under anchor 2. -/
def wClient : Client := ⟨2, some 1, 0, 1000, 77, 99⟩

/-- Session 0 is to enrol; is an observer's; has an open bundle; has a request that waits, or one that has started. -/
def wSess (x : Session) (l : List (Nat × Nat × Nat)) : State := { wUp l with sessions := [(0, x)] }
def wOpen : Session := { Session.init with isOpen := true, role := roleSite }
def wEnrol : State := wSess { wOpen with enrol := .awaited } []
def wObserver : State := wSess { wOpen with role := roleObserver } []
def wBundle : State := wSess { wOpen with bundle := some [] } []
def wGiven : State := wSess { wOpen with enrol := .given } []
def wSkips : State := wSess { wOpen with skip := [7] } []
def wCutShort : State := wSess { wOpen with requests := [{ wReqR with last := false }] } []
def wStager : State := (wUp []).updFw (fun q => { q with stager := some ⟨0, 0, 9⟩, image := [1] })

/-- Every session of C0 is taken; 15 failed handshakes within the last 60 s. -/
def wTaken : State := { wUp [(0x0408, 2, 9), (0x0409, 2, 15)] with sessions := [(0, wOpen), (1, wOpen), (2, wOpen), (3, wOpen)] }
def wFails (l : List (Nat × Nat × Nat)) : State := { wUp l with authFails := List.replicate 15 0 }
def wWaits : State := wSess wSessR []
def wReqS : Request := { wReqA 0x14 with tag := 9 }
def wOne : State := { wSess { wOpen with requests := [wReqS] } [] with issued := 1 }

/-- The row of a parameter; a request whose flash write fails. -/
def wRow (p : Nat) : Row := (Catalogue.row? p).getD (Row.wo .bool .one .any)
def wReqBad (inst : Nat) (data : List Byte) : Req := { wReq inst data with flashOk := false }

/-- A subscription to PID 0209h that last saw 9, or its value; the session that holds it; a session with 64. -/
def wSub : Sub := ⟨0x0209, 0, 1, 0, 0, 1, 5, [(1, 9)], [], 0⟩
def wSubN : Sub := { wSub with vals := [(1, 20)] }
def wSubX (b : Sub) : Session := { wOpen with subs := [(0, b)] }
def wSubP : Sub := { wSubN with mode := 2, period := 100 }
def wQueued (n : Nat) : Msg := ⟨0, 0xE0, 0, n, 7, 0, 0x0209, 0, [5]⟩
def wQueueFull : Session := { wSubX wSub with queue := List.replicate 256 (wQueued 0) }
def wSubbed (b : Sub) : State := wSess (wSubX b) []
def wFull : State := wSess { wOpen with subs := (List.range 64).map (fun k => (k, wSub)) } []

/-- A condition that has lasted `n` windows. -/
def wSustain (bit n : Nat) : State := { wUp [] with sustain := [(bit * 2 ^ 32 + 3, (0, n))] }

/-- A default tenant for port 143 in a bundle, and its COMMIT at the earliest; one against R150. -/
def wDefTen : Tab Nat := [(regKey 0x1018 0, 0x8000)]
def wCommit : List Byte := toBytes 4 5 ++ [1] ++ toBytes 19 0
def wBundle1 (l : List (Nat × Nat × Nat)) : State := wActive (wSess { wOpen with bundle := some wDefTen } l)
def wBundleBad : State := wActive (wSess { wOpen with bundle := some [(regKey 0x1018 0, 0x8001)] } [])

/-- A commit awaits the standby. -/
def wReqC : Request := { wReqA 4 with accepted := false }
def wSessC : Session := { wSessA 4 with requests := [wReqC] }
def wAck : State :=
  ({ wActive (wSess wSessC [(0x103E, 0, 2)]) with committing := some ⟨.host ⟨0, 3, 7⟩, 1, 5, wDefTen, none⟩ } : State).updSlot 1
    (fun x => { x with state := .loading, image := wDefTen })

/-- Slot V1 is armed for an early RC; for a late one; drains. -/
def wCommitAt : List Byte := toBytes 4 5 ++ toBytes 4 0 ++ toBytes 8 3 ++ toBytes 8 0
def wTakes : State :=
  { (({ wUp [(0x0302, 0, 2), (0x0300, 0, 0), (0x0301, 0, 1), (0x0301, 1, 4)] with
      sessions := [(0, wSessC)], committing := some ⟨.host ⟨0, 3, 7⟩, 1, 5, wDefTen, some 0⟩ } : State).updSlot 1
    (fun x => { x with state := .loading, image := wDefTen })) with rc := 100 }
/-- A session whose bundle is full. -/
def wManySets : State := wSess { wOpen with bundle := some (List.replicate 65536 (0, 0)) } []
def wNoSlot : State := (List.range 4).foldl (fun s v => s.updSlot v (fun x => { x with state := .loading })) (wUp [])
def wArmed : State := wRunning ((wActive (wUp [])).updSlot 1 (fun x => { x with state := .armed, actRC := 9 }))
def wArmedL : State := { (wActive (wUp [])).updSlot 1 (fun x => { x with state := .armed, actRC := 10 ^ 9 }) with latestSlot := 1 }
def wStall : State := (wRunning ((wActive (wUp [])).updSlot 1 (fun x => { x with state := .draining, succRC := 0 }))).updPl 0
  (fun q => { q with recirc := [{ wFrame with bed := 2 ^ 242 }] })
def wDrain : State := wRunning ((wActive (wUp [])).updSlot 1 (fun x => { x with state := .draining, succRC := 0 }))

/-- The payload of a snapshot of one instance, and of one at an RC that is too near; a snapshot of PID 3006h that is due. -/
def wSnapData : List Byte := toBytes 4 1 ++ toBytes 20 0
def wSnapNear : List Byte := toBytes 4 1 ++ toBytes 4 0 ++ toBytes 9 799 ++ toBytes 7 0
def wSnapAt : List Byte := toBytes 4 1 ++ toBytes 4 0 ++ toBytes 9 800 ++ toBytes 7 0
def wReqT (op : Nat) : Request := { wReqA op with accepted := false }
def wSessS (op : Nat) : Session := { wSessA op with requests := [wReqT op] }
def wSnap2 : State :=
  { wSess (wSessS 0x20) [(0x3C20, 1, 77)] with snaps := [⟨0, 0x3C20, 0, 3, true, ⟨0, 3, 7⟩⟩] }
def wSnap (p : Nat) : State :=
  { wSess (wSessS 0x20) [(0x3006, 0, 77)] with snaps := [⟨0, p, 0, if p = 0x3C2D then 0 else 1, true, ⟨0, 3, 7⟩⟩] }

/-- A fault entry, and a record that holds it. -/
def wEnt : FaultEntry := ⟨true, false, false, false, 9, 4, 77⟩
def wFault (b : Nat) (l : List (Nat × Nat × Nat)) : State := { wUp l with faults := [(b, wEnt)] }
def wFault2 : State := { wUp [] with faults := [(0, FaultEntry.clear), (255, wEnt)] }

/-- Firmware operations: a change of their record; a stage that receives; a staged image; an activation that is requested. -/
def wFw (f : Firmware → Firmware) (l : List (Nat × Nat × Nat)) : State := (wUp l).updFw f
def wReqF : Request := { wReqT 0x50 with last := false }
def wSwapped : State := { (wFw (fun q => { q with step := 2 }) [(0x0302, 0, 2), (0x0300, 0, 0), (0x0301, 0, 1), (0x0301, 1, 4)]) with sessions := [] }
def wStaging : State :=
  (wSess { wSessA 0x50 with requests := [wReqF] } []).updFw (fun q => { q with image := [1, 2], stager := some ⟨0, 3, 7⟩ })
def wStaged : State := wFw (fun q => { q with header := List.replicate 128 0 }) [(0x0009, 1, 2), (0x0009, 3, 2)]
def wFwDone (f : Firmware → Firmware) (l : List (Nat × Nat × Nat)) : State :=
  ((wSess (wSessA 0x51) l).updFw (fun q => { q with who := some ⟨0, 3, 7⟩ })).updFw f

/-- An image with an empty body and its SHA-256, for the default hardware. -/
def wImage : List Byte :=
  toBytes 4 0x5059524D ++ toBytes 4 0x100 ++ toBytes 4 0 ++ toBytes 4 0 ++ toBytes 24 (State.reset.rd 0x0001 0) ++ toBytes 8 0 ++
    toBytes 32 0xe3b0c44298fc1c149afbf4c8996fb92427ae41e4649b934ca495991b7852b855 ++ toBytes 112 0

/-- Descriptors: plane A's memory to a controller's; a bad one; within a controller's memory. A channel of C0 that has one. -/
def wHodBytes (spaces flags len : Nat) : BitVec 256 :=
  BitVec.ofNat 256 (beNat (toBytes 16 0 ++ toBytes 4 len ++ toBytes 1 flags ++ toBytes 1 spaces ++ toBytes 10 0))
def wHodDesc : BitVec 256 := wHodBytes 0x31 0x80 64
def wHodBad : BitVec 256 := wHodBytes 0x31 0x80 0
def wHodMem : BitVec 256 := wHodBytes 0x12 0x80 64
def wChan (d : Nat) (l : List (Nat × Nat × Nat)) : State := { wUp l with chans := [(3, ⟨some d, none, none⟩)] }
def wHodLink : BitVec 256 := wHodBytes 0x31 0xC0 64
def wHodOut : BitVec 256 := BitVec.ofNat 256 (beNat (toBytes 8 (2 ^ 33) ++ toBytes 8 0 ++ toBytes 4 64 ++ toBytes 1 0x80 ++ toBytes 1 0x01 ++ toBytes 10 0))
def wChanWaits (l : Option Nat) : State :=
  { wUp [(0x010E, 0, 3)] with chans := [(3, ⟨none, l, none⟩)], domOps := [(0, ⟨1, 0, none⟩)] }
def wChanLink : State := { wUp [] with chans := [(3, ⟨none, some 77, none⟩)] }
def wHodFull : State :=
  { wChan wHodDesc.toNat [(0x3800, 3, 1), (0x3809, 3, 5), (0x380A, 3, 3), (0x380B, 3, 64)] with
    hodMem := (List.range 69).map (fun i => (memKey 4 i, BitVec.ofNat 8 i)) }
def wChanDrain : State := { wChan wHodDesc.toNat [(0x3800, 3, 1), (0x010E, 0, 3)] with domOps := [(0, ⟨1, 0, none⟩)] }

/-- A copy that has come from plane A to C0, whose window holds keys; a transmit header for port 5. -/
def wLinkDone : LinkCopy := { wLink with status := some 0 }
def wCtlLink (w : List RecvKey) (l : List (Nat × Nat × Nat)) : State :=
  { (wUp l).updPl 0 (fun q => { q with links := [(144, [wLinkDone])] }) with recv := [(0, ⟨w, []⟩)] }
def wTxOk : BitVec 128 :=
  BitVec.ofNat 128 (beNat ([0, 2, 0, 0] ++ toBytes 4 5 ++ [0, 0, 0xFF, 0xFF] ++ toBytes 2 60 ++ [0, 0]))
def wCtlFrom (x : LinkCopy) (r : Recv) : State :=
  { (wUp [(0x1005, 0, 1)]).updPl 0 (fun q => { q with links := [(144, [x])] }) with recv := [(0, r)] }
def wLinkOver : LinkCopy := { wLinkDone with frame := { wFrame with reason := 4 } }
def wLinkBad : LinkCopy := { wLink with status := some 1 }
def wCtlOver : State := wCtlFrom wLinkOver ⟨[], []⟩
def wCtlLate : State := wCtlFrom wLinkDone ⟨[], [(5, wFrame.seq, 0)]⟩
def wCtlBad : State := wCtlFrom wLinkBad ⟨[], []⟩
def wCtlOpen : State := wCtlFrom wLink ⟨[], []⟩

/-- A change of the latch; of the cartridge; a record in progress while the bypass is closed; a latch whose clock has been set. -/
def wLatch (f : Latch → Latch) (l : List (Nat × Nat × Nat)) : State := let s := wUp l; { s with latch := f s.latch }
def wCart (f : Cartridge → Cartridge) (l : List (Nat × Nat × Nat)) : State := (wUp l).updCart f
def wBayOpen : State :=
  (wLatch (fun q => { q with closed := true }) [(0x4017, 63, 7 * 2 ^ 272 + 4 * 2 ^ 24), (0x4019, 0, 1)]).updBay (fun q => { q with current := some 63 })
def wBaySet : State := (wUp [(0x3002, 0, 1)]).updBay (fun q => { q with latchSet := some 0 })
def wLatchCart : State := let s := wCart (fun q => { q with on := true }) []; { s with latch := { s.latch with closed := true } }

/-- A cartridge under discipline, 77 ticks behind DT; one that an inspector's session reads. -/
def wDisc (f : Cartridge → Cartridge) : State :=
  let s := wRunning (wCart (fun q => f { q with on := true, valid := true, utcOff := signed 16 (State.reset.rd 0x3009 0) })
    [(0x4000, 0, 1), (0x400B, 0, 1), (0x400C, 0, 60), (0x3002, 0, 1), (0x3400, 0, 2)])
  { s with time := { s.time with triple := ⟨0, 77 * 163840, 0⟩ } }
def wInspect (f : Cartridge → Cartridge) : State :=
  (wSess { wOpen with role := roleInspector } [(0x4000, 0, 1), (0x400B, 0, 1), (0x3002, 0, 1), (0x3400, 0, 2)]).updCart f
def wTenant (f : Cartridge → Cartridge) : State :=
  (wSess { wOpen with role := 31 } [(0x4000, 0, 1), (0x4005, 15, 15), (0x4005, 14, 3)]).updCart f

/-- The latch's ring is full, its oldest entry unread, and the next record's place holds one that nobody has read; the clock was set an
hour ago; a record is in progress, whose end the latch holds; another cartridge than the one last seen. -/
def wLatchFull : State :=
  (wLatch (fun q => { q with on := true, ring := List.replicate 32 ⟨false, 3, false, false⟩ }) []).updBay (fun q => { q with next := 63, unread := [63] })
def wLatchSet : State :=
  (wLatch (fun q => { q with on := true }) [(0x3002, 0, 1)]).updBay (fun q => { q with latchSet := some 0 })
def wLatchEnd : State :=
  (wLatch (fun q => { q with on := true, ring := [⟨false, 19, true, false⟩] }) [(0x4017, 63, 7 * 2 ^ 272 + 4 * 2 ^ 24), (0x4019, 0, 1)]).updBay
    (fun q => { q with current := some 63 })
def wSwappedCart : State := (wCart (fun q => { q with on := true, records := [(15, [2 ^ 300])] }) []).updBay (fun q => { q with seen := 5 })
def wMany : State := wCart (fun q => { q with records := [(15, List.replicate 9601 0)] }) [(0x4000, 0, 1)]

/-- The key is in both planes, at different places. -/
def wBothHosts : State := (wPlane [] (fun q => { q with store := [(5, wHost)] })).updPl 1 (fun q => { q with store := [(9, wHost)] })

/-- A pending triple; an entry with every field at its greatest; C1 as standby, with its session 0 open; a request to it. -/
def wPending : State := let s := wRunning (wUp []); { s with time := { s.time with next := some (⟨5, 77, -3⟩, 9) } }
def wFullEntry : Entry := ⟨255, 255, 2 ^ 160 - 1, 2 ^ 128 - 1, true, true, true, true, 65535, [], 0⟩
def wAtStandby : State := let s := wUp []; { s with sessions := [(4, { Session.init with isOpen := true, role := roleSite })] }
def wReq1 (inst : Nat) (data : List Byte) : Req := ⟨1, 0, 7, false, BitVec.ofNat 32 inst, data, true⟩

theorem witness_PowerSupplyEventsSetTheirStatus_1 :
    ((wRegs [(0x011C, 1, 1)] : State).psu (1 : Fin 2).val = 1) ∧ ((749 : BitVec 16).toNat < 750) := by decide

theorem witness_PowerSupplyEventsSetTheirStatus_2 :
    ((wRegs [(0x011C, 0, 0)] : State).psu (0 : Fin 2).val = 0) ∧ (800 < (801 : BitVec 16).toNat) ∧ ((801 : BitVec 16).toNat ≤ 3000) := by decide

theorem witness_PowerSupplyEventsSetTheirStatus_3 :
    ((wRegs [(0x011C, 0, 1)] : State).psu (0 : Fin 2).val ≠ 2) ∧ ((wRegs [(0x011C, 0, 1)] : State).psu (0 : Fin 2).val ≠ 3) ∧ (3000 < (3001 : BitVec 16).toNat) := by decide

theorem witness_PowerSupplyEventsSetTheirStatus_4 :
    ((wRegs [(0x011C, 0, 2)] : State).psu (0 : Fin 2).val = 2) ∧ ((2799 : BitVec 16).toNat < 2800) := by decide

theorem witness_PowerSupplyEventsSetTheirStatus_5 :
    ((wRegs [(0x011C, 0, 1)] : State).psu (0 : Fin 2).val ≠ 3) := by decide

theorem witness_PowerSupplyEventsSetTheirStatus_6 :
    ((wRegs [(0x011C, 0, 1)] : State).psu (0 : Fin 2).val = 1) := by decide

theorem witness_PowerSupplyEventsSetTheirStatus_7 :
    ((wRegs [(0x011C, 0, 3)] : State).psu (0 : Fin 2).val ≠ 1) := by decide

theorem witness_PowerSupplyEventsSetTheirStatus_8 :
    ((wRegs [(0x011C, 0, 1)] : State).psu (0 : Fin 2).val ≠ 1 ∨ 750 ≤ (750 : BitVec 16).toNat) := by decide

theorem witness_PowerSupplyEventsSetTheirStatus_9 :
    ((wRegs [(0x011C, 0, 0)] : State).psu (0 : Fin 2).val ≠ 0 ∨ (3001 : BitVec 16).toNat ≤ 800 ∨ 3000 < (3001 : BitVec 16).toNat) := by decide

theorem witness_PowerSupplyEventsSetTheirStatus_10 :
    ((wRegs [(0x011C, 0, 1)] : State).psu (0 : Fin 2).val = 2 ∨ (wRegs [(0x011C, 0, 1)] : State).psu (0 : Fin 2).val = 3 ∨ (3000 : BitVec 16).toNat ≤ 3000) := by decide

theorem witness_PowerSupplyEventsSetTheirStatus_11 :
    ((wRegs [(0x011C, 0, 2)] : State).psu (0 : Fin 2).val ≠ 2 ∨ 2800 ≤ (2800 : BitVec 16).toNat) := by decide

theorem witness_PowerSupplyEventsSetTheirStatus_12 :
    ((wRegs [(0x011C, 0, 3)] : State).psu (0 : Fin 2).val = 3) := by decide

theorem witness_MainsAppliedRestartsTheModule_1 :
    ((State.reset : State).power.mains = none) ∧ (800 < (801 : BitVec 16).toNat) := by decide

theorem witness_MainsAppliedRestartsTheModule_2 :
    ((wUp [] : State).power.mains.isSome = true ∨ (800 : BitVec 16).toNat ≤ 800) := by decide

theorem witness_PowerLossShutsDownInOrder_1 :
    ((wUp [(0x011C, 0, 0), (0x011C, 1, 0)] : State).power.mains.isSome = true) ∧ ((wUp [(0x011C, 0, 0), (0x011C, 1, 0)] : State).power.gasp = none) ∧ ((wUp [(0x011C, 0, 0), (0x011C, 1, 0)] : State).busUp = false) ∧ ((wUp [(0x011C, 0, 0), (0x011C, 1, 0)] : State).dom 12 ≠ 0) ∧ ((wUp [(0x011C, 0, 0), (0x011C, 1, 0)] : State).holder = some (0 : Nat)) := by decide

theorem witness_PowerLossShutsDownInOrder_2 :
    ((wUp [(0x011C, 0, 0), (0x011C, 1, 0), (0x0302, 0, 0)] : State).power.mains.isSome = true) ∧ ((wUp [(0x011C, 0, 0), (0x011C, 1, 0), (0x0302, 0, 0)] : State).power.gasp = none) ∧ ((wUp [(0x011C, 0, 0), (0x011C, 1, 0), (0x0302, 0, 0)] : State).busUp = false) ∧ ((wUp [(0x011C, 0, 0), (0x011C, 1, 0), (0x0302, 0, 0)] : State).dom 12 ≠ 0) ∧ ((wUp [(0x011C, 0, 0), (0x011C, 1, 0), (0x0302, 0, 0)] : State).holder = none) := by decide

theorem witness_PowerLossShutsDownInOrder_3 :
    ((wUp [] : State).busUp = true ∨ (wUp [] : State).power.gasp.isSome = true) := by decide

theorem witness_PowerLossShutsDownInOrder_4 :
    ((wGasp 0 : State).power.gasp = some (0 : Nat)) ∧ ((wGasp 0 : State).power.shut = 0) ∧ ((0 : Nat) + 2400000 ≤ (wGasp 0 : State).clk + (2400000 : Nat)) := by decide

theorem witness_PowerLossShutsDownInOrder_5 :
    ((wGasp 1 : State).power.gasp = some (0 : Nat)) ∧ ((wGasp 1 : State).power.shut = 1) ∧ ((0 : Nat) + 3200000 ≤ (wGasp 1 : State).clk + (3200000 : Nat)) := by decide

theorem witness_PowerLossShutsDownInOrder_6 :
    ((wGasp 2 : State).power.gasp = some (0 : Nat)) ∧ ((wGasp 2 : State).power.shut = 2) ∧ ((0 : Nat) + 4000000 ≤ (wGasp 2 : State).clk + (4000000 : Nat)) := by decide

theorem witness_PowerLossShutsDownInOrder_7 :
    ((wGasp 3 : State).power.gasp = some (0 : Nat)) ∧ ((wGasp 3 : State).power.shut = 3) ∧ ((0 : Nat) + 4400000 ≤ (wGasp 3 : State).clk + (4400000 : Nat)) := by decide

theorem witness_PowerLossShutsDownInOrder_8 :
    ((wGasp 3 : State).power.gasp = some (0 : Nat)) ∧ (shutdownTimes[(wGasp 3 : State).power.shut]? = some (4400000 : Nat)) ∧ ((wGasp 3 : State).clk + (4399999 : Nat) < (0 : Nat) + (4400000 : Nat)) := by decide

theorem witness_PowerLossShutsDownInOrder_9 :
    ((wUp [(0x0110, 0, 1)] : State).mayPower (2 : Fin 13).val = true) := by decide

theorem witness_PowerLossShutsDownInOrder_10 :
    ((wUp [(0x0117, 0, 1)] : State).mayPower (9 : Fin 13).val = true) ∧ (2 ≤ (9 : Fin 13).val) ∧ ((9 : Fin 13).val < 10) ∧ (Quiet (wUp [(0x0117, 0, 1)] : State)) ∧ (Tab.find? (wUp [(0x0117, 0, 1)] : State).domOps (9 : Fin 13).val = none) := by decide

theorem witness_PowerLossShutsDownInOrder_11 :
    ((wUp [(0x010F, 0, 1), (0x281F, 1, 0)] : State).mayPower (1 : Fin 13).val = true) ∧ ((1 : Fin 13).val < 2) ∧ (Quiet (wUp [(0x010F, 0, 1), (0x281F, 1, 0)] : State)) ∧ (Tab.find? (wUp [(0x010F, 0, 1), (0x281F, 1, 0)] : State).domOps (1 : Fin 13).val = none) ∧ ((wUp [(0x010F, 0, 1), (0x281F, 1, 0)] : State).rd 0x281F (1 : Fin 13).val ≠ 5) := by decide

theorem witness_PowerLossShutsDownInOrder_12 :
    ((wUp [(0x0119, 0, 1), (0x0301, 1, 0)] : State).mayPower (11 : Fin 13).val = true) ∧ (10 ≤ (11 : Fin 13).val) ∧ ((11 : Fin 13).val < 12) ∧ (Quiet (wUp [(0x0119, 0, 1), (0x0301, 1, 0)] : State)) ∧ (Tab.find? (wUp [(0x0119, 0, 1), (0x0301, 1, 0)] : State).domOps (11 : Fin 13).val = none) := by decide

theorem witness_PowerLossShutsDownInOrder_13 :
    ((wUp [(0x011A, 0, 1)] : State).mayPower 12 = true) ∧ ((wUp [(0x011A, 0, 1)] : State).time.running = false) ∧ (Quiet (wUp [(0x011A, 0, 1)] : State)) := by decide

theorem witness_PowerLossShutsDownInOrder_14 :
    ((wUp [] : State).mayPower (0 : Fin 13).val = false) ∧ (Quiet (wUp [] : State)) := by decide

theorem witness_PowerLossShutsDownInOrder_15 :
    (wChanDrain.hodBusy (0 : Fin 10).val = true) ∧ (Quiet wChanDrain) := by decide

theorem witness_PowerLossShutsDownInOrder_16 :
    (({ wUp [(0x2826, 0, 1), (0x281F, 1, 0)] with reseed := some { wReseedOf 1 with cycle := true } } : State).hodBusy (1 : Fin 10).val = false) ∧ (Tab.find? ({ wUp [(0x2826, 0, 1), (0x281F, 1, 0)] with reseed := some { wReseedOf 1 with cycle := true } } : State).domOps (1 : Fin 10).val = none) ∧ (({ wUp [(0x2826, 0, 1), (0x281F, 1, 0)] with reseed := some { wReseedOf 1 with cycle := true } } : State).reseed = some ({ wReseedOf 1 with cycle := true } : Reseed)) ∧ (({ wReseedOf 1 with cycle := true } : Reseed).plane = (1 : Fin 10).val) ∧ (({ wReseedOf 1 with cycle := true } : Reseed).cycle = true) ∧ (({ wUp [(0x2826, 0, 1), (0x281F, 1, 0)] with reseed := some { wReseedOf 1 with cycle := true } } : State).rd 0x2826 0 = 1) := by decide

theorem witness_PowerLossShutsDownInOrder_17 :
    (wDraining.hodBusy (2 : Fin 10).val = false) ∧ (Tab.find? wDraining.domOps (2 : Fin 10).val = some (⟨1, 0, none⟩ : DomOp)) ∧ (wDraining.dom (2 : Fin 10).val = 3) := by decide

theorem witness_PowerLossShutsDownInOrder_18 :
    ((wUp [(0x010E, 0, 0)] : State).dom (0 : Fin 12).val = 0) := by decide

theorem witness_PowerLossShutsDownInOrder_19 :
    ((wUp [] : State).dom (9 : Fin 12).val ≠ 0) ∧ (2 ≤ (9 : Fin 12).val) ∧ ((9 : Fin 12).val < 10) := by decide

theorem witness_PowerLossShutsDownInOrder_20 :
    ((wUp [] : State).dom (1 : Fin 12).val ≠ 0) ∧ ((1 : Fin 12).val < 2) := by decide

theorem witness_PowerLossShutsDownInOrder_21 :
    ((wUp [(0x0118, 0, 0)] : State).dom (11 : Fin 12).val ≠ 0) ∧ (10 ≤ (11 : Fin 12).val) := by decide

theorem witness_StageEntriesFollowTheirConditions_1 :
    ((wFooting [(0x0302, 0, 0)] : State).power.mains.isSome = true) ∧ ((wFooting [(0x0302, 0, 0)] : State).stageAtLeast 0 = false) ∧ ((wFooting [(0x0302, 0, 0)] : State).busUp = true) ∧ ((wFooting [(0x0302, 0, 0)] : State).isOn 12 = true) ∧ ((wFooting [(0x0302, 0, 0)] : State).isOn 10 = true) ∧ ((wFooting [(0x0302, 0, 0)] : State).isOn 11 = true) ∧ ((wFooting [(0x0302, 0, 0)] : State).holder = none) := by decide

theorem witness_StageEntriesFollowTheirConditions_2 :
    ((wFooting [] : State).power.mains.isSome = true) ∧ ((wFooting [] : State).stageAtLeast 0 = false) ∧ ((wFooting [] : State).busUp = true) ∧ ((wFooting [] : State).isOn 12 = true) ∧ ((wFooting [] : State).isOn 10 = true) ∧ ((wFooting [] : State).isOn 11 = true) ∧ ((wFooting [] : State).holder = some (0 : Nat)) := by decide

theorem witness_StageEntriesFollowTheirConditions_3 :
    ((wSill [(0x0100, 0, 0)] : State).stageAtLeast 0 = true) ∧ ((wSill [(0x0100, 0, 0)] : State).stageAtLeast 1 = false) ∧ ((wSill [(0x0100, 0, 0)] : State).power.applied = true) ∧ ((wSill [(0x0100, 0, 0)] : State).groupsOn = true) ∧ ((wSill [(0x0100, 0, 0)] : State).isOn (wSill [(0x0100, 0, 0)] : State).power.first = true) ∧ (Tab.find? (wSill [(0x0100, 0, 0)] : State).power.tests (wSill [(0x0100, 0, 0)] : State).power.first = some true) := by decide

theorem witness_StageEntriesFollowTheirConditions_4 :
    ((wSill [(0x0100, 0, 0)] : State).stageAtLeast 0 = true) ∧ ((wSill [(0x0100, 0, 0)] : State).stageAtLeast 1 = false) ∧ ((wSill [(0x0100, 0, 0)] : State).power.applied = true) ∧ ((wSill [(0x0100, 0, 0)] : State).groupsOn = true) ∧ ((wSill [(0x0100, 0, 0)] : State).isOn (wSill [(0x0100, 0, 0)] : State).power.first = true) ∧ (Tab.find? (wSill [(0x0100, 0, 0)] : State).power.tests (wSill [(0x0100, 0, 0)] : State).power.first = some true) := by decide

theorem witness_StageEntriesFollowTheirConditions_5 :
    ((((((wFailed.wr 0x0100 0 0).wr 0x281F 0 4).wr 0x281F 1 4).wr 0x010E 0 4).updPower (fun q => { q with applied := true }) : State).stageAtLeast 0 = true) ∧ ((((((wFailed.wr 0x0100 0 0).wr 0x281F 0 4).wr 0x281F 1 4).wr 0x010E 0 4).updPower (fun q => { q with applied := true }) : State).stageAtLeast 1 = false) ∧ ((((((wFailed.wr 0x0100 0 0).wr 0x281F 0 4).wr 0x281F 1 4).wr 0x010E 0 4).updPower (fun q => { q with applied := true }) : State).power.applied = true) ∧ ((((((wFailed.wr 0x0100 0 0).wr 0x281F 0 4).wr 0x281F 1 4).wr 0x010E 0 4).updPower (fun q => { q with applied := true }) : State).groupsOn = true) ∧ ((((((wFailed.wr 0x0100 0 0).wr 0x281F 0 4).wr 0x281F 1 4).wr 0x010E 0 4).updPower (fun q => { q with applied := true }) : State).bothFailed = true) ∧ ((((((wFailed.wr 0x0100 0 0).wr 0x281F 0 4).wr 0x281F 1 4).wr 0x010E 0 4).updPower (fun q => { q with applied := true }) : State).isOn (((((wFailed.wr 0x0100 0 0).wr 0x281F 0 4).wr 0x281F 1 4).wr 0x010E 0 4).updPower (fun q => { q with applied := true }) : State).power.first = false) ∧ ((((((wFailed.wr 0x0100 0 0).wr 0x281F 0 4).wr 0x281F 1 4).wr 0x010E 0 4).updPower (fun q => { q with applied := true }) : State).forwards = false) := by decide

theorem witness_StageEntriesFollowTheirConditions_6 :
    ((wSill [] : State).stageAtLeast 0 = false ∨ (wSill [] : State).stageAtLeast 1 = true ∨ (wSill [] : State).power.applied = false ∨ (wSill [] : State).groupsOn = false) := by decide

theorem witness_StageEntriesFollowTheirConditions_7 :
    ((wUp [] : State).stageAtLeast 0 = true ∨ (wUp [] : State).busUp = false ∨ (wUp [] : State).isOn 12 = false ∨ (wUp [] : State).isOn 10 = false ∨ (wUp [] : State).isOn 11 = false) := by decide

theorem witness_StageEntriesFollowTheirConditions_8 :
    ((wUp [] : State).rd 0x281F (wUp [] : State).power.first ≠ 3) := by decide

theorem witness_StageEntriesFollowTheirConditions_9 :
    ((wSill [] : State).stageAtLeast 1 = true) ∧ ((wSill [] : State).stageAtLeast 2 = false) ∧ ((wSill [] : State).flag 0x0108 0 = false) ∧ ((wSill [] : State).rd 0x281F (wSill [] : State).power.first = 3) ∧ ((wSill [] : State).rd 0x281F (1 - (wSill [] : State).power.first) = 2 ∨ (wSill [] : State).dom (1 - (wSill [] : State).power.first) = 4) := by decide

theorem witness_StageEntriesFollowTheirConditions_10 :
    ((wUp [(0x0108, 0, 1)] : State).flag 0x0108 0 = true) := by decide

theorem witness_StageEntriesFollowTheirConditions_11 :
    ((wSill [(0x281F, 1, 1)] : State).stageAtLeast 1 = true) ∧ ((wSill [(0x281F, 1, 1)] : State).stageAtLeast 2 = false) ∧ ((wSill [(0x281F, 1, 1)] : State).flag 0x0108 0 = false) ∧ ((wSill [(0x281F, 1, 1)] : State).rd 0x281F (wSill [(0x281F, 1, 1)] : State).power.first = 3) ∧ ((wSill [(0x281F, 1, 1)] : State).rd 0x281F (1 - (wSill [(0x281F, 1, 1)] : State).power.first) ≠ 2) ∧ ((wSill [(0x281F, 1, 1)] : State).power.mains.getD ((wSill [(0x281F, 1, 1)] : State).clk + (16000000000 : Nat)) + 16000000000 ≤ (wSill [(0x281F, 1, 1)] : State).clk + (16000000000 : Nat)) := by decide

theorem witness_StageEntriesFollowTheirConditions_12 :
    ((wSill [] : State).rd 0x281F (1 - (wSill [] : State).power.first) = 2 ∨ (wSill [] : State).flag 0x0108 0 = true ∨ (wSill [] : State).clk + (0 : Nat) < (wSill [] : State).power.mains.getD ((wSill [] : State).clk + (0 : Nat)) + 16000000000) := by decide

theorem witness_StageEntriesFollowTheirConditions_13 :
    ((wUp [(0x0100, 0, 2), (0x3400, 0, 2), (0x0125, 0, 1)] : State).stageAtLeast 2 = true) ∧ ((wUp [(0x0100, 0, 2), (0x3400, 0, 2), (0x0125, 0, 1)] : State).stageAtLeast 3 = false) ∧ ((wUp [(0x0100, 0, 2), (0x3400, 0, 2), (0x0125, 0, 1)] : State).rd 0x3400 0 = 2) ∧ ((wUp [(0x0100, 0, 2), (0x3400, 0, 2), (0x0125, 0, 1)] : State).flag 0x0109 0 = false ∨ (wUp [(0x0100, 0, 2), (0x3400, 0, 2), (0x0125, 0, 1)] : State).flag 0x0125 0 = true) := by decide

theorem witness_StageEntriesFollowTheirConditions_14 :
    ((wUp [(0x0100, 0, 2), (0x0109, 0, 1)] : State).flag 0x0109 0 = true) ∧ ((wUp [(0x0100, 0, 2), (0x0109, 0, 1)] : State).flag 0x0125 0 = false) := by decide

theorem witness_StageEntriesFollowTheirConditions_15 :
    ((wUp [] : State).stageAtLeast 3 = true) ∧ ((wUp [] : State).rd 0x3400 0 ≠ 2) ∧ ((wUp [] : State).rd 0x3400 0 ≠ 3) := by decide

theorem witness_StageEntriesFollowTheirConditions_16 :
    ((wUp [(0x3400, 0, 3)] : State).rd 0x3400 0 = 2 ∨ (wUp [(0x3400, 0, 3)] : State).rd 0x3400 0 = 3) := by decide

theorem witness_StageEntriesFollowTheirConditions_17 :
    ((wUp [(0x0100, 0, 2)] : State).stageAtLeast 3 = false) := by decide

theorem witness_StageEntriesFollowTheirConditions_18 :
    ((wUp [] : State).stageAtLeast 2 = false ∨ (wUp [] : State).stageAtLeast 3 = true ∨ (wUp [] : State).rd 0x3400 0 ≠ 2) := by decide

theorem witness_StartOfControllersAndPlanes_1 :
    ((wUp [(0x0301, 1, 1)] : State).isOn (10 + (1 : CtlNo).val) = true) ∧ ((wUp [(0x0301, 1, 1)] : State).ctlState (1 : CtlNo).val = 1) ∧ (((wUp [(0x0301, 1, 1)] : State).ctl (1 : CtlNo).val).lone = false) ∧ (((wUp [(0x0301, 1, 1)] : State).ctl (1 : CtlNo).val).cold = true) ∧ ((wUp [(0x0301, 1, 1)] : State).rd 0x0008 (1 : CtlNo).val = 0) ∧ ((true : Bool) = true) := by decide

theorem witness_StartOfControllersAndPlanes_2 :
    ((wUp [(0x0301, 1, 1)] : State).isOn (10 + (1 : CtlNo).val) = true) ∧ ((wUp [(0x0301, 1, 1)] : State).ctlState (1 : CtlNo).val = 1) ∧ (((wUp [(0x0301, 1, 1)] : State).ctl (1 : CtlNo).val).lone = false) ∧ (((wUp [(0x0301, 1, 1)] : State).ctl (1 : CtlNo).val).cold = true) ∧ ((wUp [(0x0301, 1, 1)] : State).rd 0x0008 (1 : CtlNo).val = 0) ∧ ((false : Bool) = false) ∧ ((true : Bool) = true) := by decide

theorem witness_StartOfControllersAndPlanes_3 :
    ((wUp [(0x0301, 1, 1)] : State).isOn (10 + (1 : CtlNo).val) = true) ∧ ((wUp [(0x0301, 1, 1)] : State).ctlState (1 : CtlNo).val = 1) := by decide

theorem witness_StartOfControllersAndPlanes_4 :
    (wTest.isOn (0 : PlaneNo).val = true) ∧ (Tab.find? wTest.power.tests (0 : PlaneNo).val = none) ∧ (wTest.stageAtLeast 1 = false) := by decide

theorem witness_StartOfControllersAndPlanes_5 :
    (wTest.isOn (0 : PlaneNo).val = true) ∧ (Tab.find? wTest.power.tests (0 : PlaneNo).val = none) := by decide

theorem witness_StartOfControllersAndPlanes_6 :
    (wFailed.stageAtLeast 1 = true) ∧ (wFailed.bothFailed = true) ∧ (wFailed.power.retryAt + 240000000000 ≤ wFailed.clk + (240000000000 : Nat)) := by decide

theorem witness_StartOfControllersAndPlanes_7 :
    (wRearm.power.rearm = wKept :: ([] : List Kept)) ∧ (wRearm.stageAtLeast 2 = true) ∧ (wRearm.dtValid = true) ∧ (wRearm.committing = none) ∧ (wRearm.freeSlot = some (0 : Nat)) ∧ ((wRearm.tick (0 : Nat)).commitStatus wKept.bundle (some wKept.instant) true = 0) := by decide

theorem witness_StartOfControllersAndPlanes_8 :
    (({ wRearm with power := { wRearm.power with rearm := [{ wKept with bundle := [(regKey 0x1018 0, 0x8001)] }] } } : State).power.rearm = ({ wKept with bundle := [(regKey 0x1018 0, 0x8001)] } : Kept) :: ([] : List Kept)) ∧ (({ wRearm with power := { wRearm.power with rearm := [{ wKept with bundle := [(regKey 0x1018 0, 0x8001)] }] } } : State).stageAtLeast 2 = true) ∧ (({ wRearm with power := { wRearm.power with rearm := [{ wKept with bundle := [(regKey 0x1018 0, 0x8001)] }] } } : State).dtValid = true) ∧ (({ wRearm with power := { wRearm.power with rearm := [{ wKept with bundle := [(regKey 0x1018 0, 0x8001)] }] } } : State).committing = none) ∧ (({ wRearm with power := { wRearm.power with rearm := [{ wKept with bundle := [(regKey 0x1018 0, 0x8001)] }] } } : State).freeSlot.isSome = true) ∧ ((({ wRearm with power := { wRearm.power with rearm := [{ wKept with bundle := [(regKey 0x1018 0, 0x8001)] }] } } : State).tick (0 : Nat)).commitStatus ({ wKept with bundle := [(regKey 0x1018 0, 0x8001)] } : Kept).bundle (some ({ wKept with bundle := [(regKey 0x1018 0, 0x8001)] } : Kept).instant) true ≠ 0) := by decide

theorem witness_StartOfControllersAndPlanes_9 :
    ((wUp [] : State).dtValid = false ∨ (wUp [] : State).power.rearm = [] ∨ (wUp [] : State).freeSlot = none ∨ (wUp [] : State).committing.isSome = true) := by decide

theorem witness_StartOfControllersAndPlanes_10 :
    ((wCtls wBeats wLone [(0x0301, 1, 1)] |> fun s => s.updCtl 0 (fun q => { q with beats := false }) : State).isOn (10 + (1 : CtlNo).val) = true) ∧ ((wCtls wBeats wLone [(0x0301, 1, 1)] |> fun s => s.updCtl 0 (fun q => { q with beats := false }) : State).ctlState (1 : CtlNo).val = 1) ∧ (((wCtls wBeats wLone [(0x0301, 1, 1)] |> fun s => s.updCtl 0 (fun q => { q with beats := false }) : State).ctl (1 : CtlNo).val).lone = true) ∧ (((wCtls wBeats wLone [(0x0301, 1, 1)] |> fun s => s.updCtl 0 (fun q => { q with beats := false }) : State).ctl (1 - (1 : CtlNo).val)).beats = false) ∧ ((wCtls wBeats wLone [(0x0301, 1, 1)] |> fun s => s.updCtl 0 (fun q => { q with beats := false }) : State).rd 0x0008 (1 : CtlNo).val = 0) ∧ ((true : Bool) = true) := by decide

theorem witness_StartOfControllersAndPlanes_11 :
    ((wUp [] : State).isOn (10 + (1 : CtlNo).val) = false ∨ (wUp [] : State).ctlState (1 : CtlNo).val ≠ 1) := by decide

theorem witness_StartOfControllersAndPlanes_12 :
    (({ wTest with regs := (wTest.wr 0x0100 0 1 |>.wr 0x281F 0 0 |>.wr 0x281F 1 4).regs } : State).isOn (0 : PlaneNo).val = true) ∧ (Tab.find? ({ wTest with regs := (wTest.wr 0x0100 0 1 |>.wr 0x281F 0 0 |>.wr 0x281F 1 4).regs } : State).power.tests (0 : PlaneNo).val = none) ∧ (({ wTest with regs := (wTest.wr 0x0100 0 1 |>.wr 0x281F 0 0 |>.wr 0x281F 1 4).regs } : State).stageAtLeast 1 = true) ∧ (({ wTest with regs := (wTest.wr 0x0100 0 1 |>.wr 0x281F 0 0 |>.wr 0x281F 1 4).regs } : State).forwards = false) := by decide

theorem witness_StartOfControllersAndPlanes_13 :
    ((wUp [] : State).isOn (0 : PlaneNo).val = false ∨ (Tab.find? (wUp [] : State).power.tests (0 : PlaneNo).val).isSome = true) := by decide

theorem witness_StartOfControllersAndPlanes_14 :
    (wFailed.bothFailed = false ∨ wFailed.clk + (239999999999 : Nat) < wFailed.power.retryAt + 240000000000) := by decide

theorem witness_ResetAndDomainRequestsAreCarriedOut_1 :
    (Ready (wSill [] : State) (wReq 0 [1] : Req) roleSite) ∧ ((wReq 0 [1] : Req).inst = 0) ∧ (((wReq 0 [1] : Req).data = [0] ∨ (wReq 0 [1] : Req).data = [1])) ∧ ((wSill [] : State).rd 0x0100 0 = 1 ∨ (wSill [] : State).mirrorBars = false) ∧ ((wReq 0 [1] : Req).flashOk = true) := by decide

theorem witness_ResetAndDomainRequestsAreCarriedOut_2 :
    (Ready (wUp [] : State) (wReq 0 [] : Req) roleSite) ∧ (FullService (wUp [] : State)) ∧ ((wReq 0 [] : Req).inst = 0) := by decide

theorem witness_ResetAndDomainRequestsAreCarriedOut_3 :
    (Ready (wUp [] : State) (wReq 0 [] : Req) roleSite) ∧ (FullService (wUp [] : State)) ∧ ((wReq 0 [] : Req).inst = 0) := by decide

theorem witness_ResetAndDomainRequestsAreCarriedOut_4 :
    (wAtStandby.holder ≠ some (wReq1 0 [] : Req).ctl.val) ∧ (wAtStandby.ctlState (wReq1 0 [] : Req).ctl.val = 3 ∨ wAtStandby.ctlState (wReq1 0 [] : Req).ctl.val = 4) ∧ ((wAtStandby.ctl (wReq1 0 [] : Req).ctl.val).beats = true) ∧ ((wAtStandby.session (Req.key (wReq1 0 [] : Req))).isOpen = true) ∧ ((wAtStandby.session (Req.key (wReq1 0 [] : Req))).requests = []) ∧ ((wAtStandby.session (Req.key (wReq1 0 [] : Req))).skip.contains (wReq1 0 [] : Req).tag.toNat = false) ∧ ((wAtStandby.session (Req.key (wReq1 0 [] : Req))).role = roleSite) ∧ ((wAtStandby.session (Req.key (wReq1 0 [] : Req))).enrol = .no) ∧ (wAtStandby.stageAtLeast 2 = true) ∧ ((wReq1 0 [] : Req).inst = 0) := by decide

theorem witness_ResetAndDomainRequestsAreCarriedOut_5 :
    (Ready (wUp [] : State) (wReq 1 [] : Req) roleSite) ∧ ((wReq 1 [] : Req).inst.toNat < 2) ∧ ((wUp [] : State).stageAtLeast 2 = true) ∧ ((wUp [] : State).isOn (1 - (wReq 1 [] : Req).inst.toNat) = true) ∧ ((wUp [] : State).dom (wReq 1 [] : Req).inst.toNat = 2 ∨ (wUp [] : State).dom (wReq 1 [] : Req).inst.toNat = 4) ∧ (Tab.find? (wUp [] : State).domOps (wReq 1 [] : Req).inst.toNat = none) ∧ ((wUp [] : State).reseed = none) := by decide

theorem witness_ResetAndDomainRequestsAreCarriedOut_6 :
    (Ready (wUp [] : State) (wReq 9 [] : Req) roleSite) ∧ (2 ≤ (wReq 9 [] : Req).inst.toNat) ∧ ((wReq 9 [] : Req).inst.toNat < 10) ∧ ((wUp [] : State).stageAtLeast 2 = true) ∧ ((wUp [] : State).dom (wReq 9 [] : Req).inst.toNat = 2) ∧ (Tab.find? (wUp [] : State).domOps (wReq 9 [] : Req).inst.toNat = none) := by decide

theorem witness_ResetAndDomainRequestsAreCarriedOut_7 :
    (Ready (wUp [(0x010E, 0, 4)] : State) (wReq 0 [] : Req) roleSite) ∧ ((wReq 0 [] : Req).inst.toNat < 2) ∧ ((wUp [(0x010E, 0, 4)] : State).stageAtLeast 2 = true) ∧ ((wUp [(0x010E, 0, 4)] : State).isOn (1 - (wReq 0 [] : Req).inst.toNat) = true) ∧ ((wUp [(0x010E, 0, 4)] : State).dom (wReq 0 [] : Req).inst.toNat = 2 ∨ (wUp [(0x010E, 0, 4)] : State).dom (wReq 0 [] : Req).inst.toNat = 4) ∧ (Tab.find? (wUp [(0x010E, 0, 4)] : State).domOps (wReq 0 [] : Req).inst.toNat = none) ∧ ((wUp [(0x010E, 0, 4)] : State).reseed = none) := by decide

theorem witness_ResetAndDomainRequestsAreCarriedOut_8 :
    (Ready (wUp [] : State) (wReq 2 [] : Req) roleSite) ∧ (2 ≤ (wReq 2 [] : Req).inst.toNat) ∧ ((wReq 2 [] : Req).inst.toNat < 10) ∧ ((wUp [] : State).stageAtLeast 2 = true) ∧ ((wUp [] : State).dom (wReq 2 [] : Req).inst.toNat = 2) ∧ (Tab.find? (wUp [] : State).domOps (wReq 2 [] : Req).inst.toNat = none) := by decide

theorem witness_ResetAndDomainRequestsAreCarriedOut_9 :
    (Ready (wUp [(0x010F, 0, 0)] : State) (wReq 1 [] : Req) roleSite) ∧ ((wReq 1 [] : Req).inst.toNat < 10) ∧ ((wUp [(0x010F, 0, 0)] : State).stageAtLeast 2 = true) ∧ ((wUp [(0x010F, 0, 0)] : State).dom (wReq 1 [] : Req).inst.toNat = 0) ∧ (Tab.find? (wUp [(0x010F, 0, 0)] : State).domOps (wReq 1 [] : Req).inst.toNat = none) ∧ (((wReq 1 [] : Req).inst.toNat < 2 → (wUp [(0x010F, 0, 0)] : State).reseed = none)) := by decide

theorem witness_ResetAndDomainRequestsAreCarriedOut_10 :
    (Ready (wUp [] : State) (wReq 1 [] : Req) roleSite) ∧ ((wReq 1 [] : Req).inst.toNat < 10) ∧ ((wUp [] : State).stageAtLeast 2 = true) ∧ ((wUp [] : State).dom (wReq 1 [] : Req).inst.toNat = 2) ∧ (Tab.find? (wUp [] : State).domOps (wReq 1 [] : Req).inst.toNat = none) ∧ (((wReq 1 [] : Req).inst.toNat < 2 → (wUp [] : State).reseed = none)) := by decide

theorem witness_ResetAndDomainRequestsAreCarriedOut_11 :
    (Ready (wUp [(0x0117, 0, 0)] : State) (wReq 9 [] : Req) roleSite) ∧ (2 ≤ (wReq 9 [] : Req).inst.toNat) ∧ ((wReq 9 [] : Req).inst.toNat < 10) ∧ ((wUp [(0x0117, 0, 0)] : State).stageAtLeast 2 = true) ∧ ((wUp [(0x0117, 0, 0)] : State).dom (wReq 9 [] : Req).inst.toNat = 0) ∧ (Tab.find? (wUp [(0x0117, 0, 0)] : State).domOps (wReq 9 [] : Req).inst.toNat = none) := by decide

theorem witness_ResetAndDomainRequestsAreCarriedOut_12 :
    (Ready (wUp [(0x0110, 0, 0)] : State) (wReq 2 [] : Req) roleSite) ∧ (2 ≤ (wReq 2 [] : Req).inst.toNat) ∧ ((wReq 2 [] : Req).inst.toNat < 10) ∧ ((wUp [(0x0110, 0, 0)] : State).stageAtLeast 2 = true) ∧ ((wUp [(0x0110, 0, 0)] : State).dom (wReq 2 [] : Req).inst.toNat = 0) ∧ (Tab.find? (wUp [(0x0110, 0, 0)] : State).domOps (wReq 2 [] : Req).inst.toNat = none) := by decide

theorem witness_ResetAndDomainRequestsAreCarriedOut_13 :
    (Ready (wUp [(0x010E, 0, 0)] : State) (wReq 1 [] : Req) roleSite) ∧ ((wReq 1 [] : Req).inst.toNat < 2) ∧ ((wUp [(0x010E, 0, 0)] : State).stageAtLeast 2 = true) ∧ ((wUp [(0x010E, 0, 0)] : State).isOn (1 - (wReq 1 [] : Req).inst.toNat) = false) := by decide

theorem witness_ResetAndDomainRequestsAreCarriedOut_14 :
    (Ready (wUp [] : State) (wReq 10 [] : Req) roleSite) ∧ (FullService (wUp [] : State)) ∧ (10 ≤ (wReq 10 [] : Req).inst.toNat) := by decide

theorem witness_ResetAndDomainRequestsAreCarriedOut_15 :
    (Ready (wUp [(0x0100, 0, 0)] : State) (wReq 9 [] : Req) roleSite) ∧ ((wReq 9 [] : Req).inst.toNat < 10) ∧ ((wUp [(0x0100, 0, 0)] : State).stageAtLeast 2 = false) := by decide

theorem witness_PortRequestsTrainAndDarkenThePort_1 :
    (Ready (wUp [(0x080B, 143, 1)] : State) (wReq 143 [] : Req) roleSite) ∧ (FullService (wUp [(0x080B, 143, 1)] : State)) ∧ ((wUp [(0x080B, 143, 1)] : State).stageAtLeast 1 = true) ∧ ((wReq 143 [] : Req).inst.toNat < 144) ∧ ((wUp [(0x080B, 143, 1)] : State).mirrorBars = false) ∧ ((wReq 143 [] : Req).flashOk = true) ∧ ((wUp [(0x080B, 143, 1)] : State).rd 0x0800 (wReq 143 [] : Req).inst.toNat = 0) ∧ ((wUp [(0x080B, 143, 1)] : State).isOn (2 + (wReq 143 [] : Req).inst.toNat / 18) = true) ∧ ((wUp [(0x080B, 143, 1)] : State).forwards = true) ∧ ((wUp [(0x080B, 143, 1)] : State).laser ((wReq 143 [] : Req).inst.toNat / 18) ((wUp [(0x080B, 143, 1)] : State).rd 0x0810 (wReq 143 [] : Req).inst.toNat) = 0) := by decide

theorem witness_PortRequestsTrainAndDarkenThePort_2 :
    (Ready (wUp [(0x0810, 143, 19)] : State) (wReq 143 [] : Req) roleSite) ∧ (FullService (wUp [(0x0810, 143, 19)] : State)) ∧ ((wUp [(0x0810, 143, 19)] : State).stageAtLeast 1 = true) ∧ ((wReq 143 [] : Req).inst.toNat < 144) ∧ ((wUp [(0x0810, 143, 19)] : State).mirrorBars = false) ∧ ((wReq 143 [] : Req).flashOk = true) ∧ ((wUp [(0x0810, 143, 19)] : State).rd 0x0800 (wReq 143 [] : Req).inst.toNat = 0) ∧ ((wUp [(0x0810, 143, 19)] : State).isOn (2 + (wReq 143 [] : Req).inst.toNat / 18) = true) ∧ ((wUp [(0x0810, 143, 19)] : State).forwards = false ∨ (wUp [(0x0810, 143, 19)] : State).laser ((wReq 143 [] : Req).inst.toNat / 18) ((wUp [(0x0810, 143, 19)] : State).rd 0x0810 (wReq 143 [] : Req).inst.toNat) ≠ 0) := by decide

theorem witness_PortRequestsTrainAndDarkenThePort_3 :
    (Ready (wUp [(0x0800, 5, 1), (0x0805, 5, 3)] : State) (wReq 5 [] : Req) roleSite) ∧ (FullService (wUp [(0x0800, 5, 1), (0x0805, 5, 3)] : State)) ∧ ((wReq 5 [] : Req).inst.toNat < 144) ∧ ((wUp [(0x0800, 5, 1), (0x0805, 5, 3)] : State).mirrorBars = false) ∧ ((wReq 5 [] : Req).flashOk = true) ∧ ((wUp [(0x0800, 5, 1), (0x0805, 5, 3)] : State).rd 0x0800 (wReq 5 [] : Req).inst.toNat = 1) := by decide

theorem witness_PortRequestsTrainAndDarkenThePort_4 :
    (Ready (wPort [(0x0800, 5, 1), (0x0805, 5, 3)] 5 (fun q => { q with rx := some (wRecv (wEth 40)) }) : State) (wReq 5 [] : Req) roleSite) ∧ (FullService (wPort [(0x0800, 5, 1), (0x0805, 5, 3)] 5 (fun q => { q with rx := some (wRecv (wEth 40)) }) : State)) ∧ ((wReq 5 [] : Req).inst.toNat < 144) ∧ ((wPort [(0x0800, 5, 1), (0x0805, 5, 3)] 5 (fun q => { q with rx := some (wRecv (wEth 40)) }) : State).mirrorBars = false) ∧ ((wReq 5 [] : Req).flashOk = true) ∧ ((wPort [(0x0800, 5, 1), (0x0805, 5, 3)] 5 (fun q => { q with rx := some (wRecv (wEth 40)) }) : State).rd 0x0800 (wReq 5 [] : Req).inst.toNat = 1) := by decide

theorem witness_PortRequestsTrainAndDarkenThePort_5 :
    (Ready (wUp [] : State) (wReq 5 [] : Req) roleSite) ∧ (FullService (wUp [] : State)) ∧ ((wReq 5 [] : Req).inst.toNat < 144) ∧ ((wUp [] : State).mirrorBars = false) ∧ ((wReq 5 [] : Req).flashOk = true) ∧ ((wUp [] : State).rd 0x0800 (wReq 5 [] : Req).inst.toNat = 0) := by decide

theorem witness_PortRequestsTrainAndDarkenThePort_6 :
    (Ready (wUp [(0x0802, 5, 1)] : State) (wReq 5 [1] : Req) roleSite) ∧ (FullService (wUp [(0x0802, 5, 1)] : State)) ∧ ((wReq 5 [1] : Req).inst.toNat < 144) ∧ ((wUp [(0x0802, 5, 1)] : State).mirrorBars = false) ∧ ((wReq 5 [1] : Req).flashOk = true) ∧ ((wUp [(0x0802, 5, 1)] : State).rd 0x0800 (wReq 5 [1] : Req).inst.toNat = 0) ∧ ((wReq 5 [1] : Req).data.length = 1) ∧ (beNat (wReq 5 [1] : Req).data ≤ 2) ∧ (speedFecOk (wReq 5 [1] : Req).inst.toNat (beNat (wReq 5 [1] : Req).data) ((wUp [(0x0802, 5, 1)] : State).rd 0x0802 (wReq 5 [1] : Req).inst.toNat) = true) ∧ (beNat (wReq 5 [1] : Req).data ≠ (wUp [(0x0802, 5, 1)] : State).rd 0x0801 (wReq 5 [1] : Req).inst.toNat) := by decide

theorem witness_PortRequestsTrainAndDarkenThePort_7 :
    (Ready (wUp [] : State) (wReq 5 [1] : Req) roleSite) ∧ (FullService (wUp [] : State)) ∧ ((wReq 5 [1] : Req).inst.toNat < 144) ∧ ((wUp [] : State).mirrorBars = false) ∧ ((wReq 5 [1] : Req).flashOk = true) ∧ ((wUp [] : State).rd 0x0800 (wReq 5 [1] : Req).inst.toNat = 0) ∧ ((wReq 5 [1] : Req).data.length = 1) ∧ (beNat (wReq 5 [1] : Req).data ≤ 3) ∧ (speedFecOk (wReq 5 [1] : Req).inst.toNat ((wUp [] : State).rd 0x0801 (wReq 5 [1] : Req).inst.toNat) (beNat (wReq 5 [1] : Req).data) = true) := by decide

theorem witness_PortRequestsTrainAndDarkenThePort_8 :
    (Ready (wUp [(0x0800, 5, 1), (0x0805, 5, 3), (0x0802, 5, 1)] : State) (wReq 5 [1] : Req) roleSite) ∧ (FullService (wUp [(0x0800, 5, 1), (0x0805, 5, 3), (0x0802, 5, 1)] : State)) ∧ ((wReq 5 [1] : Req).inst.toNat < 144) ∧ ((wUp [(0x0800, 5, 1), (0x0805, 5, 3), (0x0802, 5, 1)] : State).mirrorBars = false) ∧ ((wReq 5 [1] : Req).flashOk = true) ∧ ((wUp [(0x0800, 5, 1), (0x0805, 5, 3), (0x0802, 5, 1)] : State).rd 0x0800 (wReq 5 [1] : Req).inst.toNat = 1) ∧ ((wReq 5 [1] : Req).data.length = 1) ∧ (beNat (wReq 5 [1] : Req).data ≤ 2) ∧ (speedFecOk (wReq 5 [1] : Req).inst.toNat (beNat (wReq 5 [1] : Req).data) ((wUp [(0x0800, 5, 1), (0x0805, 5, 3), (0x0802, 5, 1)] : State).rd 0x0802 (wReq 5 [1] : Req).inst.toNat) = true) ∧ (beNat (wReq 5 [1] : Req).data ≠ (wUp [(0x0800, 5, 1), (0x0805, 5, 3), (0x0802, 5, 1)] : State).rd 0x0801 (wReq 5 [1] : Req).inst.toNat) ∧ ((wUp [(0x0800, 5, 1), (0x0805, 5, 3), (0x0802, 5, 1)] : State).stageAtLeast 1 = true) ∧ ((wUp [(0x0800, 5, 1), (0x0805, 5, 3), (0x0802, 5, 1)] : State).isOn (2 + (wReq 5 [1] : Req).inst.toNat / 18) = true) ∧ ((wUp [(0x0800, 5, 1), (0x0805, 5, 3), (0x0802, 5, 1)] : State).forwards = true) ∧ ((wUp [(0x0800, 5, 1), (0x0805, 5, 3), (0x0802, 5, 1)] : State).laser ((wReq 5 [1] : Req).inst.toNat / 18) ((wUp [(0x0800, 5, 1), (0x0805, 5, 3), (0x0802, 5, 1)] : State).rd 0x0810 (wReq 5 [1] : Req).inst.toNat) = 0) ∧ ((wUp [(0x0800, 5, 1), (0x0805, 5, 3), (0x0802, 5, 1)] : State).rd 0x080B (wReq 5 [1] : Req).inst.toNat = 0) := by decide

theorem witness_PortRequestsTrainAndDarkenThePort_9 :
    (Ready (wUp [(0x0800, 5, 1), (0x0805, 5, 3)] : State) (wReq 5 [2] : Req) roleSite) ∧ (FullService (wUp [(0x0800, 5, 1), (0x0805, 5, 3)] : State)) ∧ ((wReq 5 [2] : Req).inst.toNat < 144) ∧ ((wUp [(0x0800, 5, 1), (0x0805, 5, 3)] : State).mirrorBars = false) ∧ ((wReq 5 [2] : Req).flashOk = true) ∧ ((wReq 5 [2] : Req).data = [BitVec.ofNat 8 ((wUp [(0x0800, 5, 1), (0x0805, 5, 3)] : State).rd (if (true : Bool) then 0x0802 else 0x0801) (wReq 5 [2] : Req).inst.toNat)]) ∧ ((wUp [(0x0800, 5, 1), (0x0805, 5, 3)] : State).rd 0x0801 (wReq 5 [2] : Req).inst.toNat ≤ 2) ∧ ((wUp [(0x0800, 5, 1), (0x0805, 5, 3)] : State).rd 0x0802 (wReq 5 [2] : Req).inst.toNat ≤ 3) ∧ (speedFecOk (wReq 5 [2] : Req).inst.toNat ((wUp [(0x0800, 5, 1), (0x0805, 5, 3)] : State).rd 0x0801 (wReq 5 [2] : Req).inst.toNat) ((wUp [(0x0800, 5, 1), (0x0805, 5, 3)] : State).rd 0x0802 (wReq 5 [2] : Req).inst.toNat) = true) := by decide

theorem witness_PortRequestsTrainAndDarkenThePort_10 :
    (Ready (wUp [] : State) (wReq 16 [1] : Req) roleSite) ∧ (FullService (wUp [] : State)) ∧ ((wReq 16 [1] : Req).inst.toNat < 144) ∧ ((wReq 16 [1] : Req).data.length = 1) ∧ (beNat (wReq 16 [1] : Req).data ≤ 2) ∧ (speedFecOk (wReq 16 [1] : Req).inst.toNat (beNat (wReq 16 [1] : Req).data) ((wUp [] : State).rd 0x0802 (wReq 16 [1] : Req).inst.toNat) = false) := by decide

theorem witness_PortRequestsTrainAndDarkenThePort_11 :
    (Ready (wUp [] : State) (wReq 16 [1] : Req) roleSite) ∧ (FullService (wUp [] : State)) ∧ ((wReq 16 [1] : Req).inst.toNat < 144) ∧ ((wReq 16 [1] : Req).data.length = 1) ∧ (beNat (wReq 16 [1] : Req).data ≤ 3) ∧ (speedFecOk (wReq 16 [1] : Req).inst.toNat ((wUp [] : State).rd 0x0801 (wReq 16 [1] : Req).inst.toNat) (beNat (wReq 16 [1] : Req).data) = false) := by decide

theorem witness_PortRequestsTrainAndDarkenThePort_12 :
    (Ready (wUp [(0x0815, 0, 0), (0x0828, 0, 1)] : State) (wReq 0 [1] : Req) roleSite) ∧ (FullService (wUp [(0x0815, 0, 0), (0x0828, 0, 1)] : State)) ∧ ((wReq 0 [1] : Req).inst.toNat < 144) ∧ ((wReq 0 [1] : Req).data = [1]) ∧ ((wUp [(0x0815, 0, 0), (0x0828, 0, 1)] : State).laserIn ((wReq 0 [1] : Req).inst.toNat / 18) 1 = some (19 : Nat)) ∧ (((wUp [(0x0815, 0, 0), (0x0828, 0, 1)] : State).port (wReq 0 [1] : Req).inst.toNat).swapWait ≠ some .loss) := by decide

theorem witness_PortRequestsTrainAndDarkenThePort_13 :
    (Ready (wUp [] : State) (wReq 143 [1] : Req) roleSite) ∧ (FullService (wUp [] : State)) ∧ ((wReq 143 [1] : Req).inst.toNat < 144) ∧ ((wReq 143 [1] : Req).data = [1]) ∧ ((wUp [] : State).laserIn ((wReq 143 [1] : Req).inst.toNat / 18) 1 = none) := by decide

theorem witness_PortRequestsTrainAndDarkenThePort_14 :
    (Ready (wUp [] : State) (wReq 16383 [1] : Req) roleSite) ∧ (FullService (wUp [] : State)) ∧ ((wReq 16383 [1] : Req).inst.toNat < 16384) ∧ ((wReq 16383 [1] : Req).data = [1]) := by decide

theorem witness_PortRequestsTrainAndDarkenThePort_15 :
    (Ready (wUp [(0x084F, 5, 1)] : State) (wReq 5 [1] : Req) roleSite) ∧ (FullService (wUp [(0x084F, 5, 1)] : State)) ∧ ((wReq 5 [1] : Req).inst.toNat < 144) ∧ ((wReq 5 [1] : Req).data = [1]) := by decide

theorem witness_LinkChangesFollowTheirDelays_1 :
    ((wUp [(0x0805, 5, 3), (0x080A, 5, 2)] : State).link (5 : PortNo).val = 3) ∧ ((wUp [(0x0805, 5, 3), (0x080A, 5, 2)] : State).rd 0x080A (5 : PortNo).val * 400 ≤ (800 : Nat)) := by decide

theorem witness_LinkChangesFollowTheirDelays_2 :
    ((wUp [(0x0805, 5, 3), (0x080A, 5, 2)] : State).link (5 : PortNo).val = 3) ∧ ((wUp [(0x0805, 5, 3), (0x080A, 5, 2)] : State).rd 0x080A (5 : PortNo).val * 400 ≤ (800 : Nat)) := by decide

theorem witness_LinkChangesFollowTheirDelays_3 :
    ((wUp [(0x0805, 5, 3), (0x080A, 5, 2)] : State).link (5 : PortNo).val ≠ 3 ∨ (799 : Nat) < (wUp [(0x0805, 5, 3), (0x080A, 5, 2)] : State).rd 0x080A (5 : PortNo).val * 400) := by decide

theorem witness_LinkChangesFollowTheirDelays_4 :
    ((wPort [(0x0805, 5, 2), (0x0800, 5, 1), (0x0848, 5, 1)] 5 (fun q => { q with training := true }) : State).link (5 : PortNo).val = 1 ∨ (wPort [(0x0805, 5, 2), (0x0800, 5, 1), (0x0848, 5, 1)] 5 (fun q => { q with training := true }) : State).link (5 : PortNo).val = 2) ∧ ((wPort [(0x0805, 5, 2), (0x0800, 5, 1), (0x0848, 5, 1)] 5 (fun q => { q with training := true }) : State).flag 0x0800 (5 : PortNo).val = true) ∧ (((wPort [(0x0805, 5, 2), (0x0800, 5, 1), (0x0848, 5, 1)] 5 (fun q => { q with training := true }) : State).port (5 : PortNo).val).training = true) ∧ ((wPort [(0x0805, 5, 2), (0x0800, 5, 1), (0x0848, 5, 1)] 5 (fun q => { q with training := true }) : State).isOn (2 + (5 : PortNo).val / 18) = true) ∧ ((wPort [(0x0805, 5, 2), (0x0800, 5, 1), (0x0848, 5, 1)] 5 (fun q => { q with training := true }) : State).rd 0x0848 (5 : PortNo).val * 400000 ≤ (400000 : Nat)) ∧ ((wPort [(0x0805, 5, 2), (0x0800, 5, 1), (0x0848, 5, 1)] 5 (fun q => { q with training := true }) : State).coreFastEnough = true) := by decide

theorem witness_LinkChangesFollowTheirDelays_5 :
    ((wUp [] : State).flag 0x0800 (5 : PortNo).val = false ∨ ((wUp [] : State).port (5 : PortNo).val).training = false ∨ (0 : Nat) < (wUp [] : State).rd 0x0848 (5 : PortNo).val * 400000 ∨ (wUp [] : State).coreFastEnough = false ∨ (wUp [] : State).isOn (2 + (5 : PortNo).val / 18) = false) := by decide

theorem witness_LinkChangesFollowTheirDelays_6 :
    ((wUp [(0x0829, 0, 1), (0x082A, 0, 20), (0x0828, 0, 1)] : State).isOn (2 + (0 : PortNo).val / 18) = true) ∧ (10 * (wUp [(0x0829, 0, 1), (0x082A, 0, 20), (0x0828, 0, 1)] : State).rd 0x082A ((0 : PortNo).val / 18) < (201 : BitVec 16).toNat) ∧ ((wUp [(0x0829, 0, 1), (0x082A, 0, 20), (0x0828, 0, 1)] : State).flag 0x0829 ((0 : PortNo).val / 18) = true) ∧ ((wUp [(0x0829, 0, 1), (0x082A, 0, 20), (0x0828, 0, 1)] : State).laser ((0 : PortNo).val / 18) ((wUp [(0x0829, 0, 1), (0x082A, 0, 20), (0x0828, 0, 1)] : State).rd 0x0810 (0 : PortNo).val) = 0) := by decide

theorem witness_LinkChangesFollowTheirDelays_7 :
    ((wUp [(0x0828, 0, 1)] : State).laserIn ((0 : PortNo).val / 18) 1 = some (19 : Nat)) ∧ (((wUp [(0x0828, 0, 1)] : State).port (0 : PortNo).val).swapWait ≠ some .loss) := by decide

theorem witness_LinkChangesFollowTheirDelays_8 :
    ((wUp [] : State).laserIn ((143 : PortNo).val / 18) 1 = none) ∧ (((wUp [] : State).port (143 : PortNo).val).swapWait ≠ some .loss) := by decide

theorem witness_LinkChangesFollowTheirDelays_9 :
    ((wUp [(0x0829, 7, 0)] : State).flag 0x0829 ((143 : PortNo).val / 18) = false ∨ (201 : BitVec 16).toNat ≤ 10 * (wUp [(0x0829, 7, 0)] : State).rd 0x082A ((143 : PortNo).val / 18) ∨ (wUp [(0x0829, 7, 0)] : State).isOn (2 + (143 : PortNo).val / 18) = false) := by decide

theorem witness_LinkChangesFollowTheirDelays_10 :
    ((wUp [(0x0828, 7, 1), (0x0826, 7, 0)] : State).isOn (2 + (143 : PortNo).val / 18) = true) ∧ ((wUp [(0x0828, 7, 1), (0x0826, 7, 0)] : State).laser ((143 : PortNo).val / 18) ((wUp [(0x0828, 7, 1), (0x0826, 7, 0)] : State).rd 0x0810 (143 : PortNo).val) = 0) ∧ ((wUp [(0x0828, 7, 1), (0x0826, 7, 0)] : State).laserIn ((143 : PortNo).val / 18) 1 = some (19 : Nat)) := by decide

theorem witness_LinkChangesFollowTheirDelays_11 :
    ((wUp [(0x0805, 143, 3), (0x0826, 7, 0)] : State).isOn (2 + (143 : PortNo).val / 18) = true) ∧ ((wUp [(0x0805, 143, 3), (0x0826, 7, 0)] : State).laser ((143 : PortNo).val / 18) ((wUp [(0x0805, 143, 3), (0x0826, 7, 0)] : State).rd 0x0810 (143 : PortNo).val) = 0) ∧ ((wUp [(0x0805, 143, 3), (0x0826, 7, 0)] : State).laserIn ((143 : PortNo).val / 18) 1 = none) ∧ ((wUp [(0x0805, 143, 3), (0x0826, 7, 0)] : State).rd 0x0810 (143 : PortNo).val < 20) := by decide

theorem witness_LinkChangesFollowTheirDelays_12 :
    ((wUp [(0x0815, 0, 5)] : State).isOn (2 + (0 : PortNo).val / 18) = false ∨ (wUp [(0x0815, 0, 5)] : State).laser ((0 : PortNo).val / 18) ((wUp [(0x0815, 0, 5)] : State).rd 0x0810 (0 : PortNo).val) ≠ 0) := by decide

theorem witness_LinkChangesFollowTheirDelays_13 :
    (((wPort [] 5 (fun q => { q with swapHit := some 0 }) : State).port (5 : PortNo).val).swapHit = some (0 : Nat)) := by decide

theorem witness_LinkChangesFollowTheirDelays_14 :
    (((wUp [] : State).port (5 : PortNo).val).swapHit = none) := by decide

theorem witness_LinkChangesFollowTheirDelays_15 :
    ((wUp [(0x0828, 7, 3)] : State).laserIn (7 : Fin 8).val 3 = some (19 : Nat)) ∧ ((wUp [(0x0828, 7, 3)] : State).waitingSwap (7 : Fin 8).val = none) := by decide

theorem witness_LinkChangesFollowTheirDelays_16 :
    ((wPort [(0x0828, 7, 3), (0x0800, 143, 1)] 143 (fun q => { q with swapWait := some .loss }) : State).laserIn (7 : Fin 8).val 3 = some (19 : Nat)) ∧ ((wPort [(0x0828, 7, 3), (0x0800, 143, 1)] 143 (fun q => { q with swapWait := some .loss }) : State).waitingSwap (7 : Fin 8).val = some ((143 : Nat), (.loss : SwapCause))) := by decide

theorem witness_LinkChangesFollowTheirDelays_17 :
    ((wUp [] : State).laserIn (0 : Fin 8).val 3 = none) := by decide

theorem witness_LinkChangesFollowTheirDelays_18 :
    (signed 16 ((wUp [(0x082E, 7, 1350)] : State).rd 0x082E (7 : Fin 8).val) ≤ 1350) ∧ (1350 < signed 16 (1351 : BitVec 16).toNat) := by decide

theorem witness_LinkChangesFollowTheirDelays_19 :
    (signed 16 (1350 : BitVec 16).toNat ≤ 1350 ∨ 1350 < signed 16 ((wUp [(0x082E, 7, 1351)] : State).rd 0x082E (7 : Fin 8).val)) := by decide

theorem witness_PausesLoadAndExpire_1 :
    ((wPort [(0x0800, 5, 1), (0x0805, 5, 3), (0x0830, 5, 1)] 5 id : State).receives (5 : PortNo).val = true) ∧ (((wPort [(0x0800, 5, 1), (0x0805, 5, 3), (0x0830, 5, 1)] 5 id : State).port (5 : PortNo).val).rx = none) ∧ (getBE (wPause 1 0xFFFF 46 : List Byte) 12 2 = 0x8808) ∧ (64 ≤ (wPause 1 0xFFFF 46 : List Byte).length) ∧ ((wPause 1 0xFFFF 46 : List Byte).length ≤ (wPort [(0x0800, 5, 1), (0x0805, 5, 3), (0x0830, 5, 1)] 5 id : State).rd 0x0803 (5 : PortNo).val) ∧ (getBE (wPause 1 0xFFFF 46 : List Byte) 14 2 = 1) ∧ ((wPort [(0x0800, 5, 1), (0x0805, 5, 3), (0x0830, 5, 1)] 5 id : State).flag 0x0830 (5 : PortNo).val = true) := by decide

theorem witness_PausesLoadAndExpire_2 :
    ((wPort [(0x0800, 5, 1), (0x0805, 5, 3)] 5 id : State).receives (5 : PortNo).val = true) ∧ (((wPort [(0x0800, 5, 1), (0x0805, 5, 3)] 5 id : State).port (5 : PortNo).val).rx = none) ∧ (getBE (wPause 1 0xFFFF 46 : List Byte) 12 2 = 0x8808) ∧ (64 ≤ (wPause 1 0xFFFF 46 : List Byte).length) ∧ ((wPause 1 0xFFFF 46 : List Byte).length ≤ (wPort [(0x0800, 5, 1), (0x0805, 5, 3)] 5 id : State).rd 0x0803 (5 : PortNo).val) ∧ (getBE (wPause 1 0xFFFF 46 : List Byte) 14 2 = 1) ∧ ((wPort [(0x0800, 5, 1), (0x0805, 5, 3)] 5 id : State).flag 0x0830 (5 : PortNo).val = false) := by decide

theorem witness_PausesLoadAndExpire_3 :
    ((wPort [(0x0800, 5, 1), (0x0805, 5, 3)] 5 id : State).receives (5 : PortNo).val = true) ∧ (((wPort [(0x0800, 5, 1), (0x0805, 5, 3)] 5 id : State).port (5 : PortNo).val).rx = none) ∧ (getBE (wPause 2 0xFFFF 46 : List Byte) 12 2 = 0x8808) ∧ (64 ≤ (wPause 2 0xFFFF 46 : List Byte).length) ∧ ((wPause 2 0xFFFF 46 : List Byte).length ≤ (wPort [(0x0800, 5, 1), (0x0805, 5, 3)] 5 id : State).rd 0x0803 (5 : PortNo).val) ∧ (getBE (wPause 2 0xFFFF 46 : List Byte) 14 2 ≠ 1) ∧ (getBE (wPause 2 0xFFFF 46 : List Byte) 14 2 ≠ 0x0101) := by decide

theorem witness_PausesLoadAndExpire_4 :
    ((wPort [(0x0800, 5, 1), (0x0805, 5, 3)] 5 id : State).receives (5 : PortNo).val = true) ∧ (((wPort [(0x0800, 5, 1), (0x0805, 5, 3)] 5 id : State).port (5 : PortNo).val).rx = none) ∧ (getBE (wPause 1 0xFFFF 45 : List Byte) 12 2 = 0x8808) ∧ ((wPause 1 0xFFFF 45 : List Byte).length ≤ 63) := by decide

theorem witness_PausesLoadAndExpire_5 :
    ((wPort [(0x0800, 5, 1), (0x0805, 5, 3)] 5 id : State).receives (5 : PortNo).val = true) ∧ (((wPort [(0x0800, 5, 1), (0x0805, 5, 3)] 5 id : State).port (5 : PortNo).val).rx = none) ∧ (getBE (wPause 1 0xFFFF 46 : List Byte) 12 2 = 0x8808) ∧ (64 ≤ (wPause 1 0xFFFF 46 : List Byte).length) ∧ ((wPause 1 0xFFFF 46 : List Byte).length ≤ (wPort [(0x0800, 5, 1), (0x0805, 5, 3)] 5 id : State).rd 0x0803 (5 : PortNo).val) := by decide

theorem witness_PausesLoadAndExpire_6 :
    ((wPort [(0x0800, 5, 1), (0x0805, 5, 3), (0x0803, 5, 64)] 5 id : State).receives (5 : PortNo).val = true) ∧ (((wPort [(0x0800, 5, 1), (0x0805, 5, 3), (0x0803, 5, 64)] 5 id : State).port (5 : PortNo).val).rx = none) ∧ (getBE (wPause 1 0xFFFF 47 : List Byte) 12 2 = 0x8808) ∧ (64 ≤ (wPause 1 0xFFFF 47 : List Byte).length) ∧ ((wPort [(0x0800, 5, 1), (0x0805, 5, 3), (0x0803, 5, 64)] 5 id : State).rd 0x0803 (5 : PortNo).val < (wPause 1 0xFFFF 47 : List Byte).length) := by decide

theorem witness_PausesLoadAndExpire_7 :
    ((wPort [(0x0800, 5, 1), (0x0805, 5, 3), (0x0832, 5, 128)] 5 id : State).receives (5 : PortNo).val = true) ∧ (((wPort [(0x0800, 5, 1), (0x0805, 5, 3), (0x0832, 5, 128)] 5 id : State).port (5 : PortNo).val).rx = none) ∧ (getBE (wPause 0x0101 0x81 46 : List Byte) 12 2 = 0x8808) ∧ (64 ≤ (wPause 0x0101 0x81 46 : List Byte).length) ∧ ((wPause 0x0101 0x81 46 : List Byte).length ≤ (wPort [(0x0800, 5, 1), (0x0805, 5, 3), (0x0832, 5, 128)] 5 id : State).rd 0x0803 (5 : PortNo).val) ∧ (getBE (wPause 0x0101 0x81 46 : List Byte) 14 2 = 0x0101) := by decide

theorem witness_PausesLoadAndExpire_8 :
    (((wPort [(0x0832, 5, 128)] 5 id : State).rd 0x0832 (5 : PortNo).val).testBit (7 : Fin 8).val = true) ∧ (Tab.find? ((wPort [(0x0832, 5, 128)] 5 id : State).port (5 : PortNo).val).pfcIgnore (7 : Fin 8).val = none) := by decide

theorem witness_PausesLoadAndExpire_9 :
    (((wPort [(0x0832, 5, 127)] 5 id : State).rd 0x0832 (5 : PortNo).val).testBit (7 : Fin 8).val = false) := by decide

theorem witness_PausesLoadAndExpire_10 :
    ((wUp [] : State).receives (5 : PortNo).val = false ∨ ((wUp [] : State).port (5 : PortNo).val).rx.isSome = true ∨ getBE (wPause 1 0xFFFF 46 : List Byte) 12 2 ≠ 0x8808) := by decide

theorem witness_PausesLoadAndExpire_11 :
    (((wPort [] 5 (fun q => { q with pauseUntil := some 0 }) : State).port (5 : PortNo).val).pauseUntil = some (0 : Nat)) ∧ ((0 : Nat) ≤ (wPort [] 5 (fun q => { q with pauseUntil := some 0 }) : State).tickRC (0 : Nat)) := by decide

theorem witness_PausesLoadAndExpire_12 :
    ((((wPort [] 5 (fun q => { q with pauseUntil := some 1 }) : State).port (5 : PortNo).val).pauseUntil).all (fun t => decide ((wPort [] 5 (fun q => { q with pauseUntil := some 1 }) : State).tickRC (0 : Nat) < t)) = true) := by decide

theorem witness_PausesLoadAndExpire_13 :
    ((7 : Fin 9).val < 8) ∧ (((wPort [(0x0832, 5, 255)] 5 (fun q => { q with pfcUntil := [(7, 900000)], pfcSince := [(7, 0)] }) : State).tick (0 : Nat)).pausedClass (5 : PortNo).val (7 : Fin 9).val = true) := by decide

theorem witness_PausesLoadAndExpire_14 :
    ((7 : Fin 9).val < 8) ∧ (((wPort [] 5 (fun q => { q with pfcSince := [(7, 0)] }) : State).tick (0 : Nat)).pausedClass (5 : PortNo).val (7 : Fin 9).val = false) := by decide

theorem witness_PausesLoadAndExpire_15 :
    (Tab.find? ((wPort [(0x0849, 5, 1), (0x0832, 5, 255)] 5 (fun q => { q with pfcUntil := [(7, 900000)], pfcSince := [(7, 0)] }) |> wRunning : State).port (5 : PortNo).val).pfcSince (7 : Fin 8).val = some (0 : Nat)) ∧ ((wPort [(0x0849, 5, 1), (0x0832, 5, 255)] 5 (fun q => { q with pfcUntil := [(7, 900000)], pfcSince := [(7, 0)] }) |> wRunning : State).rd 0x0849 (5 : PortNo).val ≠ 0) ∧ ((0 : Nat) + (wPort [(0x0849, 5, 1), (0x0832, 5, 255)] 5 (fun q => { q with pfcUntil := [(7, 900000)], pfcSince := [(7, 0)] }) |> wRunning : State).rd 0x0849 (5 : PortNo).val * 400000 ≤ (wPort [(0x0849, 5, 1), (0x0832, 5, 255)] 5 (fun q => { q with pfcUntil := [(7, 900000)], pfcSince := [(7, 0)] }) |> wRunning : State).tickRC (400000 : Nat)) ∧ (((wPort [(0x0849, 5, 1), (0x0832, 5, 255)] 5 (fun q => { q with pfcUntil := [(7, 900000)], pfcSince := [(7, 0)] }) |> wRunning : State).tick (400000 : Nat)).pausedClass (5 : PortNo).val (7 : Fin 8).val = true) := by decide

theorem witness_PausesLoadAndExpire_16 :
    (Tab.find? ((wRunning (wPort [(0x0849, 5, 1)] 5 (fun q => { q with pfcIgnore := [(7, 0)] })) : State).port (5 : PortNo).val).pfcIgnore (7 : Fin 8).val = some (0 : Nat)) ∧ ((0 : Nat) + (wRunning (wPort [(0x0849, 5, 1)] 5 (fun q => { q with pfcIgnore := [(7, 0)] })) : State).rd 0x0849 (5 : PortNo).val * 400000 ≤ (wRunning (wPort [(0x0849, 5, 1)] 5 (fun q => { q with pfcIgnore := [(7, 0)] })) : State).tickRC (400000 : Nat)) := by decide

theorem witness_PausesLoadAndExpire_17 :
    ((wUp [(0x0849, 5, 0)] : State).rd 0x0849 (5 : PortNo).val = 0 ∨ Tab.find? ((wUp [(0x0849, 5, 0)] : State).port (5 : PortNo).val).pfcSince (7 : Fin 8).val = none ∨ ((wUp [(0x0849, 5, 0)] : State).tick (0 : Nat)).pausedClass (5 : PortNo).val (7 : Fin 8).val = false) := by decide

theorem witness_PausesLoadAndExpire_18 :
    (Tab.find? ((wPort [(0x0849, 5, 1)] 5 (fun q => { q with pfcSince := [(7, 0)] }) : State).port (5 : PortNo).val).pfcSince (7 : Fin 8).val = some (0 : Nat)) ∧ ((wPort [(0x0849, 5, 1)] 5 (fun q => { q with pfcSince := [(7, 0)] }) : State).tickRC (399999 : Nat) < (0 : Nat) + (wPort [(0x0849, 5, 1)] 5 (fun q => { q with pfcSince := [(7, 0)] }) : State).rd 0x0849 (5 : PortNo).val * 400000) := by decide

theorem witness_PausesLoadAndExpire_19 :
    (Tab.find? ((wPort [(0x0849, 5, 1)] 5 (fun q => { q with pfcIgnore := [(7, 0)] }) : State).port (5 : PortNo).val).pfcIgnore (7 : Fin 8).val = some (0 : Nat)) ∧ ((wPort [(0x0849, 5, 1)] 5 (fun q => { q with pfcIgnore := [(7, 0)] }) : State).tickRC (399999 : Nat) < (0 : Nat) + (wPort [(0x0849, 5, 1)] 5 (fun q => { q with pfcIgnore := [(7, 0)] }) : State).rd 0x0849 (5 : PortNo).val * 400000) := by decide

theorem witness_PausesLoadAndExpire_20 :
    (Tab.find? ((wUp [] : State).port (5 : PortNo).val).pfcIgnore (7 : Fin 8).val = none) := by decide

theorem witness_PausesLoadAndExpire_23 :
    (Tab.find? ({ wUp [] with sustain := [(70 * 2 ^ 32 + 7, (0, 1000))] } : State).sustain (70 * 2 ^ 32 + (7 : Fin 8).val) = some ((0 : Nat), (1000 : Nat))) ∧ (1000 ≤ (1000 : Nat)) ∧ ((1000 : Nat) < 2 ^ 40) ∧ (({ wUp [] with sustain := [(70 * 2 ^ 32 + 7, (0, 1000))] } : State).tickRC (0 : Nat) / 400000 ≤ (0 : Nat) + 1) := by decide

theorem witness_PausesLoadAndExpire_24 :
    ((Tab.find? ({ wUp [] with sustain := [(70 * 2 ^ 32 + 7, (0, 999))] } : State).sustain (70 * 2 ^ 32 + (7 : Fin 8).val)).all (fun x => decide (x.2 < 1000 ∨ 2 ^ 40 ≤ x.2)) = true) := by decide

theorem witness_RateStepsAreNegotiated_1 :
    ((wRunning (wUp [(0x0805, 5, 3), (0x083A, 5, 1), (0x083B, 5, 1), (0x083C, 5, 1)]) : State).link (5 : PortNo).val = 3) ∧ ((wRunning (wUp [(0x0805, 5, 3), (0x083A, 5, 1), (0x083B, 5, 1), (0x083C, 5, 1)]) : State).rd 0x0806 (5 : PortNo).val = 0) ∧ ((wRunning (wUp [(0x0805, 5, 3), (0x083A, 5, 1), (0x083B, 5, 1), (0x083C, 5, 1)]) : State).rd 0x0840 (5 : PortNo).val = 0) ∧ ((wRunning (wUp [(0x0805, 5, 3), (0x083A, 5, 1), (0x083B, 5, 1), (0x083C, 5, 1)]) : State).scheduled = true) ∧ ((wRunning (wUp [(0x0805, 5, 3), (0x083A, 5, 1), (0x083B, 5, 1), (0x083C, 5, 1)]) : State).mayStepDown (5 : PortNo).val = true) ∧ ((wRunning (wUp [(0x0805, 5, 3), (0x083A, 5, 1), (0x083B, 5, 1), (0x083C, 5, 1)]) : State).rd 0x083B (5 : PortNo).val ≠ 0) ∧ (((wRunning (wUp [(0x0805, 5, 3), (0x083A, 5, 1), (0x083B, 5, 1), (0x083C, 5, 1)]) : State).port (5 : PortNo).val).dwellSince + (wRunning (wUp [(0x0805, 5, 3), (0x083A, 5, 1), (0x083B, 5, 1), (0x083C, 5, 1)]) : State).rd 0x083C (5 : PortNo).val * 400000000 ≤ (wRunning (wUp [(0x0805, 5, 3), (0x083A, 5, 1), (0x083B, 5, 1), (0x083C, 5, 1)]) : State).tickRC (400000000 : Nat)) := by decide

theorem witness_RateStepsAreNegotiated_2 :
    ((wUp [] : State).mayStepDown (5 : PortNo).val = false ∨ (wUp [] : State).rd 0x083B (5 : PortNo).val = 0 ∨ (wUp [] : State).rd 0x0840 (5 : PortNo).val ≠ 0 ∨ (wUp [] : State).tickRC (0 : Nat) < ((wUp [] : State).port (5 : PortNo).val).dwellSince + (wUp [] : State).rd 0x083C (5 : PortNo).val * 400000000) := by decide

theorem witness_RateStepsAreNegotiated_3 :
    ((wUp [(0x0805, 5, 3), (0x0840, 5, 3), (0x083D, 5, 100)] : State).link (5 : PortNo).val = 3) ∧ ((wUp [(0x0805, 5, 3), (0x0840, 5, 3), (0x083D, 5, 100)] : State).rd 0x0840 (5 : PortNo).val = 3) ∧ (((.cleared : StepUpCause) = .rate ∧ (wUp [(0x0805, 5, 3), (0x0840, 5, 3), (0x083D, 5, 100)] : State).rd 0x083D (5 : PortNo).val * 1000 < ((wUp [(0x0805, 5, 3), (0x0840, 5, 3), (0x083D, 5, 100)] : State).tick (0 : Nat)).rxBits (5 : PortNo).val) ∨ ((.cleared : StepUpCause) = .occupancy ∧ ((wUp [(0x0805, 5, 3), (0x0840, 5, 3), (0x083D, 5, 100)] : State).rd 0x0845 (5 : PortNo).val < (wUp [(0x0805, 5, 3), (0x0840, 5, 3), (0x083D, 5, 100)] : State).pa.tilesE (5 : PortNo).val ∨ (wUp [(0x0805, 5, 3), (0x0840, 5, 3), (0x083D, 5, 100)] : State).rd 0x0845 (5 : PortNo).val < (wUp [(0x0805, 5, 3), (0x0840, 5, 3), (0x083D, 5, 100)] : State).pb.tilesE (5 : PortNo).val)) ∨ ((.cleared : StepUpCause) = .cleared ∧ (wUp [(0x0805, 5, 3), (0x0840, 5, 3), (0x083D, 5, 100)] : State).flag 0x083A (5 : PortNo).val = false)) := by decide

theorem witness_RateStepsAreNegotiated_4 :
    ((wPort [(0x0805, 5, 3), (0x0840, 5, 3), (0x083A, 5, 1), (0x083D, 5, 1)] 5 (fun q => { q with rxBits := 1000 }) : State).link (5 : PortNo).val ≠ 3 ∨ (wPort [(0x0805, 5, 3), (0x0840, 5, 3), (0x083A, 5, 1), (0x083D, 5, 1)] 5 (fun q => { q with rxBits := 1000 }) : State).rd 0x0840 (5 : PortNo).val ≠ 3 ∨ (((wPort [(0x0805, 5, 3), (0x0840, 5, 3), (0x083A, 5, 1), (0x083D, 5, 1)] 5 (fun q => { q with rxBits := 1000 }) : State).tick (0 : Nat)).rxBits (5 : PortNo).val ≤ (wPort [(0x0805, 5, 3), (0x0840, 5, 3), (0x083A, 5, 1), (0x083D, 5, 1)] 5 (fun q => { q with rxBits := 1000 }) : State).rd 0x083D (5 : PortNo).val * 1000 ∧ (wPort [(0x0805, 5, 3), (0x0840, 5, 3), (0x083A, 5, 1), (0x083D, 5, 1)] 5 (fun q => { q with rxBits := 1000 }) : State).pa.tilesE (5 : PortNo).val ≤ (wPort [(0x0805, 5, 3), (0x0840, 5, 3), (0x083A, 5, 1), (0x083D, 5, 1)] 5 (fun q => { q with rxBits := 1000 }) : State).rd 0x0845 (5 : PortNo).val ∧ (wPort [(0x0805, 5, 3), (0x0840, 5, 3), (0x083A, 5, 1), (0x083D, 5, 1)] 5 (fun q => { q with rxBits := 1000 }) : State).pb.tilesE (5 : PortNo).val ≤ (wPort [(0x0805, 5, 3), (0x0840, 5, 3), (0x083A, 5, 1), (0x083D, 5, 1)] 5 (fun q => { q with rxBits := 1000 }) : State).rd 0x0845 (5 : PortNo).val ∧ (wPort [(0x0805, 5, 3), (0x0840, 5, 3), (0x083A, 5, 1), (0x083D, 5, 1)] 5 (fun q => { q with rxBits := 1000 }) : State).flag 0x083A (5 : PortNo).val = true)) := by decide

theorem witness_RateStepsAreNegotiated_5 :
    ((wUp [(0x0805, 5, 3), (0x083A, 5, 1)] : State).link (5 : PortNo).val = 3) ∧ ((wUp [(0x0805, 5, 3), (0x083A, 5, 1)] : State).scheduled = true) ∧ ((wUp [(0x0805, 5, 3), (0x083A, 5, 1)] : State).holder.isSome = true) ∧ (wCo.toNat = (wUp [(0x0805, 5, 3), (0x083A, 5, 1)] : State).rd 0x0842 0 % 2 ^ 24) ∧ ((wUp [(0x0805, 5, 3), (0x083A, 5, 1)] : State).mayStepDown (5 : PortNo).val = true) ∧ ((wUp [(0x0805, 5, 3), (0x083A, 5, 1)] : State).rd 0x0806 (5 : PortNo).val = 0) ∧ (isFastPort (5 : PortNo).val = false) := by decide

theorem witness_RateStepsAreNegotiated_6 :
    ((wUp [(0x0805, 5, 3), (0x083A, 5, 1)] : State).link (5 : PortNo).val = 3) ∧ ((wUp [(0x0805, 5, 3), (0x083A, 5, 1)] : State).scheduled = true) ∧ ((wUp [(0x0805, 5, 3), (0x083A, 5, 1)] : State).holder.isSome = true) ∧ (wCo.toNat = (wUp [(0x0805, 5, 3), (0x083A, 5, 1)] : State).rd 0x0842 0 % 2 ^ 24) ∧ ((wUp [(0x0805, 5, 3), (0x083A, 5, 1)] : State).mayStepDown (5 : PortNo).val = false ∨ (wUp [(0x0805, 5, 3), (0x083A, 5, 1)] : State).rd 0x0806 (5 : PortNo).val ≠ 0 ∨ (0 : Byte) ≠ 1 ∨ isFastPort (5 : PortNo).val = true) := by decide

theorem witness_RateStepsAreNegotiated_7 :
    ((wUp [(0x0805, 5, 3), (0x0806, 5, 1)] : State).link (5 : PortNo).val = 3) ∧ ((wUp [(0x0805, 5, 3), (0x0806, 5, 1)] : State).scheduled = true) ∧ ((wUp [(0x0805, 5, 3), (0x0806, 5, 1)] : State).holder.isSome = true) ∧ (wCo.toNat = (wUp [(0x0805, 5, 3), (0x0806, 5, 1)] : State).rd 0x0842 0 % 2 ^ 24) := by decide

theorem witness_RateStepsAreNegotiated_8 :
    ((wPort [(0x0805, 5, 3), (0x0840, 5, 1), (0x0800, 5, 1)] 5 (fun q => { q with step := ⟨9, 1, 2, 0, 0⟩ }) : State).link (5 : PortNo).val = 3) ∧ ((wPort [(0x0805, 5, 3), (0x0840, 5, 1), (0x0800, 5, 1)] 5 (fun q => { q with step := ⟨9, 1, 2, 0, 0⟩ }) : State).scheduled = true) ∧ ((wPort [(0x0805, 5, 3), (0x0840, 5, 1), (0x0800, 5, 1)] 5 (fun q => { q with step := ⟨9, 1, 2, 0, 0⟩ }) : State).holder.isSome = true) ∧ (wCo.toNat = (wPort [(0x0805, 5, 3), (0x0840, 5, 1), (0x0800, 5, 1)] 5 (fun q => { q with step := ⟨9, 1, 2, 0, 0⟩ }) : State).rd 0x0842 0 % 2 ^ 24) ∧ (((wPort [(0x0805, 5, 3), (0x0840, 5, 1), (0x0800, 5, 1)] 5 (fun q => { q with step := ⟨9, 1, 2, 0, 0⟩ }) : State).port (5 : PortNo).val).step.asked = 2) ∧ (((wPort [(0x0805, 5, 3), (0x0840, 5, 1), (0x0800, 5, 1)] 5 (fun q => { q with step := ⟨9, 1, 2, 0, 0⟩ }) : State).port (5 : PortNo).val).step.exchange = (9 : Byte).toNat) := by decide

theorem witness_RateStepsAreNegotiated_9 :
    ((2 : Byte) = 2 ∨ (2 : Byte) = 3 ∨ (2 : Byte) = 5) ∧ (((wStep 1 : State).port (5 : PortNo).val).step.exchange ≠ (8 : Byte).toNat) := by decide

theorem witness_RateStepsAreNegotiated_10 :
    ((wStep 1 : State).link (5 : PortNo).val = 3) ∧ ((wStep 1 : State).scheduled = true) ∧ ((wStep 1 : State).holder.isSome = true) ∧ (wCo.toNat = (wStep 1 : State).rd 0x0842 0 % 2 ^ 24) ∧ (((wStep 1 : State).port (5 : PortNo).val).step.asked = 1) ∧ (((wStep 1 : State).port (5 : PortNo).val).step.exchange = (9 : Byte).toNat) := by decide

theorem witness_RateStepsAreNegotiated_11 :
    ((wStep 1 : State).link (5 : PortNo).val = 3) ∧ ((wStep 1 : State).scheduled = true) ∧ ((wStep 1 : State).holder.isSome = true) ∧ (wCo.toNat = (wStep 1 : State).rd 0x0842 0 % 2 ^ 24) ∧ (((wStep 1 : State).port (5 : PortNo).val).step.asked = 1) ∧ (((wStep 1 : State).port (5 : PortNo).val).step.exchange = (9 : Byte).toNat) := by decide

theorem witness_RateStepsAreNegotiated_12 :
    ((0 : BitVec 24).toNat ≠ (wStep 1 : State).rd 0x0842 0 % 2 ^ 24 ∨ (2 : Byte) ≠ 1) := by decide

theorem witness_RateStepsAreNegotiated_13 :
    (((wRunning (wStep 2) : State).port (5 : PortNo).val).step.asked = 1) ∧ ((wRunning (wStep 2) : State).rd 0x0840 (5 : PortNo).val = 1) ∧ (((wRunning (wStep 2) : State).port (5 : PortNo).val).step.since + (wRunning (wStep 2) : State).rd 0x0847 (5 : PortNo).val * 400000 ≤ (wRunning (wStep 2) : State).tickRC (400000000 : Nat)) ∧ (((wRunning (wStep 2) : State).port (5 : PortNo).val).step.attempts < 3) := by decide

theorem witness_RateStepsAreNegotiated_14 :
    (((wRunning (wStep 3) : State).port (5 : PortNo).val).step.asked = 1) ∧ ((wRunning (wStep 3) : State).rd 0x0840 (5 : PortNo).val = 1) ∧ (((wRunning (wStep 3) : State).port (5 : PortNo).val).step.since + (wRunning (wStep 3) : State).rd 0x0847 (5 : PortNo).val * 400000 ≤ (wRunning (wStep 3) : State).tickRC (400000000 : Nat)) ∧ (3 ≤ ((wRunning (wStep 3) : State).port (5 : PortNo).val).step.attempts) := by decide

theorem witness_RateStepsAreNegotiated_15 :
    (((wRunning (wPort [(0x0805, 5, 3), (0x0840, 5, 1), (0x0800, 5, 1)] 5 (fun q => { q with step := ⟨9, 1, 2, 0, 0⟩ })) : State).port (5 : PortNo).val).step.asked = 2) ∧ ((wRunning (wPort [(0x0805, 5, 3), (0x0840, 5, 1), (0x0800, 5, 1)] 5 (fun q => { q with step := ⟨9, 1, 2, 0, 0⟩ })) : State).rd 0x0840 (5 : PortNo).val = 1) ∧ (((wRunning (wPort [(0x0805, 5, 3), (0x0840, 5, 1), (0x0800, 5, 1)] 5 (fun q => { q with step := ⟨9, 1, 2, 0, 0⟩ })) : State).port (5 : PortNo).val).step.since + (wRunning (wPort [(0x0805, 5, 3), (0x0840, 5, 1), (0x0800, 5, 1)] 5 (fun q => { q with step := ⟨9, 1, 2, 0, 0⟩ })) : State).rd 0x0847 (5 : PortNo).val * 400000 ≤ (wRunning (wPort [(0x0805, 5, 3), (0x0840, 5, 1), (0x0800, 5, 1)] 5 (fun q => { q with step := ⟨9, 1, 2, 0, 0⟩ })) : State).tickRC (400000000 : Nat)) := by decide

theorem witness_RateStepsAreNegotiated_16 :
    (((wUp [] : State).port (5 : PortNo).val).step.asked = 0 ∨ (wUp [] : State).rd 0x0840 (5 : PortNo).val ≠ 1 ∨ (wUp [] : State).tickRC (0 : Nat) < ((wUp [] : State).port (5 : PortNo).val).step.since + (wUp [] : State).rd 0x0847 (5 : PortNo).val * 400000) := by decide

theorem witness_RateStepsAreNegotiated_17 :
    ((wPort [(0x0805, 5, 4)] 5 (fun q => { q with step := ⟨9, 0, 0, 1, 0⟩ }) : State).link (5 : PortNo).val = 4) ∧ (((wPort [(0x0805, 5, 4)] 5 (fun q => { q with step := ⟨9, 0, 0, 1, 0⟩ }) : State).port (5 : PortNo).val).step.target = 1) := by decide

theorem witness_RateStepsAreNegotiated_18 :
    ((wPort [(0x0805, 5, 4), (0x0806, 5, 1)] 5 (fun q => { q with step := ⟨9, 0, 0, 0, 0⟩ }) : State).link (5 : PortNo).val = 4) ∧ (((wPort [(0x0805, 5, 4), (0x0806, 5, 1)] 5 (fun q => { q with step := ⟨9, 0, 0, 0, 0⟩ }) : State).port (5 : PortNo).val).step.target = 0) ∧ ((wPort [(0x0805, 5, 4), (0x0806, 5, 1)] 5 (fun q => { q with step := ⟨9, 0, 0, 0, 0⟩ }) : State).coreFastEnough = true) := by decide

theorem witness_RateStepsAreNegotiated_19 :
    ((wUp [] : State).link (5 : PortNo).val ≠ 4) := by decide

theorem witness_RateStepsAreNegotiated_20 :
    ((wRunning (wPort [(0x0805, 5, 4)] 5 (fun q => { q with step := ⟨9, 0, 0, 1, 0⟩ })) : State).link (5 : PortNo).val = 4) ∧ (((wRunning (wPort [(0x0805, 5, 4)] 5 (fun q => { q with step := ⟨9, 0, 0, 1, 0⟩ })) : State).port (5 : PortNo).val).step.since + 20000000 ≤ (wRunning (wPort [(0x0805, 5, 4)] 5 (fun q => { q with step := ⟨9, 0, 0, 1, 0⟩ })) : State).tickRC (20000000 : Nat)) := by decide

theorem witness_RateStepsAreNegotiated_21 :
    ((wUp [] : State).link (5 : PortNo).val ≠ 4 ∨ (wUp [] : State).tickRC (0 : Nat) < ((wUp [] : State).port (5 : PortNo).val).step.since + 20000000) := by decide

theorem witness_FramesAreReceivedAtTheirPort_1 :
    ((wUp [] : State).receives (5 : PortNo).val = false ∨ ((wUp [] : State).port (5 : PortNo).val).rx.isSome = true) := by decide

theorem witness_FramesAreReceivedAtTheirPort_2 :
    ((wRx id : State).receives (5 : PortNo).val = true) ∧ (((wRx id : State).port (5 : PortNo).val).rx = none) ∧ (getBE (wPause 1 9 46 : List Byte) 12 2 = 0x8808) := by decide

theorem witness_FramesAreReceivedAtTheirPort_3 :
    ((wRx id : State).receives (5 : PortNo).val = true) ∧ (((wRx id : State).port (5 : PortNo).val).rx = none) ∧ (getBE (wEth 50 : List Byte) 12 2 ≠ 0x8808) ∧ ((((wRx id : State).tick (0 : Nat)).arrive (5 : PortNo).val (wEth 50 : List Byte) (1 : BitVec 8).toNat).2.1.drop = false) ∧ ((((wRx id : State).tick (0 : Nat)).arrive (5 : PortNo).val (wEth 50 : List Byte) (1 : BitVec 8).toNat).2.1.policer = none) ∧ (64 ≤ (wEth 50 : List Byte).length) := by decide

theorem witness_FramesAreReceivedAtTheirPort_5 :
    ((wRx id : State).receives (5 : PortNo).val = true) ∧ (((wRx id : State).port (5 : PortNo).val).rx = none) ∧ (getBE (wEth 49 : List Byte) 12 2 ≠ 0x8808) ∧ ((((wRx id : State).tick (0 : Nat)).arrive (5 : PortNo).val (wEth 49 : List Byte) (1 : BitVec 8).toNat).2.1.drop = true ∨ (((wRx id : State).tick (0 : Nat)).arrive (5 : PortNo).val (wEth 49 : List Byte) (1 : BitVec 8).toNat).2.1.policer.isSome = true ∨ (wEth 49 : List Byte).length < 64) := by decide

theorem witness_FramesAreReceivedAtTheirPort_6 :
    ((wRx id : State).receives (5 : PortNo).val = true) ∧ (((wRx id : State).port (5 : PortNo).val).rx = none) ∧ (getBE (toBytes 6 0x0180C2000003 ++ (wEth 50).drop 6 : List Byte) 12 2 ≠ 0x8808) ∧ (getBE (toBytes 6 0x0180C2000003 ++ (wEth 50).drop 6 : List Byte) 12 2 ≠ 0x88F7) ∧ (getBE (toBytes 6 0x0180C2000003 ++ (wEth 50).drop 6 : List Byte) 0 6 / 16 = 0x0180C200000) ∧ (getBE (toBytes 6 0x0180C2000003 ++ (wEth 50).drop 6 : List Byte) 0 6 % 16 ≠ 1) ∧ ((wRx id : State).rd (0x0920 + getBE (toBytes 6 0x0180C2000003 ++ (wEth 50).drop 6 : List Byte) 0 6 % 16) (5 : PortNo).val = 0) ∧ (getBE (toBytes 6 0x0180C2000003 ++ (wEth 50).drop 6 : List Byte) 12 2 ∉ (wRx id : State).tpids ((5 : PortNo).val / 18)) ∧ ((wRx id : State).flag 0x3108 (5 : PortNo).val = false) ∧ ((wRx id : State).rd 0x091F (5 : PortNo).val = 0) := by decide

theorem witness_FramesAreReceivedAtTheirPort_7 :
    (((wRx (fun q => { q with rx := some { wRecv (wPause 1 9 40) with macControl := true } }) : State).port (5 : PortNo).val).rx = some ({ wRecv (wPause 1 9 40) with macControl := true } : RxFrame)) ∧ (({ wRecv (wPause 1 9 40) with macControl := true } : RxFrame).macControl = true) := by decide

theorem witness_FramesAreReceivedAtTheirPort_8 :
    (((wRx (fun q => { q with rx := some (wRecv (wEth 40)) }) : State).port (5 : PortNo).val).rx = some (wRecv (wEth 40) : RxFrame)) ∧ ((wRecv (wEth 40) : RxFrame).macControl = false) ∧ ((63 : Nat) = ((wRecv (wEth 40) : RxFrame).bytes ++ (List.replicate 9 0 : List Byte)).length + (if (wRecv (wEth 40) : RxFrame).frer.any (fun w => w.testBit 30) = true ∧ (wRecv (wEth 40) : RxFrame).tagless = false then 6 else 0)) ∧ ((63 : Nat) ≤ 63) := by decide

theorem witness_FramesAreReceivedAtTheirPort_9 :
    ((((wRx (fun q => { q with rx := some wRecvS })).wr 0x0803 5 64 : State).port (5 : PortNo).val).rx = some wRecvS) ∧ (wRecvS.macControl = false) ∧ ((0 : Nat) = (if wRecvS.frer.any (fun w => w.testBit 30) = true ∧ wRecvS.tagless = false then 6 else 0)) ∧ ((65 : Nat) = (wRecvS.bytes ++ (List.replicate 11 0 : List Byte)).length + (0 : Nat)) ∧ (64 ≤ (65 : Nat)) ∧ (((wRx (fun q => { q with rx := some wRecvS })).wr 0x0803 5 64 : State).rd 0x0803 (5 : PortNo).val < (65 : Nat)) := by decide

theorem witness_FramesAreReceivedAtTheirPort_10 :
    (((wRx (fun q => { q with rx := some { wRecvS with frer := some (2 ^ 30) } }) : State).port (5 : PortNo).val).rx = some ({ wRecvS with frer := some (2 ^ 30) } : RxFrame)) ∧ (({ wRecvS with frer := some (2 ^ 30) } : RxFrame).macControl = false) ∧ ((64 : Nat) = (({ wRecvS with frer := some (2 ^ 30) } : RxFrame).bytes ++ (List.replicate 4 0 : List Byte)).length + (if ({ wRecvS with frer := some (2 ^ 30) } : RxFrame).frer.any (fun w => w.testBit 30) = true ∧ ({ wRecvS with frer := some (2 ^ 30) } : RxFrame).tagless = false then 6 else 0)) ∧ (64 ≤ (64 : Nat)) ∧ ((64 : Nat) ≤ (wRx (fun q => { q with rx := some { wRecvS with frer := some (2 ^ 30) } }) : State).rd 0x0803 (5 : PortNo).val) := by decide

theorem witness_FramesAreReceivedAtTheirPort_11 :
    (((wRx (fun q => { q with rx := some wRecvS }) : State).port (5 : PortNo).val).rx = some wRecvS) ∧ (wRecvS.macControl = false) ∧ ((64 : Nat) = (wRecvS.bytes ++ (List.replicate 10 0 : List Byte)).length + (if wRecvS.frer.any (fun w => w.testBit 30) = true ∧ wRecvS.tagless = false then 6 else 0)) ∧ (64 ≤ (64 : Nat)) ∧ ((64 : Nat) ≤ (wRx (fun q => { q with rx := some wRecvS }) : State).rd 0x0803 (5 : PortNo).val) ∧ (wRecvS.drop = false) ∧ (wRecvS.seq = some (4 : Nat)) := by decide

theorem witness_FramesAreReceivedAtTheirPort_12 :
    (((wRx (fun q => { q with rx := some wRecvD }) : State).port (5 : PortNo).val).rx = some wRecvD) ∧ (wRecvD.macControl = false) ∧ ((64 : Nat) = (wRecvD.bytes ++ (List.replicate 10 0 : List Byte)).length + (if wRecvD.frer.any (fun w => w.testBit 30) = true ∧ wRecvD.tagless = false then 6 else 0)) ∧ (64 ≤ (64 : Nat)) ∧ ((64 : Nat) ≤ (wRx (fun q => { q with rx := some wRecvD }) : State).rd 0x0803 (5 : PortNo).val) ∧ (wRecvD.drop = true) := by decide

theorem witness_FramesAreReceivedAtTheirPort_13 :
    ((((wRx (fun q => { q with rx := some wRecvP })).wr 0x0A00 7 1 : State).port (5 : PortNo).val).rx = some wRecvP) ∧ (wRecvP.macControl = false) ∧ ((64 : Nat) = (wRecvP.bytes ++ (List.replicate 10 0 : List Byte)).length + (if wRecvP.frer.any (fun w => w.testBit 30) = true ∧ wRecvP.tagless = false then 6 else 0)) ∧ (64 ≤ (64 : Nat)) ∧ ((64 : Nat) ≤ ((wRx (fun q => { q with rx := some wRecvP })).wr 0x0A00 7 1 : State).rd 0x0803 (5 : PortNo).val) ∧ (wRecvP.drop = false) ∧ (wRecvP.seq = none) ∧ (wRecvP.policer = some (7 : Nat)) ∧ (((wRx (fun q => { q with rx := some wRecvP })).wr 0x0A00 7 1 : State).rd 0x0A00 (7 : Nat) = 1 ∨ ((wRx (fun q => { q with rx := some wRecvP })).wr 0x0A00 7 1 : State).rd 0x0A00 (7 : Nat) = 2) := by decide

theorem witness_FramesAreReceivedAtTheirPort_14 :
    (((wRx (fun q => { q with rx := some wRecvP }) : State).port (5 : PortNo).val).rx = some wRecvP) ∧ (wRecvP.macControl = false) ∧ ((64 : Nat) = (wRecvP.bytes ++ (List.replicate 10 0 : List Byte)).length + (if wRecvP.frer.any (fun w => w.testBit 30) = true ∧ wRecvP.tagless = false then 6 else 0)) ∧ (64 ≤ (64 : Nat)) ∧ ((64 : Nat) ≤ (wRx (fun q => { q with rx := some wRecvP }) : State).rd 0x0803 (5 : PortNo).val) ∧ (wRecvP.drop = false) ∧ (wRecvP.seq = none) ∧ (wRecvP.policer.all (fun k => (wRx (fun q => { q with rx := some wRecvP }) : State).rd 0x0A00 k != 1 && (wRx (fun q => { q with rx := some wRecvP }) : State).rd 0x0A00 k != 2) = true) := by decide

theorem witness_FramesAreReceivedAtTheirPort_15 :
    (((wUp [] : State).port (5 : PortNo).val).rx = none) := by decide

theorem witness_PipelinesClassifyTheirOldestFrame_1 :
    (((wUp [] : State).pl (1 : PlaneNo).val).contest.rivals = 0) ∧ (takeFirst (fun y => y.pipe == (7 : Fin 8).val) ((wUp [] : State).pl (1 : PlaneNo).val).ingress = none) := by decide

theorem witness_PipelinesClassifyTheirOldestFrame_2 :
    (((wPlane [] (fun q => { q with ingress := [wFrameB] }) : State).pl (0 : PlaneNo).val).contest.rivals = 0) ∧ (takeFirst (fun y => y.pipe == (3 : Fin 8).val) ((wPlane [] (fun q => { q with ingress := [wFrameB] }) : State).pl (0 : PlaneNo).val).ingress = some (wFrameB, ([] : List Frame))) ∧ (wFrameB.ended = false) ∧ (wFrameB.bytes.length < 256) := by decide +kernel

theorem witness_PipelinesClassifyTheirOldestFrame_3 :
    (((wActive (wPlane [(0x1001, 5, 10)] (fun q => { q with ingress := [wFrameO] })) : State).pl (0 : PlaneNo).val).contest.rivals = 0) ∧ (takeFirst (fun y => y.pipe == (3 : Fin 8).val) ((wActive (wPlane [(0x1001, 5, 10)] (fun q => { q with ingress := [wFrameO] })) : State).pl (0 : PlaneNo).val).ingress = some (wFrameO, ([] : List Frame))) ∧ (wFrameO.inject = none) ∧ ((wActive (wPlane [(0x1001, 5, 10)] (fun q => { q with ingress := [wFrameO] })) : State).versionFor (0 : PlaneNo).val wFrameO.rc = some (0 : Nat)) ∧ (((wActive (wPlane [(0x1001, 5, 10)] (fun q => { q with ingress := [wFrameO] })) : State).parse (0 : Nat) wFrameO).open_ = true) := by decide +kernel

theorem witness_PipelinesClassifyTheirOldestFrame_4 :
    (((wPlane [] (fun q => { q with ingress := [wFrame] }) : State).pl (0 : PlaneNo).val).contest.rivals = 0) ∧ (takeFirst (fun y => y.pipe == (3 : Fin 8).val) ((wPlane [] (fun q => { q with ingress := [wFrame] }) : State).pl (0 : PlaneNo).val).ingress = some (wFrame, ([] : List Frame))) ∧ (wFrame.ended = true ∨ 256 ≤ wFrame.bytes.length) ∧ (wFrame.inject = none) ∧ ((wPlane [] (fun q => { q with ingress := [wFrame] }) : State).versionFor (0 : PlaneNo).val wFrame.rc = none) := by decide +kernel

theorem witness_PipelinesClassifyTheirOldestFrame_5 :
    (takeFirst (fun y => y.pipe == (3 : Fin 8).val) ((wActive (wPlane [] (fun q => { q with ingress := [wFrame] })) : State).pl (0 : PlaneNo).val).ingress = some (wFrame, ([] : List Frame))) ∧ (wFrame.ended = true ∨ 256 ≤ wFrame.bytes.length) ∧ (wFrame.inject = none) ∧ ((wActive (wPlane [] (fun q => { q with ingress := [wFrame] })) : State).versionFor (0 : PlaneNo).val wFrame.rc = some (0 : Nat)) ∧ (((wActive (wPlane [] (fun q => { q with ingress := [wFrame] })) : State).parse (0 : Nat) wFrame).open_ = false) := by decide +kernel

theorem witness_PipelinesClassifyTheirOldestFrame_6 :
    (takeFirst (fun y => y.pipe == (3 : Fin 8).val) ((wPlane [] (fun q => { q with ingress := [wFrameI] }) : State).pl (0 : PlaneNo).val).ingress = some (wFrameI, ([] : List Frame))) ∧ (wFrameI.ended = true ∨ 256 ≤ wFrameI.bytes.length) ∧ (wFrameI.inject = some ((0 : Nat), (5 : Nat), (0xFFFF : Nat))) := by decide +kernel

theorem witness_PipelinesClassifyTheirOldestFrame_7 :
    (((wUp [] : State).pl (1 : PlaneNo).val).contest.rivals = 0) ∧ (takeFirst (fun y => y.pipe == (7 : Fin 8).val) ((wUp [] : State).pl (1 : PlaneNo).val).recirc = none) := by decide

theorem witness_PipelinesClassifyTheirOldestFrame_8 :
    (takeFirst (fun y => y.pipe == (3 : Fin 8).val) ((wActive (wPlane [] (fun q => { q with recirc := [wFrame2] })) : State).pl (0 : PlaneNo).val).recirc = some (wFrame2, ([] : List Frame))) ∧ (((wActive (wPlane [] (fun q => { q with recirc := [wFrame2] })) : State).slot (bedGet wFrame2.bed 243 242)).state.usable = true) ∧ (((wActive (wPlane [] (fun q => { q with recirc := [wFrame2] })) : State).slot (bedGet wFrame2.bed 243 242)).gen = wFrame2.verGen) := by decide +kernel

theorem witness_PipelinesClassifyTheirOldestFrame_9 :
    (((wPlane [] (fun q => { q with recirc := [wFrame2] }) : State).pl (0 : PlaneNo).val).contest.rivals = 0) ∧ (takeFirst (fun y => y.pipe == (3 : Fin 8).val) ((wPlane [] (fun q => { q with recirc := [wFrame2] }) : State).pl (0 : PlaneNo).val).recirc = some (wFrame2, ([] : List Frame))) ∧ (((wPlane [] (fun q => { q with recirc := [wFrame2] }) : State).slot (bedGet wFrame2.bed 243 242)).state.usable = false ∨ ((wPlane [] (fun q => { q with recirc := [wFrame2] }) : State).slot (bedGet wFrame2.bed 243 242)).gen ≠ wFrame2.verGen) := by decide +kernel

theorem witness_PipelinesClassifyTheirOldestFrame_10 :
    ((wUp [] : State).holder = some (0 : Nat)) ∧ ((49151 : Nat) = 256 * tileLead (wUp [] : State).latest ((49151 : Fin 49152).val / 256) + (49151 : Fin 49152).val % 256) := by decide

theorem witness_PipelinesClassifyTheirOldestFrame_11 :
    ((wUp [(0x0302, 0, 0)] : State).holder = none) ∧ ((49151 : Nat) = 256 * tileLead (wUp [(0x0302, 0, 0)] : State).latest ((49151 : Fin 49152).val / 256) + (49151 : Fin 49152).val % 256) := by decide

theorem witness_TilesAreWrittenFreedAndScrubbed_1 :
    (((wUp [] : State).pl (1 : PlaneNo).val).contest.rivals = 0) ∧ (Tab.find? ((wUp [] : State).pl (1 : PlaneNo).val).desc (24575 : Fin 24576).val = none) := by decide

theorem witness_TilesAreWrittenFreedAndScrubbed_2 :
    (((wPlane [] (fun q => { q with desc := [(9, wDesc)] }) : State).pl (0 : PlaneNo).val).contest.rivals = 0) ∧ (Tab.find? ((wPlane [] (fun q => { q with desc := [(9, wDesc)] }) : State).pl (0 : PlaneNo).val).desc (9 : Fin 24576).val = some wDesc) ∧ (wDesc.frame.bytes.length ≤ 256 * wDesc.count ∨ wDesc.holders.testBit 148 = false) := by decide +kernel

theorem witness_TilesAreWrittenFreedAndScrubbed_3 :
    (Tab.find? ((wPlane [] (fun q => { q with desc := [(9, wLong)] }) : State).pl (0 : PlaneNo).val).desc (9 : Fin 24576).val = some wLong) ∧ (wLong.holders.testBit 148 = true) ∧ (256 * wLong.count < wLong.frame.bytes.length) ∧ ((((wPlane [] (fun q => { q with desc := [(9, wLong)] }) : State).tick (0 : Nat)).ask (0 : PlaneNo).val wLong (wLong.chain ++ [7])).2 = some (2 : Nat)) ∧ ((((((wPlane [] (fun q => { q with desc := [(9, wLong)] }) : State).tick (0 : Nat)).ask (0 : PlaneNo).val wLong (wLong.chain ++ [7])).1).allocate (0 : PlaneNo).val wLong (2 : Nat)).2 = some (96 : Nat)) := by decide +kernel

theorem witness_TilesAreWrittenFreedAndScrubbed_4 :
    (Tab.find? ((wPlane [(0x1815, 0, 0)] (fun q => { q with desc := [(9, { wLong with chain := [] })] }) : State).pl (0 : PlaneNo).val).desc (9 : Fin 24576).val = some ({ wLong with chain := [] } : Desc)) ∧ (({ wLong with chain := [] } : Desc).holders.testBit 148 = true) ∧ (256 * ({ wLong with chain := [] } : Desc).count < ({ wLong with chain := [] } : Desc).frame.bytes.length) ∧ ((∀ c ∈ ({ wLong with chain := [] } : Desc).chain ++ [7], (wPlane [(0x1815, 0, 0)] (fun q => { q with desc := [(9, { wLong with chain := [] })] }) : State).room (0 : PlaneNo).val ({ wLong with chain := [] } : Desc) c = 0)) := by decide +kernel

theorem witness_TilesAreWrittenFreedAndScrubbed_5 :
    ((wUp [(0x1815, 0, 0)] : State).room (0 : PlaneNo).val wDesc (7 : Nat) = 0) := by decide

theorem witness_TilesAreWrittenFreedAndScrubbed_6 :
    ((wUp [] : State).room (0 : PlaneNo).val wDesc (7 : Nat) ≠ 0) ∧ (((wUp [] : State).pl (0 : PlaneNo).val).contest.refused = []) ∧ (((rotation ((wUp [] : State).rd 0x181B (0 : PlaneNo).val)).filter (fun g => g == wDesc.frame.pipe || ((wUp [] : State).pl (0 : PlaneNo).val).contest.rivals.testBit g)).length ≤ (wUp [] : State).room (0 : PlaneNo).val wDesc (7 : Nat)) := by decide

theorem witness_TilesAreWrittenFreedAndScrubbed_7 :
    ((((wPlane [] (fun q => { q with caches := [(0, []), (3, [])], refillNext := 1 } |> fun q => { q with caches := (List.range 8).map (fun k => (k, if k = 3 then [] else List.replicate 16 0)) }) : State).pl (0 : PlaneNo).val).cache (3 : Fin 8).val).length < 16) ∧ (((wPlane [] (fun q => { q with caches := [(0, []), (3, [])], refillNext := 1 } |> fun q => { q with caches := (List.range 8).map (fun k => (k, if k = 3 then [] else List.replicate 16 0)) }) : State).pl (0 : PlaneNo).val).nextRefill = some (3 : Fin 8).val) := by decide

theorem witness_TilesAreWrittenFreedAndScrubbed_8 :
    (16 ≤ (((wUp [] : State).pl (1 : PlaneNo).val).cache (7 : Fin 8).val).length ∨ ((wUp [] : State).pl (1 : PlaneNo).val).nextRefill ≠ some (7 : Fin 8).val) := by decide

theorem witness_TilesAreWrittenFreedAndScrubbed_10 :
    (Tab.search (fun e => (((wUp [] : State).pl (1 : PlaneNo).val).chainOf 36 e.1 e.2.tail).contains (0 : Fin 24576).val) ((wUp [] : State).pl (1 : PlaneNo).val).desc = none) := by decide

theorem witness_TilesAreWrittenFreedAndScrubbed_11 :
    (Tab.search (fun e => (((wPlane [] (fun q => { q with desc := [(9, wDesc)] }) : State).pl (0 : PlaneNo).val).chainOf 36 e.1 e.2.tail).contains (9 : Fin 24576).val) ((wPlane [] (fun q => { q with desc := [(9, wDesc)] }) : State).pl (0 : PlaneNo).val).desc = some ((9 : Nat), wDesc)) := by decide +kernel

theorem witness_TilesAreWrittenFreedAndScrubbed_12 :
    ((wUp [(0x1822, 0, 0)] : State).isOn (0 : PlaneNo).val = true) ∧ (((wUp [(0x1822, 0, 0)] : State).pl (0 : PlaneNo).val).scrub.running = false) ∧ ((wUp [(0x1822, 0, 0)] : State).rd 0x1822 0 ≤ ((wUp [(0x1822, 0, 0)] : State).pl (0 : PlaneNo).val).quar.length ∨ ((wUp [(0x1822, 0, 0)] : State).rd 0x1823 0 ≠ 0 ∧ ((wUp [(0x1822, 0, 0)] : State).pl (0 : PlaneNo).val).scrub.lastEnd + (wUp [(0x1822, 0, 0)] : State).rd 0x1823 0 * 400000000 ≤ (wUp [(0x1822, 0, 0)] : State).tickRC (0 : Nat))) := by decide

theorem witness_TilesAreWrittenFreedAndScrubbed_13 :
    (((wPlane [(0x1823, 0, 0)] (fun q => { q with scrub := { q.scrub with running := true } }) : State).pl (0 : PlaneNo).val).scrub.running = true) ∧ ((wPlane [(0x1823, 0, 0)] (fun q => { q with scrub := { q.scrub with running := true } }) : State).rd 0x1823 0 = 0 ∨ (wPlane [(0x1823, 0, 0)] (fun q => { q with scrub := { q.scrub with running := true } }) : State).tickRC (0 : Nat) < ((wPlane [(0x1823, 0, 0)] (fun q => { q with scrub := { q.scrub with running := true } }) : State).pl (0 : PlaneNo).val).scrub.lastEnd + (wPlane [(0x1823, 0, 0)] (fun q => { q with scrub := { q.scrub with running := true } }) : State).rd 0x1823 0 * 400000000) := by decide

theorem witness_TilesAreWrittenFreedAndScrubbed_14 :
    (Ready (wBuf [(65536, ⟨3, false, true, [], none⟩)] : State) (wReq 0 [1] : Req) roleSite) ∧ (FullService (wBuf [(65536, ⟨3, false, true, [], none⟩)] : State)) ∧ ((wReq 0 [1] : Req).inst = 0) ∧ ((wReq 0 [1] : Req).data = [1]) ∧ ((wBuf [(65536, ⟨3, false, true, [], none⟩)] : State).isOn 0 = true) ∧ ((wBuf [(65536, ⟨3, false, true, [], none⟩)] : State).isOn 1 = true) ∧ ((wBuf [(65536, ⟨3, false, true, [], none⟩)] : State).pa.scrub.running = false) ∧ ((wBuf [(65536, ⟨3, false, true, [], none⟩)] : State).pb.scrub.running = false) := by decide

theorem witness_TilesAreWrittenFreedAndScrubbed_15 :
    (Ready ((wPlane [(0x1825, 0, 1)] (fun q => { q with scrub := { q.scrub with running := true } })).updPl 1 (fun q => { q with scrub := { q.scrub with running := true } }) : State) (wReq 0 [1] : Req) roleSite) ∧ (FullService ((wPlane [(0x1825, 0, 1)] (fun q => { q with scrub := { q.scrub with running := true } })).updPl 1 (fun q => { q with scrub := { q.scrub with running := true } }) : State)) ∧ ((wReq 0 [1] : Req).inst = 0) ∧ ((wReq 0 [1] : Req).data = [1]) ∧ (((wPlane [(0x1825, 0, 1)] (fun q => { q with scrub := { q.scrub with running := true } })).updPl 1 (fun q => { q with scrub := { q.scrub with running := true } }) : State).isOn 0 = true) ∧ (((wPlane [(0x1825, 0, 1)] (fun q => { q with scrub := { q.scrub with running := true } })).updPl 1 (fun q => { q with scrub := { q.scrub with running := true } }) : State).isOn 1 = true) ∧ (((wPlane [(0x1825, 0, 1)] (fun q => { q with scrub := { q.scrub with running := true } })).updPl 1 (fun q => { q with scrub := { q.scrub with running := true } }) : State).pa.scrub.running = true) ∧ (((wPlane [(0x1825, 0, 1)] (fun q => { q with scrub := { q.scrub with running := true } })).updPl 1 (fun q => { q with scrub := { q.scrub with running := true } }) : State).pb.scrub.running = true) := by decide

theorem witness_TilesAreWrittenFreedAndScrubbed_16 :
    (((wPlane [(0x1825, 0, 1)] (fun q => { q with scrub := { q.scrub with running := true, suspects := [7, 8] }, taken := [7, 8], quar := [8], flagged := [8] }) : State).pl (0 : PlaneNo).val).scrub.running = true) ∧ (((wPlane [(0x1825, 0, 1)] (fun q => { q with scrub := { q.scrub with running := true, suspects := [7, 8] }, taken := [7, 8], quar := [8], flagged := [8] }) : State).pl (0 : PlaneNo).val).scrub.queued = false) ∧ (([7, 8] : List Nat) = ((wPlane [(0x1825, 0, 1)] (fun q => { q with scrub := { q.scrub with running := true, suspects := [7, 8] }, taken := [7, 8], quar := [8], flagged := [8] }) : State).pl (0 : PlaneNo).val).scrub.suspects.filter (fun x => !((wPlane [(0x1825, 0, 1)] (fun q => { q with scrub := { q.scrub with running := true, suspects := [7, 8] }, taken := [7, 8], quar := [8], flagged := [8] }) : State).pl (0 : PlaneNo).val).liveTiles.contains x)) := by decide

theorem witness_TilesAreWrittenFreedAndScrubbed_17 :
    (((wPlane [(0x1825, 0, 1)] (fun q => { q with scrub := { q.scrub with running := true, queued := true } }) : State).pl (0 : PlaneNo).val).scrub.running = true) ∧ (((wPlane [(0x1825, 0, 1)] (fun q => { q with scrub := { q.scrub with running := true, queued := true } }) : State).pl (0 : PlaneNo).val).scrub.queued = true) := by decide

theorem witness_TilesAreWrittenFreedAndScrubbed_18 :
    (((wUp [] : State).pl (0 : PlaneNo).val).scrub.running = false) := by decide

theorem witness_CopiesAreSelectedSentAndAged_1 :
    ((wPlane [] (fun q => { q with sending := [(5, wSending)] }) : State).isOn (0 : PlaneNo).val = false ∨ (Tab.find? ((wPlane [] (fun q => { q with sending := [(5, wSending)] }) : State).pl (0 : PlaneNo).val).sending (5 : Fin 148).val).isSome = true ∨ (wPlane [] (fun q => { q with sending := [(5, wSending)] }) : State).tickRC (0 : Nat) < Tab.get 0 ((wPlane [] (fun q => { q with sending := [(5, wSending)] }) : State).pl (0 : PlaneNo).val).sched.lineEnd (5 : Fin 148).val) := by decide

theorem witness_CopiesAreSelectedSentAndAged_2 :
    (144 ≤ (5 : Fin 148).val ∨ (wUp [] : State).rd 0x221F (5 : Fin 148).val = 0) ∧ (((wUp [] : State).tick (0 : Nat)).choose (0 : PlaneNo).val (5 : Fin 148).val [7, 6, 5, 4, 3, 2, 1, 0] = none) := by decide

theorem witness_CopiesAreSelectedSentAndAged_3 :
    (144 ≤ (5 : Fin 148).val ∨ (wPlane [(0x0805, 5, 3)] (fun q => { q with queues := [(40, [{ wCopyE with port := 5, queue := 40 }])], desc := [(9, wDesc)] }) : State).rd 0x221F (5 : Fin 148).val = 0) ∧ ((wPlane [(0x0805, 5, 3)] (fun q => { q with queues := [(40, [{ wCopyE with port := 5, queue := 40 }])], desc := [(9, wDesc)] }) : State).isOn (0 : PlaneNo).val = true) ∧ (Tab.find? ((wPlane [(0x0805, 5, 3)] (fun q => { q with queues := [(40, [{ wCopyE with port := 5, queue := 40 }])], desc := [(9, wDesc)] }) : State).pl (0 : PlaneNo).val).sending (5 : Fin 148).val = none) ∧ (Tab.get 0 ((wPlane [(0x0805, 5, 3)] (fun q => { q with queues := [(40, [{ wCopyE with port := 5, queue := 40 }])], desc := [(9, wDesc)] }) : State).pl (0 : PlaneNo).val).sched.lineEnd (5 : Fin 148).val ≤ (wPlane [(0x0805, 5, 3)] (fun q => { q with queues := [(40, [{ wCopyE with port := 5, queue := 40 }])], desc := [(9, wDesc)] }) : State).tickRC (0 : Nat)) ∧ (((wPlane [(0x0805, 5, 3)] (fun q => { q with queues := [(40, [{ wCopyE with port := 5, queue := 40 }])], desc := [(9, wDesc)] }) : State).tick (0 : Nat)).choose (0 : PlaneNo).val (5 : Fin 148).val [7, 6, 5, 4, 3, 2, 1, 0] = some ((⟨{ wCopyE with port := 5, queue := 40 }, 84, []⟩ : Choice), (wSched 40 3145768 : PlaneSched))) ∧ (((wPlane [(0x0805, 5, 3)] (fun q => { q with queues := [(40, [{ wCopyE with port := 5, queue := 40 }])], desc := [(9, wDesc)] }) : State).tick (0 : Nat)).aged (⟨{ wCopyE with port := 5, queue := 40 }, 84, []⟩ : Choice).copy = none) ∧ (Tab.find? ((wPlane [(0x0805, 5, 3)] (fun q => { q with queues := [(40, [{ wCopyE with port := 5, queue := 40 }])], desc := [(9, wDesc)] }) : State).pl (0 : PlaneNo).val).desc (⟨{ wCopyE with port := 5, queue := 40 }, 84, []⟩ : Choice).copy.head = some wDesc) ∧ ((⟨{ wCopyE with port := 5, queue := 40 }, 84, []⟩ : Choice).copy.rewritten = false ∨ ttlExpired wDesc.frame.bytes ((wPlane [(0x0805, 5, 3)] (fun q => { q with queues := [(40, [{ wCopyE with port := 5, queue := 40 }])], desc := [(9, wDesc)] }) : State).rwContent wDesc.rewrite) wDesc.frame.ipOff = false) ∧ ((5 : Fin 148).val < 144) ∧ (((wPlane [(0x0805, 5, 3)] (fun q => { q with queues := [(40, [{ wCopyE with port := 5, queue := 40 }])], desc := [(9, wDesc)] }) : State).tick (0 : Nat)).gateNever (5 : Fin 148).val (⟨{ wCopyE with port := 5, queue := 40 }, 84, []⟩ : Choice).copy.cls (((wPlane [(0x0805, 5, 3)] (fun q => { q with queues := [(40, [{ wCopyE with port := 5, queue := 40 }])], desc := [(9, wDesc)] }) : State).tick (0 : Nat)).copyLen (0 : PlaneNo).val (⟨{ wCopyE with port := 5, queue := 40 }, 84, []⟩ : Choice).copy) = false) := by decide +kernel

theorem witness_CopiesAreSelectedSentAndAged_4 :
    (144 ≤ (147 : Fin 148).val) ∧ ((wPlane [] (fun q => { q with queues := [(8 * 147, [wCopyE])], desc := [(9, wDesc)] }) : State).isOn (0 : PlaneNo).val = true) ∧ (Tab.find? ((wPlane [] (fun q => { q with queues := [(8 * 147, [wCopyE])], desc := [(9, wDesc)] }) : State).pl (0 : PlaneNo).val).sending (147 : Fin 148).val = none) ∧ (Tab.get 0 ((wPlane [] (fun q => { q with queues := [(8 * 147, [wCopyE])], desc := [(9, wDesc)] }) : State).pl (0 : PlaneNo).val).sched.lineEnd (147 : Fin 148).val ≤ (wPlane [] (fun q => { q with queues := [(8 * 147, [wCopyE])], desc := [(9, wDesc)] }) : State).tickRC (0 : Nat)) ∧ (((wPlane [] (fun q => { q with queues := [(8 * 147, [wCopyE])], desc := [(9, wDesc)] }) : State).tick (0 : Nat)).choose (0 : PlaneNo).val (147 : Fin 148).val [7, 6, 5, 4, 3, 2, 1, 0] = some ((⟨wCopyE, 84, []⟩ : Choice), (wSched 1176 3146904 : PlaneSched))) ∧ (((wPlane [] (fun q => { q with queues := [(8 * 147, [wCopyE])], desc := [(9, wDesc)] }) : State).tick (0 : Nat)).aged (⟨wCopyE, 84, []⟩ : Choice).copy = none) ∧ (Tab.find? ((wPlane [] (fun q => { q with queues := [(8 * 147, [wCopyE])], desc := [(9, wDesc)] }) : State).pl (0 : PlaneNo).val).desc (⟨wCopyE, 84, []⟩ : Choice).copy.head = some wDesc) ∧ ((⟨wCopyE, 84, []⟩ : Choice).copy.rewritten = false ∨ ttlExpired wDesc.frame.bytes ((wPlane [] (fun q => { q with queues := [(8 * 147, [wCopyE])], desc := [(9, wDesc)] }) : State).rwContent wDesc.rewrite) wDesc.frame.ipOff = false) := by decide +kernel

theorem witness_CopiesAreSelectedSentAndAged_5 :
    (144 ≤ (147 : Fin 148).val ∨ ({ wRunning (wPlane [] (fun q => { q with queues := [(8 * 147, [{ wCopyE with rc := 0 }])], desc := [(9, wDesc)] })) with rc := 0 } : State).rd 0x221F (147 : Fin 148).val = 0) ∧ (({ wRunning (wPlane [] (fun q => { q with queues := [(8 * 147, [{ wCopyE with rc := 0 }])], desc := [(9, wDesc)] })) with rc := 0 } : State).isOn (0 : PlaneNo).val = true) ∧ (Tab.find? (({ wRunning (wPlane [] (fun q => { q with queues := [(8 * 147, [{ wCopyE with rc := 0 }])], desc := [(9, wDesc)] })) with rc := 0 } : State).pl (0 : PlaneNo).val).sending (147 : Fin 148).val = none) ∧ (Tab.get 0 (({ wRunning (wPlane [] (fun q => { q with queues := [(8 * 147, [{ wCopyE with rc := 0 }])], desc := [(9, wDesc)] })) with rc := 0 } : State).pl (0 : PlaneNo).val).sched.lineEnd (147 : Fin 148).val ≤ ({ wRunning (wPlane [] (fun q => { q with queues := [(8 * 147, [{ wCopyE with rc := 0 }])], desc := [(9, wDesc)] })) with rc := 0 } : State).tickRC (400000000000 : Nat)) ∧ ((({ wRunning (wPlane [] (fun q => { q with queues := [(8 * 147, [{ wCopyE with rc := 0 }])], desc := [(9, wDesc)] })) with rc := 0 } : State).tick (400000000000 : Nat)).choose (0 : PlaneNo).val (147 : Fin 148).val [7, 6, 5, 4, 3, 2, 1, 0] = some ((⟨{ wCopyE with rc := 0 }, 84, []⟩ : Choice), (wSched 1176 3146904 : PlaneSched))) ∧ ((({ wRunning (wPlane [] (fun q => { q with queues := [(8 * 147, [{ wCopyE with rc := 0 }])], desc := [(9, wDesc)] })) with rc := 0 } : State).tick (400000000000 : Nat)).aged (⟨{ wCopyE with rc := 0 }, 84, []⟩ : Choice).copy = some (true : Bool)) := by decide +kernel

theorem witness_CopiesAreSelectedSentAndAged_6 :
    (144 ≤ (5 : Fin 148).val ∨ ({ wPlane [(0x0805, 5, 3)] (fun q => { q with queues := [(40, [{ wCopyE with port := 5, queue := 40 }])], desc := [(9, wDescT)] }) with physRw := [(1, 2 ^ 250)] } : State).rd 0x221F (5 : Fin 148).val = 0) ∧ (({ wPlane [(0x0805, 5, 3)] (fun q => { q with queues := [(40, [{ wCopyE with port := 5, queue := 40 }])], desc := [(9, wDescT)] }) with physRw := [(1, 2 ^ 250)] } : State).isOn (0 : PlaneNo).val = true) ∧ (Tab.find? (({ wPlane [(0x0805, 5, 3)] (fun q => { q with queues := [(40, [{ wCopyE with port := 5, queue := 40 }])], desc := [(9, wDescT)] }) with physRw := [(1, 2 ^ 250)] } : State).pl (0 : PlaneNo).val).sending (5 : Fin 148).val = none) ∧ (Tab.get 0 (({ wPlane [(0x0805, 5, 3)] (fun q => { q with queues := [(40, [{ wCopyE with port := 5, queue := 40 }])], desc := [(9, wDescT)] }) with physRw := [(1, 2 ^ 250)] } : State).pl (0 : PlaneNo).val).sched.lineEnd (5 : Fin 148).val ≤ ({ wPlane [(0x0805, 5, 3)] (fun q => { q with queues := [(40, [{ wCopyE with port := 5, queue := 40 }])], desc := [(9, wDescT)] }) with physRw := [(1, 2 ^ 250)] } : State).tickRC (0 : Nat)) ∧ ((({ wPlane [(0x0805, 5, 3)] (fun q => { q with queues := [(40, [{ wCopyE with port := 5, queue := 40 }])], desc := [(9, wDescT)] }) with physRw := [(1, 2 ^ 250)] } : State).tick (0 : Nat)).choose (0 : PlaneNo).val (5 : Fin 148).val [7, 6, 5, 4, 3, 2, 1, 0] = some ((⟨{ wCopyE with port := 5, queue := 40 }, 84, []⟩ : Choice), (wSched 40 3145768 : PlaneSched))) ∧ ((({ wPlane [(0x0805, 5, 3)] (fun q => { q with queues := [(40, [{ wCopyE with port := 5, queue := 40 }])], desc := [(9, wDescT)] }) with physRw := [(1, 2 ^ 250)] } : State).tick (0 : Nat)).aged (⟨{ wCopyE with port := 5, queue := 40 }, 84, []⟩ : Choice).copy = none) ∧ (Tab.find? (({ wPlane [(0x0805, 5, 3)] (fun q => { q with queues := [(40, [{ wCopyE with port := 5, queue := 40 }])], desc := [(9, wDescT)] }) with physRw := [(1, 2 ^ 250)] } : State).pl (0 : PlaneNo).val).desc (⟨{ wCopyE with port := 5, queue := 40 }, 84, []⟩ : Choice).copy.head = some wDescT) ∧ ((⟨{ wCopyE with port := 5, queue := 40 }, 84, []⟩ : Choice).copy.rewritten = true) ∧ (ttlExpired wDescT.frame.bytes (({ wPlane [(0x0805, 5, 3)] (fun q => { q with queues := [(40, [{ wCopyE with port := 5, queue := 40 }])], desc := [(9, wDescT)] }) with physRw := [(1, 2 ^ 250)] } : State).rwContent wDescT.rewrite) wDescT.frame.ipOff = true) := by decide +kernel

theorem witness_CopiesAreSelectedSentAndAged_7 :
    ((wRunning (wUp []) : State).tickRC (17 : Nat) % 16 ≠ 0) := by decide

theorem witness_CopiesAreSelectedSentAndAged_8 :
    ((wRunning (wUp []) : State).tickRC (32 : Nat) % 16 = 0) := by decide

theorem witness_CopiesAreSelectedSentAndAged_10 :
    ((wRunning (wUp []) : State).tickRC (32 : Nat) % 16 = 0) ∧ ((wRunning (wUp []) : State).bonds = []) ∧ ((wRunning (wUp []) : State).pa.queues = []) ∧ ((wRunning (wUp []) : State).pb.queues = []) ∧ ((wRunning (wUp []) : State).pa.sending = []) ∧ ((wRunning (wUp []) : State).pb.sending = []) ∧ ((wRunning (wUp []) : State).pa.sched.credit = []) ∧ ((wRunning (wUp []) : State).pb.sched.credit = []) := by decide

theorem witness_CopiesAreSelectedSentAndAged_11 :
    (Tab.find? ((wPlane [] (fun q => { q with sending := [(5, wSending)], desc := [(9, wDesc)] }) : State).pl (0 : PlaneNo).val).sending (5 : Fin 156).val = some wSending) ∧ (Tab.find? ((wPlane [] (fun q => { q with sending := [(5, wSending)], desc := [(9, wDesc)] }) : State).pl (0 : PlaneNo).val).desc wSending.copy.head = some wDesc) ∧ (wSending.started = true) ∧ (wDesc.frame.ended = true) ∧ (wDesc.frame.bad = false) ∧ (wDesc.holders.testBit 148 = false) := by decide +kernel

theorem witness_CopiesAreSelectedSentAndAged_12 :
    ((Tab.find? ((wUp [] : State).pl (1 : PlaneNo).val).sending (155 : Fin 156).val).all (fun x => !x.started || (Tab.find? ((wUp [] : State).pl (1 : PlaneNo).val).desc x.copy.head).all (fun d => !d.frame.ended || d.frame.bad || d.holders.testBit 148)) = true) := by decide

theorem witness_CopiesAreSelectedSentAndAged_13 :
    (((wUp [] : State).pl (1 : PlaneNo).val).queue (32767 : Fin 32768).val = []) ∧ (((wUp [] : State).tick (0 : Nat)).timeless = (wUp [] : State).servo.timeless) := by decide

theorem witness_CopiesAreSelectedSentAndAged_15 :
    ((({ wRunning (wPlane [] (fun q => { q with queues := [(40, [wCopy])] })) with rc := 0 } : State).pl (0 : PlaneNo).val).queue (40 : Fin 32768).val = wCopy :: ([] : List Copy)) ∧ (wCopy.queue = (40 : Fin 32768).val) ∧ ((({ wRunning (wPlane [] (fun q => { q with queues := [(40, [wCopy])] })) with rc := 0 } : State).tick (400000000000 : Nat)).timeless = ({ wRunning (wPlane [] (fun q => { q with queues := [(40, [wCopy])] })) with rc := 0 } : State).servo.timeless) ∧ ((({ wRunning (wPlane [] (fun q => { q with queues := [(40, [wCopy])] })) with rc := 0 } : State).pl (0 : PlaneNo).val).inTransmission wCopy = false) ∧ ((({ wRunning (wPlane [] (fun q => { q with queues := [(40, [wCopy])] })) with rc := 0 } : State).tick (400000000000 : Nat)).aged wCopy = some (true : Bool)) := by decide

theorem witness_CopiesAreSelectedSentAndAged_16 :
    (((wPlane [] (fun q => { q with queues := [(40, [wCopyY])] }) : State).pl (0 : PlaneNo).val).queue (40 : Fin 32768).val = wCopyY :: ([] : List Copy)) ∧ (wCopyY.queue = (40 : Fin 32768).val) ∧ (((wPlane [] (fun q => { q with queues := [(40, [wCopyY])] }) : State).tick (0 : Nat)).timeless = (wPlane [] (fun q => { q with queues := [(40, [wCopyY])] }) : State).servo.timeless) ∧ (((wPlane [] (fun q => { q with queues := [(40, [wCopyY])] }) : State).pl (0 : PlaneNo).val).inTransmission wCopyY = false) ∧ (((wPlane [] (fun q => { q with queues := [(40, [wCopyY])] }) : State).tick (0 : Nat)).aged wCopyY = none) := by decide

theorem witness_CopiesAreSelectedSentAndAged_17 :
    (Ready (wPlane [] (fun q => { q with queues := [(40, [wCopy])], desc := [(9, wDesc)] }) : State) (wReq 40 [1] : Req) roleSite) ∧ (FullService (wPlane [] (fun q => { q with queues := [(40, [wCopy])], desc := [(9, wDesc)] }) : State)) ∧ ((wReq 40 [1] : Req).inst.toNat < 32768) ∧ ((wReq 40 [1] : Req).data = [1]) ∧ ((∀ c ∈ (wPlane [] (fun q => { q with queues := [(40, [wCopy])], desc := [(9, wDesc)] }) : State).pa.queue (wReq 40 [1] : Req).inst.toNat ++ (wPlane [] (fun q => { q with queues := [(40, [wCopy])], desc := [(9, wDesc)] }) : State).pb.queue (wReq 40 [1] : Req).inst.toNat, c.queue = (wReq 40 [1] : Req).inst.toNat ∧ c.port < 146)) ∧ ((∀ c ∈ (wPlane [] (fun q => { q with queues := [(40, [wCopy])], desc := [(9, wDesc)] }) : State).pa.queue (wReq 40 [1] : Req).inst.toNat, (wPlane [] (fun q => { q with queues := [(40, [wCopy])], desc := [(9, wDesc)] }) : State).pa.inTransmission c = false)) ∧ ((∀ c ∈ (wPlane [] (fun q => { q with queues := [(40, [wCopy])], desc := [(9, wDesc)] }) : State).pb.queue (wReq 40 [1] : Req).inst.toNat, (wPlane [] (fun q => { q with queues := [(40, [wCopy])], desc := [(9, wDesc)] }) : State).pb.inTransmission c = false)) := by decide

theorem witness_CopiesAreSelectedSentAndAged_18 :
    (Ready (wUp [] : State) (wReq 32767 [1] : Req) roleSite) ∧ (FullService (wUp [] : State)) ∧ ((wReq 32767 [1] : Req).inst.toNat < 32768) ∧ ((wReq 32767 [1] : Req).data = [1]) ∧ ((wUp [] : State).pa.queue (wReq 32767 [1] : Req).inst.toNat = []) ∧ ((wUp [] : State).pb.queue (wReq 32767 [1] : Req).inst.toNat = []) := by decide

theorem witness_ControllerBuffersHaveOneHolder_1 :
    ((wBuf [(65536, ⟨3, true, true, [], none⟩)] : State).runs (0 : CtlNo).val = true) ∧ ((wBuf [(65536, ⟨3, true, true, [], none⟩)] : State).bufAt (0 : CtlNo).val wAddr.toNat = some (some (65536 : Nat))) ∧ (Tab.find? (wBuf [(65536, ⟨3, true, true, [], none⟩)] : State).bufs (65536 : Nat) = some (⟨3, true, true, [], none⟩ : Buffer)) ∧ ((⟨3, true, true, [], none⟩ : Buffer).held = true) ∧ ((⟨3, true, true, [], none⟩ : Buffer).holder = (3 : Fin 20).val) := by decide

theorem witness_ControllerBuffersHaveOneHolder_2 :
    ((wBuf [] : State).runs (0 : CtlNo).val = true) ∧ ((wBuf [] : State).bufAt (0 : CtlNo).val (0xFFFFFFFFFF : BitVec 64).toNat = none) := by decide

theorem witness_ControllerBuffersHaveOneHolder_3 :
    ((wBuf [] : State).runs (0 : CtlNo).val = true) ∧ ((wBuf [] : State).bufAt (0 : CtlNo).val (wAddr + 1 : BitVec 64).toNat = some none) := by decide

theorem witness_ControllerBuffersHaveOneHolder_4 :
    ((wBuf [] : State).runs (0 : CtlNo).val = true) ∧ ((wBuf [] : State).bufAt (0 : CtlNo).val wAddr.toNat = some (some (65536 : Nat))) ∧ ((Tab.find? (wBuf [] : State).bufs (65536 : Nat)).all (fun b => !b.held) = true) := by decide

theorem witness_ControllerBuffersHaveOneHolder_5 :
    ((wBuf [(65536, ⟨3, true, false, [], none⟩)] : State).runs (0 : CtlNo).val = true) ∧ ((wBuf [(65536, ⟨3, true, false, [], none⟩)] : State).bufAt (0 : CtlNo).val wAddr.toNat = some (some (65536 : Nat))) ∧ (Tab.find? (wBuf [(65536, ⟨3, true, false, [], none⟩)] : State).bufs (65536 : Nat) = some (⟨3, true, false, [], none⟩ : Buffer)) ∧ ((⟨3, true, false, [], none⟩ : Buffer).held = true) ∧ ((⟨3, true, false, [], none⟩ : Buffer).holder ≠ (19 : Fin 20).val) := by decide

theorem witness_ControllerBuffersHaveOneHolder_6 :
    ((wUp [(0x0301, 1, 1)] : State).runs (1 : CtlNo).val = false) := by decide

theorem witness_ControllerBuffersHaveOneHolder_7 :
    ((wBuf [(65536, ⟨3, true, false, [], none⟩)] : State).runs (0 : CtlNo).val = true) ∧ ((wBuf [(65536, ⟨3, true, false, [], none⟩)] : State).bufAt (0 : CtlNo).val wAddr.toNat = some (some (65536 : Nat))) ∧ (Tab.find? (wBuf [(65536, ⟨3, true, false, [], none⟩)] : State).bufs (65536 : Nat) = some (⟨3, true, false, [], none⟩ : Buffer)) ∧ ((⟨3, true, false, [], none⟩ : Buffer).holder = (3 : Fin 20).val) ∧ ((⟨3, true, false, [], none⟩ : Buffer).held = true) := by decide

theorem witness_ControllerBuffersHaveOneHolder_8 :
    ((wBuf [(65536, ⟨3, true, false, [], none⟩)] : State).runs (0 : CtlNo).val = true) ∧ ((wBuf [(65536, ⟨3, true, false, [], none⟩)] : State).bufAt (0 : CtlNo).val wAddr.toNat = some (some (65536 : Nat))) ∧ ((Tab.find? (wBuf [(65536, ⟨3, true, false, [], none⟩)] : State).bufs (65536 : Nat)).all (fun b => b.holder != (4 : Fin 20).val || !b.held) = true) := by decide

theorem witness_ControllerBuffersHaveOneHolder_9 :
    ((wBuf [] : State).runs (0 : CtlNo).val = true) ∧ ((wBuf [] : State).bufAt (0 : CtlNo).val (wAddr + 1 : BitVec 64).toNat = none ∨ (wBuf [] : State).bufAt (0 : CtlNo).val (wAddr + 1 : BitVec 64).toNat = some none) := by decide

theorem witness_ControllerBuffersHaveOneHolder_10 :
    ((wUp [(0x0301, 1, 1)] : State).runs (1 : CtlNo).val = false) := by decide

theorem witness_LearningMovesAgesAndRepairs_1 :
    (takeReady ((wPlane [] (fun q => { q with learnQ := [{ wLearn with ready := false }] }) : State).pl (0 : PlaneNo).val).learnQ = none) := by decide

theorem witness_LearningMovesAgesAndRepairs_2 :
    ((wPlane [(0x2826, 0, 3), (0x2827, 0, 0)] (fun q => { q with learnQ := [wLearn] }) : State).loadingPlane (0 : PlaneNo).val = true) := by decide

theorem witness_LearningMovesAgesAndRepairs_3 :
    ((wPlane [] (fun q => { q with learnQ := [wLearn] }) : State).loadingPlane (0 : PlaneNo).val = false) ∧ (takeReady ((wPlane [] (fun q => { q with learnQ := [wLearn] }) : State).pl (0 : PlaneNo).val).learnQ = some (wLearn, ([] : List LearnReq))) ∧ (findEntry ((wPlane [] (fun q => { q with learnQ := [wLearn] }) : State).pl (0 : PlaneNo).val).store 1 wLearn.tenant (macKey wLearn.fid wLearn.mac) = none) ∧ ((wPlane [] (fun q => { q with learnQ := [wLearn] }) : State).learnLimited (0 : PlaneNo).val wLearn.port wLearn.tenant = false) := by decide

theorem witness_LearningMovesAgesAndRepairs_4 :
    ((wPlane [] (fun q => { q with learnQ := [wLearn] }) : State).loadingPlane (0 : PlaneNo).val = false) ∧ (takeReady ((wPlane [] (fun q => { q with learnQ := [wLearn] }) : State).pl (0 : PlaneNo).val).learnQ = some (wLearn, ([] : List LearnReq))) ∧ (findEntry ((wPlane [] (fun q => { q with learnQ := [wLearn] }) : State).pl (0 : PlaneNo).val).store 1 wLearn.tenant (macKey wLearn.fid wLearn.mac) = none) ∧ ((wPlane [] (fun q => { q with learnQ := [wLearn] }) : State).learnLimited (0 : PlaneNo).val wLearn.port wLearn.tenant = false) ∧ (freePlaces ((wPlane [] (fun q => { q with learnQ := [wLearn] }) : State).pl (0 : PlaneNo).val).store (buckets (wPlane [] (fun q => { q with learnQ := [wLearn] }) : State).seed 1 wLearn.tenant (macKey wLearn.fid wLearn.mac)).1 1 ≠ []) := by decide +kernel

theorem witness_LearningMovesAgesAndRepairs_5 :
    ((wPlane [(0x140A, 2, 1)] (fun q => { q with learnQ := [wLearn], store := [(5, { wLearned with key := 1 })] }) : State).loadingPlane (0 : PlaneNo).val = false) ∧ (takeReady ((wPlane [(0x140A, 2, 1)] (fun q => { q with learnQ := [wLearn], store := [(5, { wLearned with key := 1 })] }) : State).pl (0 : PlaneNo).val).learnQ = some (wLearn, ([] : List LearnReq))) ∧ (findEntry ((wPlane [(0x140A, 2, 1)] (fun q => { q with learnQ := [wLearn], store := [(5, { wLearned with key := 1 })] }) : State).pl (0 : PlaneNo).val).store 1 wLearn.tenant (macKey wLearn.fid wLearn.mac) = none) ∧ ((wPlane [(0x140A, 2, 1)] (fun q => { q with learnQ := [wLearn], store := [(5, { wLearned with key := 1 })] }) : State).learnLimited (0 : PlaneNo).val wLearn.port wLearn.tenant = true) := by decide

theorem witness_LearningMovesAgesAndRepairs_6 :
    ((wPlane [] (fun q => { q with learnQ := [wLearn], store := [(5, wLearned)] }) : State).loadingPlane (0 : PlaneNo).val = false) ∧ (takeReady ((wPlane [] (fun q => { q with learnQ := [wLearn], store := [(5, wLearned)] }) : State).pl (0 : PlaneNo).val).learnQ = some (wLearn, ([] : List LearnReq))) ∧ (findEntry ((wPlane [] (fun q => { q with learnQ := [wLearn], store := [(5, wLearned)] }) : State).pl (0 : PlaneNo).val).store 1 wLearn.tenant (macKey wLearn.fid wLearn.mac) = some ((5 : Nat), wLearned)) ∧ (resRoute wLearned.result = false) ∧ (wLearned.onPort wLearn.port = false) ∧ (wLearned.learned = true) ∧ (wLearned.frozen = false) ∧ (((wLearned.moves.filter (fun x => decide ((wPlane [] (fun q => { q with learnQ := [wLearn], store := [(5, wLearned)] }) : State).tickRC (0 : Nat) < x + 400000000))).length + 1 ≤ (wPlane [] (fun q => { q with learnQ := [wLearn], store := [(5, wLearned)] }) : State).rd 0x140D 0)) := by decide

theorem witness_LearningMovesAgesAndRepairs_7 :
    ((wPlane [(0x140D, 0, 0)] (fun q => { q with learnQ := [wLearn], store := [(5, wLearned)] }) : State).loadingPlane (0 : PlaneNo).val = false) ∧ (takeReady ((wPlane [(0x140D, 0, 0)] (fun q => { q with learnQ := [wLearn], store := [(5, wLearned)] }) : State).pl (0 : PlaneNo).val).learnQ = some (wLearn, ([] : List LearnReq))) ∧ (findEntry ((wPlane [(0x140D, 0, 0)] (fun q => { q with learnQ := [wLearn], store := [(5, wLearned)] }) : State).pl (0 : PlaneNo).val).store 1 wLearn.tenant (macKey wLearn.fid wLearn.mac) = some ((5 : Nat), wLearned)) ∧ (resRoute wLearned.result = false) ∧ (wLearned.onPort wLearn.port = false) ∧ (wLearned.learned = true) ∧ (wLearned.frozen = false) ∧ (((wPlane [(0x140D, 0, 0)] (fun q => { q with learnQ := [wLearn], store := [(5, wLearned)] }) : State).rd 0x140D 0 < (wLearned.moves.filter (fun x => decide ((wPlane [(0x140D, 0, 0)] (fun q => { q with learnQ := [wLearn], store := [(5, wLearned)] }) : State).tickRC (0 : Nat) < x + 400000000))).length + 1)) := by decide

theorem witness_LearningMovesAgesAndRepairs_8 :
    ((wPlane [] (fun q => { q with learnQ := [wLearn], store := [(5, wFrozen)] }) : State).loadingPlane (0 : PlaneNo).val = false) ∧ (takeReady ((wPlane [] (fun q => { q with learnQ := [wLearn], store := [(5, wFrozen)] }) : State).pl (0 : PlaneNo).val).learnQ = some (wLearn, ([] : List LearnReq))) ∧ (findEntry ((wPlane [] (fun q => { q with learnQ := [wLearn], store := [(5, wFrozen)] }) : State).pl (0 : PlaneNo).val).store 1 wLearn.tenant (macKey wLearn.fid wLearn.mac) = some ((5 : Nat), wFrozen)) ∧ (resRoute wFrozen.result = true ∨ wFrozen.onPort wLearn.port = true ∨ wFrozen.learned = false ∨ wFrozen.frozen = true) := by decide

theorem witness_LearningMovesAgesAndRepairs_9 :
    (Tab.find? ((wRunning (wPlane [] (fun q => { q with store := [(1048575, wFrozen)] })) : State).pl (0 : PlaneNo).val).store (1048575 : Fin 1048576).val = some wFrozen) ∧ (wFrozen.frozen = true) ∧ (wFrozen.frozenUntil ≤ (wRunning (wPlane [] (fun q => { q with store := [(1048575, wFrozen)] })) : State).tickRC (400 : Nat)) := by decide

theorem witness_LearningMovesAgesAndRepairs_10 :
    ((Tab.find? ((wPlane [] (fun q => { q with store := [(0, wFrozenL)] }) : State).pl (0 : PlaneNo).val).store (0 : Fin 1048576).val).all (fun e => !e.frozen || decide ((wPlane [] (fun q => { q with store := [(0, wFrozenL)] }) : State).tickRC (0 : Nat) < e.frozenUntil)) = true) := by decide

theorem witness_LearningMovesAgesAndRepairs_11 :
    ((State.reset : State).isOn (1 : PlaneNo).val = false ∨ (State.reset : State).loadingPlane (1 : PlaneNo).val = true) := by decide

theorem witness_LearningMovesAgesAndRepairs_13 :
    ((wPlane [(0x141A, 0, 1048575)] id : State).isOn (0 : PlaneNo).val = true) ∧ ((wPlane [(0x141A, 0, 1048575)] id : State).loadingPlane (0 : PlaneNo).val = false) ∧ ((wPlane [(0x141A, 0, 1048575)] id : State).rd 0x141A (0 : PlaneNo).val = (1048575 : Nat)) ∧ ((Tab.find? ((wPlane [(0x141A, 0, 1048575)] id : State).pl (0 : PlaneNo).val).store (1048575 : Nat)).all (fun e => !e.learned || e.static || !(wPlane [(0x141A, 0, 1048575)] id : State).flag 0x140C e.tenant || !((if (1048575 : Nat) = 0 then ((wPlane [(0x141A, 0, 1048575)] id : State).tick (0 : Nat)).sweepStart (0 : PlaneNo).val else (wPlane [(0x141A, 0, 1048575)] id : State).tick (0 : Nat)).pl (0 : PlaneNo).val).sweepTests.contains e.tenant) = true) := by decide

theorem witness_LearningMovesAgesAndRepairs_14 :
    ((wPlane [(0x141A, 0, 1048574), (0x140C, 2, 1)] (fun q => { q with store := [(1048574, wLearned)], sweepTests := [2] }) : State).isOn (0 : PlaneNo).val = true) ∧ ((wPlane [(0x141A, 0, 1048574), (0x140C, 2, 1)] (fun q => { q with store := [(1048574, wLearned)], sweepTests := [2] }) : State).loadingPlane (0 : PlaneNo).val = false) ∧ ((wPlane [(0x141A, 0, 1048574), (0x140C, 2, 1)] (fun q => { q with store := [(1048574, wLearned)], sweepTests := [2] }) : State).rd 0x141A (0 : PlaneNo).val = (1048574 : Nat)) ∧ (Tab.find? ((wPlane [(0x141A, 0, 1048574), (0x140C, 2, 1)] (fun q => { q with store := [(1048574, wLearned)], sweepTests := [2] }) : State).pl (0 : PlaneNo).val).store (1048574 : Nat) = some wLearned) ∧ (wLearned.learned = true) ∧ (wLearned.static = false) ∧ ((wPlane [(0x141A, 0, 1048574), (0x140C, 2, 1)] (fun q => { q with store := [(1048574, wLearned)], sweepTests := [2] }) : State).flag 0x140C wLearned.tenant = true) ∧ (wLearned.tenant ∈ ((if (1048574 : Nat) = 0 then ((wPlane [(0x141A, 0, 1048574), (0x140C, 2, 1)] (fun q => { q with store := [(1048574, wLearned)], sweepTests := [2] }) : State).tick (0 : Nat)).sweepStart (0 : PlaneNo).val else (wPlane [(0x141A, 0, 1048574), (0x140C, 2, 1)] (fun q => { q with store := [(1048574, wLearned)], sweepTests := [2] }) : State).tick (0 : Nat)).pl (0 : PlaneNo).val).sweepTests) ∧ (wLearned.activity = true) := by decide

theorem witness_LearningMovesAgesAndRepairs_15 :
    ((wPlane [(0x141A, 0, 0), (0x140C, 2, 1), (0x140B, 2, 0)] (fun q => { q with store := [(0, wIdle)] }) : State).isOn (0 : PlaneNo).val = true) ∧ ((wPlane [(0x141A, 0, 0), (0x140C, 2, 1), (0x140B, 2, 0)] (fun q => { q with store := [(0, wIdle)] }) : State).loadingPlane (0 : PlaneNo).val = false) ∧ ((wPlane [(0x141A, 0, 0), (0x140C, 2, 1), (0x140B, 2, 0)] (fun q => { q with store := [(0, wIdle)] }) : State).rd 0x141A (0 : PlaneNo).val = (0 : Nat)) ∧ (Tab.find? ((wPlane [(0x141A, 0, 0), (0x140C, 2, 1), (0x140B, 2, 0)] (fun q => { q with store := [(0, wIdle)] }) : State).pl (0 : PlaneNo).val).store (0 : Nat) = some wIdle) ∧ (wIdle.learned = true) ∧ (wIdle.static = false) ∧ ((wPlane [(0x141A, 0, 0), (0x140C, 2, 1), (0x140B, 2, 0)] (fun q => { q with store := [(0, wIdle)] }) : State).flag 0x140C wIdle.tenant = true) ∧ (wIdle.tenant ∈ ((if (0 : Nat) = 0 then ((wPlane [(0x141A, 0, 0), (0x140C, 2, 1), (0x140B, 2, 0)] (fun q => { q with store := [(0, wIdle)] }) : State).tick (0 : Nat)).sweepStart (0 : PlaneNo).val else (wPlane [(0x141A, 0, 0), (0x140C, 2, 1), (0x140B, 2, 0)] (fun q => { q with store := [(0, wIdle)] }) : State).tick (0 : Nat)).pl (0 : PlaneNo).val).sweepTests) ∧ (wIdle.activity = false) := by decide

theorem witness_LearningMovesAgesAndRepairs_16 :
    (entryAt ((wUp [] : State).pl (1 : PlaneNo).val).store (1048575 : Fin 1048576).val = none) := by decide

theorem witness_LearningMovesAgesAndRepairs_17 :
    (entryAt ((wPlane [] (fun q => { q with store := [(5, wLearned)] }) : State).pl (0 : PlaneNo).val).store (5 : Fin 1048576).val = some ((5 : Nat), wLearned)) ∧ (wLearned.learned = true) := by decide

theorem witness_LearningMovesAgesAndRepairs_18 :
    (entryAt (({ wPlane [] (fun q => { q with store := [(4, wHost)] }) with hostTab := [(hostKey wHost.ktype wHost.tenant wHost.key, (7, true))] } : State).pl (0 : PlaneNo).val).store (4 : Fin 1048576).val = some ((4 : Nat), wHost)) ∧ (wHost.learned = false) ∧ (({ wPlane [] (fun q => { q with store := [(4, wHost)] }) with hostTab := [(hostKey wHost.ktype wHost.tenant wHost.key, (7, true))] } : State).holder = some (0 : Nat)) ∧ (Tab.find? ({ wPlane [] (fun q => { q with store := [(4, wHost)] }) with hostTab := [(hostKey wHost.ktype wHost.tenant wHost.key, (7, true))] } : State).hostTab (hostKey wHost.ktype wHost.tenant wHost.key) = some ((7 : Nat), (true : Bool))) := by decide

theorem witness_LearningMovesAgesAndRepairs_19 :
    (Tab.find? ({ wUp [] with sustain := [(98 * 2 ^ 32 + 1, (0, 1000))] } : State).sustain (98 * 2 ^ 32 + (1 : PlaneNo).val) = some ((0 : Nat), (1000 : Nat))) ∧ (1000 ≤ (1000 : Nat)) ∧ ((1000 : Nat) < raisedRun) ∧ (({ wUp [] with sustain := [(98 * 2 ^ 32 + 1, (0, 1000))] } : State).tickRC (0 : Nat) / 400000 ≤ (0 : Nat) + 1) := by decide

theorem witness_LearningMovesAgesAndRepairs_20 :
    ((Tab.find? ({ wUp [] with sustain := [(98 * 2 ^ 32 + 1, (0, 999))] } : State).sustain (98 * 2 ^ 32 + (1 : PlaneNo).val)).all (fun x => decide (x.2 < 1000 ∨ raisedRun ≤ x.2 ∨ x.1 + 1 < ({ wUp [] with sustain := [(98 * 2 ^ 32 + 1, (0, 999))] } : State).tickRC (0 : Nat) / 400000)) = true) := by decide

theorem witness_LearningMovesAgesAndRepairs_21 :
    (Tab.find? ({ wUp [] with sustain := [(100 * 2 ^ 32, (0, 1000))] } : State).sustain (100 * 2 ^ 32 + (0 : PlaneNo).val) = some ((0 : Nat), (1000 : Nat))) ∧ (1000 ≤ (1000 : Nat)) ∧ ((1000 : Nat) < raisedRun) ∧ (({ wUp [] with sustain := [(100 * 2 ^ 32, (0, 1000))] } : State).tickRC (0 : Nat) / 400000 ≤ (0 : Nat) + 1) := by decide

theorem witness_LearningMovesAgesAndRepairs_22 :
    ((Tab.find? (wUp [] : State).sustain (100 * 2 ^ 32 + (0 : PlaneNo).val)).all (fun x => decide (x.2 < 1000 ∨ raisedRun ≤ x.2 ∨ x.1 + 1 < (wUp [] : State).tickRC (0 : Nat) / 400000)) = true) := by decide

theorem witness_TableRequestsActInEveryPlaneInService_1 :
    (Ready (wPlane [] (fun q => { q with store := [(5, wHost)] }) : State) (wReq 1 (wRec 1 0) : Req) roleSite) ∧ (FullService (wPlane [] (fun q => { q with store := [(5, wHost)] }) : State)) ∧ ((wReq 1 (wRec 1 0) : Req).inst.toNat ≤ 2) ∧ ((wReq 1 (wRec 1 0) : Req).data.length = 48) ∧ (readRecord (wReq 1 (wRec 1 0) : Req).data = (readRecord (wRec 1 0) : Record)) ∧ (keyOk (readRecord (wRec 1 0) : Record).ktype (readRecord (wRec 1 0) : Record).key = true) ∧ ((readRecord (wRec 1 0) : Record).tenant < 16) ∧ ((entryRecord 0 5 wHost : List Byte) = ((selected (wReq 1 (wRec 1 0) : Req).inst.toNat).filter (fun p => (wPlane [] (fun q => { q with store := [(5, wHost)] }) : State).inService.contains p)).flatMap (fun p => match findEntry ((wPlane [] (fun q => { q with store := [(5, wHost)] }) : State).pl p).store (readRecord (wRec 1 0) : Record).ktype (readRecord (wRec 1 0) : Record).tenant (readRecord (wRec 1 0) : Record).key with | some (k, e) => entryRecord p k e | none => [])) := by decide

theorem witness_TableRequestsActInEveryPlaneInService_2 :
    (Ready (wPlane [] (fun q => { q with store := [(5, wHost), (9, wLearned)] }) : State) (wReq 2 [0, 0, 0, 0, 0, 0xFF, 0, 0] : Req) roleSite) ∧ (FullService (wPlane [] (fun q => { q with store := [(5, wHost), (9, wLearned)] }) : State)) ∧ ((wReq 2 [0, 0, 0, 0, 0, 0xFF, 0, 0] : Req).inst.toNat ≤ 2) ∧ (filterOk (wReq 2 [0, 0, 0, 0, 0, 0xFF, 0, 0] : Req).data = true) := by decide

theorem witness_TableRequestsActInEveryPlaneInService_3 :
    (Ready (wPlane [] (fun q => { q with store := [(5, wHost), (9, wLearned)] }) : State) (wReq 1 [0, 0, 0, 0, 0, 0xFF, 0, 0] : Req) roleSite) ∧ (FullService (wPlane [] (fun q => { q with store := [(5, wHost), (9, wLearned)] }) : State)) ∧ ((wReq 1 [0, 0, 0, 0, 0, 0xFF, 0, 0] : Req).inst.toNat = 1) ∧ ((wPlane [] (fun q => { q with store := [(5, wHost), (9, wLearned)] }) : State).inService = [0, 1]) ∧ ((wPlane [] (fun q => { q with store := [(5, wHost), (9, wLearned)] }) : State).pa.store.length ≤ 80) ∧ ((wReq 1 [0, 0, 0, 0, 0, 0xFF, 0, 0] : Req).data = [0, 0, 0, 0, 0, 0xFF, 0, 0]) := by decide

theorem witness_TableRequestsActInEveryPlaneInService_4 :
    (Ready (wUp [] : State) (wReq 2 [0, 0, 0, 9, 0, 0xFF, 0, 0] : Req) roleSite) ∧ (FullService (wUp [] : State)) ∧ ((wReq 2 [0, 0, 0, 9, 0, 0xFF, 0, 0] : Req).inst.toNat ≤ 2) ∧ (filterOk (wReq 2 [0, 0, 0, 9, 0, 0xFF, 0, 0] : Req).data = true) ∧ (getBE (wReq 2 [0, 0, 0, 9, 0, 0xFF, 0, 0] : Req).data 0 4 ≠ 0) ∧ (getBE (wReq 2 [0, 0, 0, 9, 0, 0xFF, 0, 0] : Req).data 0 4 ≠ (wUp [] : State).rd 0x1440 (wReq 2 [0, 0, 0, 9, 0, 0xFF, 0, 0] : Req).sess.val) := by decide

theorem witness_TableRequestsActInEveryPlaneInService_5 :
    (Ready (wUp [] : State) (wReq 0 (wRec 0 128) : Req) roleSite) ∧ (FullService (wUp [] : State)) ∧ ((wReq 0 (wRec 0 128) : Req).data.length = 48) := by decide

theorem witness_TableRequestsActInEveryPlaneInService_6 :
    (Ready (wUp [] : State) (wReq 0 (wRec 1 192) : Req) roleSite) ∧ (FullService (wUp [] : State)) ∧ ((wReq 0 (wRec 1 192) : Req).data.length = 48) ∧ (readRecord (wReq 0 (wRec 1 192) : Req).data = (readRecord (wRec 1 192) : Record)) ∧ ((readRecord (wRec 1 192) : Record).insertable = true) ∧ ((wUp [] : State).inService = [0, 1]) ∧ ((readRecord (wRec 1 192) : Record).ktype ≠ 2) ∧ ((readRecord (wRec 1 192) : Record).ktype ≠ 3) ∧ (findEntry (wUp [] : State).pa.store (readRecord (wRec 1 192) : Record).ktype (readRecord (wRec 1 192) : Record).tenant (readRecord (wRec 1 192) : Record).key = none) ∧ (findEntry (wUp [] : State).pb.store (readRecord (wRec 1 192) : Record).ktype (readRecord (wRec 1 192) : Record).tenant (readRecord (wRec 1 192) : Record).key = none) ∧ (freePlaces (wUp [] : State).pa.store (buckets (wUp [] : State).seed (readRecord (wRec 1 192) : Record).ktype (readRecord (wRec 1 192) : Record).tenant (readRecord (wRec 1 192) : Record).key).1 (slotsOf (readRecord (wRec 1 192) : Record).ktype) ≠ []) ∧ (freePlaces (wUp [] : State).pb.store (buckets (wUp [] : State).seed (readRecord (wRec 1 192) : Record).ktype (readRecord (wRec 1 192) : Record).tenant (readRecord (wRec 1 192) : Record).key).1 (slotsOf (readRecord (wRec 1 192) : Record).ktype) ≠ []) := by decide +kernel

theorem witness_TableRequestsActInEveryPlaneInService_7 :
    (Ready (wUp [(0x281F, 0, 0), (0x281F, 1, 0)] : State) (wReq 0 (wRec 1 128) : Req) roleSite) ∧ (FullService (wUp [(0x281F, 0, 0), (0x281F, 1, 0)] : State)) ∧ ((wReq 0 (wRec 1 128) : Req).data.length = 48) ∧ ((wUp [(0x281F, 0, 0), (0x281F, 1, 0)] : State).inService = []) ∧ ((readRecord (wReq 0 (wRec 1 128) : Req).data).insertable = true) := by decide

theorem witness_TableRequestsActInEveryPlaneInService_8 :
    (Ready (wUp [] : State) (wReq 0 (wRec 0 128) : Req) roleSite) ∧ (FullService (wUp [] : State)) ∧ ((wReq 0 (wRec 0 128) : Req).data.length = 48) ∧ ((readRecord (wReq 0 (wRec 0 128) : Req).data).insertable = false) := by decide

theorem witness_TableRequestsActInEveryPlaneInService_9 :
    (Ready (wPlane [] (fun q => { q with store := [(5, wHost)] }) : State) (wReq 0 (wRec 1 0) : Req) roleSite) ∧ (FullService (wPlane [] (fun q => { q with store := [(5, wHost)] }) : State)) ∧ ((wReq 0 (wRec 1 0) : Req).data.length = 48) ∧ (readRecord (wReq 0 (wRec 1 0) : Req).data = (readRecord (wRec 1 0) : Record)) ∧ (keyOk (readRecord (wRec 1 0) : Record).ktype (readRecord (wRec 1 0) : Record).key = true) ∧ ((readRecord (wRec 1 0) : Record).tenant < 16) ∧ ((wPlane [] (fun q => { q with store := [(5, wHost)] }) : State).inService = [0, 1]) ∧ (findEntry (wPlane [] (fun q => { q with store := [(5, wHost)] }) : State).pa.store (readRecord (wRec 1 0) : Record).ktype (readRecord (wRec 1 0) : Record).tenant (readRecord (wRec 1 0) : Record).key = some ((5 : Nat), wHost)) ∧ (findEntry (wPlane [] (fun q => { q with store := [(5, wHost)] }) : State).pb.store (readRecord (wRec 1 0) : Record).ktype (readRecord (wRec 1 0) : Record).tenant (readRecord (wRec 1 0) : Record).key = none) := by decide

theorem witness_TableRequestsActInEveryPlaneInService_10 :
    (Ready (wUp [] : State) (wReq 0 (wRec 1 0) : Req) roleSite) ∧ (FullService (wUp [] : State)) ∧ ((wReq 0 (wRec 1 0) : Req).data.length = 48) ∧ (readRecord (wReq 0 (wRec 1 0) : Req).data = (readRecord (wRec 1 0) : Record)) ∧ (keyOk (readRecord (wRec 1 0) : Record).ktype (readRecord (wRec 1 0) : Record).key = true) ∧ ((readRecord (wRec 1 0) : Record).tenant < 16) ∧ ((wUp [] : State).inService ≠ []) := by decide

theorem witness_TableRequestsActInEveryPlaneInService_11 :
    (Ready (wUp [(0x281F, 0, 0), (0x281F, 1, 0)] : State) (wReq 0 (wRec 1 0) : Req) roleSite) ∧ (FullService (wUp [(0x281F, 0, 0), (0x281F, 1, 0)] : State)) ∧ ((wReq 0 (wRec 1 0) : Req).data.length = 48) ∧ (readRecord (wReq 0 (wRec 1 0) : Req).data = (readRecord (wRec 1 0) : Record)) ∧ (keyOk (readRecord (wRec 1 0) : Record).ktype (readRecord (wRec 1 0) : Record).key = true) ∧ ((readRecord (wRec 1 0) : Record).tenant < 16) ∧ ((wUp [(0x281F, 0, 0), (0x281F, 1, 0)] : State).inService = []) := by decide

theorem witness_TableRequestsActInEveryPlaneInService_12 :
    (Ready ({ wUp [] with flushes := [⟨⟨1, 3, 7⟩, 3, 0, 0, 0⟩] } : State) (wReq 0 [143, 3, 0x0F, 0xFF, 15, 0, 0, 0] : Req) roleSite) ∧ (FullService ({ wUp [] with flushes := [⟨⟨1, 3, 7⟩, 3, 0, 0, 0⟩] } : State)) ∧ (({ wUp [] with flushes := [⟨⟨1, 3, 7⟩, 3, 0, 0, 0⟩] } : State).inService ≠ []) ∧ ((∀ f ∈ ({ wUp [] with flushes := [⟨⟨1, 3, 7⟩, 3, 0, 0, 0⟩] } : State).flushes, f.who.key ≠ Req.key (wReq 0 [143, 3, 0x0F, 0xFF, 15, 0, 0, 0] : Req))) ∧ ((wReq 0 [143, 3, 0x0F, 0xFF, 15, 0, 0, 0] : Req).data = toBytes 1 (143 : Fin 144).val ++ toBytes 1 (3 : Fin 4).val ++ toBytes 2 (0xFFF#12 : BitVec 12).toNat ++ toBytes 1 (15 : Fin 16).val ++ [0, 0, 0]) := by decide

theorem witness_TableRequestsActInEveryPlaneInService_13 :
    (({ wUp [] with flushes := [wFlush], issued := 1, sessions := [(0, { wSessA 0x14 with requests := [wReqS] })] } : State).holder = some (wReq 0 [143, 0, 0, 0, 15, 0, 0, 0] : Req).ctl.val) ∧ (({ wUp [] with flushes := [wFlush], issued := 1, sessions := [(0, { wSessA 0x14 with requests := [wReqS] })] } : State).ctlState (wReq 0 [143, 0, 0, 0, 15, 0, 0, 0] : Req).ctl.val = 5) ∧ ((({ wUp [] with flushes := [wFlush], issued := 1, sessions := [(0, { wSessA 0x14 with requests := [wReqS] })] } : State).ctl (wReq 0 [143, 0, 0, 0, 15, 0, 0, 0] : Req).ctl.val).beats = true) ∧ (({ wUp [] with flushes := [wFlush], issued := 1, sessions := [(0, { wSessA 0x14 with requests := [wReqS] })] } : State).swap = none) ∧ (({ wUp [] with flushes := [wFlush], issued := 1, sessions := [(0, { wSessA 0x14 with requests := [wReqS] })] } : State).committing = none) ∧ (({ wUp [] with flushes := [wFlush], issued := 1, sessions := [(0, { wSessA 0x14 with requests := [wReqS] })] } : State).owed = []) ∧ (FullService ({ wUp [] with flushes := [wFlush], issued := 1, sessions := [(0, { wSessA 0x14 with requests := [wReqS] })] } : State)) ∧ (({ wUp [] with flushes := [wFlush], issued := 1, sessions := [(0, { wSessA 0x14 with requests := [wReqS] })] } : State).sessions = [(Req.key (wReq 0 [143, 0, 0, 0, 15, 0, 0, 0] : Req), ({ wSessA 0x14 with requests := [wReqS] } : Session))]) ∧ (({ wSessA 0x14 with requests := [wReqS] } : Session).isOpen = true) ∧ (({ wSessA 0x14 with requests := [wReqS] } : Session).role = roleSite) ∧ (({ wSessA 0x14 with requests := [wReqS] } : Session).enrol = .no) ∧ (({ wSessA 0x14 with requests := [wReqS] } : Session).skip.contains (wReq 0 [143, 0, 0, 0, 15, 0, 0, 0] : Req).tag.toNat = false) ∧ (({ wSessA 0x14 with requests := [wReqS] } : Session).requests = [wReqS]) ∧ (wReqS.background = true) ∧ (wReqS.started = true) ∧ (wReqS.tag ≠ (wReq 0 [143, 0, 0, 0, 15, 0, 0, 0] : Req).tag.toNat) ∧ (wReqS.order < ({ wUp [] with flushes := [wFlush], issued := 1, sessions := [(0, { wSessA 0x14 with requests := [wReqS] })] } : State).issued) ∧ ((wReq 0 [143, 0, 0, 0, 15, 0, 0, 0] : Req).fence = false) ∧ (({ wUp [] with flushes := [wFlush], issued := 1, sessions := [(0, { wSessA 0x14 with requests := [wReqS] })] } : State).inService ≠ []) ∧ (wFlush ∈ ({ wUp [] with flushes := [wFlush], issued := 1, sessions := [(0, { wSessA 0x14 with requests := [wReqS] })] } : State).flushes) ∧ (wFlush.who.key = Req.key (wReq 0 [143, 0, 0, 0, 15, 0, 0, 0] : Req)) ∧ ((wReq 0 [143, 0, 0, 0, 15, 0, 0, 0] : Req).data = toBytes 1 (143 : Fin 144).val ++ [0, 0, 0] ++ toBytes 1 (15 : Fin 16).val ++ [0, 0, 0]) := by decide

theorem witness_TableRequestsActInEveryPlaneInService_14 :
    (({ wPlane [] (fun q => { q with store := [(5, wHost), (9, wLearned)] }) with flushes := [wFlush], sessions := [(0, wSessA 0x14)] } : State).flushes.find? (fun g => g.who.key == sessionKey (0 : CtlNo) (0 : Fin 4)) = some wFlush) ∧ ((∀ e ∈ ({ wPlane [] (fun q => { q with store := [(5, wHost), (9, wLearned)] }) with flushes := [wFlush], sessions := [(0, wSessA 0x14)] } : State).sessions, ∀ r ∈ e.2.requests, r.started = true)) := by decide

theorem witness_TableRequestsActInEveryPlaneInService_16 :
    (Quiet (wUp [] : State)) ∧ ((∀ f ∈ (wUp [] : State).flushes, f.who.key ≠ sessionKey (1 : CtlNo) (3 : Fin 4))) := by decide

theorem witness_TableRequestsActInEveryPlaneInService_17 :
    (({ wPlane [] (fun q => { q with store := [(5, wHost), (9, wLearned)] }) with flushes := [wFlush], sessions := [(0, wSessA 0x14)] } : State).flushes = [wFlush]) ∧ (wFlush.who = ⟨sessionKey (0 : CtlNo) (0 : Fin 4), (wSessA 0x14 : Session).gen, (wReqA 0x14 : Request).tag⟩) ∧ (({ wPlane [] (fun q => { q with store := [(5, wHost), (9, wLearned)] }) with flushes := [wFlush], sessions := [(0, wSessA 0x14)] } : State).sessions = [(sessionKey (0 : CtlNo) (0 : Fin 4), (wSessA 0x14 : Session))]) ∧ ((wSessA 0x14 : Session).isOpen = true) ∧ ((wSessA 0x14 : Session).requests = [(wReqA 0x14 : Request)]) ∧ ((wReqA 0x14 : Request).accepted = true) ∧ (({ wPlane [] (fun q => { q with store := [(5, wHost), (9, wLearned)] }) with flushes := [wFlush], sessions := [(0, wSessA 0x14)] } : State).owed = []) ∧ (({ wPlane [] (fun q => { q with store := [(5, wHost), (9, wLearned)] }) with flushes := [wFlush], sessions := [(0, wSessA 0x14)] } : State).inService = [0, 1]) := by decide

theorem witness_TableRequestsActInEveryPlaneInService_18 :
    (Ready (wUp [] : State) (wReq 0 [1, 2] : Req) roleSite) ∧ (FullService (wUp [] : State)) ∧ ((wUp [] : State).inService ≠ []) ∧ ((wUp [] : State).bulks = []) ∧ ((wReq 0 [1, 2] : Req).data.length < 48) := by decide

theorem witness_TableRequestsActInEveryPlaneInService_19 :
    (Ready (wUp [] : State) (wReq 0 (wRec 0 128 ++ [1]) : Req) roleSite) ∧ (FullService (wUp [] : State)) ∧ ((wUp [] : State).inService ≠ []) ∧ ((wUp [] : State).bulkBusy (Req.key (wReq 0 (wRec 0 128 ++ [1]) : Req)) = false) ∧ ((⟨⟨0, 0, 7⟩, [], 0, 0, 0, 0, false⟩ : Bulk) = ⟨Req.who (wReq 0 (wRec 0 128 ++ [1]) : Req) (wUp [] : State), [], 0, 0, 0, 0, false⟩) := by decide

theorem witness_TableRequestsActInEveryPlaneInService_20 :
    (({ wUp [] with bulks := [{ wBulk with finished := false }], sessions := [(0, { wSessA 0x15 with requests := [{ wReqA 0x15 with last := false }] })] } : State).holder = some (wReq 0 (wRec 0 128) : Req).ctl.val) ∧ (({ wUp [] with bulks := [{ wBulk with finished := false }], sessions := [(0, { wSessA 0x15 with requests := [{ wReqA 0x15 with last := false }] })] } : State).ctlState (wReq 0 (wRec 0 128) : Req).ctl.val = 5) ∧ ((({ wUp [] with bulks := [{ wBulk with finished := false }], sessions := [(0, { wSessA 0x15 with requests := [{ wReqA 0x15 with last := false }] })] } : State).ctl (wReq 0 (wRec 0 128) : Req).ctl.val).beats = true) ∧ (({ wUp [] with bulks := [{ wBulk with finished := false }], sessions := [(0, { wSessA 0x15 with requests := [{ wReqA 0x15 with last := false }] })] } : State).swap = none) ∧ ((({ wUp [] with bulks := [{ wBulk with finished := false }], sessions := [(0, { wSessA 0x15 with requests := [{ wReqA 0x15 with last := false }] })] } : State).session (Req.key (wReq 0 (wRec 0 128) : Req))).isOpen = true) ∧ ((({ wUp [] with bulks := [{ wBulk with finished := false }], sessions := [(0, { wSessA 0x15 with requests := [{ wReqA 0x15 with last := false }] })] } : State).session (Req.key (wReq 0 (wRec 0 128) : Req))).skip.contains (wReq 0 (wRec 0 128) : Req).tag.toNat = false) ∧ ((({ wUp [] with bulks := [{ wBulk with finished := false }], sessions := [(0, { wSessA 0x15 with requests := [{ wReqA 0x15 with last := false }] })] } : State).session (Req.key (wReq 0 (wRec 0 128) : Req))).request (wReq 0 (wRec 0 128) : Req).tag.toNat = some ({ wReqA 0x15 with last := false } : Request)) ∧ (({ wReqA 0x15 with last := false } : Request).op = 0x15) ∧ (({ wReqA 0x15 with last := false } : Request).last = false) ∧ (({ wReqA 0x15 with last := false } : Request).started = true) ∧ (({ wUp [] with bulks := [{ wBulk with finished := false }], sessions := [(0, { wSessA 0x15 with requests := [{ wReqA 0x15 with last := false }] })] } : State).bulks.find? (fun z_b => z_b.who == Req.who (wReq 0 (wRec 0 128) : Req) ({ wUp [] with bulks := [{ wBulk with finished := false }], sessions := [(0, { wSessA 0x15 with requests := [{ wReqA 0x15 with last := false }] })] } : State)) = some ({ wBulk with finished := false } : Bulk)) := by decide

theorem witness_TableRequestsActInEveryPlaneInService_21 :
    ((wRec 0 192 : List Byte).length = 48) := by decide

theorem witness_TableRequestsActInEveryPlaneInService_22 :
    (Ready ({ wUp [] with bulks := [wBulk] } : State) (wReq 0 [] : Req) roleSite) ∧ (FullService ({ wUp [] with bulks := [wBulk] } : State)) ∧ (({ wUp [] with bulks := [wBulk] } : State).inService ≠ []) ∧ (({ wUp [] with bulks := [wBulk] } : State).bulkBusy (Req.key (wReq 0 [] : Req)) = true) := by decide

theorem witness_TableRequestsActInEveryPlaneInService_23 :
    (({ wUp [] with bulks := [wBulk], sessions := [(0, wSessA 0x15)] } : State).bulks = [wBulk]) ∧ (wBulk.finished = true) ∧ (wBulk.who = ⟨sessionKey (0 : CtlNo) (0 : Fin 4), (wSessA 0x15 : Session).gen, (wReqA 0x15 : Request).tag⟩) ∧ (({ wUp [] with bulks := [wBulk], sessions := [(0, wSessA 0x15)] } : State).sessions = [(sessionKey (0 : CtlNo) (0 : Fin 4), (wSessA 0x15 : Session))]) ∧ ((wSessA 0x15 : Session).isOpen = true) ∧ ((wSessA 0x15 : Session).requests = [(wReqA 0x15 : Request)]) ∧ ((wReqA 0x15 : Request).accepted = true) ∧ (({ wUp [] with bulks := [wBulk], sessions := [(0, wSessA 0x15)] } : State).owed = []) := by decide

theorem witness_TableRequestsActInEveryPlaneInService_24 :
    (Quiet (wUp [] : State)) ∧ ((∀ b ∈ (wUp [] : State).bulks, b.finished = false)) := by decide

theorem witness_TableRequestsActInEveryPlaneInService_25 :
    (Ready (wPlane [] (fun q => { q with store := [(5, wHost), (9, wLearned)] }) : State) (wReq 2 [0, 0, 0, 0, 1, 2, 1, 0] : Req) roleSite) ∧ (FullService (wPlane [] (fun q => { q with store := [(5, wHost), (9, wLearned)] }) : State)) ∧ ((wReq 2 [0, 0, 0, 0, 1, 2, 1, 0] : Req).inst.toNat ≤ 2) ∧ ((wPlane [] (fun q => { q with store := [(5, wHost), (9, wLearned)] }) : State).bulkBusy (Req.key (wReq 2 [0, 0, 0, 0, 1, 2, 1, 0] : Req)) = false) ∧ (filterOk (wReq 2 [0, 0, 0, 0, 1, 2, 1, 0] : Req).data = true) ∧ (([[]] : List (List Byte)) = recordFragments ((wPlane [] (fun q => { q with store := [(5, wHost), (9, wLearned)] }) : State).bulkRecords (wReq 2 [0, 0, 0, 0, 1, 2, 1, 0] : Req).inst.toNat (getBE (wReq 2 [0, 0, 0, 0, 1, 2, 1, 0] : Req).data 4 1) (getBE (wReq 2 [0, 0, 0, 0, 1, 2, 1, 0] : Req).data 5 1) (getBE (wReq 2 [0, 0, 0, 0, 1, 2, 1, 0] : Req).data 6 1))) := by decide

theorem witness_TableRequestsActInEveryPlaneInService_27 :
    (Ready ({ wUp [] with bulks := [wBulk] } : State) (wReq 2 [0, 0, 0, 0, 1, 2, 1, 0] : Req) roleSite) ∧ (FullService ({ wUp [] with bulks := [wBulk] } : State)) ∧ ((wReq 2 [0, 0, 0, 0, 1, 2, 1, 0] : Req).inst.toNat ≤ 2) ∧ (({ wUp [] with bulks := [wBulk] } : State).bulkBusy (Req.key (wReq 2 [0, 0, 0, 0, 1, 2, 1, 0] : Req)) = true) ∧ (filterOk (wReq 2 [0, 0, 0, 0, 1, 2, 1, 0] : Req).data = true) := by decide

theorem witness_TableSettingsAreChecked_1 :
    (Ready (wUp [] : State) (wReq 0 [1] : Req) roleSite) ∧ (FullService (wUp [] : State)) ∧ ((wReq 0 [1] : Req).inst = 0) ∧ ((wReq 0 [1] : Req).data = [1]) := by decide

theorem witness_TableSettingsAreChecked_2 :
    ((wUp [(0x143D, 0, 1)] : State).rd 0x143D 0 ≠ 0) := by decide

theorem witness_TableSettingsAreChecked_3 :
    ((wUp [] : State).rd 0x143D 0 = 0) := by decide

theorem witness_TableSettingsAreChecked_4 :
    (Ready (wUp [] : State) (wReq 4095 (wRec 1 128) : Req) roleSite) ∧ (FullService (wUp [] : State)) ∧ ((wUp [] : State).mirrorBars = false) ∧ ((wReq 4095 (wRec 1 128) : Req).flashOk = true) ∧ ((wReq 4095 (wRec 1 128) : Req).inst.toNat < 4096) ∧ ((wReq 4095 (wRec 1 128) : Req).data.length = 48) ∧ (beNat (wReq 4095 (wRec 1 128) : Req).data ≠ 0) ∧ ((readRecord (wReq 4095 (wRec 1 128) : Req).data).staticOk = true) ∧ ((wUp [] : State).rd 0x1414 (wReq 4095 (wRec 1 128) : Req).inst.toNat = 0) ∧ ((wUp [] : State).inService = [0, 1]) ∧ (findEntry (wUp [] : State).pa.store 1 (readRecord (wReq 4095 (wRec 1 128) : Req).data).tenant (readRecord (wReq 4095 (wRec 1 128) : Req).data).key = none) ∧ (findEntry (wUp [] : State).pb.store 1 (readRecord (wReq 4095 (wRec 1 128) : Req).data).tenant (readRecord (wReq 4095 (wRec 1 128) : Req).data).key = none) ∧ (freePlaces (wUp [] : State).pa.store (buckets (wUp [] : State).seed 1 (readRecord (wReq 4095 (wRec 1 128) : Req).data).tenant (readRecord (wReq 4095 (wRec 1 128) : Req).data).key).1 1 ≠ []) ∧ (freePlaces (wUp [] : State).pb.store (buckets (wUp [] : State).seed 1 (readRecord (wReq 4095 (wRec 1 128) : Req).data).tenant (readRecord (wReq 4095 (wRec 1 128) : Req).data).key).1 1 ≠ []) := by decide +kernel

theorem witness_TableSettingsAreChecked_5 :
    (Ready (wUp [] : State) (wReq 4095 (List.replicate 48 0) : Req) roleSite) ∧ (FullService (wUp [] : State)) ∧ ((wUp [] : State).mirrorBars = false) ∧ ((wReq 4095 (List.replicate 48 0) : Req).flashOk = true) ∧ ((wReq 4095 (List.replicate 48 0) : Req).inst.toNat < 4096) ∧ ((wReq 4095 (List.replicate 48 0) : Req).data.length = 48) := by decide

theorem witness_TableSettingsAreChecked_6 :
    (Ready (wUp [] : State) (wReq 0 (wRec 1 0) : Req) roleSite) ∧ (FullService (wUp [] : State)) ∧ ((wUp [] : State).mirrorBars = false) ∧ ((wReq 0 (wRec 1 0) : Req).flashOk = true) ∧ ((wReq 0 (wRec 1 0) : Req).inst.toNat < 4096) ∧ ((wReq 0 (wRec 1 0) : Req).data.length = 48) ∧ (beNat (wReq 0 (wRec 1 0) : Req).data ≠ 0) ∧ ((readRecord (wReq 0 (wRec 1 0) : Req).data).staticOk = false) := by decide

theorem witness_TableSettingsAreChecked_7 :
    (Ready (wUp [] : State) (wReq 65535 (toBytes 16 (2 ^ 118 * 143)) : Req) roleSite) ∧ (FullService (wUp [] : State)) ∧ ((wUp [] : State).mirrorBars = false) ∧ ((wReq 65535 (toBytes 16 (2 ^ 118 * 143)) : Req).flashOk = true) ∧ ((wReq 65535 (toBytes 16 (2 ^ 118 * 143)) : Req).inst.toNat < 65536) ∧ ((wReq 65535 (toBytes 16 (2 ^ 118 * 143)) : Req).data.length = 16) ∧ (nextHopOk (beNat (wReq 65535 (toBytes 16 (2 ^ 118 * 143)) : Req).data) = true) ∧ (((wUp [] : State).tick (0 : Nat)).freePhys 0x1421 (wUp [] : State).quietNh 65536 81920 = some (65536 : Nat)) := by decide

theorem witness_TableSettingsAreChecked_9 :
    (Ready (wUp [] : State) (wReq 0 (toBytes 16 1) : Req) roleSite) ∧ (FullService (wUp [] : State)) ∧ ((wUp [] : State).mirrorBars = false) ∧ ((wReq 0 (toBytes 16 1) : Req).flashOk = true) ∧ ((wReq 0 (toBytes 16 1) : Req).inst.toNat < 65536) ∧ ((wReq 0 (toBytes 16 1) : Req).data.length = 16) ∧ (nextHopOk (beNat (wReq 0 (toBytes 16 1) : Req).data) = false) := by decide

theorem witness_TableSettingsAreChecked_10 :
    (Ready wNextHop (wReq 4095 (toBytes 2 0x0200 ++ List.replicate 128 0) : Req) roleSite) ∧ (FullService wNextHop) ∧ (wNextHop.mirrorBars = false) ∧ ((wReq 4095 (toBytes 2 0x0200 ++ List.replicate 128 0) : Req).flashOk = true) ∧ ((wReq 4095 (toBytes 2 0x0200 ++ List.replicate 128 0) : Req).inst.toNat < 4096) ∧ ((wReq 4095 (toBytes 2 0x0200 ++ List.replicate 128 0) : Req).data.length = 130) ∧ ((2 : Nat) = getBE (wReq 4095 (toBytes 2 0x0200 ++ List.replicate 128 0) : Req).data 0 1) ∧ ((2 : Nat) ≤ 64) ∧ (getBE (wReq 4095 (toBytes 2 0x0200 ++ List.replicate 128 0) : Req).data 1 1 = 0) ∧ ((∀ k, k < (2 : Nat) → nhKind (wNextHop.nextHop (getBE (wReq 4095 (toBytes 2 0x0200 ++ List.replicate 128 0) : Req).data (2 + 2 * k) 2)) = 0)) := by decide +kernel

theorem witness_TableSettingsAreChecked_11 :
    (Ready (wUp [] : State) (wReq 0 (toBytes 2 0x4100 ++ List.replicate 128 0) : Req) roleSite) ∧ (FullService (wUp [] : State)) ∧ ((wUp [] : State).mirrorBars = false) ∧ ((wReq 0 (toBytes 2 0x4100 ++ List.replicate 128 0) : Req).flashOk = true) ∧ ((wReq 0 (toBytes 2 0x4100 ++ List.replicate 128 0) : Req).inst.toNat < 4096) ∧ ((wReq 0 (toBytes 2 0x4100 ++ List.replicate 128 0) : Req).data.length = 130) ∧ ((65 : Nat) = getBE (wReq 0 (toBytes 2 0x4100 ++ List.replicate 128 0) : Req).data 0 1) ∧ (64 < (65 : Nat) ∨ getBE (wReq 0 (toBytes 2 0x4100 ++ List.replicate 128 0) : Req).data 1 1 ≠ 0 ∨ ¬(∀ k, k < (65 : Nat) → nhKind ((wUp [] : State).nextHop (getBE (wReq 0 (toBytes 2 0x4100 ++ List.replicate 128 0) : Req).data (2 + 2 * k) 2)) = 0)) := by decide +kernel

theorem witness_TableSettingsAreChecked_12 :
    (Ready (wUp [] : State) (wReq 131071 (List.replicate 32 0) : Req) roleSite) ∧ (FullService (wUp [] : State)) ∧ ((wUp [] : State).mirrorBars = false) ∧ ((wReq 131071 (List.replicate 32 0) : Req).flashOk = true) ∧ (1 ≤ (wReq 131071 (List.replicate 32 0) : Req).inst.toNat) ∧ ((wReq 131071 (List.replicate 32 0) : Req).inst.toNat < 131072) ∧ ((wReq 131071 (List.replicate 32 0) : Req).data.length = 32) ∧ (rewriteOk (beNat (wReq 131071 (List.replicate 32 0) : Req).data) = true) ∧ (((wUp [] : State).tick (0 : Nat)).freePhys 0x1425 (wUp [] : State).quietRw 131072 163840 = some (131072 : Nat)) := by decide

theorem witness_TableSettingsAreChecked_14 :
    (Ready (wUp [] : State) (wReq 1 (toBytes 32 1) : Req) roleSite) ∧ (FullService (wUp [] : State)) ∧ ((wUp [] : State).mirrorBars = false) ∧ ((wReq 1 (toBytes 32 1) : Req).flashOk = true) ∧ (1 ≤ (wReq 1 (toBytes 32 1) : Req).inst.toNat) ∧ ((wReq 1 (toBytes 32 1) : Req).inst.toNat < 131072) ∧ ((wReq 1 (toBytes 32 1) : Req).data.length = 32) ∧ (rewriteOk (beNat (wReq 1 (toBytes 32 1) : Req).data) = false) := by decide

theorem witness_TableSettingsAreChecked_15 :
    ((wUp [(0x0302, 0, 0)] : State).holder = none) := by decide

theorem witness_TableSettingsAreChecked_16 :
    ((wUp [] : State).holder = some (0 : Nat)) ∧ (Tab.search (fun e : Nat × Buffer => e.1 / 2 ^ 20 == (0 : Nat) && e.2.slow) (wUp [] : State).bufs = none) := by decide

theorem witness_TableSettingsAreChecked_17 :
    ((wSlow wSlowB [(0x1430, 0, 2)] : State).holder = some (0 : Nat)) ∧ (Tab.search (fun e : Nat × Buffer => e.1 / 2 ^ 20 == (0 : Nat) && e.2.slow) (wSlow wSlowB [(0x1430, 0, 2)] : State).bufs = some ((0 : Nat), wSlowB)) ∧ (wSlowB.frame = some wSlowF) ∧ (((wSlow wSlowB [(0x1430, 0, 2)] : State).slowRoute wSlowF).bind (slowHead wSlowF (getBE wSlowB.bytes 16 1 % 16 / 2)) = none) ∧ ((wSlow wSlowB [(0x1430, 0, 2)] : State).rd 0x1430 (4096 * bedTenant wSlowF.bed + wSlowF.routeVrf) ≠ 1) := by decide +kernel

theorem witness_TableSettingsAreChecked_18 :
    ((wSlow wSlowB [(0x1430, 0, 1)] : State).holder = some (0 : Nat)) ∧ (Tab.search (fun e : Nat × Buffer => e.1 / 2 ^ 20 == (0 : Nat) && e.2.slow) (wSlow wSlowB [(0x1430, 0, 1)] : State).bufs = some ((0 : Nat), wSlowB)) ∧ (wSlowB.frame = some wSlowF) ∧ (((wSlow wSlowB [(0x1430, 0, 1)] : State).slowRoute wSlowF).bind (slowHead wSlowF (getBE wSlowB.bytes 16 1 % 16 / 2)) = none) ∧ ((wSlow wSlowB [(0x1430, 0, 1)] : State).rd 0x1430 (4096 * bedTenant wSlowF.bed + wSlowF.routeVrf) = 1) := by decide +kernel

theorem witness_TableSettingsAreChecked_19 :
    (wRoute.holder = some (0 : Nat)) ∧ (Tab.search (fun e : Nat × Buffer => e.1 / 2 ^ 20 == (0 : Nat) && e.2.slow) wRoute.bufs = some ((0 : Nat), wSlowC)) ∧ (wSlowC.frame = some wSlowG) ∧ (wRoute.slowRoute wSlowG = some (2 ^ 18 * 2 ^ 108 : Nat)) ∧ (slowHead wSlowG (getBE wSlowC.bytes 16 1 % 16 / 2) (2 ^ 18 * 2 ^ 108 : Nat) = some wTxHead) ∧ (wTxHead.ok = true) := by decide +kernel

theorem witness_TableSettingsAreChecked_20 :
    (wRouteBad.holder = some (0 : Nat)) ∧ (Tab.search (fun e : Nat × Buffer => e.1 / 2 ^ 20 == (0 : Nat) && e.2.slow) wRouteBad.bufs = some ((0 : Nat), wSlowC)) ∧ (wSlowC.frame = some wSlowG) ∧ (wRouteBad.slowRoute wSlowG = some (2 ^ 18 * 2 ^ 108 + 200 * 2 ^ 108 : Nat)) ∧ (slowHead wSlowG (getBE wSlowC.bytes 16 1 % 16 / 2) (2 ^ 18 * 2 ^ 108 + 200 * 2 ^ 108 : Nat) = some ({ wTxHead with value := 200 } : TxHead)) ∧ (({ wTxHead with value := 200 } : TxHead).ok = false) := by decide +kernel

theorem witness_CoursesRunThroughTheirPhases_1 :
    ((wUp [] : State).rd 0x1C11 0 ≠ 1) := by decide

theorem witness_CoursesRunThroughTheirPhases_2 :
    ((wCal (wEdge false) [] : State).rd 0x1C11 0 = 1) := by decide

theorem witness_CoursesRunThroughTheirPhases_4 :
    ((wUp [] : State).rd 0x1C11 0 ≠ 1) ∧ ((wUp [] : State).rd 0x1C11 0 ≠ 2) := by decide

theorem witness_CoursesRunThroughTheirPhases_5 :
    ((wCal (wEdge true) [] : State).rd 0x1C11 0 = 1) := by decide

theorem witness_CoursesRunThroughTheirPhases_6 :
    ((wEdge true : CoursePort) = (wCal (wEdge true) [] : State).calendar (5 : PortNo).val) ∧ ((wEdge true : CoursePort).next < 64) := by decide

theorem witness_CoursesRunThroughTheirPhases_7 :
    ((0 : Nat) = Tab.get 0 ((wCal (wEdge true) [(0x1C13, 5, 3), (0x1C0D, 323, 2 ^ 48 * 9)] : State).pl (1 : PlaneNo).val).sched.short (64 * (5 : PortNo).val + (wCal (wEdge true) [(0x1C13, 5, 3), (0x1C0D, 323, 2 ^ 48 * 9)] : State).rd 0x1C13 (5 : PortNo).val)) ∧ ((9 : Nat) = courseTiles ((wCal (wEdge true) [(0x1C13, 5, 3), (0x1C0D, 323, 2 ^ 48 * 9)] : State).course (5 : PortNo).val ((wCal (wEdge true) [(0x1C13, 5, 3), (0x1C0D, 323, 2 ^ 48 * 9)] : State).rd 0x1C13 (5 : PortNo).val))) ∧ ((0 : Nat) ≤ (9 : Nat)) := by decide

theorem witness_CoursesRunThroughTheirPhases_8 :
    ((wCal (wEdge true) [(0x1C11, 0, 2)] : State).rd 0x1C11 0 = 2) := by decide

theorem witness_CoursesRunThroughTheirPhases_10 :
    ((wUp [] : State).rd 0x1C11 0 ≠ 1) := by decide

theorem witness_CoursesRunThroughTheirPhases_11 :
    ((wCal (wEdge true) [(0x1C12, 5, 2), (0x1C13, 5, 3)] : State).rd 0x1C11 0 = 1) := by decide

theorem witness_CoursesRunThroughTheirPhases_12 :
    ((wEdge true : CoursePort) = (wCal (wEdge true) [(0x1C12, 5, 2), (0x1C13, 5, 3)] : State).calendar (5 : PortNo).val) ∧ ((3 : Nat) = (wCal (wEdge true) [(0x1C12, 5, 2), (0x1C13, 5, 3)] : State).rd 0x1C13 (5 : PortNo).val) ∧ ((0 : Nat) = (wCal (wEdge true) [(0x1C12, 5, 2), (0x1C13, 5, 3)] : State).course (5 : PortNo).val (3 : Nat)) := by decide

theorem witness_CoursesRunThroughTheirPhases_13 :
    ((wUp [] : State).rd 0x1C11 0 ≠ 1) := by decide

theorem witness_CoursesRunThroughTheirPhases_14 :
    ((wCal wOld [(0x1C12, 5, 3)] : State).rd 0x1C11 0 = 1) := by decide

theorem witness_CoursesRunThroughTheirPhases_15 :
    (wOld = (wCal wOld [(0x1C12, 5, 3)] : State).calendar (5 : PortNo).val) ∧ (wOld.old = [(⟨3, 7, 0, 0, 0, 0⟩ : ClosedCourse)]) ∧ ((⟨3, 7, 0, 0, 0, 0⟩ : ClosedCourse).settledRC ≤ (wCal wOld [(0x1C12, 5, 3)] : State).rc) ∧ ((wCal wOld [(0x1C12, 5, 3)] : State).rd 0x1C12 (5 : PortNo).val = 3) := by decide

theorem witness_CoursesRunThroughTheirPhases_16 :
    (Ready (wUp [(0x1C04, 5, 1), (0x1C05, 320, 2 ^ 128 - 2 ^ 96)] : State) (wReq 5 [1] : Req) roleSite) ∧ (FullService (wUp [(0x1C04, 5, 1), (0x1C05, 320, 2 ^ 128 - 2 ^ 96)] : State)) ∧ ((wReq 5 [1] : Req).inst.toNat < 144) ∧ ((wReq 5 [1] : Req).data = [1]) ∧ ((wUp [(0x1C04, 5, 1), (0x1C05, 320, 2 ^ 128 - 2 ^ 96)] : State).bankOk (wReq 5 [1] : Req).inst.toNat = false) := by decide

theorem witness_CoursesRunThroughTheirPhases_17 :
    (Ready (wUp [(0x1C00, 5, 1), (0x1C09, 5, 1000000)] : State) (wReq 5 [1] : Req) roleSite) ∧ (FullService (wUp [(0x1C00, 5, 1), (0x1C09, 5, 1000000)] : State)) ∧ ((wReq 5 [1] : Req).inst.toNat < 144) ∧ ((wReq 5 [1] : Req).data = [1]) ∧ ((wUp [(0x1C00, 5, 1), (0x1C09, 5, 1000000)] : State).bankOk (wReq 5 [1] : Req).inst.toNat = true) ∧ ((wUp [(0x1C00, 5, 1), (0x1C09, 5, 1000000)] : State).flag 0x1C00 (wReq 5 [1] : Req).inst.toNat = true) ∧ ((wUp [(0x1C00, 5, 1), (0x1C09, 5, 1000000)] : State).rd 0x1C09 (wReq 5 [1] : Req).inst.toNat ≠ 0) := by decide +kernel

theorem witness_CoursesRunThroughTheirPhases_18 :
    (Ready (wUp [(0x1C11, 0, 0)] : State) (wReq 143 [1] : Req) roleSite) ∧ (FullService (wUp [(0x1C11, 0, 0)] : State)) ∧ ((wReq 143 [1] : Req).inst.toNat < 144) ∧ ((wReq 143 [1] : Req).data = [1]) ∧ ((wUp [(0x1C11, 0, 0)] : State).bankOk (wReq 143 [1] : Req).inst.toNat = true) ∧ ((wUp [(0x1C11, 0, 0)] : State).flag 0x1C00 (wReq 143 [1] : Req).inst.toNat = false ∨ (wUp [(0x1C11, 0, 0)] : State).rd 0x1C09 (wReq 143 [1] : Req).inst.toNat = 0) := by decide

theorem witness_CoursesRunThroughTheirPhases_19 :
    (((wCal { CoursePort.init with swapRC := some 9 } [] : State).calendar (5 : PortNo).val).swapRC.all (fun rc => decide ((wCal { CoursePort.init with swapRC := some 9 } [] : State).tickRC (0 : Nat) < rc)) = true) := by decide

theorem witness_CoursesRunThroughTheirPhases_20 :
    (((wCal wSwapDue [] : State).calendar (5 : PortNo).val).swapRC = some (0 : Nat)) ∧ ((0 : Nat) ≤ (wCal wSwapDue [] : State).tickRC (0 : Nat)) ∧ (wBank = ((wCal wSwapDue [] : State).calendar (5 : PortNo).val).swapBank) := by decide

theorem witness_CoursesRunThroughTheirPhases_21 :
    ((wCal (wEdge true) [(0x3400, 0, 1)] : State).rd 0x1C11 0 = 1) ∧ ((wCal (wEdge true) [(0x3400, 0, 1)] : State).rd 0x3400 0 ≠ 2) ∧ ((wCal (wEdge true) [(0x3400, 0, 1)] : State).rd 0x3400 0 ≠ 3) ∧ ((∀ e ∈ (wCal (wEdge true) [(0x3400, 0, 1)] : State).courses, e.1 < 144)) := by decide

theorem witness_CoursesRunThroughTheirPhases_22 :
    ((wCal (wEdge true) [(0x3400, 0, 3)] : State).rd 0x1C11 0 ≠ 1 ∨ (wCal (wEdge true) [(0x3400, 0, 3)] : State).rd 0x3400 0 = 2 ∨ (wCal (wEdge true) [(0x3400, 0, 3)] : State).rd 0x3400 0 = 3) := by decide

theorem witness_CoursesRunThroughTheirPhases_23 :
    ((wCal (wEdge true) [(0x1C11, 0, 2), (0x3400, 0, 2)] : State).rd 0x1C11 0 = 2) ∧ ((wCal (wEdge true) [(0x1C11, 0, 2), (0x3400, 0, 2)] : State).rd 0x3400 0 = 2 ∨ (wCal (wEdge true) [(0x1C11, 0, 2), (0x3400, 0, 2)] : State).rd 0x3400 0 = 3) := by decide

theorem witness_CoursesRunThroughTheirPhases_24 :
    ((wCal (wEdge true) [(0x1C11, 0, 2), (0x3400, 0, 2)] : State).windowRunning (5 : PortNo).val = true ∨ (wCal (wEdge true) [(0x1C11, 0, 2), (0x3400, 0, 2)] : State).openPassed ((wCal (wEdge true) [(0x1C11, 0, 2), (0x3400, 0, 2)] : State).calendar (5 : PortNo).val) = true) := by decide

theorem witness_CoursesRunThroughTheirPhases_25 :
    ((wUp [] : State).rd 0x1C11 0 ≠ 2 ∨ ((wUp [] : State).rd 0x3400 0 ≠ 2 ∧ (wUp [] : State).rd 0x3400 0 ≠ 3)) := by decide

theorem witness_GatesShapersAndTheSamplerRun_1 :
    (Ready (wUp [] : State) (wReq 143 [1] : Req) roleSite) ∧ (FullService (wUp [] : State)) ∧ ((wReq 143 [1] : Req).inst.toNat < 144) ∧ ((wReq 143 [1] : Req).data = [1]) ∧ ((wUp [] : State).gateCheck (wReq 143 [1] : Req).inst.toNat = false) := by decide

theorem witness_GatesShapersAndTheSamplerRun_2 :
    (Ready (wGate [] : State) (wReq 5 [1] : Req) roleSite) ∧ (FullService (wGate [] : State)) ∧ ((wReq 5 [1] : Req).inst.toNat < 144) ∧ ((wReq 5 [1] : Req).data = [1]) ∧ ((wGate [] : State).gateCheck (wReq 5 [1] : Req).inst.toNat = true) := by decide +kernel

theorem witness_GatesShapersAndTheSamplerRun_3 :
    (Tab.find? ({ wGate [(0x2200, 5, 1)] with gateChange := [(5, 0)] } : State).gateChange (5 : PortNo).val = some (0 : Nat)) ∧ ((0 : Nat) ≤ ({ wGate [(0x2200, 5, 1)] with gateChange := [(5, 0)] } : State).tickRC (0 : Nat)) := by decide +kernel

theorem witness_GatesShapersAndTheSamplerRun_4 :
    ((Tab.find? ({ wUp [] with gateChange := [(143, 1)] } : State).gateChange (143 : PortNo).val).all (fun rc => decide (({ wUp [] with gateChange := [(143, 1)] } : State).tickRC (0 : Nat) < rc)) = true) := by decide

theorem witness_GatesShapersAndTheSamplerRun_5 :
    (Ready (wUp [(0x2200, 143, 1)] : State) (wReq 143 [] : Req) roleSite) ∧ (FullService (wUp [(0x2200, 143, 1)] : State)) ∧ ((wReq 143 [] : Req).inst.toNat < 144) ∧ ((wUp [(0x2200, 143, 1)] : State).mirrorBars = false) ∧ ((wReq 143 [] : Req).flashOk = true) ∧ ((wUp [(0x2200, 143, 1)] : State).rd 0x2200 (wReq 143 [] : Req).inst.toNat = 1) := by decide

theorem witness_GatesShapersAndTheSamplerRun_6 :
    (Ready (wGate [] : State) (wReq 5 [] : Req) roleSite) ∧ (FullService (wGate [] : State)) ∧ ((wReq 5 [] : Req).inst.toNat < 144) ∧ ((wGate [] : State).mirrorBars = false) ∧ ((wReq 5 [] : Req).flashOk = true) ∧ ((wGate [] : State).rd 0x2200 (wReq 5 [] : Req).inst.toNat = 0) ∧ ((wGate [] : State).gateCheck (wReq 5 [] : Req).inst.toNat = true) := by decide +kernel

theorem witness_GatesShapersAndTheSamplerRun_7 :
    (Ready (wUp [] : State) (wReq 143 [] : Req) roleSite) ∧ (FullService (wUp [] : State)) ∧ ((wReq 143 [] : Req).inst.toNat < 144) ∧ ((wUp [] : State).mirrorBars = false) ∧ ((wReq 143 [] : Req).flashOk = true) ∧ ((wUp [] : State).rd 0x2200 (wReq 143 [] : Req).inst.toNat = 0) ∧ ((wUp [] : State).gateCheck (wReq 143 [] : Req).inst.toNat = false) := by decide

theorem witness_GatesShapersAndTheSamplerRun_8 :
    (Ready (wGate [(0x2200, 5, 1)] : State) (wReq 5 [] : Req) roleSite) ∧ (FullService (wGate [(0x2200, 5, 1)] : State)) ∧ ((wReq 5 [] : Req).inst.toNat < 144) ∧ ((wGate [(0x2200, 5, 1)] : State).mirrorBars = false) ∧ ((wReq 5 [] : Req).flashOk = true) := by decide

theorem witness_GatesShapersAndTheSamplerRun_9 :
    (Tab.find? (wList 0 : State).gateEdge (5 : PortNo).val = some (0 : Nat)) ∧ ((0 : Nat) ≤ (wList 0 : State).tickRC (0 : Nat)) ∧ ((wList 0 : State).rd 0x221F (5 : PortNo).val = 2) ∧ ((wList 0 : State).rd 0x220C (5 : PortNo).val + 1 < (wList 0 : State).rd 0x220A (5 : PortNo).val) ∧ ((wList 0 : State).rd 0x220A (5 : PortNo).val ≤ 256) := by decide

theorem witness_GatesShapersAndTheSamplerRun_10 :
    (Tab.find? (wList 1 : State).gateEdge (5 : PortNo).val = some (0 : Nat)) ∧ ((0 : Nat) ≤ (wList 1 : State).tickRC (0 : Nat)) ∧ ((wList 1 : State).rd 0x221F (5 : PortNo).val = 2) ∧ ((wList 1 : State).rd 0x220A (5 : PortNo).val ≤ (wList 1 : State).rd 0x220C (5 : PortNo).val + 1) ∧ (1 ≤ (wList 1 : State).rd 0x220A (5 : PortNo).val) ∧ ((wList 1 : State).rd 0x220A (5 : PortNo).val ≤ 256) := by decide

theorem witness_GatesShapersAndTheSamplerRun_11 :
    ((Tab.find? ({ wUp [] with gateEdge := [(143, 9)] } : State).gateEdge (143 : PortNo).val).all (fun rc => decide (({ wUp [] with gateEdge := [(143, 9)] } : State).tickRC (0 : Nat) < rc ∨ ({ wUp [] with gateEdge := [(143, 9)] } : State).rd 0x221F (143 : PortNo).val ≠ 2)) = true) := by decide

theorem witness_GatesShapersAndTheSamplerRun_12 :
    ((wRunning (wUp []) : State).tickRC (101 : Nat) % 512 ∉ [0, 102, 205, 307, 410] ∨ (wRunning (wUp []) : State).scheduled = false) := by decide

theorem witness_GatesShapersAndTheSamplerRun_13 :
    ((wRunning (wUp []) : State).tickRC (410 : Nat) % 512 ∈ [0, 102, 205, 307, 410]) ∧ ((wRunning (wUp []) : State).scheduled = true) := by decide

theorem witness_GatesShapersAndTheSamplerRun_15 :
    (Tab.find? (wUp [] : State).shaperRates (shaperElem (.subscriber 4095 : ShaperRef)) = none) := by decide

theorem witness_GatesShapersAndTheSamplerRun_16 :
    (Tab.find? (wUp [(0x2009, 4095, 1000), (0x200A, 4095, 9000)] : State).shaperRates (shaperElem (.subscriber 4095 : ShaperRef)) = some ((1000, 9000) : Nat × Nat)) := by decide

theorem witness_GatesShapersAndTheSamplerRun_17 :
    ((wUp [(0x240D, 0, 0)] : State).rd 0x240D 0 = 0 ∨ (wUp [(0x240D, 0, 0)] : State).isOn (1 : PlaneNo).val = false ∨ (wUp [(0x240D, 0, 0)] : State).gateShut (1 : PlaneNo).val 0 = true) := by decide

theorem witness_GatesShapersAndTheSamplerRun_18 :
    ((wRunning (wPlane [] (fun q => { q with queues := [(40, [wCopy])], desc := [(9, wDesc)] })) : State).rd 0x240D 0 ≠ 0) ∧ ((wRunning (wPlane [] (fun q => { q with queues := [(40, [wCopy])], desc := [(9, wDesc)] })) : State).isOn (0 : PlaneNo).val = true) ∧ ((wRunning (wPlane [] (fun q => { q with queues := [(40, [wCopy])], desc := [(9, wDesc)] })) : State).gateShut (0 : PlaneNo).val 0 = false) ∧ ((1 : Nat) = ((wRunning (wPlane [] (fun q => { q with queues := [(40, [wCopy])], desc := [(9, wDesc)] })) : State).pl (0 : PlaneNo).val).tilesOf (((wRunning (wPlane [] (fun q => { q with queues := [(40, [wCopy])], desc := [(9, wDesc)] })) : State).pl (0 : PlaneNo).val).queue (40 : Fin 32768).val)) ∧ ((2000 : Nat) = (((((wRunning (wPlane [] (fun q => { q with queues := [(40, [wCopy])], desc := [(9, wDesc)] })) : State).pl (0 : PlaneNo).val).queue (40 : Fin 32768).val).head?.map (fun c => ((wRunning (wPlane [] (fun q => { q with queues := [(40, [wCopy])], desc := [(9, wDesc)] })) : State).tickRC (800 : Nat) - c.rc) * 5 / 2)).getD 0)) := by decide

theorem witness_GatesShapersAndTheSamplerRun_19 :
    ((wRunning (wPlane [] (fun q => { q with queues := [(40, [wCopy])], desc := [(9, wDesc)] })) : State).rd 0x240D 0 ≠ 0) ∧ ((wRunning (wPlane [] (fun q => { q with queues := [(40, [wCopy])], desc := [(9, wDesc)] })) : State).isOn (0 : PlaneNo).val = true) ∧ ((wRunning (wPlane [] (fun q => { q with queues := [(40, [wCopy])], desc := [(9, wDesc)] })) : State).gateShut (0 : PlaneNo).val 0 = false) ∧ ((wRunning (wPlane [] (fun q => { q with queues := [(40, [wCopy])], desc := [(9, wDesc)] })) : State).slotsWatching (40 : Fin 32768).val = []) ∧ ((40 : Fin 32768).val ≠ 0) ∧ ((40 : Fin 32768).val ≠ 32767) := by decide

theorem witness_GatesShapersAndTheSamplerRun_20 :
    ((wUp [(0x2405, 511, 32767)] : State).rd 0x240D 0 ≠ 0) ∧ ((wUp [(0x2405, 511, 32767)] : State).isOn (1 : PlaneNo).val = true) ∧ ((wUp [(0x2405, 511, 32767)] : State).gateShut (1 : PlaneNo).val 0 = false) ∧ (((wUp [(0x2405, 511, 32767)] : State).pl (1 : PlaneNo).val).queue (32767 : Fin 32768).val = []) ∧ ((wUp [(0x2405, 511, 32767)] : State).slotsWatching (32767 : Fin 32768).val = [(511 : Nat)]) ∧ ((511 : Nat) < 512) := by decide

theorem witness_GatesShapersAndTheSamplerRun_21 :
    ((wRunning (wPlane [(0x2405, 511, 40)] (fun q => { q with queues := [(40, [wCopy])], desc := [(9, wDesc)] })) : State).rd 0x240D 0 ≠ 0) ∧ ((wRunning (wPlane [(0x2405, 511, 40)] (fun q => { q with queues := [(40, [wCopy])], desc := [(9, wDesc)] })) : State).isOn (0 : PlaneNo).val = true) ∧ ((wRunning (wPlane [(0x2405, 511, 40)] (fun q => { q with queues := [(40, [wCopy])], desc := [(9, wDesc)] })) : State).gateShut (0 : PlaneNo).val 0 = false) ∧ (((wRunning (wPlane [(0x2405, 511, 40)] (fun q => { q with queues := [(40, [wCopy])], desc := [(9, wDesc)] })) : State).pl (0 : PlaneNo).val).queue (40 : Fin 32768).val = wCopy :: ([] : List Copy)) ∧ ((wRunning (wPlane [(0x2405, 511, 40)] (fun q => { q with queues := [(40, [wCopy])], desc := [(9, wDesc)] })) : State).slotsWatching (40 : Fin 32768).val = [(511 : Nat)]) ∧ ((511 : Nat) < 512) := by decide

theorem witness_GatesShapersAndTheSamplerRun_22 :
    (Ready (wUp [(0x2408, 511, 77)] : State) (wReq 511 [1] : Req) roleSite) ∧ (FullService (wUp [(0x2408, 511, 77)] : State)) ∧ ((wReq 511 [1] : Req).inst.toNat < 512) ∧ ((wReq 511 [1] : Req).data = [1]) := by decide +kernel

theorem witness_GatesShapersAndTheSamplerRun_23 :
    ((Tab.find? ((wUp [] : State).port (143 : PortNo).val).xoff (8 : Fin 9).val).all (fun rc => !(wUp [] : State).sendsPause (143 : PortNo).val (8 : Fin 9).val || !(wUp [] : State).receives (143 : PortNo).val || decide ((wUp [] : State).tickRC (0 : Nat) < rc + (wUp [] : State).rd 0x0834 (143 : PortNo).val * 400 ∨ (wUp [] : State).occupancy (143 : PortNo).val (8 : Fin 9).val ≤ (wUp [] : State).rd 0x0837 (pauseInst (143 : PortNo).val (8 : Fin 9).val))) = true) := by decide

theorem witness_GatesShapersAndTheSamplerRun_24 :
    (Tab.find? (wXoff.port (5 : PortNo).val).xoff (3 : Fin 9).val = some (0 : Nat)) ∧ (wXoff.sendsPause (5 : PortNo).val (3 : Fin 9).val = true) ∧ ((0 : Nat) + wXoff.rd 0x0834 (5 : PortNo).val * 400 ≤ wXoff.tickRC (4000000 : Nat)) ∧ (wXoff.rd 0x0837 (pauseInst (5 : PortNo).val (3 : Fin 9).val) < wXoff.occupancy (5 : PortNo).val (3 : Fin 9).val) ∧ (wXoff.receives (5 : PortNo).val = true) := by decide

theorem witness_TheBondUnitSendsOneOfTwo_3 :
    (nextHead (Tab.get [] ((wUp [] : State).pl (1 : PlaneNo).val).links (143 : PortNo).val) = none) := by decide

theorem witness_TheBondUnitSendsOneOfTwo_4 :
    (nextHead (Tab.get [] ((wBond 0 [wLink] Bond.init [(0x281F, 0, 0)] : State).pl (0 : PlaneNo).val).links (5 : PortNo).val) = some wLink) ∧ ((wBond 0 [wLink] Bond.init [(0x281F, 0, 0)] : State).takesFrom (0 : PlaneNo).val = false ∨ (wBond 0 [wLink] Bond.init [(0x281F, 0, 0)] : State).sends (5 : PortNo).val wLink.frame = false) ∧ ((wBond 0 [wLink] Bond.init [(0x281F, 0, 0)] : State).isOn (0 : PlaneNo).val = false ∨ (wBond 0 [wLink] Bond.init [(0x281F, 0, 0)] : State).rd 0x281F (0 : PlaneNo).val = 0 ∨ 3 ≤ (wBond 0 [wLink] Bond.init [(0x281F, 0, 0)] : State).rd 0x281F (0 : PlaneNo).val ∨ Tab.get 0 (wBond 0 [wLink] Bond.init [(0x281F, 0, 0)] : State).joins (0 : PlaneNo).val ≤ wLink.frame.rc) := by decide +kernel

theorem witness_TheBondUnitSendsOneOfTwo_5 :
    (nextHead (Tab.get [] (({ wBond 0 [wLink] Bond.init [(0x0805, 5, 3)] with joins := [(0, wFrame.rc + 1)] } : State).pl (0 : PlaneNo).val).links (5 : PortNo).val) = some wLink) ∧ (({ wBond 0 [wLink] Bond.init [(0x0805, 5, 3)] with joins := [(0, wFrame.rc + 1)] } : State).isOn (0 : PlaneNo).val = true) ∧ (({ wBond 0 [wLink] Bond.init [(0x0805, 5, 3)] with joins := [(0, wFrame.rc + 1)] } : State).rd 0x281F (0 : PlaneNo).val = 1 ∨ ({ wBond 0 [wLink] Bond.init [(0x0805, 5, 3)] with joins := [(0, wFrame.rc + 1)] } : State).rd 0x281F (0 : PlaneNo).val = 2) ∧ (wLink.frame.rc < Tab.get 0 ({ wBond 0 [wLink] Bond.init [(0x0805, 5, 3)] with joins := [(0, wFrame.rc + 1)] } : State).joins (0 : PlaneNo).val) := by decide +kernel

theorem witness_TheBondUnitSendsOneOfTwo_6 :
    (nextHead (Tab.get [] ((wBond 0 [wLink] Bond.init [(0x0805, 5, 3)] : State).pl (0 : PlaneNo).val).links (5 : PortNo).val) = some wLink) ∧ ((wBond 0 [wLink] Bond.init [(0x0805, 5, 3)] : State).takesFrom (0 : PlaneNo).val = true) ∧ ((wBond 0 [wLink] Bond.init [(0x0805, 5, 3)] : State).sends (5 : PortNo).val wLink.frame = true) ∧ ((wBond 0 [wLink] Bond.init [(0x0805, 5, 3)] : State).rd 0x281F (0 : PlaneNo).val = 3 ∨ Tab.get 0 (wBond 0 [wLink] Bond.init [(0x0805, 5, 3)] : State).joins (0 : PlaneNo).val ≤ wLink.frame.rc) ∧ (((wBond 0 [wLink] Bond.init [(0x0805, 5, 3)] : State).bond (5 : PortNo).val).entry wLink.frame.port wLink.frame.seq = none) ∧ ((((wBond 0 [wLink] Bond.init [(0x0805, 5, 3)] : State).bond (5 : PortNo).val).retired.filter (fun r => !(wBond 0 [wLink] Bond.init [(0x0805, 5, 3)] : State).outlived r.2.2.1)).find? (fun r => r.1 == wLink.frame.port && r.2.1 == wLink.frame.seq) = none) ∧ ((wBond 0 [wLink] Bond.init [(0x0805, 5, 3)] : State).bonded 0 = true) ∧ ((wBond 0 [wLink] Bond.init [(0x0805, 5, 3)] : State).bonded 1 = true) ∧ (Tab.get 0 (wBond 0 [wLink] Bond.init [(0x0805, 5, 3)] : State).joins (1 - (0 : PlaneNo).val) ≤ wLink.frame.rc) ∧ (((wBond 0 [wLink] Bond.init [(0x0805, 5, 3)] : State).bond (5 : PortNo).val).window.length < 2048) ∧ ((wLink.headerOk && (true : Bool)) = true) ∧ (((wBond 0 [wLink] Bond.init [(0x0805, 5, 3)] : State).recover (5 : PortNo).val wLink.frame).2 = true) ∧ (headRoom wLink.headLen ≤ (wBond 0 [wLink] Bond.init [(0x0805, 5, 3)] : State).fifoFree (5 : PortNo).val) := by decide +kernel

theorem witness_TheBondUnitSendsOneOfTwo_7 :
    (nextHead (Tab.get [] (({ wBond 0 [wLinkF] Bond.init [(0x0805, 5, 3), (0x2832, 0, 5 * 2 ^ 56 + 2 ^ 55 + 2 ^ 40)] with recovery := [(0, ⟨100, 0, 0⟩)] } : State).pl (0 : PlaneNo).val).links (5 : PortNo).val) = some wLinkF) ∧ (({ wBond 0 [wLinkF] Bond.init [(0x0805, 5, 3), (0x2832, 0, 5 * 2 ^ 56 + 2 ^ 55 + 2 ^ 40)] with recovery := [(0, ⟨100, 0, 0⟩)] } : State).takesFrom (0 : PlaneNo).val = true) ∧ (({ wBond 0 [wLinkF] Bond.init [(0x0805, 5, 3), (0x2832, 0, 5 * 2 ^ 56 + 2 ^ 55 + 2 ^ 40)] with recovery := [(0, ⟨100, 0, 0⟩)] } : State).sends (5 : PortNo).val wLinkF.frame = true) ∧ (({ wBond 0 [wLinkF] Bond.init [(0x0805, 5, 3), (0x2832, 0, 5 * 2 ^ 56 + 2 ^ 55 + 2 ^ 40)] with recovery := [(0, ⟨100, 0, 0⟩)] } : State).rd 0x281F (0 : PlaneNo).val = 3 ∨ Tab.get 0 ({ wBond 0 [wLinkF] Bond.init [(0x0805, 5, 3), (0x2832, 0, 5 * 2 ^ 56 + 2 ^ 55 + 2 ^ 40)] with recovery := [(0, ⟨100, 0, 0⟩)] } : State).joins (0 : PlaneNo).val ≤ wLinkF.frame.rc) ∧ ((({ wBond 0 [wLinkF] Bond.init [(0x0805, 5, 3), (0x2832, 0, 5 * 2 ^ 56 + 2 ^ 55 + 2 ^ 40)] with recovery := [(0, ⟨100, 0, 0⟩)] } : State).bond (5 : PortNo).val).entry wLinkF.frame.port wLinkF.frame.seq = none) ∧ (((({ wBond 0 [wLinkF] Bond.init [(0x0805, 5, 3), (0x2832, 0, 5 * 2 ^ 56 + 2 ^ 55 + 2 ^ 40)] with recovery := [(0, ⟨100, 0, 0⟩)] } : State).bond (5 : PortNo).val).retired.filter (fun r => !({ wBond 0 [wLinkF] Bond.init [(0x0805, 5, 3), (0x2832, 0, 5 * 2 ^ 56 + 2 ^ 55 + 2 ^ 40)] with recovery := [(0, ⟨100, 0, 0⟩)] } : State).outlived r.2.2.1)).find? (fun r => r.1 == wLinkF.frame.port && r.2.1 == wLinkF.frame.seq) = none) ∧ (({ wBond 0 [wLinkF] Bond.init [(0x0805, 5, 3), (0x2832, 0, 5 * 2 ^ 56 + 2 ^ 55 + 2 ^ 40)] with recovery := [(0, ⟨100, 0, 0⟩)] } : State).bonded 0 = true) ∧ (({ wBond 0 [wLinkF] Bond.init [(0x0805, 5, 3), (0x2832, 0, 5 * 2 ^ 56 + 2 ^ 55 + 2 ^ 40)] with recovery := [(0, ⟨100, 0, 0⟩)] } : State).bonded 1 = true) ∧ (Tab.get 0 ({ wBond 0 [wLinkF] Bond.init [(0x0805, 5, 3), (0x2832, 0, 5 * 2 ^ 56 + 2 ^ 55 + 2 ^ 40)] with recovery := [(0, ⟨100, 0, 0⟩)] } : State).joins (1 - (0 : PlaneNo).val) ≤ wLinkF.frame.rc) ∧ ((({ wBond 0 [wLinkF] Bond.init [(0x0805, 5, 3), (0x2832, 0, 5 * 2 ^ 56 + 2 ^ 55 + 2 ^ 40)] with recovery := [(0, ⟨100, 0, 0⟩)] } : State).bond (5 : PortNo).val).window.length < 2048) ∧ ((wLinkF.headerOk && (true : Bool)) = true) ∧ ((({ wBond 0 [wLinkF] Bond.init [(0x0805, 5, 3), (0x2832, 0, 5 * 2 ^ 56 + 2 ^ 55 + 2 ^ 40)] with recovery := [(0, ⟨100, 0, 0⟩)] } : State).recover (5 : PortNo).val wLinkF.frame).2 = false) := by decide +kernel

theorem witness_TheBondUnitSendsOneOfTwo_8 :
    (nextHead (Tab.get [] ((wBond 0 [wLink] { Bond.init with fifo := [wItem 16384] } [(0x0805, 5, 3)] : State).pl (0 : PlaneNo).val).links (5 : PortNo).val) = some wLink) ∧ ((wBond 0 [wLink] { Bond.init with fifo := [wItem 16384] } [(0x0805, 5, 3)] : State).takesFrom (0 : PlaneNo).val = true) ∧ ((wBond 0 [wLink] { Bond.init with fifo := [wItem 16384] } [(0x0805, 5, 3)] : State).sends (5 : PortNo).val wLink.frame = true) ∧ ((wBond 0 [wLink] { Bond.init with fifo := [wItem 16384] } [(0x0805, 5, 3)] : State).rd 0x281F (0 : PlaneNo).val = 3 ∨ Tab.get 0 (wBond 0 [wLink] { Bond.init with fifo := [wItem 16384] } [(0x0805, 5, 3)] : State).joins (0 : PlaneNo).val ≤ wLink.frame.rc) ∧ (((wBond 0 [wLink] { Bond.init with fifo := [wItem 16384] } [(0x0805, 5, 3)] : State).bond (5 : PortNo).val).entry wLink.frame.port wLink.frame.seq = none) ∧ ((((wBond 0 [wLink] { Bond.init with fifo := [wItem 16384] } [(0x0805, 5, 3)] : State).bond (5 : PortNo).val).retired.filter (fun r => !(wBond 0 [wLink] { Bond.init with fifo := [wItem 16384] } [(0x0805, 5, 3)] : State).outlived r.2.2.1)).find? (fun r => r.1 == wLink.frame.port && r.2.1 == wLink.frame.seq) = none) ∧ ((wBond 0 [wLink] { Bond.init with fifo := [wItem 16384] } [(0x0805, 5, 3)] : State).bonded 0 = true) ∧ ((wBond 0 [wLink] { Bond.init with fifo := [wItem 16384] } [(0x0805, 5, 3)] : State).bonded 1 = true) ∧ (Tab.get 0 (wBond 0 [wLink] { Bond.init with fifo := [wItem 16384] } [(0x0805, 5, 3)] : State).joins (1 - (0 : PlaneNo).val) ≤ wLink.frame.rc) ∧ (((wBond 0 [wLink] { Bond.init with fifo := [wItem 16384] } [(0x0805, 5, 3)] : State).bond (5 : PortNo).val).window.length < 2048) ∧ ((wLink.headerOk && (true : Bool)) = true) ∧ (((wBond 0 [wLink] { Bond.init with fifo := [wItem 16384] } [(0x0805, 5, 3)] : State).recover (5 : PortNo).val wLink.frame).2 = true) ∧ ((wBond 0 [wLink] { Bond.init with fifo := [wItem 16384] } [(0x0805, 5, 3)] : State).fifoFree (5 : PortNo).val < headRoom wLink.headLen) := by decide +kernel

theorem witness_TheBondUnitSendsOneOfTwo_9 :
    (nextHead (Tab.get [] ((wBond 0 [wLink] Bond.init [(0x0805, 5, 3)] : State).pl (0 : PlaneNo).val).links (5 : PortNo).val) = some wLink) ∧ ((wBond 0 [wLink] Bond.init [(0x0805, 5, 3)] : State).takesFrom (0 : PlaneNo).val = true) ∧ ((wBond 0 [wLink] Bond.init [(0x0805, 5, 3)] : State).sends (5 : PortNo).val wLink.frame = true) ∧ ((wBond 0 [wLink] Bond.init [(0x0805, 5, 3)] : State).rd 0x281F (0 : PlaneNo).val = 3 ∨ Tab.get 0 (wBond 0 [wLink] Bond.init [(0x0805, 5, 3)] : State).joins (0 : PlaneNo).val ≤ wLink.frame.rc) ∧ (((wBond 0 [wLink] Bond.init [(0x0805, 5, 3)] : State).bond (5 : PortNo).val).entry wLink.frame.port wLink.frame.seq = none) ∧ ((((wBond 0 [wLink] Bond.init [(0x0805, 5, 3)] : State).bond (5 : PortNo).val).retired.filter (fun r => !(wBond 0 [wLink] Bond.init [(0x0805, 5, 3)] : State).outlived r.2.2.1)).find? (fun r => r.1 == wLink.frame.port && r.2.1 == wLink.frame.seq) = none) ∧ ((wBond 0 [wLink] Bond.init [(0x0805, 5, 3)] : State).bonded 0 = true) ∧ ((wBond 0 [wLink] Bond.init [(0x0805, 5, 3)] : State).bonded 1 = true) ∧ (Tab.get 0 (wBond 0 [wLink] Bond.init [(0x0805, 5, 3)] : State).joins (1 - (0 : PlaneNo).val) ≤ wLink.frame.rc) ∧ (((wBond 0 [wLink] Bond.init [(0x0805, 5, 3)] : State).bond (5 : PortNo).val).window.length < 2048) ∧ ((wLink.headerOk && (false : Bool)) = false) := by decide +kernel

theorem witness_TheBondUnitSendsOneOfTwo_10 :
    (nextHead (Tab.get [] ((wBond 0 [wLink] Bond.init [(0x0805, 5, 3), (0x281F, 1, 0)] : State).pl (0 : PlaneNo).val).links (5 : PortNo).val) = some wLink) ∧ ((wBond 0 [wLink] Bond.init [(0x0805, 5, 3), (0x281F, 1, 0)] : State).takesFrom (0 : PlaneNo).val = true) ∧ ((wBond 0 [wLink] Bond.init [(0x0805, 5, 3), (0x281F, 1, 0)] : State).sends (5 : PortNo).val wLink.frame = true) ∧ ((wBond 0 [wLink] Bond.init [(0x0805, 5, 3), (0x281F, 1, 0)] : State).rd 0x281F (0 : PlaneNo).val = 3 ∨ Tab.get 0 (wBond 0 [wLink] Bond.init [(0x0805, 5, 3), (0x281F, 1, 0)] : State).joins (0 : PlaneNo).val ≤ wLink.frame.rc) ∧ (((wBond 0 [wLink] Bond.init [(0x0805, 5, 3), (0x281F, 1, 0)] : State).bond (5 : PortNo).val).entry wLink.frame.port wLink.frame.seq = none) ∧ ((((wBond 0 [wLink] Bond.init [(0x0805, 5, 3), (0x281F, 1, 0)] : State).bond (5 : PortNo).val).retired.filter (fun r => !(wBond 0 [wLink] Bond.init [(0x0805, 5, 3), (0x281F, 1, 0)] : State).outlived r.2.2.1)).find? (fun r => r.1 == wLink.frame.port && r.2.1 == wLink.frame.seq) = none) ∧ ((wBond 0 [wLink] Bond.init [(0x0805, 5, 3), (0x281F, 1, 0)] : State).bonded 0 = false ∨ (wBond 0 [wLink] Bond.init [(0x0805, 5, 3), (0x281F, 1, 0)] : State).bonded 1 = false ∨ wLink.frame.rc < Tab.get 0 (wBond 0 [wLink] Bond.init [(0x0805, 5, 3), (0x281F, 1, 0)] : State).joins (1 - (0 : PlaneNo).val)) ∧ ((wLink.headerOk && (true : Bool)) = true) ∧ (((wBond 0 [wLink] Bond.init [(0x0805, 5, 3), (0x281F, 1, 0)] : State).recover (5 : PortNo).val wLink.frame).2 = true) ∧ (headRoom wLink.headLen ≤ (wBond 0 [wLink] Bond.init [(0x0805, 5, 3), (0x281F, 1, 0)] : State).fifoFree (5 : PortNo).val) := by decide +kernel

theorem witness_TheBondUnitSendsOneOfTwo_11 :
    (nextHead (Tab.get [] ((wBond 0 [wLink] Bond.init [(0x0805, 5, 3), (0x281F, 1, 0)] : State).pl (0 : PlaneNo).val).links (5 : PortNo).val) = some wLink) ∧ ((wBond 0 [wLink] Bond.init [(0x0805, 5, 3), (0x281F, 1, 0)] : State).takesFrom (0 : PlaneNo).val = true) ∧ ((wBond 0 [wLink] Bond.init [(0x0805, 5, 3), (0x281F, 1, 0)] : State).sends (5 : PortNo).val wLink.frame = true) ∧ ((wBond 0 [wLink] Bond.init [(0x0805, 5, 3), (0x281F, 1, 0)] : State).rd 0x281F (0 : PlaneNo).val = 3 ∨ Tab.get 0 (wBond 0 [wLink] Bond.init [(0x0805, 5, 3), (0x281F, 1, 0)] : State).joins (0 : PlaneNo).val ≤ wLink.frame.rc) ∧ (((wBond 0 [wLink] Bond.init [(0x0805, 5, 3), (0x281F, 1, 0)] : State).bond (5 : PortNo).val).entry wLink.frame.port wLink.frame.seq = none) ∧ ((((wBond 0 [wLink] Bond.init [(0x0805, 5, 3), (0x281F, 1, 0)] : State).bond (5 : PortNo).val).retired.filter (fun r => !(wBond 0 [wLink] Bond.init [(0x0805, 5, 3), (0x281F, 1, 0)] : State).outlived r.2.2.1)).find? (fun r => r.1 == wLink.frame.port && r.2.1 == wLink.frame.seq) = none) ∧ ((wBond 0 [wLink] Bond.init [(0x0805, 5, 3), (0x281F, 1, 0)] : State).bonded 0 = false ∨ (wBond 0 [wLink] Bond.init [(0x0805, 5, 3), (0x281F, 1, 0)] : State).bonded 1 = false ∨ wLink.frame.rc < Tab.get 0 (wBond 0 [wLink] Bond.init [(0x0805, 5, 3), (0x281F, 1, 0)] : State).joins (1 - (0 : PlaneNo).val)) ∧ ((wLink.headerOk && (false : Bool)) = false) := by decide +kernel

theorem witness_TheBondUnitSendsOneOfTwo_12 :
    (nextHead (Tab.get [] ((wBond 0 [wLink] (wUnit (wEntry .wait 2)) [(0x0805, 5, 3)] : State).pl (0 : PlaneNo).val).links (5 : PortNo).val) = some wLink) ∧ ((wBond 0 [wLink] (wUnit (wEntry .wait 2)) [(0x0805, 5, 3)] : State).takesFrom (0 : PlaneNo).val = true) ∧ ((wBond 0 [wLink] (wUnit (wEntry .wait 2)) [(0x0805, 5, 3)] : State).sends (5 : PortNo).val wLink.frame = true) ∧ ((wBond 0 [wLink] (wUnit (wEntry .wait 2)) [(0x0805, 5, 3)] : State).rd 0x281F (0 : PlaneNo).val = 3 ∨ Tab.get 0 (wBond 0 [wLink] (wUnit (wEntry .wait 2)) [(0x0805, 5, 3)] : State).joins (0 : PlaneNo).val ≤ wLink.frame.rc) ∧ (((wBond 0 [wLink] (wUnit (wEntry .wait 2)) [(0x0805, 5, 3)] : State).bond (5 : PortNo).val).entry wLink.frame.port wLink.frame.seq = some (wEntry .wait 2 : BondEntry)) ∧ ((wEntry .wait 2 : BondEntry).state = .wait) ∧ ((wLink.headerOk && (true : Bool)) = true) ∧ (((wBond 0 [wLink] (wUnit (wEntry .wait 2)) [(0x0805, 5, 3)] : State).recover (5 : PortNo).val wLink.frame).2 = true) ∧ (headRoom wLink.headLen ≤ (wBond 0 [wLink] (wUnit (wEntry .wait 2)) [(0x0805, 5, 3)] : State).fifoFree (5 : PortNo).val) := by decide +kernel

theorem witness_TheBondUnitSendsOneOfTwo_13 :
    (nextHead (Tab.get [] ((wBond 0 [wLink] (wUnit (wEntry .wait 2)) [(0x0805, 5, 3)] : State).pl (0 : PlaneNo).val).links (5 : PortNo).val) = some wLink) ∧ ((wBond 0 [wLink] (wUnit (wEntry .wait 2)) [(0x0805, 5, 3)] : State).takesFrom (0 : PlaneNo).val = true) ∧ ((wBond 0 [wLink] (wUnit (wEntry .wait 2)) [(0x0805, 5, 3)] : State).sends (5 : PortNo).val wLink.frame = true) ∧ ((wBond 0 [wLink] (wUnit (wEntry .wait 2)) [(0x0805, 5, 3)] : State).rd 0x281F (0 : PlaneNo).val = 3 ∨ Tab.get 0 (wBond 0 [wLink] (wUnit (wEntry .wait 2)) [(0x0805, 5, 3)] : State).joins (0 : PlaneNo).val ≤ wLink.frame.rc) ∧ (((wBond 0 [wLink] (wUnit (wEntry .wait 2)) [(0x0805, 5, 3)] : State).bond (5 : PortNo).val).entry wLink.frame.port wLink.frame.seq = some (wEntry .wait 2 : BondEntry)) ∧ ((wEntry .wait 2 : BondEntry).state = .wait) ∧ ((wLink.headerOk && (false : Bool)) = false) := by decide +kernel

theorem witness_TheBondUnitSendsOneOfTwo_14 :
    (nextHead (Tab.get [] ((wBond 1 [wLink] (wUnit (wEntry .good 1)) [(0x0805, 5, 3)] : State).pl (1 : PlaneNo).val).links (5 : PortNo).val) = some wLink) ∧ ((wBond 1 [wLink] (wUnit (wEntry .good 1)) [(0x0805, 5, 3)] : State).takesFrom (1 : PlaneNo).val = true) ∧ ((wBond 1 [wLink] (wUnit (wEntry .good 1)) [(0x0805, 5, 3)] : State).sends (5 : PortNo).val wLink.frame = true) ∧ ((wBond 1 [wLink] (wUnit (wEntry .good 1)) [(0x0805, 5, 3)] : State).rd 0x281F (1 : PlaneNo).val = 3 ∨ Tab.get 0 (wBond 1 [wLink] (wUnit (wEntry .good 1)) [(0x0805, 5, 3)] : State).joins (1 : PlaneNo).val ≤ wLink.frame.rc) ∧ (((wBond 1 [wLink] (wUnit (wEntry .good 1)) [(0x0805, 5, 3)] : State).bond (5 : PortNo).val).entry wLink.frame.port wLink.frame.seq = some (wEntry .good 1 : BondEntry)) ∧ ((wEntry .good 1 : BondEntry).state = .good) ∧ ((wEntry .good 1 : BondEntry).seen.testBit (1 : PlaneNo).val = false) ∧ ((wLink.headerOk && (true : Bool)) = true) := by decide +kernel

theorem witness_TheBondUnitSendsOneOfTwo_15 :
    (nextHead (Tab.get [] ((wBond 1 [wLink] (wUnit (wEntry .sending 1)) [(0x0805, 5, 3)] : State).pl (1 : PlaneNo).val).links (5 : PortNo).val) = some wLink) ∧ ((wBond 1 [wLink] (wUnit (wEntry .sending 1)) [(0x0805, 5, 3)] : State).takesFrom (1 : PlaneNo).val = true) ∧ ((wBond 1 [wLink] (wUnit (wEntry .sending 1)) [(0x0805, 5, 3)] : State).sends (5 : PortNo).val wLink.frame = true) ∧ ((wBond 1 [wLink] (wUnit (wEntry .sending 1)) [(0x0805, 5, 3)] : State).rd 0x281F (1 : PlaneNo).val = 3 ∨ Tab.get 0 (wBond 1 [wLink] (wUnit (wEntry .sending 1)) [(0x0805, 5, 3)] : State).joins (1 : PlaneNo).val ≤ wLink.frame.rc) ∧ (((wBond 1 [wLink] (wUnit (wEntry .sending 1)) [(0x0805, 5, 3)] : State).bond (5 : PortNo).val).entry wLink.frame.port wLink.frame.seq = some (wEntry .sending 1 : BondEntry)) ∧ ((wEntry .sending 1 : BondEntry).state = .sending) ∧ ((wEntry .sending 1 : BondEntry).seen.testBit (1 : PlaneNo).val = false) ∧ ((wLink.headerOk && (true : Bool)) = true) ∧ (headRoom wLink.headLen ≤ (wBond 1 [wLink] (wUnit (wEntry .sending 1)) [(0x0805, 5, 3)] : State).fifoFree (5 : PortNo).val) := by decide +kernel

theorem witness_TheBondUnitSendsOneOfTwo_16 :
    (nextHead (Tab.get [] ((wBond 1 [wLink] { wUnit (wEntry .sending 1) with fifo := [wItem 16384] } [(0x0805, 5, 3)] : State).pl (1 : PlaneNo).val).links (5 : PortNo).val) = some wLink) ∧ ((wBond 1 [wLink] { wUnit (wEntry .sending 1) with fifo := [wItem 16384] } [(0x0805, 5, 3)] : State).takesFrom (1 : PlaneNo).val = true) ∧ ((wBond 1 [wLink] { wUnit (wEntry .sending 1) with fifo := [wItem 16384] } [(0x0805, 5, 3)] : State).sends (5 : PortNo).val wLink.frame = true) ∧ ((wBond 1 [wLink] { wUnit (wEntry .sending 1) with fifo := [wItem 16384] } [(0x0805, 5, 3)] : State).rd 0x281F (1 : PlaneNo).val = 3 ∨ Tab.get 0 (wBond 1 [wLink] { wUnit (wEntry .sending 1) with fifo := [wItem 16384] } [(0x0805, 5, 3)] : State).joins (1 : PlaneNo).val ≤ wLink.frame.rc) ∧ (((wBond 1 [wLink] { wUnit (wEntry .sending 1) with fifo := [wItem 16384] } [(0x0805, 5, 3)] : State).bond (5 : PortNo).val).entry wLink.frame.port wLink.frame.seq = some (wEntry .sending 1 : BondEntry)) ∧ ((wEntry .sending 1 : BondEntry).state = .sending) ∧ ((wEntry .sending 1 : BondEntry).seen.testBit (1 : PlaneNo).val = false) ∧ ((wLink.headerOk && (true : Bool)) = true) ∧ ((wBond 1 [wLink] { wUnit (wEntry .sending 1) with fifo := [wItem 16384] } [(0x0805, 5, 3)] : State).fifoFree (5 : PortNo).val < headRoom wLink.headLen) := by decide +kernel

theorem witness_TheBondUnitSendsOneOfTwo_17 :
    (nextHead (Tab.get [] ((wBond 0 [wLink] (wUnit (wEntry .good 1)) [(0x0805, 5, 3)] : State).pl (0 : PlaneNo).val).links (5 : PortNo).val) = some wLink) ∧ ((wBond 0 [wLink] (wUnit (wEntry .good 1)) [(0x0805, 5, 3)] : State).takesFrom (0 : PlaneNo).val = true) ∧ ((wBond 0 [wLink] (wUnit (wEntry .good 1)) [(0x0805, 5, 3)] : State).sends (5 : PortNo).val wLink.frame = true) ∧ ((wBond 0 [wLink] (wUnit (wEntry .good 1)) [(0x0805, 5, 3)] : State).rd 0x281F (0 : PlaneNo).val = 3 ∨ Tab.get 0 (wBond 0 [wLink] (wUnit (wEntry .good 1)) [(0x0805, 5, 3)] : State).joins (0 : PlaneNo).val ≤ wLink.frame.rc) ∧ (((wBond 0 [wLink] (wUnit (wEntry .good 1)) [(0x0805, 5, 3)] : State).bond (5 : PortNo).val).entry wLink.frame.port wLink.frame.seq = some (wEntry .good 1 : BondEntry)) ∧ ((wEntry .good 1 : BondEntry).state = .sending ∨ (wEntry .good 1 : BondEntry).state = .good ∨ (wEntry .good 1 : BondEntry).state = .replace) ∧ ((wEntry .good 1 : BondEntry).seen.testBit (0 : PlaneNo).val = true) := by decide +kernel

theorem witness_TheBondUnitSendsOneOfTwo_18 :
    (nextHead (Tab.get [] ((wBond 1 [wLink] (wUnit (wEntry .good 1)) [(0x0805, 5, 3)] : State).pl (1 : PlaneNo).val).links (5 : PortNo).val) = some wLink) ∧ ((wBond 1 [wLink] (wUnit (wEntry .good 1)) [(0x0805, 5, 3)] : State).takesFrom (1 : PlaneNo).val = true) ∧ ((wBond 1 [wLink] (wUnit (wEntry .good 1)) [(0x0805, 5, 3)] : State).sends (5 : PortNo).val wLink.frame = true) ∧ ((wBond 1 [wLink] (wUnit (wEntry .good 1)) [(0x0805, 5, 3)] : State).rd 0x281F (1 : PlaneNo).val = 3 ∨ Tab.get 0 (wBond 1 [wLink] (wUnit (wEntry .good 1)) [(0x0805, 5, 3)] : State).joins (1 : PlaneNo).val ≤ wLink.frame.rc) ∧ (((wBond 1 [wLink] (wUnit (wEntry .good 1)) [(0x0805, 5, 3)] : State).bond (5 : PortNo).val).entry wLink.frame.port wLink.frame.seq = some (wEntry .good 1 : BondEntry)) ∧ ((wEntry .good 1 : BondEntry).state = .sending ∨ (wEntry .good 1 : BondEntry).state = .good) ∧ ((wEntry .good 1 : BondEntry).seen.testBit (1 : PlaneNo).val = false) ∧ ((wLink.headerOk && (false : Bool)) = false) := by decide +kernel

theorem witness_TheBondUnitSendsOneOfTwo_19 :
    (nextHead (Tab.get [] ((wBond 1 [wLink] (wUnit (wEntry .replace 1)) [(0x0805, 5, 3)] : State).pl (1 : PlaneNo).val).links (5 : PortNo).val) = some wLink) ∧ ((wBond 1 [wLink] (wUnit (wEntry .replace 1)) [(0x0805, 5, 3)] : State).takesFrom (1 : PlaneNo).val = true) ∧ ((wBond 1 [wLink] (wUnit (wEntry .replace 1)) [(0x0805, 5, 3)] : State).sends (5 : PortNo).val wLink.frame = true) ∧ ((wBond 1 [wLink] (wUnit (wEntry .replace 1)) [(0x0805, 5, 3)] : State).rd 0x281F (1 : PlaneNo).val = 3 ∨ Tab.get 0 (wBond 1 [wLink] (wUnit (wEntry .replace 1)) [(0x0805, 5, 3)] : State).joins (1 : PlaneNo).val ≤ wLink.frame.rc) ∧ (((wBond 1 [wLink] (wUnit (wEntry .replace 1)) [(0x0805, 5, 3)] : State).bond (5 : PortNo).val).entry wLink.frame.port wLink.frame.seq = some (wEntry .replace 1 : BondEntry)) ∧ ((wEntry .replace 1 : BondEntry).state = .replace) ∧ ((wEntry .replace 1 : BondEntry).seen.testBit (1 : PlaneNo).val = false) ∧ ((wLink.headerOk && (true : Bool)) = true) ∧ ((wEntry .replace 1 : BondEntry).eaten = false) ∧ (headRoom wLink.headLen ≤ (wBond 1 [wLink] (wUnit (wEntry .replace 1)) [(0x0805, 5, 3)] : State).fifoFree (5 : PortNo).val) := by decide +kernel

theorem witness_TheBondUnitSendsOneOfTwo_20 :
    (nextHead (Tab.get [] ((wBond 1 [wLink] (wUnit (wEntry .replace 1)) [(0x0805, 5, 3)] : State).pl (1 : PlaneNo).val).links (5 : PortNo).val) = some wLink) ∧ ((wBond 1 [wLink] (wUnit (wEntry .replace 1)) [(0x0805, 5, 3)] : State).takesFrom (1 : PlaneNo).val = true) ∧ ((wBond 1 [wLink] (wUnit (wEntry .replace 1)) [(0x0805, 5, 3)] : State).sends (5 : PortNo).val wLink.frame = true) ∧ ((wBond 1 [wLink] (wUnit (wEntry .replace 1)) [(0x0805, 5, 3)] : State).rd 0x281F (1 : PlaneNo).val = 3 ∨ Tab.get 0 (wBond 1 [wLink] (wUnit (wEntry .replace 1)) [(0x0805, 5, 3)] : State).joins (1 : PlaneNo).val ≤ wLink.frame.rc) ∧ (((wBond 1 [wLink] (wUnit (wEntry .replace 1)) [(0x0805, 5, 3)] : State).bond (5 : PortNo).val).entry wLink.frame.port wLink.frame.seq = some (wEntry .replace 1 : BondEntry)) ∧ ((wEntry .replace 1 : BondEntry).state = .replace) ∧ ((wEntry .replace 1 : BondEntry).seen.testBit (1 : PlaneNo).val = false) ∧ ((wLink.headerOk && (false : Bool)) = false) := by decide +kernel

theorem witness_TheBondUnitSendsOneOfTwo_21 :
    (nextHead (Tab.get [] ((wBond 1 [wLink] (wUnit (wEntry .bad 1)) [(0x0805, 5, 3)] : State).pl (1 : PlaneNo).val).links (5 : PortNo).val) = some wLink) ∧ ((wBond 1 [wLink] (wUnit (wEntry .bad 1)) [(0x0805, 5, 3)] : State).takesFrom (1 : PlaneNo).val = true) ∧ ((wBond 1 [wLink] (wUnit (wEntry .bad 1)) [(0x0805, 5, 3)] : State).sends (5 : PortNo).val wLink.frame = true) ∧ ((wBond 1 [wLink] (wUnit (wEntry .bad 1)) [(0x0805, 5, 3)] : State).rd 0x281F (1 : PlaneNo).val = 3 ∨ Tab.get 0 (wBond 1 [wLink] (wUnit (wEntry .bad 1)) [(0x0805, 5, 3)] : State).joins (1 : PlaneNo).val ≤ wLink.frame.rc) ∧ (((wBond 1 [wLink] (wUnit (wEntry .bad 1)) [(0x0805, 5, 3)] : State).bond (5 : PortNo).val).entry wLink.frame.port wLink.frame.seq = some (wEntry .bad 1 : BondEntry)) ∧ ((wEntry .bad 1 : BondEntry).state = .bad) := by decide +kernel

theorem witness_TheBondUnitSendsOneOfTwo_22 :
    (nextHead (Tab.get [] ((wBond 0 [wLink] { Bond.init with retired := [(5, wFrame.seq, 0, true)] } [(0x0805, 5, 3)] : State).pl (0 : PlaneNo).val).links (5 : PortNo).val) = some wLink) ∧ ((wBond 0 [wLink] { Bond.init with retired := [(5, wFrame.seq, 0, true)] } [(0x0805, 5, 3)] : State).takesFrom (0 : PlaneNo).val = true) ∧ ((wBond 0 [wLink] { Bond.init with retired := [(5, wFrame.seq, 0, true)] } [(0x0805, 5, 3)] : State).sends (5 : PortNo).val wLink.frame = true) ∧ ((wBond 0 [wLink] { Bond.init with retired := [(5, wFrame.seq, 0, true)] } [(0x0805, 5, 3)] : State).rd 0x281F (0 : PlaneNo).val = 3 ∨ Tab.get 0 (wBond 0 [wLink] { Bond.init with retired := [(5, wFrame.seq, 0, true)] } [(0x0805, 5, 3)] : State).joins (0 : PlaneNo).val ≤ wLink.frame.rc) ∧ (((wBond 0 [wLink] { Bond.init with retired := [(5, wFrame.seq, 0, true)] } [(0x0805, 5, 3)] : State).bond (5 : PortNo).val).entry wLink.frame.port wLink.frame.seq = none) ∧ ((((wBond 0 [wLink] { Bond.init with retired := [(5, wFrame.seq, 0, true)] } [(0x0805, 5, 3)] : State).bond (5 : PortNo).val).retired.filter (fun z_r => !(wBond 0 [wLink] { Bond.init with retired := [(5, wFrame.seq, 0, true)] } [(0x0805, 5, 3)] : State).outlived z_r.2.2.1)).find? (fun z_r => z_r.1 == wLink.frame.port && z_r.2.1 == wLink.frame.seq) = some ((5, wFrame.seq, 0, true) : Nat × Nat × Nat × Bool)) ∧ (((5, wFrame.seq, 0, true) : Nat × Nat × Nat × Bool).2.2.2 = true) := by decide +kernel

theorem witness_TheBondUnitSendsOneOfTwo_23 :
    (nextHead (Tab.get [] ((wBond 0 [wLink] { Bond.init with retired := [(5, wFrame.seq, 0, false)] } [(0x0805, 5, 3)] : State).pl (0 : PlaneNo).val).links (5 : PortNo).val) = some wLink) ∧ ((wBond 0 [wLink] { Bond.init with retired := [(5, wFrame.seq, 0, false)] } [(0x0805, 5, 3)] : State).takesFrom (0 : PlaneNo).val = true) ∧ ((wBond 0 [wLink] { Bond.init with retired := [(5, wFrame.seq, 0, false)] } [(0x0805, 5, 3)] : State).sends (5 : PortNo).val wLink.frame = true) ∧ ((wBond 0 [wLink] { Bond.init with retired := [(5, wFrame.seq, 0, false)] } [(0x0805, 5, 3)] : State).rd 0x281F (0 : PlaneNo).val = 3 ∨ Tab.get 0 (wBond 0 [wLink] { Bond.init with retired := [(5, wFrame.seq, 0, false)] } [(0x0805, 5, 3)] : State).joins (0 : PlaneNo).val ≤ wLink.frame.rc) ∧ (((wBond 0 [wLink] { Bond.init with retired := [(5, wFrame.seq, 0, false)] } [(0x0805, 5, 3)] : State).bond (5 : PortNo).val).entry wLink.frame.port wLink.frame.seq = none) ∧ ((((wBond 0 [wLink] { Bond.init with retired := [(5, wFrame.seq, 0, false)] } [(0x0805, 5, 3)] : State).bond (5 : PortNo).val).retired.filter (fun z_r => !(wBond 0 [wLink] { Bond.init with retired := [(5, wFrame.seq, 0, false)] } [(0x0805, 5, 3)] : State).outlived z_r.2.2.1)).find? (fun z_r => z_r.1 == wLink.frame.port && z_r.2.1 == wLink.frame.seq) = some ((5, wFrame.seq, 0, false) : Nat × Nat × Nat × Bool)) ∧ (((5, wFrame.seq, 0, false) : Nat × Nat × Nat × Bool).2.2.2 = false) ∧ ((wLink.headerOk && (true : Bool)) = true) ∧ (((wBond 0 [wLink] { Bond.init with retired := [(5, wFrame.seq, 0, false)] } [(0x0805, 5, 3)] : State).recover (5 : PortNo).val wLink.frame).2 = true) ∧ (headRoom wLink.headLen ≤ (wBond 0 [wLink] { Bond.init with retired := [(5, wFrame.seq, 0, false)] } [(0x0805, 5, 3)] : State).fifoFree (5 : PortNo).val) := by decide +kernel

theorem witness_TheBondUnitSendsOneOfTwo_24 :
    (nextHead (Tab.get [] ((wBond 0 [wLink] { Bond.init with retired := [(5, wFrame.seq, 0, false)] } [(0x0805, 5, 3)] : State).pl (0 : PlaneNo).val).links (5 : PortNo).val) = some wLink) ∧ ((wBond 0 [wLink] { Bond.init with retired := [(5, wFrame.seq, 0, false)] } [(0x0805, 5, 3)] : State).takesFrom (0 : PlaneNo).val = true) ∧ ((wBond 0 [wLink] { Bond.init with retired := [(5, wFrame.seq, 0, false)] } [(0x0805, 5, 3)] : State).sends (5 : PortNo).val wLink.frame = true) ∧ ((wBond 0 [wLink] { Bond.init with retired := [(5, wFrame.seq, 0, false)] } [(0x0805, 5, 3)] : State).rd 0x281F (0 : PlaneNo).val = 3 ∨ Tab.get 0 (wBond 0 [wLink] { Bond.init with retired := [(5, wFrame.seq, 0, false)] } [(0x0805, 5, 3)] : State).joins (0 : PlaneNo).val ≤ wLink.frame.rc) ∧ (((wBond 0 [wLink] { Bond.init with retired := [(5, wFrame.seq, 0, false)] } [(0x0805, 5, 3)] : State).bond (5 : PortNo).val).entry wLink.frame.port wLink.frame.seq = none) ∧ ((((wBond 0 [wLink] { Bond.init with retired := [(5, wFrame.seq, 0, false)] } [(0x0805, 5, 3)] : State).bond (5 : PortNo).val).retired.filter (fun z_r => !(wBond 0 [wLink] { Bond.init with retired := [(5, wFrame.seq, 0, false)] } [(0x0805, 5, 3)] : State).outlived z_r.2.2.1)).find? (fun z_r => z_r.1 == wLink.frame.port && z_r.2.1 == wLink.frame.seq) = some ((5, wFrame.seq, 0, false) : Nat × Nat × Nat × Bool)) ∧ (((5, wFrame.seq, 0, false) : Nat × Nat × Nat × Bool).2.2.2 = false) ∧ ((wLink.headerOk && (false : Bool)) = false) := by decide +kernel

theorem witness_TheBondUnitSendsOneOfTwo_25 :
    (takeDone (Tab.get [] ((wUp [] : State).pl (1 : PlaneNo).val).links (143 : PortNo).val) = none) := by decide

theorem witness_TheBondUnitSendsOneOfTwo_26 :
    (takeDone (Tab.get [] ((wBond 0 [wLinkEnd .lead 77] (wUnit (wEntry .sending 1)) [(0x0805, 5, 3)] : State).pl (0 : PlaneNo).val).links (5 : PortNo).val) = some ((wLinkEnd .lead 77 : LinkCopy), ([] : List LinkCopy))) := by decide +kernel

theorem witness_TheBondUnitSendsOneOfTwo_27 :
    ((wLinkEnd .lead 77 : LinkCopy).role = .lead) ∧ (((wBond 0 [] (wUnit (wEntry .sending 1)) [(0x0805, 5, 3)] : State).bond (5 : PortNo).val).entry (wLinkEnd .lead 77 : LinkCopy).frame.port (wLinkEnd .lead 77 : LinkCopy).frame.seq = some (wEntry .sending 1 : BondEntry)) ∧ ((wEntry .sending 1 : BondEntry).state = .sending) ∧ ((wEntry .sending 1 : BondEntry).first = (0 : PlaneNo).val) ∧ ((0 : Nat) = 0) ∧ ((wEntry .sending 1 : BondEntry).twinEnd = none) := by decide

theorem witness_TheBondUnitSendsOneOfTwo_28 :
    ((wLinkEnd .lead 77 : LinkCopy).role = .lead) ∧ (((wBond 0 [] (wUnit (wEntry .sending 1)) [(0x0805, 5, 3)] : State).bond (5 : PortNo).val).entry (wLinkEnd .lead 77 : LinkCopy).frame.port (wLinkEnd .lead 77 : LinkCopy).frame.seq = some (wEntry .sending 1 : BondEntry)) ∧ ((wEntry .sending 1 : BondEntry).state = .sending) ∧ ((wEntry .sending 1 : BondEntry).first = (0 : PlaneNo).val) ∧ ((1 : Nat) = 1) ∧ ((wEntry .sending 1 : BondEntry).twin = false) := by decide

theorem witness_TheBondUnitSendsOneOfTwo_29 :
    ((wLinkEnd .lead 77 : LinkCopy).role = .lead) ∧ (((wBond 0 [] (wUnit ({ wEntry .sending 3 with twin := true })) [(0x0805, 5, 3)] : State).bond (5 : PortNo).val).entry (wLinkEnd .lead 77 : LinkCopy).frame.port (wLinkEnd .lead 77 : LinkCopy).frame.seq = some ({ wEntry .sending 3 with twin := true } : BondEntry)) ∧ (({ wEntry .sending 3 with twin := true } : BondEntry).state = .sending) ∧ (({ wEntry .sending 3 with twin := true } : BondEntry).first = (0 : PlaneNo).val) ∧ ((1 : Nat) = 1) ∧ (({ wEntry .sending 3 with twin := true } : BondEntry).twin = true) := by decide

theorem witness_TheBondUnitSendsOneOfTwo_30 :
    ((wLinkEnd .lead 77 : LinkCopy).role = .lead) ∧ (((wBond 0 [] (wUnit (wEntry .sending 1)) [(0x0805, 5, 3)] : State).bond (5 : PortNo).val).entry (wLinkEnd .lead 77 : LinkCopy).frame.port (wLinkEnd .lead 77 : LinkCopy).frame.seq = some (wEntry .sending 1 : BondEntry)) ∧ ((wEntry .sending 1 : BondEntry).state = .sending) ∧ ((wEntry .sending 1 : BondEntry).first = (0 : PlaneNo).val) ∧ ((3 : Nat) = 2 ∨ (3 : Nat) = 3) ∧ ((wEntry .sending 1 : BondEntry).twin = false ∨ ((wEntry .sending 1 : BondEntry).held = true ∧ (wEntry .sending 1 : BondEntry).twinEnd = none)) := by decide

theorem witness_TheBondUnitSendsOneOfTwo_31 :
    ((wLinkEnd .twin 9 : LinkCopy).role = .twin) ∧ (((wBond 0 [] (wUnit (wEntry .good 3)) [(0x0805, 5, 3)] : State).bond (5 : PortNo).val).entry (wLinkEnd .twin 9 : LinkCopy).frame.port (wLinkEnd .twin 9 : LinkCopy).frame.seq = some (wEntry .good 3 : BondEntry)) ∧ ((wEntry .good 3 : BondEntry).state = .good) ∧ ((0 : Nat) = 0) ∧ ((wEntry .good 3 : BondEntry).digest = (wLinkEnd .twin 9 : LinkCopy).digest) ∧ ((wEntry .good 3 : BondEntry).seen = 3) := by decide

theorem witness_TheBondUnitSendsOneOfTwo_32 :
    ((wLinkEnd .twin 8 : LinkCopy).role = .twin) ∧ (((wBond 0 [] (wUnit (wEntry .good 3)) [(0x0805, 5, 3)] : State).bond (5 : PortNo).val).entry (wLinkEnd .twin 8 : LinkCopy).frame.port (wLinkEnd .twin 8 : LinkCopy).frame.seq = some (wEntry .good 3 : BondEntry)) ∧ ((wEntry .good 3 : BondEntry).state = .good) ∧ ((0 : Nat) = 0) ∧ ((wEntry .good 3 : BondEntry).digest ≠ (wLinkEnd .twin 8 : LinkCopy).digest) := by decide

theorem witness_TheBondUnitSendsOneOfTwo_33 :
    ((wLinkEnd .twin 8 : LinkCopy).role = .twin) ∧ (((wBond 0 [] (wUnit ({ wEntry .replace 3 with twin := true, held := true })) [(0x0805, 5, 3)] : State).bond (5 : PortNo).val).entry (wLinkEnd .twin 8 : LinkCopy).frame.port (wLinkEnd .twin 8 : LinkCopy).frame.seq = some ({ wEntry .replace 3 with twin := true, held := true } : BondEntry)) ∧ (({ wEntry .replace 3 with twin := true, held := true } : BondEntry).state = .replace) ∧ ((0 : Nat) = 0) ∧ (({ wEntry .replace 3 with twin := true, held := true } : BondEntry).held = true) ∧ (({ wEntry .replace 3 with twin := true, held := true } : BondEntry).eaten = false) := by decide

theorem witness_TheBondUnitSendsOneOfTwo_34 :
    ((wLinkEnd .twin 8 : LinkCopy).role = .twin) ∧ (((wBond 0 [] (wUnit ({ wEntry .replace 3 with twin := true, held := true })) [(0x0805, 5, 3)] : State).bond (5 : PortNo).val).entry (wLinkEnd .twin 8 : LinkCopy).frame.port (wLinkEnd .twin 8 : LinkCopy).frame.seq = some ({ wEntry .replace 3 with twin := true, held := true } : BondEntry)) ∧ (({ wEntry .replace 3 with twin := true, held := true } : BondEntry).state = .replace) ∧ ((2 : Nat) = 2 ∨ (2 : Nat) = 3) ∧ (({ wEntry .replace 3 with twin := true, held := true } : BondEntry).eaten = false) := by decide

theorem witness_TheBondUnitSendsOneOfTwo_36 :
    ((wEntry .good 1 : BondEntry).held = false) ∧ (((wBond 1 [] (wUnit (wEntry .good 1)) [] : State).bond (5 : PortNo).val).retired.length < 8192) := by decide

theorem witness_TheBondUnitSendsOneOfTwo_37 :
    ((wEntry .wait 2 : BondEntry).state = .wait ∨ (wEntry .wait 2 : BondEntry).state = .sending ∨ (wEntry .wait 2 : BondEntry).state = .good) ∧ ((wEntry .wait 2 : BondEntry).seen = 1 ∨ (wEntry .wait 2 : BondEntry).seen = 2) ∧ ((wBond 1 [] (wUnit (wEntry .wait 2)) [] : State).stageAtLeast 2 = true) ∧ ((wBond 1 [] (wUnit (wEntry .wait 2)) [] : State).isOn (wEntry .wait 2 : BondEntry).missing = true) := by decide

theorem witness_TheBondUnitSendsOneOfTwo_38 :
    ((wEntry .replace 1 : BondEntry).state = .replace) ∧ ((wEntry .replace 1 : BondEntry).twin = false) ∧ ((wEntry .replace 1 : BondEntry).first ≤ 1) ∧ ((wBond 1 [] (wUnit (wEntry .replace 1)) [] : State).stageAtLeast 2 = true) ∧ ((wBond 1 [] (wUnit (wEntry .replace 1)) [] : State).isOn (1 - (wEntry .replace 1 : BondEntry).first) = true) := by decide

theorem witness_TheBondUnitSendsOneOfTwo_39 :
    (({ wEntry .replace 1 with rejected := true, sent := false } : BondEntry).rejected = true) ∧ (({ wEntry .replace 1 with rejected := true, sent := false } : BondEntry).sent = false) := by decide

theorem witness_TheBondUnitSendsOneOfTwo_40 :
    ((143 : Fin 146).val < 144) := by decide

theorem witness_TheBondUnitSendsOneOfTwo_41 :
    (144 ≤ (145 : Fin 146).val) := by decide

theorem witness_TheBondUnitSendsOneOfTwo_42 :
    (Tab.find? ({ wUp [] with sustain := [(165 * 2 ^ 32 + 143, (0, 1000))] } : State).sustain (165 * 2 ^ 32 + (143 : PortNo).val) = some ((0 : Nat), (1000 : Nat))) ∧ (1000 ≤ (1000 : Nat)) ∧ ((1000 : Nat) < raisedRun) ∧ (({ wUp [] with sustain := [(165 * 2 ^ 32 + 143, (0, 1000))] } : State).tickRC (0 : Nat) / 400000 ≤ (0 : Nat) + 1) := by decide

theorem witness_TheBondUnitSendsOneOfTwo_43 :
    ((Tab.find? ({ wUp [] with sustain := [(165 * 2 ^ 32 + 143, (0, 999))] } : State).sustain (165 * 2 ^ 32 + (143 : PortNo).val)).all (fun x => decide (x.2 < 1000 ∨ raisedRun ≤ x.2 ∨ x.1 + 1 < ({ wUp [] with sustain := [(165 * 2 ^ 32 + 143, (0, 999))] } : State).tickRC (0 : Nat) / 400000)) = true) := by decide

theorem witness_RecoveryAndSequencesReset_1 :
    (Tab.find? ({ wUp [] with recovery := [(1023, ⟨5, 1, 0⟩)] } : State).recovery (1023 : Fin 1024).val = some (⟨5, 1, 0⟩ : Recovery)) ∧ ((⟨5, 1, 0⟩ : Recovery).accepted + bytesAt 8 (({ wUp [] with recovery := [(1023, ⟨5, 1, 0⟩)] } : State).recoveryRecord (1023 : Fin 1024).val) 4 5 * 400000 ≤ ({ wUp [] with recovery := [(1023, ⟨5, 1, 0⟩)] } : State).tickRC (0 : Nat)) := by decide

theorem witness_RecoveryAndSequencesReset_2 :
    (Tab.find? ({ wUp [(0x2832, 1023, 2 ^ 16)] with recovery := [(1023, ⟨5, 1, 0⟩)] } : State).recovery (1023 : Fin 1024).val = some (⟨5, 1, 0⟩ : Recovery)) ∧ (({ wUp [(0x2832, 1023, 2 ^ 16)] with recovery := [(1023, ⟨5, 1, 0⟩)] } : State).tickRC (0 : Nat) < (⟨5, 1, 0⟩ : Recovery).accepted + bytesAt 8 (({ wUp [(0x2832, 1023, 2 ^ 16)] with recovery := [(1023, ⟨5, 1, 0⟩)] } : State).recoveryRecord (1023 : Fin 1024).val) 4 5 * 400000) := by decide

theorem witness_RecoveryAndSequencesReset_3 :
    (Tab.find? (wUp [] : State).recovery (0 : Fin 1024).val = none) := by decide

theorem witness_RecoveryAndSequencesReset_4 :
    (Ready ({ wUp [] with recovery := [(1023, ⟨5, 1, 0⟩)] } : State) (wReq 1023 [1] : Req) roleSite) ∧ (FullService ({ wUp [] with recovery := [(1023, ⟨5, 1, 0⟩)] } : State)) ∧ ((wReq 1023 [1] : Req).inst.toNat < 1024) ∧ ((wReq 1023 [1] : Req).data = [1]) := by decide

theorem witness_RecoveryAndSequencesReset_5 :
    (Ready (wUp [(0x282D, 2047, 77)] : State) (wReq 2047 [1] : Req) roleSite) ∧ (FullService (wUp [(0x282D, 2047, 77)] : State)) ∧ ((wReq 2047 [1] : Req).inst.toNat < 2048) ∧ ((wReq 2047 [1] : Req).data = [1]) := by decide

theorem witness_PlanesAreJudgedAndReseeded_1 :
    (Quiet (State.reset : State)) ∧ ((State.reset : State).holder = none ∨ (State.reset : State).bothBonded = false) := by decide

theorem witness_PlanesAreJudgedAndReseeded_2 :
    (Quiet (wJudge id [] : State)) ∧ ((wJudge id [] : State).holder.isSome = true) ∧ ((((wJudge id [] : State).tick (0 : Nat)).countAbsences).judgement 0 = none) ∧ ((((wJudge id [] : State).tick (0 : Nat)).countAbsences).judgement 1 = none) ∧ ((wJudge id [] : State).bothBonded = true) ∧ ((wJudge id [] : State).rd 0x281C 0 ≠ 1 ∨ ((wJudge id [] : State).tick (0 : Nat)).inSecond (wJudge id [] : State).judge.div < (wJudge id [] : State).rd 0x281B 0) := by decide +kernel

theorem witness_PlanesAreJudgedAndReseeded_3 :
    (Quiet (wJudge wInteg [] : State)) ∧ ((wJudge wInteg [] : State).holder.isSome = true) ∧ ((wJudge wInteg [] : State).bothBonded = true) ∧ ((wJudge wInteg [] : State).reseed = none) ∧ ((wJudge wInteg [] : State).committing = none) ∧ ((((wJudge wInteg [] : State).tick (0 : Nat)).countAbsences).judgement (0 : PlaneNo).val = some (1 : Nat)) ∧ ((((wJudge wInteg [] : State).tick (0 : Nat)).countAbsences).judgement (1 - (0 : PlaneNo).val) = none) ∧ ((wJudge wInteg [] : State).rd 0x281D 0 ≠ 0) ∧ (((((wJudge wInteg [] : State).clk + (0 : Nat)) :: Tab.get [] (wJudge wInteg [] : State).judge.judged (0 : PlaneNo).val).filter (fun t => decide ((wJudge wInteg [] : State).clk + (0 : Nat) < t + 34560000000000))).length < (wJudge wInteg [] : State).rd 0x281E 0) := by decide +kernel

theorem witness_PlanesAreJudgedAndReseeded_4 :
    (Quiet (wJudge wInteg [(0x281D, 0, 0)] : State)) ∧ ((wJudge wInteg [(0x281D, 0, 0)] : State).holder.isSome = true) ∧ ((wJudge wInteg [(0x281D, 0, 0)] : State).bothBonded = true) ∧ ((wJudge wInteg [(0x281D, 0, 0)] : State).reseed = none) ∧ ((wJudge wInteg [(0x281D, 0, 0)] : State).committing = none) ∧ ((((wJudge wInteg [(0x281D, 0, 0)] : State).tick (0 : Nat)).countAbsences).judgement (0 : PlaneNo).val = some (1 : Nat)) ∧ ((((wJudge wInteg [(0x281D, 0, 0)] : State).tick (0 : Nat)).countAbsences).judgement (1 - (0 : PlaneNo).val) = none) ∧ ((wJudge wInteg [(0x281D, 0, 0)] : State).rd 0x281D 0 = 0) ∧ (((((wJudge wInteg [(0x281D, 0, 0)] : State).clk + (0 : Nat)) :: Tab.get [] (wJudge wInteg [(0x281D, 0, 0)] : State).judge.judged (0 : PlaneNo).val).filter (fun t => decide ((wJudge wInteg [(0x281D, 0, 0)] : State).clk + (0 : Nat) < t + 34560000000000))).length < (wJudge wInteg [(0x281D, 0, 0)] : State).rd 0x281E 0) := by decide +kernel

theorem witness_PlanesAreJudgedAndReseeded_5 :
    (Quiet (wJudge wIntegs [] : State)) ∧ ((wJudge wIntegs [] : State).holder.isSome = true) ∧ ((wJudge wIntegs [] : State).bothBonded = true) ∧ ((wJudge wIntegs [] : State).reseed = none) ∧ ((wJudge wIntegs [] : State).committing = none) ∧ ((((wJudge wIntegs [] : State).tick (0 : Nat)).countAbsences).judgement 0 = some (1 : Nat)) ∧ ((((wJudge wIntegs [] : State).tick (0 : Nat)).countAbsences).judgement 1 = some (1 : Nat)) ∧ ((wJudge wIntegs [] : State).rd 0x281D 0 ≠ 0) ∧ (((((wJudge wIntegs [] : State).clk + (0 : Nat)) :: Tab.get [] (wJudge wIntegs [] : State).judge.judged 1).filter (fun t => decide ((wJudge wIntegs [] : State).clk + (0 : Nat) < t + 34560000000000))).length < (wJudge wIntegs [] : State).rd 0x281E 0) := by decide +kernel

theorem witness_PlanesAreJudgedAndReseeded_6 :
    (Quiet (wJudge wInteg [(0x281E, 0, 1)] : State)) ∧ ((wJudge wInteg [(0x281E, 0, 1)] : State).holder.isSome = true) ∧ ((wJudge wInteg [(0x281E, 0, 1)] : State).bothBonded = true) ∧ ((wJudge wInteg [(0x281E, 0, 1)] : State).reseed = none) ∧ ((wJudge wInteg [(0x281E, 0, 1)] : State).committing = none) ∧ ((((wJudge wInteg [(0x281E, 0, 1)] : State).tick (0 : Nat)).countAbsences).judgement (0 : PlaneNo).val = some (1 : Nat)) ∧ ((((wJudge wInteg [(0x281E, 0, 1)] : State).tick (0 : Nat)).countAbsences).judgement (1 - (0 : PlaneNo).val) = none) ∧ ((wJudge wInteg [(0x281E, 0, 1)] : State).rd 0x281E 0 ≤ ((((wJudge wInteg [(0x281E, 0, 1)] : State).clk + (0 : Nat)) :: Tab.get [] (wJudge wInteg [(0x281E, 0, 1)] : State).judge.judged (0 : PlaneNo).val).filter (fun t => decide ((wJudge wInteg [(0x281E, 0, 1)] : State).clk + (0 : Nat) < t + 34560000000000))).length) := by decide +kernel

theorem witness_PlanesAreJudgedAndReseeded_7 :
    (Quiet (wJudge (fun j => { j with div := ⟨0, 64, 0⟩ }) [] : State)) ∧ ((wJudge (fun j => { j with div := ⟨0, 64, 0⟩ }) [] : State).holder.isSome = true) ∧ ((wJudge (fun j => { j with div := ⟨0, 64, 0⟩ }) [] : State).bothBonded = true) ∧ ((wJudge (fun j => { j with div := ⟨0, 64, 0⟩ }) [] : State).reseed = none) ∧ ((wJudge (fun j => { j with div := ⟨0, 64, 0⟩ }) [] : State).committing = none) ∧ ((((wJudge (fun j => { j with div := ⟨0, 64, 0⟩ }) [] : State).tick (0 : Nat)).countAbsences).judgement 0 = none) ∧ ((((wJudge (fun j => { j with div := ⟨0, 64, 0⟩ }) [] : State).tick (0 : Nat)).countAbsences).judgement 1 = none) ∧ ((wJudge (fun j => { j with div := ⟨0, 64, 0⟩ }) [] : State).rd 0x281C 0 = 1) ∧ ((wJudge (fun j => { j with div := ⟨0, 64, 0⟩ }) [] : State).rd 0x281B 0 ≤ ((wJudge (fun j => { j with div := ⟨0, 64, 0⟩ }) [] : State).tick (0 : Nat)).inSecond (wJudge (fun j => { j with div := ⟨0, 64, 0⟩ }) [] : State).judge.div) := by decide +kernel

theorem witness_PlanesAreJudgedAndReseeded_8 :
    (Quiet (wUp [] : State)) ∧ ((wUp [] : State).activationDiffers 0 = false) ∧ ((wUp [] : State).activationDiffers 1 = false) := by decide

theorem witness_PlanesAreJudgedAndReseeded_9 :
    (Quiet wDiffer) ∧ (wDiffer.bothBonded = true) ∧ (wDiffer.reseed = none) ∧ (wDiffer.committing = none) ∧ (wDiffer.activationDiffers (0 : PlaneNo).val = true) ∧ (wDiffer.activationDiffers (1 - (0 : PlaneNo).val) = false) ∧ (wDiffer.rd 0x281D 0 ≠ 0) ∧ ((((wDiffer.clk + (0 : Nat)) :: Tab.get [] wDiffer.judge.judged (0 : PlaneNo).val).filter (fun t => decide (wDiffer.clk + (0 : Nat) < t + 34560000000000))).length < wDiffer.rd 0x281E 0) := by decide

theorem witness_PlanesAreJudgedAndReseeded_10 :
    (Quiet wDiffer2) ∧ (wDiffer2.bothBonded = true) ∧ (wDiffer2.reseed = none) ∧ (wDiffer2.committing = none) ∧ (wDiffer2.activationDiffers 0 = true) ∧ (wDiffer2.activationDiffers 1 = true) ∧ (wDiffer2.rd 0x281D 0 ≠ 0) ∧ ((((wDiffer2.clk + (0 : Nat)) :: Tab.get [] wDiffer2.judge.judged 1).filter (fun t => decide (wDiffer2.clk + (0 : Nat) < t + 34560000000000))).length < wDiffer2.rd 0x281E 0) := by decide

theorem witness_PlanesAreJudgedAndReseeded_11 :
    (Quiet ({ wDiffer with reseed := some (wReseedOf 1) } : State)) ∧ (({ wDiffer with reseed := some (wReseedOf 1) } : State).bothBonded = false ∨ ({ wDiffer with reseed := some (wReseedOf 1) } : State).reseed.isSome = true) ∧ (({ wDiffer with reseed := some (wReseedOf 1) } : State).activationDiffers (0 : PlaneNo).val = true) ∧ (({ wDiffer with reseed := some (wReseedOf 1) } : State).activationDiffers (1 - (0 : PlaneNo).val) = false) := by decide

theorem witness_PlanesAreJudgedAndReseeded_12 :
    ((wUp [] : State).reseed.all (fun r => r.plane != (1 : PlaneNo).val) = true ∨ (wUp [] : State).rd 0x2826 0 ≠ 3 ∨ (wUp [] : State).isOn (1 - (1 : PlaneNo).val) = false ∨ ((wUp [] : State).dom (1 : PlaneNo).val ≠ 2 ∧ (wUp [] : State).dom (1 : PlaneNo).val ≠ 4)) := by decide

theorem witness_PlanesAreJudgedAndReseeded_13 :
    ((wReseed 1 [(0x2826, 0, 3)] : State).reseed = some (wReseedOf 1 : Reseed)) ∧ ((wReseedOf 1 : Reseed).plane = (1 : PlaneNo).val) ∧ ((wReseed 1 [(0x2826, 0, 3)] : State).rd 0x2826 0 = 3) ∧ ((wReseed 1 [(0x2826, 0, 3)] : State).isOn (1 - (1 : PlaneNo).val) = true) ∧ ((wReseed 1 [(0x2826, 0, 3)] : State).dom (1 : PlaneNo).val = 2 ∨ (wReseed 1 [(0x2826, 0, 3)] : State).dom (1 : PlaneNo).val = 4) := by decide

theorem witness_PlanesAreJudgedAndReseeded_14 :
    (Quiet ({ wReseed 1 [(0x2826, 0, 4)] with joins := [(1, 4000000000000)] } : State)) ∧ (({ wReseed 1 [(0x2826, 0, 4)] with joins := [(1, 4000000000000)] } : State).reseed.all (fun r => r.plane != (1 : PlaneNo).val) = true ∨ ({ wReseed 1 [(0x2826, 0, 4)] with joins := [(1, 4000000000000)] } : State).rd 0x2826 0 ≠ 4 ∨ ({ wReseed 1 [(0x2826, 0, 4)] with joins := [(1, 4000000000000)] } : State).tickRC (0 : Nat) < Tab.get 0 ({ wReseed 1 [(0x2826, 0, 4)] with joins := [(1, 4000000000000)] } : State).joins (1 : PlaneNo).val) := by decide

theorem witness_PlanesAreJudgedAndReseeded_15 :
    (Quiet (wReseed 1 [(0x2826, 0, 4), (0x281F, 1, 1)] : State)) ∧ ((wReseed 1 [(0x2826, 0, 4), (0x281F, 1, 1)] : State).reseed = some (wReseedOf 1 : Reseed)) ∧ ((wReseedOf 1 : Reseed).plane = (1 : PlaneNo).val) ∧ ((wReseed 1 [(0x2826, 0, 4), (0x281F, 1, 1)] : State).rd 0x2826 0 = 4) ∧ (Tab.get 0 (wReseed 1 [(0x2826, 0, 4), (0x281F, 1, 1)] : State).joins (1 : PlaneNo).val ≤ (wReseed 1 [(0x2826, 0, 4), (0x281F, 1, 1)] : State).tickRC (0 : Nat)) ∧ ((1 : PlaneNo).val = 0 ∨ (wReseed 1 [(0x2826, 0, 4), (0x281F, 1, 1)] : State).judge.withheld = none) := by decide

theorem witness_PlanesAreJudgedAndReseeded_16 :
    (({ wReseed 1 [(0x2826, 0, 4), (0x281F, 1, 1)] with reseed := some { wReseedOf 1 with who := some ⟨0, 3, 7⟩ }, sessions := [(0, wSessA 0x30)] } : State).owed = []) ∧ (({ wReseed 1 [(0x2826, 0, 4), (0x281F, 1, 1)] with reseed := some { wReseedOf 1 with who := some ⟨0, 3, 7⟩ }, sessions := [(0, wSessA 0x30)] } : State).sessions = [((0 : Nat), (wSessA 0x30 : Session))]) ∧ ((wSessA 0x30 : Session).isOpen = true) ∧ ((wSessA 0x30 : Session).requests = [(wReqA 0x30 : Request)]) ∧ ((wReqA 0x30 : Request).accepted = true) ∧ ((wReqA 0x30 : Request).started = true) ∧ ((wReqA 0x30 : Request).op = 0x30) ∧ (({ wReseed 1 [(0x2826, 0, 4), (0x281F, 1, 1)] with reseed := some { wReseedOf 1 with who := some ⟨0, 3, 7⟩ }, sessions := [(0, wSessA 0x30)] } : State).reseed = some ({ wReseedOf 1 with who := some ⟨0, 3, 7⟩ } : Reseed)) ∧ (({ wReseedOf 1 with who := some ⟨0, 3, 7⟩ } : Reseed).plane = (1 : PlaneNo).val) ∧ (({ wReseedOf 1 with who := some ⟨0, 3, 7⟩ } : Reseed).who = some ⟨(0 : Nat), (wSessA 0x30 : Session).gen, (wReqA 0x30 : Request).tag⟩) ∧ (({ wReseed 1 [(0x2826, 0, 4), (0x281F, 1, 1)] with reseed := some { wReseedOf 1 with who := some ⟨0, 3, 7⟩ }, sessions := [(0, wSessA 0x30)] } : State).rd 0x2826 0 = 4) ∧ (Tab.get 0 ({ wReseed 1 [(0x2826, 0, 4), (0x281F, 1, 1)] with reseed := some { wReseedOf 1 with who := some ⟨0, 3, 7⟩ }, sessions := [(0, wSessA 0x30)] } : State).joins (1 : PlaneNo).val ≤ ({ wReseed 1 [(0x2826, 0, 4), (0x281F, 1, 1)] with reseed := some { wReseedOf 1 with who := some ⟨0, 3, 7⟩ }, sessions := [(0, wSessA 0x30)] } : State).tickRC (0 : Nat)) ∧ ((1 : PlaneNo).val = 0 ∨ ({ wReseed 1 [(0x2826, 0, 4), (0x281F, 1, 1)] with reseed := some { wReseedOf 1 with who := some ⟨0, 3, 7⟩ }, sessions := [(0, wSessA 0x30)] } : State).judge.withheld = none) := by decide

theorem witness_PlanesAreJudgedAndReseeded_17 :
    (Quiet ((fun s : State => { s with judge := { s.judge with withheld := some 3 } }) (wReseed 1 [(0x2826, 0, 4), (0x281F, 1, 1)]) : State)) ∧ (((fun s : State => { s with judge := { s.judge with withheld := some 3 } }) (wReseed 1 [(0x2826, 0, 4), (0x281F, 1, 1)]) : State).reseed = some (wReseedOf 1 : Reseed)) ∧ ((wReseedOf 1 : Reseed).plane = 1) ∧ (((fun s : State => { s with judge := { s.judge with withheld := some 3 } }) (wReseed 1 [(0x2826, 0, 4), (0x281F, 1, 1)]) : State).rd 0x2826 0 = 4) ∧ (Tab.get 0 ((fun s : State => { s with judge := { s.judge with withheld := some 3 } }) (wReseed 1 [(0x2826, 0, 4), (0x281F, 1, 1)]) : State).joins 1 ≤ ((fun s : State => { s with judge := { s.judge with withheld := some 3 } }) (wReseed 1 [(0x2826, 0, 4), (0x281F, 1, 1)]) : State).tickRC (0 : Nat)) ∧ (((fun s : State => { s with judge := { s.judge with withheld := some 3 } }) (wReseed 1 [(0x2826, 0, 4), (0x281F, 1, 1)]) : State).judge.withheld = some (3 : Nat)) ∧ (((fun s : State => { s with judge := { s.judge with withheld := some 3 } }) (wReseed 1 [(0x2826, 0, 4), (0x281F, 1, 1)]) : State).bonded 0 = true) ∧ (((fun s : State => { s with judge := { s.judge with withheld := some 3 } }) (wReseed 1 [(0x2826, 0, 4), (0x281F, 1, 1)]) : State).isOn 1 = true) ∧ (((fun s : State => { s with judge := { s.judge with withheld := some 3 } }) (wReseed 1 [(0x2826, 0, 4), (0x281F, 1, 1)]) : State).committing = none) ∧ (((fun s : State => { s with judge := { s.judge with withheld := some 3 } }) (wReseed 1 [(0x2826, 0, 4), (0x281F, 1, 1)]) : State).rd 0x281D 0 ≠ 0) ∧ ((((((fun s : State => { s with judge := { s.judge with withheld := some 3 } }) (wReseed 1 [(0x2826, 0, 4), (0x281F, 1, 1)]) : State).clk + (0 : Nat)) :: Tab.get [] ((fun s : State => { s with judge := { s.judge with withheld := some 3 } }) (wReseed 1 [(0x2826, 0, 4), (0x281F, 1, 1)]) : State).judge.judged 0).filter (fun t => decide (((fun s : State => { s with judge := { s.judge with withheld := some 3 } }) (wReseed 1 [(0x2826, 0, 4), (0x281F, 1, 1)]) : State).clk + (0 : Nat) < t + 34560000000000))).length < ((fun s : State => { s with judge := { s.judge with withheld := some 3 } }) (wReseed 1 [(0x2826, 0, 4), (0x281F, 1, 1)]) : State).rd 0x281E 0) := by decide

theorem witness_PlanesAreJudgedAndReseeded_18 :
    (Quiet (wReseed 0 [(0x2826, 0, 1)] : State)) ∧ ((wReseed 0 [(0x2826, 0, 1)] : State).reseed = some (wReseedOf 0 : Reseed)) ∧ ((wReseedOf 0 : Reseed).plane = (0 : PlaneNo).val) ∧ ((wReseed 0 [(0x2826, 0, 1)] : State).stageAtLeast 2 = true) ∧ ((wReseedOf 0 : Reseed).since + 30 * 400000000 ≤ (wReseed 0 [(0x2826, 0, 1)] : State).clk + (12000000000 : Nat)) := by decide

theorem witness_PlanesAreJudgedAndReseeded_19 :
    (Quiet (wReseed 0 [(0x2826, 0, 1)] : State)) ∧ ((wReseed 0 [(0x2826, 0, 1)] : State).reseed.all (fun r => r.plane != (0 : PlaneNo).val || decide ((wReseed 0 [(0x2826, 0, 1)] : State).clk + (11999999999 : Nat) < r.since + 30 * 400000000)) = true ∨ (wReseed 0 [(0x2826, 0, 1)] : State).stageAtLeast 2 = false) := by decide

theorem witness_PlanesAreJudgedAndReseeded_20 :
    (Ready (wUp [] : State) (wReq 0 [1, 1, 0, 0] : Req) roleSite) ∧ ((wUp [] : State).stageAtLeast 2 = true) ∧ ((wUp [] : State).reseed = none) ∧ (Tab.find? (wUp [] : State).domOps (1 : PlaneNo).val = none) ∧ ((wUp [] : State).bonded (1 - (1 : PlaneNo).val) = true) ∧ ((wReq 0 [1, 1, 0, 0] : Req).data = toBytes 1 (1 : PlaneNo).val ++ toBytes 1 (true : Bool).toNat ++ [0, 0]) := by decide

theorem witness_PlanesAreJudgedAndReseeded_21 :
    (Ready (wUp [(0x281F, 0, 4)] : State) (wReq 0 [1, 1, 0, 0] : Req) roleSite) ∧ ((wUp [(0x281F, 0, 4)] : State).stageAtLeast 2 = true) ∧ ((wUp [(0x281F, 0, 4)] : State).reseed = none) ∧ ((wUp [(0x281F, 0, 4)] : State).bonded (1 - (1 : PlaneNo).val) = false) ∧ ((wReq 0 [1, 1, 0, 0] : Req).data = toBytes 1 (1 : PlaneNo).val ++ toBytes 1 (true : Bool).toNat ++ [0, 0]) := by decide

theorem witness_PlanesAreJudgedAndReseeded_22 :
    (Ready (wReseed 1 [] : State) (wReq 0 [0, 0, 0, 0] : Req) roleSite) ∧ (FullService (wReseed 1 [] : State)) ∧ ((wReseed 1 [] : State).stageAtLeast 2 = false ∨ (wReseed 1 [] : State).reseed.isSome = true) ∧ ((wReq 0 [0, 0, 0, 0] : Req).data = toBytes 1 (0 : PlaneNo).val ++ toBytes 1 (false : Bool).toNat ++ [0, 0]) := by decide

theorem witness_ControllersHoldTheToken_1 :
    (((wUp [] : State).tick (0 : Nat)).mayRequest (0 : CtlNo).val = false) := by decide

theorem witness_ControllersHoldTheToken_2 :
    ((wUp [] : State).holder = some (0 : CtlNo).val) := by decide

theorem witness_ControllersHoldTheToken_3 :
    (((wCtls wBeats wBeats [(0x0302, 0, 0), (0x0301, 0, 2)] : State).tick (0 : Nat)).mayRequest (0 : CtlNo).val = true) ∧ ((wCtls wBeats wBeats [(0x0302, 0, 0), (0x0301, 0, 2)] : State).holder = none) ∧ ((wCtls wBeats wBeats [(0x0302, 0, 0), (0x0301, 0, 2)] : State).power.applied = true) ∧ ((true : Bool) = false ∨ ((wCtls wBeats wBeats [(0x0302, 0, 0), (0x0301, 0, 2)] : State).tick (0 : Nat)).mayRequest (1 - (0 : CtlNo).val) = false) := by decide

theorem witness_ControllersHoldTheToken_4 :
    ((((wCtls wBeats wBeats [(0x0302, 0, 0), (0x0301, 0, 2), (0x0100, 0, 0), (0x0101, 0, 0xFFFFFFFF)]).updPower (fun p => { p with applied := false }) : State).tick (0 : Nat)).mayRequest (0 : CtlNo).val = true) ∧ (((wCtls wBeats wBeats [(0x0302, 0, 0), (0x0301, 0, 2), (0x0100, 0, 0), (0x0101, 0, 0xFFFFFFFF)]).updPower (fun p => { p with applied := false }) : State).holder = none) ∧ (((wCtls wBeats wBeats [(0x0302, 0, 0), (0x0301, 0, 2), (0x0100, 0, 0), (0x0101, 0, 0xFFFFFFFF)]).updPower (fun p => { p with applied := false }) : State).power.applied = false) ∧ (((wCtls wBeats wBeats [(0x0302, 0, 0), (0x0301, 0, 2), (0x0100, 0, 0), (0x0101, 0, 0xFFFFFFFF)]).updPower (fun p => { p with applied := false }) : State).stageAtLeast 0 = false) ∧ ((false : Bool) = false ∨ (((wCtls wBeats wBeats [(0x0302, 0, 0), (0x0301, 0, 2), (0x0100, 0, 0), (0x0101, 0, 0xFFFFFFFF)]).updPower (fun p => { p with applied := false }) : State).tick (0 : Nat)).mayRequest (1 - (0 : CtlNo).val) = false) := by decide

theorem witness_ControllersHoldTheToken_5 :
    (((wCtls Ctl.init wBeats [(0x0302, 0, 1), (0x0301, 1, 3)] : State).tick (2000000 : Nat)).mayRequest (1 : CtlNo).val = true) ∧ ((wCtls Ctl.init wBeats [(0x0302, 0, 1), (0x0301, 1, 3)] : State).holder = some (0 : Nat)) ∧ ((0 : Nat) ≠ (1 : CtlNo).val) ∧ ((wCtls Ctl.init wBeats [(0x0302, 0, 1), (0x0301, 1, 3)] : State).ctlState (1 : CtlNo).val ≠ 2 ∨ ((wCtls Ctl.init wBeats [(0x0302, 0, 1), (0x0301, 1, 3)] : State).tick (2000000 : Nat)).heartAbsent (1 - (1 : CtlNo).val) = true) := by decide

theorem witness_ControllersHoldTheToken_6 :
    (((wCtls wBeats wBeats [(0x0302, 0, 1), (0x0301, 1, 2)] : State).tick (40000000 : Nat)).mayRequest (1 : CtlNo).val = true) ∧ ((wCtls wBeats wBeats [(0x0302, 0, 1), (0x0301, 1, 2)] : State).holder = some (0 : Nat)) ∧ ((0 : Nat) ≠ (1 : CtlNo).val) ∧ ((wCtls wBeats wBeats [(0x0302, 0, 1), (0x0301, 1, 2)] : State).ctlState (1 : CtlNo).val = 2) ∧ (((wCtls wBeats wBeats [(0x0302, 0, 1), (0x0301, 1, 2)] : State).tick (40000000 : Nat)).heartAbsent (1 - (1 : CtlNo).val) = false) := by decide

theorem witness_ControllersHoldTheToken_7 :
    (((wCtls wBeats wBeats [(0x0302, 0, 0), (0x0301, 0, 2), (0x0301, 1, 2)] : State).tick (40000000 : Nat)).mayRequest 0 = true) ∧ (((wCtls wBeats wBeats [(0x0302, 0, 0), (0x0301, 0, 2), (0x0301, 1, 2)] : State).tick (40000000 : Nat)).mayRequest 1 = true) ∧ ((wCtls wBeats wBeats [(0x0302, 0, 0), (0x0301, 0, 2), (0x0301, 1, 2)] : State).holder = none) ∧ ((wCtls wBeats wBeats [(0x0302, 0, 0), (0x0301, 0, 2), (0x0301, 1, 2)] : State).power.applied = true) := by decide

theorem witness_ControllersHoldTheToken_8 :
    (({ wUp [] with swap := some ⟨3, 0, none⟩ } : State).holder = some (0 : CtlNo).val) ∧ (({ wUp [] with swap := some ⟨3, 0, none⟩ } : State).swap = some (⟨3, 0, none⟩ : Swap)) := by decide

theorem witness_ControllersHoldTheToken_9 :
    ((wUp [] : State).holder ≠ some (0 : CtlNo).val ∨ (wUp [] : State).swap = none) := by decide

theorem witness_ControllersHoldTheToken_10 :
    ((wUp [] : State).holder ≠ some (0 : CtlNo).val ∨ ((wUp [] : State).tick (2000000 : Nat)).heartAbsent (0 : CtlNo).val = false) := by decide

theorem witness_ControllersHoldTheToken_11 :
    ((wCtls Ctl.init wBeats [] : State).holder = some (0 : CtlNo).val) ∧ (((wCtls Ctl.init wBeats [] : State).tick (2000000 : Nat)).heartAbsent (0 : CtlNo).val = true) ∧ ((wCtls Ctl.init wBeats [] : State).power.applied = true) ∧ (((wCtls Ctl.init wBeats [] : State).ctl (1 - (0 : CtlNo).val)).beats = true) ∧ ((wCtls Ctl.init wBeats [] : State).ctlState (1 - (0 : CtlNo).val) = 3 ∨ (wCtls Ctl.init wBeats [] : State).ctlState (1 - (0 : CtlNo).val) = 4) := by decide

theorem witness_ControllersHoldTheToken_12 :
    ((wCtls Ctl.init Ctl.init [] : State).holder = some (0 : CtlNo).val) ∧ (((wCtls Ctl.init Ctl.init [] : State).tick (2000000 : Nat)).heartAbsent (0 : CtlNo).val = true) ∧ (((wCtls Ctl.init Ctl.init [] : State).ctl (1 - (0 : CtlNo).val)).beats = false ∨ ((wCtls Ctl.init Ctl.init [] : State).ctlState (1 - (0 : CtlNo).val) ≠ 3 ∧ (wCtls Ctl.init Ctl.init [] : State).ctlState (1 - (0 : CtlNo).val) ≠ 4)) := by decide

theorem witness_ControllersHoldTheToken_13 :
    ((wUp [] : State).started (1 : CtlNo).val = true) ∧ ((wUp [] : State).committing = none ∨ (wUp [] : State).holder = some (1 : CtlNo).val) := by decide

theorem witness_ControllersHoldTheToken_14 :
    ((State.reset : State).started (1 : CtlNo).val = false) := by decide

theorem witness_ControllersHoldTheToken_15 :
    ((wUp [] : State).started (1 : CtlNo).val = true) ∧ ((wUp [] : State).committing = none ∨ (wUp [] : State).holder = some (1 : CtlNo).val) := by decide

theorem witness_ControllersHoldTheToken_16 :
    ((State.reset : State).started (1 : CtlNo).val = false) := by decide

theorem witness_ControllersHoldTheToken_17 :
    (((wCtls Ctl.init wAsks [] : State).ctl (1 : CtlNo).val).asking = some (0 : Nat)) ∧ ((wCtls Ctl.init wAsks [] : State).started (1 : CtlNo).val = true) ∧ ((0 : Nat) + 800000 ≤ (wCtls Ctl.init wAsks [] : State).clk + (2000000 : Nat)) ∧ ((wCtls Ctl.init wAsks [] : State).holder = some (1 - (1 : CtlNo).val)) ∧ (((wCtls Ctl.init wAsks [] : State).tick (2000000 : Nat)).heartAbsent (1 - (1 : CtlNo).val) = true) ∧ ((wCtls Ctl.init wAsks [] : State).committing = none) := by decide

theorem witness_ControllersHoldTheToken_18 :
    (((wUp [] : State).ctl (1 : CtlNo).val).asking.all (fun x => decide ((wUp [] : State).clk + (0 : Nat) < x + 800000)) = true ∨ (wUp [] : State).started (1 : CtlNo).val = false ∨ (wUp [] : State).holder ≠ some (1 - (1 : CtlNo).val) ∨ ((wUp [] : State).tick (0 : Nat)).heartAbsent (1 - (1 : CtlNo).val) = false) := by decide

theorem witness_ControllersHoldTheToken_19 :
    ((wCtls wBeats wLone [(0x0301, 1, 6)] : State).ctlState (1 : CtlNo).val = 6) ∧ (((wCtls wBeats wLone [(0x0301, 1, 6)] : State).ctl (1 : CtlNo).val).lone = true) ∧ (((wCtls wBeats wLone [(0x0301, 1, 6)] : State).ctl (1 - (1 : CtlNo).val)).beats = true) := by decide

theorem witness_ControllersHoldTheToken_20 :
    ((wUp [] : State).ctlState (1 : CtlNo).val ≠ 6 ∨ ((wUp [] : State).ctl (1 : CtlNo).val).lone = false ∨ ((wUp [] : State).ctl (1 - (1 : CtlNo).val)).beats = false) := by decide

theorem witness_ControllersHoldTheToken_21 :
    (({ wCtls Ctl.init Ctl.init [(0x0302, 0, 0)] with silence := some 0 } : State).silence = some (0 : Nat)) ∧ (({ wCtls Ctl.init Ctl.init [(0x0302, 0, 0)] with silence := some 0 } : State).holder = none) ∧ ((({ wCtls Ctl.init Ctl.init [(0x0302, 0, 0)] with silence := some 0 } : State).ctl 0).beats = false) ∧ ((({ wCtls Ctl.init Ctl.init [(0x0302, 0, 0)] with silence := some 0 } : State).ctl 1).beats = false) ∧ ((({ wCtls Ctl.init Ctl.init [(0x0302, 0, 0)] with silence := some 0 } : State).ctl 0).lastPulse + 24002000000 ≤ ({ wCtls Ctl.init Ctl.init [(0x0302, 0, 0)] with silence := some 0 } : State).clk + (24002000000 : Nat)) ∧ ((({ wCtls Ctl.init Ctl.init [(0x0302, 0, 0)] with silence := some 0 } : State).ctl 1).lastPulse + 24002000000 ≤ ({ wCtls Ctl.init Ctl.init [(0x0302, 0, 0)] with silence := some 0 } : State).clk + (24002000000 : Nat)) ∧ ((0 : Nat) + 24000000000 ≤ ({ wCtls Ctl.init Ctl.init [(0x0302, 0, 0)] with silence := some 0 } : State).clk + (24002000000 : Nat)) := by decide

theorem witness_ControllersHoldTheToken_22 :
    ((wUp [] : State).silence.all (fun x => decide ((wUp [] : State).clk + (0 : Nat) < x + 24000000000)) = true ∨ (wUp [] : State).holder.isSome = true ∨ ((wUp [] : State).ctl 0).beats = true ∨ ((wUp [] : State).ctl 1).beats = true ∨ (wUp [] : State).clk + (0 : Nat) < ((wUp [] : State).ctl 0).lastPulse + 24002000000 ∨ (wUp [] : State).clk + (0 : Nat) < ((wUp [] : State).ctl 1).lastPulse + 24002000000) := by decide

theorem witness_ControlPassesToTheStandby_1 :
    (Quiet (wUp [] : State)) ∧ ((wUp [] : State).holder.all (fun c => decide ((wUp [] : State).ctlState c < 2 ∨ 4 < (wUp [] : State).ctlState c)) = true) := by decide

theorem witness_ControlPassesToTheStandby_2 :
    ((wOver 4 [] : State).owed = []) ∧ ((wOver 4 [] : State).sessions = []) ∧ ((wOver 4 [] : State).holder = some (1 : CtlNo).val) ∧ ((wOver 4 [] : State).ctlState (1 : CtlNo).val = 4) ∧ ((wOver 4 [] : State).rd 0x0300 0 = 1 - (1 : CtlNo).val) ∧ ((wOver 4 [] : State).swap = none) ∧ ((wOver 4 [] : State).committing = none) ∧ ((wOver 4 [] : State).fw.step = 0) ∧ ((wOver 4 [] : State).fw.stager = none) := by decide

theorem witness_ControlPassesToTheStandby_3 :
    (((wOver 4 []).wr 0x0300 0 0xFF : State).owed = []) ∧ (((wOver 4 []).wr 0x0300 0 0xFF : State).sessions = []) ∧ (((wOver 4 []).wr 0x0300 0 0xFF : State).holder = some (1 : CtlNo).val) ∧ (((wOver 4 []).wr 0x0300 0 0xFF : State).ctlState (1 : CtlNo).val = 4) ∧ (((wOver 4 []).wr 0x0300 0 0xFF : State).rd 0x0300 0 = (1 : CtlNo).val ∨ ((wOver 4 []).wr 0x0300 0 0xFF : State).rd 0x0300 0 = 0xFF) ∧ (((wOver 4 []).wr 0x0300 0 0xFF : State).swap = none) ∧ (((wOver 4 []).wr 0x0300 0 0xFF : State).committing = none) ∧ (((wOver 4 []).wr 0x0300 0 0xFF : State).fw.step = 0) ∧ (((wOver 4 []).wr 0x0300 0 0xFF : State).fw.stager = none) := by decide

theorem witness_ControlPassesToTheStandby_4 :
    ((wOver 4 [(3, wSessR)] : State).owed = []) ∧ ((wOver 4 [(3, wSessR)] : State).sessions = [(4 * (1 - (1 : CtlNo).val) + (3 : Fin 4).val, wSessR)]) ∧ (wSessR.isOpen = true) ∧ (wSessR.requests = [wReqR]) ∧ (wReqR.accepted = false) ∧ (wSessR.subs = []) ∧ ((wOver 4 [(3, wSessR)] : State).holder = some (1 : CtlNo).val) ∧ ((wOver 4 [(3, wSessR)] : State).ctlState (1 : CtlNo).val = 4) ∧ ((wOver 4 [(3, wSessR)] : State).rd 0x0300 0 = 1 - (1 : CtlNo).val) ∧ ((wOver 4 [(3, wSessR)] : State).swap = none) ∧ ((wOver 4 [(3, wSessR)] : State).committing = none) ∧ ((wOver 4 [(3, wSessR)] : State).fw.step = 0) ∧ ((wOver 4 [(3, wSessR)] : State).fw.stager = none) := by decide

theorem witness_ControlPassesToTheStandby_5 :
    ((wOver 3 [] : State).owed = []) ∧ ((wOver 3 [] : State).sessions = []) ∧ ((wOver 3 [] : State).holder = some (1 : CtlNo).val) ∧ ((wOver 3 [] : State).ctlState (1 : CtlNo).val = 2 ∨ (wOver 3 [] : State).ctlState (1 : CtlNo).val = 3) ∧ ((wOver 3 [] : State).rd 0x0300 0 = 1 - (1 : CtlNo).val) ∧ ((wOver 3 [] : State).swap = none) ∧ ((wOver 3 [] : State).committing = none) ∧ ((wOver 3 [] : State).fw.step = 0) ∧ ((wOver 3 [] : State).fw.stager = none) := by decide

theorem witness_ControlPassesToTheStandby_6 :
    (Quiet (wUp [] : State)) ∧ ((wUp [] : State).standbyReady = true) ∧ ((wUp [] : State).committing = none) := by decide

theorem witness_ControlPassesToTheStandby_7 :
    (Quiet (wUp [(0x0301, 1, 3)] : State)) ∧ ((wUp [(0x0301, 1, 3)] : State).standbyReady = false) := by decide

theorem witness_ControlPassesToTheStandby_8 :
    (Quiet (wUp [(0x0301, 1, 3)] : State)) ∧ ((wUp [(0x0301, 1, 3)] : State).holder.isSome = true) ∧ ((wUp [(0x0301, 1, 3)] : State).ctlState (1 - (wUp [(0x0301, 1, 3)] : State).active) = 3) := by decide

theorem witness_ControlPassesToTheStandby_9 :
    (Quiet (wUp [] : State)) ∧ ((wUp [] : State).holder = none ∨ (wUp [] : State).ctlState (1 - (wUp [] : State).active) ≠ 3) := by decide

theorem witness_ControlPassesToTheStandby_10 :
    (Ready (wUp [] : State) (wReq 0 [] : Req) roleSite) ∧ (FullService (wUp [] : State)) ∧ ((wReq 0 [] : Req).data = []) ∧ ((wUp [] : State).swapBarred = false) := by decide

theorem witness_ControlPassesToTheStandby_11 :
    (Ready (wUp [(0x0301, 1, 3)] : State) (wReq 0 [] : Req) roleSite) ∧ (FullService (wUp [(0x0301, 1, 3)] : State)) ∧ ((wReq 0 [] : Req).data = []) ∧ ((wUp [(0x0301, 1, 3)] : State).swapBarred = true) := by decide

theorem witness_ControlPassesToTheStandby_12 :
    ((wUp [(0x0309, 0, 0)] : State).holder = none ∨ (wUp [(0x0309, 0, 0)] : State).stageAtLeast 2 = false ∨ ((wUp [(0x0309, 0, 0)] : State).tick (0 : Nat)).swapDue = false) := by decide

theorem witness_ControlPassesToTheStandby_13 :
    ((wUp [(0x0309, 0, 1), (0x3002, 0, 0)] : State).holder.isSome = true) ∧ ((wUp [(0x0309, 0, 1), (0x3002, 0, 0)] : State).stageAtLeast 2 = true) ∧ (((wUp [(0x0309, 0, 1), (0x3002, 0, 0)] : State).tick (34560000000000 : Nat)).swapDue = true) ∧ ((wUp [(0x0309, 0, 1), (0x3002, 0, 0)] : State).swapBarred = false) := by decide

theorem witness_ControlPassesToTheStandby_14 :
    (({ wUp [(0x0309, 0, 1), (0x0301, 1, 3)] with swapTries := 59 } : State).holder.isSome = true) ∧ (({ wUp [(0x0309, 0, 1), (0x0301, 1, 3)] with swapTries := 59 } : State).stageAtLeast 2 = true) ∧ ((({ wUp [(0x0309, 0, 1), (0x0301, 1, 3)] with swapTries := 59 } : State).tick (24000000000 : Nat)).swapDue = true) ∧ (({ wUp [(0x0309, 0, 1), (0x0301, 1, 3)] with swapTries := 59 } : State).swapBarred = true) ∧ (({ wUp [(0x0309, 0, 1), (0x0301, 1, 3)] with swapTries := 59 } : State).swapTries ≠ 60) := by decide

theorem witness_ControlPassesToTheStandby_15 :
    (({ wUp [(0x0309, 0, 1), (0x0301, 1, 3)] with swapTries := 60 } : State).holder.isSome = true) ∧ (({ wUp [(0x0309, 0, 1), (0x0301, 1, 3)] with swapTries := 60 } : State).stageAtLeast 2 = true) ∧ ((({ wUp [(0x0309, 0, 1), (0x0301, 1, 3)] with swapTries := 60 } : State).tick (24000000000 : Nat)).swapDue = true) ∧ (({ wUp [(0x0309, 0, 1), (0x0301, 1, 3)] with swapTries := 60 } : State).swapBarred = true) ∧ (({ wUp [(0x0309, 0, 1), (0x0301, 1, 3)] with swapTries := 60 } : State).swapTries = 60) := by decide

theorem witness_TimeKeepsItsTriples_1 :
    ((wUp [] : State).time.next = none) := by decide

theorem witness_TimeKeepsItsTriples_2 :
    ((wNext 9 : State).time.next = some (wTriple, (9 : Nat))) ∧ ((wNext 9 : State).tickRC (0 : Nat) < (9 : Nat)) := by decide

theorem witness_TimeKeepsItsTriples_3 :
    ((wRunning (wNext 9) : State).time.next = some (wTriple, (9 : Nat))) ∧ ((9 : Nat) ≤ (wRunning (wNext 9) : State).tickRC (9 : Nat)) := by decide

theorem witness_TimeKeepsItsTriples_4 :
    ((wUp [] : State).isOn 12 = true) ∧ ((wUp [] : State).rd 0x020F (if (9 : Fin 10).val < 8 then 2 + (9 : Fin 10).val else (9 : Fin 10).val - 8) = 0) ∧ (Tab.get 0 (wUp [] : State).time.copies (9 : Fin 10).val = 0) := by decide

theorem witness_TimeKeepsItsTriples_5 :
    ((wUp [] : State).isOn 12 = true) ∧ ((wUp [] : State).rd 0x020F (if (0 : Fin 10).val < 8 then 2 + (0 : Fin 10).val else (0 : Fin 10).val - 8) = 0) ∧ (Tab.get 0 (wUp [] : State).time.copies (0 : Fin 10).val + (0xFFFF#16 : BitVec 16).toInt ≠ 0) := by decide

theorem witness_TimeKeepsItsTriples_6 :
    ((wUp [(0x020F, 1, 1)] : State).isOn 12 = false ∨ (wUp [(0x020F, 1, 1)] : State).rd 0x020F (if (9 : Fin 10).val < 8 then 2 + (9 : Fin 10).val else (9 : Fin 10).val - 8) ≠ 0) := by decide

theorem witness_TimeKeepsItsTriples_7 :
    ((wUp [(0x300C, 0, 1), (0x300C, 1, 1)] : State).rd 0x300C 0 = 1) ∧ ((wUp [(0x300C, 0, 1), (0x300C, 1, 1)] : State).rd 0x300C 1 = 1) ∧ ((0 : Fin 3).val < 2) := by decide

theorem witness_TimeKeepsItsTriples_8 :
    ((wUp [(0x300C, 0, 1), (0x300C, 1, 1)] : State).rd 0x300C 0 = 1) ∧ ((wUp [(0x300C, 0, 1), (0x300C, 1, 1)] : State).rd 0x300C 1 = 1) := by decide

theorem witness_TimeKeepsItsTriples_9 :
    ((wUp [(0x300C, 0, 1), (0x300C, 1, 2)] : State).rd 0x300C 0 ≠ 1 ∨ (wUp [(0x300C, 0, 1), (0x300C, 1, 2)] : State).rd 0x300C 1 ≠ 1) := by decide

theorem witness_TimeKeepsItsTriples_10 :
    ((wUp [] : State).isOn 12 = true) := by decide

theorem witness_TimeKeepsItsTriples_11 :
    ((State.reset : State).isOn 12 = false) := by decide

theorem witness_TimeKeepsItsTriples_12 :
    ((wUp [] : State).time.next = none) := by decide

theorem witness_TimeKeepsItsTriples_13 :
    ((wNext 4000 : State).time.next = some (wTriple, (4000 : Nat))) ∧ ((wNext 4000 : State).rc + 4000 ≤ (4000 : Nat)) := by decide

theorem witness_TimeKeepsItsTriples_14 :
    ((wNext 3999 : State).time.next = some (wTriple, (3999 : Nat))) ∧ ((3999 : Nat) < (wNext 3999 : State).rc + 4000) := by decide

theorem witness_TimeKeepsItsTriples_15 :
    (Ready (wUp [] : State) (wReq 0 [255, 255, 255, 255, 255, 255, 255, 255] : Req) roleSite) ∧ (FullService (wUp [] : State)) ∧ ((wReq 0 [255, 255, 255, 255, 255, 255, 255, 255] : Req).inst = 0) ∧ ((wReq 0 [255, 255, 255, 255, 255, 255, 255, 255] : Req).data.length = 8) ∧ ((wUp [] : State).rd 0x3400 0 = 0) := by decide

theorem witness_TimeKeepsItsTriples_16 :
    (Ready (wUp [(0x3400, 0, 2)] : State) (wReq 0 [0, 0, 0, 0, 0, 0, 0, 0] : Req) roleSite) ∧ (FullService (wUp [(0x3400, 0, 2)] : State)) ∧ ((wReq 0 [0, 0, 0, 0, 0, 0, 0, 0] : Req).inst = 0) ∧ ((wReq 0 [0, 0, 0, 0, 0, 0, 0, 0] : Req).data.length = 8) ∧ ((wUp [(0x3400, 0, 2)] : State).rd 0x3400 0 ≠ 0) := by decide

theorem witness_TimeKeepsItsTriples_17 :
    (Ready (wUp [] : State) (wReq 0 [255, 255, 128, 0, 0, 0, 0, 0] : Req) roleSite) ∧ (FullService (wUp [] : State)) ∧ ((wReq 0 [255, 255, 128, 0, 0, 0, 0, 0] : Req).inst = 0) ∧ ((wReq 0 [255, 255, 128, 0, 0, 0, 0, 0] : Req).data.length = 8) ∧ ((wUp [] : State).rd 0x3400 0 = 0) ∧ (-(2 : Int) ^ 47 ≤ signed 64 (beNat (wReq 0 [255, 255, 128, 0, 0, 0, 0, 0] : Req).data)) ∧ (signed 64 (beNat (wReq 0 [255, 255, 128, 0, 0, 0, 0, 0] : Req).data) ≤ (2 : Int) ^ 47) := by decide

theorem witness_TimeKeepsItsTriples_18 :
    (Ready (wUp [(0x3400, 0, 3)] : State) (wReq 0 [0, 0, 128, 0, 0, 0, 0, 0] : Req) roleSite) ∧ (FullService (wUp [(0x3400, 0, 3)] : State)) ∧ ((wReq 0 [0, 0, 128, 0, 0, 0, 0, 0] : Req).inst = 0) ∧ ((wReq 0 [0, 0, 128, 0, 0, 0, 0, 0] : Req).data.length = 8) ∧ ((wUp [(0x3400, 0, 3)] : State).rd 0x3400 0 ≠ 0) ∧ (-(2 : Int) ^ 47 ≤ signed 64 (beNat (wReq 0 [0, 0, 128, 0, 0, 0, 0, 0] : Req).data)) ∧ (signed 64 (beNat (wReq 0 [0, 0, 128, 0, 0, 0, 0, 0] : Req).data) ≤ (2 : Int) ^ 47) := by decide

theorem witness_TimeKeepsItsTriples_19 :
    (Ready (wUp [] : State) (wReq 0 [0, 0, 128, 0, 0, 0, 0, 1] : Req) roleSite) ∧ (FullService (wUp [] : State)) ∧ ((wReq 0 [0, 0, 128, 0, 0, 0, 0, 1] : Req).inst = 0) ∧ ((wReq 0 [0, 0, 128, 0, 0, 0, 0, 1] : Req).data.length = 8) ∧ ((2 : Int) ^ 47 < signed 64 (beNat (wReq 0 [0, 0, 128, 0, 0, 0, 0, 1] : Req).data) ∨ signed 64 (beNat (wReq 0 [0, 0, 128, 0, 0, 0, 0, 1] : Req).data) < -(2 : Int) ^ 47) := by decide

theorem witness_TimeKeepsItsTriples_20 :
    ((wRunning (wServo (fun q => { q with leapDay := -1 }) [(0x300B, 0, 1), (0x3009, 0, 0)]) : State).rd 0x300B 0 = 1) ∧ (((wRunning (wServo (fun q => { q with leapDay := -1 }) [(0x300B, 0, 1), (0x3009, 0, 0)]) : State).servo.leapDay + 1) * 86400 + 1 ≤ ((wRunning (wServo (fun q => { q with leapDay := -1 }) [(0x300B, 0, 1), (0x3009, 0, 0)]) : State).tick (400000000 : Nat)).utcSeconds) := by decide

theorem witness_TimeKeepsItsTriples_21 :
    ((wServo (fun q => { q with leapDay := -1 }) [(0x300B, 0, 2), (0x3009, 0, 0)] : State).rd 0x300B 0 = 2) ∧ (((wServo (fun q => { q with leapDay := -1 }) [(0x300B, 0, 2), (0x3009, 0, 0)] : State).servo.leapDay + 1) * 86400 - 1 ≤ ((wServo (fun q => { q with leapDay := -1 }) [(0x300B, 0, 2), (0x3009, 0, 0)] : State).tick (0 : Nat)).utcSeconds) := by decide

theorem witness_TimeKeepsItsTriples_22 :
    ((wServo (fun q => { q with leapDay := -1 }) [(0x300B, 0, 1), (0x3009, 0, 0)] : State).rd 0x300B 0 = 1) ∧ (((wServo (fun q => { q with leapDay := -1 }) [(0x300B, 0, 1), (0x3009, 0, 0)] : State).tick (0 : Nat)).utcSeconds < ((wServo (fun q => { q with leapDay := -1 }) [(0x300B, 0, 1), (0x3009, 0, 0)] : State).servo.leapDay + 1) * 86400 + 1) := by decide

theorem witness_TimeKeepsItsTriples_23 :
    ((wServo (fun q => { q with leapDay := -1 }) [(0x300B, 0, 2), (0x3009, 0, 2)] : State).rd 0x300B 0 = 2) ∧ (((wServo (fun q => { q with leapDay := -1 }) [(0x300B, 0, 2), (0x3009, 0, 2)] : State).tick (0 : Nat)).utcSeconds < ((wServo (fun q => { q with leapDay := -1 }) [(0x300B, 0, 2), (0x3009, 0, 2)] : State).servo.leapDay + 1) * 86400 - 1) := by decide

theorem witness_TimeKeepsItsTriples_24 :
    ((wUp [(0x300B, 0, 0)] : State).rd 0x300B 0 ≠ 1) ∧ ((wUp [(0x300B, 0, 0)] : State).rd 0x300B 0 ≠ 2) := by decide

theorem witness_TheServoFollowsItsSources_1 :
    (Tab.find? (wUp [] : State).servo.offsets ((2 : Fin 3).val + 1) = none) := by decide

theorem witness_TheServoFollowsItsSources_2 :
    (Tab.find? (wServo (fun q => { q with offsets := [(2, 5)] }) [] : State).servo.offsets ((1 : Fin 3).val + 1) = some (5 : Int)) ∧ ((wServo (fun q => { q with offsets := [(2, 5)] }) [] : State).servoRuns = false ∨ (wServo (fun q => { q with offsets := [(2, 5)] }) [] : State).rd 0x3401 0 ≠ (1 : Fin 3).val + 1 ∨ (wServo (fun q => { q with offsets := [(2, 5)] }) [] : State).rd 0x3400 0 = 0) := by decide

theorem witness_TheServoFollowsItsSources_3 :
    (Tab.find? (wServo (fun q => { q with offsets := [(2, 5)] }) [(0x3400, 0, 1), (0x3401, 0, 2)] : State).servo.offsets ((1 : Fin 3).val + 1) = some (5 : Int)) ∧ ((wServo (fun q => { q with offsets := [(2, 5)] }) [(0x3400, 0, 1), (0x3401, 0, 2)] : State).servoRuns = true) ∧ ((wServo (fun q => { q with offsets := [(2, 5)] }) [(0x3400, 0, 1), (0x3401, 0, 2)] : State).rd 0x3400 0 ≠ 0) ∧ ((wServo (fun q => { q with offsets := [(2, 5)] }) [(0x3400, 0, 1), (0x3401, 0, 2)] : State).rd 0x3401 0 = (1 : Fin 3).val + 1) ∧ ((wServo (fun q => { q with offsets := [(2, 5)] }) [(0x3400, 0, 1), (0x3401, 0, 2)] : State).rd 0x3002 0 = 0) := by decide

theorem witness_TheServoFollowsItsSources_4 :
    (Tab.find? (wServo (fun q => { q with offsets := [(2, 65537000000)] }) [(0x3400, 0, 3), (0x3401, 0, 2), (0x3002, 0, 1), (0x3013, 0, 1)] : State).servo.offsets ((1 : Fin 3).val + 1) = some (65537000000 : Int)) ∧ ((wServo (fun q => { q with offsets := [(2, 65537000000)] }) [(0x3400, 0, 3), (0x3401, 0, 2), (0x3002, 0, 1), (0x3013, 0, 1)] : State).servoRuns = true) ∧ ((wServo (fun q => { q with offsets := [(2, 65537000000)] }) [(0x3400, 0, 3), (0x3401, 0, 2), (0x3002, 0, 1), (0x3013, 0, 1)] : State).rd 0x3400 0 = 1 ∨ (wServo (fun q => { q with offsets := [(2, 65537000000)] }) [(0x3400, 0, 3), (0x3401, 0, 2), (0x3002, 0, 1), (0x3013, 0, 1)] : State).rd 0x3400 0 = 3) ∧ ((wServo (fun q => { q with offsets := [(2, 65537000000)] }) [(0x3400, 0, 3), (0x3401, 0, 2), (0x3002, 0, 1), (0x3013, 0, 1)] : State).rd 0x3401 0 = (1 : Fin 3).val + 1) ∧ ((wServo (fun q => { q with offsets := [(2, 65537000000)] }) [(0x3400, 0, 3), (0x3401, 0, 2), (0x3002, 0, 1), (0x3013, 0, 1)] : State).rd 0x3002 0 = 1) ∧ (exceeds (65537000000 : Int) ((wServo (fun q => { q with offsets := [(2, 65537000000)] }) [(0x3400, 0, 3), (0x3401, 0, 2), (0x3002, 0, 1), (0x3013, 0, 1)] : State).rd 0x3012 0) = true) ∧ ((wServo (fun q => { q with offsets := [(2, 65537000000)] }) [(0x3400, 0, 3), (0x3401, 0, 2), (0x3002, 0, 1), (0x3013, 0, 1)] : State).rd 0x3013 0 = 1) := by decide

theorem witness_TheServoFollowsItsSources_5 :
    (Tab.find? (wServo (fun q => { q with offsets := [(2, -5)] }) [(0x3400, 0, 2), (0x3401, 0, 2), (0x3002, 0, 1)] : State).servo.offsets ((1 : Fin 3).val + 1) = some (-5 : Int)) ∧ ((wServo (fun q => { q with offsets := [(2, -5)] }) [(0x3400, 0, 2), (0x3401, 0, 2), (0x3002, 0, 1)] : State).servoRuns = true) ∧ ((wServo (fun q => { q with offsets := [(2, -5)] }) [(0x3400, 0, 2), (0x3401, 0, 2), (0x3002, 0, 1)] : State).rd 0x3400 0 = 1 ∨ (wServo (fun q => { q with offsets := [(2, -5)] }) [(0x3400, 0, 2), (0x3401, 0, 2), (0x3002, 0, 1)] : State).rd 0x3400 0 = 2) ∧ ((wServo (fun q => { q with offsets := [(2, -5)] }) [(0x3400, 0, 2), (0x3401, 0, 2), (0x3002, 0, 1)] : State).rd 0x3401 0 = (1 : Fin 3).val + 1) ∧ ((wServo (fun q => { q with offsets := [(2, -5)] }) [(0x3400, 0, 2), (0x3401, 0, 2), (0x3002, 0, 1)] : State).rd 0x3002 0 = 1) ∧ (exceeds (-5 : Int) ((wServo (fun q => { q with offsets := [(2, -5)] }) [(0x3400, 0, 2), (0x3401, 0, 2), (0x3002, 0, 1)] : State).rd 0x3012 0) = false ∨ (wServo (fun q => { q with offsets := [(2, -5)] }) [(0x3400, 0, 2), (0x3401, 0, 2), (0x3002, 0, 1)] : State).rd 0x3013 0 = 0 ∨ (wServo (fun q => { q with offsets := [(2, -5)] }) [(0x3400, 0, 2), (0x3401, 0, 2), (0x3002, 0, 1)] : State).rd 0x3400 0 = 2) ∧ (exceeds (-5 : Int) ((wServo (fun q => { q with offsets := [(2, -5)] }) [(0x3400, 0, 2), (0x3401, 0, 2), (0x3002, 0, 1)] : State).rd 0x3412 0) = false ∨ (wServo (fun q => { q with offsets := [(2, -5)] }) [(0x3400, 0, 2), (0x3401, 0, 2), (0x3002, 0, 1)] : State).servo.excess < 2) := by decide

theorem witness_TheServoFollowsItsSources_6 :
    (Tab.find? (wServo (fun q => { q with offsets := [(1, -5)] }) [(0x3400, 0, 3), (0x3401, 0, 1), (0x3002, 0, 1)] : State).servo.offsets ((0 : Fin 3).val + 1) = some (-5 : Int)) ∧ ((wServo (fun q => { q with offsets := [(1, -5)] }) [(0x3400, 0, 3), (0x3401, 0, 1), (0x3002, 0, 1)] : State).servoRuns = true) ∧ ((wServo (fun q => { q with offsets := [(1, -5)] }) [(0x3400, 0, 3), (0x3401, 0, 1), (0x3002, 0, 1)] : State).rd 0x3400 0 = 3) ∧ ((wServo (fun q => { q with offsets := [(1, -5)] }) [(0x3400, 0, 3), (0x3401, 0, 1), (0x3002, 0, 1)] : State).rd 0x3401 0 = (0 : Fin 3).val + 1) ∧ ((wServo (fun q => { q with offsets := [(1, -5)] }) [(0x3400, 0, 3), (0x3401, 0, 1), (0x3002, 0, 1)] : State).rd 0x3002 0 = 1) ∧ (exceeds (-5 : Int) ((wServo (fun q => { q with offsets := [(1, -5)] }) [(0x3400, 0, 3), (0x3401, 0, 1), (0x3002, 0, 1)] : State).rd 0x3012 0) = false ∨ (wServo (fun q => { q with offsets := [(1, -5)] }) [(0x3400, 0, 3), (0x3401, 0, 1), (0x3002, 0, 1)] : State).rd 0x3013 0 = 0) := by decide

theorem witness_TheServoFollowsItsSources_7 :
    (Tab.find? (wServo (fun q => { q with offsets := [(3, 65536001)], excess := 2, good := [3] }) [(0x3400, 0, 2), (0x3401, 0, 3), (0x3002, 0, 1)] : State).servo.offsets ((2 : Fin 3).val + 1) = some (65536001 : Int)) ∧ ((wServo (fun q => { q with offsets := [(3, 65536001)], excess := 2, good := [3] }) [(0x3400, 0, 2), (0x3401, 0, 3), (0x3002, 0, 1)] : State).servoRuns = true) ∧ ((wServo (fun q => { q with offsets := [(3, 65536001)], excess := 2, good := [3] }) [(0x3400, 0, 2), (0x3401, 0, 3), (0x3002, 0, 1)] : State).rd 0x3400 0 = 1 ∨ (wServo (fun q => { q with offsets := [(3, 65536001)], excess := 2, good := [3] }) [(0x3400, 0, 2), (0x3401, 0, 3), (0x3002, 0, 1)] : State).rd 0x3400 0 = 2) ∧ ((wServo (fun q => { q with offsets := [(3, 65536001)], excess := 2, good := [3] }) [(0x3400, 0, 2), (0x3401, 0, 3), (0x3002, 0, 1)] : State).rd 0x3401 0 = (2 : Fin 3).val + 1) ∧ ((wServo (fun q => { q with offsets := [(3, 65536001)], excess := 2, good := [3] }) [(0x3400, 0, 2), (0x3401, 0, 3), (0x3002, 0, 1)] : State).rd 0x3002 0 = 1) ∧ (exceeds (65536001 : Int) ((wServo (fun q => { q with offsets := [(3, 65536001)], excess := 2, good := [3] }) [(0x3400, 0, 2), (0x3401, 0, 3), (0x3002, 0, 1)] : State).rd 0x3012 0) = false ∨ (wServo (fun q => { q with offsets := [(3, 65536001)], excess := 2, good := [3] }) [(0x3400, 0, 2), (0x3401, 0, 3), (0x3002, 0, 1)] : State).rd 0x3013 0 = 0 ∨ (wServo (fun q => { q with offsets := [(3, 65536001)], excess := 2, good := [3] }) [(0x3400, 0, 2), (0x3401, 0, 3), (0x3002, 0, 1)] : State).rd 0x3400 0 = 2) ∧ (exceeds (65536001 : Int) ((wServo (fun q => { q with offsets := [(3, 65536001)], excess := 2, good := [3] }) [(0x3400, 0, 2), (0x3401, 0, 3), (0x3002, 0, 1)] : State).rd 0x3412 0) = true) ∧ (2 ≤ (wServo (fun q => { q with offsets := [(3, 65536001)], excess := 2, good := [3] }) [(0x3400, 0, 2), (0x3401, 0, 3), (0x3002, 0, 1)] : State).servo.excess) := by decide

theorem witness_TheServoFollowsItsSources_8 :
    ((wUp [(0x3516, 0, 3)] : State).servoRuns = true) ∧ ((wUp [(0x3516, 0, 3)] : State).servo.good.contains ((2 : Fin 3).val + 1) = false) ∧ (((wUp [(0x3516, 0, 3)] : State).tick (0 : Nat)).sourceMeets ((2 : Fin 3).val + 1) = true) ∧ (Tab.get 0 (wUp [(0x3516, 0, 3)] : State).servo.bar ((2 : Fin 3).val + 1) ≤ (wUp [(0x3516, 0, 3)] : State).clk + (0 : Nat)) := by decide

theorem witness_TheServoFollowsItsSources_9 :
    ((State.reset : State).servoRuns = false ∨ (State.reset : State).servo.good.contains ((2 : Fin 3).val + 1) = true ∨ ((State.reset : State).tick (0 : Nat)).sourceMeets ((2 : Fin 3).val + 1) = false ∨ (State.reset : State).clk + (0 : Nat) < Tab.get 0 (State.reset : State).servo.bar ((2 : Fin 3).val + 1)) := by decide

theorem witness_TheServoFollowsItsSources_10 :
    (({ wUp [(0x3300, 0, 1), (0x3306, 0, 3), (0x330C, 0, 1), (0x3307, 0, 1), (0x3309, 0, 2), (0x3302, 0, 1)] with clk := 12000000000, gnss := { Gnss.init with since := some 0 } } : State).sourceMeets 1 = true) := by decide

theorem witness_TheServoFollowsItsSources_11 :
    (((wUp [(0x3110, 0, 9), (0x3115, 0, 6), (0x311C, 0, 7)]).updPtp 0 (fun q => { q with syncAt := some 0, respAt := some 0 }) : State).sourceMeets 2 = true) := by decide +kernel

theorem witness_TheServoFollowsItsSources_13 :
    ((wServo (fun q => { q with good := [3] }) [] : State).rd 0x3400 0 = 0) ∧ ((wServo (fun q => { q with good := [3] }) [] : State).bestSource = (2 : Fin 3).val + 1) := by decide

theorem witness_TheServoFollowsItsSources_14 :
    ((wServo (fun q => { q with good := [2, 3] }) [(0x3400, 0, 1), (0x3401, 0, 3)] : State).rd 0x3400 0 = 1) ∧ ((wServo (fun q => { q with good := [2, 3] }) [(0x3400, 0, 1), (0x3401, 0, 3)] : State).bestSource = (1 : Fin 3).val + 1) := by decide

theorem witness_TheServoFollowsItsSources_15 :
    ((wUp [(0x3400, 0, 1), (0x3401, 0, 3)] : State).rd 0x3400 0 = 1) ∧ ((wUp [(0x3400, 0, 1), (0x3401, 0, 3)] : State).bestSource = 0) := by decide

theorem witness_TheServoFollowsItsSources_16 :
    ((wServo (fun q => { q with good := [2, 1] }) [(0x3400, 0, 2), (0x3401, 0, 2)] : State).rd 0x3400 0 = 2) ∧ ((wServo (fun q => { q with good := [2, 1] }) [(0x3400, 0, 2), (0x3401, 0, 2)] : State).bestSource = (1 : Fin 4).val) ∧ ((1 : Fin 4).val ≠ (wServo (fun q => { q with good := [2, 1] }) [(0x3400, 0, 2), (0x3401, 0, 2)] : State).rd 0x3401 0) := by decide

theorem witness_TheServoFollowsItsSources_17 :
    ((wServo (fun q => { q with good := [2] }) [(0x3400, 0, 2), (0x3401, 0, 2)] : State).rd 0x3400 0 = 2) ∧ ((wServo (fun q => { q with good := [2] }) [(0x3400, 0, 2), (0x3401, 0, 2)] : State).bestSource = (wServo (fun q => { q with good := [2] }) [(0x3400, 0, 2), (0x3401, 0, 2)] : State).rd 0x3401 0) := by decide

theorem witness_TheServoFollowsItsSources_18 :
    ((wServo (fun q => { q with good := [2] }) [(0x3400, 0, 3), (0x3401, 0, 1)] : State).rd 0x3400 0 = 3) ∧ ((wServo (fun q => { q with good := [2] }) [(0x3400, 0, 3), (0x3401, 0, 1)] : State).bestSource = (2 : Fin 4).val) := by decide

theorem witness_TheServoFollowsItsSources_19 :
    ((wServo (fun q => { q with good := [1] }) [] : State).servo.good.contains 1 = true) ∧ ((wServo (fun q => { q with good := [1] }) [] : State).gnssReceives = false ∨ (wServo (fun q => { q with good := [1] }) [] : State).gnss.since = none ∨ (wServo (fun q => { q with good := [1] }) [] : State).rd 0x3314 0 = 2 ∨ (wServo (fun q => { q with good := [1] }) [] : State).gnss.ppsAt + 800000000 ≤ (wServo (fun q => { q with good := [1] }) [] : State).clk + (0 : Nat)) := by decide

theorem witness_TheServoFollowsItsSources_20 :
    ((wUp [] : State).servo.good.contains 1 = false ∨ ((wUp [] : State).gnssReceives = true ∧ (wUp [] : State).gnss.since.isSome = true ∧ (wUp [] : State).rd 0x3314 0 ≠ 2 ∧ (wUp [] : State).clk + (0 : Nat) < (wUp [] : State).gnss.ppsAt + 800000000)) := by decide

theorem witness_TheServoFollowsItsSources_21 :
    (((wServo (fun q => { q with good := [2] }) [(0x3110, 5, 9)]) : State).servo.good.contains 2 = true) ∧ (((wServo (fun q => { q with good := [2] }) [(0x3110, 5, 9)]) : State).slavePort = some (5 : PortNo).val) ∧ ((((wServo (fun q => { q with good := [2] }) [(0x3110, 5, 9)]) : State).tick (0 : Nat)).ptpMeets (((wServo (fun q => { q with good := [2] }) [(0x3110, 5, 9)]) : State).rd 0x310F (5 : PortNo).val) = false) := by decide +kernel

theorem witness_TheServoFollowsItsSources_22 :
    ((wServo (fun q => { q with good := [2] }) [(0x3400, 0, 2), (0x3401, 0, 2)] : State).servo.good.contains 2 = true) ∧ ((wServo (fun q => { q with good := [2] }) [(0x3400, 0, 2), (0x3401, 0, 2)] : State).slavePort = none) := by decide +kernel

theorem witness_TheServoFollowsItsSources_23 :
    ((wUp [] : State).servo.good.contains 2 = false) := by decide

theorem witness_TheServoFollowsItsSources_24 :
    (((wUp [(0x3110, 0, 9), (0x3115, 0, 6), (0x311C, 0, 7)]).updPtp 0 (fun q => { q with syncAt := some 0, respAt := some 0 }) : State).slavePort = some (0 : PortNo).val) ∧ ((((wUp [(0x3110, 0, 9), (0x3115, 0, 6), (0x311C, 0, 7)]).updPtp 0 (fun q => { q with syncAt := some 0, respAt := some 0 }) : State).tick (0 : Nat)).ptpMeets (((wUp [(0x3110, 0, 9), (0x3115, 0, 6), (0x311C, 0, 7)]).updPtp 0 (fun q => { q with syncAt := some 0, respAt := some 0 }) : State).rd 0x310F (0 : PortNo).val) = true) := by decide +kernel

theorem witness_TheServoFollowsItsSources_25 :
    ((wUp [(0x3515, 0, 1)] : State).rd 0x3515 0 = 1) ∧ ((wUp [(0x3515, 0, 1)] : State).tio.todAt + 800000000 ≤ (wUp [(0x3515, 0, 1)] : State).clk + (800000000 : Nat) ∨ (wUp [(0x3515, 0, 1)] : State).tio.edgeAt + 800000000 ≤ (wUp [(0x3515, 0, 1)] : State).clk + (800000000 : Nat)) := by decide

theorem witness_TheServoFollowsItsSources_26 :
    ((wServo (fun q => { q with good := [3] }) [(0x3515, 0, 1)] : State).rd 0x3515 0 = 0 ∨ ((wServo (fun q => { q with good := [3] }) [(0x3515, 0, 1)] : State).clk + (799999999 : Nat) < (wServo (fun q => { q with good := [3] }) [(0x3515, 0, 1)] : State).tio.todAt + 800000000 ∧ (wServo (fun q => { q with good := [3] }) [(0x3515, 0, 1)] : State).clk + (799999999 : Nat) < (wServo (fun q => { q with good := [3] }) [(0x3515, 0, 1)] : State).tio.edgeAt + 800000000)) ∧ ((wServo (fun q => { q with good := [3] }) [(0x3515, 0, 1)] : State).servo.good.contains 3 = true) ∧ ((wServo (fun q => { q with good := [3] }) [(0x3515, 0, 1)] : State).rd 0x3516 0 ≠ 3) := by decide

theorem witness_TheServoFollowsItsSources_27 :
    ((wUp [(0x3515, 0, 0)] : State).rd 0x3515 0 = 0 ∨ ((wUp [(0x3515, 0, 0)] : State).clk + (0 : Nat) < (wUp [(0x3515, 0, 0)] : State).tio.todAt + 800000000 ∧ (wUp [(0x3515, 0, 0)] : State).clk + (0 : Nat) < (wUp [(0x3515, 0, 0)] : State).tio.edgeAt + 800000000)) ∧ ((wUp [(0x3515, 0, 0)] : State).servo.good.contains 3 = false ∨ (wUp [(0x3515, 0, 0)] : State).rd 0x3516 0 = 3) := by decide

theorem witness_TheServoFollowsItsSources_29 :
    ((wUp [(0x3401, 0, 2)] : State).rd 0x3401 0 ≠ (0 : Fin 3).val + 1) := by decide

theorem witness_TheServoFollowsItsSources_30 :
    ((wServo (fun q => { q with good := [3] }) [(0x3400, 0, 2), (0x3401, 0, 3)] : State).rd 0x3401 0 = (2 : Fin 3).val + 1) ∧ ((wServo (fun q => { q with good := [3] }) [(0x3400, 0, 2), (0x3401, 0, 3)] : State).rd 0x3400 0 = 2) := by decide

theorem witness_TheServoFollowsItsSources_31 :
    ((wServo (fun q => { q with good := [3] }) [(0x3400, 0, 1), (0x3401, 0, 3)] : State).rd 0x3401 0 = (2 : Fin 3).val + 1) ∧ ((wServo (fun q => { q with good := [3] }) [(0x3400, 0, 1), (0x3401, 0, 3)] : State).rd 0x3400 0 = 1) ∧ ((wServo (fun q => { q with good := [3] }) [(0x3400, 0, 1), (0x3401, 0, 3)] : State).servo.good = [(2 : Fin 3).val + 1]) := by decide

theorem witness_TheServoFollowsItsSources_32 :
    ((wServo (fun q => { q with under := some 0, good := [2] }) [(0x3400, 0, 1), (0x3401, 0, 2)] : State).servo.under = some (0 : Nat)) ∧ ((wServo (fun q => { q with under := some 0, good := [2] }) [(0x3400, 0, 1), (0x3401, 0, 2)] : State).rd 0x3400 0 = 1 ∨ (wServo (fun q => { q with under := some 0, good := [2] }) [(0x3400, 0, 1), (0x3401, 0, 2)] : State).rd 0x3400 0 = 3) ∧ ((wServo (fun q => { q with under := some 0, good := [2] }) [(0x3400, 0, 1), (0x3401, 0, 2)] : State).servo.good.contains ((wServo (fun q => { q with under := some 0, good := [2] }) [(0x3400, 0, 1), (0x3401, 0, 2)] : State).rd 0x3401 0) = true) ∧ ((0 : Nat) + (wServo (fun q => { q with under := some 0, good := [2] }) [(0x3400, 0, 1), (0x3401, 0, 2)] : State).rd 0x3411 0 * 400000000 ≤ (wServo (fun q => { q with under := some 0, good := [2] }) [(0x3400, 0, 1), (0x3401, 0, 2)] : State).clk + (4000000000000 : Nat)) ∧ ((wServo (fun q => { q with under := some 0, good := [2] }) [(0x3400, 0, 1), (0x3401, 0, 2)] : State).servoRuns = true) := by decide

theorem witness_TheServoFollowsItsSources_33 :
    ((wServo (fun q => { q with under := some 0, good := [2] }) [(0x3400, 0, 1), (0x3401, 0, 2), (0x3411, 0, 60)] : State).servo.under = some (0 : Nat)) ∧ (((wServo (fun q => { q with under := some 0, good := [2] }) [(0x3400, 0, 1), (0x3401, 0, 2), (0x3411, 0, 60)] : State).rd 0x3400 0 ≠ 1 ∧ (wServo (fun q => { q with under := some 0, good := [2] }) [(0x3400, 0, 1), (0x3401, 0, 2), (0x3411, 0, 60)] : State).rd 0x3400 0 ≠ 3) ∨ (wServo (fun q => { q with under := some 0, good := [2] }) [(0x3400, 0, 1), (0x3401, 0, 2), (0x3411, 0, 60)] : State).servo.good.contains ((wServo (fun q => { q with under := some 0, good := [2] }) [(0x3400, 0, 1), (0x3401, 0, 2), (0x3411, 0, 60)] : State).rd 0x3401 0) = false ∨ (wServo (fun q => { q with under := some 0, good := [2] }) [(0x3400, 0, 1), (0x3401, 0, 2), (0x3411, 0, 60)] : State).clk + (23999999999 : Nat) < (0 : Nat) + (wServo (fun q => { q with under := some 0, good := [2] }) [(0x3400, 0, 1), (0x3401, 0, 2), (0x3411, 0, 60)] : State).rd 0x3411 0 * 400000000 ∨ (wServo (fun q => { q with under := some 0, good := [2] }) [(0x3400, 0, 1), (0x3401, 0, 2), (0x3411, 0, 60)] : State).servoRuns = false) := by decide

theorem witness_TheServoFollowsItsSources_34 :
    ((wUp [] : State).servo.under = none) := by decide

theorem witness_TheServoFollowsItsSources_35 :
    ((wUp [] : State).rd 0x3400 0 ≠ 3) := by decide

theorem witness_TheServoFollowsItsSources_36 :
    ((wUp [(0x3400, 0, 3)] : State).rd 0x3400 0 = 3) ∧ ((wUp [(0x3400, 0, 3)] : State).servo.heldAt + 400000000 ≤ (wUp [(0x3400, 0, 3)] : State).clk + (400000000 : Nat)) := by decide

theorem witness_TheServoFollowsItsSources_37 :
    ((wUp [(0x3400, 0, 3)] : State).clk + (399999999 : Nat) < (wUp [(0x3400, 0, 3)] : State).servo.heldAt + 400000000) := by decide

theorem witness_TheServoFollowsItsSources_38 :
    ((wServo (fun q => { q with lockTicks := 103680000000000 }) [(0x3404, 0, 0)] : State).rd 0x3404 0 = 0) ∧ (259200 * 400000000 ≤ ((wServo (fun q => { q with lockTicks := 103680000000000 }) [(0x3404, 0, 0)] : State).tick (0 : Nat)).lockTicks) := by decide

theorem witness_TheServoFollowsItsSources_39 :
    ((wServo (fun q => { q with lockTicks := 8640000000000 }) [(0x3404, 0, 2)] : State).rd 0x3404 0 = 2) ∧ (21600 * 400000000 ≤ ((wServo (fun q => { q with lockTicks := 8640000000000 }) [(0x3404, 0, 2)] : State).tick (0 : Nat)).lockTicks) := by decide

theorem witness_TheServoFollowsItsSources_40 :
    (((wUp [] : State).tick (0 : Nat)).lockTicks < 21600 * 400000000) := by decide

theorem witness_TheServoFollowsItsSources_41 :
    ((wServo (fun q => { q with lockTicks := 103679999999999 }) [(0x3404, 0, 0)] : State).rd 0x3404 0 ≠ 2) ∧ (((wServo (fun q => { q with lockTicks := 103679999999999 }) [(0x3404, 0, 0)] : State).tick (0 : Nat)).lockTicks < 259200 * 400000000) := by decide

theorem witness_TheServoFollowsItsSources_42 :
    ((wUp [(0x3404, 0, 1)] : State).rd 0x3404 0 = 1) := by decide

theorem witness_TheServoFollowsItsSources_43 :
    ((wUp [] : State).holder.isSome = true) ∧ ((wUp [] : State).servo.storedAt + 3600 * 400000000 ≤ (wUp [] : State).clk + (1440000000000 : Nat)) := by decide

theorem witness_TheServoFollowsItsSources_44 :
    ((wUp [] : State).holder = none ∨ (wUp [] : State).clk + (1439999999999 : Nat) < (wUp [] : State).servo.storedAt + 3600 * 400000000) := by decide

theorem witness_TheServoFollowsItsSources_45 :
    (Ready (wServo (fun q => { q with lockTicks := 5 }) [(0x3404, 0, 1)] : State) (wReq 0 [1] : Req) roleSite) ∧ (FullService (wServo (fun q => { q with lockTicks := 5 }) [(0x3404, 0, 1)] : State)) ∧ ((wReq 0 [1] : Req).inst = 0) ∧ ((wReq 0 [1] : Req).data = [1]) := by decide

theorem witness_PtpMessagesAreTakenAndSent_1 :
    ((wPtpUp 6 id [] : State).ptpAccepts (5 : PortNo).val (0 : Nat) (44 : Nat) (wPtp 24 0 0 78 3 (toBytes 10 5) : List Byte) = some (14 : Nat)) := by decide

theorem witness_PtpMessagesAreTakenAndSent_2 :
    ((wUp [] : State).ptpAccepts (143 : PortNo).val 0 44 ([] : List Byte) = none) := by decide

theorem witness_PtpMessagesAreTakenAndSent_3 :
    ((wUp [] : State).ptpAccepts (143 : PortNo).val 1 44 ([] : List Byte) = none) := by decide

theorem witness_PtpMessagesAreTakenAndSent_4 :
    ((wUp [] : State).ptpAccepts (143 : PortNo).val 9 54 ([] : List Byte) = none) := by decide

theorem witness_PtpMessagesAreTakenAndSent_5 :
    ((wUp [] : State).ptpAccepts (143 : PortNo).val 11 64 ([] : List Byte) = none) := by decide

theorem witness_PtpMessagesAreTakenAndSent_6 :
    ((wUp [] : State).ptpAccepts (143 : PortNo).val 12 44 ([] : List Byte) = none) := by decide

theorem witness_PtpMessagesAreTakenAndSent_7 :
    ((wPtpUp 6 id [] : State).ptpAccepts (5 : PortNo).val 0 44 (wPtp 24 0 0 78 3 (toBytes 10 5) : List Byte) = some (14 : Nat)) ∧ ((wPtpUp 6 id [] : State).fromParent (5 : PortNo).val (14 : Nat) (wPtp 24 0 0 78 3 (toBytes 10 5) : List Byte) = false) := by decide

theorem witness_PtpMessagesAreTakenAndSent_8 :
    ((wPtpUp 9 id [] : State).ptpAccepts (5 : PortNo).val 0 44 (wPtp 24 0 0x0200 77 3 (toBytes 10 5) : List Byte) = some (14 : Nat)) ∧ ((wPtpUp 9 id [] : State).fromParent (5 : PortNo).val (14 : Nat) (wPtp 24 0 0x0200 77 3 (toBytes 10 5) : List Byte) = true) ∧ ((getBE (wPtp 24 0 0x0200 77 3 (toBytes 10 5) : List Byte) ((14 : Nat) + 6) 1).testBit 1 = true) := by decide

theorem witness_PtpMessagesAreTakenAndSent_9 :
    ((wPtpUp 9 (fun q => { q with delay := some 5 }) [] : State).ptpAccepts (5 : PortNo).val 0 44 (wPtp 24 0 0 77 3 (toBytes 10 5) : List Byte) = some (14 : Nat)) ∧ ((wPtpUp 9 (fun q => { q with delay := some 5 }) [] : State).fromParent (5 : PortNo).val (14 : Nat) (wPtp 24 0 0 77 3 (toBytes 10 5) : List Byte) = true) ∧ ((getBE (wPtp 24 0 0 77 3 (toBytes 10 5) : List Byte) ((14 : Nat) + 6) 1).testBit 1 = false) ∧ (((wPtpUp 9 (fun q => { q with delay := some 5 }) [] : State).ptpPort (5 : PortNo).val).delay = some (5 : Int)) := by decide

theorem witness_PtpMessagesAreTakenAndSent_10 :
    ((wPtpUp 9 id [] : State).ptpAccepts (5 : PortNo).val 0 44 (wPtp 24 0 0 77 3 (toBytes 10 5) : List Byte) = some (14 : Nat)) ∧ ((wPtpUp 9 id [] : State).fromParent (5 : PortNo).val (14 : Nat) (wPtp 24 0 0 77 3 (toBytes 10 5) : List Byte) = true) ∧ ((getBE (wPtp 24 0 0 77 3 (toBytes 10 5) : List Byte) ((14 : Nat) + 6) 1).testBit 1 = false) ∧ (((wPtpUp 9 id [] : State).ptpPort (5 : PortNo).val).delay = none) := by decide

theorem witness_PtpMessagesAreTakenAndSent_11 :
    ((wUp [] : State).ptpAccepts (143 : PortNo).val 8 44 ([] : List Byte) = none ∨ ((wUp [] : State).ptpPort (143 : PortNo).val).sync = none) := by decide

theorem witness_PtpMessagesAreTakenAndSent_12 :
    ((wPtpUp 9 (fun q => { q with sync := some (3, 100, 1) }) [] : State).ptpAccepts (5 : PortNo).val 8 44 (wPtp 24 8 0 77 3 (toBytes 10 5) : List Byte) = some (14 : Nat)) ∧ (((wPtpUp 9 (fun q => { q with sync := some (3, 100, 1) }) [] : State).ptpPort (5 : PortNo).val).sync = some ((3 : Nat), (100 : Int), (1 : Int))) ∧ ((wPtpUp 9 (fun q => { q with sync := some (3, 100, 1) }) [] : State).fromParent (5 : PortNo).val (14 : Nat) (wPtp 24 8 0 77 3 (toBytes 10 5) : List Byte) = true) ∧ ((3 : Nat) = getBE (wPtp 24 8 0 77 3 (toBytes 10 5) : List Byte) ((14 : Nat) + 30) 2) ∧ (((wPtpUp 9 (fun q => { q with sync := some (3, 100, 1) }) [] : State).ptpPort (5 : PortNo).val).delay = none) := by decide

theorem witness_PtpMessagesAreTakenAndSent_13 :
    ((wPtpUp 9 (fun q => { q with sync := some (3, 100, 1), delay := some 5 }) [] : State).ptpAccepts (5 : PortNo).val 8 44 (wPtp 24 8 0 77 3 (toBytes 10 5) : List Byte) = some (14 : Nat)) ∧ (((wPtpUp 9 (fun q => { q with sync := some (3, 100, 1), delay := some 5 }) [] : State).ptpPort (5 : PortNo).val).sync = some ((3 : Nat), (100 : Int), (1 : Int))) ∧ ((wPtpUp 9 (fun q => { q with sync := some (3, 100, 1), delay := some 5 }) [] : State).fromParent (5 : PortNo).val (14 : Nat) (wPtp 24 8 0 77 3 (toBytes 10 5) : List Byte) = true) ∧ ((3 : Nat) = getBE (wPtp 24 8 0 77 3 (toBytes 10 5) : List Byte) ((14 : Nat) + 30) 2) ∧ (((wPtpUp 9 (fun q => { q with sync := some (3, 100, 1), delay := some 5 }) [] : State).ptpPort (5 : PortNo).val).delay = some (5 : Int)) := by decide

theorem witness_PtpMessagesAreTakenAndSent_14 :
    ((wPtpUp 9 (fun q => { q with sync := some (4, 100, 1) }) [] : State).ptpAccepts (5 : PortNo).val 8 44 (wPtp 24 8 0 77 3 (toBytes 10 5) : List Byte) = some (14 : Nat)) ∧ (((wPtpUp 9 (fun q => { q with sync := some (4, 100, 1) }) [] : State).ptpPort (5 : PortNo).val).sync = some ((4 : Nat), (100 : Int), (1 : Int))) ∧ ((wPtpUp 9 (fun q => { q with sync := some (4, 100, 1) }) [] : State).fromParent (5 : PortNo).val (14 : Nat) (wPtp 24 8 0 77 3 (toBytes 10 5) : List Byte) = false ∨ (4 : Nat) ≠ getBE (wPtp 24 8 0 77 3 (toBytes 10 5) : List Byte) ((14 : Nat) + 30) 2) := by decide

theorem witness_PtpMessagesAreTakenAndSent_15 :
    ((wPtpUp 7 id [] : State).ptpAccepts (5 : PortNo).val 1 44 (wPtp 24 1 0 78 3 (toBytes 10 5) : List Byte) = some (14 : Nat)) ∧ ((wPtpUp 7 id [] : State).rd 0x3110 (5 : PortNo).val ≠ 6) := by decide

theorem witness_PtpMessagesAreTakenAndSent_16 :
    ((wPtpUp 6 id [] : State).ptpAccepts (5 : PortNo).val 1 44 (wPtp 24 1 0 78 3 (toBytes 10 5) : List Byte) = some (14 : Nat)) ∧ ((wPtpUp 6 id [] : State).rd 0x3110 (5 : PortNo).val = 6) ∧ ((wPtpUp 6 id [] : State).rd 0x3101 0 = 0) := by decide

theorem witness_PtpMessagesAreTakenAndSent_17 :
    ((wPtpUp 6 (fun q => { q with grants := [⟨⟨2, 6, 99⟩, 9, 0, 5, 0⟩] }) wUniRegs : State).ptpAccepts (5 : PortNo).val 1 44 (wUni 1 (toBytes 10 5) : List Byte) = some (62 : Nat)) ∧ ((ptpAt ((wPtpUp 6 (fun q => { q with grants := [⟨⟨2, 6, 99⟩, 9, 0, 5, 0⟩] }) wUniRegs : State).tpids ((5 : PortNo).val / 18)) (wUni 1 (toBytes 10 5) : List Byte)).map Prod.snd = some (⟨[], 12, 0x86DD, false⟩ : Tags)) ∧ ((wPtpUp 6 (fun q => { q with grants := [⟨⟨2, 6, 99⟩, 9, 0, 5, 0⟩] }) wUniRegs : State).rd 0x3110 (5 : PortNo).val = 6) ∧ ((wPtpUp 6 (fun q => { q with grants := [⟨⟨2, 6, 99⟩, 9, 0, 5, 0⟩] }) wUniRegs : State).rd 0x3101 0 ≠ 0) ∧ (((wPtpUp 6 (fun q => { q with grants := [⟨⟨2, 6, 99⟩, 9, 0, 5, 0⟩] }) wUniRegs : State).ptpPort (5 : PortNo).val).grants.any (fun g => g.msg == 9 && g.peer == peerOf (wUni 1 (toBytes 10 5) : List Byte) (⟨[], 12, 0x86DD, false⟩ : Tags) && decide ((wPtpUp 6 (fun q => { q with grants := [⟨⟨2, 6, 99⟩, 9, 0, 5, 0⟩] }) wUniRegs : State).clk + (0 : Nat) < g.ends)) = true) := by decide

theorem witness_PtpMessagesAreTakenAndSent_18 :
    ((wPtpUp 6 id wUniRegs : State).ptpAccepts (5 : PortNo).val 1 44 (wUni 1 (toBytes 10 5) : List Byte) = some (62 : Nat)) ∧ ((ptpAt ((wPtpUp 6 id wUniRegs : State).tpids ((5 : PortNo).val / 18)) (wUni 1 (toBytes 10 5) : List Byte)).map Prod.snd = some (⟨[], 12, 0x86DD, false⟩ : Tags)) ∧ ((wPtpUp 6 id wUniRegs : State).rd 0x3101 0 ≠ 0) ∧ (((wPtpUp 6 id wUniRegs : State).ptpPort (5 : PortNo).val).grants.any (fun g => g.msg == 9 && g.peer == peerOf (wUni 1 (toBytes 10 5) : List Byte) (⟨[], 12, 0x86DD, false⟩ : Tags) && decide ((wPtpUp 6 id wUniRegs : State).clk + (0 : Nat) < g.ends)) = false) := by decide

theorem witness_PtpMessagesAreTakenAndSent_19 :
    ((wPtpUp 9 (fun q => { q with req := some (3, some 5), forth := some 7 }) [] : State).ptpAccepts (5 : PortNo).val 9 54 (wPtp 24 9 0 77 3 (toBytes 10 5 ++ toBytes 10 ((wPtpUp 9 id []).portIdentity 5)) : List Byte) = some (14 : Nat)) ∧ (((wPtpUp 9 (fun q => { q with req := some (3, some 5), forth := some 7 }) [] : State).ptpPort (5 : PortNo).val).req = some ((3 : Nat), some (5 : Int))) ∧ (((wPtpUp 9 (fun q => { q with req := some (3, some 5), forth := some 7 }) [] : State).ptpPort (5 : PortNo).val).forth = some (7 : Int)) ∧ ((wPtpUp 9 (fun q => { q with req := some (3, some 5), forth := some 7 }) [] : State).fromParent (5 : PortNo).val (14 : Nat) (wPtp 24 9 0 77 3 (toBytes 10 5 ++ toBytes 10 ((wPtpUp 9 id []).portIdentity 5)) : List Byte) = true) ∧ ((3 : Nat) = getBE (wPtp 24 9 0 77 3 (toBytes 10 5 ++ toBytes 10 ((wPtpUp 9 id []).portIdentity 5)) : List Byte) ((14 : Nat) + 30) 2) ∧ (getBE (wPtp 24 9 0 77 3 (toBytes 10 5 ++ toBytes 10 ((wPtpUp 9 id []).portIdentity 5)) : List Byte) ((14 : Nat) + 44) 10 = (wPtpUp 9 (fun q => { q with req := some (3, some 5), forth := some 7 }) [] : State).portIdentity (5 : PortNo).val) := by decide

theorem witness_PtpMessagesAreTakenAndSent_20 :
    ((wPtpUp 9 (fun q => { q with req := some (3, some 5), forth := some 7 }) [] : State).ptpAccepts (5 : PortNo).val 9 54 (wPtp 24 9 0 77 3 (toBytes 10 5 ++ toBytes 10 7) : List Byte) = some (14 : Nat)) ∧ (((wPtpUp 9 (fun q => { q with req := some (3, some 5), forth := some 7 }) [] : State).ptpPort (5 : PortNo).val).req = some ((3 : Nat), (some 5 : Option Int))) ∧ ((some 5 : Option Int) = none ∨ ((wPtpUp 9 (fun q => { q with req := some (3, some 5), forth := some 7 }) [] : State).ptpPort (5 : PortNo).val).forth = none ∨ (wPtpUp 9 (fun q => { q with req := some (3, some 5), forth := some 7 }) [] : State).fromParent (5 : PortNo).val (14 : Nat) (wPtp 24 9 0 77 3 (toBytes 10 5 ++ toBytes 10 7) : List Byte) = false ∨ (3 : Nat) ≠ getBE (wPtp 24 9 0 77 3 (toBytes 10 5 ++ toBytes 10 7) : List Byte) ((14 : Nat) + 30) 2 ∨ getBE (wPtp 24 9 0 77 3 (toBytes 10 5 ++ toBytes 10 7) : List Byte) ((14 : Nat) + 44) 10 ≠ (wPtpUp 9 (fun q => { q with req := some (3, some 5), forth := some 7 }) [] : State).portIdentity (5 : PortNo).val) := by decide

theorem witness_PtpMessagesAreTakenAndSent_21 :
    (((wUp [] : State).ptpPort (143 : PortNo).val).req = none) := by decide

theorem witness_PtpMessagesAreTakenAndSent_22 :
    ((wPtpUp 6 id [] : State).ptpAccepts (5 : PortNo).val 11 64 (wPtp 24 11 0 ((wPtpUp 6 id []).portIdentity 9) 3 (List.replicate 30 0) : List Byte) = some (14 : Nat)) ∧ (sourceOf (wPtp 24 11 0 ((wPtpUp 6 id []).portIdentity 9) 3 (List.replicate 30 0) : List Byte) (14 : Nat) / 65536 = (wPtpUp 6 id [] : State).clockIdentity ∨ getBE (wPtp 24 11 0 ((wPtpUp 6 id []).portIdentity 9) 3 (List.replicate 30 0) : List Byte) ((14 : Nat) + 6) 1 % 2 = 1 ∨ 255 ≤ getBE (wPtp 24 11 0 ((wPtpUp 6 id []).portIdentity 9) 3 (List.replicate 30 0) : List Byte) ((14 : Nat) + 61) 2) := by decide

theorem witness_PtpMessagesAreTakenAndSent_23 :
    ((wPtpUp 6 id [] : State).ptpAccepts (5 : PortNo).val 11 64 (wPtp 24 11 0 (78 * 65536) 3 (List.replicate 30 0) : List Byte) = some (14 : Nat)) ∧ (sourceOf (wPtp 24 11 0 (78 * 65536) 3 (List.replicate 30 0) : List Byte) (14 : Nat) / 65536 ≠ (wPtpUp 6 id [] : State).clockIdentity) ∧ (getBE (wPtp 24 11 0 (78 * 65536) 3 (List.replicate 30 0) : List Byte) ((14 : Nat) + 6) 1 % 2 = 0) ∧ (getBE (wPtp 24 11 0 (78 * 65536) 3 (List.replicate 30 0) : List Byte) ((14 : Nat) + 61) 2 < 255) := by decide

theorem witness_PtpMessagesAreTakenAndSent_24 :
    ((wUp [] : State).rd 0x3101 0 ≠ 1 ∨ (wUp [] : State).rd 0x311D (143 : PortNo).val = 0) := by decide

theorem witness_PtpMessagesAreTakenAndSent_25 :
    ((wPtpUp 6 id wUniRegs : State).ptpAccepts (5 : PortNo).val 12 44 (wUni 12 (toBytes 10 5) : List Byte) = some (62 : Nat)) ∧ (getBE (wUni 12 (toBytes 10 5) : List Byte) ((62 : Nat) + 34) 10 ≠ (wPtpUp 6 id wUniRegs : State).portIdentity (5 : PortNo).val) ∧ (getBE (wUni 12 (toBytes 10 5) : List Byte) ((62 : Nat) + 34) 10 ≠ 2 ^ 80 - 1) := by decide

theorem witness_PtpMessagesAreTakenAndSent_26 :
    ((wPtpUp 6 id wUniRegs : State).ptpAccepts (5 : PortNo).val 12 44 (wSignal wAsk : List Byte) = some (62 : Nat)) ∧ ((ptpAt ((wPtpUp 6 id wUniRegs : State).tpids ((5 : PortNo).val / 18)) (wSignal wAsk : List Byte)).map Prod.snd = some (⟨[], 12, 0x86DD, false⟩ : Tags)) ∧ ((wPtpUp 6 id wUniRegs : State).rd 0x3101 0 = 1) ∧ ((wPtpUp 6 id wUniRegs : State).rd 0x311D (5 : PortNo).val = 1) ∧ (getBE (wSignal wAsk : List Byte) ((62 : Nat) + 34) 10 = (wPtpUp 6 id wUniRegs : State).portIdentity (5 : PortNo).val ∨ getBE (wSignal wAsk : List Byte) ((62 : Nat) + 34) 10 = 2 ^ 80 - 1) := by decide

theorem witness_PtpMessagesAreTakenAndSent_28 :
    (((wPtpUp 6 id [(0x311E, 20, 4 * 2 ^ 152 + 9 * 2 ^ 120)] : State).unicastMasters (5 : PortNo).val).contains ((⟨2, 4, 9⟩ : Peer).ty, (⟨2, 4, 9⟩ : Peer).addr) = true) := by decide

theorem witness_PtpMessagesAreTakenAndSent_29 :
    (((wUp [] : State).unicastMasters (5 : PortNo).val).contains ((⟨2, 6, 99⟩ : Peer).ty, (⟨2, 6, 99⟩ : Peer).addr) = false) := by decide

theorem witness_PtpMessagesAreTakenAndSent_31 :
    ((wPtpUp 6 id wUniRegs : State).ptpAccepts (5 : PortNo).val 12 44 (wSignal wAsk : List Byte) = some (62 : Nat)) ∧ ((ptpAt ((wPtpUp 6 id wUniRegs : State).tpids ((5 : PortNo).val / 18)) (wSignal wAsk : List Byte)).map Prod.snd = some (⟨[], 12, 0x86DD, false⟩ : Tags)) ∧ ((wPtpUp 6 id wUniRegs : State).rd 0x3101 0 = 1) ∧ ((wPtpUp 6 id wUniRegs : State).rd 0x311D (5 : PortNo).val = 1) ∧ (getBE (wSignal wAsk : List Byte) ((62 : Nat) + 34) 10 = (wPtpUp 6 id wUniRegs : State).portIdentity (5 : PortNo).val) ∧ (tlvs 32 (((wSignal wAsk : List Byte).take ((62 : Nat) + getBE (wSignal wAsk : List Byte) ((62 : Nat) + 2) 2)).drop ((62 : Nat) + 44)) = [(4, (wAsk.drop 4 : List Byte))]) := by decide

theorem witness_PtpMessagesAreTakenAndSent_32 :
    (ptpAt ((wPtpUp 6 id [] : State).tpids ((5 : PortNo).val / 18)) (wPtp 25 0 0 78 3 (toBytes 10 5) : List Byte) = some ((14 : Nat), (⟨[], 12, 0x88F7, false⟩ : Tags))) ∧ ((wPtpUp 6 id [] : State).holder.isSome = true) ∧ ((wPtpUp 6 id [] : State).ptpSteers (5 : PortNo).val (wPtp 25 0 0 78 3 (toBytes 10 5) : List Byte) (⟨[], 12, 0x88F7, false⟩ : Tags) = true) ∧ ((wPtpUp 6 id [] : State).ptpKeeps (14 : Nat) (⟨[], 12, 0x88F7, false⟩ : Tags) (wPtp 25 0 0 78 3 (toBytes 10 5) : List Byte) = false ∨ [2, 3, 10, 13].contains (getBE (wPtp 25 0 0 78 3 (toBytes 10 5) : List Byte) (14 : Nat) 1 % 16) = true) := by decide

theorem witness_PtpMessagesAreTakenAndSent_33 :
    (ptpAt ((wUp [] : State).tpids ((143 : PortNo).val / 18)) ([] : List Byte) = none ∨ (wUp [] : State).holder = none) := by decide

theorem witness_PtpMessagesAreTakenAndSent_34 :
    (ptpAt ((wPtpUp 6 id [] : State).tpids ((5 : PortNo).val / 18)) (wPtp 24 0 0 78 3 (toBytes 10 5) : List Byte) = some ((14 : Nat), (⟨[], 12, 0x88F7, false⟩ : Tags))) ∧ ((wPtpUp 6 id [] : State).ptpSteers (5 : PortNo).val (wPtp 24 0 0 78 3 (toBytes 10 5) : List Byte) (⟨[], 12, 0x88F7, false⟩ : Tags) = false ∨ ((wPtpUp 6 id [] : State).ptpKeeps (14 : Nat) (⟨[], 12, 0x88F7, false⟩ : Tags) (wPtp 24 0 0 78 3 (toBytes 10 5) : List Byte) = true ∧ [2, 3, 10, 13].contains (getBE (wPtp 24 0 0 78 3 (toBytes 10 5) : List Byte) (14 : Nat) 1 % 16) = false)) := by decide

theorem witness_PtpMessagesAreTakenAndSent_35 :
    ((wPtpUp 6 id [] : State).ptpRuns (5 : PortNo).val = true) ∧ ((wPtpUp 6 id [] : State).rd 0x3110 (5 : PortNo).val = 6) ∧ ((wPtpUp 6 id [] : State).rd 0x3101 0 = 0) ∧ ((wPtpUp 6 id [] : State).rd 0x3106 0 = 0) ∧ (Tab.find? ((wPtpUp 6 id [] : State).ptpPort (5 : PortNo).val).sent 0 = none) := by decide

theorem witness_PtpMessagesAreTakenAndSent_36 :
    ((wPtpUp 6 id [(0x3106, 0, 1)] : State).ptpRuns (5 : PortNo).val = true) ∧ ((wPtpUp 6 id [(0x3106, 0, 1)] : State).rd 0x3110 (5 : PortNo).val = 6) := by decide

theorem witness_PtpMessagesAreTakenAndSent_37 :
    ((wPtpUp 6 id [] : State).rd 0x3101 0 = 0) ∧ ((∀ t, Tab.find? ((wPtpUp 6 id [] : State).ptpPort (5 : PortNo).val).sent (0 : Nat) = some t → t + intervalTicks (0 : Fin 256).val ≤ (wPtpUp 6 id [] : State).clk)) := by decide

theorem witness_PtpMessagesAreTakenAndSent_38 :
    ((wPtpUp 6 (fun q => { q with sent := [(0, 0)] }) [] : State).rd 0x3101 0 = 0) ∧ (Tab.find? ((wPtpUp 6 (fun q => { q with sent := [(0, 0)] }) [] : State).ptpPort (5 : PortNo).val).sent (0 : Nat) = some (0 : Nat)) ∧ ((wPtpUp 6 (fun q => { q with sent := [(0, 0)] }) [] : State).clk < (0 : Nat) + intervalTicks (0 : Fin 256).val) := by decide

theorem witness_PtpMessagesAreTakenAndSent_39 :
    ((wPtpUp 6 (fun q => { q with grants := [⟨⟨2, 6, 99⟩, 9, 0, 5, 0⟩] }) wUniRegs : State).rd 0x3101 0 ≠ 0) := by decide

theorem witness_PtpMessagesAreTakenAndSent_40 :
    ((wUp [] : State).ptpRuns (143 : PortNo).val = false ∨ (wUp [] : State).rd 0x3110 (143 : PortNo).val ≠ 6) := by decide

theorem witness_PtpMessagesAreTakenAndSent_41 :
    ((wPtpUp 9 id [] : State).ptpRuns (5 : PortNo).val = true) ∧ ((wPtpUp 9 id [] : State).rd 0x3110 (5 : PortNo).val = 9) ∧ ((wPtpUp 9 id [] : State).rd 0x3101 0 = 0) ∧ ((∀ t, Tab.find? ((wPtpUp 9 id [] : State).ptpPort (5 : PortNo).val).sent 1 = some t → t + intervalTicks ((wPtpUp 9 id [] : State).rd 0x310D (5 : PortNo).val) ≤ (wPtpUp 9 id [] : State).clk + (0 : Nat))) := by decide

theorem witness_PtpMessagesAreTakenAndSent_42 :
    ((wUp [] : State).rd 0x3110 (143 : PortNo).val ≠ 9 ∨ (wUp [] : State).ptpRuns (143 : PortNo).val = false) := by decide

theorem witness_PtpMessagesAreTakenAndSent_43 :
    (Tab.find? ((wPtpUp 9 (fun q => { q with sent := [(1, 0)] }) [] : State).ptpPort (5 : PortNo).val).sent 1 = some (0 : Nat)) ∧ ((wPtpUp 9 (fun q => { q with sent := [(1, 0)] }) [] : State).clk + (0 : Nat) < (0 : Nat) + intervalTicks ((wPtpUp 9 (fun q => { q with sent := [(1, 0)] }) [] : State).rd 0x310D (5 : PortNo).val)) := by decide

theorem witness_PtpMessagesAreTakenAndSent_44 :
    ((wPtpUp 9 id wUniRegs : State).rd 0x3101 0 ≠ 0) ∧ (((wPtpUp 9 id wUniRegs : State).ptpPort (5 : PortNo).val).masters.find? (fun g => g.msg == 9 && decide ((wPtpUp 9 id wUniRegs : State).clk + (0 : Nat) < g.ends)) = none) := by decide

theorem witness_PtpMessagesAreTakenAndSent_45 :
    ((wPtpUp 9 (fun q => { q with masters := [⟨⟨2, 6, 99⟩, 9, 0, 5, 0⟩] }) wUniRegs : State).ptpRuns (5 : PortNo).val = true) ∧ ((wPtpUp 9 (fun q => { q with masters := [⟨⟨2, 6, 99⟩, 9, 0, 5, 0⟩] }) wUniRegs : State).rd 0x3110 (5 : PortNo).val = 9) ∧ ((wPtpUp 9 (fun q => { q with masters := [⟨⟨2, 6, 99⟩, 9, 0, 5, 0⟩] }) wUniRegs : State).rd 0x3101 0 ≠ 0) ∧ (((wPtpUp 9 (fun q => { q with masters := [⟨⟨2, 6, 99⟩, 9, 0, 5, 0⟩] }) wUniRegs : State).ptpPort (5 : PortNo).val).masters.find? (fun z_g => z_g.msg == 9 && decide ((wPtpUp 9 (fun q => { q with masters := [⟨⟨2, 6, 99⟩, 9, 0, 5, 0⟩] }) wUniRegs : State).clk + (0 : Nat) < z_g.ends)) = some (⟨⟨2, 6, 99⟩, 9, 0, 5, 0⟩ : Grant)) ∧ ((∀ t, Tab.find? ((wPtpUp 9 (fun q => { q with masters := [⟨⟨2, 6, 99⟩, 9, 0, 5, 0⟩] }) wUniRegs : State).ptpPort (5 : PortNo).val).sent 1 = some t → t + intervalTicks ((wPtpUp 9 (fun q => { q with masters := [⟨⟨2, 6, 99⟩, 9, 0, 5, 0⟩] }) wUniRegs : State).rd 0x310D (5 : PortNo).val) ≤ (wPtpUp 9 (fun q => { q with masters := [⟨⟨2, 6, 99⟩, 9, 0, 5, 0⟩] }) wUniRegs : State).clk + (0 : Nat))) := by decide

theorem witness_PtpMessagesAreTakenAndSent_46 :
    ((wUp [] : State).ptpRuns (143 : PortNo).val = false) := by decide

theorem witness_PtpMessagesAreTakenAndSent_47 :
    ((wPtpUp 4 id [] : State).ptpRuns (5 : PortNo).val = true) ∧ (((wPtpUp 4 id [] : State).tick (0 : Nat)).runBmca.rd 0x3110 (5 : PortNo).val ≠ 6) := by decide +kernel

theorem witness_PtpMessagesAreTakenAndSent_48 :
    ((wPtpUp 6 id [(0x3100, 0, 2)] : State).ptpRuns (5 : PortNo).val = true) ∧ (((wPtpUp 6 id [(0x3100, 0, 2)] : State).tick (0 : Nat)).runBmca.rd 0x3110 (5 : PortNo).val = 6) := by decide +kernel

theorem witness_PtpMessagesAreTakenAndSent_49 :
    ((wPtpUp 9 id [] : State).ptpRuns (5 : PortNo).val = true) ∧ ((wPtpUp 9 id [] : State).rd 0x3110 (5 : PortNo).val = 4 ∨ (wPtpUp 9 id [] : State).rd 0x3110 (5 : PortNo).val = 7 ∨ (wPtpUp 9 id [] : State).rd 0x3110 (5 : PortNo).val = 9) ∧ (((wPtpUp 9 id [] : State).ptpPort (5 : PortNo).val).heard + (wPtpUp 9 id [] : State).rd 0x310F (5 : PortNo).val * intervalTicks ((wPtpUp 9 id [] : State).rd 0x310E (5 : PortNo).val) ≤ (wPtpUp 9 id [] : State).clk + (400000000 : Nat)) := by decide

theorem witness_PtpMessagesAreTakenAndSent_50 :
    ((wPtpUp 6 id [] : State).ptpRuns (5 : PortNo).val = false ∨ [4, 7, 9].contains ((wPtpUp 6 id [] : State).rd 0x3110 (5 : PortNo).val) = false ∨ (wPtpUp 6 id [] : State).clk + (0 : Nat) < ((wPtpUp 6 id [] : State).ptpPort (5 : PortNo).val).heard + (wPtpUp 6 id [] : State).rd 0x310F (5 : PortNo).val * intervalTicks ((wPtpUp 6 id [] : State).rd 0x310E (5 : PortNo).val)) := by decide

theorem witness_PtpMessagesAreTakenAndSent_51 :
    ((wUp [] : State).ptpRuns (143 : PortNo).val = false ∨ (wUp [] : State).rd 0x3101 0 ≠ 1 ∨ (wUp [] : State).rd 0x311D (143 : PortNo).val = 0) := by decide

theorem witness_PtpMessagesAreTakenAndSent_52 :
    ((wPtpUp 6 id wUniRegs : State).ptpRuns (5 : PortNo).val = true) ∧ ((wPtpUp 6 id wUniRegs : State).rd 0x3101 0 = 1) ∧ ((wPtpUp 6 id wUniRegs : State).rd 0x311D (5 : PortNo).val = 1) := by decide

theorem witness_PtpMessagesAreTakenAndSent_53 :
    ((wPtpUp 6 id [(0x3101, 0, 1), (0x311D, 5, 1), (0x311E, 20, 4 * 2 ^ 152 + 9 * 2 ^ 120)] : State).ptpRuns (5 : PortNo).val = true) ∧ ((wPtpUp 6 id [(0x3101, 0, 1), (0x311D, 5, 1), (0x311E, 20, 4 * 2 ^ 152 + 9 * 2 ^ 120)] : State).rd 0x3101 0 = 1) ∧ ((wPtpUp 6 id [(0x3101, 0, 1), (0x311D, 5, 1), (0x311E, 20, 4 * 2 ^ 152 + 9 * 2 ^ 120)] : State).rd 0x311D (5 : PortNo).val = 1) ∧ ((wPtpUp 6 id [(0x3101, 0, 1), (0x311D, 5, 1), (0x311E, 20, 4 * 2 ^ 152 + 9 * 2 ^ 120)] : State).unicastMasters (5 : PortNo).val = [((4 : Nat), (9 : Nat))]) := by decide

theorem witness_PtpMessagesAreTakenAndSent_54 :
    (Tab.get [] (wUp [] : State).leaving (143 : PortNo).val = []) := by decide

theorem witness_PtpMessagesAreTakenAndSent_55 :
    (Tab.get [] (wLeave 1 [] : State).leaving (5 : PortNo).val = (wDep 1 : Departure) :: ([] : List Departure)) ∧ ((wLeave 1 [] : State).holder.isSome = true) ∧ ((wLeave 1 [] : State).ctlState (wLeave 1 [] : State).active = 5) ∧ ((wDep 1 : Departure).msg ≠ 0) := by decide

theorem witness_PtpMessagesAreTakenAndSent_56 :
    (Tab.get [] ((wLeave 0 []).updPtp 5 (fun q => { q with under := [(3, none)] }) : State).leaving (5 : PortNo).val = (wDep 0 : Departure) :: ([] : List Departure)) ∧ (((wLeave 0 []).updPtp 5 (fun q => { q with under := [(3, none)] }) : State).holder.isSome = true) ∧ (((wLeave 0 []).updPtp 5 (fun q => { q with under := [(3, none)] }) : State).ctlState ((wLeave 0 []).updPtp 5 (fun q => { q with under := [(3, none)] }) : State).active = 5) ∧ ((wDep 0 : Departure).msg = 0) ∧ (Tab.find? (((wLeave 0 []).updPtp 5 (fun q => { q with under := [(3, none)] }) : State).ptpPort (5 : PortNo).val).under (wDep 0 : Departure).seqId = some (none : Option Peer)) := by decide

theorem witness_PtpMessagesAreTakenAndSent_57 :
    (Tab.get [] (wLeave 0 [] : State).leaving (5 : PortNo).val = (wDep 0 : Departure) :: ([] : List Departure)) ∧ ((wLeave 0 [] : State).holder.isSome = true) ∧ ((wLeave 0 [] : State).ctlState (wLeave 0 [] : State).active = 5) ∧ ((wDep 0 : Departure).msg = 0) ∧ (Tab.find? ((wLeave 0 [] : State).ptpPort (5 : PortNo).val).under (wDep 0 : Departure).seqId = none) := by decide

theorem witness_PtpMessagesAreTakenAndSent_58 :
    (Tab.get [] (wLeave 0 [(0x0302, 0, 0)] : State).leaving (5 : PortNo).val = (wDep 0 : Departure) :: ([] : List Departure)) ∧ ((wLeave 0 [(0x0302, 0, 0)] : State).holder = none ∨ (wLeave 0 [(0x0302, 0, 0)] : State).ctlState (wLeave 0 [(0x0302, 0, 0)] : State).active ≠ 5) ∧ ((Tab.get [] (wLeave 0 [(0x0302, 0, 0)] : State).departures (5 : PortNo).val).length < 64) := by decide

theorem witness_PtpMessagesAreTakenAndSent_59 :
    (Tab.get [] ({ wLeave 0 [(0x0302, 0, 0)] with departures := [(5, List.replicate 64 (wDep 1))] } : State).leaving (5 : PortNo).val = (wDep 0 : Departure) :: ([] : List Departure)) ∧ (({ wLeave 0 [(0x0302, 0, 0)] with departures := [(5, List.replicate 64 (wDep 1))] } : State).holder = none ∨ ({ wLeave 0 [(0x0302, 0, 0)] with departures := [(5, List.replicate 64 (wDep 1))] } : State).ctlState ({ wLeave 0 [(0x0302, 0, 0)] with departures := [(5, List.replicate 64 (wDep 1))] } : State).active ≠ 5) ∧ (64 ≤ (Tab.get [] ({ wLeave 0 [(0x0302, 0, 0)] with departures := [(5, List.replicate 64 (wDep 1))] } : State).departures (5 : PortNo).val).length) := by decide

theorem witness_SynceSelectsItsInput_1 :
    (esmcQl wEsmc = some (0xFF02 : Nat)) ∧ ((wSynce id [] : State).link (5 : PortNo).val = 3) ∧ ((wSynce id [] : State).holder.isSome = true) := by decide

theorem witness_SynceSelectsItsInput_2 :
    (esmcQl ([] : List Byte) = none ∨ (wUp [] : State).link (143 : PortNo).val ≠ 3 ∨ (wUp [] : State).holder = none) := by decide

theorem witness_SynceSelectsItsInput_3 :
    (Tab.find? (wSynce (fun q => { q with heard := [(143, 0)] }) [] : State).synce.heard (143 : PortNo).val = some (0 : Nat)) ∧ ((0 : Nat) + 2000000000 ≤ (wSynce (fun q => { q with heard := [(143, 0)] }) [] : State).clk + (2000000000 : Nat)) := by decide

theorem witness_SynceSelectsItsInput_4 :
    (Tab.find? (wSynce (fun q => { q with heard := [(143, 0)] }) [] : State).synce.heard (143 : PortNo).val = some (0 : Nat)) ∧ ((wSynce (fun q => { q with heard := [(143, 0)] }) [] : State).clk + (1999999999 : Nat) < (0 : Nat) + 2000000000) := by decide

theorem witness_SynceSelectsItsInput_5 :
    (Tab.find? (wUp [] : State).synce.heard (143 : PortNo).val = none) := by decide

theorem witness_SynceSelectsItsInput_8 :
    ((wUp [(0x3210, 0, 7)] : State).rd 0x3210 0 ∈ ([3, 7] : List Nat)) := by decide

theorem witness_SynceSelectsItsInput_9 :
    ((wUp [] : State).rd 0x3210 0 ∉ ([3, 7, 2] : List Nat)) ∧ ((wUp [] : State).chooseInput ([3, 7, 2] : List Nat) = some (2 : Nat)) := by decide

theorem witness_SynceSelectsItsInput_10 :
    ((wUp [(0x3204, 3, 2)] : State).rd 0x320F 0 ≠ 1) := by decide

theorem witness_SynceSelectsItsInput_11 :
    ((wUp [(0x3204, 3, 2), (0x320F, 0, 1)] : State).rd 0x320F 0 = 1) := by decide

theorem witness_SynceSelectsItsInput_13 :
    ((143 : PortNo).val ∈ (wSynce (fun q => { q with cands := [5, 143] }) [] : State).synce.cands) ∧ ((143 : PortNo).val ∉ ([5] : List Nat)) ∧ (Tab.find? (wSynce (fun q => { q with cands := [5, 143] }) [] : State).synce.wtr (143 : PortNo).val = none) := by decide

theorem witness_SynceSelectsItsInput_14 :
    ((5 : Nat) ∉ (wSynce (fun q => { q with cands := [5, 143] }) [] : State).synce.cands ∨ (5 : Nat) ∈ ([5] : List Nat)) := by decide

theorem witness_SynceSelectsItsInput_15 :
    ((wSynce id [(0x3202, 5, 1), (0x3204, 5, 2), (0x3209, 0, 5)] : State).rd 0x3200 0 = 1) ∧ ((wSynce id [(0x3202, 5, 1), (0x3204, 5, 2), (0x3209, 0, 5)] : State).isOn 12 = true) ∧ ((((wSynce id [(0x3202, 5, 1), (0x3204, 5, 2), (0x3209, 0, 5)] : State).tick (0 : Nat)).wr 0x3211 (5 : PortNo).val (0 : BitVec 32).toNat).chooseInput ((List.range 144).filter (((wSynce id [(0x3202, 5, 1), (0x3204, 5, 2), (0x3209, 0, 5)] : State).tick (0 : Nat)).wr 0x3211 (5 : PortNo).val (0 : BitVec 32).toNat).isCandidate) = some (5 : Nat)) ∧ ((5 : Nat) < 144) ∧ ((5 : Nat) = (wSynce id [(0x3202, 5, 1), (0x3204, 5, 2), (0x3209, 0, 5)] : State).rd 0x3209 0) := by decide +kernel

theorem witness_SynceSelectsItsInput_16 :
    ((wSynce id [(0x3202, 5, 1), (0x3204, 5, 2), (0x3209, 0, 143)] : State).rd 0x3200 0 = 1) ∧ ((wSynce id [(0x3202, 5, 1), (0x3204, 5, 2), (0x3209, 0, 143)] : State).isOn 12 = true) ∧ ((((wSynce id [(0x3202, 5, 1), (0x3204, 5, 2), (0x3209, 0, 143)] : State).tick (0 : Nat)).wr 0x3211 (5 : PortNo).val (0 : BitVec 32).toNat).chooseInput ((List.range 144).filter (((wSynce id [(0x3202, 5, 1), (0x3204, 5, 2), (0x3209, 0, 143)] : State).tick (0 : Nat)).wr 0x3211 (5 : PortNo).val (0 : BitVec 32).toNat).isCandidate) = some (5 : Nat)) ∧ ((5 : Nat) < 144) ∧ ((5 : Nat) ≠ (wSynce id [(0x3202, 5, 1), (0x3204, 5, 2), (0x3209, 0, 143)] : State).rd 0x3209 0) := by decide +kernel

theorem witness_SynceSelectsItsInput_17 :
    ((wSynce id [(0x3202, 5, 1), (0x3204, 5, 15), (0x3209, 0, 5), (0x320A, 0, 2)] : State).rd 0x3200 0 = 1) ∧ ((wSynce id [(0x3202, 5, 1), (0x3204, 5, 15), (0x3209, 0, 5), (0x320A, 0, 2)] : State).isOn 12 = true) ∧ ((List.range 144).filter (((wSynce id [(0x3202, 5, 1), (0x3204, 5, 15), (0x3209, 0, 5), (0x320A, 0, 2)] : State).tick (0 : Nat)).wr 0x3211 (5 : PortNo).val (0 : BitVec 32).toNat).isCandidate = []) := by decide +kernel

theorem witness_SynceSelectsItsInput_18 :
    ((wUp [(0x3200, 0, 0)] : State).rd 0x3200 0 = 0 ∨ (wUp [(0x3200, 0, 0)] : State).isOn 12 = false) := by decide

theorem witness_SynceSelectsItsInput_19 :
    ((wSynce id [(0x3202, 5, 1), (0x3204, 5, 2), (0x3209, 0, 255)] : State).rd 0x3200 0 = 1) ∧ ((wSynce id [(0x3202, 5, 1), (0x3204, 5, 2), (0x3209, 0, 255)] : State).isOn 12 = true) ∧ ((wSynce id [(0x3202, 5, 1), (0x3204, 5, 2), (0x3209, 0, 255)] : State).rd 0x3209 0 = 0xFF) ∧ ((List.range 144).filter (((wSynce id [(0x3202, 5, 1), (0x3204, 5, 2), (0x3209, 0, 255)] : State).tick (0 : Nat)).wr 0x3211 (5 : PortNo).val (0 : BitVec 32).toNat).isCandidate = [(5 : PortNo).val]) := by decide +kernel

theorem witness_SynceSelectsItsInput_20 :
    ((wSynce id [(0x3202, 5, 1), (0x3204, 5, 2), (0x3209, 0, 5)] : State).rd 0x3200 0 = 1) ∧ ((wSynce id [(0x3202, 5, 1), (0x3204, 5, 2), (0x3209, 0, 5)] : State).isOn 12 = true) ∧ ((wSynce id [(0x3202, 5, 1), (0x3204, 5, 2), (0x3209, 0, 5)] : State).rd 0x3209 0 = (5 : PortNo).val) ∧ ((List.range 144).filter (((wSynce id [(0x3202, 5, 1), (0x3204, 5, 2), (0x3209, 0, 5)] : State).tick (0 : Nat)).wr 0x3211 (5 : PortNo).val (0 : BitVec 32).toNat).isCandidate = [(5 : PortNo).val]) := by decide +kernel

theorem witness_SynceSelectsItsInput_21 :
    ((wSynce id [(0x3202, 5, 1), (0x3204, 5, 15), (0x3209, 0, 5)] : State).rd 0x3200 0 = 1) ∧ ((wSynce id [(0x3202, 5, 1), (0x3204, 5, 15), (0x3209, 0, 5)] : State).isOn 12 = true) ∧ ((wSynce id [(0x3202, 5, 1), (0x3204, 5, 15), (0x3209, 0, 5)] : State).rd 0x3209 0 = (5 : PortNo).val) ∧ ((List.range 144).filter (((wSynce id [(0x3202, 5, 1), (0x3204, 5, 15), (0x3209, 0, 5)] : State).tick (0 : Nat)).wr 0x3211 (5 : PortNo).val (0 : BitVec 32).toNat).isCandidate = []) := by decide +kernel

theorem witness_SynceSelectsItsInput_22 :
    (Tab.find? (wSynce (fun q => { q with wtr := [(143, 9)] }) [] : State).synce.wtr (143 : PortNo).val = some (9 : Nat)) ∧ ((9 : Nat) ≤ (wSynce (fun q => { q with wtr := [(143, 9)] }) [] : State).clk + (9 : Nat)) := by decide

theorem witness_SynceSelectsItsInput_23 :
    (Tab.find? (wSynce (fun q => { q with wtr := [(143, 9)] }) [] : State).synce.wtr (143 : PortNo).val = some (9 : Nat)) ∧ ((wSynce (fun q => { q with wtr := [(143, 9)] }) [] : State).clk + (8 : Nat) < (9 : Nat)) := by decide

theorem witness_SynceSelectsItsInput_24 :
    (Tab.find? (wUp [] : State).synce.wtr (143 : PortNo).val = none) := by decide

theorem witness_SynceSelectsItsInput_25 :
    ((wSynce (fun q => { q with lockedSince := some 0 }) [(0x320A, 0, 2), (0x3209, 0, 5), (0x3204, 5, 2), (0x340F, 0, 1)] : State).synce.lockedSince = some (0 : Nat)) ∧ ((0 : Nat) + 3600 * 400000000 ≤ (wSynce (fun q => { q with lockedSince := some 0 }) [(0x320A, 0, 2), (0x3209, 0, 5), (0x3204, 5, 2), (0x340F, 0, 1)] : State).clk + (1440000000000 : Nat)) ∧ ((wSynce (fun q => { q with lockedSince := some 0 }) [(0x320A, 0, 2), (0x3209, 0, 5), (0x3204, 5, 2), (0x340F, 0, 1)] : State).goodInput = true) ∧ ((wSynce (fun q => { q with lockedSince := some 0 }) [(0x320A, 0, 2), (0x3209, 0, 5), (0x3204, 5, 2), (0x340F, 0, 1)] : State).rd 0x340F 0 = 1) := by decide

theorem witness_SynceSelectsItsInput_26 :
    ((wUp [] : State).synce.lockedSince = none ∨ (wUp [] : State).goodInput = false ∨ (wUp [] : State).rd 0x340F 0 = 0) := by decide

theorem witness_SynceSelectsItsInput_27 :
    ((wSynce (fun q => { q with lockedSince := some 0 }) [] : State).synce.lockedSince = some (0 : Nat)) ∧ ((wSynce (fun q => { q with lockedSince := some 0 }) [] : State).clk + (1439999999999 : Nat) < (0 : Nat) + 3600 * 400000000) := by decide

theorem witness_SynceSelectsItsInput_29 :
    ((wUp [] : State).goodInput = false) := by decide

theorem witness_SynceSelectsItsInput_30 :
    ((wSynce id [(0x320A, 0, 2), (0x3209, 0, 5), (0x3204, 5, 2)] : State).goodInput = true) := by decide

theorem witness_SynceSelectsItsInput_31 :
    ((wUp [] : State).rd 0x3200 0 = 0 ∨ (wUp [] : State).holder = none ∨ (wUp [] : State).stageAtLeast 2 = false) := by decide

theorem witness_SynceSelectsItsInput_32 :
    ((wSynce (fun q => { q with sentAt := some 0 }) [] : State).synce.sentAt = some (0 : Nat)) ∧ ((wSynce (fun q => { q with sentAt := some 0 }) [] : State).clk + (399999999 : Nat) < (0 : Nat) + 400000000) := by decide

theorem witness_SynceSelectsItsInput_33 :
    ((wSynce id [(0x3206, 5, 1)] : State).rd 0x3200 0 = 1) ∧ ((wSynce id [(0x3206, 5, 1)] : State).holder.isSome = true) ∧ ((wSynce id [(0x3206, 5, 1)] : State).stageAtLeast 2 = true) ∧ ((∀ t, (wSynce id [(0x3206, 5, 1)] : State).synce.sentAt = some t → t + 400000000 ≤ (wSynce id [(0x3206, 5, 1)] : State).clk + (0 : Nat))) := by decide +kernel

theorem witness_TheReceiverAndItsAntennaReport_1 :
    ((State.reset : State).isOn 12 = false ∨ (State.reset : State).rd 0x3300 0 = 0) := by decide

theorem witness_TheReceiverAndItsAntennaReport_2 :
    ((wUp [(0x3300, 0, 1), (0x3404, 0, 1)] : State).isOn 12 = true) ∧ ((wUp [(0x3300, 0, 1), (0x3404, 0, 1)] : State).rd 0x3300 0 = 1) := by decide

theorem witness_TheReceiverAndItsAntennaReport_4 :
    ((wUp [(0x3404, 0, 1), (0x3314, 0, 1)] : State).rd 0x3404 0 ≠ 1 ∨ (wUp [(0x3404, 0, 1), (0x3314, 0, 1)] : State).rd 0x3314 0 ≠ 0) := by decide

theorem witness_TheReceiverAndItsAntennaReport_5 :
    ((wUp [(0x3404, 0, 1)] : State).rd 0x3404 0 = 1) ∧ ((wUp [(0x3404, 0, 1)] : State).rd 0x3314 0 = 0) := by decide

theorem witness_TheReceiverAndItsAntennaReport_8 :
    ((wUp [(0x3300, 0, 1)] : State).isOn 12 = true) ∧ ((wUp [(0x3300, 0, 1)] : State).rd 0x3300 0 = 1) ∧ ((wUp [(0x3300, 0, 1)] : State).rd 0x3404 0 ≠ 1) := by decide

theorem witness_TheReceiverAndItsAntennaReport_9 :
    ((wUp [(0x3300, 0, 1)] : State).isOn 12 = true) ∧ ((wUp [(0x3300, 0, 1)] : State).rd 0x3300 0 = 1) ∧ ((wUp [(0x3300, 0, 1)] : State).rd 0x3404 0 ≠ 1) ∧ ((1 : Fin 5).val ≠ 3) := by decide

theorem witness_TheReceiverAndItsAntennaReport_10 :
    ((wGnss (fun q => { q with surveySince := some 0 }) [] : State).gnss.surveySince = some (0 : Nat)) ∧ ((wGnss (fun q => { q with surveySince := some 0 }) [] : State).rd 0x3302 0 = 0) ∧ ((0 : Nat) + (wGnss (fun q => { q with surveySince := some 0 }) [] : State).rd 0x3304 0 * 60 * 400000000 ≤ (wGnss (fun q => { q with surveySince := some 0 }) [] : State).clk + (1000000000000000 : Nat)) := by decide

theorem witness_TheReceiverAndItsAntennaReport_11 :
    ((wUp [] : State).gnss.surveySince = none ∨ (wUp [] : State).rd 0x3302 0 ≠ 0) := by decide

theorem witness_TheReceiverAndItsAntennaReport_12 :
    ((wGnss (fun q => { q with surveySince := some 0 }) [(0x3304, 0, 10)] : State).gnss.surveySince = some (0 : Nat)) ∧ ((wGnss (fun q => { q with surveySince := some 0 }) [(0x3304, 0, 10)] : State).clk + (239999999999 : Nat) < (0 : Nat) + (wGnss (fun q => { q with surveySince := some 0 }) [(0x3304, 0, 10)] : State).rd 0x3304 0 * 60 * 400000000) := by decide

theorem witness_TheReceiverAndItsAntennaReport_13 :
    ((wUp [] : State).isOn 12 = true) ∧ ((wUp [] : State).gnss.biasOff = none) ∧ (20 ≤ (500#16 : BitVec 16).toNat) ∧ ((500#16 : BitVec 16).toNat ≤ 500) := by decide

theorem witness_TheReceiverAndItsAntennaReport_14 :
    ((wUp [] : State).isOn 12 = true) ∧ ((wUp [] : State).gnss.biasOff = none) ∧ ((19#16 : BitVec 16).toNat < 20) := by decide

theorem witness_TheReceiverAndItsAntennaReport_15 :
    ((wUp [] : State).isOn 12 = true) ∧ ((wUp [] : State).gnss.biasOff = none) ∧ (500 < (650#16 : BitVec 16).toNat) ∧ ((650#16 : BitVec 16).toNat ≤ 650) := by decide

theorem witness_TheReceiverAndItsAntennaReport_16 :
    ((wServo (fun q => { q with good := [1, 2] }) [(0x3401, 0, 1), (0x3400, 0, 2)] : State).isOn 12 = true) ∧ ((wServo (fun q => { q with good := [1, 2] }) [(0x3401, 0, 1), (0x3400, 0, 2)] : State).gnss.biasOff = none) ∧ (650 < (651#16 : BitVec 16).toNat) := by decide

theorem witness_TheReceiverAndItsAntennaReport_17 :
    ((State.reset : State).isOn 12 = false) := by decide

theorem witness_TheReceiverAndItsAntennaReport_18 :
    ((wGnss (fun q => { q with biasOff := some 0 }) [] : State).gnss.biasOff = some (0 : Nat)) := by decide

theorem witness_TheReceiverAndItsAntennaReport_19 :
    ((wGnss (fun q => { q with biasOff := some 0 }) [] : State).gnss.biasOff = some (0 : Nat)) ∧ ((0 : Nat) + 4000000000 ≤ (wGnss (fun q => { q with biasOff := some 0 }) [] : State).clk + (4000000000 : Nat)) := by decide

theorem witness_TheReceiverAndItsAntennaReport_20 :
    ((wGnss (fun q => { q with biasOff := some 0 }) [] : State).gnss.biasOff = some (0 : Nat)) ∧ ((wGnss (fun q => { q with biasOff := some 0 }) [] : State).clk + (3999999999 : Nat) < (0 : Nat) + 4000000000) := by decide

theorem witness_TheReceiverAndItsAntennaReport_21 :
    ((wUp [] : State).gnss.biasOff = none) := by decide

theorem witness_TimedInputsAndOutputsFollowDT_2 :
    ((State.reset : State).isOn 12 = false ∨ (State.reset : State).stageAtLeast 1 = false) := by decide

theorem witness_TimedInputsAndOutputsFollowDT_3 :
    ((wUp [] : State).isOn 12 = true) ∧ ((wUp [] : State).stageAtLeast 1 = true) := by decide

theorem witness_TimedInputsAndOutputsFollowDT_4 :
    ((wUp [(0x3501, 1, 0)] : State).rd 0x3501 (1 : Fin 2).val = 0) := by decide

theorem witness_TimedInputsAndOutputsFollowDT_5 :
    ((wUp [(0x3501, 1, 1), (0x3502, 1, 100)] : State).rd 0x3501 (1 : Fin 2).val = 1) := by decide

theorem witness_TimedInputsAndOutputsFollowDT_6 :
    ((wUp [(0x3501, 1, 2)] : State).rd 0x3501 (1 : Fin 2).val = 2) := by decide

theorem witness_TimedInputsAndOutputsFollowDT_7 :
    (0 < (1 : Int)) := by decide

theorem witness_TimedInputsAndOutputsFollowDT_8 :
    (((wRunning (wUp [(0x3500, 1, 1), (0x3507, 1, 2), (0x3503, 1, 100)]) : State).tick (400000000 : Nat)).gridInstant (1 : Fin 2).val ((wRunning (wUp [(0x3500, 1, 1), (0x3507, 1, 2), (0x3503, 1, 100)]) : State).time.triple.dtOf ((wRunning (wUp [(0x3500, 1, 1), (0x3507, 1, 2), (0x3503, 1, 100)]) : State).tickRC (400000000 : Nat) - 1) + 1) = some (65536000000000 : Int)) ∧ ((wRunning (wUp [(0x3500, 1, 1), (0x3507, 1, 2), (0x3503, 1, 100)]) : State).outputRuns (1 : Fin 2).val = true) ∧ ((65536000000000 : Int) ≤ (wRunning (wUp [(0x3500, 1, 1), (0x3507, 1, 2), (0x3503, 1, 100)]) : State).time.triple.dtOf ((wRunning (wUp [(0x3500, 1, 1), (0x3507, 1, 2), (0x3503, 1, 100)]) : State).tickRC (400000000 : Nat))) ∧ ((wRunning (wUp [(0x3500, 1, 1), (0x3507, 1, 2), (0x3503, 1, 100)]) : State).tio.notBefore ≤ (65536000000000 : Int)) ∧ ((∀ l, Tab.find? (wRunning (wUp [(0x3500, 1, 1), (0x3507, 1, 2), (0x3503, 1, 100)]) : State).tio.lastEdge (1 : Fin 2).val = some l → l < (65536000000000 : Int))) := by decide

theorem witness_TimedInputsAndOutputsFollowDT_9 :
    (((wRunning (wTio (fun q => { q with lastEdge := [(1, 65536000000000)] }) [(0x3500, 1, 1), (0x3507, 1, 2)]) : State).tick (400000000 : Nat)).gridInstant (1 : Fin 2).val ((wRunning (wTio (fun q => { q with lastEdge := [(1, 65536000000000)] }) [(0x3500, 1, 1), (0x3507, 1, 2)]) : State).time.triple.dtOf ((wRunning (wTio (fun q => { q with lastEdge := [(1, 65536000000000)] }) [(0x3500, 1, 1), (0x3507, 1, 2)]) : State).tickRC (400000000 : Nat) - 1) + 1) = some (65536000000000 : Int)) ∧ (Tab.find? (wRunning (wTio (fun q => { q with lastEdge := [(1, 65536000000000)] }) [(0x3500, 1, 1), (0x3507, 1, 2)]) : State).tio.lastEdge (1 : Fin 2).val = some (65536000000000 : Int)) ∧ ((65536000000000 : Int) ≤ (65536000000000 : Int)) := by decide

theorem witness_TimedInputsAndOutputsFollowDT_10 :
    ((wUp [] : State).outputRuns (0 : Fin 2).val = false ∨ ((wUp [] : State).tick (0 : Nat)).gridInstant (0 : Fin 2).val ((wUp [] : State).time.triple.dtOf ((wUp [] : State).tickRC (0 : Nat) - 1) + 1) = none) := by decide

theorem witness_TimedInputsAndOutputsFollowDT_11 :
    (((wRunning (wUp [(0x3500, 1, 1), (0x3507, 1, 2)]) : State).tick (399999998 : Nat)).gridInstant (1 : Fin 2).val ((wRunning (wUp [(0x3500, 1, 1), (0x3507, 1, 2)]) : State).time.triple.dtOf ((wRunning (wUp [(0x3500, 1, 1), (0x3507, 1, 2)]) : State).tickRC (399999998 : Nat) - 1) + 1) = some (65536000000000 : Int)) ∧ ((wRunning (wUp [(0x3500, 1, 1), (0x3507, 1, 2)]) : State).time.triple.dtOf ((wRunning (wUp [(0x3500, 1, 1), (0x3507, 1, 2)]) : State).tickRC (399999998 : Nat)) < (65536000000000 : Int) ∨ (65536000000000 : Int) < (wRunning (wUp [(0x3500, 1, 1), (0x3507, 1, 2)]) : State).tio.notBefore) := by decide

theorem witness_TimedInputsAndOutputsFollowDT_12 :
    ((State.reset : State).isOn 12 = false) := by decide

theorem witness_TimedInputsAndOutputsFollowDT_13 :
    ((wUp [(0x350B, 0, 1), (0x350C, 0, 2), (0x350F, 0, 63), (0x3515, 0, 1)] : State).isOn 12 = true) ∧ ((wUp [(0x350B, 0, 1), (0x350C, 0, 2), (0x350F, 0, 63), (0x3515, 0, 1)] : State).rd 0x350B (0 : Fin 2).val = 1) ∧ ((wUp [(0x350B, 0, 1), (0x350C, 0, 2), (0x350F, 0, 63), (0x3515, 0, 1)] : State).edgeSelected (0 : Fin 2).val (false : Bool) = true) ∧ ((∀ l, Tab.find? (wUp [(0x350B, 0, 1), (0x350C, 0, 2), (0x350F, 0, 63), (0x3515, 0, 1)] : State).tio.capLast (0 : Fin 2).val = some l → l + 10240 ≤ ((wUp [(0x350B, 0, 1), (0x350C, 0, 2), (0x350F, 0, 63), (0x3515, 0, 1)] : State).tick (0 : Nat)).captureStamp (0 : Fin 2).val (200#8 : BitVec 8).toNat)) := by decide

theorem witness_TimedInputsAndOutputsFollowDT_14 :
    ((wTio (fun q => { q with capLast := [(0, 1)] }) [(0x350B, 0, 1)] : State).isOn 12 = true) ∧ ((wTio (fun q => { q with capLast := [(0, 1)] }) [(0x350B, 0, 1)] : State).rd 0x350B (0 : Fin 2).val = 1) ∧ ((wTio (fun q => { q with capLast := [(0, 1)] }) [(0x350B, 0, 1)] : State).edgeSelected (0 : Fin 2).val (false : Bool) = true) ∧ (Tab.find? (wTio (fun q => { q with capLast := [(0, 1)] }) [(0x350B, 0, 1)] : State).tio.capLast (0 : Fin 2).val = some (1 : Nat)) ∧ (((wTio (fun q => { q with capLast := [(0, 1)] }) [(0x350B, 0, 1)] : State).tick (0 : Nat)).captureStamp (0 : Fin 2).val (200#8 : BitVec 8).toNat < (1 : Nat) + 10240) := by decide

theorem witness_TimedInputsAndOutputsFollowDT_15 :
    ((wUp [(0x3515, 0, 1), (0x350B, 0, 0)] : State).isOn 12 = true) ∧ ((wUp [(0x3515, 0, 1), (0x350B, 0, 0)] : State).rd 0x350B (0 : Fin 2).val = 0 ∨ (wUp [(0x3515, 0, 1), (0x350B, 0, 0)] : State).edgeSelected (0 : Fin 2).val (false : Bool) = false) := by decide

theorem witness_TimedInputsAndOutputsFollowDT_16 :
    ((wUp [(0x350F, 1, 63)] : State).rd 0x350F (1 : Fin 2).val < 64) := by decide

theorem witness_TimedInputsAndOutputsFollowDT_20 :
    (Ready (wTio (fun q => { q with capCount := [(1, 9)] }) [(0x350E, 64, 9), (0x350E, 127, 8), (0x350F, 1, 1)] : State) (wReq 1 [1] : Req) roleSite) ∧ (FullService (wTio (fun q => { q with capCount := [(1, 9)] }) [(0x350E, 64, 9), (0x350E, 127, 8), (0x350F, 1, 1)] : State)) ∧ ((wReq 1 [1] : Req).inst.toNat < 2) ∧ ((wReq 1 [1] : Req).data = [1]) := by decide

theorem witness_TimedInputsAndOutputsFollowDT_21 :
    ((wUp [] : State).rd 0x3512 0 = 0 ∨ ((wUp [] : State).outputRuns 0 = false ∧ (wUp [] : State).outputRuns 1 = false)) := by decide

theorem witness_TimedInputsAndOutputsFollowDT_22 :
    (floorDiv ((wRunning (wUp [(0x3500, 0, 1), (0x3507, 0, 2), (0x3512, 0, 1)]) : State).time.triple.dtOf ((wRunning (wUp [(0x3500, 0, 1), (0x3507, 0, 2), (0x3512, 0, 1)]) : State).tickRC (439999999 : Nat))) (nsUnits 1000000000) = (1 : Int)) ∧ ((1 : Int) ≤ (wRunning (wUp [(0x3500, 0, 1), (0x3507, 0, 2), (0x3512, 0, 1)]) : State).tio.todSecond ∨ (wRunning (wUp [(0x3500, 0, 1), (0x3507, 0, 2), (0x3512, 0, 1)]) : State).time.triple.dtOf ((wRunning (wUp [(0x3500, 0, 1), (0x3507, 0, 2), (0x3512, 0, 1)]) : State).tickRC (439999999 : Nat)) < nsUnits ((1 : Int) * 1000000000 + 100000000)) := by decide

theorem witness_TimedInputsAndOutputsFollowDT_23 :
    (floorDiv ((wRunning (wUp [(0x3500, 1, 1), (0x3507, 1, 2), (0x3512, 0, 1)]) : State).time.triple.dtOf ((wRunning (wUp [(0x3500, 1, 1), (0x3507, 1, 2), (0x3512, 0, 1)]) : State).tickRC (440000000 : Nat))) (nsUnits 1000000000) = (1 : Int)) ∧ ((wRunning (wUp [(0x3500, 1, 1), (0x3507, 1, 2), (0x3512, 0, 1)]) : State).rd 0x3512 0 = 1) ∧ ((wRunning (wUp [(0x3500, 1, 1), (0x3507, 1, 2), (0x3512, 0, 1)]) : State).outputRuns 0 = true ∨ (wRunning (wUp [(0x3500, 1, 1), (0x3507, 1, 2), (0x3512, 0, 1)]) : State).outputRuns 1 = true) ∧ ((wRunning (wUp [(0x3500, 1, 1), (0x3507, 1, 2), (0x3512, 0, 1)]) : State).tio.todSecond < (1 : Int)) ∧ (nsUnits ((1 : Int) * 1000000000 + 100000000) ≤ (wRunning (wUp [(0x3500, 1, 1), (0x3507, 1, 2), (0x3512, 0, 1)]) : State).time.triple.dtOf ((wRunning (wUp [(0x3500, 1, 1), (0x3507, 1, 2), (0x3512, 0, 1)]) : State).tickRC (440000000 : Nat))) := by decide

theorem witness_TimedInputsAndOutputsFollowDT_24 :
    ((State.reset : State).isOn 12 = false ∨ (State.reset : State).rd 0x3515 0 = 0) := by decide

theorem witness_TimedInputsAndOutputsFollowDT_25 :
    ((wServo (fun q => { q with good := [3] }) [(0x3515, 0, 1)] : State).isOn 12 = true) ∧ ((wServo (fun q => { q with good := [3] }) [(0x3515, 0, 1)] : State).rd 0x3515 0 = 1) ∧ (todGood ([] : List Byte) = false ∨ (wServo (fun q => { q with good := [3] }) [(0x3515, 0, 1)] : State).tio.edgeAt + 400000000 ≤ (wServo (fun q => { q with good := [3] }) [(0x3515, 0, 1)] : State).clk + (0 : Nat) ∨ (wServo (fun q => { q with good := [3] }) [(0x3515, 0, 1)] : State).tio.edgeOk = false ∨ (wServo (fun q => { q with good := [3] }) [(0x3515, 0, 1)] : State).tio.named.any (fun n => n + 1 != getBE ([] : List Byte) 4 6) = true ∨ 7 < getBE ([] : List Byte) 13 1) := by decide

theorem witness_TimedInputsAndOutputsFollowDT_26 :
    ((wTio (fun q => { q with named := some 5, run := 9, edge := some 999, edgeOk := true, edgeAt := 0 }) [(0x3515, 0, 1)] : State).isOn 12 = true) ∧ ((wTio (fun q => { q with named := some 5, run := 9, edge := some 999, edgeOk := true, edgeAt := 0 }) [(0x3515, 0, 1)] : State).rd 0x3515 0 = 1) ∧ (todGood (todRecord 6 37 2 6 0 : List Byte) = true) ∧ ((wTio (fun q => { q with named := some 5, run := 9, edge := some 999, edgeOk := true, edgeAt := 0 }) [(0x3515, 0, 1)] : State).clk + (0 : Nat) < (wTio (fun q => { q with named := some 5, run := 9, edge := some 999, edgeOk := true, edgeAt := 0 }) [(0x3515, 0, 1)] : State).tio.edgeAt + 400000000) ∧ ((wTio (fun q => { q with named := some 5, run := 9, edge := some 999, edgeOk := true, edgeAt := 0 }) [(0x3515, 0, 1)] : State).tio.edgeOk = true) ∧ ((∀ n, (wTio (fun q => { q with named := some 5, run := 9, edge := some 999, edgeOk := true, edgeAt := 0 }) [(0x3515, 0, 1)] : State).tio.named = some n → n + 1 = getBE (todRecord 6 37 2 6 0 : List Byte) 4 6)) ∧ (getBE (todRecord 6 37 2 6 0 : List Byte) 13 1 ≤ 7) := by decide

theorem witness_TheKilnAndItsVoteGiveTheReference_1 :
    ((wUp [] : State).isOn 12 = true) ∧ ((wUp [] : State).rd 0x0125 0 = 0) ∧ ((wUp [] : State).rd 0x020A 0 = 0) ∧ ((wUp [] : State).rd 0x0200 0 = 0) := by decide

theorem witness_TheKilnAndItsVoteGiveTheReference_2 :
    ((wUp [(0x0200, 0, 2)] : State).isOn 12 = true) ∧ ((wUp [(0x0200, 0, 2)] : State).rd 0x0125 0 = 0) ∧ ((wUp [(0x0200, 0, 2)] : State).rd 0x020A 0 = 0) ∧ ((wUp [(0x0200, 0, 2)] : State).rd 0x0200 0 ≠ 0) := by decide

theorem witness_TheKilnAndItsVoteGiveTheReference_3 :
    ((State.reset : State).isOn 12 = false ∨ (State.reset : State).rd 0x0125 0 ≠ 0 ∨ (State.reset : State).rd 0x020A 0 ≠ 0) := by decide

theorem witness_TheKilnAndItsVoteGiveTheReference_4 :
    ((wUp [] : State).isOn 12 = true) ∧ ((wUp [] : State).rd 0x0200 0 = 0) ∧ ((wUp [] : State).clocks.late = false) ∧ ((wUp [] : State).power.warmFrom + (warmUpBound (wUp [] : State).power.tc).toNat * 400000 < (wUp [] : State).clk + (96000000001 : Nat)) := by decide

theorem witness_TheKilnAndItsVoteGiveTheReference_5 :
    ((wUp [] : State).clocks.late = true ∨ (wUp [] : State).clk + (0 : Nat) ≤ (wUp [] : State).power.warmFrom + (warmUpBound (wUp [] : State).power.tc).toNat * 400000) := by decide

theorem witness_TheKilnAndItsVoteGiveTheReference_6 :
    ((State.reset : State).isOn 12 = false ∨ (State.reset : State).rd 0x0200 0 ≠ 0) := by decide

theorem witness_TheKilnAndItsVoteGiveTheReference_8 :
    ((wUp [(0x0200, 0, 1)] : State).isOn 12 = true) ∧ ((wUp [(0x0200, 0, 1)] : State).rd 0x0200 0 = 1) ∧ ((139499#32 : BitVec 32).toNat < 139500 ∨ 140500 < (139499#32 : BitVec 32).toNat) := by decide

theorem witness_TheKilnAndItsVoteGiveTheReference_9 :
    ((139500 ≤ (140500#32 : BitVec 32).toNat ∧ (140500#32 : BitVec 32).toNat ≤ 140500) ∨ (wUp [(0x0200, 0, 1)] : State).isOn 12 = false ∨ (wUp [(0x0200, 0, 1)] : State).rd 0x0200 0 ≠ 1) := by decide

theorem witness_TheKilnAndItsVoteGiveTheReference_10 :
    ((wUp [] : State).isOn 12 = true) ∧ ((wUp [] : State).rd 0x0202 0 = 0) ∧ ((wUp [] : State).rd 0x0203 0 = 0) ∧ ((wUp [] : State).rd 0x0204 0 = 0) ∧ ((wUp [] : State).rd 0x0205 0 = 0) ∧ (((5#32 : BitVec 32).toInt - (0xFFFFFFFF#32 : BitVec 32).toInt).natAbs ≤ 1000 * (wUp [] : State).rd 0x0209 0) ∧ (((5#32 : BitVec 32).toInt - (19999#32 : BitVec 32).toInt).natAbs ≤ 1000 * (wUp [] : State).rd 0x0209 0) ∧ (((0xFFFFFFFF#32 : BitVec 32).toInt - (19999#32 : BitVec 32).toInt).natAbs ≤ 1000 * (wUp [] : State).rd 0x0209 0) := by decide

theorem witness_TheKilnAndItsVoteGiveTheReference_11 :
    ((wUp [] : State).isOn 12 = true) ∧ ((wUp [] : State).rd 0x0202 0 = 0) ∧ ((wUp [] : State).rd 0x0203 0 = 0) ∧ ((wUp [] : State).rd 0x0204 0 = 0) ∧ ((wUp [] : State).rd 0x0205 0 = 0) ∧ (1000 * (wUp [] : State).rd 0x0209 0 < ((20006#32 : BitVec 32).toInt - (5#32 : BitVec 32).toInt).natAbs) ∧ (1000 * (wUp [] : State).rd 0x0209 0 < ((20006#32 : BitVec 32).toInt - (0#32 : BitVec 32).toInt).natAbs) ∧ (((5#32 : BitVec 32).toInt - (0#32 : BitVec 32).toInt).natAbs ≤ 1000 * (wUp [] : State).rd 0x0209 0) := by decide

theorem witness_TheKilnAndItsVoteGiveTheReference_12 :
    ((wUp [] : State).isOn 12 = true) ∧ ((wUp [] : State).rd 0x0203 0 = 0) ∧ ((wUp [] : State).rd 0x0204 0 = 0) ∧ ((wUp [] : State).rd 0x0205 0 = 0) ∧ (1000 * (wUp [] : State).rd 0x0209 0 < ((20001#32 : BitVec 32).toInt - (0#32 : BitVec 32).toInt).natAbs) ∧ (1000 * (wUp [] : State).rd 0x0209 0 < ((20001#32 : BitVec 32).toInt - (0xFFFF0000#32 : BitVec 32).toInt).natAbs) ∧ (1000 * (wUp [] : State).rd 0x0209 0 < ((0#32 : BitVec 32).toInt - (0xFFFF0000#32 : BitVec 32).toInt).natAbs) ∧ ((wUp [] : State).rd 0x020A 0 ≠ 2) ∧ ((wUp [] : State).rd 0x0202 0 < 3) := by decide

theorem witness_TheKilnAndItsVoteGiveTheReference_13 :
    ((wUp [] : State).isOn 12 = true) := by decide

theorem witness_TheKilnAndItsVoteGiveTheReference_16 :
    ((wUp [] : State).rd (0x0203 + (2 : Fin 3).val) 0 = 0) ∧ (((false : Bool) || (true : Bool)) = true) := by decide

theorem witness_TheKilnAndItsVoteGiveTheReference_17 :
    ((wUp [] : State).rd (0x0203 + (2 : Fin 3).val) 0 = 0) := by decide

theorem witness_TheKilnAndItsVoteGiveTheReference_18 :
    ((wClk (fun q => { q with agree := [(1, 99)] }) [(0x0204, 0, 1)] : State).rd (0x0203 + (1 : Fin 3).val) 0 ≠ 0) ∧ (99 ≤ Tab.get 0 (wClk (fun q => { q with agree := [(1, 99)] }) [(0x0204, 0, 1)] : State).clocks.agree (1 : Fin 3).val) := by decide

theorem witness_TheKilnAndItsVoteGiveTheReference_19 :
    ((wClk (fun q => { q with agree := [(1, 98)] }) [(0x0204, 0, 1)] : State).rd (0x0203 + (1 : Fin 3).val) 0 ≠ 0) ∧ (((true : Bool) && (true : Bool)) = false ∨ Tab.get 0 (wClk (fun q => { q with agree := [(1, 98)] }) [(0x0204, 0, 1)] : State).clocks.agree (1 : Fin 3).val < 99) := by decide

theorem witness_TheKilnAndItsVoteGiveTheReference_20 :
    ((wUp [] : State).rd 0x0203 0 = 0) ∧ ((wUp [] : State).rd 0x0204 0 = 0) ∧ ((wUp [] : State).rd 0x0205 0 = 0) := by decide

theorem witness_TheKilnAndItsVoteGiveTheReference_21 :
    ((∀ j : Fin 3, (wUp [(0x0205, 0, 1), (0x0202, 0, 2)] : State).rd (0x0203 + j.val) 0 ≠ 0 ↔ j = (2 : Fin 3))) ∧ ((wUp [(0x0205, 0, 1), (0x0202, 0, 2)] : State).rd 0x0202 0 < 3) := by decide

theorem witness_TheKilnAndItsVoteGiveTheReference_22 :
    ((wUp [(0x0203, 0, 2), (0x0205, 0, 1)] : State).rd (0x0203 + (0 : Fin 3).val) 0 ≠ 0) ∧ ((wUp [(0x0203, 0, 2), (0x0205, 0, 1)] : State).rd (0x0203 + (2 : Fin 3).val) 0 ≠ 0) ∧ ((0 : Fin 3) ≠ (2 : Fin 3)) := by decide

theorem witness_TheKilnAndItsVoteGiveTheReference_23 :
    ((State.reset : State).isOn 12 = false) := by decide

theorem witness_DomainClocksFallBackRampAndAreGated_1 :
    ((wUp [] : State).isOn (12 : Fin 13).val = true) ∧ ((wUp [] : State).rd 0x020F (12 : Fin 13).val = 0) := by decide

theorem witness_DomainClocksFallBackRampAndAreGated_2 :
    ((wUp [(0x020F, 12, 1)] : State).isOn (12 : Fin 13).val = false ∨ (wUp [(0x020F, 12, 1)] : State).rd 0x020F (12 : Fin 13).val ≠ 0) := by decide

theorem witness_DomainClocksFallBackRampAndAreGated_3 :
    (Tab.find? (wClk (fun q => { q with fallbackAt := [(3, 0)] }) [(0x020F, 3, 1)] : State).clocks.fallbackAt (3 : Fin 13).val = some (0 : Nat)) ∧ ((wClk (fun q => { q with fallbackAt := [(3, 0)] }) [(0x020F, 3, 1)] : State).rd 0x020F (3 : Fin 13).val = 1) ∧ ((wClk (fun q => { q with fallbackAt := [(3, 0)] }) [(0x020F, 3, 1)] : State).isOn 12 = true) ∧ ((0 : Nat) + (wClk (fun q => { q with fallbackAt := [(3, 0)] }) [(0x020F, 3, 1)] : State).rd 0x022F 0 * 400000 ≤ (wClk (fun q => { q with fallbackAt := [(3, 0)] }) [(0x020F, 3, 1)] : State).clk + (40000000 : Nat)) ∧ (Tab.get 0 (wClk (fun q => { q with fallbackAt := [(3, 0)] }) [(0x020F, 3, 1)] : State).clocks.poweredAt 12 + (wClk (fun q => { q with fallbackAt := [(3, 0)] }) [(0x020F, 3, 1)] : State).rd 0x022F 0 * 400000 ≤ (wClk (fun q => { q with fallbackAt := [(3, 0)] }) [(0x020F, 3, 1)] : State).clk + (40000000 : Nat)) := by decide

theorem witness_DomainClocksFallBackRampAndAreGated_4 :
    (Tab.find? (wClk (fun q => { q with fallbackAt := [(3, 0)] }) [(0x020F, 3, 1)] : State).clocks.fallbackAt (3 : Fin 13).val = some (0 : Nat)) ∧ ((wClk (fun q => { q with fallbackAt := [(3, 0)] }) [(0x020F, 3, 1)] : State).clk + (39999999 : Nat) < (0 : Nat) + (wClk (fun q => { q with fallbackAt := [(3, 0)] }) [(0x020F, 3, 1)] : State).rd 0x022F 0 * 400000 ∨ (wClk (fun q => { q with fallbackAt := [(3, 0)] }) [(0x020F, 3, 1)] : State).clk + (39999999 : Nat) < Tab.get 0 (wClk (fun q => { q with fallbackAt := [(3, 0)] }) [(0x020F, 3, 1)] : State).clocks.poweredAt 12 + (wClk (fun q => { q with fallbackAt := [(3, 0)] }) [(0x020F, 3, 1)] : State).rd 0x022F 0 * 400000 ∨ (wClk (fun q => { q with fallbackAt := [(3, 0)] }) [(0x020F, 3, 1)] : State).isOn 12 = false ∨ (wClk (fun q => { q with fallbackAt := [(3, 0)] }) [(0x020F, 3, 1)] : State).rd 0x020F (3 : Fin 13).val ≠ 1) := by decide

theorem witness_DomainClocksFallBackRampAndAreGated_5 :
    (Tab.find? (wUp [] : State).clocks.fallbackAt (0 : Fin 13).val = none) := by decide

theorem witness_DomainClocksFallBackRampAndAreGated_6 :
    ((wUp [] : State).dom (0 : Fin 13).val ≠ 0) := by decide

theorem witness_DomainClocksFallBackRampAndAreGated_7 :
    ((State.reset : State).dom (0 : Fin 13).val = 0) := by decide

theorem witness_DomainClocksFallBackRampAndAreGated_8 :
    ((State.reset : State).isOn (1 : PlaneNo).val = false) := by decide

theorem witness_DomainClocksFallBackRampAndAreGated_9 :
    ((wUp [(0x0214, 1, 8)] : State).isOn (1 : PlaneNo).val = true) := by decide

theorem witness_DomainClocksFallBackRampAndAreGated_14 :
    ((wUp [(0x0213, 0, 0), (0x0214, 1, 4)] : State).isOn (1 : PlaneNo).val = true) ∧ ((wUp [(0x0213, 0, 0), (0x0214, 1, 4)] : State).rd 0x0213 0 = 0 ∨ (wUp [(0x0213, 0, 0), (0x0214, 1, 4)] : State).stageAtLeast 2 = false) ∧ ((wUp [(0x0213, 0, 0), (0x0214, 1, 4)] : State).rd 0x0214 (1 : PlaneNo).val = 4) := by decide

theorem witness_DomainClocksFallBackRampAndAreGated_15 :
    ((wClk (fun q => { q with ramps := [(0, ⟨0, 0, some 0, none, 0⟩)] }) [(0x0214, 0, 4)] : State).isOn (0 : PlaneNo).val = true) ∧ ((wClk (fun q => { q with ramps := [(0, ⟨0, 0, some 0, none, 0⟩)] }) [(0x0214, 0, 4)] : State).rd 0x0213 0 = 1) ∧ ((wClk (fun q => { q with ramps := [(0, ⟨0, 0, some 0, none, 0⟩)] }) [(0x0214, 0, 4)] : State).stageAtLeast 2 = true) ∧ ((wClk (fun q => { q with ramps := [(0, ⟨0, 0, some 0, none, 0⟩)] }) [(0x0214, 0, 4)] : State).ramp (0 : PlaneNo).val = ⟨0, 0, some (0 : Nat), none, 0⟩) ∧ ((0 : Nat) + (wClk (fun q => { q with ramps := [(0, ⟨0, 0, some 0, none, 0⟩)] }) [(0x0214, 0, 4)] : State).rd 0x0219 0 * 400000 ≤ (wClk (fun q => { q with ramps := [(0, ⟨0, 0, some 0, none, 0⟩)] }) [(0x0214, 0, 4)] : State).clk + (4000000 : Nat)) ∧ ((wClk (fun q => { q with ramps := [(0, ⟨0, 0, some 0, none, 0⟩)] }) [(0x0214, 0, 4)] : State).rd 0x0214 (0 : PlaneNo).val = 4) ∧ ((wClk (fun q => { q with ramps := [(0, ⟨0, 0, some 0, none, 0⟩)] }) [(0x0214, 0, 4)] : State).floorDivider = 8) ∧ (1 ≤ (wClk (fun q => { q with ramps := [(0, ⟨0, 0, some 0, none, 0⟩)] }) [(0x0214, 0, 4)] : State).rd 0x0217 0) := by decide

theorem witness_DomainClocksFallBackRampAndAreGated_16 :
    ((wUp [(0x0214, 1, 8)] : State).isOn (1 : PlaneNo).val = true) ∧ ((wUp [(0x0214, 1, 8)] : State).rd 0x0213 0 = 1) ∧ ((wUp [(0x0214, 1, 8)] : State).stageAtLeast 2 = true) ∧ (((wUp [(0x0214, 1, 8)] : State).ramp (1 : PlaneNo).val).dir = 0) ∧ ((wUp [(0x0214, 1, 8)] : State).rd 0x0214 (1 : PlaneNo).val = 8) ∧ ((wUp [(0x0214, 1, 8)] : State).rd 0x0218 0 * 1200 < (601#128 : BitVec 128).toNat % 2 ^ 16 * 100) := by decide

theorem witness_DomainClocksFallBackRampAndAreGated_17 :
    ((wUp [] : State).isOn (0 : PlaneNo).val = false ∨ ((wUp [] : State).ramp (0 : PlaneNo).val).dir = 0 ∨ (wUp [] : State).clk + (0 : Nat) < ((wUp [] : State).ramp (0 : PlaneNo).val).stepAt + 1600) := by decide

theorem witness_DomainClocksFallBackRampAndAreGated_18 :
    ((wClk (fun q => { q with ramps := [(0, ⟨1, 0, none, none, 0⟩)] }) [(0x0214, 0, 6), (0x0215, 0, 8)] : State).isOn (0 : PlaneNo).val = true) ∧ (((wClk (fun q => { q with ramps := [(0, ⟨1, 0, none, none, 0⟩)] }) [(0x0214, 0, 6), (0x0215, 0, 8)] : State).ramp (0 : PlaneNo).val).dir ≠ 0) ∧ (((wClk (fun q => { q with ramps := [(0, ⟨1, 0, none, none, 0⟩)] }) [(0x0214, 0, 6), (0x0215, 0, 8)] : State).ramp (0 : PlaneNo).val).stepAt + 1600 ≤ (wClk (fun q => { q with ramps := [(0, ⟨1, 0, none, none, 0⟩)] }) [(0x0214, 0, 6), (0x0215, 0, 8)] : State).clk + (1600 : Nat)) := by decide

theorem witness_DomainClocksFallBackRampAndAreGated_19 :
    ((wClk (fun q => { q with ramps := [(0, ⟨1, 0, none, none, 0⟩)] }) [(0x0214, 0, 7), (0x0215, 0, 8)] : State).isOn (0 : PlaneNo).val = true) ∧ (((wClk (fun q => { q with ramps := [(0, ⟨1, 0, none, none, 0⟩)] }) [(0x0214, 0, 7), (0x0215, 0, 8)] : State).ramp (0 : PlaneNo).val).dir = 1) ∧ (((wClk (fun q => { q with ramps := [(0, ⟨1, 0, none, none, 0⟩)] }) [(0x0214, 0, 7), (0x0215, 0, 8)] : State).ramp (0 : PlaneNo).val).stepAt + 1600 ≤ (wClk (fun q => { q with ramps := [(0, ⟨1, 0, none, none, 0⟩)] }) [(0x0214, 0, 7), (0x0215, 0, 8)] : State).clk + (1600 : Nat)) ∧ ((wClk (fun q => { q with ramps := [(0, ⟨1, 0, none, none, 0⟩)] }) [(0x0214, 0, 7), (0x0215, 0, 8)] : State).rd 0x0214 (0 : PlaneNo).val + 1 = (wClk (fun q => { q with ramps := [(0, ⟨1, 0, none, none, 0⟩)] }) [(0x0214, 0, 7), (0x0215, 0, 8)] : State).rd 0x0215 (0 : PlaneNo).val) ∧ ((wClk (fun q => { q with ramps := [(0, ⟨1, 0, none, none, 0⟩)] }) [(0x0214, 0, 7), (0x0215, 0, 8)] : State).rd 0x0215 (0 : PlaneNo).val ≤ 8) := by decide

theorem witness_DomainClocksFallBackRampAndAreGated_20 :
    ((wClk (fun q => { q with ramps := [(1, ⟨2, 0, none, none, 0⟩)] }) [(0x0214, 1, 8), (0x0215, 1, 8)] : State).isOn (1 : PlaneNo).val = true) ∧ (((wClk (fun q => { q with ramps := [(1, ⟨2, 0, none, none, 0⟩)] }) [(0x0214, 1, 8), (0x0215, 1, 8)] : State).ramp (1 : PlaneNo).val).dir = 2) ∧ (((wClk (fun q => { q with ramps := [(1, ⟨2, 0, none, none, 0⟩)] }) [(0x0214, 1, 8), (0x0215, 1, 8)] : State).ramp (1 : PlaneNo).val).stepAt + 1600 ≤ (wClk (fun q => { q with ramps := [(1, ⟨2, 0, none, none, 0⟩)] }) [(0x0214, 1, 8), (0x0215, 1, 8)] : State).clk + (1600 : Nat)) ∧ (5 < (wClk (fun q => { q with ramps := [(1, ⟨2, 0, none, none, 0⟩)] }) [(0x0214, 1, 8), (0x0215, 1, 8)] : State).rd 0x0214 (1 : PlaneNo).val) ∧ ((wClk (fun q => { q with ramps := [(1, ⟨2, 0, none, none, 0⟩)] }) [(0x0214, 1, 8), (0x0215, 1, 8)] : State).rd 0x0214 (1 : PlaneNo).val ≤ 8) := by decide

theorem witness_DomainClocksFallBackRampAndAreGated_21 :
    ((wClk (fun q => { q with ramps := [(1, ⟨3, 0, none, none, 0⟩)] }) [(0x0214, 1, 8), (0x0215, 1, 7)] : State).isOn (1 : PlaneNo).val = true) ∧ (((wClk (fun q => { q with ramps := [(1, ⟨3, 0, none, none, 0⟩)] }) [(0x0214, 1, 8), (0x0215, 1, 7)] : State).ramp (1 : PlaneNo).val).dir = 3) ∧ (((wClk (fun q => { q with ramps := [(1, ⟨3, 0, none, none, 0⟩)] }) [(0x0214, 1, 8), (0x0215, 1, 7)] : State).ramp (1 : PlaneNo).val).stepAt + 1600 ≤ (wClk (fun q => { q with ramps := [(1, ⟨3, 0, none, none, 0⟩)] }) [(0x0214, 1, 8), (0x0215, 1, 7)] : State).clk + (1600 : Nat)) ∧ (4 ≤ (wClk (fun q => { q with ramps := [(1, ⟨3, 0, none, none, 0⟩)] }) [(0x0214, 1, 8), (0x0215, 1, 7)] : State).rd 0x0215 (1 : PlaneNo).val) ∧ ((wClk (fun q => { q with ramps := [(1, ⟨3, 0, none, none, 0⟩)] }) [(0x0214, 1, 8), (0x0215, 1, 7)] : State).rd 0x0215 (1 : PlaneNo).val < (wClk (fun q => { q with ramps := [(1, ⟨3, 0, none, none, 0⟩)] }) [(0x0214, 1, 8), (0x0215, 1, 7)] : State).rd 0x0214 (1 : PlaneNo).val) ∧ ((wClk (fun q => { q with ramps := [(1, ⟨3, 0, none, none, 0⟩)] }) [(0x0214, 1, 8), (0x0215, 1, 7)] : State).rd 0x0214 (1 : PlaneNo).val ≤ 8) := by decide

theorem witness_DomainClocksFallBackRampAndAreGated_22 :
    ((wClk (fun q => { q with ramps := [(0, ⟨1, 0, none, none, 0⟩)] }) [(0x0214, 0, 6), (0x0215, 0, 8)] : State).isOn (0 : PlaneNo).val = true) ∧ (((wClk (fun q => { q with ramps := [(0, ⟨1, 0, none, none, 0⟩)] }) [(0x0214, 0, 6), (0x0215, 0, 8)] : State).ramp (0 : PlaneNo).val).dir = 1) ∧ (((wClk (fun q => { q with ramps := [(0, ⟨1, 0, none, none, 0⟩)] }) [(0x0214, 0, 6), (0x0215, 0, 8)] : State).ramp (0 : PlaneNo).val).stepAt + 1600 ≤ (wClk (fun q => { q with ramps := [(0, ⟨1, 0, none, none, 0⟩)] }) [(0x0214, 0, 6), (0x0215, 0, 8)] : State).clk + (1600 : Nat)) ∧ ((wClk (fun q => { q with ramps := [(0, ⟨1, 0, none, none, 0⟩)] }) [(0x0214, 0, 6), (0x0215, 0, 8)] : State).rd 0x0214 (0 : PlaneNo).val + 1 < (wClk (fun q => { q with ramps := [(0, ⟨1, 0, none, none, 0⟩)] }) [(0x0214, 0, 6), (0x0215, 0, 8)] : State).rd 0x0215 (0 : PlaneNo).val) ∧ ((wClk (fun q => { q with ramps := [(0, ⟨1, 0, none, none, 0⟩)] }) [(0x0214, 0, 6), (0x0215, 0, 8)] : State).rd 0x0215 (0 : PlaneNo).val ≤ 8) := by decide

theorem witness_DomainClocksFallBackRampAndAreGated_23 :
    ((wClk (fun q => { q with ramps := [(0, ⟨2, 0, none, none, 0⟩)] }) [(0x0214, 0, 5), (0x0215, 0, 8)] : State).isOn (0 : PlaneNo).val = true) ∧ (((wClk (fun q => { q with ramps := [(0, ⟨2, 0, none, none, 0⟩)] }) [(0x0214, 0, 5), (0x0215, 0, 8)] : State).ramp (0 : PlaneNo).val).dir = 2) ∧ (((wClk (fun q => { q with ramps := [(0, ⟨2, 0, none, none, 0⟩)] }) [(0x0214, 0, 5), (0x0215, 0, 8)] : State).ramp (0 : PlaneNo).val).stepAt + 1600 ≤ (wClk (fun q => { q with ramps := [(0, ⟨2, 0, none, none, 0⟩)] }) [(0x0214, 0, 5), (0x0215, 0, 8)] : State).clk + (1600 : Nat)) ∧ ((wClk (fun q => { q with ramps := [(0, ⟨2, 0, none, none, 0⟩)] }) [(0x0214, 0, 5), (0x0215, 0, 8)] : State).rd 0x0214 (0 : PlaneNo).val = 5) := by decide

theorem witness_DomainClocksFallBackRampAndAreGated_24 :
    (Tab.find? (wClk (fun q => { q with meters := [(15, 0)] }) [(0x0223, 15, 1), (0x0220, 15, 0)] : State).clocks.meters (15 : Fin 16).val = some (0 : Nat)) ∧ ((0 : Nat) + (wClk (fun q => { q with meters := [(15, 0)] }) [(0x0223, 15, 1), (0x0220, 15, 0)] : State).rd 0x0222 (15 : Fin 16).val * 400000 ≤ (wClk (fun q => { q with meters := [(15, 0)] }) [(0x0223, 15, 1), (0x0220, 15, 0)] : State).clk + (400000000 : Nat)) ∧ ((wClk (fun q => { q with meters := [(15, 0)] }) [(0x0223, 15, 1), (0x0220, 15, 0)] : State).isOn (10 + (15 : Fin 16).val / 8) = true) ∧ ((wClk (fun q => { q with meters := [(15, 0)] }) [(0x0223, 15, 1), (0x0220, 15, 0)] : State).meterSource ((wClk (fun q => { q with meters := [(15, 0)] }) [(0x0223, 15, 1), (0x0220, 15, 0)] : State).rd 0x0220 (15 : Fin 16).val) = true) ∧ ((wClk (fun q => { q with meters := [(15, 0)] }) [(0x0223, 15, 1), (0x0220, 15, 0)] : State).meterSource ((wClk (fun q => { q with meters := [(15, 0)] }) [(0x0223, 15, 1), (0x0220, 15, 0)] : State).rd 0x0221 (15 : Fin 16).val) = true) ∧ ((400000000#64 : BitVec 64) ≠ 0) ∧ ((wClk (fun q => { q with meters := [(15, 0)] }) [(0x0223, 15, 1), (0x0220, 15, 0)] : State).rd 0x0223 (15 : Fin 16).val ≠ 2) ∧ ((wClk (fun q => { q with meters := [(15, 0)] }) [(0x0223, 15, 1), (0x0220, 15, 0)] : State).rd 0x0226 (15 : Fin 16).val ≠ 3) := by decide

theorem witness_DomainClocksFallBackRampAndAreGated_25 :
    (Tab.find? (wClk (fun q => { q with meters := [(15, 0)] }) [(0x0223, 15, 2)] : State).clocks.meters (15 : Fin 16).val = some (0 : Nat)) ∧ ((0 : Nat) + (wClk (fun q => { q with meters := [(15, 0)] }) [(0x0223, 15, 2)] : State).rd 0x0222 (15 : Fin 16).val * 400000 ≤ (wClk (fun q => { q with meters := [(15, 0)] }) [(0x0223, 15, 2)] : State).clk + (400000000 : Nat)) ∧ ((wClk (fun q => { q with meters := [(15, 0)] }) [(0x0223, 15, 2)] : State).isOn (10 + (15 : Fin 16).val / 8) = true) ∧ ((wClk (fun q => { q with meters := [(15, 0)] }) [(0x0223, 15, 2)] : State).meterSource ((wClk (fun q => { q with meters := [(15, 0)] }) [(0x0223, 15, 2)] : State).rd 0x0220 (15 : Fin 16).val) = true) ∧ ((wClk (fun q => { q with meters := [(15, 0)] }) [(0x0223, 15, 2)] : State).meterSource ((wClk (fun q => { q with meters := [(15, 0)] }) [(0x0223, 15, 2)] : State).rd 0x0221 (15 : Fin 16).val) = true) ∧ ((400000000#64 : BitVec 64) ≠ 0) ∧ ((wClk (fun q => { q with meters := [(15, 0)] }) [(0x0223, 15, 2)] : State).rd 0x0223 (15 : Fin 16).val = 2) ∧ ((wClk (fun q => { q with meters := [(15, 0)] }) [(0x0223, 15, 2)] : State).rd 0x0226 (15 : Fin 16).val ≠ 3) ∧ ((wClk (fun q => { q with meters := [(15, 0)] }) [(0x0223, 15, 2)] : State).gateShut (10 + (15 : Fin 16).val / 8) 7 = false) := by decide

theorem witness_DomainClocksFallBackRampAndAreGated_26 :
    (Tab.find? (wClk (fun q => { q with meters := [(15, 0)] }) [(0x0223, 15, 1), (0x0220, 15, 0), (0x0203, 0, 2)] : State).clocks.meters (15 : Fin 16).val = some (0 : Nat)) ∧ ((0 : Nat) + (wClk (fun q => { q with meters := [(15, 0)] }) [(0x0223, 15, 1), (0x0220, 15, 0), (0x0203, 0, 2)] : State).rd 0x0222 (15 : Fin 16).val * 400000 ≤ (wClk (fun q => { q with meters := [(15, 0)] }) [(0x0223, 15, 1), (0x0220, 15, 0), (0x0203, 0, 2)] : State).clk + (400000000 : Nat)) ∧ ((wClk (fun q => { q with meters := [(15, 0)] }) [(0x0223, 15, 1), (0x0220, 15, 0), (0x0203, 0, 2)] : State).isOn (10 + (15 : Fin 16).val / 8) = true) ∧ ((wClk (fun q => { q with meters := [(15, 0)] }) [(0x0223, 15, 1), (0x0220, 15, 0), (0x0203, 0, 2)] : State).meterSource ((wClk (fun q => { q with meters := [(15, 0)] }) [(0x0223, 15, 1), (0x0220, 15, 0), (0x0203, 0, 2)] : State).rd 0x0220 (15 : Fin 16).val) = false ∨ (wClk (fun q => { q with meters := [(15, 0)] }) [(0x0223, 15, 1), (0x0220, 15, 0), (0x0203, 0, 2)] : State).meterSource ((wClk (fun q => { q with meters := [(15, 0)] }) [(0x0223, 15, 1), (0x0220, 15, 0), (0x0203, 0, 2)] : State).rd 0x0221 (15 : Fin 16).val) = false) ∧ ((wClk (fun q => { q with meters := [(15, 0)] }) [(0x0223, 15, 1), (0x0220, 15, 0), (0x0203, 0, 2)] : State).rd 0x0223 (15 : Fin 16).val ≠ 2) ∧ ((wClk (fun q => { q with meters := [(15, 0)] }) [(0x0223, 15, 1), (0x0220, 15, 0), (0x0203, 0, 2)] : State).rd 0x0226 (15 : Fin 16).val ≠ 3) := by decide

theorem witness_DomainClocksFallBackRampAndAreGated_27 :
    (Tab.find? (wClk (fun q => { q with meters := [(15, 0)] }) [(0x0223, 15, 2), (0x0226, 15, 3), (0x0220, 15, 0), (0x0203, 0, 2)] : State).clocks.meters (15 : Fin 16).val = some (0 : Nat)) ∧ ((0 : Nat) + (wClk (fun q => { q with meters := [(15, 0)] }) [(0x0223, 15, 2), (0x0226, 15, 3), (0x0220, 15, 0), (0x0203, 0, 2)] : State).rd 0x0222 (15 : Fin 16).val * 400000 ≤ (wClk (fun q => { q with meters := [(15, 0)] }) [(0x0223, 15, 2), (0x0226, 15, 3), (0x0220, 15, 0), (0x0203, 0, 2)] : State).clk + (400000000 : Nat)) ∧ ((wClk (fun q => { q with meters := [(15, 0)] }) [(0x0223, 15, 2), (0x0226, 15, 3), (0x0220, 15, 0), (0x0203, 0, 2)] : State).isOn (10 + (15 : Fin 16).val / 8) = true) ∧ ((wClk (fun q => { q with meters := [(15, 0)] }) [(0x0223, 15, 2), (0x0226, 15, 3), (0x0220, 15, 0), (0x0203, 0, 2)] : State).meterSource ((wClk (fun q => { q with meters := [(15, 0)] }) [(0x0223, 15, 2), (0x0226, 15, 3), (0x0220, 15, 0), (0x0203, 0, 2)] : State).rd 0x0220 (15 : Fin 16).val) = false ∨ (wClk (fun q => { q with meters := [(15, 0)] }) [(0x0223, 15, 2), (0x0226, 15, 3), (0x0220, 15, 0), (0x0203, 0, 2)] : State).meterSource ((wClk (fun q => { q with meters := [(15, 0)] }) [(0x0223, 15, 2), (0x0226, 15, 3), (0x0220, 15, 0), (0x0203, 0, 2)] : State).rd 0x0221 (15 : Fin 16).val) = false) ∧ ((wClk (fun q => { q with meters := [(15, 0)] }) [(0x0223, 15, 2), (0x0226, 15, 3), (0x0220, 15, 0), (0x0203, 0, 2)] : State).rd 0x0223 (15 : Fin 16).val = 2) ∧ ((wClk (fun q => { q with meters := [(15, 0)] }) [(0x0223, 15, 2), (0x0226, 15, 3), (0x0220, 15, 0), (0x0203, 0, 2)] : State).gateShut (10 + (15 : Fin 16).val / 8) 7 = false) := by decide

theorem witness_DomainClocksFallBackRampAndAreGated_28 :
    (Tab.find? (wClk (fun q => { q with meters := [(15, 0)] }) [(0x0223, 15, 2)] : State).clocks.meters (15 : Fin 16).val = some (0 : Nat)) ∧ ((wClk (fun q => { q with meters := [(15, 0)] }) [(0x0223, 15, 2)] : State).clk + (399999999 : Nat) < (0 : Nat) + (wClk (fun q => { q with meters := [(15, 0)] }) [(0x0223, 15, 2)] : State).rd 0x0222 (15 : Fin 16).val * 400000 ∨ (wClk (fun q => { q with meters := [(15, 0)] }) [(0x0223, 15, 2)] : State).isOn (10 + (15 : Fin 16).val / 8) = false) := by decide

theorem witness_DomainClocksFallBackRampAndAreGated_29 :
    (Tab.find? (wUp [] : State).clocks.meters (0 : Fin 16).val = none) := by decide

theorem witness_DomainClocksFallBackRampAndAreGated_30 :
    (Ready (({ wGateAccess with clocks := (wUp []).clocks } : State).wr 0x0228 1 1 : State) (wReq 1 [2] : Req) roleSite) ∧ (FullService (({ wGateAccess with clocks := (wUp []).clocks } : State).wr 0x0228 1 1 : State)) ∧ ((({ wGateAccess with clocks := (wUp []).clocks } : State).wr 0x0228 1 1 : State).mirrorBars = false) ∧ ((wReq 1 [2] : Req).flashOk = true) ∧ ((wReq 1 [2] : Req).inst.toNat < 192) ∧ ((wReq 1 [2] : Req).data.length = 1) ∧ (beNat (wReq 1 [2] : Req).data ≤ 2) ∧ (beNat (wReq 1 [2] : Req).data ≠ 2 ∨ (({ wGateAccess with clocks := (wUp []).clocks } : State).wr 0x0228 1 1 : State).blockInUse (wReq 1 [2] : Req).inst.toNat = false) ∧ ((({ wGateAccess with clocks := (wUp []).clocks } : State).wr 0x0228 1 1 : State).rd 0x0228 (wReq 1 [2] : Req).inst.toNat ≠ 2 ∨ beNat (wReq 1 [2] : Req).data = 2 ∨ gateExists (wReq 1 [2] : Req).inst.toNat = false) := by decide

theorem witness_DomainClocksFallBackRampAndAreGated_31 :
    (Ready (wUp [(0x0228, 167, 2)] : State) (wReq 167 [0] : Req) roleSite) ∧ (FullService (wUp [(0x0228, 167, 2)] : State)) ∧ ((wUp [(0x0228, 167, 2)] : State).mirrorBars = false) ∧ ((wReq 167 [0] : Req).flashOk = true) ∧ ((wReq 167 [0] : Req).inst.toNat < 192) ∧ ((wReq 167 [0] : Req).data.length = 1) ∧ (beNat (wReq 167 [0] : Req).data ≤ 2) ∧ (beNat (wReq 167 [0] : Req).data ≠ 2) ∧ ((wUp [(0x0228, 167, 2)] : State).rd 0x0228 (wReq 167 [0] : Req).inst.toNat = 2) ∧ (gateExists (wReq 167 [0] : Req).inst.toNat = true) := by decide

theorem witness_DomainClocksFallBackRampAndAreGated_32 :
    (Ready (wUp [(0x1C00, 5, 1)] : State) (wReq 17 [2] : Req) roleSite) ∧ (FullService (wUp [(0x1C00, 5, 1)] : State)) ∧ ((wReq 17 [2] : Req).inst.toNat < 192) ∧ ((wReq 17 [2] : Req).data = [2]) ∧ ((wUp [(0x1C00, 5, 1)] : State).blockInUse (wReq 17 [2] : Req).inst.toNat = true) := by decide

theorem witness_DomainClocksFallBackRampAndAreGated_34 :
    (Tab.find? wGateAccess.clocks.closing (0 : Fin 192).val = some (0 : Nat)) ∧ ((0 : Nat) + 512 ≤ wGateAccess.clk + (512 : Nat)) := by decide

theorem witness_DomainClocksFallBackRampAndAreGated_35 :
    (Tab.find? wGateAccess.clocks.closing (0 : Fin 192).val = some (0 : Nat)) ∧ (wGateAccess.clk + (511 : Nat) < (0 : Nat) + 512) := by decide

theorem witness_DomainClocksFallBackRampAndAreGated_36 :
    (Tab.find? (wUp [] : State).clocks.closing (191 : Fin 192).val = none) := by decide

theorem witness_SessionsOpenEnrolAndClose_1 :
    ((State.reset : State).listens (0 : CtlNo).val = false ∨ (State.reset : State).stageAtLeast 1 = false) := by decide

theorem witness_SessionsOpenEnrolAndClose_2 :
    (wNoSess.listens (0 : CtlNo).val = true) ∧ (wNoSess.stageAtLeast 1 = true) ∧ (wNoSess.enrolled = false) ∧ (wNoSess.freeSessions (0 : CtlNo).val = [0, 1, 2, 3]) ∧ (wNoSess.enrolBar ≤ wNoSess.clk + (5 : Nat)) ∧ (wNoSess.holder = some (0 : CtlNo).val) := by decide

theorem witness_SessionsOpenEnrolAndClose_3 :
    (wNoSess.listens (0 : CtlNo).val = true) ∧ (wNoSess.stageAtLeast 1 = true) ∧ (wNoSess.enrolled = false) ∧ ((false : Bool) = false ∨ wNoSess.freeSessions (0 : CtlNo).val ≠ [0, 1, 2, 3] ∨ wNoSess.clk + (0 : Nat) < wNoSess.enrolBar) := by decide

theorem witness_SessionsOpenEnrolAndClose_4 :
    ((wUp [(0x0408, 2, 9), (0x0409, 2, 15), (0x040D, 0, 0)] : State).listens (0 : CtlNo).val = true) ∧ ((wUp [(0x0408, 2, 9), (0x0409, 2, 15), (0x040D, 0, 0)] : State).stageAtLeast 1 = true) ∧ ((wUp [(0x0408, 2, 9), (0x0409, 2, 15), (0x040D, 0, 0)] : State).enrolled = true) ∧ ((wUp [(0x0408, 2, 9), (0x0409, 2, 15), (0x040D, 0, 0)] : State).rd 0x0408 wClient.anchor.val ≠ 0) ∧ (((wUp [(0x0408, 2, 9), (0x0409, 2, 15), (0x040D, 0, 0)] : State).tick (0 : Nat)).certInTime (0 : CtlNo).val wClient = true) ∧ (wClient.role = some (1#8 : Byte)) ∧ (roleExists (1#8 : Byte).toNat = true) ∧ (((wUp [(0x0408, 2, 9), (0x0409, 2, 15), (0x040D, 0, 0)] : State).rd 0x0409 wClient.anchor.val).testBit (roleBit (1#8 : Byte).toNat) = true) ∧ (((wUp [(0x0408, 2, 9), (0x0409, 2, 15), (0x040D, 0, 0)] : State).freeSessions (0 : CtlNo).val).head? = some (1 : Fin 4).val) ∧ (((wUp [(0x0408, 2, 9), (0x0409, 2, 15), (0x040D, 0, 0)] : State).freeSessions (0 : CtlNo).val).length ≠ 1 ∨ (1#8 : Byte).toNat = roleSite ∨ (wUp [(0x0408, 2, 9), (0x0409, 2, 15), (0x040D, 0, 0)] : State).rd 0x040D 0 = 0 ∨ ((List.range 4).any (fun i => ((wUp [(0x0408, 2, 9), (0x0409, 2, 15), (0x040D, 0, 0)] : State).session (4 * (0 : CtlNo).val + i)).isOpen && ((wUp [(0x0408, 2, 9), (0x0409, 2, 15), (0x040D, 0, 0)] : State).session (4 * (0 : CtlNo).val + i)).role == roleSite)) = true) := by decide +kernel

theorem witness_SessionsOpenEnrolAndClose_5 :
    (wTaken.listens (0 : CtlNo).val = true) ∧ (wTaken.stageAtLeast 1 = true) ∧ (wTaken.enrolled = true) ∧ (wTaken.rd 0x0408 wClient.anchor.val ≠ 0) ∧ ((wTaken.tick (0 : Nat)).certInTime (0 : CtlNo).val wClient = true) ∧ (wClient.role = some (1#8 : Byte)) ∧ (roleExists (1#8 : Byte).toNat = true) ∧ ((wTaken.rd 0x0409 wClient.anchor.val).testBit (roleBit (1#8 : Byte).toNat) = true) ∧ (wTaken.freeSessions (0 : CtlNo).val = [] ∨ ((wTaken.freeSessions (0 : CtlNo).val).length = 1 ∧ (1#8 : Byte).toNat ≠ roleSite ∧ wTaken.rd 0x040D 0 = 1 ∧ ((List.range 4).any (fun i => (wTaken.session (4 * (0 : CtlNo).val + i)).isOpen && (wTaken.session (4 * (0 : CtlNo).val + i)).role == roleSite)) = false)) := by decide +kernel

theorem witness_SessionsOpenEnrolAndClose_6 :
    ((wFails [(0x0408, 2, 9), (0x0409, 2, 1)] : State).listens (0 : CtlNo).val = true) ∧ ((wFails [(0x0408, 2, 9), (0x0409, 2, 1)] : State).stageAtLeast 1 = true) ∧ ((wFails [(0x0408, 2, 9), (0x0409, 2, 1)] : State).enrolled = true) ∧ ((wFails [(0x0408, 2, 9), (0x0409, 2, 1)] : State).rd 0x0408 wClient.anchor.val ≠ 0) ∧ (((wFails [(0x0408, 2, 9), (0x0409, 2, 1)] : State).tick (0 : Nat)).certInTime (0 : CtlNo).val wClient = true) ∧ ((wClient.role.any (fun r => roleExists r.toNat && ((wFails [(0x0408, 2, 9), (0x0409, 2, 1)] : State).rd 0x0409 wClient.anchor.val).testBit (roleBit r.toNat))) = false) := by decide +kernel

theorem witness_SessionsOpenEnrolAndClose_7 :
    ((wFails [(0x0408, 2, 9)] : State).listens (0 : CtlNo).val = true) ∧ ((wFails [(0x0408, 2, 9)] : State).stageAtLeast 1 = true) ∧ ((wFails [(0x0408, 2, 9)] : State).enrolled = true) ∧ (((none : Option Client).all (fun x => (wFails [(0x0408, 2, 9)] : State).rd 0x0408 x.anchor.val == 0 || !((wFails [(0x0408, 2, 9)] : State).tick (0 : Nat)).certInTime (0 : CtlNo).val x)) = true) := by decide +kernel

theorem witness_SessionsOpenEnrolAndClose_9 :
    (Serves wEnrol (wReq 0 [1, 2] : Req).ctl.val) ∧ (FullService wEnrol) ∧ ((wEnrol.session (Req.key (wReq 0 [1, 2] : Req))).isOpen = true) ∧ ((wEnrol.session (Req.key (wReq 0 [1, 2] : Req))).enrol = .awaited) ∧ ((wEnrol.session (Req.key (wReq 0 [1, 2] : Req))).skip.contains (wReq 0 [1, 2] : Req).tag.toNat = false) ∧ ((wReq 0 [1, 2] : Req).inst ≠ 0 ∨ (wReq 0 [1, 2] : Req).data.length ≠ 16 ∨ beNat (wReq 0 [1, 2] : Req).data ≠ Config.enrolmentCode.toNat) ∧ ((wReq 0 [1, 2] : Req).data.length ≤ 65536) := by decide

theorem witness_SessionsOpenEnrolAndClose_10 :
    (Serves wEnrol (wReq 0 [] : Req).ctl.val) ∧ (FullService wEnrol) ∧ ((wEnrol.session (Req.key (wReq 0 [] : Req))).isOpen = true) ∧ ((wEnrol.session (Req.key (wReq 0 [] : Req))).enrol = .awaited) ∧ ((wEnrol.session (Req.key (wReq 0 [] : Req))).skip.contains (wReq 0 [] : Req).tag.toNat = false) ∧ ((wReq 0 [] : Req).data.length ≤ 65536) := by decide

theorem witness_SessionsOpenEnrolAndClose_11 :
    (Serves wGiven (wReq 0 [] : Req).ctl.val) ∧ (FullService wGiven) ∧ ((wGiven.session (Req.key (wReq 0 [] : Req))).isOpen = true) ∧ ((wGiven.session (Req.key (wReq 0 [] : Req))).enrol = .given) ∧ ((wGiven.session (Req.key (wReq 0 [] : Req))).skip.contains (wReq 0 [] : Req).tag.toNat = false) ∧ ((wReq 0 [] : Req).data.length ≤ 65536) := by decide

theorem witness_SessionsOpenEnrolAndClose_12 :
    (Serves wGiven (wReq 3 (List.replicate 2047 0 ++ [9]) : Req).ctl.val) ∧ (FullService wGiven) ∧ (wGiven.mirrorBars = false) ∧ ((wReq 3 (List.replicate 2047 0 ++ [9]) : Req).flashOk = true) ∧ (wGiven.enrolled = false) ∧ ((wGiven.session (Req.key (wReq 3 (List.replicate 2047 0 ++ [9]) : Req))).isOpen = true) ∧ ((wGiven.session (Req.key (wReq 3 (List.replicate 2047 0 ++ [9]) : Req))).role = roleSite) ∧ ((wGiven.session (Req.key (wReq 3 (List.replicate 2047 0 ++ [9]) : Req))).enrol = .given) ∧ ((wGiven.session (Req.key (wReq 3 (List.replicate 2047 0 ++ [9]) : Req))).skip.contains (wReq 3 (List.replicate 2047 0 ++ [9]) : Req).tag.toNat = false) ∧ ((wReq 3 (List.replicate 2047 0 ++ [9]) : Req).inst.toNat < 4) ∧ ((wReq 3 (List.replicate 2047 0 ++ [9]) : Req).data.length = 2048) ∧ (beNat (wReq 3 (List.replicate 2047 0 ++ [9]) : Req).data ≠ 0) := by decide +kernel

theorem witness_SessionsOpenEnrolAndClose_13 :
    (Ready (wUp [] : State) (wReq 0 (toBytes 16 5) : Req) roleSite) ∧ (FullService (wUp [] : State)) ∧ ((wReq 0 (toBytes 16 5) : Req).inst = 0) ∧ ((wReq 0 (toBytes 16 5) : Req).data.length = 16) := by decide

theorem witness_SessionsOpenEnrolAndClose_14 :
    (Serves wStager (0 : CtlNo).val) := by decide

theorem witness_SessionsOpenEnrolAndClose_15 :
    (((wUp [] : State).session (4 * (0 : CtlNo).val + (0 : Fin 4).val)).isOpen = true) ∧ (((wUp [] : State).session (4 * (0 : CtlNo).val + (0 : Fin 4).val)).requests = []) ∧ (((wUp [] : State).session (4 * (0 : CtlNo).val + (0 : Fin 4).val)).heard + (wUp [] : State).rd 0x040C 0 * 400000000 ≤ (wUp [] : State).clk + (400000000000 : Nat)) := by decide

theorem witness_SessionsOpenEnrolAndClose_16 :
    (((wUp [] : State).session (4 * (0 : CtlNo).val + (1 : Fin 4).val)).isOpen = false ∨ ((wUp [] : State).session (4 * (0 : CtlNo).val + (1 : Fin 4).val)).requests ≠ [] ∨ (wUp [] : State).clk + (0 : Nat) < ((wUp [] : State).session (4 * (0 : CtlNo).val + (1 : Fin 4).val)).heard + (wUp [] : State).rd 0x040C 0 * 400000000) := by decide

theorem witness_SessionsOpenEnrolAndClose_17 :
    ((wWaits.session (4 * (0 : CtlNo).val + (0 : Fin 4).val)).request (7#8 : Byte).toNat = some wReqR) ∧ ((wWaits.session (4 * (0 : CtlNo).val + (0 : Fin 4).val)).isOpen = true) ∧ (wWaits.serving (0 : CtlNo).val = true) ∧ (wReqR.last = true) ∧ (wReqR.accepted = false) ∧ (wReqR.pendingSent = false) ∧ (wReqR.since + 40000000 ≤ wWaits.clk + (40000000 : Nat)) := by decide

theorem witness_SessionsOpenEnrolAndClose_18 :
    ((wWaits.session (4 * (0 : CtlNo).val + (0 : Fin 4).val)).request (7#8 : Byte).toNat = some wReqR) ∧ (wReqR.pendingSent = true ∨ wReqR.accepted = true ∨ wReqR.last = false ∨ wWaits.serving (0 : CtlNo).val = false ∨ (wWaits.session (4 * (0 : CtlNo).val + (0 : Fin 4).val)).isOpen = false ∨ wWaits.clk + (39999999 : Nat) < wReqR.since + 40000000) := by decide

theorem witness_SessionsOpenEnrolAndClose_19 :
    (((wUp [] : State).session (4 * (0 : CtlNo).val + (0 : Fin 4).val)).request (0#8 : Byte).toNat = none) := by decide

theorem witness_SessionsOpenEnrolAndClose_20 :
    (((wUp [] : State).session (4 * (0 : CtlNo).val + (0 : Fin 4).val)).isOpen = true) ∧ ((wUp [] : State).listens (0 : CtlNo).val = true) := by decide

theorem witness_SessionsOpenEnrolAndClose_21 :
    (((wUp [] : State).session (4 * (0 : CtlNo).val + (0 : Fin 4).val)).isOpen = true) ∧ ((wUp [] : State).listens (0 : CtlNo).val = true) ∧ ((wUp [] : State).holder = some (0 : CtlNo).val) := by decide

theorem witness_SessionsOpenEnrolAndClose_22 :
    (((wUp [] : State).session (4 * (0 : CtlNo).val + (0 : Fin 4).val)).isOpen = true) ∧ ((wUp [] : State).listens (0 : CtlNo).val = true) ∧ ((wUp [] : State).holder = some (0 : CtlNo).val) ∧ (((wUp [] : State).session (4 * (0 : CtlNo).val + (0 : Fin 4).val)).request (0#8 : Byte).toNat = none) := by decide

theorem witness_SessionsOpenEnrolAndClose_23 :
    (((wUp [] : State).session (4 * (0 : CtlNo).val + (1 : Fin 4).val)).isOpen = false ∨ (wUp [] : State).listens (0 : CtlNo).val = false) := by decide

theorem witness_SessionsOpenEnrolAndClose_24 :
    ((wWaits.session (4 * (0 : CtlNo).val + (0 : Fin 4).val)).isOpen = true) ∧ (wWaits.listens (0 : CtlNo).val = true) ∧ (wWaits.holder = some (0 : CtlNo).val) ∧ ((wWaits.session (4 * (0 : CtlNo).val + (0 : Fin 4).val)).request (7#8 : Byte).toNat = some wReqR) := by decide

theorem witness_SessionsOpenEnrolAndClose_25 :
    (wCutShort.holder = some (0 : CtlNo).val) ∧ (wCutShort.serving (0 : CtlNo).val = true) ∧ (wCutShort.committing = none) ∧ (wCutShort.owed = []) ∧ (wCutShort.sessions = [(4 * (0 : CtlNo).val + (0 : Fin 4).val, wCutShort.session (4 * (0 : CtlNo).val + (0 : Fin 4).val))]) ∧ ((wCutShort.session (4 * (0 : CtlNo).val + (0 : Fin 4).val)).isOpen = true) ∧ ((wCutShort.session (4 * (0 : CtlNo).val + (0 : Fin 4).val)).requests = [({ wReqR with last := false } : Request)]) ∧ (({ wReqR with last := false } : Request).tag = (7#8 : Byte).toNat) ∧ (({ wReqR with last := false } : Request).last = false) := by decide

theorem witness_SessionsOpenEnrolAndClose_26 :
    ((wSkips.session (Req.key (wReq 0 [] : Req))).isOpen = true) ∧ (wSkips.listens (wReq 0 [] : Req).ctl.val = true) ∧ ((wSkips.session (Req.key (wReq 0 [] : Req))).skip.contains (wReq 0 [] : Req).tag.toNat = true) := by decide

theorem witness_RequestsReadAndWriteParameters_1 :
    (Ready (wUp [] : State) (wReq 0 [] : Req) roleSite) ∧ (FullService (wUp [] : State)) ∧ (Catalogue.row? (0x0209#16 : BitVec 16).toNat = some (wRow 0x0209 : Row)) ∧ ((wRow 0x0209 : Row).acc = .rw) ∧ ((wRow 0x0209 : Row).cls ≠ .bundle) ∧ ((wRow 0x0209 : Row).sel.has (wReq 0 [] : Req).inst.toNat = true) ∧ ((wUp [] : State).readable (wRow 0x0209 : Row) (wReq 0 [] : Req).inst.toNat = true) ∧ (Ungated (wUp [] : State) (0x0209#16 : BitVec 16).toNat (wReq 0 [] : Req).inst.toNat) ∧ ((wReq 0 [] : Req).data = []) := by decide

theorem witness_RequestsReadAndWriteParameters_2 :
    (Ready (wActive (wUp []) : State) (wReq 191 [] : Req) roleSite) ∧ (FullService (wActive (wUp []) : State)) ∧ (Catalogue.row? (0x1018#16 : BitVec 16).toNat = some (wRow 0x1018 : Row)) ∧ ((wRow 0x1018 : Row).acc = .rw) ∧ ((wRow 0x1018 : Row).cls = .bundle) ∧ ((wRow 0x1018 : Row).sel.has (wReq 191 [] : Req).inst.toNat = true) ∧ ((wReq 191 [] : Req).data = []) ∧ ((wActive (wUp []) : State).readable (wRow 0x1018 : Row) (wReq 191 [] : Req).inst.toNat = true) ∧ (Ungated (wActive (wUp []) : State) (0x1018#16 : BitVec 16).toNat (wReq 191 [] : Req).inst.toNat) := by decide

theorem witness_RequestsReadAndWriteParameters_3 :
    (Ready (wRunning (wUp []) : State) (wReq 0 [] : Req) roleSite) ∧ (FullService (wRunning (wUp []) : State)) ∧ ((wReq 0 [] : Req).inst = 0) ∧ ((wReq 0 [] : Req).data = []) := by decide

theorem witness_RequestsReadAndWriteParameters_4 :
    (Ready (wUp [] : State) (wReq 0 [] : Req) roleSite) ∧ (FullService (wUp [] : State)) ∧ (Catalogue.row? (0x00FF#16 : BitVec 16).toNat = none) ∧ ((wReq 0 [] : Req).data.length ≤ 65536) := by decide

theorem witness_RequestsReadAndWriteParameters_5 :
    (Ready (wUp [] : State) (wReq 5 [] : Req) roleSite) ∧ (FullService (wUp [] : State)) ∧ (Catalogue.row? (0x0813#16 : BitVec 16).toNat = some (wRow 0x0813 : Row)) ∧ ((wRow 0x0813 : Row).acc = .wo) ∧ ((wReq 5 [] : Req).data.length ≤ 65536) := by decide

theorem witness_RequestsReadAndWriteParameters_6 :
    (Ready (wUp [] : State) (wReq 0 [1] : Req) roleSite) ∧ (FullService (wUp [] : State)) ∧ (Catalogue.row? (0x3000#16 : BitVec 16).toNat = some (wRow 0x3000 : Row)) ∧ ((wRow 0x3000 : Row).acc ≠ .wo) ∧ ((wRow 0x3000 : Row).sel.has (wReq 0 [1] : Req).inst.toNat = true) ∧ ((0x3000#16 : BitVec 16).toNat ≠ 0x010D) ∧ ((wReq 0 [1] : Req).data ≠ []) ∧ ((wReq 0 [1] : Req).data.length ≤ 65536) := by decide

theorem witness_RequestsReadAndWriteParameters_7 :
    (Ready (wUp [(0x0110, 0, 0)] : State) (wReq 5 [] : Req) roleSite) ∧ (FullService (wUp [(0x0110, 0, 0)] : State)) ∧ (Catalogue.row? (0x080C#16 : BitVec 16).toNat = some (wRow 0x080C : Row)) ∧ ((wRow 0x080C : Row).acc ≠ .wo) ∧ ((wRow 0x080C : Row).sel.has (wReq 5 [] : Req).inst.toNat = true) ∧ ((wReq 5 [] : Req).data = []) ∧ ((wUp [(0x0110, 0, 0)] : State).readable (wRow 0x080C : Row) (wReq 5 [] : Req).inst.toNat = false) := by decide

theorem witness_RequestsReadAndWriteParameters_8 :
    (Ready (wUp [(0x0228, 37, 2)] : State) (wReq 5 [] : Req) roleSite) ∧ (FullService (wUp [(0x0228, 37, 2)] : State)) ∧ (Catalogue.row? (0x080C#16 : BitVec 16).toNat = some (wRow 0x080C : Row)) ∧ ((wRow 0x080C : Row).acc ≠ .wo) ∧ ((wRow 0x080C : Row).sel.has (wReq 5 [] : Req).inst.toNat = true) ∧ ((wReq 5 [] : Req).data = []) ∧ ((wUp [(0x0228, 37, 2)] : State).readable (wRow 0x080C : Row) (wReq 5 [] : Req).inst.toNat = true) ∧ ((wUp [(0x0228, 37, 2)] : State).gated (wRow 0x080C : Row) (0x080C#16 : BitVec 16).toNat (wReq 5 [] : Req).inst.toNat = some (37 : Nat)) := by decide

theorem witness_RequestsReadAndWriteParameters_9 :
    (Ready (wUp [] : State) (wReq 192 [] : Req) roleSite) ∧ (FullService (wUp [] : State)) ∧ (Catalogue.row? (0x1018#16 : BitVec 16).toNat = some (wRow 0x1018 : Row)) ∧ ((wRow 0x1018 : Row).acc ≠ .wo) ∧ ((wRow 0x1018 : Row).sel.has (wReq 192 [] : Req).inst.toNat = false) ∧ ((wReq 192 [] : Req).data.length ≤ 65536) := by decide

theorem witness_RequestsReadAndWriteParameters_10 :
    (Ready (wUp [] : State) (wReq 0 [5] : Req) roleSite) ∧ (FullService (wUp [] : State)) ∧ (Catalogue.row? (0x3000#16 : BitVec 16).toNat = some (wRow 0x3000 : Row)) ∧ ((wRow 0x3000 : Row).acc = .ro) ∧ ((wRow 0x3000 : Row).sel.has (wReq 0 [5] : Req).inst.toNat = true) ∧ ((wReq 0 [5] : Req).data.length ≤ 65536) := by decide

theorem witness_RequestsReadAndWriteParameters_11 :
    (Ready wObserver (wReq 0 [0, 20] : Req) (roleObserver : Nat)) ∧ (FullService wObserver) ∧ (Catalogue.row? (0x0209#16 : BitVec 16).toNat = some (wRow 0x0209 : Row)) ∧ ((wRow 0x0209 : Row).sel.has (wReq 0 [0, 20] : Req).inst.toNat = true) ∧ ((wReq 0 [0, 20] : Req).data.length ≤ 65536) ∧ ((0x0209#16 : BitVec 16).toNat ≠ 0x010D) ∧ (wObserver.mayWrite (roleObserver : Nat) (0x0209#16 : BitVec 16).toNat (wReq 0 [0, 20] : Req).inst.toNat (beNat (wReq 0 [0, 20] : Req).data) = false) := by decide

theorem witness_RequestsReadAndWriteParameters_12 :
    (Ready (wUp [] : State) (wReq 0 [0, 4] : Req) roleSite) ∧ (FullService (wUp [] : State)) ∧ (Catalogue.row? (0x0209#16 : BitVec 16).toNat = some (wRow 0x0209 : Row)) ∧ ((wRow 0x0209 : Row).acc ≠ .ro) ∧ ((wRow 0x0209 : Row).sel.has (wReq 0 [0, 4] : Req).inst.toNat = true) ∧ ((wReq 0 [0, 4] : Req).data.length ≤ 65536) ∧ ((0x0209#16 : BitVec 16).toNat ≠ 0x2000) ∧ ((0x0209#16 : BitVec 16).toNat ≠ 0x040A) ∧ ((0x0209#16 : BitVec 16).toNat ≠ 0x010D) ∧ ((wReq 0 [0, 4] : Req).data.length ≠ (wRow 0x0209 : Row).ty.size ∨ (wRow 0x0209 : Row).valueOk (beNat (wReq 0 [0, 4] : Req).data) = false) := by decide

theorem witness_RequestsReadAndWriteParameters_13 :
    (Ready (wUp [] : State) (wReq 0 [3, 0xE8] : Req) roleSite) ∧ (FullService (wUp [] : State)) ∧ ((wUp [] : State).mirrorBars = false) ∧ ((wReq 0 [3, 0xE8] : Req).flashOk = true) ∧ (Catalogue.row? (0x0209#16 : BitVec 16).toNat = some (wRow 0x0209 : Row)) ∧ ((wRow 0x0209 : Row).acc = .rw) ∧ ((wRow 0x0209 : Row).cls = .stored) ∧ ((0x0209#16 : BitVec 16).toNat < 0x0800) ∧ ((0x0209#16 : BitVec 16).toNat ≠ 0x0228) ∧ ((wRow 0x0209 : Row).sel.has (wReq 0 [3, 0xE8] : Req).inst.toNat = true) ∧ ((wReq 0 [3, 0xE8] : Req).data.length = (wRow 0x0209 : Row).ty.size) ∧ ((wRow 0x0209 : Row).valueOk (beNat (wReq 0 [3, 0xE8] : Req).data) = true) ∧ ((wUp [] : State).lowStatus (0x0209#16 : BitVec 16).toNat (wReq 0 [3, 0xE8] : Req).inst.toNat (beNat (wReq 0 [3, 0xE8] : Req).data) = stOk) := by decide

theorem witness_RequestsReadAndWriteParameters_14 :
    (Ready (wUp [] : State) (wReqBad 0 [0, 5] : Req) roleSite) ∧ (FullService (wUp [] : State)) ∧ ((wUp [] : State).mirrorBars = false) ∧ ((wReqBad 0 [0, 5] : Req).flashOk = false) ∧ (Catalogue.row? (0x0209#16 : BitVec 16).toNat = some (wRow 0x0209 : Row)) ∧ ((wRow 0x0209 : Row).acc = .rw) ∧ ((wRow 0x0209 : Row).cls = .stored) ∧ ((0x0209#16 : BitVec 16).toNat < 0x0800) ∧ ((0x0209#16 : BitVec 16).toNat ≠ 0x0228) ∧ ((wRow 0x0209 : Row).sel.has (wReqBad 0 [0, 5] : Req).inst.toNat = true) ∧ ((wReqBad 0 [0, 5] : Req).data.length = (wRow 0x0209 : Row).ty.size) ∧ ((wRow 0x0209 : Row).valueOk (beNat (wReqBad 0 [0, 5] : Req).data) = true) ∧ ((wUp [] : State).lowStatus (0x0209#16 : BitVec 16).toNat (wReqBad 0 [0, 5] : Req).inst.toNat (beNat (wReqBad 0 [0, 5] : Req).data) = stOk) := by decide

theorem witness_RequestsReadAndWriteParameters_15 :
    (Ready (wUp [(0x0301, 1, 3)] : State) (wReq 0 [0, 5] : Req) roleSite) ∧ (FullService (wUp [(0x0301, 1, 3)] : State)) ∧ ((wUp [(0x0301, 1, 3)] : State).mirrorBars = true) ∧ (Catalogue.row? (0x0209#16 : BitVec 16).toNat = some (wRow 0x0209 : Row)) ∧ ((wRow 0x0209 : Row).acc = .rw) ∧ ((wRow 0x0209 : Row).cls = .stored) ∧ ((0x0209#16 : BitVec 16).toNat < 0x0800) ∧ ((0x0209#16 : BitVec 16).toNat ≠ 0x0228) ∧ ((wRow 0x0209 : Row).sel.has (wReq 0 [0, 5] : Req).inst.toNat = true) ∧ ((wReq 0 [0, 5] : Req).data.length = (wRow 0x0209 : Row).ty.size) ∧ ((wRow 0x0209 : Row).valueOk (beNat (wReq 0 [0, 5] : Req).data) = true) ∧ ((wUp [(0x0301, 1, 3)] : State).lowStatus (0x0209#16 : BitVec 16).toNat (wReq 0 [0, 5] : Req).inst.toNat (beNat (wReq 0 [0, 5] : Req).data) = stOk) := by decide

theorem witness_RequestsReadAndWriteParameters_16 :
    (Ready (wUp [(0x084F, 5, 1)] : State) (wReq 5 [1] : Req) roleSite) ∧ (FullService (wUp [(0x084F, 5, 1)] : State)) ∧ (Catalogue.row? (0x084F#16 : BitVec 16).toNat = some (wRow 0x084F : Row)) ∧ ((wRow 0x084F : Row).acc = .w1c) ∧ ((wRow 0x084F : Row).sel.has (wReq 5 [1] : Req).inst.toNat = true) ∧ ((wReq 5 [1] : Req).data.length = (wRow 0x084F : Row).ty.size) ∧ ((wRow 0x084F : Row).valueOk (beNat (wReq 5 [1] : Req).data) = true) := by decide

theorem witness_RequestsReadAndWriteParameters_17 :
    (Ready wBundle (wReq 191 [0x80, 0] : Req) roleSite) ∧ (FullService wBundle) ∧ ((wReq 191 [0x80, 0] : Req).inst.toNat < 192) ∧ ((wReq 191 [0x80, 0] : Req).data.length = 2) ∧ ((wBundle.session (Req.key (wReq 191 [0x80, 0] : Req))).bundle = some ([] : Tab Nat)) ∧ (Tab.find? ([] : Tab Nat) (regKey 0x1018 (wReq 191 [0x80, 0] : Req).inst.toNat) = none) ∧ (([] : Tab Nat).length < 65536) ∧ (beNat (wReq 191 [0x80, 0] : Req).data = 0x8000) := by decide

theorem witness_RequestsReadAndWriteParameters_18 :
    (Ready (wUp [(0x140A, 14, 9)] : State) (wReq 14 (toBytes 4 2) : Req) roleSite) ∧ (FullService (wUp [(0x140A, 14, 9)] : State)) ∧ (Catalogue.row? (0x140A#16 : BitVec 16).toNat = some (wRow 0x140A : Row)) ∧ ((wRow 0x140A : Row).acc = .rw) ∧ ((wRow 0x140A : Row).cls ≠ .bundle) ∧ ((wRow 0x140A : Row).home = .ctl) ∧ (blockOf (0x140A#16 : BitVec 16).toNat = none) ∧ ((wRow 0x140A : Row).sel = .upto ((wReq 14 (toBytes 4 2) : Req).inst.toNat + (2 : Nat))) ∧ ((wReq 14 (toBytes 4 2) : Req).data = toBytes 4 (2 : Nat)) ∧ (1 ≤ (2 : Nat)) ∧ ((2 : Nat) ≤ 65536) := by decide

theorem witness_RequestsReadAndWriteParameters_19 :
    (Ready (wUp [(0x140A, 14, 9)] : State) (wReq 14 (toBytes 4 3) : Req) roleSite) ∧ (FullService (wUp [(0x140A, 14, 9)] : State)) ∧ (Catalogue.row? (0x140A#16 : BitVec 16).toNat = some (wRow 0x140A : Row)) ∧ ((wRow 0x140A : Row).acc = .rw) ∧ ((wRow 0x140A : Row).cls ≠ .bundle) ∧ ((wRow 0x140A : Row).home = .ctl) ∧ (blockOf (0x140A#16 : BitVec 16).toNat = none) ∧ ((wRow 0x140A : Row).sel = .upto ((wReq 14 (toBytes 4 3) : Req).inst.toNat + (2 : Nat))) ∧ ((wReq 14 (toBytes 4 3) : Req).data = toBytes 4 ((2 : Nat) + 1)) ∧ (1 ≤ (2 : Nat)) ∧ ((2 : Nat) < 65536) := by decide

theorem witness_RequestsReadAndWriteParameters_20 :
    (Ready (wUp [] : State) (wReq 14 (toBytes 4 65537) : Req) roleSite) ∧ (FullService (wUp [] : State)) ∧ (Catalogue.row? (0x140A#16 : BitVec 16).toNat = some (wRow 0x140A : Row)) ∧ ((wRow 0x140A : Row).acc ≠ .wo) ∧ ((wRow 0x140A : Row).sel.has (wReq 14 (toBytes 4 65537) : Req).inst.toNat = true) ∧ ((0x140A#16 : BitVec 16).toNat ≠ 0x010D) ∧ ((wReq 14 (toBytes 4 65537) : Req).data.length ≠ 4 ∨ beNat (wReq 14 (toBytes 4 65537) : Req).data = 0 ∨ 65536 < beNat (wReq 14 (toBytes 4 65537) : Req).data) ∧ ((wReq 14 (toBytes 4 65537) : Req).data.length ≤ 65536) := by decide

theorem witness_RequestsReadAndWriteParameters_21 :
    (Ready (wUp [] : State) (wReq 0 [] : Req) roleSite) ∧ (FullService (wUp [] : State)) ∧ ((wReq 0 [] : Req).data = []) := by decide

theorem witness_RequestsReadAndWriteParameters_22 :
    (wOne.holder = some (wReq 0 [] : Req).ctl.val) ∧ (wOne.serving (wReq 0 [] : Req).ctl.val = true) ∧ (wOne.committing = none) ∧ (wOne.owed = []) ∧ (wOne.sessions = [(Req.key (wReq 0 [] : Req), wOne.session (Req.key (wReq 0 [] : Req)))]) ∧ ((wOne.session (Req.key (wReq 0 [] : Req))).isOpen = true) ∧ ((wOne.session (Req.key (wReq 0 [] : Req))).skip.contains (wReq 0 [] : Req).tag.toNat = false) ∧ ((wOne.session (Req.key (wReq 0 [] : Req))).requests = [wReqS]) ∧ (wReqS.started = true) ∧ (wReqS.tag ≠ (wReq 0 [] : Req).tag.toNat) ∧ (wReqS.order < wOne.issued) ∧ ((wReq 0 [] : Req).data = []) := by decide

theorem witness_RequestsReadAndWriteParameters_23 :
    (wOne.holder = some ({ wReq 0 [] with fence := true } : Req).ctl.val) ∧ (wOne.serving ({ wReq 0 [] with fence := true } : Req).ctl.val = true) ∧ (wOne.committing = none) ∧ (wOne.owed = []) ∧ (wOne.sessions = [(Req.key ({ wReq 0 [] with fence := true } : Req), wOne.session (Req.key ({ wReq 0 [] with fence := true } : Req)))]) ∧ ((wOne.session (Req.key ({ wReq 0 [] with fence := true } : Req))).isOpen = true) ∧ ((wOne.session (Req.key ({ wReq 0 [] with fence := true } : Req))).skip.contains ({ wReq 0 [] with fence := true } : Req).tag.toNat = false) ∧ ((wOne.session (Req.key ({ wReq 0 [] with fence := true } : Req))).requests = [wReqS]) ∧ (wReqS.started = true) ∧ (wReqS.tag ≠ ({ wReq 0 [] with fence := true } : Req).tag.toNat) ∧ (wReqS.order < wOne.issued) ∧ (({ wReq 0 [] with fence := true } : Req).fence = true) ∧ (({ wReq 0 [] with fence := true } : Req).data.length ≤ 65536) := by decide

theorem witness_RequestsReadAndWriteParameters_24 :
    (Ready (wRunning (wUp []) : State) (wReq 0 [1, 2, 3] : Req) roleSite) ∧ (FullService (wRunning (wUp []) : State)) ∧ ((wReq 0 [1, 2, 3] : Req).data.length ≤ 64) := by decide

theorem witness_RequestsReadAndWriteParameters_25 :
    (Ready (wUp [] : State) (wReq 0 (List.replicate 65 1) : Req) roleSite) ∧ (FullService (wUp [] : State)) ∧ (64 < (wReq 0 (List.replicate 65 1) : Req).data.length) ∧ ((wReq 0 (List.replicate 65 1) : Req).data.length ≤ 65536) := by decide

theorem witness_RequestsReadAndWriteParameters_26 :
    (Ready (wUp [(0x1418, 1, 9)] : State) (wReq 1 [0, 0] : Req) roleSite) ∧ (FullService (wUp [(0x1418, 1, 9)] : State)) ∧ (highWaterPids[(0 : Fin 7).val]? = some (0x1418 : Nat)) ∧ (Catalogue.row? (0x1418 : Nat) = some (wRow 0x1418 : Row)) ∧ ((wRow 0x1418 : Row).sel.has (wReq 1 [0, 0] : Req).inst.toNat = true) ∧ ((wReq 1 [0, 0] : Req).data.length = (wRow 0x1418 : Row).ty.size) ∧ (beNat (wReq 1 [0, 0] : Req).data = 0) ∧ (Ungated (wUp [(0x1418, 1, 9)] : State) (0x1418 : Nat) (wReq 1 [0, 0] : Req).inst.toNat) := by decide

theorem witness_RequestsReadAndWriteParameters_27 :
    (Ready (wUp [(0x2803, 1, 9)] : State) (wReq 1 [0, 1] : Req) roleSite) ∧ (FullService (wUp [(0x2803, 1, 9)] : State)) ∧ (highWaterPids[(6 : Fin 7).val]? = some (0x2803 : Nat)) ∧ (Catalogue.row? (0x2803 : Nat) = some (wRow 0x2803 : Row)) ∧ ((wRow 0x2803 : Row).sel.has (wReq 1 [0, 1] : Req).inst.toNat = true) ∧ ((wReq 1 [0, 1] : Req).data.length ≤ 65536) ∧ ((wReq 1 [0, 1] : Req).data.length ≠ (wRow 0x2803 : Row).ty.size ∨ beNat (wReq 1 [0, 1] : Req).data ≠ 0) := by decide

theorem witness_SubscriptionsReportWhatChanges_1 :
    (Ready (wSubbed wSub : State) (wReq 0 (toBytes 4 1 ++ toBytes 12 0) : Req) roleSite) ∧ (FullService (wSubbed wSub : State)) ∧ (Catalogue.row? (0x0209#16 : BitVec 16).toNat = some (wRow 0x0209 : Row)) ∧ ((wRow 0x0209 : Row).acc = .rw) ∧ ((wRow 0x0209 : Row).cls ≠ .bundle) ∧ ((wRow 0x0209 : Row).home = .ctl) ∧ (blockOf (0x0209#16 : BitVec 16).toNat = none) ∧ ((wRow 0x0209 : Row).sel.has (wReq 0 (toBytes 4 1 ++ toBytes 12 0) : Req).inst.toNat = true) ∧ (subscribeOk (wReq 0 (toBytes 4 1 ++ toBytes 12 0) : Req).data = true) ∧ (getBE (wReq 0 (toBytes 4 1 ++ toBytes 12 0) : Req).data 0 4 = 1) ∧ (Tab.firstFree ((wSubbed wSub : State).session (Req.key (wReq 0 (toBytes 4 1 ++ toBytes 12 0) : Req))).subs 0 64 = some (1 : Fin 64).val) ∧ (((wSubbed wSub : State).session (Req.key (wReq 0 (toBytes 4 1 ++ toBytes 12 0) : Req))).queue = []) := by decide

theorem witness_SubscriptionsReportWhatChanges_2 :
    (Ready (wUp [(0x140A, 14, 9)] : State) (wReq 14 (toBytes 4 2 ++ toBytes 12 0) : Req) roleSite) ∧ (FullService (wUp [(0x140A, 14, 9)] : State)) ∧ (Catalogue.row? (0x140A#16 : BitVec 16).toNat = some (wRow 0x140A : Row)) ∧ ((wRow 0x140A : Row).acc = .rw) ∧ ((wRow 0x140A : Row).cls ≠ .bundle) ∧ ((wRow 0x140A : Row).home = .ctl) ∧ (blockOf (0x140A#16 : BitVec 16).toNat = none) ∧ ((wRow 0x140A : Row).sel = .upto (16 : Nat)) ∧ ((wReq 14 (toBytes 4 2 ++ toBytes 12 0) : Req).inst.toNat + (2 : Nat) ≤ (16 : Nat)) ∧ (subscribeOk (wReq 14 (toBytes 4 2 ++ toBytes 12 0) : Req).data = true) ∧ (getBE (wReq 14 (toBytes 4 2 ++ toBytes 12 0) : Req).data 0 4 = (2 : Nat)) ∧ (Tab.firstFree ((wUp [(0x140A, 14, 9)] : State).session (Req.key (wReq 14 (toBytes 4 2 ++ toBytes 12 0) : Req))).subs 0 64 = some (0 : Fin 64).val) ∧ (((wUp [(0x140A, 14, 9)] : State).session (Req.key (wReq 14 (toBytes 4 2 ++ toBytes 12 0) : Req))).queue = []) := by decide

theorem witness_SubscriptionsReportWhatChanges_3 :
    (Ready (wUp [] : State) (wReq 14 (toBytes 4 3 ++ toBytes 12 0) : Req) (roleSite : Nat)) ∧ (FullService (wUp [] : State)) ∧ (Catalogue.row? (0x140A#16 : BitVec 16).toNat = some (wRow 0x140A : Row)) ∧ ((wRow 0x140A : Row).acc ≠ .wo) ∧ ((roleOpcodes (roleSite : Nat)).contains 0x07 = true) ∧ ((wReq 14 (toBytes 4 3 ++ toBytes 12 0) : Req).data.length = 16) ∧ (getBE (wReq 14 (toBytes 4 3 ++ toBytes 12 0) : Req).data 0 4 = (3 : Nat)) ∧ (1 ≤ (3 : Nat)) ∧ ((3 : Nat) ≤ 4096) ∧ ((wUp [] : State).rangeStatus (roleSite : Nat) (0x140A#16 : BitVec 16).toNat (wRow 0x140A : Row) (wReq 14 (toBytes 4 3 ++ toBytes 12 0) : Req).inst.toNat (3 : Nat) ≠ stOk) := by decide

theorem witness_SubscriptionsReportWhatChanges_4 :
    (Ready (wUp [] : State) (wReq 0 [1] : Req) roleSite) ∧ (FullService (wUp [] : State)) ∧ (Catalogue.row? (0x0209#16 : BitVec 16).toNat = some (wRow 0x0209 : Row)) ∧ ((wRow 0x0209 : Row).acc ≠ .wo) ∧ ((wRow 0x0209 : Row).sel.has (wReq 0 [1] : Req).inst.toNat = true) ∧ (subscribeOk (wReq 0 [1] : Req).data = false) ∧ ((wReq 0 [1] : Req).data.length ≠ 16 ∨ getBE (wReq 0 [1] : Req).data 0 4 = 0 ∨ 4096 < getBE (wReq 0 [1] : Req).data 0 4 ∨ (wUp [] : State).rangeStatus roleSite (0x0209#16 : BitVec 16).toNat (wRow 0x0209 : Row) (wReq 0 [1] : Req).inst.toNat (getBE (wReq 0 [1] : Req).data 0 4) = stOk) ∧ ((wReq 0 [1] : Req).data.length ≤ 65536) := by decide

theorem witness_SubscriptionsReportWhatChanges_5 :
    (Ready wFull (wReq 0 (toBytes 4 1 ++ toBytes 12 0) : Req) roleSite) ∧ (FullService wFull) ∧ (Catalogue.row? (0x0209#16 : BitVec 16).toNat = some (wRow 0x0209 : Row)) ∧ ((wRow 0x0209 : Row).acc = .rw) ∧ ((wRow 0x0209 : Row).sel.has (wReq 0 (toBytes 4 1 ++ toBytes 12 0) : Req).inst.toNat = true) ∧ (subscribeOk (wReq 0 (toBytes 4 1 ++ toBytes 12 0) : Req).data = true) ∧ (getBE (wReq 0 (toBytes 4 1 ++ toBytes 12 0) : Req).data 0 4 = 1) ∧ (Tab.firstFree (wFull.session (Req.key (wReq 0 (toBytes 4 1 ++ toBytes 12 0) : Req))).subs 0 64 = none) := by decide

theorem witness_SubscriptionsReportWhatChanges_6 :
    (Ready (wSubbed wSub : State) (wReq 0 [0] : Req) roleSite) ∧ (FullService (wSubbed wSub : State)) ∧ ((wReq 0 [0] : Req).data.length = 1) ∧ (beNat (wReq 0 [0] : Req).data < 64) ∧ (Tab.find? ((wSubbed wSub : State).session (Req.key (wReq 0 [0] : Req))).subs (beNat (wReq 0 [0] : Req).data) = some wSub) ∧ (((wSubbed wSub : State).session (Req.key (wReq 0 [0] : Req))).queue = []) := by decide

theorem witness_SubscriptionsReportWhatChanges_7 :
    (Ready (wSess { wSubX wSub with queue := [wQueued 0] } [] : State) (wReq 0 [0] : Req) roleSite) ∧ (FullService (wSess { wSubX wSub with queue := [wQueued 0] } [] : State)) ∧ ((wReq 0 [0] : Req).data.length = 1) ∧ (beNat (wReq 0 [0] : Req).data < 64) ∧ (Tab.find? ((wSess { wSubX wSub with queue := [wQueued 0] } [] : State).session (Req.key (wReq 0 [0] : Req))).subs (beNat (wReq 0 [0] : Req).data) = some wSub) ∧ (((wSess { wSubX wSub with queue := [wQueued 0] } [] : State).session (Req.key (wReq 0 [0] : Req))).queue = [(wQueued 0 : Msg)]) ∧ ((wQueued 0 : Msg).payload.length ≤ 4096) := by decide

theorem witness_SubscriptionsReportWhatChanges_8 :
    (Ready (wUp [] : State) (wReq 0 [64] : Req) roleSite) ∧ (FullService (wUp [] : State)) ∧ ((wReq 0 [64] : Req).data.length ≤ 65536) ∧ ((wReq 0 [64] : Req).data.length ≠ 1 ∨ 64 ≤ beNat (wReq 0 [64] : Req).data) := by decide

theorem witness_SubscriptionsReportWhatChanges_9 :
    (Ready (wUp [] : State) (wReq 0 [63] : Req) roleSite) ∧ (FullService (wUp [] : State)) ∧ ((wReq 0 [63] : Req).data.length = 1) ∧ (beNat (wReq 0 [63] : Req).data < 64) ∧ (Tab.find? ((wUp [] : State).session (Req.key (wReq 0 [63] : Req))).subs (beNat (wReq 0 [63] : Req).data) = none) := by decide

theorem witness_SubscriptionsReportWhatChanges_10 :
    ((State.reset : State).serving (State.reset : State).active = false ∨ (State.reset : State).openSessions = []) := by decide

theorem witness_SubscriptionsReportWhatChanges_11 :
    ((wSubbed wSub : State).serving (wSubbed wSub : State).active = true) ∧ ((wSubbed wSub : State).sessions = [(4 * (wSubbed wSub : State).active + (0 : Fin 4).val, (wSubX wSub : Session))]) ∧ ((wSubX wSub : Session).isOpen = true) ∧ ((wSubX wSub : Session).role = roleSite) ∧ ((wSubX wSub : Session).queue = []) ∧ ((wSubX wSub : Session).subs = [((0 : Fin 64).val, wSub)]) ∧ (Catalogue.row? wSub.pid = some (wRow 0x0209 : Row)) ∧ ((wRow 0x0209 : Row).acc = .rw) ∧ ((wRow 0x0209 : Row).cls ≠ .bundle) ∧ ((wRow 0x0209 : Row).home = .ctl) ∧ (blockOf wSub.pid = none) ∧ ((wRow 0x0209 : Row).sel.has wSub.inst = true) ∧ (wSub.count = 1) ∧ (wSub.mode ≠ 1) ∧ (wSub.vals = [(1, (9 : Nat))]) ∧ ((wSub.changed = [] ∧ (wSubbed wSub : State).rd wSub.pid wSub.inst ≠ (9 : Nat)) ∨ wSub.changed = [wSub.inst]) ∧ (wSub.minimum * 400000 ≤ (wSubbed wSub : State).clk + (400000 : Nat) - wSub.lastAt) := by decide

theorem witness_SubscriptionsReportWhatChanges_12 :
    ((wSubbed wSub : State).serving (wSubbed wSub : State).active = true) ∧ ((wSubbed wSub : State).sessions = [(4 * (wSubbed wSub : State).active + (0 : Fin 4).val, (wSubX wSub : Session))]) ∧ ((wSubX wSub : Session).isOpen = true) ∧ ((wSubX wSub : Session).role = roleSite) ∧ ((wSubX wSub : Session).queue = []) ∧ ((wSubX wSub : Session).subs = [((0 : Fin 64).val, wSub)]) ∧ (Catalogue.row? wSub.pid = some (wRow 0x0209 : Row)) ∧ ((wRow 0x0209 : Row).acc = .rw) ∧ ((wRow 0x0209 : Row).cls ≠ .bundle) ∧ ((wRow 0x0209 : Row).home = .ctl) ∧ (blockOf wSub.pid = none) ∧ ((wRow 0x0209 : Row).sel.has wSub.inst = true) ∧ (wSub.count = 1) ∧ (wSub.mode = 0) ∧ (wSub.vals = [(1, (9 : Nat))]) ∧ (wSub.changed = []) ∧ ((wSubbed wSub : State).rd wSub.pid wSub.inst ≠ (9 : Nat)) ∧ ((wSubbed wSub : State).clk + (399999 : Nat) - wSub.lastAt < wSub.minimum * 400000) := by decide

theorem witness_SubscriptionsReportWhatChanges_13 :
    ((wSubbed wSubP : State).serving (wSubbed wSubP : State).active = true) ∧ ((wSubbed wSubP : State).sessions = [(4 * (wSubbed wSubP : State).active + (0 : Fin 4).val, (wSubX wSubP : Session))]) ∧ ((wSubX wSubP : Session).isOpen = true) ∧ ((wSubX wSubP : Session).role = roleSite) ∧ ((wSubX wSubP : Session).queue = []) ∧ ((wSubX wSubP : Session).subs = [((0 : Fin 64).val, wSubP)]) ∧ (Catalogue.row? wSubP.pid = some (wRow 0x0209 : Row)) ∧ ((wRow 0x0209 : Row).acc = .rw) ∧ ((wRow 0x0209 : Row).cls ≠ .bundle) ∧ ((wRow 0x0209 : Row).home = .ctl) ∧ (blockOf wSubP.pid = none) ∧ ((wRow 0x0209 : Row).sel.has wSubP.inst = true) ∧ (wSubP.count = 1) ∧ (wSubP.mode ≠ 0) ∧ (wSubP.vals = [(1, (20 : Nat))]) ∧ (wSubP.changed = []) ∧ (wSubP.mode = 1 ∨ (wSubbed wSubP : State).rd wSubP.pid wSubP.inst = (20 : Nat)) ∧ (wSubP.period * 400000 ≤ (wSubbed wSubP : State).clk + (40000000 : Nat) - wSubP.lastAt) := by decide

theorem witness_SubscriptionsReportWhatChanges_14 :
    ((wSubbed { wSub with count := 5 } : State).serving (wSubbed { wSub with count := 5 } : State).active = true) ∧ ((wSubbed { wSub with count := 5 } : State).sessions = [(4 * (wSubbed { wSub with count := 5 } : State).active + (0 : Fin 4).val, (wSubX { wSub with count := 5 } : Session))]) ∧ ((wSubX { wSub with count := 5 } : Session).isOpen = true) ∧ ((wSubX { wSub with count := 5 } : Session).queue = []) ∧ ((wSubX { wSub with count := 5 } : Session).subs = [((0 : Fin 64).val, ({ wSub with count := 5 } : Sub))]) ∧ (Catalogue.row? ({ wSub with count := 5 } : Sub).pid = some (wRow 0x0209 : Row)) ∧ (({ wSub with count := 5 } : Sub).changed = []) ∧ ((wSubbed { wSub with count := 5 } : State).rangeStatus (wSubX { wSub with count := 5 } : Session).role ({ wSub with count := 5 } : Sub).pid (wRow 0x0209 : Row) ({ wSub with count := 5 } : Sub).inst ({ wSub with count := 5 } : Sub).count ≠ stOk) := by decide

theorem witness_SubscriptionsReportWhatChanges_15 :
    ((wSess wQueueFull [] : State).serving (wSess wQueueFull [] : State).active = true) ∧ ((wSess wQueueFull [] : State).sessions = [(4 * (wSess wQueueFull [] : State).active, wQueueFull)]) ∧ (wQueueFull.isOpen = true) ∧ (wQueueFull.role = roleSite) ∧ (wQueueFull.queue.length = 256) ∧ (wQueueFull.subs = [((0 : Fin 64).val, wSub)]) ∧ (Catalogue.row? wSub.pid = some (wRow 0x0209 : Row)) ∧ ((wRow 0x0209 : Row).acc = .rw) ∧ ((wRow 0x0209 : Row).cls ≠ .bundle) ∧ ((wRow 0x0209 : Row).home = .ctl) ∧ (blockOf wSub.pid = none) ∧ ((wRow 0x0209 : Row).sel.has wSub.inst = true) ∧ (wSub.count = 1) ∧ (wSub.mode = 0) ∧ (wSub.changed = []) ∧ (wSub.vals = [(1, (9 : Nat))]) ∧ ((wSess wQueueFull [] : State).rd wSub.pid wSub.inst ≠ (9 : Nat)) ∧ (wSub.minimum * 400000 ≤ (wSess wQueueFull [] : State).clk + (400000 : Nat) - wSub.lastAt) := by decide +kernel

theorem witness_SubscriptionsReportWhatChanges_16 :
    ((wSubbed wSub : State).serving (wSubbed wSub : State).active = true) ∧ ((wSubbed wSub : State).sessions = [(4 * (wSubbed wSub : State).active, (wSubX wSub : Session))]) ∧ ((wSubX wSub : Session).isOpen = true) ∧ ((wSubX wSub : Session).role = roleSite) ∧ ((wSubX wSub : Session).queue = []) ∧ ((wSubX wSub : Session).subs = [((0 : Fin 64).val, wSub)]) ∧ (Catalogue.row? wSub.pid = some (wRow 0x0209 : Row)) ∧ ((wRow 0x0209 : Row).acc = .rw) ∧ ((wRow 0x0209 : Row).cls ≠ .bundle) ∧ ((wRow 0x0209 : Row).home = .ctl) ∧ (blockOf wSub.pid = none) ∧ ((wRow 0x0209 : Row).sel.has wSub.inst = true) ∧ (wSub.count = 1) ∧ (wSub.mode = 0) ∧ (wSub.changed = []) ∧ (wSub.vals = [(1, (9 : Nat))]) ∧ ((wSubbed wSub : State).rd wSub.pid wSub.inst ≠ (9 : Nat)) ∧ (wSub.minimum * 400000 ≤ (wSubbed wSub : State).clk + (400000 : Nat) - wSub.lastAt) := by decide

theorem witness_SubscriptionsReportWhatChanges_17 :
    ((wSubbed wSubN : State).serving (wSubbed wSubN : State).active = true) ∧ ((wSubbed wSubN : State).sessions = [(4 * (wSubbed wSubN : State).active, (wSubX wSubN : Session))]) ∧ ((wSubX wSubN : Session).isOpen = true) ∧ ((wSubX wSubN : Session).role = roleSite) ∧ ((wSubX wSubN : Session).queue = []) ∧ ((wSubX wSubN : Session).subs = [((0 : Fin 64).val, wSubN)]) ∧ (Catalogue.row? wSubN.pid = some (wRow 0x0209 : Row)) ∧ ((wRow 0x0209 : Row).acc = .rw) ∧ ((wRow 0x0209 : Row).cls ≠ .bundle) ∧ ((wRow 0x0209 : Row).home = .ctl) ∧ (blockOf wSubN.pid = none) ∧ ((wRow 0x0209 : Row).sel.has wSubN.inst = true) ∧ (wSubN.count = 1) ∧ (wSubN.mode = 0) ∧ (wSubN.changed = []) ∧ (wSubN.vals = [(1, (20 : Nat))]) ∧ ((wSubbed wSubN : State).rd wSubN.pid wSubN.inst = (20 : Nat)) := by decide

theorem witness_SubscriptionsReportWhatChanges_18 :
    (Tab.find? (wSustain 212 100 : State).sustain (212 * 2 ^ 32 + (3 : Fin 4).val) = some ((0 : Nat), (100 : Nat))) ∧ (100 ≤ (100 : Nat)) ∧ ((100 : Nat) < raisedRun) ∧ ((wSustain 212 100 : State).tickRC (0 : Nat) / 400000000 ≤ (0 : Nat) + 1) := by decide

theorem witness_SubscriptionsReportWhatChanges_19 :
    (Tab.find? (wSustain 212 99 : State).sustain (212 * 2 ^ 32 + (3 : Fin 4).val) = some ((0 : Nat), (99 : Nat))) ∧ ((99 : Nat) < 100 ∨ raisedRun ≤ (99 : Nat) ∨ (0 : Nat) + 1 < (wSustain 212 99 : State).tickRC (0 : Nat) / 400000000) := by decide

theorem witness_SubscriptionsReportWhatChanges_20 :
    (Tab.find? (wUp [] : State).sustain (212 * 2 ^ 32 + (0 : Fin 4).val) = none) := by decide

theorem witness_BundlesAreCommittedArmedAndActivated_1 :
    (Ready (wUp [] : State) (wReq 191 [0x80, 0] : Req) roleSite) ∧ (FullService (wUp [] : State)) ∧ (Catalogue.row? (0x1018#16 : BitVec 16).toNat = some (wRow 0x1018 : Row)) ∧ ((wRow 0x1018 : Row).cls = .bundle) ∧ ((wRow 0x1018 : Row).acc ≠ .ro) ∧ ((wRow 0x1018 : Row).sel.has (wReq 191 [0x80, 0] : Req).inst.toNat = true) ∧ ((wReq 191 [0x80, 0] : Req).data.length = (wRow 0x1018 : Row).ty.size) ∧ ((wRow 0x1018 : Row).valueOk (beNat (wReq 191 [0x80, 0] : Req).data) = true) ∧ (bedStatus (0x1018#16 : BitVec 16).toNat (wReq 191 [0x80, 0] : Req).inst.toNat (beNat (wReq 191 [0x80, 0] : Req).data) = stOk) ∧ (Tab.find? (((wUp [] : State).session (Req.key (wReq 191 [0x80, 0] : Req))).bundle.getD []) (regKey (0x1018#16 : BitVec 16).toNat (wReq 191 [0x80, 0] : Req).inst.toNat) ≠ none ∨ (((wUp [] : State).session (Req.key (wReq 191 [0x80, 0] : Req))).bundle.getD []).length < 65536) := by decide

theorem witness_BundlesAreCommittedArmedAndActivated_3 :
    (Ready (wBundle1 [] : State) (wReq 0 wCommit : Req) roleSite) ∧ (FullService (wBundle1 [] : State)) ∧ ((wReq 0 wCommit : Req).flashOk = true) ∧ (commitOk (wReq 0 wCommit : Req).data = true) ∧ ((none : Option Int) = (if getBE (wReq 0 wCommit : Req).data 4 1 = 1 then none else some (decDT (getBE (wReq 0 wCommit : Req).data 8 14)))) ∧ (((wBundle1 [] : State).session (Req.key (wReq 0 wCommit : Req))).bundle = some wDefTen) ∧ ((wBundle1 [] : State).commitStatus wDefTen (none : Option Int) false = stOk) ∧ ((wBundle1 [] : State).freeSlot = some (1 : Fin 4).val) ∧ ((wBundle1 [] : State).standbyReady = true) := by decide

theorem witness_BundlesAreCommittedArmedAndActivated_4 :
    (Ready (wBundle1 [(0x0301, 1, 3), (0x0313, 0, 1)] : State) (wReq 0 wCommitAt : Req) roleSite) ∧ (FullService (wBundle1 [(0x0301, 1, 3), (0x0313, 0, 1)] : State)) ∧ ((wReq 0 wCommitAt : Req).flashOk = true) ∧ (commitOk (wReq 0 wCommitAt : Req).data = true) ∧ ((some (decDT (getBE wCommitAt 8 14)) : Option Int) = (if getBE (wReq 0 wCommitAt : Req).data 4 1 = 1 then none else some (decDT (getBE (wReq 0 wCommitAt : Req).data 8 14)))) ∧ (((wBundle1 [(0x0301, 1, 3), (0x0313, 0, 1)] : State).session (Req.key (wReq 0 wCommitAt : Req))).bundle = some wDefTen) ∧ ((wBundle1 [(0x0301, 1, 3), (0x0313, 0, 1)] : State).commitStatus wDefTen (some (decDT (getBE wCommitAt 8 14)) : Option Int) false = stOk) ∧ ((wBundle1 [(0x0301, 1, 3), (0x0313, 0, 1)] : State).freeSlot = some (1 : Fin 4).val) ∧ ((wBundle1 [(0x0301, 1, 3), (0x0313, 0, 1)] : State).standbyReady = false) ∧ ((wBundle1 [(0x0301, 1, 3), (0x0313, 0, 1)] : State).rd 0x0313 0 = 1) := by decide

theorem witness_BundlesAreCommittedArmedAndActivated_5 :
    (Ready wBundleBad (wReq 0 wCommit : Req) roleSite) ∧ (FullService wBundleBad) ∧ ((wReq 0 wCommit : Req).flashOk = true) ∧ (wBundleBad.mirrorBars = false) ∧ (commitOk (wReq 0 wCommit : Req).data = true) ∧ ((none : Option Int) = (if getBE (wReq 0 wCommit : Req).data 4 1 = 1 then none else some (decDT (getBE (wReq 0 wCommit : Req).data 8 14)))) ∧ ((wBundleBad.session (Req.key (wReq 0 wCommit : Req))).bundle = some ([(regKey 0x1018 0, 0x8001)] : Tab Nat)) ∧ (wBundleBad.commitStatus ([(regKey 0x1018 0, 0x8001)] : Tab Nat) (none : Option Int) false ≠ stOk) := by decide

theorem witness_BundlesAreCommittedArmedAndActivated_6 :
    (wNoSlot.freeSlot = none) := by decide

theorem witness_BundlesAreCommittedArmedAndActivated_7 :
    (wArmed.freeSlot.isSome = true) ∧ ((wArmed.slot (1 : Fin 4).val).state = .armed) ∧ ((0 : Int) ≤ wArmed.time.triple.dtOf (wArmed.slot (1 : Fin 4).val).actRC) := by decide

theorem witness_BundlesAreCommittedArmedAndActivated_9 :
    (Ready (wUp [] : State) (wReqBad 0 wCommit : Req) roleSite) ∧ (FullService (wUp [] : State)) ∧ (commitOk (wReqBad 0 wCommit : Req).data = true) ∧ ((wUp [] : State).mirrorBars = false) ∧ ((wReqBad 0 wCommit : Req).flashOk = false) := by decide

theorem witness_BundlesAreCommittedArmedAndActivated_10 :
    (Ready (wUp [(0x0301, 1, 3)] : State) (wReq 0 wCommit : Req) roleSite) ∧ (FullService (wUp [(0x0301, 1, 3)] : State)) ∧ (commitOk (wReq 0 wCommit : Req).data = true) ∧ ((wUp [(0x0301, 1, 3)] : State).mirrorBars = true) := by decide

theorem witness_BundlesAreCommittedArmedAndActivated_11 :
    (Ready (wUp [] : State) (wReq 0 [] : Req) roleSite) ∧ (FullService (wUp [] : State)) ∧ (commitOk (wReq 0 [] : Req).data = false) ∧ ((wReq 0 [] : Req).data.length ≤ 65536) := by decide

theorem witness_BundlesAreCommittedArmedAndActivated_12 :
    (wAck.standbyReady = true) ∧ (wAck.committing = some ⟨.host ⟨(0 : Nat), wSessC.gen, (7 : Nat)⟩, (1 : Fin 4).val, (5 : Nat), wDefTen, (none : Option Int)⟩) ∧ (wAck.owed = []) ∧ (wAck.sessions = [((0 : Nat), wSessC)]) ∧ (wSessC.isOpen = true) ∧ (wSessC.requests = [wReqC]) ∧ (wReqC.tag = (7 : Nat)) ∧ (wReqC.started = true) ∧ (wReqC.accepted = false) ∧ (wAck.holder = some ((0 : Nat) / 4)) ∧ ((5 : Nat) < 2 ^ 32) := by decide

theorem witness_BundlesAreCommittedArmedAndActivated_13 :
    (wTakes.committing = some ⟨.host ⟨4 * (1 - (1 : CtlNo).val) + (0 : Fin 4).val, wSessC.gen, (7 : Nat)⟩, (1 : Fin 4).val, (5 : Nat), wDefTen, (some 0 : Option Int)⟩) ∧ (wTakes.owed = []) ∧ (wTakes.sessions = [(4 * (1 - (1 : CtlNo).val) + (0 : Fin 4).val, wSessC)]) ∧ (wSessC.isOpen = true) ∧ (wSessC.requests = [wReqC]) ∧ (wReqC.tag = (7 : Nat)) ∧ (wReqC.op = 0x04) ∧ (wReqC.accepted = false) ∧ (wSessC.subs = []) ∧ (wTakes.holder = some (1 : CtlNo).val) ∧ (wTakes.ctlState (1 : CtlNo).val = 4) ∧ (wTakes.rd 0x0300 0 = 1 - (1 : CtlNo).val) ∧ (wTakes.swap = none) ∧ (wTakes.fw.step = 0) ∧ (wTakes.fw.stager = none) := by decide +kernel

theorem witness_BundlesAreCommittedArmedAndActivated_14 :
    ((wUp [] : State).committing = none) ∧ (Quiet (wUp [] : State)) := by decide

theorem witness_BundlesAreCommittedArmedAndActivated_15 :
    (Ready wBundle (wReq 0 [] : Req) roleSite) ∧ (FullService wBundle) ∧ ((wReq 0 [] : Req).data = []) := by decide

theorem witness_BundlesAreCommittedArmedAndActivated_16 :
    (Ready (wActive (wUp [(0x0301, 1, 3), (0x0313, 0, 1)]) : State) (wReq 143 [9] : Req) roleSite) ∧ (FullService (wActive (wUp [(0x0301, 1, 3), (0x0313, 0, 1)]) : State)) ∧ ((wReq 143 [9] : Req).flashOk = true) ∧ ((wActive (wUp [(0x0301, 1, 3), (0x0313, 0, 1)]) : State).standbyReady = false) ∧ ((wActive (wUp [(0x0301, 1, 3), (0x0313, 0, 1)]) : State).rd 0x0313 0 = 1) ∧ ((wReq 143 [9] : Req).inst.toNat < 144) ∧ ((wReq 143 [9] : Req).data.length = 1) ∧ ((wActive (wUp [(0x0301, 1, 3), (0x0313, 0, 1)]) : State).freeSlot = some (1 : Fin 4).val) ∧ ((wActive (wUp [(0x0301, 1, 3), (0x0313, 0, 1)]) : State).commitStatus [(regKey 0x101D (wReq 143 [9] : Req).inst.toNat, beNat (wReq 143 [9] : Req).data)] none false = stOk) := by decide

theorem witness_BundlesAreCommittedArmedAndActivated_17 :
    ((wArmed.slot (1 : Fin 4).val).state = .armed) ∧ ((wArmed.slot (1 : Fin 4).val).actRC ≤ wArmed.tickRC (9 : Nat)) := by decide

theorem witness_BundlesAreCommittedArmedAndActivated_18 :
    ((wArmed.slot (1 : Fin 4).val).state ≠ .armed ∨ wArmed.tickRC (8 : Nat) < (wArmed.slot (1 : Fin 4).val).actRC) := by decide

theorem witness_BundlesAreCommittedArmedAndActivated_19 :
    ((wDrain.slot (1 : Fin 4).val).state = .draining) ∧ ((wDrain.slot (1 : Fin 4).val).succRC + 8000 ≤ wDrain.tickRC (8000 : Nat)) ∧ (wDrain.idleSlot (1 : Fin 4).val = true) := by decide

theorem witness_BundlesAreCommittedArmedAndActivated_20 :
    ((wDrain.slot (1 : Fin 4).val).state ≠ .draining ∨ wDrain.tickRC (7999 : Nat) < (wDrain.slot (1 : Fin 4).val).succRC + 8000 ∨ wDrain.idleSlot (1 : Fin 4).val = false) := by decide

theorem witness_BundlesAreCommittedArmedAndActivated_21 :
    ((wStall.slot (1 : Fin 4).val).state = .draining) ∧ ((wStall.slot (1 : Fin 4).val).succRC + wStall.rd 0x1030 0 * 400000 ≤ wStall.tickRC (400000000000 : Nat)) := by decide

theorem witness_BundlesAreCommittedArmedAndActivated_22 :
    ((wDrain.slot (1 : Fin 4).val).state ≠ .draining ∨ wDrain.tickRC (0 : Nat) < (wDrain.slot (1 : Fin 4).val).succRC + wDrain.rd 0x1030 0 * 400000) := by decide

theorem witness_BundlesAreCommittedArmedAndActivated_23 :
    (Ready wArmedL (wReq 1 [1] : Req) roleSite) ∧ (FullService wArmedL) ∧ ((wReq 1 [1] : Req).inst.toNat = (1 : Fin 4).val) ∧ ((wReq 1 [1] : Req).data = [1]) ∧ ((wArmedL.slot (1 : Fin 4).val).state = .armed) ∧ (wArmedL.latestSlot = (1 : Fin 4).val) ∧ (wArmedL.tickRC (0 : Nat) + wArmedL.lead < (wArmedL.slot (1 : Fin 4).val).actRC) := by decide

theorem witness_BundlesAreCommittedArmedAndActivated_24 :
    (Ready wArmed (wReq 1 [1] : Req) roleSite) ∧ (FullService wArmed) ∧ ((wReq 1 [1] : Req).inst.toNat = (1 : Fin 4).val) ∧ ((wReq 1 [1] : Req).data = [1]) ∧ ((wArmed.slot (1 : Fin 4).val).state ≠ .armed ∨ wArmed.latestSlot ≠ (1 : Fin 4).val ∨ (wArmed.slot (1 : Fin 4).val).actRC ≤ wArmed.tickRC (0 : Nat) + wArmed.lead) := by decide

theorem witness_CountersAreLatchedAndCleared_1 :
    (Ready (wUp [] : State) (wReq 0 wSnapData : Req) roleSite) ∧ (FullService (wUp [] : State)) ∧ (Catalogue.row? (0x3006#16 : BitVec 16).toNat = some (wRow 0x3006 : Row)) ∧ ((wRow 0x3006 : Row).counter = true) ∧ ((wRow 0x3006 : Row).acc = .ro) ∧ ((wRow 0x3006 : Row).sel.has (wReq 0 wSnapData : Req).inst.toNat = true) ∧ (snapshotOk (wReq 0 wSnapData : Req).data = true) ∧ (getBE (wReq 0 wSnapData : Req).data 8 9 = 0) ∧ (Ungated (wUp [] : State) (0x3006#16 : BitVec 16).toNat (wReq 0 wSnapData : Req).inst.toNat) := by decide

theorem witness_CountersAreLatchedAndCleared_2 :
    (Ready (wUp [] : State) (wReq 0 wSnapNear : Req) roleSite) ∧ (FullService (wUp [] : State)) ∧ (Catalogue.row? (0x3006#16 : BitVec 16).toNat = some (wRow 0x3006 : Row)) ∧ ((wRow 0x3006 : Row).counter = true) ∧ ((wRow 0x3006 : Row).acc = .ro) ∧ ((wRow 0x3006 : Row).sel.has (wReq 0 wSnapNear : Req).inst.toNat = true) ∧ (snapshotOk (wReq 0 wSnapNear : Req).data = true) ∧ (getBE (wReq 0 wSnapNear : Req).data 8 9 ≠ 0) ∧ (getBE (wReq 0 wSnapNear : Req).data 8 9 < (wUp [] : State).tickRC (0 : Nat) + 800 ∨ (wUp [] : State).tickRC (0 : Nat) + 400000000 < getBE (wReq 0 wSnapNear : Req).data 8 9) := by decide

theorem witness_CountersAreLatchedAndCleared_3 :
    (Ready (wUp [] : State) (wReq 0 wSnapAt : Req) roleSite) ∧ (FullService (wUp [] : State)) ∧ (Catalogue.row? (0x3006#16 : BitVec 16).toNat = some (wRow 0x3006 : Row)) ∧ ((wRow 0x3006 : Row).counter = true) ∧ ((wRow 0x3006 : Row).acc = .ro) ∧ ((wRow 0x3006 : Row).sel.has (wReq 0 wSnapAt : Req).inst.toNat = true) ∧ (snapshotOk (wReq 0 wSnapAt : Req).data = true) ∧ ((wUp [] : State).tickRC (0 : Nat) + 800 ≤ getBE (wReq 0 wSnapAt : Req).data 8 9) ∧ (getBE (wReq 0 wSnapAt : Req).data 8 9 ≤ (wUp [] : State).tickRC (0 : Nat) + 400000000) ∧ (Ungated (wUp [] : State) (0x3006#16 : BitVec 16).toNat (wReq 0 wSnapAt : Req).inst.toNat) := by decide

theorem witness_CountersAreLatchedAndCleared_4 :
    (Ready (wUp [(0x0228, 1, 2)] : State) (wReq 0 wSnapData : Req) roleSite) ∧ (FullService (wUp [(0x0228, 1, 2)] : State)) ∧ (Catalogue.row? (0x1C17#16 : BitVec 16).toNat = some (wRow 0x1C17 : Row)) ∧ ((wRow 0x1C17 : Row).counter = true) ∧ ((wRow 0x1C17 : Row).acc = .ro) ∧ ((wRow 0x1C17 : Row).sel.has (wReq 0 wSnapData : Req).inst.toNat = true) ∧ (snapshotOk (wReq 0 wSnapData : Req).data = true) ∧ (getBE (wReq 0 wSnapData : Req).data 8 9 = 0) ∧ ((wUp [(0x0228, 1, 2)] : State).gated (wRow 0x1C17 : Row) (0x1C17#16 : BitVec 16).toNat (wReq 0 wSnapData : Req).inst.toNat = some (1 : Nat)) := by decide

theorem witness_CountersAreLatchedAndCleared_5 :
    (Ready wObserver (wReq 0 [0, 0, 0, 1, 1] : Req) (roleObserver : Nat)) ∧ (FullService wObserver) ∧ ((roleObserver : Nat) ≠ roleSite) ∧ (Catalogue.row? (0x3006#16 : BitVec 16).toNat = some (wRow 0x3006 : Row)) ∧ ((wRow 0x3006 : Row).counter = true) ∧ ((wRow 0x3006 : Row).sel.has (wReq 0 [0, 0, 0, 1, 1] : Req).inst.toNat = true) ∧ (getBE (wReq 0 [0, 0, 0, 1, 1] : Req).data 4 1 = 1) ∧ ((wReq 0 [0, 0, 0, 1, 1] : Req).data.length ≤ 65536) := by decide

theorem witness_CountersAreLatchedAndCleared_6 :
    (Ready (wUp [] : State) (wReq 0 [] : Req) roleSite) ∧ (FullService (wUp [] : State)) ∧ (Catalogue.row? (0x3000#16 : BitVec 16).toNat = some (wRow 0x3000 : Row)) ∧ ((wRow 0x3000 : Row).counter = false ∨ snapshotOk (wReq 0 [] : Req).data = false) ∧ ((0x3000#16 : BitVec 16).toNat ≠ 0x010D) ∧ ((wRow 0x3000 : Row).sel.has (wReq 0 [] : Req).inst.toNat = true) ∧ ((wReq 0 [] : Req).data.length ≤ 65536) := by decide

theorem witness_CountersAreLatchedAndCleared_7 :
    ((wSnap 0x3006 : State).owed = []) ∧ ((wSnap 0x3006 : State).sessions = [((0 : Nat), (wSessS 0x20 : Session))]) ∧ ((wSessS 0x20 : Session).isOpen = true) ∧ ((wSessS 0x20 : Session).requests = [(wReqT 0x20 : Request)]) ∧ ((wReqT 0x20 : Request).tag = (7 : Nat)) ∧ ((wReqT 0x20 : Request).started = true) ∧ ((wReqT 0x20 : Request).accepted = false) ∧ ((wSnap 0x3006 : State).holder = some ((0 : Nat) / 4)) ∧ ((wSnap 0x3006 : State).snaps = [⟨(0 : Nat), (0x3006 : Nat), (0 : Nat), (1 : Nat), (true : Bool), ⟨(0 : Nat), (wSessS 0x20 : Session).gen, (7 : Nat)⟩⟩]) ∧ ((0 : Nat) ≤ (wSnap 0x3006 : State).tickRC (0 : Nat)) ∧ (Catalogue.row? (0x3006 : Nat) = some (wRow 0x3006 : Row)) ∧ (clearable (0x3006 : Nat) = true) ∧ ((0x3006 : Nat) ≠ 0x0414) ∧ (1 ≤ (1 : Nat)) ∧ ((0 : Nat) + (1 : Nat) < 2 ^ 32) ∧ ((List.range (1 : Nat)).all (fun j => (wRow 0x3006 : Row).sel.has ((0 : Nat) + j) && (wSnap 0x3006 : State).readable (wRow 0x3006 : Row) ((0 : Nat) + j) && ((wSnap 0x3006 : State).gated (wRow 0x3006 : Row) (0x3006 : Nat) ((0 : Nat) + j)).isNone) = true) := by decide

theorem witness_CountersAreLatchedAndCleared_8 :
    (wSnap2.owed = []) ∧ (wSnap2.sessions = [((0 : Nat), (wSessS 0x20 : Session))]) ∧ ((wSessS 0x20 : Session).isOpen = true) ∧ ((wSessS 0x20 : Session).requests = [(wReqT 0x20 : Request)]) ∧ ((wReqT 0x20 : Request).tag = (7 : Nat)) ∧ ((wReqT 0x20 : Request).started = true) ∧ ((wReqT 0x20 : Request).accepted = false) ∧ (wSnap2.holder = some ((0 : Nat) / 4)) ∧ (wSnap2.snaps = [⟨(0 : Nat), (0x3C20 : Nat), (0 : Nat), (2 : Nat) + 1, (true : Bool), ⟨(0 : Nat), (wSessS 0x20 : Session).gen, (7 : Nat)⟩⟩]) ∧ ((0 : Nat) ≤ wSnap2.tickRC (0 : Nat)) ∧ (Catalogue.row? (0x3C20 : Nat) = some (wRow 0x3C20 : Row)) ∧ (clearable (0x3C20 : Nat) = true) ∧ ((0x3C20 : Nat) ≠ 0x0414) ∧ (1 ≤ (2 : Nat)) ∧ ((0 : Nat) + (2 : Nat) < 2 ^ 32) ∧ ((List.range (2 : Nat)).all (fun j => (wRow 0x3C20 : Row).sel.has ((0 : Nat) + j) && wSnap2.readable (wRow 0x3C20 : Row) ((0 : Nat) + j) && (wSnap2.gated (wRow 0x3C20 : Row) (0x3C20 : Nat) ((0 : Nat) + j)).isNone) = true) ∧ ((wRow 0x3C20 : Row).sel.has ((0 : Nat) + (2 : Nat)) = false) := by decide

theorem witness_CountersAreLatchedAndCleared_9 :
    (Quiet (wUp [] : State)) ∧ ((∀ x ∈ (wUp [] : State).snaps, (wUp [] : State).tickRC (0 : Nat) < x.rc)) := by decide

theorem witness_CountersAreLatchedAndCleared_10 :
    (Ready (wUp [] : State) (wReq 0 [1] : Req) roleSite) ∧ (FullService (wUp [] : State)) ∧ ((wReq 0 [1] : Req).inst = 0) ∧ ((wReq 0 [1] : Req).data = [1]) := by decide

theorem witness_CountersAreLatchedAndCleared_11 :
    ((wSnap 0x3C2D : State).owed = []) ∧ ((wSnap 0x3C2D : State).sessions = [((0 : Nat), (wSessS 0x20 : Session))]) ∧ ((wSessS 0x20 : Session).isOpen = true) ∧ ((wSessS 0x20 : Session).requests = [(wReqT 0x20 : Request)]) ∧ ((wReqT 0x20 : Request).tag = (7 : Nat)) ∧ ((wReqT 0x20 : Request).started = true) ∧ ((wReqT 0x20 : Request).accepted = false) ∧ ((wSnap 0x3C2D : State).holder = some ((0 : Nat) / 4)) ∧ ((wSnap 0x3C2D : State).snaps = [⟨(0 : Nat), 0x3C2D, 0, 0, true, ⟨(0 : Nat), (wSessS 0x20 : Session).gen, (7 : Nat)⟩⟩]) ∧ ((0 : Nat) ≤ (wSnap 0x3C2D : State).tickRC (0 : Nat)) ∧ ((0 : Nat) < 2 ^ 32) := by decide

theorem witness_CountersAreLatchedAndCleared_12 :
    (Catalogue.row? (0x3006#16 : BitVec 16).toNat = some (wRow 0x3006 : Row)) ∧ ((wRow 0x3006 : Row).counter = true) ∧ ((wRow 0x3006 : Row).sel.has (0#32 : BitVec 32).toNat = true) ∧ ((wUp [(0x3006, 0, 77)] : State).readable (wRow 0x3006 : Row) (0#32 : BitVec 32).toNat = true) ∧ ((0x3006#16 : BitVec 16) ≠ 0x3C2F) := by decide

theorem witness_CountersAreLatchedAndCleared_13 :
    (isCounter (0x3000#16 : BitVec 16).toNat = false ∨ (Catalogue.row? (0x3000#16 : BitVec 16).toNat).any (fun row => !row.sel.has (0#32 : BitVec 32).toNat || !(wUp [] : State).readable row (0#32 : BitVec 32).toNat) = true) := by decide

theorem witness_TheFaultRecordIsReadClearedAndWritten_1 :
    (Ready (wFault 253 [] : State) (wReq 0 [253, 0, 3, 0] : Req) roleSite) ∧ (FullService (wFault 253 [] : State)) ∧ ((wReq 0 [253, 0, 3, 0] : Req).data.length = 4) ∧ (1 ≤ getBE (wReq 0 [253, 0, 3, 0] : Req).data 1 2) ∧ (getBE (wReq 0 [253, 0, 3, 0] : Req).data 1 2 ≤ 256) ∧ (getBE (wReq 0 [253, 0, 3, 0] : Req).data 3 1 = 0) ∧ (getBE (wReq 0 [253, 0, 3, 0] : Req).data 0 1 + getBE (wReq 0 [253, 0, 3, 0] : Req).data 1 2 ≤ 256) := by decide

theorem witness_TheFaultRecordIsReadClearedAndWritten_2 :
    (Ready (wUp [] : State) (wReq 0 [253, 0, 4, 0] : Req) roleSite) ∧ (FullService (wUp [] : State)) ∧ ((wReq 0 [253, 0, 4, 0] : Req).data.length ≤ 65536) ∧ ((wReq 0 [253, 0, 4, 0] : Req).data.length ≠ 4 ∨ getBE (wReq 0 [253, 0, 4, 0] : Req).data 1 2 = 0 ∨ getBE (wReq 0 [253, 0, 4, 0] : Req).data 3 1 ≠ 0 ∨ 256 < getBE (wReq 0 [253, 0, 4, 0] : Req).data 0 1 + getBE (wReq 0 [253, 0, 4, 0] : Req).data 1 2) := by decide

theorem witness_TheFaultRecordIsReadClearedAndWritten_3 :
    (Ready (wFault 179 [(0x3309, 0, 1)] : State) (wReq 0 (toBytes 32 (2 ^ 179 + 1)) : Req) roleSite) ∧ (FullService (wFault 179 [(0x3309, 0, 1)] : State)) ∧ ((wReq 0 (toBytes 32 (2 ^ 179 + 1)) : Req).data.length = 32) := by decide +kernel

theorem witness_TheFaultRecordIsReadClearedAndWritten_4 :
    (Ready (wUp [] : State) (wReq 0 [] : Req) roleSite) ∧ (FullService (wUp [] : State)) ∧ ((wReq 0 [] : Req).data.length ≠ 32) ∧ ((wReq 0 [] : Req).data.length ≤ 65536) := by decide

theorem witness_TheFaultRecordIsReadClearedAndWritten_5 :
    (Ready (wFault 255 [] : State) (wReq 0 [1] : Req) roleSite) ∧ (FullService (wFault 255 [] : State)) ∧ ((wReq 0 [1] : Req).inst = 0) ∧ ((wReq 0 [1] : Req).data = [1]) := by decide +kernel

theorem witness_TheFaultRecordIsReadClearedAndWritten_6 :
    (Ready (wFault 255 [] : State) (wReq 0 (toBytes 32 (2 ^ 255)) : Req) roleSite) ∧ (FullService (wFault 255 [] : State)) ∧ ((wReq 0 (toBytes 32 (2 ^ 255)) : Req).data = toBytes 32 (2 ^ (255 : Fin 256).val)) ∧ ((wFault 255 [] : State).faults = [((255 : Fin 256).val, wEnt)]) ∧ (wEnt.set = true) ∧ (((wFault 255 [] : State).tick (0 : Nat)).standing (255 : Fin 256).val = none) := by decide

theorem witness_TheFaultRecordIsReadClearedAndWritten_7 :
    (Ready (wFault 179 [(0x3309, 0, 1)] : State) (wReq 0 (toBytes 32 (2 ^ 179)) : Req) roleSite) ∧ (FullService (wFault 179 [(0x3309, 0, 1)] : State)) ∧ ((wReq 0 (toBytes 32 (2 ^ 179)) : Req).data = toBytes 32 (2 ^ (179 : Fin 256).val)) ∧ ((wFault 179 [(0x3309, 0, 1)] : State).faults = [((179 : Fin 256).val, wEnt)]) ∧ (wEnt.set = true) ∧ (((wFault 179 [(0x3309, 0, 1)] : State).tick (0 : Nat)).standing (179 : Fin 256).val = some (0xFFFFFFFF : Nat)) := by decide

theorem witness_TheFaultRecordIsReadClearedAndWritten_8 :
    (Ready wFault2 (wReq 0 (toBytes 32 1) : Req) roleSite) ∧ (FullService wFault2) ∧ ((wReq 0 (toBytes 32 1) : Req).data = toBytes 32 (2 ^ (0 : Fin 256).val)) ∧ ((0 : Fin 256).val < (255 : Fin 256).val) ∧ (wFault2.faults = [((0 : Fin 256).val, (FaultEntry.clear : FaultEntry)), ((255 : Fin 256).val, wEnt)]) ∧ ((FaultEntry.clear : FaultEntry).set = false) := by decide

theorem witness_TheFaultRecordIsReadClearedAndWritten_9 :
    (Ready (wFault 255 [] : State) (wReq 0 [1] : Req) roleSite) ∧ (FullService (wFault 255 [] : State)) ∧ ((wReq 0 [1] : Req).inst = 0) ∧ ((wReq 0 [1] : Req).data = [1]) ∧ ((wFault 255 [] : State).faults = [((255 : Fin 256).val, wEnt)]) ∧ (wEnt.set = true) ∧ (((wFault 255 [] : State).tick (0 : Nat)).standing (255 : Fin 256).val = none) := by decide

theorem witness_TheFaultRecordIsReadClearedAndWritten_10 :
    ((wFault 7 [] : State).holder.isSome = true) ∧ ((wFault 7 [] : State).faults ≠ ((wFault 7 [] : State).flashOf (wFault 7 [] : State).active).faults) ∧ ((wFault 7 [] : State).newBits = true ∨ (wFault 7 [] : State).recordAt + (wFault 7 [] : State).rd 0x3E0C 0 * 400000000 ≤ (wFault 7 [] : State).clk + (0 : Nat)) := by decide

theorem witness_TheFaultRecordIsReadClearedAndWritten_11 :
    ((wFault 7 [] : State).holder.isSome = true) ∧ ((wFault 7 [] : State).faults ≠ ((wFault 7 [] : State).flashOf (wFault 7 [] : State).active).faults) ∧ ((wFault 7 [] : State).newBits = true ∨ (wFault 7 [] : State).recordAt + (wFault 7 [] : State).rd 0x3E0C 0 * 400000000 ≤ (wFault 7 [] : State).clk + (0 : Nat)) := by decide

theorem witness_TheFaultRecordIsReadClearedAndWritten_12 :
    ((wUp [] : State).holder = none ∨ (wUp [] : State).faults = ((wUp [] : State).flashOf (wUp [] : State).active).faults) := by decide

theorem witness_TheFaultRecordIsReadClearedAndWritten_13 :
    ((wUp [] : State).newBits = false) ∧ ((wUp [] : State).clk + (0 : Nat) < (wUp [] : State).recordAt + (wUp [] : State).rd 0x3E0C 0 * 400000000) := by decide

theorem witness_FirmwareIsStagedAndActivated_1 :
    (Ready (wUp [] : State) (wReq 0 [1, 2] : Req) roleSite) ∧ (FullService (wUp [] : State)) ∧ ((wUp [] : State).standbyReady = true) ∧ ((wUp [] : State).fw.stager = none) ∧ ((wUp [] : State).fw.step = 0) := by decide

theorem witness_FirmwareIsStagedAndActivated_2 :
    (Ready (wFw (fun q => { q with step := 2 }) [] : State) (wReq 0 [1, 2] : Req) roleSite) ∧ (FullService (wFw (fun q => { q with step := 2 }) [] : State)) ∧ ((wFw (fun q => { q with step := 2 }) [] : State).fw.stager.isSome = true ∨ (wFw (fun q => { q with step := 2 }) [] : State).fw.step ≠ 0) := by decide

theorem witness_FirmwareIsStagedAndActivated_3 :
    (Ready (wUp [(0x0301, 1, 3)] : State) (wReq 0 [1, 2] : Req) roleSite) ∧ (FullService (wUp [(0x0301, 1, 3)] : State)) ∧ ((wUp [(0x0301, 1, 3)] : State).fw.stager = none) ∧ ((wUp [(0x0301, 1, 3)] : State).fw.step = 0) ∧ ((wUp [(0x0301, 1, 3)] : State).standbyReady = false) := by decide

theorem witness_FirmwareIsStagedAndActivated_4 :
    ((wStaging.session (Req.key (wReq 0 [3] : Req))).request (wReq 0 [3] : Req).tag.toNat = some wReqF) ∧ (wReqF.op = 0x50) ∧ (wReqF.last = false) ∧ (wReqF.started = true) ∧ ((wStaging.session (Req.key (wReq 0 [3] : Req))).skip.contains (wReq 0 [3] : Req).tag.toNat = false) ∧ (wStaging.serving (wReq 0 [3] : Req).ctl.val = true) := by decide

theorem witness_FirmwareIsStagedAndActivated_5 :
    (Ready (wUp [] : State) (wReq 0 wImage : Req) roleSite) ∧ (FullService (wUp [] : State)) ∧ ((wUp [] : State).standbyReady = true) ∧ ((wUp [] : State).fw.stager = none) ∧ ((wUp [] : State).fw.step = 0) ∧ ((wReq 0 wImage : Req).flashOk = true) := by decide

theorem witness_FirmwareIsStagedAndActivated_6 :
    (Ready (wUp [] : State) (wReq 0 [1, 2] : Req) roleSite) ∧ (FullService (wUp [] : State)) ∧ ((wUp [] : State).standbyReady = true) ∧ ((wUp [] : State).fw.stager = none) ∧ ((wUp [] : State).fw.step = 0) ∧ ((wUp [] : State).imageReason (wReq 0 [1, 2] : Req).data = some (1 : Fin 6).val) := by decide

theorem witness_FirmwareIsStagedAndActivated_7 :
    (Ready (wUp [] : State) (wReqBad 0 wImage : Req) roleSite) ∧ (FullService (wUp [] : State)) ∧ ((wUp [] : State).standbyReady = true) ∧ ((wUp [] : State).fw.stager = none) ∧ ((wUp [] : State).fw.step = 0) ∧ ((wReqBad 0 wImage : Req).flashOk = false) := by decide

theorem witness_FirmwareIsStagedAndActivated_8 :
    (wStaging.owed = []) ∧ (wStaging.committing = none) ∧ (wStaging.sessions = [(Req.key (wReq 0 [3] : Req), (wStaging.session 0 : Session))]) ∧ ((wStaging.session 0 : Session).isOpen = true) ∧ ((wStaging.session 0 : Session).skip.contains (wReq 0 [3] : Req).tag.toNat = false) ∧ ((wStaging.session 0 : Session).requests = [wReqF]) ∧ (wReqF.tag = (wReq 0 [3] : Req).tag.toNat) ∧ (wReqF.op = 0x50) ∧ (wReqF.last = false) ∧ (wReqF.started = true) ∧ (wReqF.accepted = false) ∧ (wStaging.serving (wReq 0 [3] : Req).ctl.val = true) ∧ (wStaging.imageReason (wStaging.fw.image ++ (wReq 0 [3] : Req).data) = some (1 : Nat)) := by decide

theorem witness_FirmwareIsStagedAndActivated_9 :
    (Ready wStaged (wReq 0 [0, 0, 0, 0] : Req) roleSite) ∧ (FullService wStaged) ∧ ((wReq 0 [0, 0, 0, 0] : Req).data = [if (false : Bool) then 1 else 0, 0, 0, 0]) ∧ (wStaged.isStaged = true) ∧ (wStaged.pathDiffers = false ∨ (false : Bool) = true) ∧ (wStaged.standbyReady = true) ∧ (wStaged.rd 0x103E 0 = 0) ∧ (wStaged.reseed = none) ∧ (wStaged.fw.step = 0) := by decide

theorem witness_FirmwareIsStagedAndActivated_10 :
    (Ready (wUp [] : State) (wReq 0 [2, 0, 0, 0] : Req) roleSite) ∧ (FullService (wUp [] : State)) ∧ ((wReq 0 [2, 0, 0, 0] : Req).data.length ≤ 65536) ∧ ((wReq 0 [2, 0, 0, 0] : Req).data.length ≠ 4 ∨ 1 < getBE (wReq 0 [2, 0, 0, 0] : Req).data 0 1 ∨ getBE (wReq 0 [2, 0, 0, 0] : Req).data 1 3 ≠ 0) := by decide

theorem witness_FirmwareIsStagedAndActivated_11 :
    (Ready (wUp [] : State) (wReq 0 [1, 0, 0, 0] : Req) roleSite) ∧ (FullService (wUp [] : State)) ∧ ((wReq 0 [1, 0, 0, 0] : Req).data = [if (true : Bool) then 1 else 0, 0, 0, 0]) ∧ ((wUp [] : State).isStaged = false ∨ ((wUp [] : State).pathDiffers = true ∧ (true : Bool) = false) ∨ (wUp [] : State).standbyReady = false ∨ (wUp [] : State).rd 0x103E 0 ≠ 0 ∨ (wUp [] : State).reseed.isSome = true ∨ (wUp [] : State).fw.step ≠ 0) := by decide

theorem witness_FirmwareIsStagedAndActivated_12 :
    (Quiet (wFw (fun q => { q with step := 1, standby := 1 }) [] : State)) ∧ ((wFw (fun q => { q with step := 1, standby := 1 }) [] : State).fw.step = 1) ∧ ((wFw (fun q => { q with step := 1, standby := 1 }) [] : State).ctlState (wFw (fun q => { q with step := 1, standby := 1 }) [] : State).fw.standby = 4) ∧ ((wFw (fun q => { q with step := 1, standby := 1 }) [] : State).rd 0x0007 (wFw (fun q => { q with step := 1, standby := 1 }) [] : State).fw.standby = (wFw (fun q => { q with step := 1, standby := 1 }) [] : State).rd 0x0008 (wFw (fun q => { q with step := 1, standby := 1 }) [] : State).fw.standby) ∧ ((wFw (fun q => { q with step := 1, standby := 1 }) [] : State).swapBarred = false) := by decide

theorem witness_FirmwareIsStagedAndActivated_13 :
    (Quiet (wUp [] : State)) ∧ (((wUp [] : State).fw.step ≠ 1 ∧ (wUp [] : State).fw.step ≠ 3) ∨ ((wUp [] : State).fw.step = 1 ∧ (wUp [] : State).swapBarred = true) ∨ (wUp [] : State).rd 0x0007 (wUp [] : State).fw.standby ≠ (wUp [] : State).rd 0x0008 (wUp [] : State).fw.standby ∨ ((wUp [] : State).ctlState (wUp [] : State).fw.standby ≠ 4 ∧ (wUp [] : State).ctlState (wUp [] : State).fw.standby ≠ 5) ∨ ((wUp [] : State).fw.step = 1 ∧ (wUp [] : State).ctlState (wUp [] : State).fw.standby = 5)) := by decide

theorem witness_FirmwareIsStagedAndActivated_14 :
    (wSwapped.owed = []) ∧ (wSwapped.sessions = []) ∧ (wSwapped.holder = some (1 : CtlNo).val) ∧ (wSwapped.ctlState (1 : CtlNo).val = 4) ∧ (wSwapped.rd 0x0300 0 = 1 - (1 : CtlNo).val) ∧ (wSwapped.swap = none) ∧ (wSwapped.committing = none) ∧ (wSwapped.fw.step = 2) ∧ (wSwapped.fw.stager = none) := by decide

theorem witness_FirmwareIsStagedAndActivated_15 :
    ((wFwDone (fun q => { q with step := 3, standby := 1 }) [] : State).owed = []) ∧ ((wFwDone (fun q => { q with step := 3, standby := 1 }) [] : State).sessions = [((0 : Nat), (wSessA 0x51 : Session))]) ∧ ((wSessA 0x51 : Session).isOpen = true) ∧ ((wSessA 0x51 : Session).requests = [(wReqA 0x51 : Request)]) ∧ ((wReqA 0x51 : Request).tag = (7 : Nat)) ∧ ((wReqA 0x51 : Request).accepted = true) ∧ ((wReqA 0x51 : Request).started = true) ∧ ((wFwDone (fun q => { q with step := 3, standby := 1 }) [] : State).fw.who = some ⟨(0 : Nat), (wSessA 0x51 : Session).gen, (7 : Nat)⟩) ∧ ((wFwDone (fun q => { q with step := 3, standby := 1 }) [] : State).holder = some ((0 : Nat) / 4)) ∧ ((wFwDone (fun q => { q with step := 3, standby := 1 }) [] : State).fw.step = 3) ∧ ((wFwDone (fun q => { q with step := 3, standby := 1 }) [] : State).ctlState (wFwDone (fun q => { q with step := 3, standby := 1 }) [] : State).fw.standby = 4 ∨ (wFwDone (fun q => { q with step := 3, standby := 1 }) [] : State).ctlState (wFwDone (fun q => { q with step := 3, standby := 1 }) [] : State).fw.standby = 5) ∧ ((wFwDone (fun q => { q with step := 3, standby := 1 }) [] : State).rd 0x0007 (wFwDone (fun q => { q with step := 3, standby := 1 }) [] : State).fw.standby = (wFwDone (fun q => { q with step := 3, standby := 1 }) [] : State).rd 0x0008 (wFwDone (fun q => { q with step := 3, standby := 1 }) [] : State).fw.standby) ∧ ((wFwDone (fun q => { q with step := 3, standby := 1 }) [] : State).pathDiffers = false) := by decide

theorem witness_FirmwareIsStagedAndActivated_16 :
    (Quiet (wFw (fun q => { q with step := 3, standby := 1, dataPath := 5 }) [] : State)) ∧ ((wFw (fun q => { q with step := 3, standby := 1, dataPath := 5 }) [] : State).fw.step = 3) ∧ ((wFw (fun q => { q with step := 3, standby := 1, dataPath := 5 }) [] : State).ctlState (wFw (fun q => { q with step := 3, standby := 1, dataPath := 5 }) [] : State).fw.standby = 4 ∨ (wFw (fun q => { q with step := 3, standby := 1, dataPath := 5 }) [] : State).ctlState (wFw (fun q => { q with step := 3, standby := 1, dataPath := 5 }) [] : State).fw.standby = 5) ∧ ((wFw (fun q => { q with step := 3, standby := 1, dataPath := 5 }) [] : State).rd 0x0007 (wFw (fun q => { q with step := 3, standby := 1, dataPath := 5 }) [] : State).fw.standby = (wFw (fun q => { q with step := 3, standby := 1, dataPath := 5 }) [] : State).rd 0x0008 (wFw (fun q => { q with step := 3, standby := 1, dataPath := 5 }) [] : State).fw.standby) ∧ ((wFw (fun q => { q with step := 3, standby := 1, dataPath := 5 }) [] : State).pathDiffers = true) := by decide

theorem witness_FirmwareIsStagedAndActivated_17 :
    ((wFwDone (fun q => { q with step := 3, standby := 1 }) [(0x0301, 1, 1)] : State).owed = []) ∧ ((wFwDone (fun q => { q with step := 3, standby := 1 }) [(0x0301, 1, 1)] : State).sessions = [((0 : Nat), (wSessA 0x51 : Session))]) ∧ ((wSessA 0x51 : Session).isOpen = true) ∧ ((wSessA 0x51 : Session).requests = [(wReqA 0x51 : Request)]) ∧ ((wFwDone (fun q => { q with step := 3, standby := 1 }) [(0x0301, 1, 1)] : State).committing = none) ∧ ((wReqA 0x51 : Request).tag = (7 : Nat)) ∧ ((wReqA 0x51 : Request).accepted = true) ∧ ((wReqA 0x51 : Request).started = true) ∧ ((wFwDone (fun q => { q with step := 3, standby := 1 }) [(0x0301, 1, 1)] : State).fw.who = some ⟨(0 : Nat), (wSessA 0x51 : Session).gen, (7 : Nat)⟩) ∧ ((wFwDone (fun q => { q with step := 3, standby := 1 }) [(0x0301, 1, 1)] : State).holder = some ((0 : Nat) / 4)) ∧ ((wFwDone (fun q => { q with step := 3, standby := 1 }) [(0x0301, 1, 1)] : State).fw.step = 1 ∨ (wFwDone (fun q => { q with step := 3, standby := 1 }) [(0x0301, 1, 1)] : State).fw.step = 3) ∧ ((wFwDone (fun q => { q with step := 3, standby := 1 }) [(0x0301, 1, 1)] : State).fw.standby = 1 - (0 : Nat) / 4) ∧ ((0 : Nat) < 8) ∧ ((wFwDone (fun q => { q with step := 3, standby := 1 }) [(0x0301, 1, 1)] : State).ctlState (wFwDone (fun q => { q with step := 3, standby := 1 }) [(0x0301, 1, 1)] : State).fw.standby ≠ 4) ∧ ((wFwDone (fun q => { q with step := 3, standby := 1 }) [(0x0301, 1, 1)] : State).ctlState (wFwDone (fun q => { q with step := 3, standby := 1 }) [(0x0301, 1, 1)] : State).fw.standby ≠ 5) ∧ ((wFwDone (fun q => { q with step := 3, standby := 1 }) [(0x0301, 1, 1)] : State).fw.stepAt + 300 * 400000000 ≤ (wFwDone (fun q => { q with step := 3, standby := 1 }) [(0x0301, 1, 1)] : State).clk + (120000000000 : Nat)) := by decide

theorem witness_FirmwareIsStagedAndActivated_18 :
    (Quiet (wUp [] : State)) ∧ (((wUp [] : State).fw.step ≠ 1 ∧ (wUp [] : State).fw.step ≠ 3) ∨ (wUp [] : State).clk + (0 : Nat) < (wUp [] : State).fw.stepAt + 300 * 400000000 ∨ (wUp [] : State).ctlState (wUp [] : State).fw.standby = 4 ∨ (wUp [] : State).ctlState (wUp [] : State).fw.standby = 5) := by decide

theorem witness_ChannelsRunTheirDescriptors_1 :
    ((wUp [] : State).runs ((31 : Fin 32).val / 16) = true) ∧ ((wUp [] : State).chanState (31 : Fin 32).val = 0) ∧ (((wUp [] : State).chan (31 : Fin 32).val).cur = none) ∧ (((wUp [] : State).chan (31 : Fin 32).val).link = none) ∧ ((wUp [] : State).rd 0x3806 (31 : Fin 32).val = 0) ∧ ((wUp [] : State).rd 0x3805 (31 : Fin 32).val % 2 ^ (4 + (8 : Fin 9).val) = (0#12 : BitVec 12).toNat % 2 ^ (4 + (8 : Fin 9).val) ∨ (byteAt 32 (0#256 : BitVec 256).toNat 20).testBit 7 = false) := by decide

theorem witness_ChannelsRunTheirDescriptors_2 :
    ((wUp [] : State).runs ((3 : Fin 32).val / 16) = true) ∧ ((wUp [] : State).chanState (3 : Fin 32).val = 0) ∧ (((wUp [] : State).chan (3 : Fin 32).val).cur = none) ∧ (((wUp [] : State).chan (3 : Fin 32).val).link = none) ∧ ((wUp [] : State).rd 0x3806 (3 : Fin 32).val = 0) ∧ ((wUp [] : State).rd 0x3805 (3 : Fin 32).val % 2 ^ (4 + (8 : Fin 9).val) ≠ (1#12 : BitVec 12).toNat % 2 ^ (4 + (8 : Fin 9).val)) ∧ ((byteAt 32 wHodDesc.toNat 20).testBit 7 = true) ∧ ((wUp [] : State).draining wHodDesc.toNat = none) ∧ (descOk wHodDesc.toNat = true) ∧ ((wUp [] : State).holder = some ((3 : Fin 32).val / 16)) ∧ (descInside wHodDesc.toNat = true) := by decide

theorem witness_ChannelsRunTheirDescriptors_3 :
    ((wUp [] : State).runs ((3 : Fin 32).val / 16) = true) ∧ ((wUp [] : State).chanState (3 : Fin 32).val = 0) ∧ (((wUp [] : State).chan (3 : Fin 32).val).cur = none) ∧ (((wUp [] : State).chan (3 : Fin 32).val).link = none) ∧ ((wUp [] : State).rd 0x3806 (3 : Fin 32).val = 0) ∧ ((wUp [] : State).rd 0x3805 (3 : Fin 32).val % 2 ^ (4 + (0 : Fin 9).val) ≠ (1#12 : BitVec 12).toNat % 2 ^ (4 + (0 : Fin 9).val)) ∧ ((byteAt 32 wHodBad.toNat 20).testBit 7 = true) ∧ ((wUp [] : State).draining wHodBad.toNat = none) ∧ (descOk wHodBad.toNat = false) := by decide

theorem witness_ChannelsRunTheirDescriptors_4 :
    ((wUp [] : State).runs ((31 : Fin 32).val / 16) = true) ∧ ((wUp [] : State).chanState (31 : Fin 32).val = 0) ∧ (((wUp [] : State).chan (31 : Fin 32).val).cur = none) ∧ (((wUp [] : State).chan (31 : Fin 32).val).link = none) ∧ ((wUp [] : State).rd 0x3806 (31 : Fin 32).val = 0) ∧ ((wUp [] : State).rd 0x3805 (31 : Fin 32).val % 2 ^ (4 + (0 : Fin 9).val) ≠ (1#12 : BitVec 12).toNat % 2 ^ (4 + (0 : Fin 9).val)) ∧ ((byteAt 32 wHodDesc.toNat 20).testBit 7 = true) ∧ ((wUp [] : State).draining wHodDesc.toNat = none) ∧ (descOk wHodDesc.toNat = true) ∧ ((wUp [] : State).holder ≠ some ((31 : Fin 32).val / 16)) ∧ (spaceGated (descSrc wHodDesc.toNat) = true) := by decide

theorem witness_ChannelsRunTheirDescriptors_5 :
    ((wUp [] : State).runs ((3 : Fin 32).val / 16) = true) ∧ ((wUp [] : State).chanState (3 : Fin 32).val = 0) ∧ (((wUp [] : State).chan (3 : Fin 32).val).cur = none) ∧ (((wUp [] : State).chan (3 : Fin 32).val).link = none) ∧ ((wUp [] : State).rd 0x3806 (3 : Fin 32).val = 0) ∧ ((wUp [] : State).rd 0x3805 (3 : Fin 32).val % 2 ^ (4 + (0 : Fin 9).val) ≠ (1#12 : BitVec 12).toNat % 2 ^ (4 + (0 : Fin 9).val)) ∧ ((byteAt 32 wHodOut.toNat 20).testBit 7 = true) ∧ ((wUp [] : State).draining wHodOut.toNat = none) ∧ (descOk wHodOut.toNat = true) ∧ ((wUp [] : State).holder = some ((3 : Fin 32).val / 16) ∨ (spaceGated (descSrc wHodOut.toNat) = false ∧ spaceGated (descDst wHodOut.toNat) = false)) ∧ (descInside wHodOut.toNat = false) := by decide

theorem witness_ChannelsRunTheirDescriptors_6 :
    ((wChanWaits none : State).runs ((3 : Fin 32).val / 16) = true) ∧ ((wChanWaits none : State).chanState (3 : Fin 32).val = 0) ∧ (((wChanWaits none : State).chan (3 : Fin 32).val).cur = none) ∧ ((wChanWaits none : State).rd 0x3806 (3 : Fin 32).val = 0) ∧ ((wChanWaits none : State).rd 0x3805 (3 : Fin 32).val % 2 ^ (4 + (0 : Fin 9).val) ≠ (1#12 : BitVec 12).toNat % 2 ^ (4 + (0 : Fin 9).val)) ∧ ((byteAt 32 wHodDesc.toNat 20).testBit 7 = true) ∧ ((wChanWaits none : State).draining wHodDesc.toNat = some ((0 : Nat), (0 : Nat))) := by decide

theorem witness_ChannelsRunTheirDescriptors_7 :
    (wChanLink.runs ((3 : Fin 32).val / 16) = true) ∧ (wChanLink.chanState (3 : Fin 32).val = 0) ∧ ((wChanLink.chan (3 : Fin 32).val).cur = none) ∧ ((wChanLink.chan (3 : Fin 32).val).link = some (77 : Nat)) ∧ (wChanLink.rd 0x3806 (3 : Fin 32).val = 0) ∧ ((byteAt 32 wHodDesc.toNat 20).testBit 7 = true) ∧ (wChanLink.draining wHodDesc.toNat = none) ∧ (descOk wHodDesc.toNat = true) ∧ (wChanLink.holder = some ((3 : Fin 32).val / 16)) ∧ (descInside wHodDesc.toNat = true) := by decide

theorem witness_ChannelsRunTheirDescriptors_8 :
    ((State.reset : State).runs ((0 : Fin 32).val / 16) = false ∨ (State.reset : State).chanState (0 : Fin 32).val ≠ 0 ∨ ((State.reset : State).chan (0 : Fin 32).val).cur ≠ none ∨ (State.reset : State).rd 0x3806 (0 : Fin 32).val ≠ 0) := by decide

theorem witness_ChannelsRunTheirDescriptors_9 :
    (((wChan wHodDesc.toNat [(0x3800, 3, 1), (0x3803, 3, 16), (0x3805, 3, 15), (0x380B, 3, 64)] : State).chan (3 : Fin 32).val).cur = some (wHodDesc.toNat : Nat)) ∧ ((wChan wHodDesc.toNat [(0x3800, 3, 1), (0x3803, 3, 16), (0x3805, 3, 15), (0x380B, 3, 64)] : State).chanState (3 : Fin 32).val = 1) ∧ ((byteAt 32 (wHodDesc.toNat : Nat) 20).testBit 6 = false) ∧ ((wChan wHodDesc.toNat [(0x3800, 3, 1), (0x3803, 3, 16), (0x3805, 3, 15), (0x380B, 3, 64)] : State).draining (wHodDesc.toNat : Nat) = none) ∧ (((wChan wHodDesc.toNat [(0x3800, 3, 1), (0x3803, 3, 16), (0x3805, 3, 15), (0x380B, 3, 64)] : State).chan (3 : Fin 32).val).boundary = none) ∧ ((wChan wHodDesc.toNat [(0x3800, 3, 1), (0x3803, 3, 16), (0x3805, 3, 15), (0x380B, 3, 64)] : State).rd 0x3806 (3 : Fin 32).val = 0) ∧ (0 < (wChan wHodDesc.toNat [(0x3800, 3, 1), (0x3803, 3, 16), (0x3805, 3, 15), (0x380B, 3, 64)] : State).rd 0x3803 (3 : Fin 32).val) ∧ ((wChan wHodDesc.toNat [(0x3800, 3, 1), (0x3803, 3, 16), (0x3805, 3, 15), (0x380B, 3, 64)] : State).rd 0x3803 (3 : Fin 32).val ≤ 4096) := by decide

theorem witness_ChannelsRunTheirDescriptors_10 :
    ((wHodFull.chan (3 : Fin 32).val).cur = some (wHodDesc.toNat : Nat)) ∧ (wHodFull.chanState (3 : Fin 32).val = 1) ∧ ((spaceMems ((3 : Fin 32).val / 16) (descSrc (wHodDesc.toNat : Nat)) (wHodFull.rd 0x3809 (3 : Fin 32).val)).head? = some (4 : Nat)) ∧ ((2 : Nat) ∈ spaceMems ((3 : Fin 32).val / 16) (descDst (wHodDesc.toNat : Nat)) (wHodFull.rd 0x380A (3 : Fin 32).val)) ∧ ((63 : Nat) < wHodFull.rd 0x380B (3 : Fin 32).val) ∧ (wHodFull.rd 0x380A (3 : Fin 32).val + wHodFull.rd 0x380B (3 : Fin 32).val ≤ 2 ^ 64) ∧ ((2 : Nat) ≠ (3 : Fin 32).val / 16 ∨ (wHodFull.rd 0x380A (3 : Fin 32).val + (63 : Nat) ≠ (wHodFull.rd 0x380C (3 : Fin 32).val + 20) % 2 ^ 64 ∧ wHodFull.rd 0x380A (3 : Fin 32).val + (63 : Nat) ≠ (wHodFull.rd 0x380C (3 : Fin 32).val + 22) % 2 ^ 64)) := by decide +kernel

theorem witness_ChannelsRunTheirDescriptors_11 :
    ((wHodFull.chan (3 : Fin 32).val).cur = some (wHodDesc.toNat : Nat)) ∧ (wHodFull.chanState (3 : Fin 32).val = 1) ∧ ((64 : Nat) < 2 ^ 64) ∧ (wHodFull.rd 0x380A (3 : Fin 32).val + wHodFull.rd 0x380B (3 : Fin 32).val ≤ 2 ^ 64) ∧ ((4 : Nat) ∉ spaceMems ((3 : Fin 32).val / 16) (descDst (wHodDesc.toNat : Nat)) (wHodFull.rd 0x380A (3 : Fin 32).val) ∨ (64 : Nat) < wHodFull.rd 0x380A (3 : Fin 32).val ∨ wHodFull.rd 0x380A (3 : Fin 32).val + wHodFull.rd 0x380B (3 : Fin 32).val ≤ (64 : Nat)) ∧ ((4 : Nat) ≠ (3 : Fin 32).val / 16 ∨ ((64 : Nat) ≠ (wHodFull.rd 0x380C (3 : Fin 32).val + 20) % 2 ^ 64 ∧ (64 : Nat) ≠ (wHodFull.rd 0x380C (3 : Fin 32).val + 22) % 2 ^ 64)) := by decide +kernel

theorem witness_ChannelsRunTheirDescriptors_12 :
    (((wChan wHodLink.toNat [(0x3800, 3, 1), (0x380B, 3, 64), (0x380D, 3, 4096)] : State).chan (3 : Fin 32).val).cur = some (wHodLink.toNat : Nat)) ∧ ((wChan wHodLink.toNat [(0x3800, 3, 1), (0x380B, 3, 64), (0x380D, 3, 4096)] : State).chanState (3 : Fin 32).val = 1) ∧ ((byteAt 32 (wHodLink.toNat : Nat) 20).testBit 6 = true) ∧ ((wChan wHodLink.toNat [(0x3800, 3, 1), (0x380B, 3, 64), (0x380D, 3, 4096)] : State).draining (wHodLink.toNat : Nat) = none) ∧ (((wChan wHodLink.toNat [(0x3800, 3, 1), (0x380B, 3, 64), (0x380D, 3, 4096)] : State).chan (3 : Fin 32).val).boundary = none) ∧ ((wChan wHodLink.toNat [(0x3800, 3, 1), (0x380B, 3, 64), (0x380D, 3, 4096)] : State).rd 0x3806 (3 : Fin 32).val = 0) := by decide

theorem witness_ChannelsRunTheirDescriptors_13 :
    (((wChan wHodDesc.toNat [(0x3800, 3, 1)] : State).chan (3 : Fin 32).val).cur = some (wHodDesc.toNat : Nat)) ∧ ((wChan wHodDesc.toNat [(0x3800, 3, 1)] : State).chanState (3 : Fin 32).val = 1) := by decide

theorem witness_ChannelsRunTheirDescriptors_14 :
    (((wChan wHodDesc.toNat [(0x3800, 3, 1)] : State).chan (3 : Fin 32).val).cur = some (wHodDesc.toNat : Nat)) ∧ ((wChan wHodDesc.toNat [(0x3800, 3, 1)] : State).chanState (3 : Fin 32).val = 1) := by decide

theorem witness_ChannelsRunTheirDescriptors_15 :
    (((wChan wHodDesc.toNat [(0x3800, 3, 1)] : State).chan (3 : Fin 32).val).cur = some (wHodDesc.toNat : Nat)) ∧ ((wChan wHodDesc.toNat [(0x3800, 3, 1)] : State).chanState (3 : Fin 32).val = 1) := by decide

theorem witness_ChannelsRunTheirDescriptors_16 :
    (((wChan wHodDesc.toNat [(0x3800, 3, 1), (0x380B, 3, 64)] : State).chan (3 : Fin 32).val).cur = some (wHodDesc.toNat : Nat)) ∧ ((wChan wHodDesc.toNat [(0x3800, 3, 1), (0x380B, 3, 64)] : State).chanState (3 : Fin 32).val = 1) := by decide

theorem witness_ChannelsRunTheirDescriptors_17 :
    (((wUp [] : State).chan (0 : Fin 32).val).cur = none ∨ (wUp [] : State).chanState (0 : Fin 32).val ≠ 1) := by decide

theorem witness_ChannelsRunTheirDescriptors_18 :
    (((wChan wHodDesc.toNat [(0x3800, 3, 1), (0x380B, 3, 64)] : State).chan (3 : Fin 32).val).cur = some (wHodDesc.toNat : Nat)) ∧ ((wChan wHodDesc.toNat [(0x3800, 3, 1), (0x380B, 3, 64)] : State).chanState (3 : Fin 32).val = 1) := by decide

theorem witness_ChannelsRunTheirDescriptors_19 :
    (((wUp [] : State).chan (0 : Fin 32).val).cur = none ∨ (wUp [] : State).chanState (0 : Fin 32).val ≠ 1) := by decide

theorem witness_ChannelsRunTheirDescriptors_20 :
    (Ready (wUp [(0x3800, 31, 1)] : State) (wReq 31 [1] : Req) roleSite) ∧ (FullService (wUp [(0x3800, 31, 1)] : State)) ∧ ((wReq 31 [1] : Req).inst.toNat < 32) ∧ ((wReq 31 [1] : Req).data = [1]) ∧ ((wUp [(0x3800, 31, 1)] : State).chanState (wReq 31 [1] : Req).inst.toNat = 1) := by decide

theorem witness_ChannelsRunTheirDescriptors_21 :
    (Ready (wUp [] : State) (wReq 31 [1] : Req) roleSite) ∧ (FullService (wUp [] : State)) ∧ ((wReq 31 [1] : Req).inst.toNat < 32) ∧ ((wReq 31 [1] : Req).data = [1]) ∧ ((wUp [] : State).chanState (wReq 31 [1] : Req).inst.toNat = 0) := by decide

theorem witness_ChannelsRunTheirDescriptors_22 :
    (Ready (wChan wHodMem.toNat [(0x3800, 3, 3), (0x3806, 3, 1)] : State) (wReq 3 [0] : Req) roleSite) ∧ (FullService (wChan wHodMem.toNat [(0x3800, 3, 3), (0x3806, 3, 1)] : State)) ∧ ((wReq 3 [0] : Req).inst.toNat < 32) ∧ ((wReq 3 [0] : Req).data = [0]) ∧ ((wChan wHodMem.toNat [(0x3800, 3, 3), (0x3806, 3, 1)] : State).chanState (wReq 3 [0] : Req).inst.toNat = 3) ∧ (((wChan wHodMem.toNat [(0x3800, 3, 3), (0x3806, 3, 1)] : State).chan (wReq 3 [0] : Req).inst.toNat).cur = some (wHodMem.toNat : Nat)) ∧ (descOk (wHodMem.toNat : Nat) = true) ∧ (descInside (wHodMem.toNat : Nat) = true) ∧ ((wChan wHodMem.toNat [(0x3800, 3, 3), (0x3806, 3, 1)] : State).holder = some ((wReq 3 [0] : Req).inst.toNat / 16) ∨ (spaceGated (descSrc (wHodMem.toNat : Nat)) = false ∧ spaceGated (descDst (wHodMem.toNat : Nat)) = false)) := by decide

theorem witness_ChannelsRunTheirDescriptors_23 :
    (Ready (wUp [(0x3800, 31, 3), (0x3806, 31, 1)] : State) (wReq 31 [0] : Req) roleSite) ∧ (FullService (wUp [(0x3800, 31, 3), (0x3806, 31, 1)] : State)) ∧ ((wReq 31 [0] : Req).inst.toNat < 32) ∧ ((wReq 31 [0] : Req).data = [0]) ∧ ((wUp [(0x3800, 31, 3), (0x3806, 31, 1)] : State).chanState (wReq 31 [0] : Req).inst.toNat = 3) ∧ (((wUp [(0x3800, 31, 3), (0x3806, 31, 1)] : State).chan (wReq 31 [0] : Req).inst.toNat).cur = none) := by decide

theorem witness_ChannelsRunTheirDescriptors_24 :
    (Ready (wChan wHodMem.toNat [(0x3800, 3, 4)] : State) (wReq 3 [] : Req) roleSite) ∧ (FullService (wChan wHodMem.toNat [(0x3800, 3, 4)] : State)) ∧ ((wReq 3 [] : Req).inst.toNat < 32) ∧ ((wChan wHodMem.toNat [(0x3800, 3, 4)] : State).chanState (wReq 3 [] : Req).inst.toNat = 4) ∧ (((wChan wHodMem.toNat [(0x3800, 3, 4)] : State).chan (wReq 3 [] : Req).inst.toNat).cur = some (wHodMem.toNat : Nat)) ∧ ((wChan wHodMem.toNat [(0x3800, 3, 4)] : State).rd 0x3806 (wReq 3 [] : Req).inst.toNat = 0) ∧ (descOk (wHodMem.toNat : Nat) = true) ∧ (descInside (wHodMem.toNat : Nat) = true) ∧ ((wChan wHodMem.toNat [(0x3800, 3, 4)] : State).holder = some ((wReq 3 [] : Req).inst.toNat / 16) ∨ (spaceGated (descSrc (wHodMem.toNat : Nat)) = false ∧ spaceGated (descDst (wHodMem.toNat : Nat)) = false)) := by decide

theorem witness_ChannelsRunTheirDescriptors_25 :
    (Ready (wUp [] : State) (wReq 0 [] : Req) roleSite) ∧ (FullService (wUp [] : State)) ∧ ((wReq 0 [] : Req).inst.toNat < 32) ∧ ((wUp [] : State).chanState (wReq 0 [] : Req).inst.toNat ≠ 4) := by decide

theorem witness_ChannelsRunTheirDescriptors_26 :
    (Ready (wUp [(0x3800, 3, 4), (0x3806, 3, 1)] : State) (wReq 3 [] : Req) roleSite) ∧ (FullService (wUp [(0x3800, 3, 4), (0x3806, 3, 1)] : State)) ∧ ((wReq 3 [] : Req).inst.toNat < 32) ∧ ((wUp [(0x3800, 3, 4), (0x3806, 3, 1)] : State).chanState (wReq 3 [] : Req).inst.toNat = 4) ∧ ((wUp [(0x3800, 3, 4), (0x3806, 3, 1)] : State).rd 0x3806 (wReq 3 [] : Req).inst.toNat = 1) ∧ (((wUp [(0x3800, 3, 4), (0x3806, 3, 1)] : State).chan (wReq 3 [] : Req).inst.toNat).boundary = none) := by decide

theorem witness_ChannelsRunTheirDescriptors_27 :
    (Ready (wUp [] : State) (wReq 0 [] : Req) roleSite) ∧ (FullService (wUp [] : State)) ∧ ((wReq 0 [] : Req).inst.toNat < 32) ∧ ((wUp [] : State).chanState (wReq 0 [] : Req).inst.toNat ≠ 4) := by decide

theorem witness_ChannelsRunTheirDescriptors_28 :
    (Ready (wChan wHodMem.toNat [(0x3800, 3, 4), (0x3803, 3, 16)] : State) (wReq 3 [] : Req) roleSite) ∧ (FullService (wChan wHodMem.toNat [(0x3800, 3, 4), (0x3803, 3, 16)] : State)) ∧ ((wReq 3 [] : Req).inst.toNat < 32) ∧ ((wChan wHodMem.toNat [(0x3800, 3, 4), (0x3803, 3, 16)] : State).chanState (wReq 3 [] : Req).inst.toNat = 4) ∧ (((wChan wHodMem.toNat [(0x3800, 3, 4), (0x3803, 3, 16)] : State).chan (wReq 3 [] : Req).inst.toNat).cur = some (wHodMem.toNat : Nat)) ∧ (((wChan wHodMem.toNat [(0x3800, 3, 4), (0x3803, 3, 16)] : State).chan (wReq 3 [] : Req).inst.toNat).boundary = none) ∧ ((wChan wHodMem.toNat [(0x3800, 3, 4), (0x3803, 3, 16)] : State).rd 0x3806 (wReq 3 [] : Req).inst.toNat = 0) ∧ ((byteAt 32 (wHodMem.toNat : Nat) 20).testBit 6 = false) ∧ ((wChan wHodMem.toNat [(0x3800, 3, 4), (0x3803, 3, 16)] : State).draining (wHodMem.toNat : Nat) = none) ∧ (0 < (wChan wHodMem.toNat [(0x3800, 3, 4), (0x3803, 3, 16)] : State).rd 0x3803 (wReq 3 [] : Req).inst.toNat) ∧ ((wChan wHodMem.toNat [(0x3800, 3, 4), (0x3803, 3, 16)] : State).rd 0x3803 (wReq 3 [] : Req).inst.toNat ≤ 4096) := by decide

theorem witness_ChannelsRunTheirDescriptors_29 :
    ((wChanDrain.chan (3 : Fin 32).val).cur = some (wHodDesc.toNat : Nat)) ∧ (wChanDrain.draining (wHodDesc.toNat : Nat) = some ((0 : Nat), (0 : Nat))) ∧ (wChanDrain.chanState (3 : Fin 32).val = 1 ∨ wChanDrain.chanState (3 : Fin 32).val = 3) ∧ ((0 : Nat) + 40000 ≤ wChanDrain.clk + (40000 : Nat)) := by decide

theorem witness_ChannelsRunTheirDescriptors_30 :
    ((wChanDrain.chan (3 : Fin 32).val).cur = some (wHodDesc.toNat : Nat)) ∧ (wChanDrain.draining (wHodDesc.toNat : Nat) = some ((0 : Nat), (0 : Nat))) ∧ ((wChanDrain.chanState (3 : Fin 32).val ≠ 1 ∧ wChanDrain.chanState (3 : Fin 32).val ≠ 3) ∨ wChanDrain.clk + (39999 : Nat) < (0 : Nat) + 40000) := by decide

theorem witness_ChannelsRunTheirDescriptors_31 :
    (((wChan wHodMem.toNat [(0x3800, 3, 1)] : State).chan (3 : Fin 32).val).cur = some (wHodMem.toNat : Nat)) ∧ ((wChan wHodMem.toNat [(0x3800, 3, 1)] : State).draining (wHodMem.toNat : Nat) = none) := by decide

theorem witness_ChannelsRunTheirDescriptors_32 :
    (((wUp [] : State).chan (0 : Fin 32).val).cur = none) := by decide

theorem witness_ControllersReceiveAndInjectFrames_1 :
    (Tab.get [] ((wUp [] : State).pl (0 : PlaneNo).val).links (144 + (0 : CtlNo).val) = []) := by decide

theorem witness_ControllersReceiveAndInjectFrames_2 :
    (Tab.get [] ((wCtlLink [] [] : State).pl (0 : PlaneNo).val).links (144 + (0 : CtlNo).val) = [wLinkDone]) ∧ (wLinkDone.status = some 0) ∧ ((wCtlLink [] [] : State).isOn (0 : PlaneNo).val = true) ∧ ((wCtlLink [] [] : State).rd 0x281F (0 : PlaneNo).val = 2) ∧ (Tab.get 0 (wCtlLink [] [] : State).joins (0 : PlaneNo).val ≤ wLinkDone.frame.rc) ∧ ((wCtlLink [] [] : State).holder = some (0 : CtlNo).val) ∧ ((wCtlLink [] [] : State).recvOf (0 : CtlNo).val = ⟨[], []⟩) ∧ ((wCtlLink [] [] : State).wantsFraction wLinkDone.frame = false) ∧ ((wCtlLink [] [] : State).chanState ((wCtlLink [] [] : State).recvChannel (0 : CtlNo).val wLinkDone.cls) = 0) ∧ (wLinkDone.bytes.length ≤ 224) ∧ (wLinkDone.frame.reason ≠ 4) ∧ (((wCtlLink [] [] : State).bufCache (0 : CtlNo).val ((wCtlLink [] [] : State).recvChannel (0 : CtlNo).val wLinkDone.cls % 16) 0).head? = some (0 : Nat)) := by decide +kernel

theorem witness_ControllersReceiveAndInjectFrames_3 :
    (Tab.get [] (wCtlOver.pl (0 : PlaneNo).val).links (144 + (0 : CtlNo).val) = [wLinkOver]) ∧ (wLinkOver.status = some 0) ∧ (wCtlOver.isOn (0 : PlaneNo).val = true) ∧ (wCtlOver.rd 0x281F (0 : PlaneNo).val = 2) ∧ (Tab.get 0 wCtlOver.joins (0 : PlaneNo).val ≤ wLinkOver.frame.rc) ∧ (wCtlOver.holder = some (0 : CtlNo).val) ∧ (wCtlOver.recvOf (0 : CtlNo).val = ⟨[], []⟩) ∧ (wCtlOver.wantsFraction wLinkOver.frame = false) ∧ (wCtlOver.chanState (wCtlOver.recvChannel (0 : CtlNo).val wLinkOver.cls) = 0) ∧ (wLinkOver.bytes.length ≤ 224) ∧ (wLinkOver.frame.reason = 4) ∧ (wCtlOver.rd 0x1005 0 = 1) ∧ ((wCtlOver.bufCache (0 : CtlNo).val (wCtlOver.recvChannel (0 : CtlNo).val wLinkOver.cls % 16) 0).head? = some (0 : Nat)) := by decide +kernel

theorem witness_ControllersReceiveAndInjectFrames_4 :
    (Tab.get [] (wCtlLate.pl (0 : PlaneNo).val).links (144 + (0 : CtlNo).val) = [wLinkDone]) ∧ (wLinkDone.status.isSome = true) ∧ (wCtlLate.isOn (0 : PlaneNo).val = true) ∧ (wCtlLate.rd 0x281F (0 : PlaneNo).val = 2) ∧ (Tab.get 0 wCtlLate.joins (0 : PlaneNo).val ≤ wLinkDone.frame.rc) ∧ (wCtlLate.holder = some (0 : CtlNo).val) ∧ (wCtlLate.recvOf (0 : CtlNo).val = ⟨[], [(wLinkDone.frame.port, wLinkDone.frame.seq, (0 : Nat))]⟩) ∧ (wCtlLate.tickRC (0 : Nat) ≤ (0 : Nat) + wCtlLate.rd 0x1428 0 * 400000 + 16192) := by decide +kernel

theorem witness_ControllersReceiveAndInjectFrames_5 :
    (Tab.get [] (wCtlBad.pl (0 : PlaneNo).val).links (144 + (0 : CtlNo).val) = [wLinkBad]) ∧ (wLinkBad.status = some (1 : Nat)) ∧ ((1 : Nat) ≠ 0) ∧ (wCtlBad.isOn 0 = true) ∧ (wCtlBad.isOn 1 = true) ∧ (wCtlBad.rd 0x281F 0 = 2) ∧ (wCtlBad.rd 0x281F 1 = 2) ∧ (Tab.get 0 wCtlBad.joins (0 : PlaneNo).val ≤ wLinkBad.frame.rc) ∧ (wCtlBad.holder = some (0 : CtlNo).val) ∧ (wCtlBad.recvOf (0 : CtlNo).val = ⟨[], []⟩) := by decide +kernel

theorem witness_ControllersReceiveAndInjectFrames_6 :
    (Tab.get [] ((wCtlLink [] [(0x281F, 0, 4)] : State).pl (0 : PlaneNo).val).links (144 + (0 : CtlNo).val) = [wLinkDone]) ∧ (wLinkDone.status.isSome = true) ∧ ((wCtlLink [] [(0x281F, 0, 4)] : State).isOn (0 : PlaneNo).val = false ∨ ((wCtlLink [] [(0x281F, 0, 4)] : State).rd 0x281F (0 : PlaneNo).val ≠ 2 ∧ (wCtlLink [] [(0x281F, 0, 4)] : State).rd 0x281F (0 : PlaneNo).val ≠ 3) ∨ ((wCtlLink [] [(0x281F, 0, 4)] : State).rd 0x281F (0 : PlaneNo).val = 2 ∧ wLinkDone.frame.rc < Tab.get 0 (wCtlLink [] [(0x281F, 0, 4)] : State).joins (0 : PlaneNo).val)) := by decide +kernel

theorem witness_ControllersReceiveAndInjectFrames_7 :
    (Tab.get [] (wCtlOpen.pl (0 : PlaneNo).val).links (144 + (0 : CtlNo).val) = wLink :: ([] : List LinkCopy)) ∧ (wLink.status = none) := by decide +kernel

theorem witness_ControllersReceiveAndInjectFrames_8 :
    (Tab.get [] ((wCtlLink [⟨5, wFrame.seq, wFrame.rc, 0, true⟩] [] : State).pl (0 : PlaneNo).val).links (144 + (0 : CtlNo).val) = [wLinkDone]) ∧ (wLinkDone.status.isSome = true) ∧ ((wCtlLink [⟨5, wFrame.seq, wFrame.rc, 0, true⟩] [] : State).isOn (0 : PlaneNo).val = true) ∧ ((wCtlLink [⟨5, wFrame.seq, wFrame.rc, 0, true⟩] [] : State).rd 0x281F (0 : PlaneNo).val = 2) ∧ (Tab.get 0 (wCtlLink [⟨5, wFrame.seq, wFrame.rc, 0, true⟩] [] : State).joins (0 : PlaneNo).val ≤ wLinkDone.frame.rc) ∧ ((wCtlLink [⟨5, wFrame.seq, wFrame.rc, 0, true⟩] [] : State).holder = some (0 : CtlNo).val) ∧ ((wCtlLink [⟨5, wFrame.seq, wFrame.rc, 0, true⟩] [] : State).recvOf (0 : CtlNo).val = ⟨[(⟨5, wFrame.seq, wFrame.rc, 0, true⟩ : RecvKey)], []⟩) ∧ ((⟨5, wFrame.seq, wFrame.rc, 0, true⟩ : RecvKey).port = wLinkDone.frame.port) ∧ ((⟨5, wFrame.seq, wFrame.rc, 0, true⟩ : RecvKey).seq = wLinkDone.frame.seq) ∧ ((⟨5, wFrame.seq, wFrame.rc, 0, true⟩ : RecvKey).posted = true) := by decide +kernel

theorem witness_ControllersReceiveAndInjectFrames_9 :
    (Tab.get [] ((wCtlLink [] [(0x0302, 0, 2)] : State).pl (0 : PlaneNo).val).links (144 + (0 : CtlNo).val) = [wLinkDone]) ∧ (wLinkDone.status.isSome = true) ∧ ((wCtlLink [] [(0x0302, 0, 2)] : State).isOn (0 : PlaneNo).val = true) ∧ ((wCtlLink [] [(0x0302, 0, 2)] : State).rd 0x281F (0 : PlaneNo).val = 2) ∧ (Tab.get 0 (wCtlLink [] [(0x0302, 0, 2)] : State).joins (0 : PlaneNo).val ≤ wLinkDone.frame.rc) ∧ ((wCtlLink [] [(0x0302, 0, 2)] : State).holder ≠ some (0 : CtlNo).val) := by decide +kernel

theorem witness_ControllersReceiveAndInjectFrames_10 :
    (Tab.get [] ((wCtlLink [] [] : State).pl (0 : PlaneNo).val).links (144 + (0 : CtlNo).val) = [wLinkDone]) ∧ (wLinkDone.status = some 0) ∧ ((wCtlLink [] [] : State).isOn (0 : PlaneNo).val = true) ∧ ((wCtlLink [] [] : State).rd 0x281F (0 : PlaneNo).val = 2) ∧ (Tab.get 0 (wCtlLink [] [] : State).joins (0 : PlaneNo).val ≤ wLinkDone.frame.rc) ∧ ((wCtlLink [] [] : State).holder = some (0 : CtlNo).val) ∧ ((wCtlLink [] [] : State).recvOf (0 : CtlNo).val = ⟨[], []⟩) ∧ (wLinkDone.bytes.length ≤ 224) ∧ (((wCtlLink [] [] : State).bufCache (0 : CtlNo).val ((wCtlLink [] [] : State).recvChannel (0 : CtlNo).val wLinkDone.cls % 16) 0).head? = some (0 : Nat)) := by decide +kernel

theorem witness_ControllersReceiveAndInjectFrames_11 :
    ((wRunning (wCtlLink [⟨5, 1, 2, 0, true⟩, ⟨6, 1, 2, 1, true⟩] []) : State).recvOf (0 : CtlNo).val = ⟨[(⟨5, 1, 2, 0, true⟩ : RecvKey), (⟨6, 1, 2, 1, true⟩ : RecvKey)], ([] : List (Nat × Nat × Nat))⟩) ∧ ((⟨5, 1, 2, 0, true⟩ : RecvKey).created + 20000 ≤ (wRunning (wCtlLink [⟨5, 1, 2, 0, true⟩, ⟨6, 1, 2, 1, true⟩] []) : State).tickRC (20000 : Nat)) ∧ ((wRunning (wCtlLink [⟨5, 1, 2, 0, true⟩, ⟨6, 1, 2, 1, true⟩] []) : State).tickRC (20000 : Nat) < (⟨6, 1, 2, 1, true⟩ : RecvKey).created + 20000) ∧ (([] : List (Nat × Nat × Nat)).length < 4096) := by decide

theorem witness_ControllersReceiveAndInjectFrames_12 :
    (Tab.find? ({ wUp [] with sustain := [(228 * 2 ^ 32 + 1, (0, 1000))] } : State).sustain (228 * 2 ^ 32 + (1 : CtlNo).val) = some ((0 : Nat), (1000 : Nat))) ∧ (1000 ≤ (1000 : Nat)) ∧ ((1000 : Nat) < raisedRun) ∧ (({ wUp [] with sustain := [(228 * 2 ^ 32 + 1, (0, 1000))] } : State).tickRC (0 : Nat) / 400000 ≤ (0 : Nat) + 1) := by decide

theorem witness_ControllersReceiveAndInjectFrames_13 :
    (Tab.find? ({ wUp [] with sustain := [(228 * 2 ^ 32 + 1, (0, 999))] } : State).sustain (228 * 2 ^ 32 + (1 : CtlNo).val) = some ((0 : Nat), (999 : Nat))) ∧ ((999 : Nat) < 1000 ∨ raisedRun ≤ (999 : Nat) ∨ (0 : Nat) + 1 < ({ wUp [] with sustain := [(228 * 2 ^ 32 + 1, (0, 999))] } : State).tickRC (0 : Nat) / 400000) := by decide

theorem witness_ControllersReceiveAndInjectFrames_14 :
    (Tab.find? (wUp [] : State).sustain (228 * 2 ^ 32 + (0 : CtlNo).val) = none) := by decide

theorem witness_ControllersReceiveAndInjectFrames_15 :
    ((State.reset : State).runs (0 : CtlNo).val = false ∨ (State.reset : State).chanState (16 * (0 : CtlNo).val + (if 6 ≤ (txHeadOf (0#128 : BitVec 128).toNat).cls then 3 else 2)) ≠ 0) := by decide

theorem witness_ControllersReceiveAndInjectFrames_16 :
    ((wUp [] : State).runs (0 : CtlNo).val = true) ∧ ((2 : Nat) = 16 * (0 : CtlNo).val + (if 6 ≤ (txHeadOf wTxOk.toNat).cls then 3 else 2)) ∧ ((wUp [] : State).chanState (2 : Nat) = 0) ∧ ((wEth 46 : List Byte).length ≤ 224) ∧ (((wUp [] : State).bufCache (0 : CtlNo).val ((2 : Nat) % 16) 0).head? = some (16 : Nat)) ∧ ((wUp [] : State).holder = some (0 : CtlNo).val) ∧ (txHeadOk wTxOk.toNat (wEth 46 : List Byte).length = true) := by decide

theorem witness_ControllersReceiveAndInjectFrames_17 :
    ((wUp [] : State).runs (0 : CtlNo).val = true) ∧ ((2 : Nat) = 16 * (0 : CtlNo).val + (if 6 ≤ (txHeadOf (0#128 : BitVec 128).toNat).cls then 3 else 2)) ∧ ((wUp [] : State).chanState (2 : Nat) = 0) ∧ ((wEth 46 : List Byte).length ≤ 224) ∧ (((wUp [] : State).bufCache (0 : CtlNo).val ((2 : Nat) % 16) 0).head? = some (16 : Nat)) ∧ ((wUp [] : State).holder = some (0 : CtlNo).val) ∧ (txHeadOk (0#128 : BitVec 128).toNat (wEth 46 : List Byte).length = false) := by decide

theorem witness_ControllersReceiveAndInjectFrames_18 :
    ((wUp [] : State).runs (1 : CtlNo).val = true) ∧ ((18 : Nat) = 16 * (1 : CtlNo).val + (if 6 ≤ (txHeadOf (0#128 : BitVec 128).toNat).cls then 3 else 2)) ∧ ((wUp [] : State).chanState (18 : Nat) = 0) ∧ (([] : List Byte).length ≤ 224) ∧ (((wUp [] : State).bufCache (1 : CtlNo).val ((18 : Nat) % 16) 0).head? = some (1048592 : Nat)) ∧ ((wUp [] : State).holder ≠ some (1 : CtlNo).val) := by decide

theorem witness_TheBypassSenseAndItsLatch_1 :
    ((wUp [] : State).latch.closed = (false : Bool)) := by decide

theorem witness_TheBypassSenseAndItsLatch_2 :
    (wLatchFull.latch.closed = false) ∧ (wLatchFull.holder.isSome = true) ∧ (wLatchFull.bay.next < 64) := by decide

theorem witness_TheBypassSenseAndItsLatch_3 :
    (wBayOpen.latch.closed = true) ∧ (wBayOpen.holder.isSome = true) ∧ (wBayOpen.bay.current = some (63 : Nat)) ∧ ((63 : Nat) < 64) ∧ ((wBayOpen.tick (9 : Nat)).dtNow < 2 ^ 112) := by decide

theorem witness_TheBypassSenseAndItsLatch_4 :
    ((wLatch (fun q => { q with on := true, closed := true }) [] : State).latch.closed = true) ∧ ((wLatch (fun q => { q with on := true, closed := true }) [] : State).holder.isSome = true) ∧ ((wLatch (fun q => { q with on := true, closed := true }) [] : State).bay.current = none) := by decide

theorem witness_TheBypassSenseAndItsLatch_5 :
    ((wCart (fun q => { q with on := true, partialAt := some 5 }) [(0x0302, 0, 0)] : State).latch.closed = !(true : Bool)) ∧ ((wCart (fun q => { q with on := true, partialAt := some 5 }) [(0x0302, 0, 0)] : State).holder = none) := by decide

theorem witness_TheBypassSenseAndItsLatch_6 :
    (wLatchSet.holder.isSome = true) ∧ (wLatchSet.dtValid = true) ∧ ((wLatchSet.tick (1440000000000 : Nat)).latchRuns = true) ∧ (wLatchSet.bay.latchSet.all (fun a => decide (a + 3600 * 400000000 ≤ wLatchSet.clk + (1440000000000 : Nat))) = true) := by decide

theorem witness_TheBypassSenseAndItsLatch_7 :
    (wBaySet.bay.latchSet.any (fun a => decide (wBaySet.clk + (9 : Nat) < a + 3600 * 400000000)) = true) := by decide

theorem witness_TheBypassSenseAndItsLatch_8 :
    ((wUp [] : State).dtValid = false ∨ (wUp [] : State).holder = none ∨ ((wUp [] : State).tick (0 : Nat)).latchRuns = false) := by decide

theorem witness_TheBypassSenseAndItsLatch_9 :
    ((State.reset : State).holder = none) := by decide

theorem witness_TheBypassSenseAndItsLatch_10 :
    ((wLatch (fun q => { q with on := true, closed := true, ring := [⟨true, 9, true, false⟩] }) [] : State).holder.isSome = true) ∧ ((wLatch (fun q => { q with on := true, closed := true, ring := [⟨true, 9, true, false⟩] }) [] : State).latch.ring = [(⟨true, 9, true, false⟩ : LatchEntry)]) ∧ ((⟨true, 9, true, false⟩ : LatchEntry).closed = true) ∧ ((⟨true, 9, true, false⟩ : LatchEntry).read = false) ∧ ((wLatch (fun q => { q with on := true, closed := true, ring := [⟨true, 9, true, false⟩] }) [] : State).latch.closed = true) ∧ ((wLatch (fun q => { q with on := true, closed := true, ring := [⟨true, 9, true, false⟩] }) [] : State).bay.current = none) ∧ ((wLatch (fun q => { q with on := true, closed := true, ring := [⟨true, 9, true, false⟩] }) [] : State).latch.overflow = false) ∧ ((wLatch (fun q => { q with on := true, closed := true, ring := [⟨true, 9, true, false⟩] }) [] : State).bay.next < 64) ∧ ((wLatch (fun q => { q with on := true, closed := true, ring := [⟨true, 9, true, false⟩] }) [] : State).bay.seen < 2 ^ 64) := by decide

theorem witness_TheBypassSenseAndItsLatch_11 :
    ((wLatch (fun q => { q with on := true, ring := [⟨true, 9, true, true⟩, ⟨false, 2 ^ 64 - 1, false, false⟩] }) [] : State).holder.isSome = true) ∧ ((wLatch (fun q => { q with on := true, ring := [⟨true, 9, true, true⟩, ⟨false, 2 ^ 64 - 1, false, false⟩] }) [] : State).latch.ring = [(⟨true, 9, true, true⟩ : LatchEntry), (⟨false, 2 ^ 64 - 1, false, false⟩ : LatchEntry)]) ∧ ((⟨true, 9, true, true⟩ : LatchEntry).closed = true) ∧ ((⟨false, 2 ^ 64 - 1, false, false⟩ : LatchEntry).closed = false) ∧ ((⟨false, 2 ^ 64 - 1, false, false⟩ : LatchEntry).read = false) ∧ ((wLatch (fun q => { q with on := true, ring := [⟨true, 9, true, true⟩, ⟨false, 2 ^ 64 - 1, false, false⟩] }) [] : State).latch.closed = false) ∧ ((wLatch (fun q => { q with on := true, ring := [⟨true, 9, true, true⟩, ⟨false, 2 ^ 64 - 1, false, false⟩] }) [] : State).bay.current = none) ∧ ((wLatch (fun q => { q with on := true, ring := [⟨true, 9, true, true⟩, ⟨false, 2 ^ 64 - 1, false, false⟩] }) [] : State).latch.overflow = false) ∧ ((wLatch (fun q => { q with on := true, ring := [⟨true, 9, true, true⟩, ⟨false, 2 ^ 64 - 1, false, false⟩] }) [] : State).bay.next < 64) ∧ ((wLatch (fun q => { q with on := true, ring := [⟨true, 9, true, true⟩, ⟨false, 2 ^ 64 - 1, false, false⟩] }) [] : State).bay.seen < 2 ^ 64) ∧ ((⟨true, 9, true, true⟩ : LatchEntry).second < 2 ^ 64) ∧ ((⟨false, 2 ^ 64 - 1, false, false⟩ : LatchEntry).second < 2 ^ 64) := by decide

theorem witness_TheBypassSenseAndItsLatch_12 :
    (wLatchEnd.holder.isSome = true) ∧ (wLatchEnd.latch.ring = [(⟨false, 19, true, false⟩ : LatchEntry)]) ∧ ((⟨false, 19, true, false⟩ : LatchEntry).closed = false) ∧ ((⟨false, 19, true, false⟩ : LatchEntry).read = false) ∧ (wLatchEnd.latch.closed = false) ∧ (wLatchEnd.bay.current = some (63 : Nat)) ∧ (wLatchEnd.latch.overflow = false) ∧ ((63 : Nat) < 64) ∧ ((⟨false, 19, true, false⟩ : LatchEntry).second < 2 ^ 64) := by decide

theorem witness_TheBypassSenseAndItsLatch_13 :
    ((wLatch (fun q => { q with on := true, closed := true, ring := [⟨false, 4, false, true⟩, ⟨true, 9, true, true⟩] }) [] : State).holder.isSome = true) ∧ ((wLatch (fun q => { q with on := true, closed := true, ring := [⟨false, 4, false, true⟩, ⟨true, 9, true, true⟩] }) [] : State).latch.ring.all (fun e => e.read) = true) ∧ ((wLatch (fun q => { q with on := true, closed := true, ring := [⟨false, 4, false, true⟩, ⟨true, 9, true, true⟩] }) [] : State).latch.closed = true) ∧ ((wLatch (fun q => { q with on := true, closed := true, ring := [⟨false, 4, false, true⟩, ⟨true, 9, true, true⟩] }) [] : State).bay.current = none) ∧ ((wLatch (fun q => { q with on := true, closed := true, ring := [⟨false, 4, false, true⟩, ⟨true, 9, true, true⟩] }) [] : State).latch.overflow = false) ∧ ((wLatch (fun q => { q with on := true, closed := true, ring := [⟨false, 4, false, true⟩, ⟨true, 9, true, true⟩] }) [] : State).bay.next < 64) ∧ ((wLatch (fun q => { q with on := true, closed := true, ring := [⟨false, 4, false, true⟩, ⟨true, 9, true, true⟩] }) [] : State).bay.seen < 2 ^ 64) := by decide

theorem witness_TheBypassSenseAndItsLatch_14 :
    ((wLatch (fun q => { q with on := true, ring := [⟨true, 9, true, true⟩, ⟨false, 14, false, true⟩] }) [] : State).holder.isSome = true) ∧ ((wLatch (fun q => { q with on := true, ring := [⟨true, 9, true, true⟩, ⟨false, 14, false, true⟩] }) [] : State).latch.ring.all (fun e => e.read) = true) ∧ ((wLatch (fun q => { q with on := true, ring := [⟨true, 9, true, true⟩, ⟨false, 14, false, true⟩] }) [] : State).latch.overflow = false) ∧ ((wLatch (fun q => { q with on := true, ring := [⟨true, 9, true, true⟩, ⟨false, 14, false, true⟩] }) [] : State).latch.closed = false) ∧ ((wLatch (fun q => { q with on := true, ring := [⟨true, 9, true, true⟩, ⟨false, 14, false, true⟩] }) [] : State).rd 0x4000 0 ≠ 2) := by decide

theorem witness_TheBypassSenseAndItsLatch_15 :
    ((wLatch (fun q => { q with on := true, overflow := true, ring := [⟨true, 9, true, false⟩, ⟨false, 19, false, true⟩] }) [] : State).holder.isSome = true) ∧ ((wLatch (fun q => { q with on := true, overflow := true, ring := [⟨true, 9, true, false⟩, ⟨false, 19, false, true⟩] }) [] : State).latch.overflow = true) := by decide

theorem witness_TheBypassSenseAndItsLatch_16 :
    ((wLatch (fun q => { q with on := true, closed := true, overflow := true, ring := [⟨true, 9, true, false⟩] }) [] : State).holder.isSome = true) ∧ ((wLatch (fun q => { q with on := true, closed := true, overflow := true, ring := [⟨true, 9, true, false⟩] }) [] : State).latch.overflow = true) ∧ ((wLatch (fun q => { q with on := true, closed := true, overflow := true, ring := [⟨true, 9, true, false⟩] }) [] : State).latch.ring = [(⟨true, 9, true, false⟩ : LatchEntry)]) ∧ ((⟨true, 9, true, false⟩ : LatchEntry).read = false) ∧ ((wLatch (fun q => { q with on := true, closed := true, overflow := true, ring := [⟨true, 9, true, false⟩] }) [] : State).latch.closed = (⟨true, 9, true, false⟩ : LatchEntry).closed) ∧ ((wLatch (fun q => { q with on := true, closed := true, overflow := true, ring := [⟨true, 9, true, false⟩] }) [] : State).bay.next < 64) ∧ ((wLatch (fun q => { q with on := true, closed := true, overflow := true, ring := [⟨true, 9, true, false⟩] }) [] : State).bay.current.getD 0 < 64) := by decide

theorem witness_TheBypassSenseAndItsLatch_17 :
    (((wLatch (fun q => { q with on := true }) [] : State).tick (0 : Nat)).latchRuns = true) := by decide

theorem witness_TheBypassSenseAndItsLatch_18 :
    (((wLatch (fun q => { q with on := true, closed := true, dark := some 0, second := 7, ring := [⟨false, 9, false, true⟩] }) [] : State).tick (103680000000000 : Nat)).latchRuns = false) := by decide

theorem witness_TheCartridgeMetersAndLogs_1 :
    ((wCart (fun q => { q with on := true }) [] : State).cart.on = true) := by decide

theorem witness_TheCartridgeMetersAndLogs_2 :
    ((wCart (fun q => { q with stoppedAt := 5 }) [(0x0302, 0, 0)] : State).cart.on = false) := by decide

theorem witness_TheCartridgeMetersAndLogs_3 :
    ((wCart (fun q => { q with saved := 77, valid := true }) [] : State).cart.on = false) ∧ ((wCart (fun q => { q with saved := 77, valid := true }) [] : State).cart.stoppedAt + 259200 * 400000000 ≤ (wCart (fun q => { q with saved := 77, valid := true }) [] : State).clk + (103680000000000 : Nat)) := by decide

theorem witness_TheCartridgeMetersAndLogs_4 :
    ((wCart (fun q => { q with nextLog := 9, records := [(3, [7])] }) [] : State).cart.on = false) := by decide

theorem witness_TheCartridgeMetersAndLogs_5 :
    ((wCart (fun q => { q with on := true }) [] : State).cart.on = true) := by decide

theorem witness_TheCartridgeMetersAndLogs_6 :
    ((wCart id [] : State).cart.on = false) := by decide

theorem witness_TheCartridgeMetersAndLogs_7 :
    ((wLatch (fun q => { q with on := true }) [] : State).cart.on = false) := by decide

theorem witness_TheCartridgeMetersAndLogs_8 :
    ((wCart (fun q => { q with on := true, slewed := -400000, slewDay := -1 }) [] : State).cart.on = true) ∧ ((wCart (fun q => { q with on := true, slewed := -400000, slewDay := -1 }) [] : State).cart.checked = true) ∧ ((wCart (fun q => { q with on := true, slewed := -400000, slewDay := -1 }) [] : State).cart.boundary ≤ ((wCart (fun q => { q with on := true, slewed := -400000, slewDay := -1 }) [] : State).tick (360000000000 : Nat)).cartUtc) := by decide

theorem witness_TheCartridgeMetersAndLogs_9 :
    ((wCart (fun q => { q with on := true, checked := false }) [] : State).cart.on = true) ∧ ((wCart (fun q => { q with on := true, checked := false }) [] : State).cart.checked = false) ∧ ((wCart (fun q => { q with on := true, checked := false }) [] : State).cart.boundary ≤ ((wCart (fun q => { q with on := true, checked := false }) [] : State).tick (360000000000 : Nat)).cartUtc) := by decide

theorem witness_TheCartridgeMetersAndLogs_10 :
    ((wCart (fun q => { q with on := true }) [] : State).cart.on = false ∨ ((wCart (fun q => { q with on := true }) [] : State).tick (359999999999 : Nat)).cartUtc < (wCart (fun q => { q with on := true }) [] : State).cart.boundary) := by decide

theorem witness_TheCartridgeMetersAndLogs_11 :
    ((wCart (fun q => { q with on := true, checked := false }) [] : State).cart.on = true) := by decide

theorem witness_TheCartridgeMetersAndLogs_12 :
    ((wCart (fun q => { q with on := true }) [(0x4000, 0, 1)] : State).cart.on = true) ∧ ((wCart (fun q => { q with on := true }) [(0x4000, 0, 1)] : State).cart.checked = true) := by decide

theorem witness_TheCartridgeMetersAndLogs_13 :
    ((wCart (fun q => { q with on := true, checked := false }) [] : State).cart.on = false ∨ ((wCart (fun q => { q with on := true, checked := false }) [] : State).cart.checked = false ∧ (false : Bool) = false)) := by decide

theorem witness_TheCartridgeMetersAndLogs_15 :
    ((wCart (fun q => { q with on := true }) [(0x4000, 0, 1)] : State).cart.on = true) ∧ (Tab.find? (wCart (fun q => { q with on := true }) [(0x4000, 0, 1)] : State).cart.overload (15 : Fin 16).val = none) ∧ (4000 < (4001#16 : BitVec 16).toNat) := by decide

theorem witness_TheCartridgeMetersAndLogs_16 :
    ((wCart (fun q => { q with on := true, overload := [(15, 5000)] }) [(0x4000, 0, 1)] : State).cart.on = true) ∧ (Tab.find? (wCart (fun q => { q with on := true, overload := [(15, 5000)] }) [(0x4000, 0, 1)] : State).cart.overload (15 : Fin 16).val = some (5000 : Nat)) ∧ (4000 < (4001#16 : BitVec 16).toNat) := by decide

theorem witness_TheCartridgeMetersAndLogs_17 :
    ((wCart (fun q => { q with on := true, overload := [(15, 5000)] }) [(0x4000, 0, 1)] : State).cart.on = true) ∧ (Tab.find? (wCart (fun q => { q with on := true, overload := [(15, 5000)] }) [(0x4000, 0, 1)] : State).cart.overload (15 : Fin 16).val = some (5000 : Nat)) ∧ ((4000#16 : BitVec 16).toNat ≤ 4000) := by decide

theorem witness_TheCartridgeMetersAndLogs_18 :
    ((wCart (fun q => { q with on := true }) [] : State).cart.on = false ∨ ((wCart (fun q => { q with on := true }) [] : State).linkUp? = false ∧ Tab.find? (wCart (fun q => { q with on := true }) [] : State).cart.overload (0 : Fin 16).val = none ∧ (4000#16 : BitVec 16).toNat ≤ 4000)) := by decide

theorem witness_TheCartridgeMetersAndLogs_19 :
    ((wCart (fun q => { q with on := true }) [(0x4000, 0, 1)] : State).cart.on = true) ∧ ((3999#16 : BitVec 16).toNat < 4000 ∨ 6000 < (3999#16 : BitVec 16).toNat) := by decide

theorem witness_TheCartridgeMetersAndLogs_20 :
    ((wUp [] : State).cart.on = false ∨ (4000 ≤ (6000#16 : BitVec 16).toNat ∧ (6000#16 : BitVec 16).toNat ≤ 6000)) := by decide

theorem witness_TheCartridgeMetersAndLogs_21 :
    ((wCart (fun q => { q with on := true }) [(0x4017, 5, 7 * 2 ^ 272)] : State).holder.isSome = true) ∧ ((wCart (fun q => { q with on := true }) [(0x4017, 5, 7 * 2 ^ 272)] : State).stageAtLeast 1 = true) ∧ ((wCart (fun q => { q with on := true }) [(0x4017, 5, 7 * 2 ^ 272)] : State).cart.on = true) ∧ ((wCart (fun q => { q with on := true }) [(0x4017, 5, 7 * 2 ^ 272)] : State).latch.closed = false) ∧ ((wCart (fun q => { q with on := true }) [(0x4017, 5, 7 * 2 ^ 272)] : State).rd 0x4000 0 ≠ 1) := by decide +kernel

theorem witness_TheCartridgeMetersAndLogs_22 :
    (wSwappedCart.holder.isSome = true) ∧ (wSwappedCart.stageAtLeast 1 = true) ∧ (wSwappedCart.cart.on = true) ∧ (wSwappedCart.latch.closed = false) ∧ (wSwappedCart.rd 0x4000 0 ≠ 1) ∧ (wSwappedCart.bay.seen ≠ 0) ∧ (cartIdentifier wSwappedCart.cart.identity ≠ wSwappedCart.bay.seen) := by decide +kernel

theorem witness_TheCartridgeMetersAndLogs_23 :
    ((wUp [] : State).holder = none ∨ (wUp [] : State).stageAtLeast 1 = false ∨ (wUp [] : State).cart.on = false ∨ (wUp [] : State).latch.closed = true ∨ (wUp [] : State).rd 0x4000 0 = 1) := by decide

theorem witness_TheCartridgeMetersAndLogs_24 :
    ((wUp [(0x4000, 0, 1)] : State).rd 0x4000 0 = 1) ∧ ((wUp [(0x4000, 0, 1)] : State).latch.closed = false) := by decide

theorem witness_TheCartridgeMetersAndLogs_25 :
    ((wUp [] : State).rd 0x4000 0 ≠ 1 ∨ (wUp [] : State).latch.closed = true) := by decide

theorem witness_TheCartridgeMetersAndLogs_26 :
    ((wCart (fun q => { q with records := [(15, [2 ^ 352 - 1, 7])] }) [(0x4000, 0, 1), (0x401F, 0, 1)] : State).linkUp? = true) ∧ ((1 : Fin 3) ≠ 2) ∧ ((Tab.get [] (wCart (fun q => { q with records := [(15, [2 ^ 352 - 1, 7])] }) [(0x4000, 0, 1), (0x401F, 0, 1)] : State).cart.records (15 : Fin 16).val).find? (fun z_r => decide (Tab.get 0 (wCart (fun q => { q with records := [(15, [2 ^ 352 - 1, 7])] }) [(0x4000, 0, 1), (0x401F, 0, 1)] : State).bay.fetched (15 : Fin 16).val ≤ recordSeq z_r)) = some (2 ^ 352 - 1 : Nat)) := by decide

theorem witness_TheCartridgeMetersAndLogs_27 :
    ((wUp [(0x4000, 0, 1)] : State).linkUp? = true) := by decide

theorem witness_TheCartridgeMetersAndLogs_28 :
    ((wUp [(0x4000, 0, 1)] : State).linkUp? = false ∨ ((0 : Fin 3) ≠ 2 ∧ (Tab.get [] (wUp [(0x4000, 0, 1)] : State).cart.records (0 : Fin 16).val).find? (fun z_r => decide (Tab.get 0 (wUp [(0x4000, 0, 1)] : State).bay.fetched (0 : Fin 16).val ≤ recordSeq z_r)) = none)) := by decide

theorem witness_TheCartridgeMetersAndLogs_29 :
    ((wUp [(0x4003, 0, 5), (0x3002, 0, 1)] : State).holder.isSome = true) ∧ ((wUp [(0x4003, 0, 5), (0x3002, 0, 1)] : State).rd 0x4003 0 ≠ 0) ∧ ((wUp [(0x4003, 0, 5), (0x3002, 0, 1)] : State).dtValid = true) ∧ (¬ Faulted (wUp [(0x4003, 0, 5), (0x3002, 0, 1)] : State) 247) ∧ ((((wUp [(0x4003, 0, 5), (0x3002, 0, 1)] : State).rd 0x4003 0 / 2 ^ 48 : Nat) : Int) ≤ ((wUp [(0x4003, 0, 5), (0x3002, 0, 1)] : State).tick (0 : Nat)).utcSeconds) := by decide

theorem witness_TheCartridgeMetersAndLogs_30 :
    ((wUp [(0x4003, 0, 5 * 2 ^ 48), (0x3002, 0, 1)] : State).holder.isSome = true) ∧ ((wUp [(0x4003, 0, 5 * 2 ^ 48), (0x3002, 0, 1)] : State).rd 0x4003 0 ≠ 0) ∧ ((wUp [(0x4003, 0, 5 * 2 ^ 48), (0x3002, 0, 1)] : State).dtValid = true) ∧ (¬ Faulted (wUp [(0x4003, 0, 5 * 2 ^ 48), (0x3002, 0, 1)] : State) 246) ∧ (((wUp [(0x4003, 0, 5 * 2 ^ 48), (0x3002, 0, 1)] : State).tick (0 : Nat)).utcSeconds < (((wUp [(0x4003, 0, 5 * 2 ^ 48), (0x3002, 0, 1)] : State).rd 0x4003 0 / 2 ^ 48 : Nat) : Int)) ∧ ((((wUp [(0x4003, 0, 5 * 2 ^ 48), (0x3002, 0, 1)] : State).rd 0x4003 0 / 2 ^ 48 : Nat) : Int) ≤ ((wUp [(0x4003, 0, 5 * 2 ^ 48), (0x3002, 0, 1)] : State).tick (0 : Nat)).utcSeconds + (wUp [(0x4003, 0, 5 * 2 ^ 48), (0x3002, 0, 1)] : State).rd 0x401E 0 * 86400) := by decide

theorem witness_TheCartridgeMetersAndLogs_31 :
    ((wUp [] : State).holder = none ∨ (wUp [] : State).rd 0x4003 0 = 0 ∨ (wUp [] : State).dtValid = false ∨ ((wUp [] : State).tick (0 : Nat)).utcSeconds + (wUp [] : State).rd 0x401E 0 * 86400 < (((wUp [] : State).rd 0x4003 0 / 2 ^ 48 : Nat) : Int) ∨ (Faulted (wUp [] : State) 247 ∧ (((wUp [] : State).rd 0x4003 0 / 2 ^ 48 : Nat) : Int) ≤ ((wUp [] : State).tick (0 : Nat)).utcSeconds) ∨ (Faulted (wUp [] : State) 246 ∧ ((wUp [] : State).tick (0 : Nat)).utcSeconds < (((wUp [] : State).rd 0x4003 0 / 2 ^ 48 : Nat) : Int))) := by decide

theorem witness_TheCartridgeIsDisciplinedAndRead_1 :
    ((wUp [] : State).linkUp? = false ∨ (wUp [] : State).rd 0x400B 0 = 0 ∨ ((wUp [] : State).tick (0 : Nat)).disciplineTime = false ∨ (wUp [] : State).clk + (0 : Nat) < (wUp [] : State).bay.sentAt + (wUp [] : State).rd 0x400C 0 * 400000000) := by decide

theorem witness_TheCartridgeIsDisciplinedAndRead_2 :
    (MessageDue (wDisc (fun q => { q with heard := some 1 }) : State) (24000000000 : Nat)) := by decide

theorem witness_TheCartridgeIsDisciplinedAndRead_3 :
    (TakesMessage (wDisc (fun q => q) : State) (24000000000 : Nat)) ∧ ((wDisc (fun q => q) : State).cart.valid = true) ∧ ((-1523 : Int) = messageDiff (wDisc (fun q => q) : State) (24000000000 : Nat) (4#32 : BitVec 32)) ∧ ((-1523 : Int).natAbs ≤ 5 * 400000000) ∧ ((0 : Int) = floorDiv (floorDiv (((wDisc (fun q => q) : State).tick (24000000000 : Nat)).cartTai + clockGain (wDisc (fun q => q) : State) (24000000000 : Nat) (4#32 : BitVec 32)) 400000000 - (wDisc (fun q => q) : State).cart.utcOff) 86400) ∧ ((0 : Int) = (if (wDisc (fun q => q) : State).cart.slewDay = (0 : Int) then (wDisc (fun q => q) : State).cart.slewed else 0)) ∧ ((-1523 : Int) = max (-(min (wDisc (fun q => q) : State).slewStep (max ((400000000 : Int) - (0 : Int).natAbs) 0))) (min (-1523 : Int) (min (wDisc (fun q => q) : State).slewStep (max ((400000000 : Int) - (0 : Int).natAbs) 0)))) := by decide

theorem witness_TheCartridgeIsDisciplinedAndRead_4 :
    (TakesMessage (wDisc (fun q => { q with tai := -3000000000 }) : State) (24000000000 : Nat)) ∧ ((wDisc (fun q => { q with tai := -3000000000 }) : State).cart.valid = true) ∧ ((3000000077 : Int) = messageDiff (wDisc (fun q => { q with tai := -3000000000 }) : State) (24000000000 : Nat) (0#32 : BitVec 32)) ∧ (5 * 400000000 < (3000000077 : Int).natAbs) ∧ (StepGranted (wDisc (fun q => { q with tai := -3000000000 }) : State) (24000000000 : Nat) (3000000077 : Int) = false) := by decide

theorem witness_TheCartridgeIsDisciplinedAndRead_5 :
    (TakesMessage (wDisc (fun q => { q with tai := -3000000000, auth := some 9, refused := some (3000000077, 4) }) : State) (24000000000 : Nat)) ∧ ((wDisc (fun q => { q with tai := -3000000000, auth := some 9, refused := some (3000000077, 4) }) : State).cart.valid = true) ∧ ((3000000077 : Int) = messageDiff (wDisc (fun q => { q with tai := -3000000000, auth := some 9, refused := some (3000000077, 4) }) : State) (24000000000 : Nat) (0#32 : BitVec 32)) ∧ (5 * 400000000 < (3000000077 : Int).natAbs) ∧ (StepGranted (wDisc (fun q => { q with tai := -3000000000, auth := some 9, refused := some (3000000077, 4) }) : State) (24000000000 : Nat) (3000000077 : Int) = true) ∧ ((60 : Int) = floorDiv (((wDisc (fun q => { q with tai := -3000000000, auth := some 9, refused := some (3000000077, 4) }) : State).tick (24000000000 : Nat)).cartTai + clockGain (wDisc (fun q => { q with tai := -3000000000, auth := some 9, refused := some (3000000077, 4) }) : State) (24000000000 : Nat) (0#32 : BitVec 32) + (3000000077 : Int)) 400000000 - (wDisc (fun q => { q with tai := -3000000000, auth := some 9, refused := some (3000000077, 4) }) : State).cart.utcOff) := by decide

theorem witness_TheCartridgeIsDisciplinedAndRead_6 :
    (MessageDue (wDisc (fun q => { q with valid := false, tai := -3000000000 }) : State) (24000000000 : Nat)) ∧ ((wDisc (fun q => { q with valid := false, tai := -3000000000 }) : State).cart.on = true) ∧ ((wDisc (fun q => { q with valid := false, tai := -3000000000 }) : State).cart.heard.all (fun a => decide (a + 60 * 400000000 ≤ (wDisc (fun q => { q with valid := false, tai := -3000000000 }) : State).clk + (24000000000 : Nat))) = true) ∧ ((wDisc (fun q => { q with valid := false, tai := -3000000000 }) : State).cart.valid = false) ∧ ((3000000077 : Int) = messageDiff (wDisc (fun q => { q with valid := false, tai := -3000000000 }) : State) (24000000000 : Nat) (0#32 : BitVec 32)) := by decide

theorem witness_TheCartridgeIsDisciplinedAndRead_7 :
    (MessageDue (wDisc (fun q => { q with announced := 2, utcOff := q.utcOff - 1 }) : State) (24000000000 : Nat)) ∧ ((wDisc (fun q => { q with announced := 2, utcOff := q.utcOff - 1 }) : State).cart.on = true) ∧ ((wDisc (fun q => { q with announced := 2, utcOff := q.utcOff - 1 }) : State).cart.heard.all (fun a => decide (a + 60 * 400000000 ≤ (wDisc (fun q => { q with announced := 2, utcOff := q.utcOff - 1 }) : State).clk + (24000000000 : Nat))) = true) ∧ ((wDisc (fun q => { q with announced := 2, utcOff := q.utcOff - 1 }) : State).cart.valid = true) ∧ ((signed 16 ((wDisc (fun q => { q with announced := 2, utcOff := q.utcOff - 1 }) : State).rd 0x3009 0) - (wDisc (fun q => { q with announced := 2, utcOff := q.utcOff - 1 }) : State).cart.utcOff).natAbs = 1) ∧ (2 ≤ (wDisc (fun q => { q with announced := 2, utcOff := q.utcOff - 1 }) : State).cart.announced) ∧ ((floorDiv (((wDisc (fun q => { q with announced := 2, utcOff := q.utcOff - 1 }) : State).tick (24000000000 : Nat)).cartTai + clockGain (wDisc (fun q => { q with announced := 2, utcOff := q.utcOff - 1 }) : State) (24000000000 : Nat) (0#32 : BitVec 32)) 400000000 - (wDisc (fun q => { q with announced := 2, utcOff := q.utcOff - 1 }) : State).cart.utcOff) % 86400 < 3600) := by decide

theorem witness_TheCartridgeIsDisciplinedAndRead_8 :
    ((wCart (fun q => { q with auth := some 0 }) [] : State).cart.auth = some (0 : Nat)) ∧ ((0 : Nat) + 600 * 400000000 ≤ (wCart (fun q => { q with auth := some 0 }) [] : State).clk + (240000000000 : Nat)) := by decide

theorem witness_TheCartridgeIsDisciplinedAndRead_9 :
    ((wCart (fun q => { q with auth := some 0 }) [] : State).cart.auth.all (fun a => decide ((wCart (fun q => { q with auth := some 0 }) [] : State).clk + (239999999999 : Nat) < a + 600 * 400000000)) = true) := by decide

theorem witness_TheCartridgeIsDisciplinedAndRead_10 :
    (Ready (wInspect (fun q => { q with refused := some (5, 4) }) : State) (wReq 15 [0, 0, 0] : Req) roleInspector) ∧ (FullService (wInspect (fun q => { q with refused := some (5, 4) }) : State)) ∧ ((wReq 15 [0, 0, 0] : Req).inst.toNat ≤ 16) ∧ ((wReq 15 [0, 0, 0] : Req).data = [0, 0, 0]) ∧ ((wInspect (fun q => { q with refused := some (5, 4) }) : State).rd 0x4000 0 = 1) ∧ (((wInspect (fun q => { q with refused := some (5, 4) }) : State).tick (0 : Nat)).disciplineState = 3) := by decide

theorem witness_TheCartridgeIsDisciplinedAndRead_11 :
    (Ready (wUp [] : State) (wReq 16 [0, 0, 0] : Req) (0 : Nat)) ∧ (FullService (wUp [] : State)) ∧ ((wReq 16 [0, 0, 0] : Req).inst.toNat = 16) ∧ ((0 : Nat) ≠ roleInspector) ∧ ((wReq 16 [0, 0, 0] : Req).data = [0, 0, 0]) := by decide

theorem witness_TheCartridgeIsDisciplinedAndRead_12 :
    (Ready (wInspect id : State) (wReq 16 [0, 0, 0] : Req) roleInspector) ∧ (FullService (wInspect id : State)) ∧ ((wReq 16 [0, 0, 0] : Req).inst.toNat ≤ 16) ∧ ((wReq 16 [0, 0, 0] : Req).data = [0, 0, 0]) ∧ ((wInspect id : State).rd 0x4000 0 = 1) ∧ (((wInspect id : State).tick (0 : Nat)).disciplineState ≠ 3) := by decide

theorem witness_TheCartridgeIsDisciplinedAndRead_13 :
    (Ready (wSess { wOpen with role := roleInspector } [] : State) (wReq 16 [0, 0, 0] : Req) roleInspector) ∧ (FullService (wSess { wOpen with role := roleInspector } [] : State)) ∧ ((wReq 16 [0, 0, 0] : Req).inst.toNat ≤ 16) ∧ ((wReq 16 [0, 0, 0] : Req).data = [0, 0, 0]) ∧ ((wSess { wOpen with role := roleInspector } [] : State).rd 0x4000 0 ≠ 1) := by decide

theorem witness_TheCartridgeIsDisciplinedAndRead_14 :
    (Ready (wInspect id : State) (wReq 15 [0, 0, 0] : Req) (2 : Nat)) ∧ (FullService (wInspect id : State)) ∧ ((wReq 15 [0, 0, 0] : Req).inst.toNat = 16 ∨ ((wInspect id : State).meterChannels (2 : Nat)).contains (wReq 15 [0, 0, 0] : Req).inst.toNat = true) ∧ ((wReq 15 [0, 0, 0] : Req).data = [0, 0, 0]) ∧ ((wInspect id : State).rd 0x4000 0 = 1) := by decide

theorem witness_TheCartridgeIsDisciplinedAndRead_15 :
    (Ready (wTenant (fun q => { q with records := [(14, [9]), (15, [2 ^ 300, 2 ^ 352 - 1])] }) : State) (wReq 16 (toBytes 11 9 ++ toBytes 8 (2 ^ 64 - 1)) : Req) (31 : Nat)) ∧ (FullService (wTenant (fun q => { q with records := [(14, [9]), (15, [2 ^ 300, 2 ^ 352 - 1])] }) : State)) ∧ ((wReq 16 (toBytes 11 9 ++ toBytes 8 (2 ^ 64 - 1)) : Req).inst.toNat = 16 ∨ ((wTenant (fun q => { q with records := [(14, [9]), (15, [2 ^ 300, 2 ^ 352 - 1])] }) : State).meterChannels (31 : Nat)).contains (wReq 16 (toBytes 11 9 ++ toBytes 8 (2 ^ 64 - 1)) : Req).inst.toNat = true) ∧ ((wReq 16 (toBytes 11 9 ++ toBytes 8 (2 ^ 64 - 1)) : Req).data.length = 19) ∧ (getBE (wReq 16 (toBytes 11 9 ++ toBytes 8 (2 ^ 64 - 1)) : Req).data 0 3 = 0) ∧ ((wTenant (fun q => { q with records := [(14, [9]), (15, [2 ^ 300, 2 ^ 352 - 1])] }) : State).rd 0x4000 0 = 1) ∧ (([2 ^ 352 - 1] : List Nat) = (if (wReq 16 (toBytes 11 9 ++ toBytes 8 (2 ^ 64 - 1)) : Req).inst.toNat = 16 then (wTenant (fun q => { q with records := [(14, [9]), (15, [2 ^ 300, 2 ^ 352 - 1])] }) : State).meterChannels (31 : Nat) else [(wReq 16 (toBytes 11 9 ++ toBytes 8 (2 ^ 64 - 1)) : Req).inst.toNat]).flatMap (fun c => (wTenant (fun q => { q with records := [(14, [9]), (15, [2 ^ 300, 2 ^ 352 - 1])] }) : State).cart.byStart c (getBE (wReq 16 (toBytes 11 9 ++ toBytes 8 (2 ^ 64 - 1)) : Req).data 3 8) (getBE (wReq 16 (toBytes 11 9 ++ toBytes 8 (2 ^ 64 - 1)) : Req).data 11 8))) ∧ (([2 ^ 352 - 1] : List Nat).length ≤ 9600) := by decide +kernel

theorem witness_TheCartridgeIsDisciplinedAndRead_16 :
    (Ready (wTenant (fun q => { q with records := [(14, [9]), (15, [5, 2 ^ 300])] }) : State) (wReq 15 (toBytes 7 0 ++ toBytes 4 1) : Req) (31 : Nat)) ∧ (FullService (wTenant (fun q => { q with records := [(14, [9]), (15, [5, 2 ^ 300])] }) : State)) ∧ ((wReq 15 (toBytes 7 0 ++ toBytes 4 1) : Req).inst.toNat = 16 ∨ ((wTenant (fun q => { q with records := [(14, [9]), (15, [5, 2 ^ 300])] }) : State).meterChannels (31 : Nat)).contains (wReq 15 (toBytes 7 0 ++ toBytes 4 1) : Req).inst.toNat = true) ∧ ((wReq 15 (toBytes 7 0 ++ toBytes 4 1) : Req).data.length = 11) ∧ (getBE (wReq 15 (toBytes 7 0 ++ toBytes 4 1) : Req).data 0 3 = 0) ∧ ((wTenant (fun q => { q with records := [(14, [9]), (15, [5, 2 ^ 300])] }) : State).rd 0x4000 0 = 1) ∧ (([5, 2 ^ 300] : List Nat) = (if (wReq 15 (toBytes 7 0 ++ toBytes 4 1) : Req).inst.toNat = 16 then (wTenant (fun q => { q with records := [(14, [9]), (15, [5, 2 ^ 300])] }) : State).meterChannels (31 : Nat) else [(wReq 15 (toBytes 7 0 ++ toBytes 4 1) : Req).inst.toNat]).flatMap (fun c => (wTenant (fun q => { q with records := [(14, [9]), (15, [5, 2 ^ 300])] }) : State).cart.bySeq c (getBE (wReq 15 (toBytes 7 0 ++ toBytes 4 1) : Req).data 3 4) (getBE (wReq 15 (toBytes 7 0 ++ toBytes 4 1) : Req).data 7 4))) ∧ (([5, 2 ^ 300] : List Nat).length ≤ 9600) := by decide +kernel

theorem witness_TheCartridgeIsDisciplinedAndRead_19 :
    (Ready (wUp [] : State) (wReq 16 [0, 0, 0] : Req) (0 : Nat)) ∧ (FullService (wUp [] : State)) ∧ ((wReq 16 [0, 0, 0] : Req).inst.toNat = 16) ∧ ((wReq 16 [0, 0, 0] : Req).data.length ≤ 65535) ∧ (((wReq 16 [0, 0, 0] : Req).data.length ≠ 19 ∨ getBE (wReq 16 [0, 0, 0] : Req).data 0 3 ≠ 0)) := by decide

theorem witness_TheCartridgeIsDisciplinedAndRead_20 :
    (Ready (wUp [] : State) (wReq 16 [1, 0, 0, 0, 0, 0, 0, 0, 0, 0, 0] : Req) (0 : Nat)) ∧ (FullService (wUp [] : State)) ∧ ((wReq 16 [1, 0, 0, 0, 0, 0, 0, 0, 0, 0, 0] : Req).inst.toNat = 16) ∧ ((wReq 16 [1, 0, 0, 0, 0, 0, 0, 0, 0, 0, 0] : Req).data.length ≤ 65535) ∧ (((wReq 16 [1, 0, 0, 0, 0, 0, 0, 0, 0, 0, 0] : Req).data.length ≠ 11 ∨ getBE (wReq 16 [1, 0, 0, 0, 0, 0, 0, 0, 0, 0, 0] : Req).data 0 3 ≠ 0)) := by decide

theorem witness_TheCartridgeIsDisciplinedAndRead_21 :
    (Ready (wTenant id : State) (wReq 14 [] : Req) (31 : Nat)) ∧ (FullService (wTenant id : State)) ∧ ((wReq 14 [] : Req).inst.toNat < 16) ∧ (((wTenant id : State).meterChannels (31 : Nat)).contains (wReq 14 [] : Req).inst.toNat = false) ∧ ((wReq 14 [] : Req).data.length ≤ 65535) := by decide

theorem witness_TheCartridgeIsDisciplinedAndRead_22 :
    (Ready (wTenant id : State) (wReq 0 [] : Req) (31 : Nat)) ∧ (FullService (wTenant id : State)) ∧ ((wReq 0 [] : Req).inst.toNat < 16) ∧ (((wTenant id : State).meterChannels (31 : Nat)).contains (wReq 0 [] : Req).inst.toNat = false) ∧ ((wReq 0 [] : Req).data.length ≤ 65535) := by decide

theorem witness_TheCartridgeIsDisciplinedAndRead_23 :
    (Ready (wUp [] : State) (wReq 16 [0, 0, 0] : Req) (0 : Nat)) ∧ (FullService (wUp [] : State)) ∧ ((wReq 16 [0, 0, 0] : Req).inst.toNat = 16) ∧ ((wReq 16 [0, 0, 0] : Req).data = [0, 0, 0]) ∧ ((wUp [] : State).rd 0x4000 0 ≠ 1) := by decide

theorem witness_TheCartridgeIsDisciplinedAndRead_24 :
    (Ready (wUp [] : State) (wReq 16 (toBytes 19 0) : Req) (0 : Nat)) ∧ (FullService (wUp [] : State)) ∧ ((wReq 16 (toBytes 19 0) : Req).inst.toNat = 16) ∧ ((wReq 16 (toBytes 19 0) : Req).data.length = 19) ∧ (getBE (wReq 16 (toBytes 19 0) : Req).data 0 3 = 0) ∧ ((wUp [] : State).rd 0x4000 0 ≠ 1) := by decide

theorem witness_TheCartridgeIsDisciplinedAndRead_25 :
    (Ready (wUp [] : State) (wReq 16 (toBytes 11 0) : Req) (0 : Nat)) ∧ (FullService (wUp [] : State)) ∧ ((wReq 16 (toBytes 11 0) : Req).inst.toNat = 16) ∧ ((wReq 16 (toBytes 11 0) : Req).data.length = 11) ∧ (getBE (wReq 16 (toBytes 11 0) : Req).data 0 3 = 0) ∧ ((wUp [] : State).rd 0x4000 0 ≠ 1) := by decide

theorem witness_TheCartridgeIsDisciplinedAndRead_26 :
    (Ready (wTenant (fun q => { q with log := [⟨1, 9, 1, 0xFF, 0⟩, ⟨2, 10, 11, 15, 0⟩, ⟨3, 10, 11, 14, 0⟩] }) : State) (wReq 0 [0, 0, 0, 0, 4, 0, 0, 0] : Req) (31 : Nat)) ∧ (FullService (wTenant (fun q => { q with log := [⟨1, 9, 1, 0xFF, 0⟩, ⟨2, 10, 11, 15, 0⟩, ⟨3, 10, 11, 14, 0⟩] }) : State)) ∧ ((wReq 0 [0, 0, 0, 0, 4, 0, 0, 0] : Req).inst = 0) ∧ ((wReq 0 [0, 0, 0, 0, 4, 0, 0, 0] : Req).data.length = 8) ∧ (1 ≤ getBE (wReq 0 [0, 0, 0, 0, 4, 0, 0, 0] : Req).data 4 2) ∧ (getBE (wReq 0 [0, 0, 0, 0, 4, 0, 0, 0] : Req).data 4 2 ≤ 1024) ∧ (getBE (wReq 0 [0, 0, 0, 0, 4, 0, 0, 0] : Req).data 6 2 = 0) ∧ ((wTenant (fun q => { q with log := [⟨1, 9, 1, 0xFF, 0⟩, ⟨2, 10, 11, 15, 0⟩, ⟨3, 10, 11, 14, 0⟩] }) : State).rd 0x4000 0 = 1) ∧ ((1 : Nat) = (if getBE (wReq 0 [0, 0, 0, 0, 4, 0, 0, 0] : Req).data 0 4 = 0 then ((wTenant (fun q => { q with log := [⟨1, 9, 1, 0xFF, 0⟩, ⟨2, 10, 11, 15, 0⟩, ⟨3, 10, 11, 14, 0⟩] }) : State).cart.log.head?.map LogEntry.seq).getD 0 else getBE (wReq 0 [0, 0, 0, 0, 4, 0, 0, 0] : Req).data 0 4)) := by decide +kernel

theorem witness_TheCartridgeIsDisciplinedAndRead_27 :
    (Ready (wUp [] : State) (wReq 0 [0, 0, 0, 1, 0, 0, 0, 0] : Req) (0 : Nat)) ∧ (FullService (wUp [] : State)) ∧ ((wReq 0 [0, 0, 0, 1, 0, 0, 0, 0] : Req).inst = 0) ∧ ((wReq 0 [0, 0, 0, 1, 0, 0, 0, 0] : Req).data.length ≤ 65536) ∧ ((wReq 0 [0, 0, 0, 1, 0, 0, 0, 0] : Req).data.length ≠ 8 ∨ getBE (wReq 0 [0, 0, 0, 1, 0, 0, 0, 0] : Req).data 4 2 = 0 ∨ 1024 < getBE (wReq 0 [0, 0, 0, 1, 0, 0, 0, 0] : Req).data 4 2 ∨ getBE (wReq 0 [0, 0, 0, 1, 0, 0, 0, 0] : Req).data 6 2 ≠ 0) := by decide

theorem witness_TheCartridgeIsDisciplinedAndRead_28 :
    (Ready (wUp [] : State) (wReq 0 [0, 0, 0, 1, 0, 1, 0, 0] : Req) (0 : Nat)) ∧ (FullService (wUp [] : State)) ∧ ((wReq 0 [0, 0, 0, 1, 0, 1, 0, 0] : Req).inst = 0) ∧ ((wReq 0 [0, 0, 0, 1, 0, 1, 0, 0] : Req).data.length = 8) ∧ (1 ≤ getBE (wReq 0 [0, 0, 0, 1, 0, 1, 0, 0] : Req).data 4 2) ∧ (getBE (wReq 0 [0, 0, 0, 1, 0, 1, 0, 0] : Req).data 4 2 ≤ 1024) ∧ (getBE (wReq 0 [0, 0, 0, 1, 0, 1, 0, 0] : Req).data 6 2 = 0) ∧ ((wUp [] : State).rd 0x4000 0 ≠ 1) := by decide

theorem witness_TheCartridgeIsDisciplinedAndRead_29 :
    ((wCart (fun q => { q with on := true }) [] : State).cart.on = true) := by decide

theorem witness_TheCartridgeIsDisciplinedAndRead_30 :
    ((wCart (fun q => { q with on := true, regs := [(3, 7)] }) [] : State).cart.on = true) := by decide

theorem witness_TheCartridgeIsDisciplinedAndRead_31 :
    ((wCart (fun q => { q with on := true, records := [(15, [7])] }) [] : State).cart.on = true) := by decide

theorem witness_TheCartridgeIsDisciplinedAndRead_32 :
    ((wCart (fun q => { q with on := true, log := [⟨5, 9, 1, 0xFF, 0⟩] }) [] : State).cart.on = true) := by decide

theorem witness_TheCartridgeIsDisciplinedAndRead_33 :
    ((wUp [] : State).cart.on = false) := by decide

theorem witness_StepRunsTheFrontCommand_1 :
    (({ State.reset with pending := [.fence 5 (wReq 0 [])] } : State).pending = (.fence 5 (wReq 0 []) : Instr) :: ([] : List Instr)) := by decide

theorem witness_StepRunsTheFrontCommand_2 :
    ((State.reset : State).pending = []) := by decide

theorem witness_RawTimeStaysA72BitCount_1 :
    (({ State.reset with rc := 2 ^ 72 - 1 } : State).rc < 2 ^ 72) := by decide

theorem witness_WaitingCommandsRunInTheirOrder_1 :
    (({ State.reset with pending := [.fence 5 (wReq 0 []), .ping 6 (wReq 0 [])] } : State).pending = ([.fence 5 (wReq 0 [])] : List Instr) ++ ([.ping 6 (wReq 0 [])] : List Instr)) := by decide

theorem witness_ParametersReadBackWhatIsWritten_1 :
    ((2 ^ 32 - 1 : Nat) < 2 ^ 32) ∧ ((2 ^ 32 - 1 : Nat) < 2 ^ 32) := by decide

theorem witness_ParametersReadBackWhatIsWritten_2 :
    ((2 ^ 32 - 1 : Nat) < 2 ^ 32) ∧ (regsWf (wUp [] : State).regs = true) := by decide

theorem witness_ParametersReadBackWhatIsWritten_3 :
    (regsWf (wUp [] : State).regs = true) ∧ (Catalogue.row? (0x0803 : Nat) = some (wRow 0x0803 : Row)) ∧ ((wRow 0x0803 : Row).sel.has (143 : Nat) = true) := by decide

theorem witness_CountersWrapAtTheirWidth_1 :
    (isCounter (0x3006 : Nat) = true) ∧ ((0x3006 : Nat) ≠ 0x2408) := by decide

theorem witness_CountersWrapAtTheirWidth_2 :
    (isCounter (0x3006 : Nat) = true) ∧ ((0 : Nat) < 2 ^ 32) := by decide

theorem witness_CountersWrapAtTheirWidth_3 :
    (isCounter (0x3006 : Nat) = true) ∧ ((0 : Nat) < 2 ^ 32) ∧ ((wUp [(0x3006, 0, 2 ^ 32 - 1)] : State).rd (0x3006 : Nat) (0 : Nat) < 2 ^ Catalogue.width (0x3006 : Nat)) := by decide

theorem witness_FaultEntriesCountTheirOccurrences_1 :
    (((wUp [] : State).entryAt (255 : Nat)).set = false) := by decide

theorem witness_FaultEntriesCountTheirOccurrences_2 :
    (((wFault 255 [] : State).entryAt (255 : Nat)).set = true) := by decide

theorem witness_FaultEntriesCountTheirOccurrences_3 :
    (((wUp [] : State).entryAt (0 : Nat)).set = false) := by decide

theorem witness_FaultEntriesCountTheirOccurrences_4 :
    ((255 : Nat) < 256) ∧ (({ wEnt with count := 2 ^ 32 - 1, inst := 2 ^ 32 - 1, dt := 2 ^ 112 - 1 } : FaultEntry).count < 2 ^ 32) ∧ (({ wEnt with count := 2 ^ 32 - 1, inst := 2 ^ 32 - 1, dt := 2 ^ 112 - 1 } : FaultEntry).inst < 2 ^ 32) ∧ (({ wEnt with count := 2 ^ 32 - 1, inst := 2 ^ 32 - 1, dt := 2 ^ 112 - 1 } : FaultEntry).dt < 2 ^ 112) := by decide

theorem witness_FaultEntriesCountTheirOccurrences_5 :
    ((255 : Nat) < 256) := by decide

theorem witness_DeviceTimeIsComputedFromRC_3 :
    ((⟨2 ^ 72 - 1, 0, -(2 ^ 47)⟩ : Triple).rho.natAbs ≤ 2 ^ 47) := by decide

theorem witness_TripleRecordsAreReadAtTheirPlaces_1 :
    (Ready (wRunning (wUp []) : State) (wReq 0 [] : Req) roleSite) ∧ (FullService (wRunning (wUp []) : State)) ∧ ((wReq 0 [] : Req).inst = 0) ∧ ((wReq 0 [] : Req).data = []) := by decide

theorem witness_TripleRecordsAreReadAtTheirPlaces_2 :
    (Ready wPending (wReq 0 [] : Req) roleSite) ∧ (FullService wPending) ∧ ((wReq 0 [] : Req).inst = 0) ∧ ((wReq 0 [] : Req).data = []) ∧ (wPending.time.next = some ((⟨5, 77, -3⟩ : Triple), (9 : Nat))) := by decide

theorem witness_TripleRecordsAreReadAtTheirPlaces_3 :
    (Ready (wRunning (wUp []) : State) (wReq 0 [] : Req) roleSite) ∧ (FullService (wRunning (wUp []) : State)) ∧ ((wReq 0 [] : Req).inst = 0) ∧ ((wReq 0 [] : Req).data = []) ∧ ((wRunning (wUp []) : State).time.next = none) := by decide

theorem witness_TripleRecordsAreReadAtTheirPlaces_4 :
    ((⟨2 ^ 72 - 1, 2 ^ 64 * 1000000000 * 65536 - 1, -(2 ^ 47)⟩ : Triple).baseRC < 2 ^ 72) ∧ (0 ≤ (⟨2 ^ 72 - 1, 2 ^ 64 * 1000000000 * 65536 - 1, -(2 ^ 47)⟩ : Triple).baseDT) ∧ ((⟨2 ^ 72 - 1, 2 ^ 64 * 1000000000 * 65536 - 1, -(2 ^ 47)⟩ : Triple).baseDT < 2 ^ 64 * 1000000000 * 65536) ∧ ((⟨2 ^ 72 - 1, 2 ^ 64 * 1000000000 * 65536 - 1, -(2 ^ 47)⟩ : Triple).rho.natAbs ≤ 2 ^ 47) := by decide

theorem witness_DeviceTimeCodesReadBack_1 :
    (0 ≤ (0 : Int)) := by decide

theorem witness_DeviceTimeCodesReadBack_2 :
    (0 ≤ (2 ^ 64 * 1000000000 * 65536 - 1 : Int)) ∧ ((2 ^ 64 * 1000000000 * 65536 - 1 : Int) < 2 ^ 64 * 1000000000 * 65536) := by decide

theorem witness_DeviceTimeCodesReadBack_3 :
    ((2 ^ 112 - 1 - 3294967296 * 2 ^ 16 : Nat) / 2 ^ 16 % 2 ^ 32 < 1000000000) := by decide

theorem witness_DeviceTimeCodesReadBack_4 :
    (0 ≤ (0 : Int)) ∧ ((0 : Int) < (1 : Int)) := by decide

theorem witness_EntryRecordsReadBack_1 :
    ((255 : Nat) < 256) ∧ ((2 ^ 32 - 1 : Nat) < 2 ^ 32) ∧ (wFullEntry.ktype < 256) ∧ (wFullEntry.tenant < 256) ∧ (wFullEntry.gen < 2 ^ 16) ∧ (wFullEntry.key < 2 ^ 160) ∧ (wFullEntry.result < 2 ^ 128) := by decide

theorem witness_EntryRecordsReadBack_2 :
    (keyOk (3 : Nat) (128 * 2 ^ 128 + 1 : Nat) = true) := by decide

theorem witness_TimeOfDayMessagesCheckThemselves_1 :
    ((2 ^ 48 - 1 : Nat) < 2 ^ 48) ∧ ((65535 : Nat) < 2 ^ 16) ∧ ((255 : Nat) < 256) ∧ ((255 : Nat) < 256) := by decide

theorem witness_TimeOfDayMessagesCheckThemselves_2 :
    ((15 : Nat) < 16) ∧ ((todRecord (1 : Nat) (2 : Nat) (3 : Nat) (4 : Nat) (0 : Nat))[(15 : Nat)]? ≠ some (1#8 : Byte)) := by decide

theorem witness_TheStandbyCarriesNothingOut_1 :
    (spelledRequest (.sillHold 3 (wReq1 0 [1]) : Instr) = some ((wReq1 0 [1] : Req), (0x02 : Nat), (0x0108 : Nat), (0 : Nat), ([1] : List Byte))) ∧ (wAtStandby.holder ≠ some (wReq1 0 [1] : Req).ctl.val) ∧ ((wAtStandby.ctlState (wReq1 0 [1] : Req).ctl.val = 3 ∨ wAtStandby.ctlState (wReq1 0 [1] : Req).ctl.val = 4)) ∧ ((wAtStandby.ctl (wReq1 0 [1] : Req).ctl.val).beats = true) ∧ ((wAtStandby.session (Req.key (wReq1 0 [1] : Req))).isOpen = true) ∧ ((wAtStandby.session (Req.key (wReq1 0 [1] : Req))).requests = []) ∧ ((wAtStandby.session (Req.key (wReq1 0 [1] : Req))).skip.contains (wReq1 0 [1] : Req).tag.toNat = false) ∧ (¬((0x02 : Nat) = 0x02 ∧ (0x0108 : Nat) = 0x0107 ∧ (0 : Nat) = 0 ∧ ([1] : List Byte) = [2] ∧ (wAtStandby.session (Req.key (wReq1 0 [1] : Req))).role = roleSite ∧ (wAtStandby.session (Req.key (wReq1 0 [1] : Req))).enrol = .no ∧ wAtStandby.stageAtLeast 2 = true)) := by decide

theorem witness_AtSillOtherRequestsAreBusy_2 :
    (Ready (wSill [] : State) (wReq 0 [1] : Req) roleSite) ∧ ((wSill [] : State).rd 0x0100 0 = 1) ∧ ((wReq 0 [1] : Req).data.length ≤ 64) := by decide

theorem find?_of_mem {α : Type} {t : Tab α} {x : Nat} (h : x ∈ t.map Prod.fst) : (Tab.find? t x).isSome = true := by
  induction t with
  | nil => simp at h
  | cons e t ih =>
    obtain ⟨k, v⟩ := e
    unfold Tab.find?
    split
    · rfl
    · rename_i hne
      simp only [List.map_cons, List.mem_cons] at h
      exact ih (h.resolve_left hne)

theorem quiet_reserve_none_free (s : State) (pid hi m : Nat) (hr : s.regs.filter (fun e => e.1 / 2 ^ 32 == pid) = []) :
    s.freePhys pid ((List.range m).map (fun i => (hi + i, 0))) hi (hi + m) = none := by
  have hb : ∀ k ∈ (List.range (m + 1)).map (hi + ·), ¬(decide (k < hi + m) &&
      s.inReserve pid ((List.range m).map (fun i => (hi + i, 0))) hi k) = true := by
    intro k hk
    rw [List.mem_map] at hk
    obtain ⟨i, hi', rfl⟩ := hk
    by_cases h : i < m
    · have hs : (Tab.find? ((List.range m).map (fun i => (hi + i, 0))) (hi + i)).isSome = true := by
        refine find?_of_mem ?_
        simp only [List.map_map, List.mem_map, List.mem_range]
        exact ⟨i, h, rfl⟩
      unfold State.inReserve
      cases hf : Tab.find? ((List.range m).map (fun i => (hi + i, 0))) (hi + i) with
      | none => rw [hf] at hs; simp at hs
      | some v => simp
    · simp [h]
  have hl : (s.physUsed pid).length + ((List.range m).map (fun i => (hi + i, 0))).length + 1 = m + 1 := by
    unfold State.physUsed; rw [hr]; simp
  unfold State.freePhys
  simp only [hr, List.map_nil, List.find?_nil, hl]
  rw [List.find?_eq_none.mpr hb]

theorem none_free_of (s : State) (pid hi m n : Nat) (t : Tab Nat) (ht : t = (List.range m).map (fun i => (hi + i, 0))) (hn : n = hi + m)
    (hr : s.regs.filter (fun e => e.1 / 2 ^ 32 == pid) = []) : s.freePhys pid t hi n = none := by
  rw [ht, hn]; exact quiet_reserve_none_free s pid hi m hr

theorem witness_TableSettingsAreChecked_8 :
    Ready wNoneFree (wReq 0 (toBytes 16 0)) roleSite ∧ FullService wNoneFree ∧ wNoneFree.mirrorBars = false ∧
      (wReq 0 (toBytes 16 0)).flashOk = true ∧ (wReq 0 (toBytes 16 0)).inst.toNat < 65536 ∧
      (wReq 0 (toBytes 16 0)).data.length = 16 ∧ nextHopOk (beNat (wReq 0 (toBytes 16 0)).data) = true ∧
      (wNoneFree.tick 0).freePhys 0x1421 wNoneFree.quietNh 65536 81920 = none :=
  ⟨by decide +kernel, by decide +kernel, by decide +kernel, by decide +kernel, by decide +kernel, by decide +kernel, by decide +kernel,
    none_free_of _ _ _ 16384 _ _ (by simp only [wNoneFree]) rfl (by decide +kernel)⟩

theorem witness_TableSettingsAreChecked_13 :
    Ready wNoneFreeR (wReq 1 (List.replicate 32 0)) roleSite ∧ FullService wNoneFreeR ∧ wNoneFreeR.mirrorBars = false ∧
      (wReq 1 (List.replicate 32 0)).flashOk = true ∧ 1 ≤ (wReq 1 (List.replicate 32 0)).inst.toNat ∧
      (wReq 1 (List.replicate 32 0)).inst.toNat < 131072 ∧ (wReq 1 (List.replicate 32 0)).data.length = 32 ∧
      rewriteOk (beNat (wReq 1 (List.replicate 32 0)).data) = true ∧
      (wNoneFreeR.tick 0).freePhys 0x1425 wNoneFreeR.quietRw 131072 163840 = none :=
  ⟨by decide +kernel, by decide +kernel, by decide +kernel, by decide +kernel, by decide +kernel, by decide +kernel, by decide +kernel, by decide +kernel,
    none_free_of _ _ _ 32768 _ _ (by simp only [wNoneFreeR]) rfl (by decide +kernel)⟩

theorem wEnrol_ready : Serves wEnrol 0 ∧ FullService wEnrol ∧ (wEnrol.session 0).isOpen = true ∧ (wEnrol.session 0).enrol = .awaited ∧
    (wEnrol.session 0).skip.contains 7 = false := by
  decide

theorem witness_SessionsOpenEnrolAndClose_8 :
    let q := wReq 0 (toBytes 16 Config.enrolmentCode.toNat)
    Serves wEnrol q.ctl.val ∧ FullService wEnrol ∧ (wEnrol.session (Req.key q)).isOpen = true ∧
      (wEnrol.session (Req.key q)).enrol = .awaited ∧ (wEnrol.session (Req.key q)).skip.contains q.tag.toNat = false ∧
      q.inst = 0 ∧ q.data = toBytes 16 Config.enrolmentCode.toNat :=
  ⟨wEnrol_ready.1, wEnrol_ready.2.1, wEnrol_ready.2.2.1, wEnrol_ready.2.2.2.1, wEnrol_ready.2.2.2.2, rfl, rfl⟩

theorem find_replicate {α : Type} (k j : Nat) (v : α) (n : Nat) (h : k ≠ j) : Tab.find? (List.replicate n (j, v)) k = none := by
  induction n with
  | zero => simp [Tab.find?]
  | succ n ih => rw [List.replicate_succ]; simp_all [Tab.find?]

theorem wManySets_bundle : (wManySets.session (Req.key (wReq 191 [0x80, 0]))).bundle.getD [] = List.replicate 65536 (0, 0) := rfl

theorem wManySets_ready : Ready wManySets (wReq 191 [0x80, 0]) roleSite ∧ FullService wManySets := by decide

theorem witness_BundlesAreCommittedArmedAndActivated_2 :
    let q := wReq 191 [0x80, 0]
    let row := wRow 0x1018
    Ready wManySets q roleSite ∧ FullService wManySets ∧ Catalogue.row? 0x1018 = some row ∧ row.cls = .bundle ∧ row.acc ≠ .ro ∧
      row.sel.has q.inst.toNat = true ∧ q.data.length = row.ty.size ∧ row.valueOk (beNat q.data) = true ∧
      bedStatus 0x1018 q.inst.toNat (beNat q.data) = stOk ∧
      Tab.find? ((wManySets.session (Req.key q)).bundle.getD []) (regKey 0x1018 q.inst.toNat) = none ∧
      65536 ≤ ((wManySets.session (Req.key q)).bundle.getD []).length := by
  refine ⟨wManySets_ready.1, wManySets_ready.2, by decide, by decide, by decide, by decide, by decide, by decide, by decide, ?_, ?_⟩
  · rw [wManySets_bundle]
    exact find_replicate _ _ _ _ (by decide)
  · rw [wManySets_bundle]; exact Nat.le_of_eq List.length_replicate.symm

/-- The image passes every check that the spec computes: what is left is its signature. -/
theorem wImage_checked : (wUp []).imageReason wImage = if Config.imageSigned (beNat wImage) = false then some 5 else none := by
  unfold State.imageReason
  rw [if_neg (by decide +kernel), if_neg (by decide +kernel), if_neg (by decide +kernel), if_neg (by decide +kernel)]

theorem wMany_ready :
    Ready wMany (wReq 15 (toBytes 7 0 ++ toBytes 4 1)) roleSite ∧ FullService wMany ∧ wMany.rd 0x4000 0 = 1 := by
  decide +kernel

theorem wMany_many : 9600 < (wMany.cart.bySeq 15 0 1).length := by
  have h : Tab.get [] wMany.cart.records 15 = List.replicate 9601 0 := rfl
  unfold Cartridge.bySeq
  rw [h, List.filter_replicate, if_pos (by decide), List.length_replicate]
  decide

theorem witness_TheCartridgeIsDisciplinedAndRead_17 :
    let q := wReq 15 (toBytes 7 0 ++ toBytes 4 1)
    Ready wMany q roleSite ∧ FullService wMany ∧ q.inst.toNat < 16 ∧ q.data.length = 11 ∧ getBE q.data 0 3 = 0 ∧ wMany.rd 0x4000 0 = 1 ∧
      9600 < (wMany.cart.bySeq q.inst.toNat (getBE q.data 3 4) (getBE q.data 7 4)).length :=
  ⟨wMany_ready.1, wMany_ready.2.1, by decide, by decide, by decide, wMany_ready.2.2, wMany_many⟩

theorem wMany_readyI :
    Ready wMany (wReq 15 (toBytes 11 0 ++ toBytes 8 (2 ^ 64 - 1))) roleSite ∧ FullService wMany ∧ wMany.rd 0x4000 0 = 1 := by
  decide +kernel

theorem wMany_manyI : 9600 < (wMany.cart.byStart 15 0 (2 ^ 64 - 1)).length := by
  have h : Tab.get [] wMany.cart.records 15 = List.replicate 9601 0 := rfl
  unfold Cartridge.byStart
  rw [h, List.filter_replicate, if_pos (by decide), List.length_replicate]
  decide

theorem witness_TheCartridgeIsDisciplinedAndRead_18 :
    let q := wReq 15 (toBytes 11 0 ++ toBytes 8 (2 ^ 64 - 1))
    Ready wMany q roleSite ∧ FullService wMany ∧ q.inst.toNat < 16 ∧ q.data.length = 19 ∧ getBE q.data 0 3 = 0 ∧ wMany.rd 0x4000 0 = 1 ∧
      9600 < (wMany.cart.byStart q.inst.toNat (getBE q.data 3 8) (getBE q.data 11 8)).length :=
  ⟨wMany_readyI.1, wMany_readyI.2.1, by decide, by decide, by decide, wMany_readyI.2.2, wMany_manyI⟩

theorem witness_WaitingCommandsRunInTheirOrder_3 : Sys2Proof.core.run 0 State.reset = .next State.reset := rfl

theorem witness_ParametersReadBackWhatIsWritten_4 :
    regsWf (wUp []).regs = true ∧ regsWf (wUp []).regs = true ∧ SameBut [] (wUp []) (wUp []) :=
  ⟨by decide, by decide, fun _ _ _ _ => rfl⟩

theorem witness_AtSillOtherRequestsAreBusy_1 :
    spelledRequest (.domainCycle 3 (wReq 9 [3])) = some (wReq 9 [3], 0x02, 0x010D, 9, [3]) ∧ Ready (wSill []) (wReq 9 [3]) roleSite ∧
      (wSill []).rd 0x0100 0 = 1 ∧ [(3 : Byte)].length ≤ 65536 ∧ 0x02 ∉ [0x01, 0x03, 0x7F, 0x21, 0x20, 0x07, 0x08] ∧
      (0x02 = 0x02 → 0x010D = 0x0108 → roleSite ≠ roleSite) :=
  ⟨by decide, by decide, by decide, by decide, by decide, fun _ h => absurd h (by decide)⟩

/-! ### Ill-formed commands -/

theorem test_head_past_the_parse_window : (Instr.frameArrival 0 0 (List.replicate 257 0) 0).wellFormed = false := by decide +kernel

theorem not_fits (l : List Byte) (n : Nat) (h : n < l.length) : (wReq 0 l).fits n = false := by
  have : (wReq 0 l).data = l := rfl
  simp only [Req.fits, this, decide_eq_false_iff_not]; omega

theorem test_payload_past_its_message : (Instr.set 0 (wReq 0 (List.replicate 65537 0)) 0x0800).wellFormed = false :=
  not_fits _ _ (by rw [List.length_replicate]; decide)

theorem test_fragment_past_4096 : (Instr.fwStage 0 (wReq 0 (List.replicate 4097 0)) true).wellFormed = false :=
  not_fits _ _ (by rw [List.length_replicate]; decide)
end

section
/-! What the state after reset holds: the registers' defaults, and the block of MAC addresses that starts at the base. -/

namespace Sys2Proof.Machine

/-! ### Defaults -/

/-- The register file lists nothing after reset (16 R503). -/
@[simp] theorem State.rd_reset (p i : Nat) : State.reset.rd p i = Catalogue.dflt p i := Tab.get_nil _ _

/-- Where the row of a PID gives one default for all instances, every instance has it. -/
theorem Catalogue.dflt_of_const {p v : Nat} (h : (Catalogue.row? p).map Row.dflt = some (.const v)) (i : Nat) :
    Catalogue.dflt p i = v := by
  obtain ⟨r, hr, hd⟩ := Option.map_eq_some_iff.mp h
  simp [Catalogue.dflt, hr, hd]

theorem Catalogue.dflt_of_zero {p : Nat} (h : (Catalogue.row? p).map Row.dflt = some .zero) (i : Nat) :
    Catalogue.dflt p i = 0 := by
  obtain ⟨r, hr, hd⟩ := Option.map_eq_some_iff.mp h
  simp [Catalogue.dflt, hr, hd]

/-! ### The block of MAC addresses (00 R4) -/

theorem macOwner_port {i : Nat} (h : i < 144) : macOwner (1 + i) = .port i := by
  have hne : 1 + i ≠ 0 := by omega
  have hle : 1 + i ≤ 144 := by omega
  rw [macOwner, if_neg hne, if_pos hle, Nat.add_sub_cancel_left]

theorem macOwner_controller {c : Nat} (h : c < 2) : macOwner (145 + c) = .controller c := by
  have hne : 145 + c ≠ 0 := by omega
  have hgt : ¬ 145 + c ≤ 144 := by omega
  have hle : 145 + c ≤ 146 := by omega
  rw [macOwner, if_neg hne, if_neg hgt, if_pos hle, Nat.add_sub_cancel_left]

theorem macOwner_reserved (o : Nat) : macOwner (147 + o) = .reserved := by
  have hne : 147 + o ≠ 0 := by omega
  have hport : ¬ 147 + o ≤ 144 := by omega
  have hctl : ¬ 147 + o ≤ 146 := by omega
  rw [macOwner, if_neg hne, if_neg hport, if_neg hctl]

/-- Where the last byte of the base is 00h, no offset of the block carries into the bytes above it. -/
theorem State.macAt_bytes {s : State} (hbase : s.rd 0x0003 0 % 256 = 0) {o : Nat} (ho : o < 256) :
    s.macAt o / 256 = s.rd 0x0003 0 / 256 ∧ s.macAt o % 256 = o := by
  unfold State.macAt
  omega

theorem State.reset_base_lastByte : State.reset.rd 0x0003 0 % 256 = 0 := by
  rw [State.rd_reset, Catalogue.dflt_of_const (v := 0x25a1c400000) rfl]

/-! ### What O50 claims of the state after reset, with the red action at its own PID -/

theorem State.reset_holdsNothing :
    regsWf State.reset.regs = true ∧ State.reset.pending = [] ∧ State.reset.faults = [] ∧ State.reset.rc = 0 ∧
      State.reset.rc < 2 ^ 72 ∧ State.reset.hodMem = [] ∧ State.reset.memWf = true :=
  ⟨rfl, rfl, rfl, rfl, Nat.two_pow_pos 72, rfl, State.reset_memWf⟩

theorem State.reset_macBlock :
    (∀ o : Fin 256, State.reset.macAt o.val / 256 = State.reset.rd 0x0003 0 / 256 ∧ State.reset.macAt o.val % 256 = o.val) ∧
    macOwner 0 = .management ∧ (∀ i : PortNo, macOwner (1 + i.val) = .port i.val) ∧
    (∀ c : CtlNo, macOwner (145 + c.val) = .controller c.val) ∧ ∀ o : Fin 109, macOwner (147 + o.val) = .reserved :=
  ⟨fun o => State.macAt_bytes State.reset_base_lastByte o.isLt, rfl, fun i => macOwner_port i.isLt,
    fun c => macOwner_controller c.isLt, fun o => macOwner_reserved o.val⟩

/-- The defaults that O50 takes from the parameter tables, here at every instance. The actions of a policer are three PIDs,
0A08h green, 0A09h yellow and 0A0Ah red, with the defaults 0, 0 and 2 (04 R119, R134). -/
theorem State.reset_tableDefaults (i : Nat) :
    State.reset.rd 0x0803 i = 9216 ∧ State.reset.rd 0x0911 i = 0 ∧ State.reset.rd 0x0837 i = 128 ∧
    State.reset.rd 0x140B i = 300 ∧ State.reset.rd 0x1A13 i = 10 ∧ State.reset.rd 0x281E i = 3 ∧
    State.reset.rd 0x300A i = 37 ∧ State.reset.rd 0x400C i = 300 ∧ State.reset.rd 0x0407 i = 4180 ∧
    State.reset.rd 0x3008 i = 100 ∧ State.reset.rd 0x0101 i = 0xFFFFFFFF ∧ State.reset.rd 0x2202 i = 1000000 ∧
    State.reset.rd 0x3E0C i = 60 ∧
    State.reset.rd 0x0A08 i = 0 ∧ State.reset.rd 0x0A09 i = 0 ∧ State.reset.rd 0x0A0A i = 2 := by
  simp only [State.rd_reset]
  exact ⟨Catalogue.dflt_of_const rfl i, Catalogue.dflt_of_zero rfl i, Catalogue.dflt_of_const rfl i,
    Catalogue.dflt_of_const rfl i, Catalogue.dflt_of_const rfl i, Catalogue.dflt_of_const rfl i,
    Catalogue.dflt_of_const rfl i, Catalogue.dflt_of_const rfl i, Catalogue.dflt_of_const rfl i,
    Catalogue.dflt_of_const rfl i, Catalogue.dflt_of_const rfl i, Catalogue.dflt_of_const rfl i,
    Catalogue.dflt_of_const rfl i,
    Catalogue.dflt_of_zero rfl i, Catalogue.dflt_of_zero rfl i, Catalogue.dflt_of_const rfl i⟩

end Sys2Proof.Machine

open Sys2Proof.Machine

/-- Refutes O50: it reads the red action as instance 2 of PID 0A08h. That PID is the green action, whose default is 0 at every
instance; the default 2 is that of PID 0A0Ah (04 R119, R134). No other clause fails: `State.rd_reset`,
`State.reset_holdsNothing`, `State.reset_macBlock` and `State.reset_tableDefaults` give them, and the addresses of M0, the ports
and the controllers are those of their offsets by definition. -/
theorem not_resetHoldsTheDefaults : ¬ Obligations.ResetHoldsTheDefaults := by
  unfold Obligations.ResetHoldsTheDefaults
  intro ⟨_, _, _, _, _, _, _, _, _, _, _, _, hred, _⟩
  have hgreen : State.reset.rd 0x0A08 2 = 0 := (State.rd_reset 0x0A08 2).trans (Catalogue.dflt_of_zero rfl 2)
  rw [hgreen] at hred
  exact absurd hred (by decide)

end

section
/-! What a request does that reaches the standby controller (01 R14; 14 R438): the answer NOT_ACTIVE, and what the receipt of the
message leaves alone. -/

namespace Sys2Proof.Machine

/-! ### Sessions after a request's receipt and its answer -/

/-- A session after the final answer to a request: the request's place is free, and where fragments of it are still to come they are
discarded (14 R442, R446). -/
def Session.answered (x : Session) (r : Request) : Session :=
  { x with
    requests := x.requests.filter (fun y => y.tag != r.tag)
    skip := if x.requests.any (fun y => y.tag == r.tag && !y.last) then r.tag :: x.skip else x.skip }

theorem State.session_reply (s : State) (k : Nat) (r : Request) (st : Nat) (b : List Byte) (j : Nat) :
    (s.reply k r st b).session j = (s.updSession k (fun x => x.answered r)).session j := by
  unfold State.session State.reply
  simp only [State.sendMsg_sessions]
  rfl

@[simp] theorem State.session_reply_same (s : State) (k : Nat) (r : Request) (st : Nat) (b : List Byte) :
    (s.reply k r st b).session k = (s.session k).answered r := by
  rw [State.session_reply, State.session_updSession_same]

theorem State.session_reply_ne (s : State) {k j : Nat} (r : Request) (st : Nat) (b : List Byte) (h : j ≠ k) :
    (s.reply k r st b).session j = s.session j := by
  rw [State.session_reply, State.session_updSession_ne _ _ h]

@[simp] theorem State.session_issue_same (s : State) (k : Nat) (r : Request) :
    (s.issue k r).session k = { s.session k with requests := (s.session k).requests ++ [s.issuedAs r] } :=
  State.session_updSession_same { s with issued := s.issued + 1 } k _

theorem State.session_issue_ne (s : State) {k j : Nat} (r : Request) (h : j ≠ k) : (s.issue k r).session j = s.session j :=
  State.session_updSession_ne { s with issued := s.issued + 1 } _ h

theorem State.session_heard_ne (s : State) {k j : Nat} (n : Nat) (h : j ≠ k) : (s.heard k n).session j = s.session j := by
  have hs : (s.heard k n).sessions = (s.updSession k (fun x => { x with heard := s.clk })).sessions := by
    unfold State.heard; simp only; split <;> rfl
  exact (congrArg (fun t => Tab.get Session.init t j) hs).trans (State.session_updSession_ne s _ h)

/-- A request that is the only one of its session is answered: only a fragment still to come leaves a trace. -/
theorem Session.answered_single {x : Session} {r r' : Request} (hx : x.requests = [r']) (htag : r'.tag = r.tag) (hlast : r'.last = r.last) :
    x.answered r = { x with requests := [], skip := if r.last then x.skip else r.tag :: x.skip } := by
  unfold Session.answered
  cases hl : r.last <;> simp [hx, htag, hlast, hl]

/-! ### A controller without the token -/

/-- A controller without the token counts no message it receives (PID 0414h). -/
theorem State.heard_of_not_holder {s : State} {k : Nat} (h : s.holder ≠ some (k / 4)) (n : Nat) :
    s.heard k n = s.updSession k (fun x => { x with heard := s.clk }) :=
  if_neg h

/-- Two states that differ in the sessions, the count of requests issued and the messages sent alone. -/
def State.OnlyMail (s t : State) : Prop := t = { s with sessions := t.sessions, issued := t.issued, out := t.out }

theorem State.OnlyMail.trans {s t u : State} (h : s.OnlyMail t) (h' : t.OnlyMail u) : s.OnlyMail u := by
  unfold State.OnlyMail at *
  rw [h', h]

theorem State.onlyMail_heard {s : State} {k : Nat} (h : s.holder ≠ some (k / 4)) (n : Nat) : s.OnlyMail (s.heard k n) := by
  rw [State.heard_of_not_holder h]
  rfl

theorem State.onlyMail_issue (s : State) (k : Nat) (r : Request) : s.OnlyMail (s.issue k r) := rfl

/-- A controller without the token counts no answer it sends (PID 0414h). -/
theorem State.onlyMail_reply {s : State} {k : Nat} (h : s.holder ≠ some (k / 4)) (r : Request) (st : Nat) (b : List Byte) :
    s.OnlyMail (s.reply k r st b) := by
  have huncounted : s.reply k r st b = { s.updSession k (fun x => x.answered r) with
      out := s.out ++ Msg.split ⟨k / 4, if r.accepted then 0xE0 else 0xA0, k % 4, r.tag, r.op, st, r.pid, r.inst, b⟩ } :=
    if_neg h
  unfold State.OnlyMail
  rw [huncounted]
  rfl

theorem State.listens_of_standby {s : State} {c : Nat} (hh : s.holder ≠ some c) (hst : s.ctlState c = 3 ∨ s.ctlState c = 4)
    (hb : (s.ctl c).beats = true) : s.listens c = true := by
  simp [State.listens, hh, hst, hb]

/-! ### The request at the standby -/

/-- A session of a controller that runs as standby and holds no token: open, with no request outstanding. -/
structure StandbySession (s : State) (k : Nat) : Prop where
  noToken : s.holder ≠ some (k / 4)
  standby : s.ctlState (k / 4) = 3 ∨ s.ctlState (k / 4) = 4
  beats : (s.ctl (k / 4)).beats = true
  isOpen : (s.session k).isOpen = true
  idle : (s.session k).requests = []

theorem StandbySession.tick {s : State} {k : Nat} (h : StandbySession s k) (el : Nat) : StandbySession (s.tick el) k :=
  ⟨h.noToken, h.standby, h.beats, h.isOpen, h.idle⟩

/-- The module after the standby has refused a request (R438). -/
def State.standbyRefusal (s : State) (k : Nat) (r : Request) : State :=
  ((s.heard k (fragments r.data)).issue k r).reply k r stNotActive []

/-- The standby refuses every request but its own reset. -/
theorem State.receive_standby {s : State} {k : Nat} {r : Request} (h : StandbySession s k)
    (hskip : (s.session k).skip.contains r.tag = false)
    (hreset : ¬(r.resetsStandby (s.session k) = true ∧ s.stageAtLeast 2 = true)) :
    s.receive k r = s.standbyRefusal k r := by
  have hlisten : s.listens (k / 4) = true := State.listens_of_standby h.noToken h.standby h.beats
  have hfree : ((s.heard k (fragments r.data)).session k).request r.tag = none := by
    simp [State.session_heard, Session.request, h.idle]
  have hskip' : ((s.heard k (fragments r.data)).session k).skip.contains r.tag = false := by
    rw [State.session_heard]; exact hskip
  have hholder : (s.heard k (fragments r.data)).holder ≠ some (k / 4) := by
    rw [State.heard_of_not_holder h.noToken]; exact h.noToken
  have hreset' : ¬(r.resetsStandby ((s.heard k (fragments r.data)).session k) = true ∧
      (s.heard k (fragments r.data)).stageAtLeast 2 = true) := by
    rw [State.session_heard, State.heard_of_not_holder h.noToken]; exact hreset
  unfold State.receive
  simp only
  rw [if_pos ⟨h.isOpen, hlisten⟩, hskip', if_neg Bool.false_ne_true, hfree, if_neg (by simp), if_pos hholder]
  exact if_neg hreset'

/-- A fragment on a session with no request outstanding starts a request. -/
theorem State.fragment_of_idle {s : State} {k : Nat} (h : (s.session k).requests = []) (r : Request) :
    s.fragment k r = s.receive k r := by
  have hfree : (s.session k).request r.tag = none := by simp [Session.request, h]
  unfold State.fragment State.nextFragment
  rw [hfree]

section
variable {s : State} {k : Nat} (h : StandbySession s k) (r : Request)
include h

theorem State.onlyMail_standbyRefusal : s.OnlyMail (s.standbyRefusal k r) := by
  have hholder : ((s.heard k (fragments r.data)).issue k r).holder ≠ some (k / 4) := by
    rw [State.heard_of_not_holder h.noToken]; exact h.noToken
  exact ((State.onlyMail_heard h.noToken _).trans (State.onlyMail_issue _ k r)).trans (State.onlyMail_reply hholder r stNotActive [])

theorem State.session_standbyRefusal_same :
    (s.standbyRefusal k r).session k =
      { s.session k with heard := s.clk, skip := if r.last then (s.session k).skip else r.tag :: (s.session k).skip } := by
  have hsingle : (((s.heard k (fragments r.data)).issue k r).session k).requests =
      [(s.heard k (fragments r.data)).issuedAs r] := by
    simp [State.session_heard, h.idle]
  rw [State.standbyRefusal, State.session_reply_same, Session.answered_single (r := r) hsingle rfl rfl, State.session_issue_same,
    State.session_heard, ← h.idle]

omit h

theorem State.session_standbyRefusal_ne {j : Nat} (hj : j ≠ k) : (s.standbyRefusal k r).session j = s.session j := by
  rw [State.standbyRefusal, State.session_reply_ne _ _ _ _ hj, State.session_issue_ne _ _ hj, State.session_heard_ne _ _ hj]

theorem State.issued_standbyRefusal (s : State) (k : Nat) (r : Request) : (s.standbyRefusal k r).issued = s.issued + 1 := by
  rw [State.standbyRefusal, State.reply_issued, ← State.heard_issued s k (fragments r.data)]
  rfl

theorem State.out_standbyRefusal (hacc : r.accepted = false) :
    (s.standbyRefusal k r).out = s.out ++ [⟨k / 4, 0xA0, k % 4, r.tag, r.op, stNotActive, r.pid, r.inst, []⟩] := by
  simp [State.standbyRefusal, hacc]

end

/-- Only the site operator's SET of PID 0107h to 2 resets the standby (03 R82; notes/assumptions/59.md). -/
theorem resetsStandby_requestOf {q : Req} {op pid inst : Nat} {data : List Byte} {last : Bool} {x : Session}
    (h : (requestOf q op pid inst data last).resetsStandby x = true) :
    op = 0x02 ∧ pid = 0x0107 ∧ inst = 0 ∧ data = [2] ∧ x.role = roleSite ∧ x.enrol = .no := by
  simpa [Request.resetsStandby, requestOf, and_assoc] using h

/-! ### The commands that are requests -/

/-- Every command that spells a request runs its receipt, on a session with no request outstanding. -/
theorem exec_of_spelledRequest {i : Instr} {q : Req} {op pid inst : Nat} {data : List Byte}
    (h : spelledRequest i = some (q, op, pid, inst, data)) :
    ∃ (last : Bool) (f : State → State), (∀ s, exec i s = s.run i.elapsed f) ∧
      ∀ s : State, (s.session (Req.key q)).requests = [] → f s = s.receive (Req.key q) (requestOf q op pid inst data last) := by
  cases i with
  | tblBulkLoad el q' last =>
    cases h
    exact ⟨last, _, fun _ => rfl, fun _ hidle => State.fragment_of_idle hidle _⟩
  | fwStage el q' last =>
    cases h
    exact ⟨last, _, fun _ => rfl, fun _ hidle => State.fragment_of_idle hidle _⟩
  | _ => cases h <;> exact ⟨true, _, fun _ => rfl, fun _ _ => rfl⟩

end Sys2Proof.Machine

open Sys2Proof Sys2Proof.Machine

/-- Settles O59: every command that spells a request runs its receipt (`exec_of_spelledRequest`), the receipt at the standby is a
refusal (`State.receive_standby`), and the `standbyRefusal` lemmas give its answer and its frame. -/
theorem theStandbyCarriesNothingOut : Obligations.TheStandbyCarriesNothingOut := by
  unfold Obligations.TheStandbyCarriesNothingOut
  intro i s q op pid inst data hspelled hholder hstate hbeats hopen hidle hskip hreset
  obtain ⟨last, f, hexec, hf⟩ := exec_of_spelledRequest hspelled
  have hstandby : StandbySession s (Req.key q) := ⟨by rwa [key_div], by rwa [key_div], by rwa [key_div], hopen, hidle⟩
  have htick := hstandby.tick i.elapsed
  have hrefuse : f (s.tick i.elapsed) = (s.tick i.elapsed).standbyRefusal (Req.key q) (requestOf q op pid inst data last) := by
    refine (hf (s.tick i.elapsed) hidle).trans (State.receive_standby htick hskip fun hr => hreset ?_)
    obtain ⟨hop, hpid, hinst, hdata, hrole, henrol⟩ := resetsStandby_requestOf hr.1
    exact ⟨hop, hpid, hinst, hdata, hrole, henrol, hr.2⟩
  let t := s.ran i.elapsed ((s.tick i.elapsed).standbyRefusal (Req.key q) (requestOf q op pid inst data last))
  have hsame : t.session (Req.key q) = { s.session (Req.key q) with
      heard := s.clk + i.elapsed
      skip := if last then (s.session (Req.key q)).skip else q.tag.toNat :: (s.session (Req.key q)).skip } :=
    State.session_standbyRefusal_same htick _
  refine ⟨t, ?_, ?_, ?_, ?_, ?_, ?_⟩
  · rw [hexec, State.run_eq, hrefuse]; rfl
  · have hout := State.out_standbyRefusal (s := s.tick i.elapsed) (k := Req.key q) (requestOf q op pid inst data last) rfl
    rw [key_div, key_mod] at hout
    exact hout
  · have honly := State.onlyMail_standbyRefusal htick (requestOf q op pid inst data last)
    unfold State.OnlyMail at honly
    rw [State.issued_standbyRefusal] at honly
    exact (congrArg (s.ran i.elapsed) honly).trans rfl
  · rw [hsame]
  · rw [hsame]
    cases last
    · exact .inr rfl
    · exact .inl rfl
  · exact fun j hj => State.session_standbyRefusal_ne _ hj
end

section
/-! The end of a frame that is held for a policer which the switch does not have: the number at which PID 0A00h, the mode of a
policer, lies at the key of PID 3C00h, the port's count of received frames. -/

namespace Sys2Proof.Machine

/-- The number at which PID 0A00h has the key of PID 3C00h of port 0. -/
def strayPolicer : Nat := (0x3C00 - 0x0A00) * 2 ^ 32

/-- A good frame of 64 bytes, held for its end under the stray number. -/
def strayFrame : RxFrame where
  bytes := List.replicate 64 0
  rc := 0
  frac := 0
  macControl := false
  drop := false
  ctl := false
  icls := 0
  colour := 0
  policer := some strayPolicer
  seq := none
  planes := []
  frer := none
  tagless := false
  tc := false
  tcSat := false

/-- The module after reset, but with that frame in reception on port 0. -/
def strayReception : State := { State.reset with ports := [(0, { Port.init with rx := some strayFrame })] }

theorem strayReception_modeOff : strayReception.rd 0x0A00 strayPolicer = 0 := by decide

/-- The frame counts as received before its policer's mode is read, and the count, 1, is read as the mode: a bucket is charged. -/
theorem strayReception_charges : (frameEnd 0 [] true (strayReception.tick 0)).groups.length = 1 := by decide

/-- Replicated whole, without a policer, the frame would charge none. -/
theorem strayReception_unpoliced_charges_none :
    (((((strayReception.tick 0).clearRx 0).noteRx 0 64).countReceived 0 64 (getBE (strayFrame.bytes ++ []) 0 6)).replicateWhole 0
      { strayFrame with bytes := strayFrame.bytes ++ [] }).groups.length = 0 := by decide

end Sys2Proof.Machine

open Sys2Proof Sys2Proof.Machine

/-- Refutes O11: it takes a frame to be unpoliced where its policer's mode is neither 1 nor 2 before the frame's end, for policers of
every number, also beyond the 32 bits that a key has for it. At `strayPolicer` the mode is read at the key of PID 3C00h of port 0, which the
end of a good frame there raises from 0 to 1 before the mode is read: the frame is policed. No frame that arrives has such a
policer, as steering gives only numbers below 2,048 × 8 (R563): the clause fails for its missing bound. -/
theorem not_framesAreReceivedAtTheirPort : ¬ Obligations.FramesAreReceivedAtTheirPort := by
  unfold Obligations.FramesAreReceivedAtTheirPort
  intro ⟨_, _, _, _, _, _, _, _, _, _, _, _, _, hwhole, _⟩
  have hoff : strayFrame.policer.all
      (fun k => strayReception.rd 0x0A00 k != 1 && strayReception.rd 0x0A00 k != 2) = true := by
    simp [strayFrame, strayReception_modeOff]
  have hend := hwhole strayReception 0 64 0 [] strayFrame rfl rfl rfl (by decide) (by decide) rfl rfl hoff
  have hcharged := congrArg (fun t : State => t.groups.length) (Host.Outcome.next.inj hend)
  exact absurd (strayReception_charges.symm.trans (hcharged.trans strayReception_unpoliced_charges_none)) (by decide)
end

section
/-! Commands whose effect is one function of the state: what `run` answers from what the function gives. -/

namespace Sys2Proof.Machine

theorem State.run_of_eq {s u : State} {el : Nat} {f : State → State} (h : f (s.tick el) = u) : s.run el f = .next (s.ran el u) := by
  rw [State.run_eq, h]; rfl

theorem State.run_of_same {s : State} {el : Nat} {f : State → State} (h : f (s.tick el) = s.tick el) :
    s.run el f = .next (s.tick el) := (State.run_of_eq h).trans rfl

@[simp] theorem State.rd_ran (s u : State) (el p j : Nat) : (s.ran el u).rd p j = u.rd p j := rfl
@[simp] theorem State.port_ran (s u : State) (el i : Nat) : (s.ran el u).port i = u.port i := rfl
@[simp] theorem State.link_ran (s u : State) (el i : Nat) : (s.ran el u).link i = u.link i := rfl
@[simp] theorem State.laser_ran (s u : State) (el g k : Nat) : (s.ran el u).laser g k = u.laser g k := rfl

/-! ### Fault bits (17 R517) -/

theorem State.faulted_fault (s : State) (b inst : Nat) : Faulted (s.fault b inst) b := by
  unfold Faulted
  rw [State.faults_fault, Tab.get_set_same, FaultEntry.occur_set]

theorem SameBut.fault {keys : List (Nat × Nat)} {s t : State} (h : SameBut keys s t) (hat : (0x3E03, 0) ∈ keys)
    (hbit : (0x3E04, 0) ∈ keys) (b inst : Nat) : SameBut keys s (t.fault b inst) := by
  unfold State.fault
  simp only
  split
  · exact h
  · exact SameBut.wr (SameBut.stamp h (by decide) hat) (by decide) hbit

/-! ### The link state (R92, R94) -/

theorem State.link_setLink_same (s : State) {i v : Nat} (hi : i < 2 ^ 32) (hv : v < 2 ^ 8) : (s.setLink i v).link i = v := by
  unfold State.setLink
  split
  · assumption
  · calc ((s.wr 0x0805 i v).stamp 0x0809 i).rd 0x0805 i
      _ = (s.wr 0x0805 i v).rd 0x0805 i := State.rd_wr_pid _ _ hi hi (by decide)
      _ = v := (State.rd_wr_same s 0x0805 i v).trans (Nat.mod_eq_of_lt hv)

theorem SameBut.setLink {keys : List (Nat × Nat)} {s t : State} (h : SameBut keys s t) {i v : Nat} (hi : i < 2 ^ 32)
    (hlink : (0x0805, i) ∈ keys) (hstamp : (0x0809, i) ∈ keys) : SameBut keys s (t.setLink i v) := by
  unfold State.setLink
  split
  · exact h
  · exact (h.wr hi hlink).stamp hi hstamp

theorem State.rd_setLink (s : State) {i v p j : Nat} (hi : i < 2 ^ 32) (hj : j < 2 ^ 32) (hlink : p ≠ 0x0805) (hstamp : p ≠ 0x0809) :
    (s.setLink i v).rd p j = s.rd p j :=
  (SameBut.refl [(0x0805, i), (0x0809, i)] s).setLink hi (by simp) (by simp) p j hj (by simp [hlink, hstamp])

@[simp] theorem State.setLink_rc (s : State) (i v : Nat) : (s.setLink i v).rc = s.rc := by
  unfold State.setLink
  split
  · rfl
  · rw [State.stamp_rc, State.wr_rc]

@[simp] theorem State.setLink_ports (s : State) (i v : Nat) : (s.setLink i v).ports = s.ports := by
  unfold State.setLink
  split
  · rfl
  · rw [State.stamp_ports, State.wr_ports]

@[simp] theorem State.setLink_faults (s : State) (i v : Nat) : (s.setLink i v).faults = s.faults := by
  unfold State.setLink
  split
  · rfl
  · rw [State.stamp_faults, State.wr_faults]

end Sys2Proof.Machine
end

section
/-! A laser swap on a port whose modulator stands at a number that no laser of the bank has. -/

namespace Sys2Proof.Machine

/-- SWAP_REQUEST is a SET of PID 0813h. -/
theorem exec_swapRequest (el : Nat) (q : Req) (s : State) :
    exec (.swapRequest el q) s = .next (s.ran el ((s.tick el).takeSet q 0x0813 q.data)) :=
  State.run_of_eq (f := fun u => u.takeSet q 0x0813 q.data) rfl

/-- The number of a laser beyond the bank of 20 whose state, PID 0815h + 23, would lie at PID 082Ch, the group's count of swaps. -/
def strayLaser : Nat := 0x082C - 0x0815

/-- The module up, but with the modulator of port 5 at the stray number, and laser 1 of its group the warm spare. -/
def strayModulator : State := wUp [(0x0810, 5, strayLaser), (0x0816, 0, 1)]

/-- A request to swap the laser of port 5 (PID 0813h). -/
def straySwap : Req := wReq 5 [1]

theorem strayModulator_ready : Ready strayModulator straySwap roleSite := by decide

theorem strayModulator_warmSpare : strayModulator.laserIn 0 1 = some 1 := by decide

theorem strayModulator_swaps : strayModulator.rd 0x082C 0 = 0 := by decide

/-- The outgoing laser is retired at the stray number, which writes 4 to the count, and the swap is counted on top of it. -/
theorem strayModulator_counts_five :
    ((strayModulator.tick 0).takeSet straySwap 0x0813 straySwap.data).rd 0x082C 0 = 5 := by decide

end Sys2Proof.Machine

open Sys2Proof Sys2Proof.Machine

/-- Refutes O7: its clause on a swap with a warm spare lets the laser in use, PID 0810h, be any number of 8 bits, also one beyond the
bank of 20. At `strayModulator` the state of that laser lies at the key of PID 082Ch, so that retiring it makes the count of swaps 4
before the swap raises it to 5, where the clause has it rise from 0 to 1. PID 0810h is 0 to 19 in the spec, and every swap gives it a
laser of the bank: the clause fails for its missing bound, which the clause of O8 on a loss of output states. -/
theorem not_portRequestsTrainAndDarkenThePort : ¬ Obligations.PortRequestsTrainAndDarkenThePort := by
  unfold Obligations.PortRequestsTrainAndDarkenThePort
  intro ⟨_, _, _, _, _, _, _, _, _, _, _, hswap, _⟩
  obtain ⟨t, hrun, _, _, _, _, hcount, _⟩ :=
    hswap strayModulator 0 1 straySwap strayModulator_ready (by decide) (by decide) rfl strayModulator_warmSpare (by decide)
  have hafter := Host.Outcome.next.inj ((exec_swapRequest 0 straySwap strayModulator).symm.trans hrun)
  have hfive : t.rd 0x082C 0 = 5 := by
    rw [← hafter, State.rd_ran]
    exact strayModulator_counts_five
  have hone : t.rd 0x082C 0 = (strayModulator.rd 0x082C 0 + 1) % 2 ^ 32 := hcount
  rw [hfive, strayModulator_swaps] at hone
  exact absurd hone (by decide)
end

section
/-! What the planes' work on the copies of a frame that ends, or of a port that leaves service, leaves alone: RC, the parameters below
PID 0900h, all of a port but its XOFF, and the fault bits that are set. -/

namespace Sys2Proof.Machine

/-- RC, the parameters below PID 0900h and the ports are kept, but for the XOFF of the ports, and no fault bit is cleared. -/
structure State.KeepsPorts (s t : State) : Prop where
  rc : t.rc = s.rc
  low : ∀ p j, p < 0x0900 → j < 2 ^ 32 → t.rd p j = s.rd p j
  port : ∀ i, t.port i = { s.port i with xoff := (t.port i).xoff }
  faulted : ∀ b, Faulted s b → Faulted t b

namespace State.KeepsPorts

theorem refl (s : State) : s.KeepsPorts s := ⟨rfl, fun _ _ _ _ => rfl, fun _ => rfl, fun _ h => h⟩

theorem trans {s t u : State} (h : s.KeepsPorts t) (h' : t.KeepsPorts u) : s.KeepsPorts u where
  rc := h'.rc.trans h.rc
  low p j hp hj := (h'.low p j hp hj).trans (h.low p j hp hj)
  port i := (h'.port i).trans (by rw [h.port i])
  faulted b hb := h'.faulted b (h.faulted b hb)

theorem foldl {α : Type} {f : State → α → State} (h : ∀ (s : State) (a : α), s.KeepsPorts (f s a)) (l : List α) :
    ∀ s : State, s.KeepsPorts (l.foldl f s) := by
  induction l with
  | nil => exact refl
  | cons a l ih => exact fun s => (h s a).trans (ih _)

theorem ite {c : Prop} [Decidable c] {s t u : State} (ht : s.KeepsPorts t) (hu : s.KeepsPorts u) : s.KeepsPorts (if c then t else u) := by
  split
  · exact ht
  · exact hu

/-- The parts that `KeepsPorts` speaks of are equal. -/
theorem of_eq {s t : State} (hrc : t.rc = s.rc) (hregs : t.regs = s.regs) (hports : t.ports = s.ports) (hfaults : t.faults = s.faults) :
    s.KeepsPorts t where
  rc := hrc
  low p j _ _ := by unfold State.rd; rw [hregs]
  port i := by unfold State.port; rw [hports]
  faulted b hb := by unfold Faulted; rw [hfaults]; exact hb

end State.KeepsPorts

/-! ### Registers, planes and the fault record -/

section
variable (s : State)

theorem State.keepsPorts_wr {p : Nat} (hp : 0x0900 ≤ p) (j v : Nat) : s.KeepsPorts (s.wr p j v) where
  rc := rfl
  low p' j' hp' hj' := State.rd_wr_ne s v (by unfold regKey; omega)
  port _ := rfl
  faulted _ hb := hb

theorem State.keepsPorts_inc {p : Nat} (hp : 0x0900 ≤ p) (j : Nat) : s.KeepsPorts (s.inc p j) := s.keepsPorts_wr hp j _

theorem State.keepsPorts_incBy {p : Nat} (hp : 0x0900 ≤ p) (j n : Nat) : s.KeepsPorts (s.incBy p j n) := s.keepsPorts_wr hp j _

theorem State.keepsPorts_updPl (p : Nat) (f : Plane → Plane) : s.KeepsPorts (s.updPl p f) :=
  .of_eq (s.updPl_rc p f) (s.updPl_regs p f) (s.updPl_ports p f) (s.updPl_faults p f)

theorem State.keepsPorts_fault (b inst : Nat) : s.KeepsPorts (s.fault b inst) where
  rc := State.fault_rc s b inst
  low p j hp hj := State.rd_fault s b inst hj (by omega) (by omega)
  port _ := by unfold State.port; rw [State.fault_ports]
  faulted b' hb' := by
    by_cases h : b' = b
    · exact h ▸ State.faulted_fault s b inst
    · unfold Faulted
      rw [State.faults_fault, Tab.get_set_ne _ _ _ h]
      exact hb'

theorem State.keepsPorts_updXoff (i : Nat) (f : Port → Tab Nat) :
    s.KeepsPorts (s.updPort i (fun q => { q with xoff := f q })) where
  rc := rfl
  low _ _ _ _ := rfl
  port j := by
    by_cases h : j = i
    · rw [h, State.port_updPort_same]
    · rw [State.port_updPort_ne _ _ h]
  faulted _ hb := hb

/-! ### Releases (07 R235 to R240) -/

theorem State.keepsPorts_startScrub (p : Nat) : s.KeepsPorts (s.startScrub p) :=
  .ite (s.keepsPorts_updPl p _) ((s.keepsPorts_updPl p _).trans (State.keepsPorts_wr _ (by decide) _ _))

theorem State.keepsPorts_scrubAt (p before : Nat) : s.KeepsPorts (s.scrubAt p before) := .ite (s.keepsPorts_startScrub p) (.refl s)

theorem State.keepsPorts_freeFailure (p kind : Nat) : s.KeepsPorts (s.freeFailure p kind) :=
  (s.keepsPorts_inc (by decide) _).trans (State.keepsPorts_fault _ _ _)

theorem State.keepsPorts_quarantine (p t : Nat) : s.KeepsPorts (s.quarantine p t) :=
  .ite (s.keepsPorts_freeFailure p 3) ((s.keepsPorts_updPl p _).trans (State.keepsPorts_scrubAt _ p _))

theorem State.keepsPorts_freeChain (n : Nat) :
    ∀ (s : State) (p : Nat) (d : Desc) (t : Nat), s.KeepsPorts (State.freeChain n s p d t) := by
  induction n with
  | zero => exact fun s _ _ _ => .refl s
  | succ n ih =>
    intro s p d t
    unfold State.freeChain
    refine .ite (s.keepsPorts_freeFailure p 0) (.ite (s.keepsPorts_freeFailure p 1) ?_)
    split
    · have hfreed (u : State) (c : Prop) [Decidable c] (x : Nat) (h : s.KeepsPorts u) :
          s.KeepsPorts (if c then u else State.freeChain n u p d x) := .ite h (h.trans (ih u p d x))
      refine hfreed _ _ _ ((s.keepsPorts_updPl p _).trans (.ite ?_ (.refl _)))
      exact State.keepsPorts_freeFailure _ p 3
    · exact .refl s

theorem State.keepsPorts_settleShort (p : Nat) : s.KeepsPorts (s.settleShort p) := .ite (.refl s) (s.keepsPorts_updPl p _)

theorem State.keepsPorts_sendPause (i prio time : Nat) : s.KeepsPorts (s.sendPause i prio time) := by
  have hsent : s.KeepsPorts (s.send i (controlFrame (s.portMac i) prio time) false) := .of_eq rfl rfl rfl rfl
  exact hsent.trans (.ite (State.keepsPorts_inc _ (by decide) _) (State.keepsPorts_inc _ (by decide) _))

theorem State.keepsPorts_pauseCheckOne (i prio : Nat) : s.KeepsPorts (s.pauseCheckOne i prio) := by
  unfold State.pauseCheckOne
  simp only
  split
  · exact .ite ((s.keepsPorts_updXoff i _).trans (State.keepsPorts_sendPause _ i prio _)) (.refl s)
  · exact .ite ((s.keepsPorts_updXoff i _).trans (State.keepsPorts_sendPause _ i prio _)) (.refl s)

theorem State.keepsPorts_pauseCheck (i : Nat) : s.KeepsPorts (s.pauseCheck i) := by
  have hclasses : s.KeepsPorts ((bitsOf 8 (s.rd 0x0832 i)).foldl (fun u k => u.pauseCheckOne i k) s) :=
    .foldl (fun u k => u.keepsPorts_pauseCheckOne i k) _ s
  refine .ite (.refl s) (.ite (.refl s) ?_)
  exact .ite (hclasses.trans (State.keepsPorts_pauseCheckOne _ i 8)) hclasses

theorem State.keepsPorts_afterFree (p : Nat) (d : Desc) (before : Nat) : s.KeepsPorts (s.afterFree p d before) :=
  ((s.keepsPorts_settleShort p).trans (State.keepsPorts_pauseCheck _ _)).trans (State.keepsPorts_scrubAt _ p before)

theorem State.keepsPorts_release (p h g e : Nat) : s.KeepsPorts (s.release p h g e) := by
  have hrefused (kind : Nat) : s.KeepsPorts ((s.freeFailure p kind).quarantine p h) :=
    (s.keepsPorts_freeFailure p kind).trans (State.keepsPorts_quarantine _ p h)
  unfold State.release
  refine .ite (s.keepsPorts_freeFailure p 0) ?_
  split
  · exact hrefused 1
  · refine .ite (hrefused 1) (.ite (hrefused 2) ?_)
    have hcounted (c : Prop) [Decidable c] : s.KeepsPorts (if c then (s.inc 0x3C28 p).fault 114 p else s) :=
      .ite ((s.keepsPorts_inc (by decide) p).trans (State.keepsPorts_fault _ _ _)) (.refl s)
    refine .ite ?_ ((hcounted _).trans (State.keepsPorts_updPl _ p _))
    exact (((hcounted _).trans (State.keepsPorts_updPl _ p _)).trans (State.keepsPorts_freeChain 36 _ p _ h)).trans
      (State.keepsPorts_afterFree _ p _ _)

/-! ### Removal from the queues (08 R249, R269, R272) -/

theorem State.keepsPorts_clearIdle (p q : Nat) : s.KeepsPorts (s.clearIdle p q) := .ite (s.keepsPorts_updPl p _) (.refl s)

theorem State.keepsPorts_takeOut (p : Nat) (c : Copy) : s.KeepsPorts (s.takeOut p c) :=
  (s.keepsPorts_updPl p _).trans (State.keepsPorts_clearIdle _ p _)

theorem State.keepsPorts_purgeBad (p k n : Nat) : ∀ s : State, s.KeepsPorts (State.purgeBad p k n s) := by
  induction n with
  | zero => exact fun s => .refl s
  | succ n ih =>
    intro s
    unfold State.purgeBad
    split
    · refine .ite (.trans ?_ (ih _)) (.refl s)
      exact ((s.keepsPorts_takeOut p _).trans (State.keepsPorts_release _ _ _ _ _)).trans (State.keepsPorts_inc _ (by decide) _)
    · exact .refl s

theorem State.keepsPorts_purge (p k : Nat) : s.KeepsPorts (s.purge p k) := State.keepsPorts_purgeBad p k _ s

theorem State.keepsPorts_unqueue (p : Nat) (c : Copy) : s.KeepsPorts (s.unqueue p c) :=
  (s.keepsPorts_takeOut p c).trans (State.keepsPorts_purge _ p _)

theorem State.keepsPorts_unqueueRelease (p : Nat) (c : Copy) : s.KeepsPorts ((s.unqueue p c).release p c.head c.gen c.port) :=
  (s.keepsPorts_unqueue p c).trans (State.keepsPorts_release _ _ _ _ _)

theorem State.keepsPorts_flushDiscard (p : Nat) (c : Copy) : s.KeepsPorts (s.discard p c 0x1A22) :=
  .ite ((s.keepsPorts_unqueueRelease p c).trans (State.keepsPorts_inc _ (by decide) _)) (.refl s)

theorem State.keepsPorts_flush (p : Nat) (l : List Copy) : s.KeepsPorts (s.flush p l) :=
  .foldl (fun u c => .ite (.refl u) (u.keepsPorts_flushDiscard p c)) l s

theorem State.keepsPorts_flushPort (e : Nat) : s.KeepsPorts (s.flushPort e) := .foldl (fun u p => u.keepsPorts_flush p _) [0, 1] s

theorem State.keepsPorts_cutPort (e : Nat) : s.KeepsPorts (s.cutPort e) := by
  have hcut (u : State) (p : Nat) : u.KeepsPorts (match Tab.find? (u.pl p).sending e with
      | some x => u.discard p x.copy 0x1A22
      | none => u) := by
    split
    · exact u.keepsPorts_flushDiscard p _
    · exact .refl u
  have hempty : s.KeepsPorts { s with bonds := Tab.upd Bond.init s.bonds e (fun b => { b with fifo := [], busyUntil := 0 }) } :=
    .of_eq rfl rfl rfl rfl
  exact hempty.trans (.foldl (fun u p => (hcut u p).trans (State.keepsPorts_updPl _ p _)) [0, 1] _)

/-! ### The end of a frame in a plane (04 R101, 08 R267) -/

theorem State.keepsPorts_endLink (p : Nat) (c : Copy) (d : Desc) (body : List Byte) (status : Nat) :
    s.KeepsPorts (s.endLink p c d body status) := by
  unfold State.endLink
  exact s.keepsPorts_updPl p _

theorem byteCounter_high (p e : Nat) : 0x0900 ≤ (byteCounter p e).1 := by
  unfold byteCounter
  simp only
  split <;> exact of_decide_eq_true rfl

theorem State.keepsPorts_countBytes (p len : Nat) (path : List Nat) : s.KeepsPorts (s.countBytes p len path) :=
  .foldl (fun u e => u.keepsPorts_incBy (byteCounter_high p e) _ _) _ s

theorem State.keepsPorts_correctCharge (p : Nat) (c : Copy) (len : Nat) : s.KeepsPorts (s.correctCharge p c len) := by
  unfold State.correctCharge
  simp only
  split
  · exact .ite ((s.keepsPorts_updPl p _).trans (State.keepsPorts_countBytes _ _ _ _)) (.refl s)
  · exact .refl s

theorem State.keepsPorts_setLineEnd (p e len : Nat) : s.KeepsPorts (s.setLineEnd p e len) := by
  unfold State.setLineEnd
  split
  · exact s.keepsPorts_updPl p _
  · exact .refl s

theorem State.keepsPorts_markBad (p h : Nat) : s.KeepsPorts (s.markBad p h) := s.keepsPorts_updPl p _

theorem State.keepsPorts_endBad (p h : Nat) (why : Bad) : s.KeepsPorts (s.endBad p h why) := by
  refine (s.keepsPorts_markBad p h).trans (.foldl (fun u c => ?_) _ _)
  simp only
  split
  · refine .ite ?_ (u.keepsPorts_purge p _)
    have hcounted (v : State) (b : Prop) [Decidable b] : v.KeepsPorts (if b then v.inc 0x1A27 (pInst p c.port) else v) :=
      .ite (v.keepsPorts_inc (by decide) _) (.refl v)
    have hfaulted (v : State) (b : Prop) [Decidable b] : v.KeepsPorts (if b then v else v.fault 130 p) :=
      .ite (.refl v) (v.keepsPorts_fault 130 p)
    have hcorrected (v : State) (len : Nat) : v.KeepsPorts ((v.correctCharge p c len).setLineEnd p ((v.pl p).outputOf c) len) :=
      (v.keepsPorts_correctCharge p c len).trans (State.keepsPorts_setLineEnd _ p _ len)
    exact ((((u.keepsPorts_endLink p c _ _ _).trans (hcorrected _ _)).trans (hcounted _ _)).trans (hfaulted _ _)).trans
      (State.keepsPorts_unqueueRelease _ p c)
  · exact .refl u

theorem State.keepsPorts_markLast (p : Nat) (d : Desc) : s.KeepsPorts (s.markLast p d) := s.keepsPorts_updPl p _

theorem State.keepsPorts_divert (p h : Nat) (d : Desc) : s.KeepsPorts (s.divert p h d) :=
  .ite (s.keepsPorts_updPl p _) (s.keepsPorts_updPl p _)

theorem State.keepsPorts_lastRelease (p h : Nat) (d : Desc) : s.KeepsPorts ((s.markLast p d).release p h d.gen 148) :=
  (s.keepsPorts_markLast p d).trans (State.keepsPorts_release _ _ _ _ _)

theorem State.keepsPorts_storedWhole (p h : Nat) (d : Desc) : s.KeepsPorts (s.storedWhole p h d) :=
  .ite (s.keepsPorts_lastRelease p h d) (.refl s)

theorem State.keepsPorts_settleReception (p h : Nat) : s.KeepsPorts (s.settleReception p h) := by
  unfold State.settleReception
  simp only
  split
  · refine .ite (.refl s) (.ite ((s.keepsPorts_endBad p h .ingress).trans ?_) (s.keepsPorts_storedWhole p h _))
    split
    · exact .ite ((State.keepsPorts_divert _ p h _).trans (State.keepsPorts_storedWhole _ p h _)) (State.keepsPorts_lastRelease _ p h _)
    · exact .refl _
  · exact .refl s

theorem State.keepsPorts_lengthKnown (p h len : Nat) : s.KeepsPorts (s.lengthKnown p h len) := by
  refine .foldl (fun u c => ?_) _ s
  have hcorrected : u.KeepsPorts ((u.incBy 0x1A1A (qInst p c.queue) len).correctCharge p c len) :=
    (u.keepsPorts_incBy (by decide) _ _).trans (State.keepsPorts_correctCharge _ p c len)
  refine .ite hcorrected (.ite (hcorrected.trans ?_) hcorrected)
  exact (State.keepsPorts_unqueueRelease _ p c).trans (State.keepsPorts_inc _ (by decide) _)

theorem State.keepsPorts_planeEnd (p port seq : Nat) (bytes : List Byte) (bad oversize : Bool) :
    s.KeepsPorts (s.planeEnd p port seq bytes bad oversize) := by
  unfold State.planeEnd
  extract_lets hit upd s1 waiting s2 s3
  have hlearn : s.KeepsPorts s1 := s.keepsPorts_updPl p _
  have hcount : s1.KeepsPorts s2 := .foldl (fun u c => u.keepsPorts_incBy (by decide) _ _) _ s1
  have hcounted : s2.KeepsPorts s3 := s2.keepsPorts_updPl p _
  refine ((hlearn.trans hcount).trans hcounted).trans ?_
  simp only
  split
  · refine (s3.keepsPorts_updPl p _).trans (.trans (.ite (.refl _) ?_) (State.keepsPorts_settleReception _ p _))
    exact State.keepsPorts_lengthKnown _ p _ _
  · exact .refl s3

theorem State.keepsPorts_endInPlanes (i : Nat) (f : RxFrame) (bytes : List Byte) (bad oversize : Bool) :
    s.KeepsPorts (s.endInPlanes i f bytes bad oversize) := by
  unfold State.endInPlanes
  split
  · exact .foldl (fun u p => u.keepsPorts_planeEnd p i _ bytes bad oversize) f.planes s
  · exact .refl s

end

end Sys2Proof.Machine
end

section
/-! The link of a port (04 R94), its laser (R95 to R99) and the temperature of its group (R131). -/

namespace Sys2Proof.Machine

variable {s : State} {i : Nat}

/-! ### A link that goes down (R94, 08 R269) -/

theorem State.keepsPorts_clearRx_of_idle (h : (s.port i).rx = none) : (s.clearRx i).KeepsPorts s where
  rc := rfl
  low _ _ _ _ := rfl
  port j := by
    by_cases hj : j = i
    · rw [hj, State.clearRx, State.port_updPort_same, ← h]
    · rw [State.clearRx, State.port_updPort_ne _ _ hj]
  faulted _ hb := hb

theorem State.keepsPorts_stopReception (s : State) (i : Nat) : (s.clearRx i).KeepsPorts (s.stopReception i) := by
  unfold State.stopReception
  split
  · exact State.keepsPorts_endInPlanes _ i _ _ true false
  · exact State.keepsPorts_clearRx_of_idle ‹_›

/-- A port down, whose reception and transmission have stopped. -/
def State.cutOff (s : State) (i : Nat) : State := (((s.stopReception i).setLink i 1).cutPort i).flushPort i

theorem State.keepsPorts_cutOff (s : State) (i : Nat) : ((s.stopReception i).setLink i 1).KeepsPorts (s.cutOff i) :=
  (State.keepsPorts_cutPort _ i).trans (State.keepsPorts_flushPort _ i)

theorem State.cutOff_rc (s : State) (i : Nat) : (s.cutOff i).rc = s.rc :=
  (s.keepsPorts_cutOff i).rc.trans ((State.setLink_rc _ i 1).trans (s.keepsPorts_stopReception i).rc)

theorem State.port_cutOff (s : State) (i : Nat) :
    (s.cutOff i).port i = { s.port i with rx := none, xoff := ((s.cutOff i).port i).xoff } := by
  have hstop := (s.keepsPorts_stopReception i).port i
  have hlink : ((s.stopReception i).setLink i 1).port i = (s.stopReception i).port i := by
    unfold State.port; rw [State.setLink_ports]
  rw [State.clearRx, State.port_updPort_same] at hstop
  refine ((s.keepsPorts_cutOff i).port i).trans ?_
  rw [hlink, hstop]

theorem State.link_cutOff (s : State) (hi : i < 2 ^ 32) : (s.cutOff i).link i = 1 :=
  ((s.keepsPorts_cutOff i).low 0x0805 i (by decide) hi).trans (State.link_setLink_same _ hi (by decide))

theorem State.rd_cutOff (s : State) (hi : i < 2 ^ 32) {p j : Nat} (hp : p < 0x0900) (hj : j < 2 ^ 32) (hlink : p ≠ 0x0805)
    (hstamp : p ≠ 0x0809) : (s.cutOff i).rd p j = s.rd p j :=
  ((s.keepsPorts_cutOff i).low p j hp hj).trans
    ((State.rd_setLink _ hi hj hlink hstamp).trans ((s.keepsPorts_stopReception i).low p j hp hj))

theorem State.faulted_cutOff {b : Nat} (h : Faulted s b) (i : Nat) : Faulted (s.cutOff i) b := by
  refine (s.keepsPorts_cutOff i).faulted b ?_
  unfold Faulted
  rw [State.setLink_faults]
  exact (s.keepsPorts_stopReception i).faulted b h

theorem State.dropLink_eq (s : State) (i : Nat) :
    s.dropLink i = (((s.cutOff i).wr 0x0806 i ((s.cutOff i).rd 0x0801 i)).quietPort i).updPort i
      (fun q => { q with dwellSince := (s.cutOff i).rc, finishing := none }) := rfl

theorem State.port_dropLink (s : State) (i : Nat) :
    (s.dropLink i).port i = { s.port i with
      rx := none, pauseUntil := none, pfcUntil := [], pfcSince := [], pfcIgnore := [], xoff := []
      step := ⟨(s.port i).step.exchange, 0, 0, 0, 0⟩, dwellSince := s.rc, holdDrops := [], finishing := none } := by
  rw [State.dropLink_eq, State.port_updPort_same, State.quietPort, State.port_wr, State.port_updPort_same, State.port_wr,
    State.port_cutOff, State.cutOff_rc]

theorem State.rd_dropLink (s : State) (hi : i < 2 ^ 32) {p j : Nat} (hj : j < 2 ^ 32) (hspeed : p ≠ 0x0806) (hstep : p ≠ 0x0840) :
    (s.dropLink i).rd p j = (s.cutOff i).rd p j := by
  rw [State.dropLink_eq, State.rd_updPort, State.quietPort, State.rd_wr_pid _ _ hi hj hstep, State.rd_updPort,
    State.rd_wr_pid _ _ hi hj hspeed]

theorem State.link_dropLink (s : State) (hi : i < 2 ^ 32) : (s.dropLink i).link i = 1 :=
  (s.rd_dropLink hi hi (by decide) (by decide)).trans (s.link_cutOff hi)

theorem State.speed_dropLink (s : State) (hi : i < 2 ^ 32) : (s.dropLink i).rd 0x0806 i = s.rd 0x0801 i % 2 ^ 8 := by
  rw [State.dropLink_eq, State.rd_updPort, State.quietPort, State.rd_wr_pid _ _ hi hi (by decide), State.rd_updPort,
    State.rd_wr_same, s.rd_cutOff hi (by decide) hi (by decide) (by decide)]
  rfl

theorem State.faulted_dropLink {b : Nat} (h : Faulted s b) (i : Nat) : Faulted (s.dropLink i) b := by
  unfold Faulted
  rw [State.dropLink_eq, State.updPort_faults, State.quietPort, State.wr_faults, State.updPort_faults, State.wr_faults]
  exact State.faulted_cutOff h i

theorem linkDown_due {status lasted : Nat} (hup : s.link i = 3) (hlasted : s.rd 0x080A i * 400 ≤ lasted) :
    linkDown i status lasted s = (s.wr 0x0807 i status).dropLink i := if_pos ⟨hup, hlasted⟩

theorem linkDown_idle {lasted : Nat} (h : s.link i ≠ 3 ∨ lasted < s.rd 0x080A i * 400) (status : Nat) :
    linkDown i status lasted s = s := by
  refine if_neg ?_
  rintro ⟨hup, hlasted⟩
  rcases h with h | h
  · exact h hup
  · omega

/-! ### A link that comes up (R94) -/

/-- A port that has come up. -/
def State.linkedUp (s : State) (i status : Nat) : State :=
  (((State.setLink { s with synce := { s.synce with heard := Tab.upd s.clk s.synce.heard i id } } i 3).inc 0x0808 i).wr 0x0807 i
    status).updPort i (fun q => { q with dwellSince := s.rc, finishing := none })

theorem linkUp_due {status clean : Nat} (hdown : s.link i = 1 ∨ s.link i = 2) (hon : s.flag 0x0800 i = true)
    (htrain : (s.port i).training = true) (hgroup : s.isOn (domGroup (groupOf i)) = true)
    (hclean : s.rd 0x0848 i * 400000 ≤ clean) (hfast : s.coreFastEnough = true) :
    linkUp i status clean s = s.linkedUp i status := if_pos ⟨hdown, hon, htrain, hgroup, hclean, hfast⟩

theorem linkUp_idle {clean : Nat}
    (h : s.flag 0x0800 i = false ∨ (s.port i).training = false ∨ clean < s.rd 0x0848 i * 400000 ∨ s.coreFastEnough = false ∨
      s.isOn (domGroup (groupOf i)) = false) (status : Nat) : linkUp i status clean s = s := by
  refine if_neg ?_
  rintro ⟨-, hon, htrain, hgroup, hclean, hfast⟩
  rcases h with h | h | h | h | h
  · simp [h] at hon
  · simp [h] at htrain
  · omega
  · simp [h] at hfast
  · simp [h] at hgroup

theorem State.sameBut_linkedUp (s : State) (hi : i < 2 ^ 32) (status : Nat) :
    SameBut [(0x0805, i), (0x0807, i), (0x0808, i), (0x0809, i)] s (s.linkedUp i status) := by
  have hheard : SameBut [(0x0805, i), (0x0807, i), (0x0808, i), (0x0809, i)] s
      { s with synce := { s.synce with heard := Tab.upd s.clk s.synce.heard i id } } := SameBut.refl _ s
  exact ((hheard.setLink hi (by simp) (by simp)).inc hi (by simp)).wr hi (by simp)

theorem State.rd_linkedUp (s : State) (hi : i < 2 ^ 32) {status : Nat} (hstatus : status < 2 ^ 8) :
    (s.linkedUp i status).link i = 3 ∧ (s.linkedUp i status).rd 0x0808 i = (s.rd 0x0808 i + 1) % 2 ^ 32 ∧
      (s.linkedUp i status).rd 0x0807 i = status ∧ ((s.linkedUp i status).port i).dwellSince = s.rc := by
  unfold State.linkedUp State.link
  simp only [State.rd_updPort]
  refine ⟨?_, ?_, ?_, ?_⟩
  · rw [State.rd_wr_pid _ _ hi hi (by decide), State.rd_inc_pid _ hi hi (by decide)]
    exact State.link_setLink_same _ hi (by decide)
  · rw [State.rd_wr_pid _ _ hi hi (by decide), State.rd_inc_same, State.rd_setLink _ hi hi (by decide) (by decide)]
    rfl
  · exact (State.rd_wr_same _ _ _ _).trans (Nat.mod_eq_of_lt hstatus)
  · rw [State.port_updPort_same]

/-! ### The laser bank (R95 to R99) -/

theorem SwapCause.outgoing_eq (c : SwapCause) : c.outgoing = if c = .loss then 5 else 4 := by cases c <;> rfl

theorem State.swapOrWait_swaps {k : Nat} (hwarm : s.laserIn (groupOf i) 1 = some k) (hwait : (s.port i).swapWait ≠ some .loss)
    (c : SwapCause) : s.swapOrWait i c = s.swapTo i k (if c = .loss then 5 else 4) := by
  unfold State.swapOrWait
  rw [if_neg hwait, hwarm, SwapCause.outgoing_eq]

theorem State.swapOrWait_waits (hnone : s.laserIn (groupOf i) 1 = none) (hwait : (s.port i).swapWait ≠ some .loss) (c : SwapCause) :
    s.swapOrWait i c = s.updPort i (fun q => { q with swapWait := some c }) := by
  unfold State.swapOrWait
  rw [if_neg hwait, hnone]

section
variable {g : Nat} (hi : i < 2 ^ 32) (hg : g < 2 ^ 32) (rise : Nat)
include hi

theorem State.isOn_wr_bias (s : State) {d : Nat} (hd : d < 16) : (s.wr 0x0812 i rise).isOn d = s.isOn d :=
  congrArg (· == 2) (State.rd_wr_pid s rise hi (by decide) (by omega))

include hg

theorem State.laser_wr_bias (s : State) (k : Nat) : (s.wr 0x0812 i rise).laser g k = s.laser g k :=
  State.rd_wr_pid s rise hi hg (by omega)

theorem State.laserIn_wr_bias (s : State) (v : Nat) : (s.wr 0x0812 i rise).laserIn g v = s.laserIn g v := by
  unfold State.laserIn
  simp only [State.laser_wr_bias hi hg]

theorem State.hasSpare_wr_bias (s : State) : (s.wr 0x0812 i rise).hasSpare g = s.hasSpare g := by
  unfold State.hasSpare
  simp only [State.laserIn_wr_bias hi hg]

end

/-- A laser in service whose bias rise calls for a swap (R97). -/
structure WornOut (s : State) (i rise : Nat) : Prop where
  group : s.isOn (domGroup (groupOf i)) = true
  rise : 10 * s.rd 0x082A (groupOf i) < rise
  automatic : s.flag 0x0829 (groupOf i) = true
  inService : s.laser (groupOf i) (s.rd 0x0810 i) = 0

theorem wornOut_wr_bias (hi : i < 144) (rise : Nat) : WornOut (s.wr 0x0812 i rise) i rise ↔ WornOut s i rise := by
  have hg : groupOf i < 8 := Nat.div_lt_of_lt_mul hi
  have hother {p j : Nat} (hj : j < 2 ^ 32) (hp : p ≠ 0x0812) : (s.wr 0x0812 i rise).rd p j = s.rd p j :=
    State.rd_wr_pid s rise (by omega) hj hp
  have hgroup := State.isOn_wr_bias (i := i) (by omega) rise s (d := domGroup (groupOf i)) (by unfold domGroup; omega)
  have hautomatic : (s.wr 0x0812 i rise).flag 0x0829 (groupOf i) = s.flag 0x0829 (groupOf i) :=
    congrArg (· != 0) (hother (by omega) (by decide))
  have hmodulator := hother (p := 0x0810) (j := i) (by omega) (by decide)
  have hthreshold := hother (p := 0x082A) (j := groupOf i) (by omega) (by decide)
  have hlaser := State.laser_wr_bias (i := i) (g := groupOf i) (by omega) (by omega) rise s (s.rd 0x0810 i)
  constructor
  · rintro ⟨hon, hpast, hset, hlit⟩
    exact ⟨hgroup ▸ hon, hthreshold ▸ hpast, hautomatic ▸ hset, by rwa [hmodulator, hlaser] at hlit⟩
  · rintro ⟨hon, hpast, hset, hlit⟩
    exact ⟨hgroup.trans hon, by rwa [hthreshold], hautomatic.trans hset, by rwa [hmodulator, hlaser]⟩

theorem laserSwapWearOut_due (hi : i < 144) {rise : Nat} (h : WornOut s i rise) :
    laserSwapWearOut i rise s =
      if s.hasSpare (groupOf i) = true then (s.wr 0x0812 i rise).swapOrWait i .wearOut
      else ((s.wr 0x0812 i rise).fault 66 (groupOf i)).swapOrWait i .wearOut := by
  obtain ⟨hgroup, hrise, hautomatic, hservice⟩ := (wornOut_wr_bias hi rise).2 h
  have hg : groupOf i < 8 := Nat.div_lt_of_lt_mul hi
  have hspare := State.hasSpare_wr_bias (i := i) (g := groupOf i) (by omega) (by omega) rise s
  refine (if_pos ⟨hgroup, hrise, hautomatic, hservice⟩).trans ?_
  simp only [hspare]
  split <;> rfl

theorem laserSwapWearOut_notDue (hi : i < 144) {rise : Nat}
    (h : s.flag 0x0829 (groupOf i) = false ∨ rise ≤ 10 * s.rd 0x082A (groupOf i) ∨ s.isOn (domGroup (groupOf i)) = false) :
    laserSwapWearOut i rise s = s.wr 0x0812 i rise := by
  refine if_neg ?_
  rintro ⟨hgroup, hrise, hautomatic, hservice⟩
  obtain ⟨hgroup, hrise, hautomatic, -⟩ := (wornOut_wr_bias hi rise).1 ⟨hgroup, hrise, hautomatic, hservice⟩
  rcases h with h | h | h
  · simp [h] at hautomatic
  · omega
  · simp [h] at hgroup

/-- A port whose laser has lost its output, with no warm spare (R99): the laser has failed, and the swap waits. -/
def State.laserFailed (s : State) (i : Nat) : State :=
  ((s.setLaser (groupOf i) (s.rd 0x0810 i) 5).fault 64 (groupOf i)).updPort i (fun q => { q with swapWait := some .loss })

/-- The link and the transmitter of a port whose laser has failed. -/
def State.lightLost (s : State) (i : Nat) : State :=
  (if s.link i = 3 ∨ s.link i = 4 then s.dropLink i else if s.link i = 2 then s.setLink i 1 else s).updPort i
    (fun q => { q with training := false })

theorem laserLossOfOutput_spare {k : Nat} (hgroup : s.isOn (domGroup (groupOf i)) = true)
    (hservice : s.laser (groupOf i) (s.rd 0x0810 i) = 0) (hwarm : s.laserIn (groupOf i) 1 = some k) :
    laserLossOfOutput i s = s.swapTo i k 5 := by
  refine (if_pos ⟨hgroup, hservice⟩).trans ?_
  rw [hwarm]

theorem laserLossOfOutput_noSpare (hgroup : s.isOn (domGroup (groupOf i)) = true)
    (hservice : s.laser (groupOf i) (s.rd 0x0810 i) = 0) (hnone : s.laserIn (groupOf i) 1 = none) :
    laserLossOfOutput i s = (s.laserFailed i).lightLost i := by
  refine (if_pos ⟨hgroup, hservice⟩).trans ?_
  rw [hnone]
  rfl

theorem laserLossOfOutput_idle
    (h : s.isOn (domGroup (groupOf i)) = false ∨ s.laser (groupOf i) (s.rd 0x0810 i) ≠ 0) : laserLossOfOutput i s = s := by
  refine if_neg ?_
  rintro ⟨hgroup, hservice⟩
  rcases h with h | h
  · simp [h] at hgroup
  · exact h hservice

theorem State.port_laserFailed (s : State) (i : Nat) : (s.laserFailed i).port i = { s.port i with swapWait := some .loss } := by
  unfold State.laserFailed
  rw [State.port_updPort_same]
  unfold State.port
  rw [State.fault_ports]
  rfl

theorem State.sameBut_laserFailed (s : State) (hi : i < 144) :
    SameBut [(0x0815 + s.rd 0x0810 i, groupOf i), (0x3E03, 0), (0x3E04, 0)] s (s.laserFailed i) := by
  have hg : groupOf i < 8 := Nat.div_lt_of_lt_mul hi
  exact ((SameBut.refl _ s).wr (by omega) (by simp)).fault (by simp) (by simp) 64 (groupOf i)

theorem State.link_laserFailed (s : State) (hi : i < 144) : (s.laserFailed i).link i = s.link i :=
  s.sameBut_laserFailed hi 0x0805 i (by omega) (by simp; omega)

theorem Catalogue.laserState_fits {k v : Nat} (hk : k < 20) (hv : v < 2 ^ 8) : v < 2 ^ Catalogue.width (0x0815 + k) := by
  have hbyte : ∀ j < 20, Catalogue.width (0x0815 + j) = 8 := by decide
  rwa [hbyte k hk]

theorem State.laser_laserFailed (s : State) (hi : i < 144) (hbank : s.rd 0x0810 i < 20) :
    (s.laserFailed i).laser (groupOf i) (s.rd 0x0810 i) = 5 := by
  have hg : groupOf i < 8 := Nat.div_lt_of_lt_mul hi
  calc (s.laserFailed i).laser (groupOf i) (s.rd 0x0810 i)
    _ = (s.setLaser (groupOf i) (s.rd 0x0810 i) 5).laser (groupOf i) (s.rd 0x0810 i) :=
        State.rd_fault _ _ _ (by omega) (by omega) (by omega)
    _ = 5 := (State.rd_wr_same _ _ _ _).trans (Nat.mod_eq_of_lt (Catalogue.laserState_fits hbank (by decide)))

theorem State.faulted_laserFailed (s : State) (i : Nat) : Faulted (s.laserFailed i) 64 := State.faulted_fault _ _ _

theorem State.port_lightLost (s : State) (i : Nat) :
    ((s.lightLost i).port i).training = false ∧ ((s.lightLost i).port i).swapWait = (s.port i).swapWait := by
  unfold State.lightLost
  rw [State.port_updPort_same]
  refine ⟨rfl, ?_⟩
  split
  · rw [State.port_dropLink]
  · split
    · unfold State.port
      rw [State.setLink_ports]
    · rfl

theorem State.link_lightLost (s : State) (hi : i < 2 ^ 32) :
    (s.lightLost i).link i = if s.link i = 2 ∨ s.link i = 3 ∨ s.link i = 4 then 1 else s.link i := by
  unfold State.lightLost
  change State.link (if _ then _ else _) i = _
  by_cases hup : s.link i = 3 ∨ s.link i = 4
  · rw [if_pos hup, if_pos (.inr hup), s.link_dropLink hi]
  · rw [if_neg hup]
    by_cases htrain : s.link i = 2
    · rw [if_pos htrain, if_pos (.inl htrain), State.link_setLink_same s hi (by decide)]
    · rw [if_neg htrain, if_neg (by omega)]

theorem State.laser_lightLost (s : State) (hi : i < 2 ^ 32) {g k : Nat} (hg : g < 2 ^ 32) (hk : k < 20) :
    (s.lightLost i).laser g k = s.laser g k := by
  unfold State.lightLost
  change State.laser (if _ then _ else _) g k = _
  unfold State.laser
  split
  · exact (s.rd_dropLink hi hg (by omega) (by omega)).trans (s.rd_cutOff hi (by omega) hg (by omega) (by omega))
  · split
    · exact s.rd_setLink hi hg (by omega) (by omega)
    · rfl

theorem State.faulted_lightLost {b : Nat} (h : Faulted s b) (i : Nat) : Faulted (s.lightLost i) b := by
  unfold State.lightLost
  change Faulted (if _ then _ else _) b
  split
  · exact State.faulted_dropLink h i
  · split
    · unfold Faulted
      rwa [State.setLink_faults]
    · exact h

theorem State.sameBut_lightLost_of_down (h : s.link i = 1) (keys : List (Nat × Nat)) : SameBut keys s (s.lightLost i) := by
  unfold State.lightLost
  rw [if_neg (by omega), if_neg (by omega)]
  exact SameBut.refl keys s

theorem swapHitEnd_hit {t : Nat} (h : (s.port i).swapHit = some t) :
    swapHitEnd i s = (s.wr 0x082D (groupOf i) ((s.rc - t) * 5 / 2)).updPort i (fun q => { q with swapHit := none }) := by
  unfold swapHitEnd
  rw [h]

theorem swapHitEnd_idle (h : (s.port i).swapHit = none) : swapHitEnd i s = s := by
  unfold swapHitEnd
  rw [h]

theorem spareWarmed_kept {g k : Nat} (hwarming : s.laserIn g 3 = some k) (hwaits : s.waitingSwap g = none) :
    spareWarmed g s = s.setLaser g k 1 := by
  have hwaits' : (s.setLaser g k 1).waitingSwap g = none := hwaits
  simp only [spareWarmed, hwarming, hwaits']

theorem spareWarmed_taken {g k : Nat} {c : SwapCause} (hwarming : s.laserIn g 3 = some k) (hwaits : s.waitingSwap g = some (i, c)) :
    spareWarmed g s =
      let u := (s.setLaser g k 1).swapTo i k (if c = .loss then 5 else 4)
      if c = .loss ∧ u.flag 0x0800 i = true then u.light i else u := by
  have hwaits' : (s.setLaser g k 1).waitingSwap g = some (i, c) := hwaits
  simp only [spareWarmed, hwarming, hwaits', SwapCause.outgoing_eq]

theorem spareWarmed_idle {g : Nat} (h : s.laserIn g 3 = none) : spareWarmed g s = s := by
  unfold spareWarmed
  rw [h]

/-! ### The temperature of a port group (R131) -/

theorem portGroupOvertemperature_passes {g temp : Nat} (hwas : signed 16 (s.rd 0x082E g) ≤ 1350) (hnow : 1350 < signed 16 temp) :
    portGroupOvertemperature g temp s = (s.wr 0x082E g temp).fault 67 g := if_pos ⟨hwas, hnow⟩

theorem portGroupOvertemperature_shown {g temp : Nat} (h : signed 16 temp ≤ 1350 ∨ 1350 < signed 16 (s.rd 0x082E g)) :
    portGroupOvertemperature g temp s = s.wr 0x082E g temp :=
  if_neg fun hx => h.elim (Int.not_le.2 hx.2) (Int.not_lt.2 hx.1)

end Sys2Proof.Machine

open Sys2Proof Sys2Proof.Machine

/-- Settles O8: each clause is one equation of the command's effect above, at the tick; what a link that goes down keeps rests on
`State.KeepsPorts`, and a laser's loss of output with no spare on the lemmas of `State.laserFailed` and `State.lightLost`. -/
theorem linkChangesFollowTheirDelays : Obligations.LinkChangesFollowTheirDelays := by
  unfold Obligations.LinkChangesFollowTheirDelays
  have hport (i : PortNo) : i.val < 2 ^ 32 := Nat.lt_trans i.isLt (by decide)
  have hstatus (v : BitVec 4) : v.toNat < 2 ^ 8 := Nat.lt_trans v.isLt (by decide)
  refine ⟨?_, ?_, ?_, ?_, ?_, ?_, ?_, ?_, ?_, ?_, ?_, ?_, ?_, ?_, ?_, ?_, ?_, ?_, ?_⟩
  · exact fun s el lasted i v hup hlasted => State.run_of_eq (linkDown_due (s := s.tick el) hup hlasted)
  · intro s el lasted i v hup hlasted
    let u := (s.tick el).wr 0x0807 i.val v.toNat
    have hread : u.rd 0x0807 i.val = v.toNat := (State.rd_wr_same _ _ _ _).trans (Nat.mod_eq_of_lt (hstatus v))
    have hspeed : u.rd 0x0801 i.val = s.rd 0x0801 i.val := State.rd_wr_pid _ _ (hport i) (hport i) (by decide)
    have hdown := u.port_dropLink i.val
    refine ⟨_, State.run_of_eq (linkDown_due (s := s.tick el) hup hlasted), ?_⟩
    simp only [State.rd_ran, State.port_ran, State.link_ran]
    refine ⟨u.link_dropLink (hport i), ?_, ?_, ?_, ?_, ?_⟩
    · exact ((u.rd_dropLink (hport i) (hport i) (by decide) (by decide)).trans
        (u.rd_cutOff (hport i) (by decide) (hport i) (by decide) (by decide))).trans hread
    · exact (u.speed_dropLink (hport i)).trans (congrArg (· % 2 ^ 8) hspeed)
    · exact congrArg Port.rx hdown
    · exact congrArg Port.xoff hdown
    · exact congrArg Port.dwellSince hdown
  · exact fun s el lasted i v h => State.run_of_same (linkDown_idle (s := s.tick el) h v.toNat)
  · intro s el clean i v hdown hon htrain hgroup hclean hfast
    obtain ⟨hup, hcount, hread, hdwell⟩ := (s.tick el).rd_linkedUp (hport i) (hstatus v)
    exact ⟨_, State.run_of_eq (linkUp_due (s := s.tick el) hdown hon htrain hgroup hclean hfast), hup, hcount, hread, hdwell,
      (s.tick el).sameBut_linkedUp (hport i) v.toNat⟩
  · exact fun s el clean i v h => State.run_of_same (linkUp_idle (s := s.tick el) h v.toNat)
  · intro s el i r hgroup hrise hautomatic hservice
    have hworn : WornOut (s.tick el) i.val r.toNat := ⟨hgroup, hrise, hautomatic, hservice⟩
    exact State.run_of_eq (laserSwapWearOut_due i.isLt hworn)
  · exact fun s k i c hwarm hwait => State.swapOrWait_swaps hwarm hwait c
  · exact fun s i c hnone hwait => State.swapOrWait_waits hnone hwait c
  · exact fun s el i r h => State.run_of_eq (laserSwapWearOut_notDue (s := s.tick el) i.isLt h)
  · exact fun s el k i hgroup hservice hwarm => State.run_of_eq (laserLossOfOutput_spare (s := s.tick el) hgroup hservice hwarm)
  · intro s el i hgroup hservice hnone hbank
    let u := (s.tick el).laserFailed i.val
    have hg : i.val / 18 < 2 ^ 32 := Nat.lt_of_le_of_lt (Nat.div_le_self _ _) (hport i)
    have hlink : u.link i.val = s.link i.val := (s.tick el).link_laserFailed i.isLt
    have hfailed := congrArg Port.swapWait ((s.tick el).port_laserFailed i.val)
    obtain ⟨hdark, hwait⟩ := u.port_lightLost i.val
    refine ⟨_, State.run_of_eq (laserLossOfOutput_noSpare (s := s.tick el) hgroup hservice hnone), ?_⟩
    simp only [State.laser_ran, State.port_ran, State.link_ran]
    refine ⟨?_, hwait.trans hfailed, hdark, ?_, ?_, ?_⟩
    · exact (u.laser_lightLost (hport i) hg hbank).trans ((s.tick el).laser_laserFailed i.isLt hbank)
    · exact hlink ▸ u.link_lightLost (hport i)
    · exact State.faulted_lightLost ((s.tick el).faulted_laserFailed i.val) i.val
    · intro hdown p j hj hp
      exact (State.sameBut_lightLost_of_down (s := u) (hlink.trans hdown) _ p j hj hp).trans
        ((s.tick el).sameBut_laserFailed i.isLt p j hj hp)
  · exact fun s el i h => State.run_of_same (laserLossOfOutput_idle (s := s.tick el) h)
  · exact fun s el t0 i h => State.run_of_eq (swapHitEnd_hit (s := s.tick el) h)
  · exact fun s el i h => State.run_of_same (swapHitEnd_idle (s := s.tick el) h)
  · exact fun s el k g hwarming hwaits => State.run_of_eq (spareWarmed_kept (s := s.tick el) hwarming hwaits)
  · exact fun s el k i g c hwarming hwaits => State.run_of_eq (spareWarmed_taken (s := s.tick el) hwarming hwaits)
  · exact fun s el g h => State.run_of_same (spareWarmed_idle (s := s.tick el) h)
  · exact fun s el g v hwas hnow => State.run_of_eq (portGroupOvertemperature_passes (s := s.tick el) hwas hnow)
  · exact fun s el g v h => State.run_of_eq (portGroupOvertemperature_shown (s := s.tick el) h)
end

section
/-! MAC control frames, the pause timers and the PFC watchdog (04 R103 to R109), and the drops and the memory errors that set a fault
bit (R131). -/

namespace Sys2Proof.Machine

variable {s : State} {i k : Nat}

/-! ### The frame at the MAC (R100, R103) -/

@[simp] theorem State.rd_noteRx (s : State) (i len p j : Nat) : (s.noteRx i len).rd p j = s.rd p j := rfl

theorem State.rd_countReceived (s : State) {i p j : Nat} (hi : i < 2 ^ 32) (hj : j < 2 ^ 32) (hp : p < 0x3C00) (len da : Nat) :
    (s.countReceived i len da).rd p j = s.rd p j := by
  have hcounted : ((s.inc 0x3C00 i).incBy 0x3C01 i len).rd p j = s.rd p j :=
    (State.rd_wr_pid _ _ hi hj (by omega)).trans (State.rd_inc_pid _ hi hj (by omega))
  unfold State.countReceived
  simp only
  split
  · rw [State.rd_inc_pid _ hi hj (by omega), hcounted]
  · split
    · rw [State.rd_inc_pid _ hi hj (by omega), hcounted]
    · exact hcounted

theorem macResult_runt {len : Nat} (h : len ≤ 63) (max : Nat) (good : Bool) : macResult len max good = .runt := if_pos h

theorem macResult_oversize {len max : Nat} (hlen : 64 ≤ len) (h : max < len) (good : Bool) : macResult len max good = .oversize :=
  (if_neg (by omega)).trans (if_pos h)

theorem macResult_fits {len max : Nat} (hlen : 64 ≤ len) (h : len ≤ max) (good : Bool) :
    macResult len max good = if good then .good else .bad :=
  (if_neg (by omega)).trans (if_neg (by omega))

theorem State.controlReceived_runt {bs : List Byte} (h : bs.length ≤ 63) (good : Bool) :
    s.controlReceived i bs good = (s.noteRx i bs.length).inc 0x3C08 i := by
  simp [State.controlReceived, macResult_runt h]

theorem State.controlReceived_oversize {bs : List Byte} (hlen : 64 ≤ bs.length) (h : s.rd 0x0803 i < bs.length) (good : Bool) :
    s.controlReceived i bs good = (s.noteRx i bs.length).inc 0x3C0A i := by
  simp [State.controlReceived, macResult_oversize hlen h]

theorem State.controlReceived_bad {bs : List Byte} (hlen : 64 ≤ bs.length) (h : bs.length ≤ s.rd 0x0803 i) :
    s.controlReceived i bs false = (s.noteRx i bs.length).inc 0x3C09 i := by
  simp [State.controlReceived, macResult_fits hlen h]

theorem State.controlReceived_good {bs : List Byte} (hlen : 64 ≤ bs.length) (h : bs.length ≤ s.rd 0x0803 i) :
    s.controlReceived i bs true = ((s.noteRx i bs.length).countReceived i bs.length (getBE bs 0 6)).macControl i bs := by
  simp [State.controlReceived, macResult_fits hlen h]

/-- A port takes a MAC control frame: it receives, and is in no other frame (R103). -/
structure TakesControl (s : State) (i : Nat) (bs : List Byte) : Prop where
  receives : s.receives i = true
  free : (s.port i).rx = none
  control : getBE bs 12 2 = 0x8808

theorem macControlFrame_taken {bs : List Byte} (h : TakesControl s i bs) (good : Bool) :
    macControlFrame i bs good s = s.controlReceived i bs good := if_pos ⟨h.receives, h.free, h.control⟩

theorem macControlFrame_good {bs : List Byte} (h : TakesControl s i bs) (hlen : 64 ≤ bs.length) (hmax : bs.length ≤ s.rd 0x0803 i) :
    macControlFrame i bs true s = ((s.noteRx i bs.length).countReceived i bs.length (getBE bs 0 6)).macControl i bs :=
  (macControlFrame_taken h true).trans (State.controlReceived_good hlen hmax)

theorem macControlFrame_left {bs : List Byte} (h : s.receives i = false ∨ (s.port i).rx.isSome = true ∨ getBE bs 12 2 ≠ 0x8808)
    (good : Bool) : macControlFrame i bs good s = s := by
  refine if_neg ?_
  rintro ⟨hreceives, hfree, hcontrol⟩
  rcases h with h | h | h
  · simp [h] at hreceives
  · simp [hfree] at h
  · exact h hcontrol

/-! ### Its effect (R104, R109) -/

theorem State.macControl_pause {bs : List Byte} (hop : getBE bs 14 2 = 1) :
    s.macControl i bs = if s.flag 0x0830 i then (s.inc 0x3C0C i).loadPause i (getBE bs 16 2) else s.inc 0x3C10 i := if_pos hop

theorem State.macControl_pfc {bs : List Byte} (hop : getBE bs 14 2 = 0x0101) :
    s.macControl i bs = (bitsOf 8 (getBE bs 16 2)).foldl (fun u k => u.pfcOne i k (getBE bs (18 + 2 * k) 2)) s :=
  (if_neg (by omega)).trans (if_pos hop)

theorem State.macControl_unknown {bs : List Byte} (hpause : getBE bs 14 2 ≠ 1) (hpfc : getBE bs 14 2 ≠ 0x0101) :
    s.macControl i bs = s.inc 0x3C11 i := (if_neg hpause).trans (if_neg hpfc)

theorem State.pfcOne_loads (hon : (s.rd 0x0832 i).testBit k = true) (hheard : Tab.find? (s.port i).pfcIgnore k = none) (quanta : Nat) :
    s.pfcOne i k quanta = s.loadPfc i k quanta := by
  simp [State.pfcOne, hon, hheard]

theorem State.pfcOne_discarded (hoff : (s.rd 0x0832 i).testBit k = false) (quanta : Nat) :
    s.pfcOne i k quanta = s.inc 0x3C10 i := if_pos hoff

/-! ### Timers (R105) and the watchdog (R109) -/

theorem pauseTimerExpiry_port_due {t : Nat} (hpaused : (s.port i).pauseUntil = some t) (hdue : t ≤ s.rc) :
    pauseTimerExpiry i 8 s = s.updPort i (fun q => { q with pauseUntil := none }) := by
  simp [pauseTimerExpiry, hpaused, hdue]

theorem pauseTimerExpiry_port_early (h : ((s.port i).pauseUntil).all (fun t => decide (s.rc < t)) = true) :
    pauseTimerExpiry i 8 s = s := by
  unfold pauseTimerExpiry
  rw [if_pos rfl]
  split
  · next t hpaused =>
    rw [hpaused] at h
    exact if_neg (Nat.not_le.2 (of_decide_eq_true h))
  · rfl

theorem pauseTimerExpiry_class (hk : k < 8) :
    pauseTimerExpiry i k s = if s.pausedClass i k then s
      else s.updPort i (fun q => { q with pfcUntil := Tab.del q.pfcUntil k, pfcSince := Tab.del q.pfcSince k }) :=
  if_neg (Nat.ne_of_lt hk)

/-- A priority that the watchdog lets go (R109). -/
def State.letGo (s : State) (i k : Nat) : State :=
  ((s.updPort i (fun q => { q with
    pfcUntil := Tab.del q.pfcUntil k, pfcSince := Tab.del q.pfcSince k, pfcIgnore := Tab.set q.pfcIgnore k s.rc })).inc
      0x084A (8 * i + k)).fault 69 (groupOf i)

theorem pfcWatchdog_of_since {t : Nat} (hsince : Tab.find? (s.port i).pfcSince k = some t) :
    pfcWatchdog i k s = if s.rd 0x0849 i * 400000 ≠ 0 ∧ t + s.rd 0x0849 i * 400000 ≤ s.rc ∧ s.pausedClass i k = true
      then s.letGo i k else s := by
  unfold pfcWatchdog
  rw [hsince]
  rfl

theorem pfcWatchdog_due {t : Nat} (hsince : Tab.find? (s.port i).pfcSince k = some t) (hon : s.rd 0x0849 i ≠ 0)
    (hdue : t + s.rd 0x0849 i * 400000 ≤ s.rc) (hpaused : s.pausedClass i k = true) : pfcWatchdog i k s = s.letGo i k :=
  (pfcWatchdog_of_since hsince).trans (if_pos ⟨by omega, hdue, hpaused⟩)

theorem pfcWatchdog_early {t : Nat} (hsince : Tab.find? (s.port i).pfcSince k = some t)
    (hearly : s.rc < t + s.rd 0x0849 i * 400000) : pfcWatchdog i k s = s :=
  (pfcWatchdog_of_since hsince).trans (if_neg fun h => Nat.not_le.2 hearly h.2.1)

theorem pfcWatchdog_idle
    (h : s.rd 0x0849 i = 0 ∨ Tab.find? (s.port i).pfcSince k = none ∨ s.pausedClass i k = false) : pfcWatchdog i k s = s := by
  cases hsince : Tab.find? (s.port i).pfcSince k with
  | none => simp [pfcWatchdog, hsince]
  | some t =>
    refine (pfcWatchdog_of_since hsince).trans (if_neg ?_)
    rintro ⟨hon, -, hpaused⟩
    rcases h with h | h | h
    · simp [h] at hon
    · simp [h] at hsince
    · simp [h] at hpaused

theorem pfcWatchdogExpiry_of_ignore {t : Nat} (hignore : Tab.find? (s.port i).pfcIgnore k = some t) :
    pfcWatchdogExpiry i k s = if t + s.rd 0x0849 i * 400000 ≤ s.rc
      then s.updPort i (fun q => { q with pfcIgnore := Tab.del q.pfcIgnore k }) else s := by
  unfold pfcWatchdogExpiry
  rw [hignore]

theorem pfcWatchdogExpiry_idle (h : Tab.find? (s.port i).pfcIgnore k = none) : pfcWatchdogExpiry i k s = s := by
  unfold pfcWatchdogExpiry
  rw [h]

/-! ### Sustained drops (R131) -/

/-- A run of drops that sets its fault bit. -/
def State.raiseRun (s : State) (bit inst last run : Nat) : State :=
  { s with sustain := Tab.set s.sustain (bit * 2 ^ 32 + inst) (last, run + raisedRun) }.fault bit inst

theorem State.sustain_raiseRun (s : State) (bit inst last run : Nat) :
    (s.raiseRun bit inst last run).sustain = Tab.set s.sustain (bit * 2 ^ 32 + inst) (last, run + raisedRun) :=
  State.fault_sustain _ _ _

theorem State.sameBut_raiseRun (s : State) (bit inst last run : Nat) :
    SameBut [(0x3E03, 0), (0x3E04, 0)] s (s.raiseRun bit inst last run) := by
  have hnoted : SameBut [(0x3E03, 0), (0x3E04, 0)] s
      { s with sustain := Tab.set s.sustain (bit * 2 ^ 32 + inst) (last, run + raisedRun) } := SameBut.refl _ s
  exact hnoted.fault (by simp) (by simp) bit inst

theorem State.sustained_raises {bit inst win n last run : Nat} (hrun : Tab.find? s.sustain (bit * 2 ^ 32 + inst) = some (last, run))
    (hlong : n ≤ run) (hfresh : run < raisedRun) (hnow : s.rc / win ≤ last + 1) :
    s.sustained bit inst win n = s.raiseRun bit inst last run := by
  unfold State.sustained
  rw [hrun]
  exact if_pos ⟨hlong, hfresh, hnow⟩

theorem State.sustained_idle {bit inst win n : Nat}
    (h : (Tab.find? s.sustain (bit * 2 ^ 32 + inst)).all (fun x => decide (x.2 < n ∨ raisedRun ≤ x.2)) = true) :
    s.sustained bit inst win n = s := by
  unfold State.sustained
  split
  · next last run hrun =>
    rw [hrun] at h
    have hidle : run < n ∨ raisedRun ≤ run := of_decide_eq_true h
    exact if_neg fun hx => by omega
  · rfl

end Sys2Proof.Machine

open Sys2Proof Sys2Proof.Machine

/-- Settles O9: each clause is one equation of the command's effect above, at the tick. -/
theorem pausesLoadAndExpire : Obligations.PausesLoadAndExpire := by
  unfold Obligations.PausesLoadAndExpire
  have hport (i : PortNo) : i.val < 2 ^ 32 := Nat.lt_trans i.isLt (by decide)
  have hhonours (s : State) (el : Nat) (i : PortNo) (bs : List Byte) :
      (((s.tick el).noteRx i.val bs.length).countReceived i.val bs.length (getBE bs 0 6)).flag 0x0830 i.val = s.flag 0x0830 i.val :=
    congrArg (· != 0) (State.rd_countReceived _ (hport i) (hport i) (by decide) _ _)
  refine ⟨?_, ?_, ?_, ?_, ?_, ?_, ?_, ?_, ?_, ?_, ?_, ?_, ?_, ?_, ?_, ?_, ?_, ?_, ?_, ?_, ?_, ?_, ?_, ?_⟩
  · intro s el i bs hreceives hfree hcontrol hlen hmax hop hon
    have htakes : TakesControl (s.tick el) i.val bs := ⟨hreceives, hfree, hcontrol⟩
    refine State.run_of_eq ((macControlFrame_good htakes hlen hmax).trans ?_)
    rw [State.macControl_pause hop, hhonours, if_pos hon]
  · intro s el i bs hreceives hfree hcontrol hlen hmax hop hoff
    have htakes : TakesControl (s.tick el) i.val bs := ⟨hreceives, hfree, hcontrol⟩
    refine State.run_of_eq ((macControlFrame_good htakes hlen hmax).trans ?_)
    rw [State.macControl_pause hop, hhonours, if_neg (by simp [hoff])]
  · intro s el i bs hreceives hfree hcontrol hlen hmax hpause hpfc
    have htakes : TakesControl (s.tick el) i.val bs := ⟨hreceives, hfree, hcontrol⟩
    refine State.run_of_eq ((macControlFrame_good htakes hlen hmax).trans ?_)
    rw [State.macControl_unknown hpause hpfc]
  · intro s el i bs good hreceives hfree hcontrol hlen
    have htakes : TakesControl (s.tick el) i.val bs := ⟨hreceives, hfree, hcontrol⟩
    exact State.run_of_eq ((macControlFrame_taken htakes good).trans (State.controlReceived_runt hlen good))
  · intro s el i bs hreceives hfree hcontrol hlen hmax
    have htakes : TakesControl (s.tick el) i.val bs := ⟨hreceives, hfree, hcontrol⟩
    exact State.run_of_eq ((macControlFrame_taken htakes false).trans (State.controlReceived_bad (s := s.tick el) hlen hmax))
  · intro s el i bs good hreceives hfree hcontrol hlen hmax
    have htakes : TakesControl (s.tick el) i.val bs := ⟨hreceives, hfree, hcontrol⟩
    exact State.run_of_eq ((macControlFrame_taken htakes good).trans (State.controlReceived_oversize (s := s.tick el) hlen hmax good))
  · intro s el i bs hreceives hfree hcontrol hlen hmax hop
    have htakes : TakesControl (s.tick el) i.val bs := ⟨hreceives, hfree, hcontrol⟩
    refine State.run_of_eq ((macControlFrame_good htakes hlen hmax).trans ?_)
    rw [State.macControl_pfc hop]
  · exact fun s i k n hon hheard => State.pfcOne_loads hon hheard n
  · exact fun s i k n hoff => State.pfcOne_discarded hoff n
  · exact fun s el i bs good h => State.run_of_same (macControlFrame_left (s := s.tick el) h good)
  · exact fun s el t0 i hpaused hdue => State.run_of_eq (pauseTimerExpiry_port_due (s := s.tick el) hpaused hdue)
  · exact fun s el i h => State.run_of_same (pauseTimerExpiry_port_early (s := s.tick el) h)
  · intro s el i k hk hpaused
    exact State.run_of_same ((pauseTimerExpiry_class hk).trans (if_pos hpaused))
  · intro s el i k hk hover
    exact State.run_of_eq ((pauseTimerExpiry_class hk).trans (if_neg (by simp [hover])))
  · exact fun s el t0 i k hsince hon hdue hpaused => State.run_of_eq (pfcWatchdog_due (s := s.tick el) hsince hon hdue hpaused)
  · intro s el t0 i k hignore hdue
    exact State.run_of_eq ((pfcWatchdogExpiry_of_ignore (s := s.tick el) hignore).trans (if_pos hdue))
  · exact fun s el i k h => State.run_of_same (pfcWatchdog_idle (s := s.tick el) h)
  · exact fun s el t0 i k hsince hearly => State.run_of_same (pfcWatchdog_early (s := s.tick el) hsince hearly)
  · intro s el t0 i k hignore hearly
    exact State.run_of_same ((pfcWatchdogExpiry_of_ignore (s := s.tick el) hignore).trans (if_neg (Nat.not_le.2 hearly)))
  · exact fun s el i k hheard => State.run_of_same (pfcWatchdogExpiry_idle (s := s.tick el) hheard)
  · exact fun s el n => State.run_of_eq rfl
  · exact fun s el g => State.run_of_eq (f := fun u => u.sustained 70 g.val 400000 1000) rfl
  · intro s el last run g hrun hlong hfresh hnow
    have hraises := State.sustained_raises (s := s.tick el) hrun hlong hfresh hnow
    exact ⟨_, State.run_of_eq (f := fun u => u.sustained 70 g.val 400000 1000) hraises, State.faulted_fault _ _ _,
      (s.tick el).sustain_raiseRun _ _ _ _, (s.tick el).sameBut_raiseRun _ _ _ _⟩
  · exact fun s el g h => State.run_of_same (f := fun u => u.sustained 70 g.val 400000 1000)
      (State.sustained_idle (s := s.tick el) h)
end

section
/-! Rate stepping (04 R125 to R128): when each command acts, and when it leaves the state as it was. -/

namespace Sys2Proof.Machine

variable {s : State} {i : Nat}

/-! ### Requests (R126, R127) -/

theorem stepDownRequest_idle (h : s.mayStepDown i = false ∨ s.rd 0x083B i = 0 ∨ s.rd 0x0840 i ≠ 0 ∨
    s.rc < (s.port i).dwellSince + s.rd 0x083C i * 400000000) : stepDownRequest i s = s := by
  refine if_neg ?_
  rintro ⟨-, -, hidle, -, hmay, hthreshold, hdwell⟩
  rcases h with h | h | h | h
  · simp [h] at hmay
  · exact hthreshold h
  · exact h hidle
  · omega

theorem State.stepUpDue_occupancy :
    s.stepUpDue i .occupancy = true ↔ s.rd 0x0845 i < s.pa.tilesE i ∨ s.rd 0x0845 i < s.pb.tilesE i :=
  decide_eq_true_iff.trans (by omega)

theorem State.stepUpDue_of_cause {c : StepUpCause}
    (h : (c = .rate ∧ s.rd 0x083D i * 1000 < s.rxBits i) ∨
      (c = .occupancy ∧ (s.rd 0x0845 i < s.pa.tilesE i ∨ s.rd 0x0845 i < s.pb.tilesE i)) ∨ (c = .cleared ∧ s.flag 0x083A i = false)) :
    s.stepUpDue i c = true := by
  rcases h with ⟨rfl, hrate⟩ | ⟨rfl, htiles⟩ | ⟨rfl, hcleared⟩
  · exact decide_eq_true hrate
  · exact State.stepUpDue_occupancy.2 htiles
  · simp [State.stepUpDue, hcleared]

theorem State.stepUpDue_never (hrate : s.rxBits i ≤ s.rd 0x083D i * 1000) (ha : s.pa.tilesE i ≤ s.rd 0x0845 i)
    (hb : s.pb.tilesE i ≤ s.rd 0x0845 i) (hset : s.flag 0x083A i = true) (c : StepUpCause) : s.stepUpDue i c = false := by
  cases c with
  | rate => exact decide_eq_false (Nat.not_lt.2 hrate)
  | occupancy => rw [Bool.eq_false_iff, ne_eq, State.stepUpDue_occupancy]; omega
  | cleared => simp [State.stepUpDue, hset]

theorem stepUpRequest_idle {c : StepUpCause} (h : s.link i ≠ 3 ∨ s.rd 0x0840 i ≠ 3 ∨ s.stepUpDue i c = false) :
    stepUpRequest i c s = s := by
  refine if_neg ?_
  rintro ⟨hlink, hstepped, hdue⟩
  rcases h with h | h | h
  · exact h hlink
  · exact h hstepped
  · simp [h] at hdue

/-! ### Messages (R125 to R127) -/

/-- A port takes the step messages of a company: its link is up, scheduling acts, a controller is active (R125). -/
structure TakesSteps (s : State) (i company : Nat) : Prop where
  up : s.link i = 3
  scheduled : s.scheduled = true
  active : s.holder.isSome = true
  company : company = s.rd 0x0842 0 % 2 ^ 24

theorem stepMessage_taken {company : Nat} (h : TakesSteps s i company) (msg exchange target : Nat) :
    stepMessage i company 1 msg exchange target s = s.stepReceived i msg exchange target :=
  if_pos ⟨h.up, h.scheduled, h.active, h.company, rfl⟩

theorem stepMessage_foreign {company version : Nat} (h : company ≠ s.rd 0x0842 0 % 2 ^ 24 ∨ version ≠ 1)
    (msg exchange target : Nat) : stepMessage i company version msg exchange target s = s := by
  refine if_neg ?_
  rintro ⟨-, -, -, hcompany, hversion⟩
  exact h.elim (· hcompany) (· hversion)

theorem State.stepReceived_accept (hmay : s.mayStepDown i = true) (hspeed : s.rd 0x0806 i = 0) (hslow : isFastPort i = false)
    (exchange : Nat) : s.stepReceived i 1 exchange 1 = (s.sendStep i 2 exchange 1).startStep i 1 :=
  if_pos ⟨hmay, hspeed, rfl, hslow⟩

theorem State.stepReceived_refuse {target : Nat}
    (h : s.mayStepDown i = false ∨ s.rd 0x0806 i ≠ 0 ∨ target ≠ 1 ∨ isFastPort i = true) (exchange : Nat) :
    s.stepReceived i 1 exchange target = s.sendStep i 3 exchange target := by
  refine if_neg ?_
  rintro ⟨hmay, hspeed, htarget, hslow⟩
  rcases h with h | h | h | h
  · simp [h] at hmay
  · exact h hspeed
  · exact h htarget
  · simp [h] at hslow

/-- An answer that belongs to another exchange: 2 and 5 acknowledge, 3 refuses. -/
theorem State.stepReceived_other_exchange {msg exchange : Nat} (hmsg : msg = 2 ∨ msg = 3 ∨ msg = 5)
    (h : (s.port i).step.exchange ≠ exchange) (target : Nat) : s.stepReceived i msg exchange target = s := by
  rcases hmsg with rfl | rfl | rfl <;> exact if_neg fun hx => h hx.2

theorem stepMessage_other_exchange {msg exchange : Nat} (hmsg : msg = 2 ∨ msg = 3 ∨ msg = 5)
    (h : (s.port i).step.exchange ≠ exchange) (company version target : Nat) :
    stepMessage i company version msg exchange target s = s := by
  unfold stepMessage
  split
  · exact State.stepReceived_other_exchange hmsg h target
  · rfl

/-! ### Silence (R126, R127) -/

/-- A request of a kind, 1 down and 2 up, that has not been answered in PID 0847h. -/
structure Unanswered (s : State) (i kind : Nat) : Prop where
  asked : (s.port i).step.asked = kind
  waits : s.rd 0x0840 i = 1
  silent : (s.port i).step.since + s.rd 0x0847 i * 400000 ≤ s.rc

theorem stepNegotiationTimeout_down (h : Unanswered s i 1) :
    stepNegotiationTimeout i s =
      if (s.port i).step.attempts < 3 then s.requestStep i 1 ((s.port i).step.attempts + 1) (s.port i).step.exchange
      else s.restartDwell i := by
  refine (if_pos ⟨?_, h.waits, h.silent⟩).trans (if_neg ?_) <;> rw [h.asked] <;> decide

theorem stepNegotiationTimeout_up (h : Unanswered s i 2) : stepNegotiationTimeout i s = s.startStep i 0 := by
  refine (if_pos ⟨?_, h.waits, h.silent⟩).trans (if_pos h.asked)
  rw [h.asked]; decide

theorem stepNegotiationTimeout_idle
    (h : (s.port i).step.asked = 0 ∨ s.rd 0x0840 i ≠ 1 ∨ s.rc < (s.port i).step.since + s.rd 0x0847 i * 400000) :
    stepNegotiationTimeout i s = s := by
  refine if_neg ?_
  rintro ⟨hasked, hwaits, hsilent⟩
  rcases h with h | h | h
  · exact hasked h
  · exact h hwaits
  · omega

/-! ### Lock and failure (R128) -/

/-- A port up at the speed it stepped to. -/
def State.locked (s : State) (i target : Nat) : State :=
  ((((s.setLink i 3).wr 0x0806 i target).wr 0x0840 i (if target = 1 then 3 else 0)).inc 0x0841 i).updPort i
    (fun q => { q with dwellSince := s.rc })

theorem stepLock_locks (hlink : s.link i = 4) (hfast : (s.port i).step.target = 1 ∨ s.coreFastEnough = true) :
    stepLock i s = s.locked i (s.port i).step.target := if_pos ⟨hlink, hfast⟩

theorem stepLock_idle (h : s.link i ≠ 4) : stepLock i s = s := if_neg fun hx => h hx.1

theorem State.sameBut_locked (s : State) {i : Nat} (hi : i < 2 ^ 32) (target : Nat) :
    SameBut [(0x0805, i), (0x0809, i), (0x0806, i), (0x0840, i), (0x0841, i)] s (s.locked i target) :=
  ((((SameBut.refl _ s).setLink hi (by simp) (by simp)).wr hi (by simp)).wr hi (by simp)).inc hi (by simp)

theorem State.rd_locked (s : State) {i target : Nat} (hi : i < 2 ^ 32) (ht : target ≤ 1) :
    (s.locked i target).link i = 3 ∧ (s.locked i target).rd 0x0806 i = target ∧
      (s.locked i target).rd 0x0840 i = (if target = 1 then 3 else 0) ∧
      (s.locked i target).rd 0x0841 i = (s.rd 0x0841 i + 1) % 2 ^ 32 ∧
      ((s.locked i target).port i).dwellSince = s.rc := by
  have hother {u : State} {p p' v : Nat} (h : p' ≠ p) : (u.wr p i v).rd p' i = u.rd p' i := State.rd_wr_pid u v hi hi h
  have hinc {u : State} {p p' : Nat} (h : p' ≠ p) : (u.inc p i).rd p' i = u.rd p' i := State.rd_inc_pid u hi hi h
  unfold State.locked State.link
  simp only [State.rd_updPort]
  refine ⟨?_, ?_, ?_, ?_, ?_⟩
  · rw [hinc (by decide), hother (by decide), hother (by decide)]
    exact State.link_setLink_same s hi (by decide)
  · rw [hinc (by decide), hother (by decide), State.rd_wr_same]
    exact Nat.mod_eq_of_lt (Nat.lt_of_le_of_lt ht (by decide))
  · rw [hinc (by decide), State.rd_wr_same]
    split <;> rfl
  · rw [State.rd_inc_same, hother (by decide), hother (by decide), State.rd_setLink s hi hi (by decide) (by decide)]
    rfl
  · rw [State.port_updPort_same]

theorem stepFailure_idle (h : s.link i ≠ 4 ∨ s.rc < (s.port i).step.since + 20000000) : stepFailure i s = s := by
  refine if_neg ?_
  rintro ⟨hlink, hlate⟩
  rcases h with h | h
  · exact h hlink
  · omega

end Sys2Proof.Machine

open Sys2Proof Sys2Proof.Machine

/-- Settles O10: each clause is one equation of the command's effect above, at the tick; what a lock changes is `State.rd_locked`. -/
theorem rateStepsAreNegotiated : Obligations.RateStepsAreNegotiated := by
  unfold Obligations.RateStepsAreNegotiated
  have hport (i : PortNo) : i.val < 2 ^ 32 := Nat.lt_trans i.isLt (by decide)
  have hone {v : Byte} (h : v ≠ 1) : v.toNat ≠ 1 := fun e => h (BitVec.eq_of_toNat_eq e)
  refine ⟨?_, ?_, ?_, ?_, ?_, ?_, ?_, ?_, ?_, ?_, ?_, ?_, ?_, ?_, ?_, ?_, ?_, ?_, ?_, ?_, ?_⟩
  · intro s el i hlink hspeed hidle hsched hmay hthreshold hdwell
    exact State.run_of_eq (if_pos ⟨hlink, hspeed, hidle, hsched, hmay, hthreshold, hdwell⟩)
  · exact fun s el i h => State.run_of_same (stepDownRequest_idle (s := s.tick el) h)
  · exact fun s el i c hlink hstepped hcause => State.run_of_eq (if_pos ⟨hlink, hstepped, State.stepUpDue_of_cause hcause⟩)
  · intro s el i c h
    refine State.run_of_same (stepUpRequest_idle (s := s.tick el) ?_)
    refine h.imp_right (Or.imp_right ?_)
    exact fun ⟨hrate, ha, hb, hset⟩ => State.stepUpDue_never (s := s.tick el) hrate ha hb hset c
  · intro s el i co x hlink hsched hactive hco hmay hspeed hslow
    have htakes : TakesSteps (s.tick el) i.val co.toNat := ⟨hlink, hsched, hactive, hco⟩
    have haccept := State.stepReceived_accept (s := s.tick el) hmay hspeed hslow x.toNat
    exact State.run_of_eq ((stepMessage_taken htakes 1 x.toNat 1).trans haccept)
  · intro s el i co x tg hlink hsched hactive hco h
    have htakes : TakesSteps (s.tick el) i.val co.toNat := ⟨hlink, hsched, hactive, hco⟩
    have hno := h.imp_right (Or.imp_right (Or.imp_left hone))
    have hrefuse := State.stepReceived_refuse (s := s.tick el) hno x.toNat
    exact State.run_of_eq ((stepMessage_taken htakes 1 x.toNat tg.toNat).trans hrefuse)
  · intro s el i co x tg hlink hsched hactive hco
    have htakes : TakesSteps (s.tick el) i.val co.toNat := ⟨hlink, hsched, hactive, hco⟩
    exact State.run_of_eq (stepMessage_taken htakes 4 x.toNat tg.toNat)
  · intro s el i co x tg hlink hsched hactive hco hasked hexchange
    have htakes : TakesSteps (s.tick el) i.val co.toNat := ⟨hlink, hsched, hactive, hco⟩
    exact State.run_of_eq ((stepMessage_taken htakes 5 x.toNat tg.toNat).trans (if_pos ⟨hasked, hexchange⟩))
  · intro s el i co m x tg hm hexchange
    have hmsg : m.toNat = 2 ∨ m.toNat = 3 ∨ m.toNat = 5 := by rcases hm with rfl | rfl | rfl <;> decide
    exact State.run_of_same (stepMessage_other_exchange (s := s.tick el) hmsg hexchange co.toNat 1 tg.toNat)
  · intro s el i co x tg hlink hsched hactive hco hasked hexchange
    have htakes : TakesSteps (s.tick el) i.val co.toNat := ⟨hlink, hsched, hactive, hco⟩
    exact State.run_of_eq ((stepMessage_taken htakes 2 x.toNat tg.toNat).trans (if_pos ⟨hasked, hexchange⟩))
  · intro s el i co x tg hlink hsched hactive hco hasked hexchange
    have htakes : TakesSteps (s.tick el) i.val co.toNat := ⟨hlink, hsched, hactive, hco⟩
    exact State.run_of_eq ((stepMessage_taken htakes 3 x.toNat tg.toNat).trans (if_pos ⟨hasked, hexchange⟩))
  · exact fun s el i co v m x tg h => State.run_of_same (stepMessage_foreign (s := s.tick el) (h.imp_right hone) m.toNat x.toNat tg.toNat)
  · intro s el i hasked hwaits hsilent hattempts
    have hdown : Unanswered (s.tick el) i.val 1 := ⟨hasked, hwaits, hsilent⟩
    exact State.run_of_eq ((stepNegotiationTimeout_down hdown).trans (if_pos hattempts))
  · intro s el i hasked hwaits hsilent hattempts
    have hdown : Unanswered (s.tick el) i.val 1 := ⟨hasked, hwaits, hsilent⟩
    exact State.run_of_eq ((stepNegotiationTimeout_down hdown).trans (if_neg (Nat.not_lt.2 hattempts)))
  · exact fun s el i hasked hwaits hsilent => State.run_of_eq (stepNegotiationTimeout_up (s := s.tick el) ⟨hasked, hwaits, hsilent⟩)
  · exact fun s el i h => State.run_of_same (stepNegotiationTimeout_idle (s := s.tick el) h)
  · intro s el i hlink htarget
    have hlocks := (stepLock_locks (s := s.tick el) hlink (.inl htarget)).trans (congrArg ((s.tick el).locked i.val) htarget)
    obtain ⟨hup, hspeed, hstate, hcount, hdwell⟩ := (s.tick el).rd_locked (hport i) (Nat.le_refl 1)
    exact ⟨_, State.run_of_eq hlocks, hup, hspeed, hstate, hcount, hdwell, (s.tick el).sameBut_locked (hport i) 1⟩
  · intro s el i hlink htarget hfast
    have hlocks := (stepLock_locks (s := s.tick el) hlink (.inr hfast)).trans (congrArg ((s.tick el).locked i.val) htarget)
    obtain ⟨hup, hspeed, hstate, hcount, hdwell⟩ := (s.tick el).rd_locked (hport i) (Nat.zero_le 1)
    exact ⟨_, State.run_of_eq hlocks, hup, hspeed, hstate, hcount, hdwell, (s.tick el).sameBut_locked (hport i) 0⟩
  · exact fun s el i h => State.run_of_same (stepLock_idle (s := s.tick el) h)
  · exact fun s el i hlink hlate => State.run_of_eq (if_pos ⟨hlink, hlate⟩)
  · exact fun s el i h => State.run_of_same (stepFailure_idle (s := s.tick el) h)
end

section
/-! The commands of the classifier on a plane: a first pass, a second pass, and an error in the rule memory. The passes run while other
pipelines may ask in the same buffer clock, which only what asks the pools for tiles can see (07 R233). -/

namespace Sys2Proof.Machine

/-! ### Who asks in the buffer clock (07 R233) -/

/-- The state with another record of who asks in the present buffer clock, in one plane. -/
def State.contend (s : State) (p : Nat) (c : Contest) : State := s.updPl p (fun q => { q with contest := c })

/-- No pipeline asks any longer, in one plane. -/
def State.uncontend (s : State) (p : Nat) : State := s.updPl p (fun q => { q with contest := { q.contest with rivals := 0 } })

section
variable {s : State} {p : Nat}

theorem State.contend_own (s : State) (p : Nat) : s.contend p (s.pl p).contest = s := by
  unfold State.contend State.updPl State.pl
  split <;> rfl

@[simp] theorem State.contend_contend (s : State) (p : Nat) (c d : Contest) : (s.contend p c).contend p d = s.contend p d := by
  unfold State.contend State.updPl
  split <;> rfl

theorem State.uncontend_eq (s : State) (p : Nat) : s.uncontend p = s.contend p { (s.pl p).contest with rivals := 0 } := by
  unfold State.uncontend State.contend State.updPl State.pl
  split <;> rfl

@[simp] theorem State.slot_contend (s : State) (p : Nat) (c : Contest) (v : Nat) : (s.contend p c).slot v = s.slot v := by
  unfold State.contend State.updPl
  split <;> rfl

@[simp] theorem State.pl_contend (s : State) (p : Nat) (c : Contest) : (s.contend p c).pl p = { s.pl p with contest := c } :=
  State.pl_updPl_same s p _

theorem State.ingress_contend (s : State) (p : Nat) (c : Contest) : ((s.contend p c).pl p).ingress = (s.pl p).ingress := by
  rw [State.pl_contend]

theorem State.recirc_contend (s : State) (p : Nat) (c : Contest) : ((s.contend p c).pl p).recirc = (s.pl p).recirc := by
  rw [State.pl_contend]

@[simp] theorem State.versionFor_contend (s : State) (p : Nat) (c : Contest) (q rc : Nat) :
    (s.contend p c).versionFor q rc = s.versionFor q rc := by
  unfold State.versionFor
  simp only [State.slot_contend]

@[simp] theorem State.parse_contend (s : State) (p : Nat) (c : Contest) (v : Nat) (f : Frame) : (s.contend p c).parse v f = s.parse v f := by
  unfold State.contend State.updPl
  split <;> rfl

@[simp] theorem State.uncontend_contend (s : State) (p : Nat) (c : Contest) :
    (s.contend p c).uncontend p = s.contend p { c with rivals := 0 } := by
  rw [State.uncontend_eq, State.contend_contend, State.pl_contend]

theorem State.uncontend_inc (s : State) (p x i : Nat) : (s.inc x i).uncontend p = (s.uncontend p).inc x i := by
  unfold State.uncontend State.updPl
  split <;> rfl

/-- A change of the plane that neither reads nor writes who asks. -/
def IgnoresContest (k : Plane → Plane) : Prop := ∀ q c, k { q with contest := c } = { k q with contest := c }

theorem State.updPl_contend {k : Plane → Plane} (hk : IgnoresContest k) (s : State) (p : Nat) (c : Contest) :
    (s.contend p c).updPl p k = (s.updPl p k).contend p c := by
  unfold State.contend State.updPl
  split
  · exact congrArg (fun q => ({ s with pa := q } : State)) (hk s.pa c)
  · exact congrArg (fun q => ({ s with pb := q } : State)) (hk s.pb c)

theorem State.contest_updPl {k : Plane → Plane} (hk : IgnoresContest k) (s : State) (p : Nat) :
    ((s.updPl p k).pl p).contest = (s.pl p).contest := by
  have hkeeps : k (s.pl p) = { k (s.pl p) with contest := (s.pl p).contest } := hk (s.pl p) (s.pl p).contest
  rw [State.pl_updPl_same, hkeeps]

theorem contested_eq (p r : Nat) (f : State → State) (s : State) : contested p r f s =
    if r = 0 then f s else (f (s.contend p { (s.pl p).contest with rivals := r })).uncontend p := by
  have hwith : s.contend p { (s.pl p).contest with rivals := r } =
      s.updPl p (fun q => { q with contest := { q.contest with rivals := r } }) := by
    unfold State.contend State.updPl State.pl
    split <;> rfl
  rw [hwith]
  rfl

/-- Two commands that do the same whoever asks do the same while others ask. -/
theorem contested_congr {f g : State → State} (h : ∀ c, f (s.contend p c) = g (s.contend p c)) (r : Nat) :
    contested p r f s = contested p r g s := by
  have hown : f s = g s := by
    have := h (s.pl p).contest
    rwa [State.contend_own] at this
  rw [contested_eq, contested_eq, hown, h]

/-- A command that changes nothing, whoever asks, changes nothing while others ask. -/
theorem contested_same {f : State → State} (hs : (s.pl p).contest.rivals = 0) (h : ∀ c, f (s.contend p c) = s.contend p c) (r : Nat) :
    contested p r f s = s := by
  rw [contested_congr (g := id) h, contested_eq]
  split
  · rfl
  · rw [id, State.uncontend_contend, ← hs, State.contend_own]

/-- A frame that is only taken from the plane and counted is taken and counted alike while others ask. -/
theorem contested_inc_updPl {f : State → State} {k : Plane → Plane} {x i : Nat} (hs : (s.pl p).contest.rivals = 0)
    (hk : IgnoresContest k) (h : ∀ c, f (s.contend p c) = ((s.contend p c).updPl p k).inc x i) (r : Nat) :
    contested p r f s = (s.updPl p k).inc x i := by
  rw [contested_congr (g := fun u => (u.updPl p k).inc x i) h, contested_eq]
  split
  · rfl
  · rw [State.updPl_contend hk, State.uncontend_inc, State.uncontend_contend, ← hs, ← State.contest_updPl hk, State.contend_own]

end

/-! ### A first pass (05 R135, R140) -/

section
variable {s : State} {p g : Nat} {f : Frame} {rest : List Frame}

theorem frameClassify_none (h : takeFirst (fun y => y.pipe == g) (s.pl p).ingress = none) : frameClassify p g s = s := by
  unfold frameClassify
  rw [h]

/-- A frame whose parse window has not arrived waits. -/
theorem frameClassify_early (h : takeFirst (fun y => y.pipe == g) (s.pl p).ingress = some (f, rest)) (hended : f.ended = false)
    (hshort : f.bytes.length < 256) : frameClassify p g s = s := by
  unfold frameClassify
  rw [h]
  exact if_pos ⟨hended, hshort⟩

/-- A frame whose end alone tells its error class waits for it. -/
theorem frameClassify_open {v : Nat} (h : takeFirst (fun y => y.pipe == g) (s.pl p).ingress = some (f, rest)) (hinj : f.inject = none)
    (hv : s.versionFor p f.rc = some v) (hopen : (s.parse v f).open_ = true) : frameClassify p g s = s := by
  unfold frameClassify
  simp only [h, hinj, hv, hopen, if_true, ite_self]

/-- The parse window of a frame has arrived. -/
theorem windowArrived (h : f.ended = true ∨ 256 ≤ f.bytes.length) : ¬(f.ended = false ∧ f.bytes.length < 256) := by
  rcases h with h | h
  · simp [h]
  · omega

theorem frameClassify_unserved (h : takeFirst (fun y => y.pipe == g) (s.pl p).ingress = some (f, rest))
    (hwindow : f.ended = true ∨ 256 ≤ f.bytes.length) (hinj : f.inject = none) (hv : s.versionFor p f.rc = none) :
    frameClassify p g s = (s.updPl p (fun q => { q with ingress := rest })).inc 0x3C20 p := by
  unfold frameClassify
  simp only [h, hinj, hv, if_neg (windowArrived hwindow)]

theorem frameClassify_served {v : Nat} (h : takeFirst (fun y => y.pipe == g) (s.pl p).ingress = some (f, rest))
    (hwindow : f.ended = true ∨ 256 ≤ f.bytes.length) (hinj : f.inject = none) (hv : s.versionFor p f.rc = some v)
    (hknown : (s.parse v f).open_ = false) : frameClassify p g s =
      classify p v { f with verGen := (s.slot v).gen } ((s.updPl p (fun q => { q with ingress := rest })).inc 0x102D (4 * p + v)) := by
  unfold frameClassify
  simp only [h, hinj, hv, hknown, if_neg (windowArrived hwindow), Bool.false_eq_true, if_false]

theorem frameClassify_injected {m v qn : Nat} (h : takeFirst (fun y => y.pipe == g) (s.pl p).ingress = some (f, rest))
    (hwindow : f.ended = true ∨ 256 ≤ f.bytes.length) (hinj : f.inject = some (m, v, qn)) :
    frameClassify p g s = (s.updPl p (fun q => { q with ingress := rest })).injected p f m v qn := by
  unfold frameClassify
  simp only [h, hinj, if_neg (windowArrived hwindow)]

/-! The same while other pipelines ask. -/

theorem contested_frameClassify_none (hs : (s.pl p).contest.rivals = 0)
    (h : takeFirst (fun y => y.pipe == g) (s.pl p).ingress = none) (r : Nat) : contested p r (frameClassify p g) s = s :=
  contested_same hs (fun c => frameClassify_none (by rwa [State.ingress_contend])) r

theorem contested_frameClassify_early (hs : (s.pl p).contest.rivals = 0)
    (h : takeFirst (fun y => y.pipe == g) (s.pl p).ingress = some (f, rest)) (hended : f.ended = false)
    (hshort : f.bytes.length < 256) (r : Nat) : contested p r (frameClassify p g) s = s :=
  contested_same hs (fun c => frameClassify_early (by rwa [State.ingress_contend]) hended hshort) r

theorem contested_frameClassify_open {v : Nat} (hs : (s.pl p).contest.rivals = 0)
    (h : takeFirst (fun y => y.pipe == g) (s.pl p).ingress = some (f, rest)) (hinj : f.inject = none)
    (hv : s.versionFor p f.rc = some v) (hopen : (s.parse v f).open_ = true) (r : Nat) : contested p r (frameClassify p g) s = s :=
  contested_same hs (fun c => frameClassify_open (by rwa [State.ingress_contend]) hinj
    (by rwa [State.versionFor_contend]) (by rwa [State.parse_contend])) r

theorem contested_frameClassify_unserved (hs : (s.pl p).contest.rivals = 0)
    (h : takeFirst (fun y => y.pipe == g) (s.pl p).ingress = some (f, rest)) (hwindow : f.ended = true ∨ 256 ≤ f.bytes.length)
    (hinj : f.inject = none) (hv : s.versionFor p f.rc = none) (r : Nat) :
    contested p r (frameClassify p g) s = (s.updPl p (fun q => { q with ingress := rest })).inc 0x3C20 p :=
  contested_inc_updPl hs (fun _ _ => rfl) (fun c => frameClassify_unserved (by rwa [State.ingress_contend]) hwindow hinj
    (by rwa [State.versionFor_contend])) r

theorem contested_frameClassify_served {v : Nat} (h : takeFirst (fun y => y.pipe == g) (s.pl p).ingress = some (f, rest))
    (hwindow : f.ended = true ∨ 256 ≤ f.bytes.length) (hinj : f.inject = none) (hv : s.versionFor p f.rc = some v)
    (hknown : (s.parse v f).open_ = false) (r : Nat) : contested p r (frameClassify p g) s = contested p r
      (fun u => classify p v { f with verGen := (s.slot v).gen }
        ((u.updPl p (fun q => { q with ingress := rest })).inc 0x102D (4 * p + v))) s := by
  refine contested_congr (fun c => ?_) r
  rw [frameClassify_served (by rwa [State.ingress_contend]) hwindow hinj (by rwa [State.versionFor_contend])
    (by rwa [State.parse_contend]), State.slot_contend]

theorem contested_frameClassify_injected {m v qn : Nat} (h : takeFirst (fun y => y.pipe == g) (s.pl p).ingress = some (f, rest))
    (hwindow : f.ended = true ∨ 256 ≤ f.bytes.length) (hinj : f.inject = some (m, v, qn)) (r : Nat) :
    contested p r (frameClassify p g) s =
      contested p r (fun u => (u.updPl p (fun q => { q with ingress := rest })).injected p f m v qn) s :=
  contested_congr (fun c => frameClassify_injected (by rwa [State.ingress_contend]) hwindow hinj) r

/-! ### A second pass (05 R135, R145, R162) -/

theorem secondPass_none (h : takeFirst (fun y => y.pipe == g) (s.pl p).recirc = none) : secondPass p g s = s := by
  unfold secondPass
  rw [h]

theorem State.sameVersion_eq (s : State) (f : Frame) : s.sameVersion f =
    ((s.slot (bedGet f.bed 243 242)).state.usable && (s.slot (bedGet f.bed 243 242)).gen == f.verGen) := rfl

@[simp] theorem State.sameVersion_updPl (s : State) (p : Nat) (k : Plane → Plane) (f : Frame) :
    (s.updPl p k).sameVersion f = s.sameVersion f := by
  unfold State.updPl
  split <;> rfl

theorem secondPass_runs (h : takeFirst (fun y => y.pipe == g) (s.pl p).recirc = some (f, rest)) (hsame : s.sameVersion f = true) :
    secondPass p g s = classify p (bedGet f.bed 243 242) f (s.updPl p (fun q => { q with recirc := rest })) := by
  unfold secondPass
  simp only [h, State.sameVersion_updPl, hsame, if_true]

theorem secondPass_stalls (h : takeFirst (fun y => y.pipe == g) (s.pl p).recirc = some (f, rest)) (hgone : s.sameVersion f = false) :
    secondPass p g s = (s.updPl p (fun q => { q with recirc := rest })).inc 0x3C20 p := by
  unfold secondPass
  simp only [h, State.sameVersion_updPl, hgone, Bool.false_eq_true, if_false]

theorem State.sameVersion_contend (s : State) (p : Nat) (c : Contest) (f : Frame) : (s.contend p c).sameVersion f = s.sameVersion f :=
  State.sameVersion_updPl s p _ f

theorem contested_secondPass_none (hs : (s.pl p).contest.rivals = 0)
    (h : takeFirst (fun y => y.pipe == g) (s.pl p).recirc = none) (r : Nat) : contested p r (secondPass p g) s = s :=
  contested_same hs (fun c => secondPass_none (by rwa [State.recirc_contend])) r

theorem contested_secondPass_runs (h : takeFirst (fun y => y.pipe == g) (s.pl p).recirc = some (f, rest))
    (hsame : s.sameVersion f = true) (r : Nat) : contested p r (secondPass p g) s = contested p r
      (fun u => classify p (bedGet f.bed 243 242) f (u.updPl p (fun q => { q with recirc := rest }))) s :=
  contested_congr (fun c => secondPass_runs (by rwa [State.recirc_contend]) (by rwa [State.sameVersion_contend])) r

theorem contested_secondPass_stalls (hs : (s.pl p).contest.rivals = 0)
    (h : takeFirst (fun y => y.pipe == g) (s.pl p).recirc = some (f, rest)) (hgone : s.sameVersion f = false) (r : Nat) :
    contested p r (secondPass p g) s = (s.updPl p (fun q => { q with recirc := rest })).inc 0x3C20 p :=
  contested_inc_updPl hs (fun _ _ => rfl)
    (fun c => secondPass_stalls (by rwa [State.recirc_contend]) (by rwa [State.sameVersion_contend])) r

end

/-! ### An error in the rule memory (05 R154) -/

theorem State.rewriteBy_active {s : State} {c : Nat} (h : s.holder = some c) :
    s.rewriteBy = ({ s with drawn := s.drawn + 1 }, some (s.rc + Config.freeValue s.drawn % 400001)) := by
  unfold State.rewriteBy
  rw [h]
  rfl

theorem State.rewriteBy_unattended {s : State} (h : s.holder = none) : s.rewriteBy = (s, none) := by
  unfold State.rewriteBy
  rw [h]

theorem ruleMemoryError_eq (p x : Nat) (s : State) : ruleMemoryError p x s =
    ((s.rewriteBy.1.updPl p (fun q => { q with
      badRules := Tab.set q.badRules (256 * tileLead s.latest (x / 256) + x % 256) s.rewriteBy.2 })).inc 0x3C22 p).fault 80 p := rfl

end Sys2Proof.Machine

open Sys2Proof Sys2Proof.Machine

/-- Settles O12: each clause is one equation of its command above, at the tick; who asks for tiles in the same clock changes neither the
frame that is taken nor the version it runs under (`contested_congr`). -/
theorem pipelinesClassifyTheirOldestFrame : Obligations.PipelinesClassifyTheirOldestFrame := by
  unfold Obligations.PipelinesClassifyTheirOldestFrame
  refine ⟨?_, ?_, ?_, ?_, ?_, ?_, ?_, ?_, ?_, ?_, ?_⟩
  · exact fun s el p g r hrivals hnone => State.run_of_same (contested_frameClassify_none (s := s.tick el) hrivals hnone r.toNat)
  · exact fun s el p g r f rest hrivals hfirst hended hshort =>
      State.run_of_same (contested_frameClassify_early (s := s.tick el) hrivals hfirst hended hshort r.toNat)
  · exact fun s el v p g r f rest hrivals hfirst hinj hv hopen =>
      State.run_of_same (contested_frameClassify_open (s := s.tick el) hrivals hfirst hinj hv hopen r.toNat)
  · exact fun s el p g r f rest hrivals hfirst hwindow hinj hv =>
      State.run_of_eq (contested_frameClassify_unserved (s := s.tick el) hrivals hfirst hwindow hinj hv r.toNat)
  · exact fun s el v p g r f rest hfirst hwindow hinj hv hknown =>
      State.run_of_eq (contested_frameClassify_served (s := s.tick el) hfirst hwindow hinj hv hknown r.toNat)
  · exact fun s el m v qn p g r f rest hfirst hwindow hinj =>
      State.run_of_eq (contested_frameClassify_injected (s := s.tick el) hfirst hwindow hinj r.toNat)
  · exact fun s el p g r hrivals hnone => State.run_of_same (contested_secondPass_none (s := s.tick el) hrivals hnone r.toNat)
  · intro s el p g r f rest hfirst husable hgen
    have hsame : (s.tick el).sameVersion f = true := by simp [State.sameVersion_eq, husable, hgen]
    exact State.run_of_eq (contested_secondPass_runs (s := s.tick el) hfirst hsame r.toNat)
  · intro s el p g r f rest hrivals hfirst hgone
    have hother : (s.tick el).sameVersion f = false := by
      rcases hgone with hfree | hanew
      · simp [State.sameVersion_eq, hfree]
      · simp [State.sameVersion_eq, hanew]
    exact State.run_of_eq (contested_secondPass_stalls (s := s.tick el) hrivals hfirst hother r.toNat)
  · intro s el c x p r hholder hx
    refine State.run_of_eq ?_
    rw [ruleMemoryError_eq, State.rewriteBy_active ((State.tick_holder s el).trans hholder), hx]
    rfl
  · intro s el x p r hholder hx
    refine State.run_of_eq ?_
    rw [ruleMemoryError_eq, State.rewriteBy_unattended ((State.tick_holder s el).trans hholder), hx]
    rfl
end

section
/-! A SET of a port's default tenant to a number that names no tenant. -/

namespace Sys2Proof.Machine

/-- DEFAULT_TENANT_COMMIT is a SET of PID 101Dh, 101Eh or 101Fh. -/
theorem exec_defaultTenantCommit (el : Nat) (q : Req) (which : Fin 3) (s : State) :
    exec (.defaultTenantCommit el q which) s = .next (s.ran el ((s.tick el).takeSet q (0x101D + which.val) q.data)) :=
  State.run_of_eq (f := fun u => u.takeSet q (0x101D + which.val) q.data) rfl

/-- The module up with C0 alone, changes by a single controller allowed (PID 0313h), and slot V0 active. -/
def singleController : State := wActive (wUp [(0x0301, 1, 3), (0x0313, 0, 1)])

/-- A request to make tenant 100, where there are 16, the default tenant of port 143. -/
def strayTenantSet : Req := wReq 143 [100]

theorem singleController_ready : Ready singleController strayTenantSet roleSite := by decide

theorem singleController_freeSlot : singleController.freeSlot = some 1 := by decide

/-- The checks of a commit do not look at the value of PID 101Dh. -/
theorem singleController_commits_strayTenant : singleController.commitStatus
    [(regKey 0x101D strayTenantSet.inst.toNat, beNat strayTenantSet.data)] none false = stOk := by decide

/-- The number is neither 0 to 15 nor FFh: the SET is answered RANGE before a commit begins (14 R445). -/
theorem singleController_refuses_strayTenant :
    ((singleController.tick 0).takeSet strayTenantSet 0x101D strayTenantSet.data).out.map Msg.status = [stRange] := by decide

end Sys2Proof.Machine

open Sys2Proof Sys2Proof.Machine

/-- Refutes O37: its clause on a SET of a default tenant lets the value be any byte. The range of PID 101Dh is 0 to 15 and FFh, as its row
of the catalogue has it, and the checks of a commit, which the clause asks to pass, do not look at it. At `strayTenantSet` the
tenant is 100, and the SET is answered RANGE, where the clause has it committed and answered OK: the clause fails for its missing
range. -/
theorem not_bundlesAreCommittedArmedAndActivated : ¬ Obligations.BundlesAreCommittedArmedAndActivated := by
  unfold Obligations.BundlesAreCommittedArmedAndActivated
  intro ⟨_, _, _, _, _, _, _, _, _, _, _, _, _, _, _, hdefaultTenant, _⟩
  obtain ⟨t, hrun, _, _, _, _, hanswer, _⟩ :=
    hdefaultTenant singleController 0 strayTenantSet 1 singleController_ready (by decide) rfl (by decide) (by decide) (by decide) rfl
      singleController_freeSlot singleController_commits_strayTenant
  have hafter := Host.Outcome.next.inj ((exec_defaultTenantCommit 0 strayTenantSet 0 singleController).symm.trans hrun)
  have hrange : t.out.map Msg.status = [stRange] := by
    rw [← hafter]
    exact singleController_refuses_strayTenant
  rw [hanswer] at hrange
  exact absurd hrange (by decide)
end

section
/-! A controller's buffers: the free of a buffer and its refusals (07 R244), and the hand-over to another client (R481). -/

namespace Sys2Proof.Machine

/-! ### A free that is refused -/

section
variable (s : State) (c kind : Nat)

/-- The record of a buffer for a free to quarantine: one that no client holds where the buffer is free. -/
def State.bufferRecord (s : State) (a : Nat) : Buffer := (Tab.find? s.bufs a).getD ⟨0, false, true, [], none⟩

theorem State.bufs_refuseFree (a : Nat) :
    (s.refuseFree c kind (some a)).bufs = Tab.set s.bufs a { s.bufferRecord a with quarantined := true } := by
  have hkept : ((s.inc 0x182F (4 * c + kind)).fault 117 c).bufs = s.bufs := State.fault_bufs _ _ _
  unfold State.refuseFree State.bufferRecord
  simp only [hkept]

theorem State.faulted_refuseFree (a : Nat) : Faulted (s.refuseFree c kind (some a)) 117 := State.faulted_fault _ _ _

theorem State.rd_refuseFree (a : Nat) (hi : 4 * c + kind < 2 ^ 32) :
    (s.refuseFree c kind (some a)).rd 0x182F (4 * c + kind) = (s.rd 0x182F (4 * c + kind) + 1) % 2 ^ 32 :=
  (State.rd_fault _ _ _ hi (by decide) (by decide)).trans (State.rd_inc_same s _ _)

theorem State.sameBut_refuseFree (a : Nat) (hi : 4 * c + kind < 2 ^ 32) :
    SameBut [(0x182F, 4 * c + kind), (0x3E03, 0), (0x3E04, 0)] s (s.refuseFree c kind (some a)) :=
  ((SameBut.refl _ s).inc hi (by simp)).fault (by simp) (by simp) 117 c

end

/-! ### A free -/

section
variable {s : State} {c x a : Nat} {b : Buffer}

theorem State.giveBack_known (hb : Tab.find? s.bufs a = some b) : s.giveBack a =
    { s with bufs := if b.quarantined = true then Tab.set s.bufs a { b with held := false } else Tab.del s.bufs a } := by
  unfold State.giveBack
  rw [hb]

theorem controllerBufferFree_stopped (h : s.runs c = false) (client : Nat) : controllerBufferFree c x client s = s := by
  unfold controllerBufferFree
  rw [h]
  rfl

theorem controllerBufferFree_outside (hruns : s.runs c = true) (hat : s.bufAt c x = none) (client : Nat) :
    controllerBufferFree c x client s = s.refuseFree c 0 none := by
  unfold controllerBufferFree
  rw [if_pos hruns, hat]

theorem controllerBufferFree_misaligned (hruns : s.runs c = true) (hat : s.bufAt c x = some none) (client : Nat) :
    controllerBufferFree c x client s = s.refuseFree c 1 none := by
  unfold controllerBufferFree
  rw [if_pos hruns, hat]

theorem controllerBufferFree_free (hruns : s.runs c = true) (hat : s.bufAt c x = some (some a))
    (hfree : (Tab.find? s.bufs a).all (fun b => !b.held) = true) (client : Nat) :
    controllerBufferFree c x client s = s.refuseFree c 2 (some a) := by
  unfold controllerBufferFree
  cases hb : Tab.find? s.bufs a with
  | none => simp only [if_pos hruns, hat, hb]
  | some b =>
    have hheld : b.held = false := by simpa [hb] using hfree
    simp only [if_pos hruns, hat, hb, if_pos hheld]

theorem controllerBufferFree_other {client : Nat} (hruns : s.runs c = true) (hat : s.bufAt c x = some (some a))
    (hb : Tab.find? s.bufs a = some b) (hheld : b.held = true) (hother : b.holder ≠ client) :
    controllerBufferFree c x client s = s.refuseFree c 3 (some a) := by
  unfold controllerBufferFree
  simp only [if_pos hruns, hat, hb, hheld, Bool.true_eq_false, if_false, if_pos hother]

theorem controllerBufferFree_holder {client : Nat} (hruns : s.runs c = true) (hat : s.bufAt c x = some (some a))
    (hb : Tab.find? s.bufs a = some b) (hheld : b.held = true) (hholder : b.holder = client) :
    controllerBufferFree c x client s = s.giveBack a := by
  have hsame : ¬b.holder ≠ client := not_not_intro hholder
  unfold controllerBufferFree
  simp only [if_pos hruns, hat, hb, hheld, Bool.true_eq_false, if_false, if_neg hsame]

theorem State.bufferRecord_unheld (hfree : (Tab.find? s.bufs a).all (fun b => !b.held) = true) : (s.bufferRecord a).held = false := by
  unfold State.bufferRecord
  cases hb : Tab.find? s.bufs a with
  | none => rfl
  | some b => simpa [hb] using hfree

theorem State.bufferRecord_known (hb : Tab.find? s.bufs a = some b) : s.bufferRecord a = b := by
  unfold State.bufferRecord
  rw [hb]
  rfl

/-! ### A hand-over -/

theorem handOverBuffer_stopped (h : s.runs c = false) (giver taker : Nat) : handOverBuffer c x giver taker s = s := by
  unfold handOverBuffer
  rw [h]
  rfl

theorem handOverBuffer_holder {giver : Nat} (hruns : s.runs c = true) (hat : s.bufAt c x = some (some a))
    (hb : Tab.find? s.bufs a = some b) (hholder : b.holder = giver) (hheld : b.held = true) (taker : Nat) :
    handOverBuffer c x giver taker s =
      State.inc { s with bufs := Tab.set s.bufs a { b with holder := taker } } 0x3828 c := by
  unfold handOverBuffer
  rw [if_pos hruns, hat]
  simp only [hb]
  exact if_pos ⟨hholder, hheld⟩

theorem handOverBuffer_other {giver : Nat} (hruns : s.runs c = true) (hat : s.bufAt c x = some (some a))
    (hother : (Tab.find? s.bufs a).all (fun b => b.holder != giver || !b.held) = true) (taker : Nat) :
    handOverBuffer c x giver taker s = s.inc 0x3829 c := by
  unfold handOverBuffer
  cases hb : Tab.find? s.bufs a with
  | none => simp only [if_pos hruns, hat, hb]
  | some b =>
    have hno : ¬(b.holder = giver ∧ b.held = true) := by
      rintro ⟨hholder, hheld⟩
      simp [hb, hholder, hheld] at hother
    simp only [if_pos hruns, hat, hb, if_neg hno]

theorem handOverBuffer_noBuffer (hruns : s.runs c = true) (hat : s.bufAt c x = none ∨ s.bufAt c x = some none) (giver taker : Nat) :
    handOverBuffer c x giver taker s = s.inc 0x3829 c := by
  unfold handOverBuffer
  rw [if_pos hruns]
  rcases hat with hat | hat <;> rw [hat]

end

end Sys2Proof.Machine

open Sys2Proof Sys2Proof.Machine

/-- Settles O15: each clause is one equation of its command above, at the tick; what a refused free leaves is read with the
`refuseFree` lemmas. -/
theorem controllerBuffersHaveOneHolder : Obligations.ControllerBuffersHaveOneHolder := by
  unfold Obligations.ControllerBuffersHaveOneHolder
  have hinst (c : CtlNo) {kind : Nat} (h : kind < 4) : 4 * c.val + kind < 2 ^ 32 := by omega
  refine ⟨?_, ?_, ?_, ?_, ?_, ?_, ?_, ?_, ?_, ?_⟩
  · intro s el a c x k b hruns hat hb hheld hholder
    exact State.run_of_eq ((controllerBufferFree_holder (s := s.tick el) hruns hat hb hheld hholder).trans (State.giveBack_known hb))
  · exact fun s el c x k hruns hat => State.run_of_eq (controllerBufferFree_outside (s := s.tick el) hruns hat k.val)
  · exact fun s el c x k hruns hat => State.run_of_eq (controllerBufferFree_misaligned (s := s.tick el) hruns hat k.val)
  · intro s el a c x k hruns hat hfree
    let u := (s.tick el).refuseFree c.val 2 (some a)
    have hbuf : Tab.find? u.bufs a = some { (s.tick el).bufferRecord a with quarantined := true } := by
      rw [State.bufs_refuseFree, Tab.find?_set_same]
    have hunheld : ((s.tick el).bufferRecord a).held = false := State.bufferRecord_unheld hfree
    refine ⟨s.ran el u, State.run_of_eq (controllerBufferFree_free (s := s.tick el) hruns hat hfree k.val), ?_, ?_, ?_, ?_, ?_⟩
    · exact (s.tick el).rd_refuseFree c.val 2 a (hinst c (by decide))
    · exact (congrArg (Option.map Buffer.quarantined) hbuf).trans rfl
    · exact (congrArg (Option.map Buffer.held) hbuf).trans (congrArg some hunheld)
    · exact (s.tick el).faulted_refuseFree c.val 2 a
    · exact (s.tick el).sameBut_refuseFree c.val 2 a (hinst c (by decide))
  · intro s el a c x k b hruns hat hb hheld hother
    have hbufs := (s.tick el).bufs_refuseFree c.val 3 a
    rw [State.bufferRecord_known (s := s.tick el) hb] at hbufs
    exact ⟨_, State.run_of_eq (controllerBufferFree_other (s := s.tick el) hruns hat hb hheld hother),
      (s.tick el).rd_refuseFree c.val 3 a (hinst c (by decide)), hbufs, (s.tick el).faulted_refuseFree c.val 3 a⟩
  · exact fun s el c x k hstopped => State.run_of_same (controllerBufferFree_stopped (s := s.tick el) hstopped k.val)
  · exact fun s el a c x g k b hruns hat hb hholder hheld =>
      State.run_of_eq (handOverBuffer_holder (s := s.tick el) hruns hat hb hholder hheld k.val)
  · exact fun s el a c x g k hruns hat hother => State.run_of_eq (handOverBuffer_other (s := s.tick el) hruns hat hother k.val)
  · exact fun s el c x g k hruns hat => State.run_of_eq (handOverBuffer_noBuffer (s := s.tick el) hruns hat g.val k.val)
  · exact fun s el c x g k hstopped => State.run_of_same (handOverBuffer_stopped (s := s.tick el) hstopped g.val k.val)
end

section
/-! A plane's tiles: what a pool answers (07 R229, R233), the later tiles of a frame (R231), the prefetch caches (R225), and the errors
of the link memory (R237). -/

namespace Sys2Proof.Machine

/-! ### A request to a pool (R229, R233) -/

section
variable {s : State} {p : Nat} {d : Desc}

theorem State.askPool_noRoom {code : Nat} (h : s.room p d code = 0) : s.askPool p d code = (s, false) := if_pos h

/-- A pool with room for every pipeline that asks grants the frame's. -/
theorem State.askPool_roomForAll {code : Nat} (hroom : s.room p d code ≠ 0) (hrefused : (s.pl p).contest.refused = [])
    (hall : ((rotation (s.rd 0x181B p)).filter (fun g => g == d.frame.pipe || (s.pl p).contest.rivals.testBit g)).length ≤
      s.room p d code) : s.askPool p d code = (s, true) := by
  refine (if_neg hroom).trans ((if_neg ?_).trans (if_pos hall))
  rintro ⟨-, -, hme⟩
  simp [hrefused] at hme

/-- No pool of a chain has room: none gives a tile. -/
theorem State.ask_noRoom {chain : List Nat} (h : ∀ c ∈ chain, s.room p d c = 0) : s.ask p d chain = (s, none) := by
  induction chain with
  | nil => rfl
  | cons c chain ih =>
    unfold State.ask
    rw [State.askPool_noRoom (h c (by simp))]
    exact ih (fun c' hc' => h c' (by simp [hc']))

end

/-! ### A later tile of a frame (R231) -/

/-- The tile is the last of the frame's chain: it hangs on the one before it, and counts. -/
def Plane.growChain (q : Plane) (h : Nat) (d : Desc) (t : Nat) : Plane :=
  { q with
    tiles := match Tab.find? q.tiles d.tail with
      | some x => Tab.set q.tiles d.tail { x with next := t }
      | none => q.tiles
    desc := Tab.set q.desc h { d with tail := t, count := d.count + 1 } }

/-- A tile allocated from the pool of a code, 7 for the overrun pool, joins the chain of its frame. -/
def State.joinTile (s : State) (p h : Nat) (d : Desc) (code t : Nat) : State :=
  (((if code = 7 then s.inc 0x181E p else s).updPl p (fun q => q.growChain h d t)).pauseCheck d.frame.port).settleReception p h

/-- A frame overruns: its copies end bad, and its reception gives back its reference. -/
def State.overrun (s : State) (p h : Nat) (d : Desc) : State :=
  let u := ((s.inc 0x181F p).fault 116 p).endBad p h .overrun
  (match Tab.find? (u.pl p).desc h with
    | some x => u.markLast p x
    | none => u).release p h d.gen 148

section
variable {s : State} {p h : Nat} {d : Desc}

theorem frameTileWrite_noFrame (hd : Tab.find? (s.pl p).desc h = none) : frameTileWrite p h s = s := by
  unfold frameTileWrite
  rw [hd]

theorem frameTileWrite_stored (hd : Tab.find? (s.pl p).desc h = some d)
    (hstored : d.frame.bytes.length ≤ 256 * d.count ∨ d.holders.testBit 148 = false) : frameTileWrite p h s = s := by
  unfold frameTileWrite
  rw [hd]
  exact if_pos hstored.symm

/-- A frame in reception has more bytes than its tiles hold. -/
theorem needsTile (hrx : d.holders.testBit 148 = true) (hmore : 256 * d.count < d.frame.bytes.length) :
    ¬(d.holders.testBit 148 = false ∨ d.frame.bytes.length ≤ 256 * d.count) := by
  rw [hrx, not_or]
  exact ⟨Bool.noConfusion, by omega⟩

theorem frameTileWrite_granted {c t : Nat} (hd : Tab.find? (s.pl p).desc h = some d) (hrx : d.holders.testBit 148 = true)
    (hmore : 256 * d.count < d.frame.bytes.length) (hask : (s.ask p d (d.chain ++ [7])).2 = some c)
    (hgot : ((s.ask p d (d.chain ++ [7])).1.allocate p d c).2 = some t) :
    frameTileWrite p h s = ((s.ask p d (d.chain ++ [7])).1.allocate p d c).1.joinTile p h d c t := by
  unfold frameTileWrite
  simp only [hd, if_neg (needsTile hrx hmore), hask, hgot]
  rfl

theorem frameTileWrite_overruns (hd : Tab.find? (s.pl p).desc h = some d) (hrx : d.holders.testBit 148 = true)
    (hmore : 256 * d.count < d.frame.bytes.length) (hfull : ∀ c ∈ d.chain ++ [7], s.room p d c = 0) :
    frameTileWrite p h s = s.overrun p h d := by
  unfold frameTileWrite
  simp only [hd, if_neg (needsTile hrx hmore), State.ask_noRoom hfull]
  rfl

theorem State.desc_contend (s : State) (p : Nat) (c : Contest) : ((s.contend p c).pl p).desc = (s.pl p).desc := by
  rw [State.pl_contend]

theorem contested_frameTileWrite_noFrame (hs : (s.pl p).contest.rivals = 0) (hd : Tab.find? (s.pl p).desc h = none) (r : Nat) :
    contested p r (frameTileWrite p h) s = s :=
  contested_same hs (fun c => frameTileWrite_noFrame (by rwa [State.desc_contend])) r

theorem contested_frameTileWrite_stored (hs : (s.pl p).contest.rivals = 0) (hd : Tab.find? (s.pl p).desc h = some d)
    (hstored : d.frame.bytes.length ≤ 256 * d.count ∨ d.holders.testBit 148 = false) (r : Nat) :
    contested p r (frameTileWrite p h) s = s :=
  contested_same hs (fun c => frameTileWrite_stored (by rwa [State.desc_contend]) hstored) r

theorem contested_alone (p : Nat) (f : State → State) (s : State) : contested p 0 f s = f s := if_pos rfl

end

/-! ### The prefetch caches (R225) -/

theorem Plane.cache_of_nextRefill {q : Plane} {g : Nat} (h : q.nextRefill = some g) : (q.cache g).length < 16 := by
  simpa using List.find?_some h

theorem Plane.serveRefill_due {q : Plane} {g : Nat} (hturn : q.nextRefill = some g) :
    q.serveRefill g = { q.fillCache g (32 - (q.cache g).length) with refillNext := (g + 1) % 8 } := by
  unfold Plane.serveRefill Plane.refill
  rw [if_pos hturn, if_pos (Plane.cache_of_nextRefill hturn)]

theorem Plane.serveRefill_idle {q : Plane} {g : Nat} (h : 16 ≤ (q.cache g).length ∨ q.nextRefill ≠ some g) : q.serveRefill g = q := by
  refine if_neg fun hturn => ?_
  rcases h with hfull | hother
  · exact Nat.not_le.2 (Plane.cache_of_nextRefill hturn) hfull
  · exact hother hturn

theorem State.updPl_of_eq {s : State} {p : Nat} {f g : Plane → Plane} (h : f (s.pl p) = g (s.pl p)) : s.updPl p f = s.updPl p g := by
  unfold State.updPl
  unfold State.pl at h
  split <;> simp_all

theorem State.updPl_of_same {s : State} {p : Nat} {f : Plane → Plane} (h : f (s.pl p) = s.pl p) : s.updPl p f = s := by
  rw [State.updPl_of_eq (g := id) h]
  unfold State.updPl
  split <;> rfl

section
variable {s : State} {p g : Nat}

/-- The free map serves a pipeline of a plane. -/
def State.serveRefill (s : State) (p g : Nat) : State := s.updPl p (fun q => q.serveRefill g)

theorem State.serveRefill_due (hturn : (s.pl p).nextRefill = some g) : s.serveRefill p g =
    s.updPl p (fun q => { q.fillCache g (32 - (q.cache g).length) with refillNext := (g + 1) % 8 }) :=
  State.updPl_of_eq (Plane.serveRefill_due hturn)

theorem State.serveRefill_idle (h : 16 ≤ ((s.pl p).cache g).length ∨ (s.pl p).nextRefill ≠ some g) : s.serveRefill p g = s :=
  State.updPl_of_same (Plane.serveRefill_idle h)

theorem exec_cacheRefill (el : Nat) (p : PlaneNo) (g : Fin 8) (s : State) :
    exec (.cacheRefill el p g) s = s.run el (fun u => u.serveRefill p.val g.val) := rfl

end

/-! ### The link memory (R237) -/

@[simp] theorem State.pl_fault (s : State) (b inst q : Nat) : (s.fault b inst).pl q = s.pl q := by
  unfold State.pl
  rw [State.fault_pa, State.fault_pb]

/-- The frame at a head whose chain has lost a tile: its copies end bad, and a reception gives back its reference. -/
def State.breakChain (s : State) (p tile h : Nat) : State :=
  let u := (s.updPl p (fun q => { q with tiles := Tab.del q.tiles tile })).endBad p h .link
  match Tab.find? (u.pl p).desc h with
  | some y => if y.holders.testBit 148 = true then u.release p h y.gen 148 else u
  | none => u

section
variable {s : State} {p tile : Nat}

theorem State.pl_linkFault (s : State) (p q : Nat) : ((s.inc 0x182C (2 * p + 1)).fault 113 p).pl q = s.pl q := State.pl_fault _ _ _ _

theorem linkMemoryError_unchained
    (h : Tab.search (fun e => ((s.pl p).chainOf 36 e.1 e.2.tail).contains tile) (s.pl p).desc = none) :
    linkMemoryError p tile true s = (s.inc 0x182C (2 * p + 1)).fault 113 p := by
  unfold linkMemoryError
  simp only [if_true, State.pl_linkFault, h]

theorem linkMemoryError_chained {head : Nat} {d : Desc}
    (h : Tab.search (fun e => ((s.pl p).chainOf 36 e.1 e.2.tail).contains tile) (s.pl p).desc = some (head, d)) :
    linkMemoryError p tile true s = ((s.inc 0x182C (2 * p + 1)).fault 113 p).breakChain p tile head := by
  unfold linkMemoryError
  simp only [if_true, State.pl_linkFault, h]
  rfl

end

end Sys2Proof.Machine
end

section
/-! The scrubs of a plane (07 R238, R239), their request (14 R445), and the buffers that it releases (07 R244). -/

namespace Sys2Proof.Machine

/-! ### A scrub starts (R239) -/

/-- The tiles in use that no cache and no live chain holds. -/
def Plane.strayTiles (q : Plane) : List Nat := q.taken.filter (fun t => !q.cachedTiles.contains t && !q.liveTiles.contains t)

section
variable {s : State} {p : Nat}

theorem State.startScrub_idle (h : (s.pl p).scrub.running = false) : s.startScrub p =
    (s.updPl p (fun q => { q with scrub := ⟨true, false, q.scrub.lastEnd, s.rc, (s.pl p).strayTiles⟩ })).wr 0x1825 p 1 := by
  refine if_neg ?_
  rw [h]
  exact Bool.false_ne_true

theorem State.startScrub_running (h : (s.pl p).scrub.running = true) :
    s.startScrub p = s.updPl p (fun q => { q with scrub := { q.scrub with queued := true } }) := if_pos h

theorem State.scrub_startScrub_idle (h : (s.pl p).scrub.running = false) :
    ((s.startScrub p).pl p).scrub = ⟨true, false, (s.pl p).scrub.lastEnd, s.rc, (s.pl p).strayTiles⟩ := by
  rw [State.startScrub_idle h, State.pl_wr, State.pl_updPl_same]

theorem State.rd_startScrub_idle (h : (s.pl p).scrub.running = false) : (s.startScrub p).rd 0x1825 p = 1 := by
  rw [State.startScrub_idle h, State.rd_wr_same]
  rfl

theorem State.rd_startScrub_running (h : (s.pl p).scrub.running = true) (x i : Nat) : (s.startScrub p).rd x i = s.rd x i := by
  rw [State.startScrub_running h, State.rd_updPl]

theorem SameBut.updPl {keys : List (Nat × Nat)} {s t : State} (h : SameBut keys s t) (p : Nat) (f : Plane → Plane) :
    SameBut keys s (t.updPl p f) := fun x i hi hx => (t.rd_updPl x i p f).trans (h x i hi hx)

/-- A scrub that starts, or waits, writes no parameter but PID 1825h of its plane. -/
theorem State.sameBut_startScrub (s : State) {p : Nat} (hp : p < 2 ^ 32) : SameBut [(0x1825, p)] s (s.startScrub p) := by
  cases h : (s.pl p).scrub.running with
  | true => rw [State.startScrub_running h]; exact (SameBut.refl _ s).updPl p _
  | false => rw [State.startScrub_idle h]; exact ((SameBut.refl _ s).updPl p _).wr hp (by simp)

/-- A scrub of one plane leaves the other alone. -/
theorem State.pl_startScrub_ne (s : State) {p q : Nat} (h : (p = 0) ≠ (q = 0)) : (s.startScrub p).pl q = s.pl q := by
  cases hrun : (s.pl p).scrub.running with
  | true => rw [State.startScrub_running hrun, State.pl_updPl_ne _ _ h]
  | false => rw [State.startScrub_idle hrun, State.pl_wr, State.pl_updPl_ne _ _ h]

/-- The interval since the end of the last scrub has passed (PID 1823h). -/
def State.scrubDue (s : State) (p : Nat) : Prop :=
  s.rd 0x1823 0 ≠ 0 ∧ (s.pl p).scrub.lastEnd + s.rd 0x1823 0 * 400000000 ≤ s.rc

theorem scrubStart_due (hon : s.isOn (domPlane p) = true) (hidle : (s.pl p).scrub.running = false)
    (hdue : s.rd 0x1822 0 ≤ (s.pl p).quar.length ∨ s.scrubDue p) : scrubStart p s = s.startScrub p :=
  if_pos ⟨hon, hdue.imp (fun h => ⟨hidle, h⟩) (fun ⟨hset, hpast⟩ => ⟨hset, hpast, .inl hidle⟩)⟩

theorem scrubStart_waits (hrun : (s.pl p).scrub.running = true) (hnot : ¬s.scrubDue p) : scrubStart p s = s := by
  refine if_neg ?_
  rintro ⟨-, ⟨hidle, -⟩ | ⟨hset, hpast, -⟩⟩
  · rw [hrun] at hidle; exact Bool.noConfusion hidle
  · exact hnot ⟨hset, hpast⟩

end

/-! ### A scrub ends (R238) -/

/-- The suspects that are still in no live chain: the tiles that the scrub frees. -/
def Plane.scrubbed (q : Plane) : List Nat := q.scrub.suspects.filter (fun t => !q.liveTiles.contains t)

/-- Those of the scrubbed tiles that the quarantine set held. -/
def Plane.reclaimed (q : Plane) : List Nat := q.scrubbed.filter (fun t => q.quar.contains t)

/-- Those of the scrubbed tiles that had leaked. -/
def Plane.leaked (q : Plane) : List Nat := q.scrubbed.filter (fun t => !q.quar.contains t)

/-- A plane whose scrub has ended. -/
def Plane.swept (q : Plane) (rc : Nat) : Plane :=
  { q with
    flagged := q.flagged.filter (fun t => !q.reclaimed.contains t)
    quar := q.quar.filter (fun t => !q.reclaimed.contains t)
    taken := q.taken.filter (fun t => !q.scrubbed.contains t)
    tiles := q.tiles.filter (fun e => !q.scrubbed.contains e.1)
    pools := q.recount
    scrub := ⟨false, false, rc, q.scrub.since, []⟩ }

/-- The parameters of a plane whose scrub has ended: what it found, and that it was counted. -/
def State.showSweep (s : State) (p known lost diff : Nat) : State :=
  ((((s.wr 0x1825 p 0).wr 0x1827 p known).incBy 0x1828 p lost).incBy 0x1829 p diff).inc 0x1826 p

/-- Leaked tiles are recorded as fault bit 115. -/
def State.noteLeak (s : State) (p : Nat) (lost : List Nat) : State := if lost.isEmpty then s else s.fault 115 p

/-- A plane's scrub has ended, before one that waits starts. -/
def State.sweep (s : State) (p : Nat) : State :=
  let q := s.pl p
  (((s.updPl p (fun q => q.swept s.rc)).showSweep p q.reclaimed.length q.leaked.length (q.recount.diff q.pools)).noteLeak p
    q.leaked).settleShort p

section
variable {s : State} {p : Nat}

theorem scrubEnd_idle (h : (s.pl p).scrub.running = false) : scrubEnd p s = s := by
  unfold scrubEnd
  rw [h]
  rfl

theorem scrubEnd_running (h : (s.pl p).scrub.running = true) :
    scrubEnd p s = if (s.pl p).scrub.queued then (s.sweep p).startScrub p else s.sweep p := by
  have hswept : s.updPl p (fun q => q.swept s.rc) = s.updPl p (fun q => { q with
      flagged := q.flagged.filter (fun t => !(s.pl p).reclaimed.contains t)
      quar := q.quar.filter (fun t => !(s.pl p).reclaimed.contains t)
      taken := q.taken.filter (fun t => !(s.pl p).scrubbed.contains t)
      tiles := q.tiles.filter (fun e => !(s.pl p).scrubbed.contains e.1)
      pools := (s.pl p).recount
      scrub := ⟨false, false, s.rc, q.scrub.since, []⟩ }) := State.updPl_of_eq rfl
  unfold State.sweep
  rw [hswept]
  exact if_pos h

theorem State.rd_showSweep (s : State) {p : Nat} (hp : p < 2 ^ 32) (known lost diff : Nat) :
    (s.showSweep p known lost diff).rd 0x1825 p = 0 ∧
    (s.showSweep p known lost diff).rd 0x1826 p = (s.rd 0x1826 p + 1) % 2 ^ 32 ∧
    (s.showSweep p known lost diff).rd 0x1827 p = known % 2 ^ 32 ∧
    (s.showSweep p known lost diff).rd 0x1828 p = (s.rd 0x1828 p + lost) % 2 ^ 32 := by
  have hother {u : State} {x y v : Nat} (h : y ≠ x) : (u.wr x p v).rd y p = u.rd y p := State.rd_wr_pid u v hp hp h
  unfold State.showSweep State.inc State.incBy
  refine ⟨?_, ?_, ?_, ?_⟩
  · rw [hother (by decide), hother (by decide), hother (by decide), hother (by decide), State.rd_wr_same]
    rfl
  · rw [State.rd_wr_same, hother (by decide), hother (by decide), hother (by decide), hother (by decide)]
    rfl
  · rw [hother (by decide), hother (by decide), hother (by decide), State.rd_wr_same]
    rfl
  · rw [hother (by decide), hother (by decide), State.rd_wr_same, hother (by decide), hother (by decide)]
    rfl

/-! What the settling of the shortfalls leaves alone. -/

@[simp] theorem State.rd_settleShort (s : State) (p x i : Nat) : (s.settleShort p).rd x i = s.rd x i := by
  unfold State.settleShort
  split
  · rfl
  · exact State.rd_updPl _ _ _ _ _

theorem SameBut.settleShort {keys : List (Nat × Nat)} {s t : State} (h : SameBut keys s t) (p : Nat) : SameBut keys s (t.settleShort p) :=
  fun x i hi hx => (State.rd_settleShort t p x i).trans (h x i hi hx)

@[simp] theorem State.settleShort_faults (s : State) (p : Nat) : (s.settleShort p).faults = s.faults := by
  unfold State.settleShort
  split
  · rfl
  · exact State.updPl_faults _ _ _

theorem State.pl_settleShort (s : State) (p : Nat) :
    (s.settleShort p).pl p = { s.pl p with sched := ((s.settleShort p).pl p).sched } := by
  unfold State.settleShort
  split
  · rfl
  · simp only [State.pl_updPl_same]

/-! What a scrub that ends leaves. -/

@[simp] theorem State.pl_noteLeak (s : State) (p : Nat) (lost : List Nat) (q : Nat) : (s.noteLeak p lost).pl q = s.pl q := by
  unfold State.noteLeak
  split
  · rfl
  · exact State.pl_fault _ _ _ _

theorem State.pl_sweep (s : State) (p : Nat) : (s.sweep p).pl p = { (s.pl p).swept s.rc with sched := ((s.sweep p).pl p).sched } := by
  have hshown (known lost diff : Nat) :
      ((s.updPl p (fun q => q.swept s.rc)).showSweep p known lost diff).pl p = (s.pl p).swept s.rc := State.pl_updPl_same s p _
  refine (State.pl_settleShort _ p).trans ?_
  rw [State.pl_noteLeak, hshown]
  rfl

theorem SameBut.noteLeak {keys : List (Nat × Nat)} {s t : State} (h : SameBut keys s t) (hat : (0x3E03, 0) ∈ keys)
    (hbit : (0x3E04, 0) ∈ keys) (p : Nat) (lost : List Nat) : SameBut keys s (t.noteLeak p lost) := by
  unfold State.noteLeak
  split
  · exact h
  · exact h.fault hat hbit 115 p

theorem State.rd_noteLeak (s : State) (p : Nat) (lost : List Nat) {x i : Nat} (hi : i < 2 ^ 32) (h3 : x ≠ 0x3E03) (h4 : x ≠ 0x3E04) :
    (s.noteLeak p lost).rd x i = s.rd x i :=
  (SameBut.refl [(0x3E03, 0), (0x3E04, 0)] s).noteLeak (by simp) (by simp) p lost x i hi (by simp [h3, h4])

theorem State.rd_sweep (s : State) {p : Nat} (hp : p < 2 ^ 32) :
    (s.sweep p).rd 0x1825 p = 0 ∧ (s.sweep p).rd 0x1826 p = (s.rd 0x1826 p + 1) % 2 ^ 32 ∧
    (s.sweep p).rd 0x1827 p = (s.pl p).reclaimed.length % 2 ^ 32 ∧
    (s.sweep p).rd 0x1828 p = (s.rd 0x1828 p + (s.pl p).leaked.length) % 2 ^ 32 := by
  have hshown := (s.updPl p (fun q => q.swept s.rc)).rd_showSweep hp (s.pl p).reclaimed.length (s.pl p).leaked.length
    ((s.pl p).recount.diff (s.pl p).pools)
  simp only [State.rd_updPl] at hshown
  have hlast {x : Nat} (h3 : x ≠ 0x3E03) (h4 : x ≠ 0x3E04) : (s.sweep p).rd x p = _ :=
    (State.rd_settleShort _ p x p).trans (State.rd_noteLeak _ p _ hp h3 h4)
  rw [hlast (by decide) (by decide), hlast (by decide) (by decide), hlast (by decide) (by decide), hlast (by decide) (by decide)]
  exact hshown

theorem State.sameBut_sweep (s : State) {p : Nat} (hp : p < 2 ^ 32) :
    SameBut [(0x1825, p), (0x1826, p), (0x1827, p), (0x1828, p), (0x1829, p), (0x3E03, 0), (0x3E04, 0)] s (s.sweep p) := by
  refine ((?_ : SameBut _ s _).noteLeak (by simp) (by simp) p _).settleShort p
  exact ((((((SameBut.refl _ s).updPl p _).wr hp (by simp)).wr hp (by simp)).wr hp (by simp)).wr hp (by simp)).inc hp (by simp)

theorem State.faults_sweep (s : State) (p : Nat) :
    if (s.pl p).leaked = [] then (s.sweep p).faults = s.faults else Faulted (s.sweep p) 115 := by
  unfold State.sweep Faulted
  simp only [State.settleShort_faults]
  cases h : (s.pl p).leaked with
  | nil => exact (State.updPl_faults s p _)
  | cons t l => exact State.faulted_fault _ _ _

theorem scrubEnd_single (h : (s.pl p).scrub.running = true) (hq : (s.pl p).scrub.queued = false) : scrubEnd p s = s.sweep p := by
  rw [scrubEnd_running h, hq]
  rfl

/-- A scrub that waited starts when the one before it has ended. -/
theorem scrubEnd_queued (h : (s.pl p).scrub.running = true) (hq : (s.pl p).scrub.queued = true) :
    scrubEnd p s = (s.sweep p).startScrub p := by
  rw [scrubEnd_running h, hq]
  rfl

theorem State.sweep_idle (s : State) (p : Nat) : ((s.sweep p).pl p).scrub.running = false := by
  rw [State.pl_sweep]
  rfl

end

/-! ### A scrub on request (14 R445) -/

section
variable {s : State}

@[simp] theorem State.startScrub_out (s : State) (p : Nat) : (s.startScrub p).out = s.out := by
  unfold State.startScrub
  simp only
  split
  · exact State.updPl_out _ _ _
  · rw [State.wr_out, State.updPl_out]

@[simp] theorem State.startScrub_owed (s : State) (p : Nat) : (s.startScrub p).owed = s.owed := by
  unfold State.startScrub
  simp only
  split
  · exact State.updPl_owed _ _ _
  · rw [State.wr_owed, State.updPl_owed]

/-- The scrubs that a request starts, where both planes are on. -/
theorem State.scrubAll_bothOn (ha : s.isOn 0 = true) (hb : s.isOn 1 = true) :
    s.scrubAll = (((s.startScrub 0).startScrub 1).scrubBuffers 0).scrubBuffers 1 := by
  have hb' : (s.startScrub 0).isOn 1 = true := by
    rw [← hb]
    exact congrArg (· == 2) (s.sameBut_startScrub (p := 0) (by decide) (0x010E + 1) 0 (by decide) (by simp))
  unfold State.scrubAll domPlane
  simp only [List.foldl_cons, List.foldl_nil, ha, hb', if_true]

theorem State.scrubAll_out (s : State) : s.scrubAll.out = s.out := by
  have hplane (u : State) (p : Nat) : (if u.isOn (domPlane p) then u.startScrub p else u).out = u.out := by
    split
    · exact u.startScrub_out p
    · rfl
  unfold State.scrubAll State.scrubBuffers
  simp only [List.foldl_cons, List.foldl_nil, hplane]

theorem State.scrubAll_owed (s : State) : s.scrubAll.owed = s.owed := by
  have hplane (u : State) (p : Nat) : (if u.isOn (domPlane p) then u.startScrub p else u).owed = u.owed := by
    split
    · exact u.startScrub_owed p
    · rfl
  unfold State.scrubAll State.scrubBuffers
  simp only [List.foldl_cons, List.foldl_nil, hplane]

/-- What the request leaves of a plane is what the plane's own scrub does. -/
theorem State.planes_scrubAll (ha : s.isOn 0 = true) (hb : s.isOn 1 = true) :
    s.scrubAll.pa = (s.startScrub 0).pl 0 ∧ s.scrubAll.pb = ((s.startScrub 0).startScrub 1).pl 1 := by
  rw [State.scrubAll_bothOn ha hb]
  exact ⟨State.pl_startScrub_ne (s.startScrub 0) (p := 1) (q := 0) (by simp), rfl⟩

theorem State.rd_scrubBuffers (s : State) (c x i : Nat) : (s.scrubBuffers c).rd x i = s.rd x i := rfl

/-- On a module whose planes are on and run no scrub, the request starts one in each. -/
theorem State.scrubAll_starts (ha : s.isOn 0 = true) (hb : s.isOn 1 = true) (hidleA : s.pa.scrub.running = false)
    (hidleB : s.pb.scrub.running = false) : s.scrubAll.pa.scrub.running = true ∧ s.scrubAll.pb.scrub.running = true ∧
      s.scrubAll.rd 0x1825 0 = 1 ∧ s.scrubAll.rd 0x1825 1 = 1 ∧ SameBut [(0x1825, 0), (0x1825, 1)] s s.scrubAll := by
  have hother : (s.startScrub 0).pl 1 = s.pb := State.pl_startScrub_ne s (p := 0) (q := 1) (by simp)
  have hidleB' : ((s.startScrub 0).pl 1).scrub.running = false := hother ▸ hidleB
  have hsecond := (s.startScrub 0).sameBut_startScrub (p := 1) (by decide)
  obtain ⟨hpa, hpb⟩ := State.planes_scrubAll ha hb
  have hrd (x i : Nat) : s.scrubAll.rd x i = ((s.startScrub 0).startScrub 1).rd x i := by
    rw [State.scrubAll_bothOn ha hb, State.rd_scrubBuffers, State.rd_scrubBuffers]
  refine ⟨?_, ?_, ?_, ?_, ?_⟩
  · rw [hpa, State.scrub_startScrub_idle (p := 0) hidleA]
  · rw [hpb, State.scrub_startScrub_idle hidleB']
  · rw [hrd, hsecond 0x1825 0 (by decide) (by simp), State.rd_startScrub_idle (p := 0) hidleA]
  · rw [hrd, State.rd_startScrub_idle hidleB']
  · exact fun x i hi hx => (hrd x i).trans (((s.sameBut_startScrub (p := 0) (by decide)).trans hsecond) x i hi hx)

/-- On a module whose planes are on and both scrub, the request waits for their ends. -/
theorem State.scrubAll_queues (ha : s.isOn 0 = true) (hb : s.isOn 1 = true) (hrunA : s.pa.scrub.running = true)
    (hrunB : s.pb.scrub.running = true) : s.scrubAll.pa.scrub = { s.pa.scrub with queued := true } ∧
      s.scrubAll.pb.scrub = { s.pb.scrub with queued := true } ∧ SameBut [] s s.scrubAll := by
  have hother : (s.startScrub 0).pl 1 = s.pb := State.pl_startScrub_ne s (p := 0) (q := 1) (by simp)
  have hrunB' : ((s.startScrub 0).pl 1).scrub.running = true := hother ▸ hrunB
  obtain ⟨hpa, hpb⟩ := State.planes_scrubAll ha hb
  refine ⟨?_, ?_, fun x i _ _ => ?_⟩
  · rw [hpa, State.startScrub_running (p := 0) hrunA, State.pl_updPl_same]
    rfl
  · rw [hpb, State.startScrub_running hrunB', State.pl_updPl_same, hother]
  · rw [State.scrubAll_bothOn ha hb, State.rd_scrubBuffers, State.rd_scrubBuffers, State.rd_startScrub_running hrunB',
      State.rd_startScrub_running (p := 0) hrunA]

theorem State.bufs_scrubAll (ha : s.isOn 0 = true) (hb : s.isOn 1 = true) :
    ∀ e ∈ s.scrubAll.bufs, e.2.quarantined = true → e.2.held = false → 2 ≤ e.1 / 2 ^ 20 := by
  intro e he hquarantined hheld
  rw [State.scrubAll_bothOn ha hb] at he
  obtain ⟨hfirst, hsecond⟩ := List.mem_filter.1 he
  obtain ⟨-, hfirst⟩ := List.mem_filter.1 hfirst
  have h0 : e.1 / 2 ^ 20 ≠ 0 := by simpa [hquarantined, hheld] using hfirst
  have h1 : e.1 / 2 ^ 20 ≠ 1 := by simpa [hquarantined, hheld] using hsecond
  omega

end

end Sys2Proof.Machine
end

section
/-! The request for a scrub (PID 1824h) on a session that is ready for it (14 R445). -/

namespace Sys2Proof.Machine

/-- SCRUB_REQUEST is a SET of PID 1824h. -/
theorem exec_scrubRequest (el : Nat) (q : Req) (s : State) :
    exec (.scrubRequest el q) s = .next (s.ran el ((s.tick el).takeSet q 0x1824 q.data)) :=
  State.run_of_eq (f := fun u => u.takeSet q 0x1824 q.data) rfl

/-- The request as it arrives. -/
def scrubSet (q : Req) : Request := requestOf q 0x02 0x1824 0 [1]

/-- The module after the scrubs of a request, before the answer. -/
def State.scrubbedFor (s : State) (q : Req) : State := (s.inHand q (scrubSet q)).scrubAll

theorem State.isOn_inHand (s : State) (q : Req) (r : Request) {d : Nat} (hd : d < 13) : (s.inHand q r).isOn d = s.isOn d :=
  congrArg (· == 2) (s.rd_inHand_pid q r (by decide) (by omega))

section
variable {s : State} (ha : s.isOn 0 = true) (hb : s.isOn 1 = true)
include ha hb

theorem State.scrubbedFor_starts (hidleA : s.pa.scrub.running = false) (hidleB : s.pb.scrub.running = false) (q : Req) :
    (s.scrubbedFor q).pa.scrub.running = true ∧ (s.scrubbedFor q).pb.scrub.running = true ∧
      (s.scrubbedFor q).rd 0x1825 0 = 1 ∧ (s.scrubbedFor q).rd 0x1825 1 = 1 ∧
      SameBut [(0x1825, 0), (0x1825, 1)] (s.inHand q (scrubSet q)) (s.scrubbedFor q) :=
  State.scrubAll_starts ((s.isOn_inHand q _ (by decide)).trans ha) ((s.isOn_inHand q _ (by decide)).trans hb)
    (by rwa [State.inHand_pa]) (by rwa [State.inHand_pb])

theorem State.scrubbedFor_queues (hrunA : s.pa.scrub.running = true) (hrunB : s.pb.scrub.running = true) (q : Req) :
    (s.scrubbedFor q).pa.scrub = { s.pa.scrub with queued := true } ∧
      (s.scrubbedFor q).pb.scrub = { s.pb.scrub with queued := true } ∧
      SameBut [] (s.inHand q (scrubSet q)) (s.scrubbedFor q) := by
  have hqueues := State.scrubAll_queues ((s.isOn_inHand q (scrubSet q) (by decide)).trans ha)
    ((s.isOn_inHand q (scrubSet q) (by decide)).trans hb) (by rwa [State.inHand_pa]) (by rwa [State.inHand_pb])
  rwa [State.inHand_pa, State.inHand_pb] at hqueues

theorem State.bufs_scrubbedFor (q : Req) :
    ∀ e ∈ (s.scrubbedFor q).bufs, e.2.quarantined = true → e.2.held = false → 2 ≤ e.1 / 2 ^ 20 :=
  State.bufs_scrubAll ((s.isOn_inHand q _ (by decide)).trans ha) ((s.isOn_inHand q _ (by decide)).trans hb)

end

theorem Catalogue.row_scrubRequest : Catalogue.row? 0x1824 = some (.wo .bool .one (.codes [1])) := rfl

theorem State.ownerStatus_scrub (u : State) (v : Nat) : u.ownerStatus 0x1824 0 v = stOk := by
  simp [State.ownerStatus, State.highStatus, budgetPids]

theorem State.takeSet_scrubSet {q : Req} (hinst : q.inst = 0) (hdata : q.data = [1]) (s : State) :
    s.takeSet q 0x1824 q.data = s.take q 0x02 0x1824 0 [1] := by
  unfold State.takeSet
  rw [hinst, hdata]
  rfl

section
variable {s : State} {q : Req} (h : Ready s q roleSite)
include h

theorem State.scrubbedFor_owed : (s.scrubbedFor q).owed = [] := by
  obtain ⟨_, _, _, _, _, howed, _⟩ := h
  exact ((State.scrubAll_owed _).trans (State.inHand_owed _ _ _)).trans howed

variable (hfull : FullService s)
include hfull

/-- The request passes the checks of R445, and its effect is the scrubs. -/
theorem State.outcome_scrubSet {x : Session} (hx : x.like (s.session (Req.key q))) :
    (s.inHand q (scrubSet q)).outcome (Req.key q) x (s.startedAs (scrubSet q)) =
      ((s.scrubbedFor q).closeGates (s.inHand q (scrubSet q)), .done stOk []) := by
  obtain ⟨_, _, _, _, _, _, _, _, hrole, henrol, _⟩ := h
  obtain ⟨_, _, hxrole, hxenrol, _⟩ := hx
  have hstage : FullService (s.inHand q (scrubSet q)) := by
    unfold FullService
    rwa [State.rd_inHand_pid _ _ _ (by decide) (by decide)]
  exact State.outcome_set_site (row := .wo .bool .one (.codes [1])) (hxrole.trans hrole) (hxenrol.trans henrol) hstage rfl
    Catalogue.row_scrubRequest rfl (fun e => absurd e.1 (by decide : 0x1824 ≠ 0x010D)) (by decide : 0x1824 ≠ 0x040A) (by decide)
    (fun e => absurd e.1 (by decide : 0x1824 ≠ 0x2000)) rfl rfl rfl (State.ownerStatus_scrub _ _)

variable (hinst : q.inst = 0) (hdata : q.data = [1])
include hinst hdata

theorem State.takeSet_scrub : s.takeSet q 0x1824 q.data =
    ((s.scrubbedFor q).closeGates (s.inHand q (scrubSet q))).reply (Req.key q) (s.startedAs (scrubSet q)) stOk [] := by
  rw [State.takeSet_scrubSet hinst hdata]
  exact State.take_done h (by decide) (fun x hx => State.outcome_scrubSet h hfull hx) (by decide)
    ((State.closeGates_owed _ _).trans (State.scrubbedFor_owed h)) (.inl (by decide)) (by decide)

theorem State.answers_scrub {keys : List (Nat × Nat)} (hregs : SameBut keys (s.inHand q (scrubSet q)) (s.scrubbedFor q)) :
    Answers s (s.takeSet q 0x1824 q.data) q 0x02 stOk 0x1824 0 [] keys := by
  rw [State.takeSet_scrubSet hinst hdata]
  exact State.take_answers h (by decide) (fun x hx => State.outcome_scrubSet h hfull hx) (by decide)
    ((State.closeGates_owed _ _).trans (State.scrubbedFor_owed h)) (.inl (by decide)) (by decide)
    ((State.closeGates_out _ _).trans ((State.scrubAll_out _).trans (State.inHand_out _ _ _)))
    (fun x i hi hx => (State.rd_closeGates _ _ x i).trans (hregs x i hi hx))

theorem State.takeSet_scrub_fields : (s.takeSet q 0x1824 q.data).pa = (s.scrubbedFor q).pa ∧
    (s.takeSet q 0x1824 q.data).pb = (s.scrubbedFor q).pb ∧ (s.takeSet q 0x1824 q.data).bufs = (s.scrubbedFor q).bufs := by
  rw [State.takeSet_scrub h hfull hinst hdata]
  simp only [State.reply_pa, State.reply_pb, State.reply_bufs, State.closeGates_pa, State.closeGates_pb, State.closeGates_bufs,
    and_self]

theorem State.rd_takeSet_scrub {x i : Nat} (hi : i < 2 ^ 32) (hx : x ≠ 0x0414) :
    (s.takeSet q 0x1824 q.data).rd x i = (s.scrubbedFor q).rd x i := by
  rw [State.takeSet_scrub h hfull hinst hdata, State.rd_reply _ _ _ _ _ hi (by simp [hx]), State.rd_closeGates]

end

end Sys2Proof.Machine

open Sys2Proof Sys2Proof.Machine

/-- Settles O13: each clause is one equation of its command above, at the tick; what a scrub that ends leaves is `State.pl_sweep`,
`State.rd_sweep` and `State.faults_sweep`, and what a request starts is `State.scrubAll_starts` and `State.scrubAll_queues`. -/
theorem tilesAreWrittenFreedAndScrubbed : Obligations.TilesAreWrittenFreedAndScrubbed := by
  unfold Obligations.TilesAreWrittenFreedAndScrubbed
  have hplane (p : PlaneNo) : p.val < 2 ^ 32 := Nat.lt_trans p.isLt (by decide)
  refine ⟨?_, ?_, ?_, ?_, ?_, ?_, ?_, ?_, ?_, ?_, ?_, ?_, ?_, ?_, ?_, ?_, ?_, ?_⟩
  · exact fun s el p h r hrivals hd => State.run_of_same (contested_frameTileWrite_noFrame (s := s.tick el) hrivals hd r.toNat)
  · exact fun s el p h r d hrivals hd hstored =>
      State.run_of_same (contested_frameTileWrite_stored (s := s.tick el) hrivals hd hstored r.toNat)
  · intro s el c x p h d hd hrx hmore hask hgot
    exact State.run_of_eq ((contested_alone _ _ _).trans (frameTileWrite_granted (s := s.tick el) hd hrx hmore hask hgot))
  · intro s el p h d hd hrx hmore hfull
    exact State.run_of_eq ((contested_alone _ _ _).trans (frameTileWrite_overruns (s := s.tick el) hd hrx hmore hfull))
  · exact fun s p d c hroom => State.askPool_noRoom hroom
  · exact fun s p d c hroom hrefused hall => State.askPool_roomForAll hroom hrefused hall
  · exact fun s el p g _ hturn => (exec_cacheRefill el p g s).trans (State.run_of_eq (State.serveRefill_due (s := s.tick el) hturn))
  · exact fun s el p g h => (exec_cacheRefill el p g s).trans (State.run_of_same (State.serveRefill_idle (s := s.tick el) h))
  · exact fun s el p x => State.run_of_eq (f := linkMemoryError p.val x.val false) rfl
  · exact fun s el p x h => State.run_of_eq (linkMemoryError_unchained (s := s.tick el) h)
  · exact fun s el h p x d hchain => State.run_of_eq (linkMemoryError_chained (s := s.tick el) hchain)
  · intro s el p hon hidle hdue
    have hscrub : (((s.tick el).startScrub p.val).pl p.val).scrub = _ := State.scrub_startScrub_idle (s := s.tick el) hidle
    refine ⟨_, State.run_of_eq (scrubStart_due (s := s.tick el) hon hidle hdue), ?_, ?_, ?_, ?_⟩
    · exact congrArg Scrub.running hscrub
    · exact State.rd_startScrub_idle (s := s.tick el) hidle
    · exact congrArg Scrub.suspects hscrub
    · exact (s.tick el).sameBut_startScrub (hplane p)
  · intro s el p hrun hnot
    refine State.run_of_same (scrubStart_waits (s := s.tick el) hrun ?_)
    rintro ⟨hset, hpast⟩
    rcases hnot with hoff | hearly
    · exact hset hoff
    · exact Nat.not_le.2 hearly hpast
  · intro s el q hready hfull hinst hdata ha hb hidleA hidleB
    obtain ⟨hrunA, hrunB, hshowA, hshowB, hregs⟩ := State.scrubbedFor_starts (s := s.tick el) ha hb hidleA hidleB q
    obtain ⟨hta, htb, htbufs⟩ := State.takeSet_scrub_fields (s := s.tick el) hready hfull hinst hdata
    have hrd (i : Nat) (hi : i < 2 ^ 32) := State.rd_takeSet_scrub (s := s.tick el) hready hfull hinst hdata (x := 0x1825) hi (by decide)
    refine ⟨_, exec_scrubRequest el q s, ?_, ?_, ?_, ?_, ?_, ?_⟩
    · exact (congrArg (fun x : Plane => x.scrub.running) hta).trans hrunA
    · exact (congrArg (fun x : Plane => x.scrub.running) htb).trans hrunB
    · exact (hrd 0 (by decide)).trans hshowA
    · exact (hrd 1 (by decide)).trans hshowB
    · exact fun e he => State.bufs_scrubbedFor (s := s.tick el) ha hb q e (htbufs ▸ he)
    · exact State.answers_scrub (s := s.tick el) hready hfull hinst hdata hregs
  · intro s el q hready hfull hinst hdata ha hb hrunA hrunB
    obtain ⟨hqueueA, hqueueB, hregs⟩ := State.scrubbedFor_queues (s := s.tick el) ha hb hrunA hrunB q
    obtain ⟨hta, htb, -⟩ := State.takeSet_scrub_fields (s := s.tick el) hready hfull hinst hdata
    exact ⟨_, exec_scrubRequest el q s, (congrArg Plane.scrub hta).trans hqueueA, (congrArg Plane.scrub htb).trans hqueueB,
      State.answers_scrub (s := s.tick el) hready hfull hinst hdata hregs⟩
  · intro s el p c hrun hsingle hc
    let u := (s.tick el).sweep p.val
    have hc' : c = (s.pl p.val).scrubbed := hc
    subst hc'
    obtain ⟨hoff, hcount, hknown, hlost⟩ := (s.tick el).rd_sweep (hplane p)
    have hpl : u.pl p.val = _ := (s.tick el).pl_sweep p.val
    refine ⟨_, State.run_of_eq (scrubEnd_single (s := s.tick el) hrun hsingle), hoff, hcount, hknown, hlost, ?_, ?_, ?_, ?_⟩
    · exact congrArg (fun x : Plane => x.scrub.running) hpl
    · exact congrArg Plane.taken hpl
    · exact (s.tick el).faults_sweep p.val
    · exact (s.tick el).sameBut_sweep (hplane p)
  · intro s el p hrun hqueued
    let u := (s.tick el).sweep p.val
    obtain ⟨-, hcount, -, -⟩ := (s.tick el).rd_sweep (hplane p)
    have hidle : (u.pl p.val).scrub.running = false := (s.tick el).sweep_idle p.val
    have hscrub := State.scrub_startScrub_idle hidle
    refine ⟨_, State.run_of_eq (scrubEnd_queued (s := s.tick el) hrun hqueued), ?_, ?_, ?_, ?_⟩
    · exact congrArg Scrub.running hscrub
    · exact congrArg Scrub.queued hscrub
    · exact State.rd_startScrub_idle hidle
    · exact (u.sameBut_startScrub (hplane p) 0x1826 p.val (hplane p) (by simp)).trans hcount
  · exact fun s el p h => State.run_of_same (scrubEnd_idle (s := s.tick el) h)
end

section
/-! The choice of the next copy of a port (10 R303, R316), its commitment (R305), and the readout of a copy (07 R235). -/

namespace Sys2Proof.Machine

/-! ### When a choice is made (R303, R305) -/

section
variable {s : State} {p e : Nat}

theorem State.mayStart_iff : s.mayStart p e = true ↔
    s.isOn p = true ∧ Tab.find? (s.pl p).sending e = none ∧ Tab.get 0 (s.pl p).sched.lineEnd e ≤ s.rc := by
  simp [State.mayStart, domPlane, and_assoc]

theorem schedulerSelect_barred (h : s.isOn p = false ∨ (Tab.find? (s.pl p).sending e).isSome = true ∨
    s.rc < Tab.get 0 (s.pl p).sched.lineEnd e) : schedulerSelect p e s = s := by
  refine if_neg fun hmay => ?_
  obtain ⟨hon, hfree, hpast⟩ := State.mayStart_iff.1 hmay
  rcases h with hoff | hbusy | hearly
  · rw [hon] at hoff; exact Bool.noConfusion hoff
  · rw [hfree] at hbusy; exact Bool.noConfusion hbusy
  · exact Nat.not_le.2 hearly hpast

/-- No head is held by its gate where the port has no gate list in force (R315). -/
theorem State.countHolds_ungated (h : 144 ≤ e ∨ s.rd 0x221F e = 0) : s.countHolds p e = s := if_pos (h.imp_right .inl)

theorem schedulerSelect_starts (hungated : 144 ≤ e ∨ s.rd 0x221F e = 0) (hon : s.isOn p = true)
    (hfree : Tab.find? (s.pl p).sending e = none) (hpast : Tab.get 0 (s.pl p).sched.lineEnd e ≤ s.rc) :
    schedulerSelect p e s = State.select p e (((s.pl p).copiesOf e).length + 1) s := by
  unfold schedulerSelect
  rw [if_pos (State.mayStart_iff.2 ⟨hon, hfree, hpast⟩), State.countHolds_ungated hungated]

/-! ### The choice with the discards that precede it (R303) -/

theorem State.select_none (h : s.choose p e [7, 6, 5, 4, 3, 2, 1, 0] = none) (n : Nat) : State.select p e n s = s := by
  cases n with
  | zero => rfl
  | succ n => simp only [State.select, h]

theorem schedulerSelect_none (hungated : 144 ≤ e ∨ s.rd 0x221F e = 0) (h : s.choose p e [7, 6, 5, 4, 3, 2, 1, 0] = none) :
    schedulerSelect p e s = s := by
  cases hmay : s.mayStart p e with
  | true =>
    obtain ⟨hon, hfree, hpast⟩ := State.mayStart_iff.1 hmay
    rw [schedulerSelect_starts hungated hon hfree hpast, State.select_none h]
  | false => exact if_neg (by simp [hmay])

variable {x : Choice} {g : PlaneSched} {d : Desc} (hx : s.choose p e [7, 6, 5, 4, 3, 2, 1, 0] = some (x, g))
include hx

theorem State.select_aged {r : Bool} (haged : s.aged x.copy = some r) (n : Nat) :
    State.select p e (n + 1) s = State.select p e n (s.ageOut p x.copy r) := by
  simp only [State.select, hx, haged]

variable (hyoung : s.aged x.copy = none) (hd : Tab.find? (s.pl p).desc x.copy.head = some d)
include hyoung hd

theorem State.select_ttlExpired (hrw : x.copy.rewritten = true)
    (httl : ttlExpired d.frame.bytes (s.rwContent d.rewrite) d.frame.ipOff = true) (n : Nat) :
    State.select p e (n + 1) s =
      State.select p e n (((s.unqueue p x.copy).release p x.copy.head x.copy.gen e).inc 0x142E p) := by
  simp only [State.select, hx, hyoung, hd, hrw, httl, Bool.and_self, if_true]

theorem State.select_fit (hlive : x.copy.rewritten = false ∨ ttlExpired d.frame.bytes (s.rwContent d.rewrite) d.frame.ipOff = false)
    (hfits : 144 ≤ e ∨ s.gateNever e x.copy.cls (s.copyLen p x.copy) = false) (n : Nat) :
    State.select p e (n + 1) s = s.commit p e x g := by
  have hkept : (x.copy.rewritten && ttlExpired d.frame.bytes (s.rwContent d.rewrite) d.frame.ipOff) = false :=
    Bool.and_eq_false_iff.2 hlive
  have hgate : ¬(e < 144 ∧ s.gateShut (domPlane p) 2 = false ∧ s.gateNever e x.copy.cls (s.copyLen p x.copy) = true) := by
    rintro ⟨hext, -, hnever⟩
    rcases hfits with hint | hpass
    · exact Nat.not_lt.2 hint hext
    · rw [hpass] at hnever; exact Bool.noConfusion hnever
  simp only [State.select, hx, hyoung, hd, hkept, hgate, if_false, Bool.false_eq_true]

end

/-! ### The commitment (R305) -/

section
variable (s : State) (p : Nat)

theorem State.desc_chargeShapers (charge : Nat) (els : List Nat) : ((s.chargeShapers p charge els).pl p).desc = (s.pl p).desc := by
  unfold State.chargeShapers
  induction els generalizing s with
  | nil => rfl
  | cons k els ih =>
    refine (ih _).trans ?_
    dsimp only
    split
    · rw [State.pl_updPl_same]
    · rfl

theorem State.pl_countSent (els : List Nat) (q : Nat) : (s.countSent p els).pl q = s.pl q := by
  unfold State.countSent
  induction els generalizing s with
  | nil => rfl
  | cons k els ih => exact (ih _).trans (State.pl_inc _ _ _ _)

theorem State.pl_countBytes (len : Nat) (path : List Nat) (q : Nat) : (s.countBytes p len path).pl q = s.pl q := by
  unfold State.countBytes
  induction path.filter (fun k => decide (2 ^ 20 ≤ k)) generalizing s with
  | nil => rfl
  | cons k els ih => exact (ih _).trans (State.pl_wr _ _ _ _ _)

theorem Plane.outputOf_congr {a b : Plane} (h : a.desc = b.desc) (c : Copy) : a.outputOf c = b.outputOf c := by
  unfold Plane.outputOf
  rw [h]

/-- The copy committed to an output. -/
def State.committed (s : State) (p o : Nat) : Option Copy := (Tab.find? (s.pl p).sending o).map Sending.copy

theorem State.committed_startCopy (o : Nat) : (s.startCopy p o).committed p o = s.committed p o := by
  unfold State.startCopy
  split
  · next x hx =>
    split
    · simp only [State.committed, State.pl_updPl_same, Tab.find?_set_same, hx, Option.map_some]
    · rfl
  · rfl

theorem State.committed_ite {c : Prop} [Decidable c] {t u : State} {o : Nat} {k : Option Copy} (ht : t.committed p o = k)
    (hu : u.committed p o = k) : (if c then t else u).committed p o = k := by
  split
  · exact ht
  · exact hu

theorem State.committed_tryStart (o : Nat) : (s.tryStart p o).committed p o = s.committed p o := by
  unfold State.tryStart
  split
  · exact State.committed_ite p rfl (State.committed_ite p rfl (State.committed_ite p (s.committed_startCopy p o) rfl))
  · rfl

/-- A copy that is committed stands at its output. -/
theorem State.committed_commit (e : Nat) (x : Choice) (g : PlaneSched) :
    (s.commit p e x g).committed p ((s.pl p).outputOf x.copy) = some x.copy := by
  unfold State.commit
  extract_lets els known len s1 s2 o s3 s4
  have hdesc : (s2.pl p).desc = (s.pl p).desc := by
    have hs1 : (s1.pl p).desc = (s.pl p).desc := by rw [State.pl_updPl_same]
    refine (congrArg Plane.desc (State.pl_countSent _ p els p)).trans ?_
    split
    · rw [State.desc_chargeShapers, hs1]
    · exact hs1
  have ho : o = (s.pl p).outputOf x.copy := Plane.outputOf_congr hdesc x.copy
  have hpl : s4.pl p = s3.pl p := by
    unfold s4
    split
    · exact State.pl_countBytes _ p _ _ p
    · rfl
  rw [← ho, State.committed_tryStart, State.committed, hpl, State.pl_updPl_same, Tab.find?_set_same]
  rfl

end

/-! ### The readout of a copy (07 R235) -/

section
variable {s : State} {p e : Nat}

theorem copyReadoutComplete_ends {x : Sending} {d : Desc} (hx : Tab.find? (s.pl p).sending e = some x)
    (hd : Tab.find? (s.pl p).desc x.copy.head = some d) (hstarted : x.started = true) (hended : d.frame.ended = true)
    (hgood : d.frame.bad = false) (hstored : d.holders.testBit 148 = false) :
    copyReadoutComplete p e s =
      ((((s.deliver p x.copy d).setLineEnd p e d.frame.bytes.length).inc 0x1A1B (qInst p x.copy.queue)).unqueue p x.copy).release p
        x.copy.head x.copy.gen x.copy.port := by
  unfold copyReadoutComplete
  simp only [hx, hd]
  exact if_pos ⟨hstarted, hended, hgood, hstored⟩

theorem copyReadoutComplete_waits (h : (Tab.find? (s.pl p).sending e).all (fun x => !x.started ||
    (Tab.find? (s.pl p).desc x.copy.head).all (fun d => !d.frame.ended || d.frame.bad || d.holders.testBit 148)) = true) :
    copyReadoutComplete p e s = s := by
  unfold copyReadoutComplete
  split
  · next x hx =>
    split
    · next d hd =>
      refine if_neg ?_
      rintro ⟨hstarted, hended, hgood, hstored⟩
      simp [hx, hd, hstarted, hended, hgood, hstored] at h
    · rfl
  · rfl

end

end Sys2Proof.Machine
end

section
/-! The report of the transmit credit (11 R336). -/

namespace Sys2Proof.Machine

theorem creditReport_between {s : State} (h : s.rc % 16 ≠ 0) : creditReport s = s := if_neg h

/-- Both planes take the free space of a port's FIFO, with nothing started since. -/
theorem State.credit_reportPort (s : State) (e : Nat) {p : Nat} (hp : p < 2) :
    Tab.get (16384, 0) ((s.reportPort e).pl p).sched.credit e = ((s.pop e).fifoFree e, 0) := by
  have htaken (t : Tab (Nat × Nat)) (free : Nat) :
      Tab.get (16384, 0) (if free = 16384 then Tab.del t e else Tab.set t e (free, 0)) e = (free, 0) := by
    split
    · next hfree => rw [Tab.get_del_same, hfree]
    · exact Tab.get_set_same _ _ _ _
  unfold State.reportPort
  simp only [List.foldl_cons, List.foldl_nil]
  obtain rfl | rfl : p = 0 ∨ p = 1 := by omega
  · rw [State.pl_updPl_ne _ _ (by simp), State.pl_updPl_same]
    exact htaken _ _
  · rw [State.pl_updPl_same]
    exact htaken _ _

/-- A report finds nothing where no port has a bond unit, credit taken, or a copy. -/
theorem creditReport_quiet {s : State} (hbonds : s.bonds = []) (hqueuesA : s.pa.queues = []) (hqueuesB : s.pb.queues = [])
    (hsendingA : s.pa.sending = []) (hsendingB : s.pb.sending = []) (hcreditA : s.pa.sched.credit = [])
    (hcreditB : s.pb.sched.credit = []) : creditReport s = s := by
  have hports : Tab.keys s.bonds ++ Tab.keys s.pa.sched.credit ++ Tab.keys s.pb.sched.credit = [] := by
    rw [hbonds, hcreditA, hcreditB]; rfl
  have hbusyA : (s.pl 0).busyPorts = [] := congrArg (List.foldl _ []) hqueuesA
  have hbusyB : (s.pl 1).busyPorts = [] := congrArg (List.foldl _ []) hqueuesB
  have hkeysA : Tab.keys (s.pl 0).sending = [] := congrArg Tab.keys hsendingA
  have hkeysB : Tab.keys (s.pl 1).sending = [] := congrArg Tab.keys hsendingB
  unfold creditReport
  simp only [hports, List.foldl_cons, List.foldl_nil, hbusyA, hbusyB, hkeysA, hkeysB, ite_self]

end Sys2Proof.Machine
end

section
/-! The ager's visit to a queue (08 R260, R273). -/

namespace Sys2Proof.Machine

/-- The ager visits a queue of a plane. -/
def State.ageVisit (s : State) (p n : Nat) : State := State.ageQueue p ((s.pl p).queue n) (s.noteTimeless p)

theorem exec_agerVisit (el : Nat) (p : PlaneNo) (q : Fin 32768) (s : State) :
    exec (.agerVisit el p q) s = s.run el (fun u => u.ageVisit p.val q.val) := rfl

theorem Plane.queued_of_mem {q : Plane} {c : Copy} (h : c ∈ q.queue c.queue) : q.queued c = true :=
  List.any_eq_true.2 ⟨c, h, by simp⟩

section
variable {s : State} {p n : Nat} (hsame : s.timeless = s.servo.timeless)
include hsame

/-- A condition of fault bit 129 that is as it was leaves nothing to note. -/
theorem State.noteTimeless_unchanged (p : Nat) : s.noteTimeless p = s := by
  unfold State.noteTimeless
  rw [hsame]
  refine if_neg ?_
  rintro ⟨hset, hclear⟩
  rw [hset] at hclear
  exact Bool.noConfusion hclear

theorem State.ageVisit_empty (hempty : (s.pl p).queue n = []) : s.ageVisit p n = s := by
  unfold State.ageVisit
  rw [State.noteTimeless_unchanged hsame, hempty]
  rfl

variable {c : Copy} {rest : List Copy} (hqueue : (s.pl p).queue n = c :: rest) (hc : c.queue = n)
  (hidle : (s.pl p).inTransmission c = false)
include hqueue hc hidle

/-- A head copy that is not in transmission is looked at for its age. -/
theorem State.ageVisit_head : s.ageVisit p n = (s.aged c).elim s (fun r => State.ageQueue p rest (s.ageOut p c r)) := by
  have hqueued : (s.pl p).queued c = true := Plane.queued_of_mem (by rw [hc, hqueue]; exact List.mem_cons_self)
  unfold State.ageVisit
  rw [State.noteTimeless_unchanged hsame, hqueue]
  refine (if_neg (by simp [hidle, hqueued])).trans ?_
  cases s.aged c with
  | none => rfl
  | some r => rfl

theorem State.ageVisit_aged {r : Bool} (haged : s.aged c = some r) :
    s.ageVisit p n = State.ageQueue p rest (s.ageOut p c r) := by
  rw [State.ageVisit_head hsame hqueue hc hidle, haged]
  rfl

theorem State.ageVisit_young (hyoung : s.aged c = none) : s.ageVisit p n = s := by
  rw [State.ageVisit_head hsame hqueue hc hidle, hyoung]
  rfl

end

end Sys2Proof.Machine
end

section
/-! The flush of a queue (08 R269): copies leave the queues and the outputs of the planes, none enters, and nothing is answered. -/

namespace Sys2Proof.Machine

/-- Copies leave a plane's queues, and commitments its outputs, and none enters. -/
structure Plane.Withdraws (a b : Plane) : Prop where
  queue : ∀ n, b.queue n ⊆ a.queue n
  sending : ∀ o x, Tab.find? b.sending o = some x → Tab.find? a.sending o = some x

/-- Copies leave the planes, and none enters; no message is sent and no answer falls due. -/
structure State.Withdraws (s t : State) : Prop where
  out : t.out = s.out
  owed : t.owed = s.owed
  plane : ∀ p, (s.pl p).Withdraws (t.pl p)

namespace Plane.Withdraws

theorem of_eq {a b : Plane} (hqueues : b.queues = a.queues) (hsending : b.sending = a.sending) : a.Withdraws b where
  queue n := by unfold Plane.queue; rw [hqueues]; exact List.Subset.refl _
  sending o x h := by rwa [hsending] at h

theorem refl (a : Plane) : a.Withdraws a := .of_eq rfl rfl

theorem trans {a b c : Plane} (h : a.Withdraws b) (h' : b.Withdraws c) : a.Withdraws c where
  queue n := List.Subset.trans (h'.queue n) (h.queue n)
  sending o x hx := h.sending o x (h'.sending o x hx)

/-- A copy toward a port has not begun its transmission where it had not before others left. -/
theorem inTransmission {a b : Plane} (h : a.Withdraws b) {c : Copy} (hport : c.port < 146) (hidle : a.inTransmission c = false) :
    b.inTransmission c = false := by
  have hout (q : Plane) : q.outputOf c = c.port := if_neg (Nat.ne_of_lt hport)
  unfold Plane.inTransmission at hidle ⊢
  rw [hout] at hidle ⊢
  split
  · next x hx => rwa [h.sending _ _ hx] at hidle
  · rfl

end Plane.Withdraws

namespace State.Withdraws

/-- The parts that `Withdraws` speaks of are equal. -/
theorem of_eq {s t : State} (hout : t.out = s.out) (howed : t.owed = s.owed) (ha : t.pa = s.pa) (hb : t.pb = s.pb) : s.Withdraws t where
  out := hout
  owed := howed
  plane p := by unfold State.pl; rw [ha, hb]; exact .refl _

theorem refl (s : State) : s.Withdraws s := .of_eq rfl rfl rfl rfl

theorem trans {s t u : State} (h : s.Withdraws t) (h' : t.Withdraws u) : s.Withdraws u where
  out := h'.out.trans h.out
  owed := h'.owed.trans h.owed
  plane p := (h.plane p).trans (h'.plane p)

theorem foldl {α : Type} {f : State → α → State} (h : ∀ (s : State) (a : α), s.Withdraws (f s a)) (l : List α) :
    ∀ s : State, s.Withdraws (l.foldl f s) := by
  induction l with
  | nil => exact refl
  | cons a l ih => exact fun s => (h s a).trans (ih _)

theorem ite {c : Prop} [Decidable c] {s t u : State} (ht : s.Withdraws t) (hu : s.Withdraws u) : s.Withdraws (if c then t else u) := by
  split
  · exact ht
  · exact hu

end State.Withdraws

section
variable (s : State)

theorem State.withdraws_wr (x i v : Nat) : s.Withdraws (s.wr x i v) := .of_eq rfl rfl rfl rfl

theorem State.withdraws_inc (x i : Nat) : s.Withdraws (s.inc x i) := s.withdraws_wr x i _

theorem State.withdraws_fault (b inst : Nat) : s.Withdraws (s.fault b inst) :=
  .of_eq (s.fault_out b inst) (s.fault_owed b inst) (s.fault_pa b inst) (s.fault_pb b inst)

theorem State.withdraws_updPl (p : Nat) {f : Plane → Plane} (hf : (s.pl p).Withdraws (f (s.pl p))) : s.Withdraws (s.updPl p f) where
  out := s.updPl_out p f
  owed := s.updPl_owed p f
  plane q := by
    by_cases h : (p = 0) = (q = 0)
    · have hsame (u : State) : u.pl q = u.pl p := by unfold State.pl; simp only [h]
      rw [hsame, hsame, State.pl_updPl_same]
      exact hf
    · rw [State.pl_updPl_ne s f h]
      exact .refl _

/-! ### Releases (07 R235 to R240) -/

theorem State.withdraws_startScrub (p : Nat) : s.Withdraws (s.startScrub p) :=
  .ite (s.withdraws_updPl p (.of_eq rfl rfl)) ((s.withdraws_updPl p (.of_eq rfl rfl)).trans (State.withdraws_wr _ _ _ _))

theorem State.withdraws_scrubAt (p before : Nat) : s.Withdraws (s.scrubAt p before) := .ite (s.withdraws_startScrub p) (.refl s)

theorem State.withdraws_freeFailure (p kind : Nat) : s.Withdraws (s.freeFailure p kind) :=
  (s.withdraws_inc _ _).trans (State.withdraws_fault _ _ _)

theorem State.withdraws_quarantine (p t : Nat) : s.Withdraws (s.quarantine p t) := by
  refine .ite (s.withdraws_freeFailure p 3) ((s.withdraws_updPl p ?_).trans (State.withdraws_scrubAt _ p _))
  dsimp only
  split
  · exact .of_eq rfl rfl
  · exact .of_eq rfl rfl

theorem Plane.withdraws_unsuspect (q : Plane) (t : Nat) : q.Withdraws (q.unsuspect t) := by
  unfold Plane.unsuspect
  split
  · exact .of_eq rfl rfl
  · exact .refl q

theorem State.withdraws_freeChain (n : Nat) :
    ∀ (s : State) (p : Nat) (d : Desc) (t : Nat), s.Withdraws (State.freeChain n s p d t) := by
  induction n with
  | zero => exact fun s _ _ _ => .refl s
  | succ n ih =>
    intro s p d t
    unfold State.freeChain
    refine .ite (s.withdraws_freeFailure p 0) (.ite (s.withdraws_freeFailure p 1) ?_)
    split
    · next x hx =>
      extract_lets q q1 full q2 s1 s2
      have hq1 : q.Withdraws q1 := by
        refine .trans ?_ (Plane.withdraws_unsuspect _ t)
        exact .of_eq rfl rfl
      have hq2 : q1.Withdraws q2 := by
        unfold q2
        split
        · exact .of_eq rfl rfl
        · exact .of_eq rfl rfl
      have hfreed : s.Withdraws s2 :=
        (s.withdraws_updPl p (hq1.trans hq2)).trans (.ite (State.withdraws_freeFailure _ p 3) (.refl _))
      exact .ite hfreed (hfreed.trans (ih _ p d _))
    · exact .refl s

theorem State.withdraws_settleShort (p : Nat) : s.Withdraws (s.settleShort p) := .ite (.refl s) (s.withdraws_updPl p (.of_eq rfl rfl))

theorem State.withdraws_sendPause (i prio time : Nat) : s.Withdraws (s.sendPause i prio time) := by
  have hsent : s.Withdraws (s.send i (controlFrame (s.portMac i) prio time) false) := .of_eq rfl rfl rfl rfl
  exact hsent.trans (.ite (State.withdraws_inc _ _ _) (State.withdraws_inc _ _ _))

theorem State.withdraws_pauseCheckOne (i prio : Nat) : s.Withdraws (s.pauseCheckOne i prio) := by
  have hport (f : Port → Port) : s.Withdraws (s.updPort i f) := .of_eq rfl rfl rfl rfl
  have hsent (f : Port → Port) (time : Nat) : s.Withdraws ((s.updPort i f).sendPause i prio time) :=
    (hport f).trans (State.withdraws_sendPause _ i prio time)
  unfold State.pauseCheckOne
  dsimp only
  split
  · exact .ite (hsent _ _) (.refl s)
  · exact .ite (hsent _ _) (.refl s)

theorem State.withdraws_pauseCheck (i : Nat) : s.Withdraws (s.pauseCheck i) := by
  have hclasses : s.Withdraws ((bitsOf 8 (s.rd 0x0832 i)).foldl (fun u k => u.pauseCheckOne i k) s) :=
    .foldl (fun u k => u.withdraws_pauseCheckOne i k) _ s
  exact .ite (.refl s) (.ite (.refl s) (.ite (hclasses.trans (State.withdraws_pauseCheckOne _ i 8)) hclasses))

theorem State.withdraws_afterFree (p : Nat) (d : Desc) (before : Nat) : s.Withdraws (s.afterFree p d before) :=
  ((s.withdraws_settleShort p).trans (State.withdraws_pauseCheck _ _)).trans (State.withdraws_scrubAt _ p before)

theorem State.withdraws_release (p h g e : Nat) : s.Withdraws (s.release p h g e) := by
  have hrefused (kind : Nat) : s.Withdraws ((s.freeFailure p kind).quarantine p h) :=
    (s.withdraws_freeFailure p kind).trans (State.withdraws_quarantine _ p h)
  unfold State.release
  refine .ite (s.withdraws_freeFailure p 0) ?_
  split
  · exact hrefused 1
  · refine .ite (hrefused 1) (.ite (hrefused 2) ?_)
    extract_lets d s1 s2
    have hcounted : s.Withdraws s1 := .ite ((s.withdraws_inc _ p).trans (State.withdraws_fault _ _ _)) (.refl s)
    have hlast : s1.Withdraws s2 := s1.withdraws_updPl p (.of_eq rfl rfl)
    refine hcounted.trans (.ite ?_ (s1.withdraws_updPl p (.of_eq rfl rfl)))
    exact (hlast.trans (State.withdraws_freeChain 36 _ p _ h)).trans (State.withdraws_afterFree _ p _ _)

/-! ### Removal from the queues (08 R249, R272) -/

theorem State.withdraws_clearIdle (p q : Nat) : s.Withdraws (s.clearIdle p q) :=
  .ite (s.withdraws_updPl p (.of_eq rfl rfl)) (.refl s)

theorem get_removeFrom_same (queues : Tab (List Copy)) (c : Copy) :
    Tab.get [] (removeFrom queues c) c.queue = (Tab.get [] queues c.queue).filter (fun x => x.head != c.head) := by
  unfold removeFrom
  dsimp only
  split
  · next h => rw [Tab.get_del_same, List.isEmpty_iff.1 h]
  · rw [Tab.get_set_same]

theorem get_removeFrom_ne (queues : Tab (List Copy)) (c : Copy) {n : Nat} (h : n ≠ c.queue) :
    Tab.get [] (removeFrom queues c) n = Tab.get [] queues n := by
  unfold removeFrom
  dsimp only
  split
  · exact Tab.get_del_ne _ _ h
  · exact Tab.get_set_ne _ _ _ h

/-- A plane without a copy: in its queue, and committed to its output. -/
def Plane.without (q : Plane) (c : Copy) : Plane :=
  { q with
    queues := removeFrom q.queues c
    sending := match Tab.find? q.sending (q.outputOf c) with
      | some x => if x.copy.head = c.head then Tab.del q.sending (q.outputOf c) else q.sending
      | none => q.sending }

theorem State.takeOut_eq (p : Nat) (c : Copy) : s.takeOut p c = (s.updPl p (fun q => q.without c)).clearIdle p c.queue := rfl

theorem Plane.queue_without (q : Plane) (c : Copy) :
    (q.without c).queue c.queue = (q.queue c.queue).filter (fun x => x.head != c.head) := get_removeFrom_same q.queues c

theorem Plane.queue_without_ne (q : Plane) (c : Copy) {n : Nat} (h : n ≠ c.queue) : (q.without c).queue n = q.queue n :=
  get_removeFrom_ne q.queues c h

theorem Tab.find?_of_find?_del {α : Type} {t : Tab α} {k o : Nat} {x : α} (h : Tab.find? (Tab.del t k) o = some x) :
    Tab.find? t o = some x := by
  by_cases ho : o = k
  · rw [ho, Tab.find?_del_same] at h; exact nomatch h
  · rwa [Tab.find?_del_ne _ ho] at h

theorem Plane.withdraws_without (q : Plane) (c : Copy) : q.Withdraws (q.without c) where
  queue n := by
    by_cases h : n = c.queue
    · rw [h, Plane.queue_without]; exact List.filter_sublist.subset
    · rw [Plane.queue_without_ne q c h]; exact List.Subset.refl _
  sending o x h := by
    unfold Plane.without at h
    dsimp only at h
    split at h
    · split at h
      · exact Tab.find?_of_find?_del h
      · exact h
    · exact h

theorem State.withdraws_takeOut (p : Nat) (c : Copy) : s.Withdraws (s.takeOut p c) :=
  (s.withdraws_updPl p (Plane.withdraws_without _ c)).trans (State.withdraws_clearIdle _ p c.queue)

theorem State.withdraws_purgeBad (p k n : Nat) : ∀ s : State, s.Withdraws (State.purgeBad p k n s) := by
  induction n with
  | zero => exact fun s => .refl s
  | succ n ih =>
    intro s
    unfold State.purgeBad
    split
    · refine .ite (.trans ?_ (ih _)) (.refl s)
      exact ((s.withdraws_takeOut p _).trans (State.withdraws_release _ _ _ _ _)).trans (State.withdraws_inc _ _ _)
    · exact .refl s

theorem State.withdraws_unqueue (p : Nat) (c : Copy) : (s.takeOut p c).Withdraws (s.unqueue p c) := State.withdraws_purgeBad p _ _ _

theorem State.withdraws_discarded (p : Nat) (c : Copy) (pid : Nat) :
    (s.takeOut p c).Withdraws (((s.unqueue p c).release p c.head c.gen c.port).inc pid (qInst p c.queue)) :=
  ((s.withdraws_unqueue p c).trans (State.withdraws_release _ p _ _ _)).trans (State.withdraws_inc _ _ _)

theorem State.withdraws_discard (p : Nat) (c : Copy) (pid : Nat) : s.Withdraws (s.discard p c pid) :=
  .ite ((s.withdraws_takeOut p c).trans (s.withdraws_discarded p c pid)) (.refl s)

theorem State.withdraws_flush (p : Nat) (l : List Copy) : s.Withdraws (s.flush p l) :=
  .foldl (fun u c => .ite (.refl u) (u.withdraws_discard p c 0x1A22)) l s

theorem State.withdraws_queueFlush (n : Nat) : s.Withdraws (queueFlush n s) := .foldl (fun u p => u.withdraws_flush p _) [0, 1] s

/-! ### What a flush leaves of a queue (R269) -/

variable {s}

theorem State.head_ne_of_mem_takeOut {p : Nat} {c x : Copy} (h : x ∈ ((s.takeOut p c).pl p).queue c.queue) : x.head ≠ c.head := by
  rw [State.takeOut_eq] at h
  have hmem := ((State.withdraws_clearIdle _ p c.queue).plane p).queue c.queue h
  rw [State.pl_updPl_same, Plane.queue_without] at hmem
  simpa using (List.mem_filter.1 hmem).2

/-- A copy that is discarded is no longer in its queue. -/
theorem State.notMem_queue_discard (p : Nat) (c : Copy) (pid : Nat) : c ∉ ((s.discard p c pid).pl p).queue c.queue := by
  unfold State.discard
  split
  · exact fun h => State.head_ne_of_mem_takeOut (((s.withdraws_discarded p c pid).plane p).queue c.queue h) rfl
  · next hgone => exact fun h => hgone (Plane.queued_of_mem h)

/-- None of the copies that a flush goes through stays, where none is in transmission. -/
theorem State.notMem_queue_flush {p n : Nat} {l : List Copy} (hl : ∀ c ∈ l, c.queue = n ∧ c.port < 146) :
    ∀ {s : State}, (∀ c ∈ l, (s.pl p).inTransmission c = false) → ∀ c ∈ l, c ∉ ((s.flush p l).pl p).queue n := by
  induction l with
  | nil => exact fun _ c hc => absurd hc List.not_mem_nil
  | cons a l ih =>
    obtain ⟨⟨hqueue, -⟩, htail⟩ := List.forall_mem_cons.1 hl
    intro s hidle
    obtain ⟨hfirst, hrest⟩ := List.forall_mem_cons.1 hidle
    have hflush : s.flush p (a :: l) = (s.discard p a 0x1A22).flush p l := by
      unfold State.flush
      rw [List.foldl_cons, hfirst]
      rfl
    have hidle' : ∀ c ∈ l, ((s.discard p a 0x1A22).pl p).inTransmission c = false := fun c hc =>
      ((s.withdraws_discard p a 0x1A22).plane p).inTransmission (htail c hc).2 (hrest c hc)
    rw [hflush]
    refine List.forall_mem_cons.2 ⟨fun h => ?_, ih htail hidle'⟩
    have hmem := ((State.withdraws_flush _ p l).plane p).queue n h
    rw [← hqueue] at hmem
    exact State.notMem_queue_discard p a 0x1A22 hmem

theorem State.queue_flush_eq_nil {p n : Nat} (hl : ∀ c ∈ (s.pl p).queue n, c.queue = n ∧ c.port < 146)
    (hidle : ∀ c ∈ (s.pl p).queue n, (s.pl p).inTransmission c = false) : ((s.flush p ((s.pl p).queue n)).pl p).queue n = [] :=
  List.eq_nil_iff_forall_not_mem.2 fun c hc =>
    State.notMem_queue_flush hl hidle c (((s.withdraws_flush p _).plane p).queue n hc) hc

variable {n : Nat}

/-- Both planes' queues are empty after a flush, where none of their copies is in transmission. -/
theorem queue_queueFlush_eq_nil (hl : ∀ c ∈ s.pa.queue n ++ s.pb.queue n, c.queue = n ∧ c.port < 146)
    (hidleA : ∀ c ∈ s.pa.queue n, s.pa.inTransmission c = false) (hidleB : ∀ c ∈ s.pb.queue n, s.pb.inTransmission c = false) :
    (queueFlush n s).pa.queue n = [] ∧ (queueFlush n s).pb.queue n = [] := by
  obtain ⟨hlA, hlB⟩ := List.forall_mem_append.1 hl
  let u := s.flush 0 ((s.pl 0).queue n)
  have hfirst : (s.pl 1).Withdraws (u.pl 1) := (s.withdraws_flush 0 _).plane 1
  have hsecond : (u.pl 0).Withdraws ((queueFlush n s).pl 0) := (u.withdraws_flush 1 _).plane 0
  refine ⟨?_, ?_⟩
  · have hempty : (u.pl 0).queue n = [] := State.queue_flush_eq_nil (p := 0) hlA hidleA
    exact List.subset_nil.1 (hempty ▸ hsecond.queue n)
  · exact State.queue_flush_eq_nil (s := u) (p := 1) (fun c hc => hlB c (hfirst.queue n hc)) (fun c hc =>
      hfirst.inTransmission (hlB c (hfirst.queue n hc)).2 (hidleB c (hfirst.queue n hc)))

/-- The flush of a queue that is empty in both planes changes nothing. -/
theorem queueFlush_empty (ha : s.pa.queue n = []) (hb : s.pb.queue n = []) : queueFlush n s = s := by
  have hpa : (s.pl 0).queue n = [] := ha
  have hpb : (s.pl 1).queue n = [] := hb
  have hnone (p : Nat) : s.flush p [] = s := rfl
  simp only [queueFlush, List.foldl_cons, List.foldl_nil, hpa, hpb, hnone]

end

end Sys2Proof.Machine
end

section
/-! The request for a flush (PID 1A08h) on a session that is ready for it (14 R445). -/

namespace Sys2Proof.Machine

/-- QUEUE_FLUSH is a SET of PID 1A08h. -/
theorem exec_queueFlush (el : Nat) (q : Req) (s : State) :
    exec (.queueFlush el q) s = .next (s.ran el ((s.tick el).takeSet q 0x1A08 q.data)) :=
  State.run_of_eq (f := fun u => u.takeSet q 0x1A08 q.data) rfl

/-- The request as it arrives. -/
def flushSet (q : Req) : Request := requestOf q 0x02 0x1A08 q.inst.toNat [1]

/-- The module after the flush of a request, before the answer. -/
def State.flushedFor (s : State) (q : Req) : State := queueFlush q.inst.toNat (s.inHand q (flushSet q))

/-- The catalogue's row of PID 1A08h. -/
def flushRow : Row := .wo .bool (.upto 32768) (.codes [1])

theorem Catalogue.row_queueFlush : Catalogue.row? 0x1A08 = some flushRow := rfl

theorem State.ownerStatus_flush (u : State) (n v : Nat) : u.ownerStatus 0x1A08 n v = stOk := by
  simp [State.ownerStatus, State.highStatus, budgetPids]

section
variable {s : State} {q : Req} (h : Ready s q roleSite)
include h

theorem State.flushedFor_owed : (s.flushedFor q).owed = [] := by
  obtain ⟨_, _, _, _, _, howed, _⟩ := h
  exact ((State.withdraws_queueFlush _ _).owed.trans (State.inHand_owed _ _ _)).trans howed

variable (hfull : FullService s) (hinst : q.inst.toNat < 32768)
include hfull hinst

/-- The request passes the checks of R445, and its effect is the flush. -/
theorem State.outcome_flushSet {x : Session} (hx : x.like (s.session (Req.key q))) :
    (s.inHand q (flushSet q)).outcome (Req.key q) x (s.startedAs (flushSet q)) =
      ((s.flushedFor q).closeGates (s.inHand q (flushSet q)), .done stOk []) := by
  obtain ⟨_, _, _, _, _, _, _, _, hrole, henrol, _⟩ := h
  obtain ⟨_, _, hxrole, hxenrol, _⟩ := hx
  have hstage : FullService (s.inHand q (flushSet q)) := by
    unfold FullService
    rwa [State.rd_inHand_pid _ _ _ (by decide) (by decide)]
  exact State.outcome_set_site (row := flushRow) (hxrole.trans hrole) (hxenrol.trans henrol) hstage rfl
    Catalogue.row_queueFlush (decide_eq_true hinst) (fun e => absurd e.1 (by decide : 0x1A08 ≠ 0x010D))
    (by decide : 0x1A08 ≠ 0x040A) (by decide) (fun e => absurd e.1 (by decide : 0x1A08 ≠ 0x2000)) rfl rfl rfl
    (State.ownerStatus_flush _ _ _)

variable (hdata : q.data = [1])
include hdata

theorem State.takeSet_flush : s.takeSet q 0x1A08 q.data =
    ((s.flushedFor q).closeGates (s.inHand q (flushSet q))).reply (Req.key q) (s.startedAs (flushSet q)) stOk [] := by
  rw [hdata]
  exact State.take_done h (by decide) (fun x hx => State.outcome_flushSet h hfull hinst hx) (by decide)
    ((State.closeGates_owed _ _).trans (State.flushedFor_owed h)) (.inl (by decide)) (by decide)

theorem State.takeSet_flush_planes : (s.takeSet q 0x1A08 q.data).pa = (s.flushedFor q).pa ∧
    (s.takeSet q 0x1A08 q.data).pb = (s.flushedFor q).pb := by
  rw [State.takeSet_flush h hfull hinst hdata]
  simp only [State.reply_pa, State.reply_pb, State.closeGates_pa, State.closeGates_pb, and_self]

theorem State.takeSet_flush_out :
    (s.takeSet q 0x1A08 q.data).out = s.out ++ [answer q 0x02 stOk 0x1A08 q.inst.toNat []] := by
  rw [State.takeSet_flush h hfull hinst hdata, State.out_reply, State.closeGates_out, key_div, key_mod, Msg.split_nil]
  exact congrArg (· ++ _) ((State.withdraws_queueFlush _ _).out.trans (State.inHand_out _ _ _))

/-- A flush of queues that are empty answers, and leaves the parameters alone but for the session's message counters. -/
theorem State.takeSet_flush_empty (ha : s.pa.queue q.inst.toNat = []) (hb : s.pb.queue q.inst.toNat = []) :
    (s.takeSet q 0x1A08 q.data).pa = s.pa ∧ (s.takeSet q 0x1A08 q.data).pb = s.pb ∧
      Answers s (s.takeSet q 0x1A08 q.data) q 0x02 stOk 0x1A08 q.inst.toNat [] [] := by
  have hsame : s.flushedFor q = s.inHand q (flushSet q) :=
    queueFlush_empty (by rwa [State.inHand_pa]) (by rwa [State.inHand_pb])
  obtain ⟨hpa, hpb⟩ := State.takeSet_flush_planes h hfull hinst hdata
  refine ⟨?_, ?_, ?_⟩
  · rw [hpa, hsame, State.inHand_pa]
  · rw [hpb, hsame, State.inHand_pb]
  · rw [hdata]
    refine State.take_answers h (by decide) (fun x hx => State.outcome_flushSet h hfull hinst hx) (by decide)
      ((State.closeGates_owed _ _).trans (State.flushedFor_owed h)) (.inl (by decide)) (by decide) ?_ (fun x i _ _ => ?_)
    · rw [State.closeGates_out, hsame, State.inHand_out]
    · rw [State.rd_closeGates, hsame]
      rfl

end

end Sys2Proof.Machine

open Sys2Proof Sys2Proof.Machine

/-- Settles O14: each clause is one equation of its command above, at the tick; that a committed copy stands at its output is
`State.committed_commit`, what a report leaves is `State.credit_reportPort`, and that a flush empties the queue in both planes is
`queue_queueFlush_eq_nil`. -/
theorem copiesAreSelectedSentAndAged : Obligations.CopiesAreSelectedSentAndAged := by
  unfold Obligations.CopiesAreSelectedSentAndAged
  refine ⟨?_, ?_, ?_, ?_, ?_, ?_, ?_, ?_, ?_, ?_, ?_, ?_, ?_, ?_, ?_, ?_, ?_, ?_⟩
  · exact fun s el p e h => State.run_of_same (schedulerSelect_barred (s := s.tick el) h)
  · exact fun s el p e hungated h => State.run_of_same (schedulerSelect_none (s := s.tick el) hungated h)
  · intro s el p e x g d hungated hon hfree hpast hx hyoung hd hlive _ hfits
    exact State.run_of_eq ((schedulerSelect_starts (s := s.tick el) hungated hon hfree hpast).trans
      (State.select_fit hx hyoung hd hlive (.inr hfits) _))
  · intro s el p e x g d hint hon hfree hpast hx hyoung hd hlive
    exact ⟨_, State.run_of_eq ((schedulerSelect_starts (s := s.tick el) (.inl hint) hon hfree hpast).trans
      (State.select_fit hx hyoung hd hlive (.inl hint) _)), rfl, (s.tick el).committed_commit p.val e.val x g⟩
  · intro s el p e x g r hungated hon hfree hpast hx haged
    exact State.run_of_eq ((schedulerSelect_starts (s := s.tick el) hungated hon hfree hpast).trans (State.select_aged hx haged _))
  · intro s el p e x g d hungated hon hfree hpast hx hyoung hd hrw httl
    exact State.run_of_eq ((schedulerSelect_starts (s := s.tick el) hungated hon hfree hpast).trans
      (State.select_ttlExpired hx hyoung hd hrw httl _))
  · exact fun s el h => State.run_of_same (creditReport_between (s := s.tick el) h)
  · exact fun s el h => State.run_of_eq (f := creditReport) (if_pos h)
  · exact fun s e p => s.credit_reportPort e.val p.isLt
  · exact fun s el _ hbonds hqueuesA hqueuesB hsendingA hsendingB hcreditA hcreditB => State.run_of_same
      (creditReport_quiet (s := s.tick el) hbonds hqueuesA hqueuesB hsendingA hsendingB hcreditA hcreditB)
  · exact fun s el p e x d hx hd hstarted hended hgood hstored => State.run_of_eq
      (copyReadoutComplete_ends (s := s.tick el) hx hd hstarted hended hgood hstored)
  · exact fun s el p e h => State.run_of_same (copyReadoutComplete_waits (s := s.tick el) h)
  · exact fun s el p q hempty hsame =>
      (exec_agerVisit el p q s).trans (State.run_of_same (State.ageVisit_empty (s := s.tick el) hsame hempty))
  · exact fun s el p q => (exec_agerVisit el p q s).trans (State.run_of_eq rfl)
  · exact fun s el p q c rest r hqueue hc hsame hidle haged => (exec_agerVisit el p q s).trans
      (State.run_of_eq (State.ageVisit_aged (s := s.tick el) hsame hqueue hc hidle haged))
  · exact fun s el p q c rest hqueue hc hsame hidle hyoung => (exec_agerVisit el p q s).trans
      (State.run_of_same (State.ageVisit_young (s := s.tick el) hsame hqueue hc hidle hyoung))
  · intro s el q hready hfull hinst hdata hl hidleA hidleB
    obtain ⟨hpa, hpb⟩ := State.takeSet_flush_planes (s := s.tick el) hready hfull hinst hdata
    obtain ⟨hemptyA, hemptyB⟩ := queue_queueFlush_eq_nil (s := (s.tick el).inHand q (flushSet q)) (n := q.inst.toNat)
      (by rwa [State.inHand_pa, State.inHand_pb]) (by rwa [State.inHand_pa]) (by rwa [State.inHand_pb])
    exact ⟨_, exec_queueFlush el q s, State.takeSet_flush_out (s := s.tick el) hready hfull hinst hdata,
      (congrArg (fun x : Plane => x.queue q.inst.toNat) hpa).trans hemptyA,
      (congrArg (fun x : Plane => x.queue q.inst.toNat) hpb).trans hemptyB⟩
  · intro s el q hready hfull hinst hdata ha hb
    obtain ⟨hpa, hpb, hanswers⟩ := State.takeSet_flush_empty (s := s.tick el) hready hfull hinst hdata ha hb
    exact ⟨_, exec_queueFlush el q s, hpa, hpb, hanswers⟩
end

section
/-! A request for a swap of course banks (PID 1C06h), and a shadow bank that counts more records than its eight bits can (PID 1C04h):
so many that the last of them lies at the key of PID 1C25h, the result of the port's last check (09 R275, R291). -/

namespace Sys2Proof.Machine

/-- BANK_SWAP is a SET of PID 1C06h. -/
theorem exec_bankSwap (el : Nat) (q : Req) (s : State) :
    exec (.bankSwap el q) s = .next (s.ran el ((s.tick el).takeSet q 0x1C06 q.data)) :=
  State.run_of_eq (f := fun u => u.takeSet q 0x1C06 q.data) rfl

/-! ### The check of a bank (R291) -/

/-- A course record that starts at 0, lasts 0 ns and reserves nothing. -/
def Blank (r : Nat) : Prop := courseStart r = 0 ∧ courseLength r = 0 ∧ courseTiles r = 0

/-- The start, the length and the reservation lie in the first ten of a record's sixteen bytes (R276). -/
theorem blank_of_lt {r : Nat} (h : r < 2 ^ 48) : Blank r := by
  have hbytes {b : Nat} (hb : b ≤ 9) (a : Nat) : bytesAt 16 r a b = 0 := by
    have hlt : r < 2 ^ (8 * (16 - 1 - b)) := Nat.lt_of_lt_of_le h (Nat.pow_le_pow_right (by decide) (by omega))
    rw [bytesAt, Nat.shiftRight_eq_div_pow, Nat.div_eq_of_lt hlt, Nat.zero_mod]
  exact ⟨hbytes (by decide) 0, hbytes (by decide) 4, hbytes (by decide) 8⟩

theorem disjointCourses_of_blank {l : List Nat} (h : ∀ r ∈ l, Blank r) : disjointCourses l = true := by
  induction l with
  | nil => rfl
  | cons r l ih =>
    obtain ⟨⟨hstart, hlength, -⟩, hrest⟩ := List.forall_mem_cons.1 h
    have hapart : ∀ x ∈ l, overlaps r x = false := by
      intro x hx
      obtain ⟨hx0, hx1, -⟩ := hrest x hx
      simp [overlaps, hstart, hlength, hx0, hx1]
    simpa [disjointCourses, ih hrest] using hapart

theorem largestShare_of_blank {l : List Nat} (h : ∀ r ∈ l, Blank r) : largestShare l = 0 := by
  unfold largestShare
  induction l with
  | nil => rfl
  | cons r l ih =>
    obtain ⟨⟨-, -, htiles⟩, hrest⟩ := List.forall_mem_cons.1 h
    rw [List.foldl_cons, htiles]
    exact ih hrest

/-- A bank of blank records passes the check where its lead and the shares that stand do. -/
theorem State.bankOk_of_blank {s : State} {port : Nat} (hblank : ∀ r ∈ (s.shadowBank port).records, Blank r)
    (hlead : s.rd 0x1C03 port ≤ s.rd 0x1C01 port) (hshares : s.sharesDue port ≤ s.rd 0x180D 0) : s.bankOk port = true := by
  have hfit : ∀ r ∈ (s.shadowBank port).records, courseStart r + courseLength r ≤ (s.shadowBank port).cycle := by
    intro r hr
    obtain ⟨hstart, hlength, -⟩ := hblank r hr
    rw [hstart, hlength]
    exact Nat.zero_le _
  have hshare : s.shareOf port (s.shadowBank port).records = 0 := by
    rw [State.shareOf, largestShare_of_blank hblank, ite_self]
  have hlead' : (s.shadowBank port).lead ≤ (s.shadowBank port).cycle := hlead
  unfold State.bankOk
  simp only [disjointCourses_of_blank hblank, hshare, Bool.and_eq_true, List.all_eq_true, decide_eq_true_eq]
  exact ⟨⟨⟨hfit, trivial⟩, hlead'⟩, by omega⟩

/-- The check reads nothing below PID 180Dh. -/
theorem State.bankOk_congr {s t : State} (hcourses : t.courses = s.courses) (hrd : ∀ x j, 0x180D ≤ x → t.rd x j = s.rd x j)
    (port : Nat) : t.bankOk port = s.bankOk port := by
  have hflag (j : Nat) : t.flag 0x1C00 j = s.flag 0x1C00 j := congrArg (· != 0) (hrd _ j (by decide))
  unfold State.bankOk State.sharesDue State.shareRise State.shareOf State.shadowBank State.bank
  simp only [hrd, hflag, hcourses, Nat.reduceLeDiff]

/-! ### The request (14 R445) -/

/-- The request as it arrives. -/
def bankSwapSet (q : Req) : Request := requestOf q 0x02 0x1C06 q.inst.toNat [1]

/-- The catalogue's row of PID 1C06h. -/
def bankSwapRow : Row := .wo .bool (.upto 144) (.codes [1])

theorem Catalogue.row_bankSwap : Catalogue.row? 0x1C06 = some bankSwapRow := rfl

theorem State.ownerStatus_bankSwap (u : State) (n v : Nat) : u.ownerStatus 0x1C06 n v = stOk := by
  simp [State.ownerStatus, State.highStatus, budgetPids]

/-- A request that has arrived leaves every key above PID 0414h alone, whatever its number. -/
theorem State.rd_inHand_above (s : State) (q : Req) (r : Request) {x : Nat} (hx : 0x0414 < x) (j : Nat) :
    (s.inHand q r).rd x j = s.rd x j := by
  unfold State.inHand
  rw [State.rd_updRequest, State.rd_issue]
  unfold State.heard
  simp only
  split
  · exact (State.rd_wr_ne _ _ (by unfold regKey; omega)).trans (State.rd_updSession _ _ _ _ _)
  · exact State.rd_updSession _ _ _ _ _

theorem State.bankOk_inHand (s : State) (q : Req) (r : Request) (port : Nat) : (s.inHand q r).bankOk port = s.bankOk port :=
  State.bankOk_congr (State.inHand_courses s q r) (fun _ j hx => s.rd_inHand_above q r (Nat.lt_of_lt_of_le (by decide) hx) j) port

section
variable {s : State} {q : Req} (h : Ready s q roleSite) (hfull : FullService s) (hinst : q.inst.toNat < 144)
include h hfull hinst

/-- The request passes the checks of R445, and its effect is the check of the bank. -/
theorem State.outcome_bankSwapSet {x : Session} (hx : x.like (s.session (Req.key q))) :
    (s.inHand q (bankSwapSet q)).outcome (Req.key q) x (s.startedAs (bankSwapSet q)) =
      (((s.inHand q (bankSwapSet q)).requestSwap q.inst.toNat).1.closeGates (s.inHand q (bankSwapSet q)),
        .done (need ((s.inHand q (bankSwapSet q)).requestSwap q.inst.toNat).2) []) := by
  obtain ⟨_, _, _, _, _, _, _, _, hrole, henrol, _⟩ := h
  obtain ⟨_, _, hxrole, hxenrol, _⟩ := hx
  have hstage : FullService (s.inHand q (bankSwapSet q)) := by
    unfold FullService
    rwa [State.rd_inHand_pid _ _ _ (by decide) (by decide)]
  exact State.outcome_set_site (row := bankSwapRow) (hxrole.trans hrole) (hxenrol.trans henrol) hstage rfl
    Catalogue.row_bankSwap (decide_eq_true hinst) (fun e => absurd e.1 (by decide : 0x1C06 ≠ 0x010D))
    (by decide : 0x1C06 ≠ 0x040A) (by decide) (fun e => absurd e.1 (by decide : 0x1C06 ≠ 0x2000)) rfl rfl rfl
    (State.ownerStatus_bankSwap _ _ _)

theorem State.takeSet_bankSwap (hdata : q.data = [1]) {u : State} {ok : Bool}
    (hasked : (s.inHand q (bankSwapSet q)).requestSwap q.inst.toNat = (u, ok)) (howed : u.owed = []) :
    s.takeSet q 0x1C06 q.data =
      (u.closeGates (s.inHand q (bankSwapSet q))).reply (Req.key q) (s.startedAs (bankSwapSet q)) (need ok) [] := by
  rw [hdata]
  refine State.take_done h (by decide) (fun x hx => ?_) (by cases ok <;> decide) ((State.closeGates_owed _ _).trans howed)
    (.inl (by decide)) (by decide)
  exact (State.outcome_bankSwapSet h hfull hinst hx).trans (by rw [hasked])

end

/-- A swap that passes is held with the shadow bank as it reads once the check's result is written. -/
theorem State.requestSwap_pending {s : State} {port : Nat} (hport : port < 2 ^ 32) (hok : s.bankOk port = true)
    (hon : s.flag 0x1C00 port = true) (hcycle : s.rd 0x1C09 port ≠ 0) :
    ∃ rc, s.requestSwap port = (((s.wr 0x1C25 port 0).wr 0x1C07 port 1).updCalendar port (fun c =>
      { c with swapRC := some rc, swapBank := (s.wr 0x1C25 port 0).shadowBank port }), true) := by
  have hheld : ¬((s.wr 0x1C25 port 0).flag 0x1C00 port = false ∨ (s.wr 0x1C25 port 0).rd 0x1C09 port = 0) := by
    rw [State.flag, State.rd_wr_pid _ _ hport hport (by decide), State.rd_wr_pid _ _ hport hport (by decide)]
    rintro (hoff | hzero)
    · exact Bool.noConfusion (hon.symm.trans hoff)
    · exact hcycle hzero
  unfold State.requestSwap
  rw [if_pos hok]
  exact ⟨_, if_neg hheld⟩

/-- The bank held by a request that is pending. -/
theorem State.swapBank_takeSet {s : State} {q : Req} (h : Ready s q roleSite) (hfull : FullService s) (hinst : q.inst.toNat < 144)
    (hdata : q.data = [1]) (hok : s.bankOk q.inst.toNat = true) (hon : s.flag 0x1C00 q.inst.toNat = true)
    (hcycle : s.rd 0x1C09 q.inst.toNat ≠ 0) :
    ((s.takeSet q 0x1C06 q.data).calendar q.inst.toNat).swapBank =
      ((s.inHand q (bankSwapSet q)).wr 0x1C25 q.inst.toNat 0).shadowBank q.inst.toNat := by
  have hon' : (s.inHand q (bankSwapSet q)).flag 0x1C00 q.inst.toNat = true := by
    rwa [State.flag, State.rd_inHand_above _ _ _ (by decide)]
  have hcycle' : (s.inHand q (bankSwapSet q)).rd 0x1C09 q.inst.toNat ≠ 0 := by
    rwa [State.rd_inHand_above _ _ _ (by decide)]
  obtain ⟨rc, hasked⟩ :=
    State.requestSwap_pending (Nat.lt_trans hinst (by decide)) ((s.bankOk_inHand q _ _).trans hok) hon' hcycle'
  have howed : (s.inHand q (bankSwapSet q)).owed = [] := by
    obtain ⟨_, _, _, _, _, howed, _⟩ := h
    exact (State.inHand_owed _ _ _).trans howed
  rw [State.takeSet_bankSwap h hfull hinst hdata hasked howed, State.calendar, State.reply_courses, State.closeGates_courses]
  unfold State.updCalendar
  rw [Tab.get_upd_same]

/-! ### Shadow records (R275) -/

theorem State.mem_shadowBank {s : State} {port r : Nat} :
    r ∈ (s.shadowBank port).records ↔ ∃ c, c < s.rd 0x1C04 port ∧ s.rd 0x1C05 (64 * port + c) = r := by
  simp [State.shadowBank, State.bank]

theorem State.getElem?_shadowBank {s : State} {port c : Nat} (h : c < s.rd 0x1C04 port) :
    (s.shadowBank port).records[c]? = some (s.rd 0x1C05 (64 * port + c)) := by
  simp [State.shadowBank, State.bank, h]

/-- Where the count of shadow records is a byte, the result of the check is no shadow record. -/
theorem State.shadowBank_wr_checkResult {s : State} {port : Nat} (hport : port < 144) (hcount : s.rd 0x1C04 port < 2 ^ 8) (v : Nat) :
    (s.wr 0x1C25 port v).shadowBank port = s.shadowBank port := by
  have hother {x j : Nat} (hj : j < 2 ^ 32) (hx : x ≠ 0x1C25) : (s.wr 0x1C25 port v).rd x j = s.rd x j :=
    State.rd_wr_pid _ _ (Nat.lt_trans hport (by decide)) hj hx
  have hrecords : (s.wr 0x1C25 port v).bank 0x1C04 0x1C05 port = s.bank 0x1C04 0x1C05 port := by
    unfold State.bank
    rw [hother (by omega) (by decide)]
    refine List.map_congr_left fun c hc => hother ?_ (by decide)
    have hbyte := List.mem_range.1 hc
    omega
  unfold State.shadowBank
  rw [hother (by omega) (by decide), hother (by omega) (by decide), hother (by omega) (by decide), hrecords]

theorem Tab.get_lt {t : Tab Nat} {n d : Nat} (ht : ∀ e ∈ t, e.2 < n) (hd : d < n) (x : Nat) : Tab.get d t x < n := by
  induction t with
  | nil => exact hd
  | cons e t ih =>
    obtain ⟨he, hrest⟩ := List.forall_mem_cons.1 ht
    obtain ⟨k, v⟩ := e
    by_cases hx : x = k
    · simpa [Tab.get, Tab.find?, hx] using he
    · simpa [Tab.get, Tab.find?, hx] using ih hrest

/-- Where no parameter is set to 2^48 or more, no shadow record is: its default is 0. -/
theorem State.blank_of_regs_lt {s : State} (h : ∀ e ∈ s.regs, e.2 < 2 ^ 48) (port : Nat) :
    ∀ r ∈ (s.shadowBank port).records, Blank r := by
  intro r hr
  obtain ⟨c, -, rfl⟩ := State.mem_shadowBank.1 hr
  have hdflt : Catalogue.dflt 0x1C05 (64 * port + c) < 2 ^ 48 := by
    rw [Catalogue.dflt_of_zero rfl]
    decide
  exact blank_of_lt (Tab.get_lt h hdflt _)

/-! ### A count of shadow records beyond a byte -/

/-- The number at which PID 1C05h, a shadow record, has the key of PID 1C25h of port 0. -/
def strayRecord : Nat := (0x1C25 - 0x1C05) * 2 ^ 32

theorem State.rd_strayRecord (s : State) : s.rd 0x1C05 strayRecord = s.rd 0x1C25 0 := by
  unfold State.rd
  rw [Catalogue.dflt_of_zero rfl, Catalogue.dflt_of_zero rfl]
  rfl

theorem State.strayRecord_shadowBank {s : State} (h : strayRecord < s.rd 0x1C04 0) :
    (s.shadowBank 0).records[strayRecord]? = some (s.rd 0x1C25 0) := by
  rw [State.getElem?_shadowBank h, Nat.mul_zero, Nat.zero_add, State.rd_strayRecord]

/-- A swap on port 0 that passes and is pending, after one that was refused, with a count of shadow records beyond the stray one. -/
structure StrayCount (s : State) : Prop where
  passes : s.bankOk 0 = true
  on : s.flag 0x1C00 0 = true
  cycle : s.rd 0x1C09 0 ≠ 0
  count : strayRecord < s.rd 0x1C04 0
  refused : s.rd 0x1C25 0 ≠ 0

theorem StrayCount.tick {s : State} (h : StrayCount s) (el : Nat) : StrayCount (s.tick el) :=
  ⟨h.passes, h.on, h.cycle, h.count, h.refused⟩

/-- The result of the last check stands in the shadow bank, and the 0 of the check that passes stands in the bank held. -/
theorem State.swapBank_takeSet_ne {s : State} {q : Req} (h : Ready s q roleSite) (hfull : FullService s) (hinst : q.inst.toNat = 0)
    (hdata : q.data = [1]) (hstray : StrayCount s) : ((s.takeSet q 0x1C06 q.data).calendar 0).swapBank ≠ s.shadowBank 0 := by
  have hheld := State.swapBank_takeSet h hfull (by omega) hdata (hinst ▸ hstray.passes) (hinst ▸ hstray.on) (hinst ▸ hstray.cycle)
  rw [hinst] at hheld
  have hcount : strayRecord < ((s.inHand q (bankSwapSet q)).wr 0x1C25 0 0).rd 0x1C04 0 := by
    rw [State.rd_wr_pid _ _ (by decide) (by decide) (by decide), State.rd_inHand_above _ _ _ (by decide)]
    exact hstray.count
  intro hsame
  have hrecord : some (((s.inHand q (bankSwapSet q)).wr 0x1C25 0 0).rd 0x1C25 0) = some (s.rd 0x1C25 0) := by
    rw [← State.strayRecord_shadowBank hcount, ← hheld, hsame, State.strayRecord_shadowBank hstray.count]
  rw [State.rd_wr_same, Nat.zero_mod] at hrecord
  exact hstray.refused (Option.some.inj hrecord).symm

theorem swapBank_bankSwap_ne {s t : State} {el : Nat} {q : Req} (hrun : exec (.bankSwap el q) s = .next t) (h : Ready s q roleSite)
    (hfull : FullService s) (hinst : q.inst.toNat = 0) (hdata : q.data = [1]) (hstray : StrayCount s) :
    (t.calendar q.inst.toNat).swapBank ≠ s.shadowBank q.inst.toNat := by
  have hafter := Host.Outcome.next.inj ((exec_bankSwap el q s).symm.trans hrun)
  rw [hinst, ← hafter]
  exact State.swapBank_takeSet_ne (s := s.tick el) h hfull hinst hdata (hstray.tick el)

/-- The module up, with coursing on and a live cycle on port 0, whose last swap was refused (13h in PID 1C25h), but with a count of
shadow records that is one more than the stray record. -/
def strayShadow : State :=
  let s := wUp [(0x1C00, 0, 1), (0x1C09, 0, 1000000), (0x1C25, 0, 0x13)]
  { s with regs := Tab.set s.regs (regKey 0x1C04 0) (strayRecord + 1) }

/-- A request to swap the banks of port 0. -/
def strayBankSwap : Req := wReq 0 [1]

theorem strayShadow_ready : Ready strayShadow strayBankSwap roleSite := by decide

theorem strayShadow_regs_lt : ∀ e ∈ strayShadow.regs, e.2 < 2 ^ 48 := by decide

theorem strayShadow_strayCount : StrayCount strayShadow where
  passes := State.bankOk_of_blank (State.blank_of_regs_lt strayShadow_regs_lt 0) (by decide) (by decide)
  on := by decide
  cycle := by decide
  count := by decide
  refused := by decide

end Sys2Proof.Machine

open Sys2Proof Sys2Proof.Machine

/-- Refutes O19: its clause on a pending swap lets PID 1C04h, the count of shadow records, be any number, also one beyond the eight
bits of its row. At `strayShadow` the last record counted lies at the key of PID 1C25h, which the check itself writes before the bank
is captured: the bank held is not the shadow bank of the state before, as the clause has it. The clause fails for this missing bound:
at a count of eight bits the two banks are equal (`State.shadowBank_wr_checkResult`). -/
theorem not_coursesRunThroughTheirPhases : ¬ Obligations.CoursesRunThroughTheirPhases := by
  unfold Obligations.CoursesRunThroughTheirPhases
  intro ⟨_, _, _, _, _, _, _, _, _, _, _, _, _, _, _, _, hpending, _⟩
  have hfull : FullService strayShadow := by decide
  obtain ⟨t, hrun, _, _, _, hbank, _⟩ := hpending strayShadow 0 strayBankSwap strayShadow_ready hfull (by decide) rfl
    strayShadow_strayCount.passes strayShadow_strayCount.on strayShadow_strayCount.cycle
  exact swapBank_bankSwap_ne hrun strayShadow_ready hfull rfl rfl strayShadow_strayCount hbank
end

section
/-! What the counters, high-water marks and time stamps of the register file write, and effects that touch the parameters and the fault
record alone (16 R494; 17 R505, R517). -/

namespace Sys2Proof.Machine

/-! ### Reads after one write -/

/-- A write of one instance leaves the others alone. -/
theorem State.rd_wr_inst (s : State) (p v : Nat) {i i' : Nat} (h : i' ≠ i) : (s.wr p i v).rd p i' = s.rd p i' :=
  s.rd_wr_ne v fun e => h (Nat.add_left_cancel e)

theorem State.rd_incBy_pid (s : State) {p i p' i' : Nat} (n : Nat) (hi : i < 2 ^ 32) (hi' : i' < 2 ^ 32) (h : p' ≠ p) :
    (s.incBy p i n).rd p' i' = s.rd p' i' := s.rd_wr_pid _ hi hi' h

theorem State.rd_stamp_same (s : State) (p i : Nat) : (s.stamp p i).rd p i = s.dtNow % 2 ^ Catalogue.width p := s.rd_wr_same _ _ _

theorem State.rd_stamp_pid (s : State) {p i p' i' : Nat} (hi : i < 2 ^ 32) (hi' : i' < 2 ^ 32) (h : p' ≠ p) :
    (s.stamp p i).rd p' i' = s.rd p' i' := s.rd_wr_pid _ hi hi' h

theorem State.rd_high_same (s : State) (p i v : Nat) :
    (s.high p i v).rd p i = if s.rd p i < v then v % 2 ^ Catalogue.width p else s.rd p i := by
  unfold State.high
  split
  · exact s.rd_wr_same p i v
  · rfl

theorem State.rd_high_ne (s : State) {p i p' i' : Nat} (v : Nat) (h : regKey p' i' ≠ regKey p i) :
    (s.high p i v).rd p' i' = s.rd p' i' := by
  unfold State.high
  split
  · exact s.rd_wr_ne v h
  · rfl

theorem State.rd_high_pid (s : State) {p i p' i' : Nat} (v : Nat) (hi : i < 2 ^ 32) (hi' : i' < 2 ^ 32) (h : p' ≠ p) :
    (s.high p i v).rd p' i' = s.rd p' i' := s.rd_high_ne v fun e => h ((regKey_inj hi' hi).1 e).1

theorem SameBut.high {keys : List (Nat × Nat)} {s t : State} (h : SameBut keys s t) {p i v : Nat} (hi : i < 2 ^ 32)
    (hm : (p, i) ∈ keys) : SameBut keys s (t.high p i v) := by
  unfold State.high
  split
  · exact h.wr hi hm
  · exact h

/-! ### Runs of writes -/

/-- A run of writes leaves a key alone that none of them writes. -/
theorem State.rd_foldl_wr_ne {l : List Nat} {pid inst : Nat → Nat} {v : State → Nat → Nat} {x j : Nat}
    (h : ∀ k ∈ l, regKey x j ≠ regKey (pid k) (inst k)) (s : State) :
    (l.foldl (fun s k => s.wr (pid k) (inst k) (v s k)) s).rd x j = s.rd x j := by
  induction l generalizing s with
  | nil => rfl
  | cons k l ih =>
    obtain ⟨hk, hl⟩ := List.forall_mem_cons.1 h
    rw [List.foldl_cons, ih hl, State.rd_wr_ne _ _ hk]

/-! ### Effects that touch the parameters and the fault record alone -/

/-- Two states that differ in the parameters and the fault record alone. -/
def State.OnlyRecords (s t : State) : Prop := t = { s with regs := t.regs, faults := t.faults }

namespace State.OnlyRecords

theorem refl (s : State) : s.OnlyRecords s := rfl

theorem trans {s t u : State} (h : s.OnlyRecords t) (h' : t.OnlyRecords u) : s.OnlyRecords u := by
  unfold State.OnlyRecords at *
  rw [h', h]

theorem of_records (s : State) (r : Tab Nat) (l : Tab FaultEntry) : s.OnlyRecords { s with regs := r, faults := l } := rfl

theorem wr {s t : State} (h : s.OnlyRecords t) (p i v : Nat) : s.OnlyRecords (t.wr p i v) :=
  h.trans (of_records t (regSet t.regs p i v) t.faults)

theorem inc {s t : State} (h : s.OnlyRecords t) (p i : Nat) : s.OnlyRecords (t.inc p i) := h.wr p i _

theorem incBy {s t : State} (h : s.OnlyRecords t) (p i n : Nat) : s.OnlyRecords (t.incBy p i n) := h.wr p i _

theorem fault {s t : State} (h : s.OnlyRecords t) (bit inst : Nat) : s.OnlyRecords (t.fault bit inst) := by
  have hnoted := h.trans (of_records t t.regs (Tab.set t.faults bit ((Tab.get FaultEntry.clear t.faults bit).occur inst t.dtNow t.dtValid)))
  unfold State.fault
  simp only
  split
  · exact hnoted
  · exact (hnoted.wr _ _ _).wr _ _ _

theorem high {s t : State} (h : s.OnlyRecords t) (p i v : Nat) : s.OnlyRecords (t.high p i v) := by
  unfold State.high
  split
  · exact h.wr p i v
  · exact h

theorem times {s t : State} (h : s.OnlyRecords t) : t.gateChange = s.gateChange ∧ t.gateEdge = s.gateEdge := by
  unfold State.OnlyRecords at h
  exact ⟨(congrArg State.gateChange h :), (congrArg State.gateEdge h :)⟩

theorem planes {s t : State} (h : s.OnlyRecords t) : t.pa = s.pa ∧ t.pb = s.pb := by
  unfold State.OnlyRecords at h
  exact ⟨(congrArg State.pa h :), (congrArg State.pb h :)⟩

theorem mail {s t : State} (h : s.OnlyRecords t) : t.out = s.out ∧ t.owed = s.owed := by
  unfold State.OnlyRecords at h
  exact ⟨(congrArg State.out h :), (congrArg State.owed h :)⟩

theorem dtNow {s t : State} (h : s.OnlyRecords t) : t.dtNow = s.dtNow := by
  unfold State.OnlyRecords at h
  exact (congrArg State.dtNow h :)

theorem ite {s t u : State} {c : Prop} [Decidable c] (ht : s.OnlyRecords t) (hu : s.OnlyRecords u) :
    s.OnlyRecords (if c then t else u) := by
  split
  · exact ht
  · exact hu

theorem foldl {f : State → Nat → State} (h : ∀ (s : State) (k : Nat), s.OnlyRecords (f s k)) (l : List Nat) (s : State) :
    s.OnlyRecords (l.foldl f s) := by
  induction l generalizing s with
  | nil => exact refl s
  | cons k l ih => exact (h s k).trans (ih (f s k))

end State.OnlyRecords

end Sys2Proof.Machine
end

section
/-! Shaper refills and shaper memory errors (10 R307, R309). -/

namespace Sys2Proof.Machine

theorem shaperRefill_idle {s : State} (h : s.rc % 512 ∉ [0, 102, 205, 307, 410] ∨ s.scheduled = false) : shaperRefill s = s := by
  refine if_neg ?_
  rw [List.contains_iff_mem]
  rintro ⟨htick, hruns⟩
  rcases h with h | h
  · exact h htick
  · exact Bool.noConfusion (h.symm.trans hruns)

theorem shaperRefill_due {s : State} (htick : s.rc % 512 ∈ [0, 102, 205, 307, 410]) (hruns : s.scheduled = true) :
    shaperRefill s = (s.refillShapers 0 s.shaperRates).refillShapers 1 s.shaperRates := by
  refine if_pos ?_
  rw [List.contains_iff_mem]
  exact ⟨htick, hruns⟩

theorem State.tokens_refillShapers_single (s : State) (p e r b : Nat) :
    Tab.find? ((s.refillShapers p [(e, (r, b))]).pl p).sched.tokens e =
      some (min (Tab.get ((b : Int) * 1000000) (s.pl p).sched.tokens e + 32 * r) ((b : Int) * 1000000)) := by
  unfold State.refillShapers
  rw [State.pl_updPl_same]
  exact Tab.find?_set_same _ _ _

/-- The schedulers' copy of a shaper is loaded anew: full at the configured values, or gone where none is configured. -/
def PlaneSched.reload (g : PlaneSched) (e : Nat) : Option (Nat × Nat) → PlaneSched
  | some r => { g with rates := Tab.set g.rates e r, tokens := Tab.set g.tokens e ((r.2 : Int) * 1000000) }
  | none => { g with rates := Tab.del g.rates e, tokens := Tab.del g.tokens e }

section
variable (s : State) (p e : Nat)

theorem shaperMemoryError_eq : shaperMemoryError p e s =
    ((s.updPl p (fun q => { q with sched := q.sched.reload e (Tab.find? s.shaperRates e) })).inc 0x204F p).fault 144 p := by
  unfold shaperMemoryError
  simp only
  cases Tab.find? s.shaperRates e <;> rfl

theorem sched_shaperMemoryError : ((shaperMemoryError p e s).pl p).sched =
    (s.pl p).sched.reload e (Tab.find? s.shaperRates e) := by
  rw [shaperMemoryError_eq, State.pl_fault, State.pl_inc, State.pl_updPl_same]

theorem faulted_shaperMemoryError : Faulted (shaperMemoryError p e s) 144 := by
  rw [shaperMemoryError_eq]
  exact State.faulted_fault _ _ _

variable {p} (hp : p < 2 ^ 32)
include hp

theorem sameBut_shaperMemoryError : SameBut [(0x204F, p), (0x3E03, 0), (0x3E04, 0)] s (shaperMemoryError p e s) := by
  rw [shaperMemoryError_eq]
  exact (((SameBut.refl _ s).updPl p _).inc hp (by simp)).fault (by simp) (by simp) 144 p

theorem rd_shaperMemoryError : (shaperMemoryError p e s).rd 0x204F p = (s.rd 0x204F p + 1) % 2 ^ 32 := by
  rw [shaperMemoryError_eq, State.rd_fault _ _ _ hp (by decide) (by decide), State.rd_inc_same, State.rd_updPl]
  rfl

end

/-! ### PFC refresh (04 R110) -/

/-- An XOFF sent `rc` ticks after the start is due again: the refresh interval has passed, and the count is still above XON. -/
def State.refreshDue (s : State) (i prio rc : Nat) : Prop :=
  s.sendsPause i prio = true ∧ rc + s.rd 0x0834 i * 400 ≤ s.rc ∧ s.rd 0x0837 (pauseInst i prio) < s.occupancy i prio ∧
    s.receives i = true

theorem pfcRefresh_due {s : State} {i prio rc : Nat} (hsent : Tab.find? (s.port i).xoff prio = some rc) (hdue : s.refreshDue i prio rc) :
    pfcRefresh i prio s =
      (s.updPort i (fun q => { q with xoff := Tab.set q.xoff prio s.rc })).sendPause i prio (s.rd 0x0833 i) := by
  unfold pfcRefresh
  rw [hsent]
  exact if_pos hdue

theorem pfcRefresh_idle {s : State} {i prio : Nat} (h : ∀ rc, Tab.find? (s.port i).xoff prio = some rc → ¬s.refreshDue i prio rc) :
    pfcRefresh i prio s = s := by
  unfold pfcRefresh
  split
  · next rc hsent => exact if_neg (h rc hsent)
  · rfl

end Sys2Proof.Machine
end

section
/-! Gate control lists: the edges of a list that acts, and a configuration change that comes into effect (10 R312 to R317). -/

namespace Sys2Proof.Machine

/-- The RCs at which configuration changes and edges are due, set anew. -/
def State.atTimes (s : State) (change edge : Tab Nat) : State := { s with gateChange := change, gateEdge := edge }

@[simp] theorem State.rd_atTimes (s : State) (change edge : Tab Nat) (x j : Nat) : (s.atTimes change edge).rd x j = s.rd x j := rfl
@[simp] theorem State.atTimes_gateChange (s : State) (change edge : Tab Nat) : (s.atTimes change edge).gateChange = change := rfl
@[simp] theorem State.atTimes_gateEdge (s : State) (change edge : Tab Nat) : (s.atTimes change edge).gateEdge = edge := rfl
@[simp] theorem State.atTimes_out (s : State) (change edge : Tab Nat) : (s.atTimes change edge).out = s.out := rfl
@[simp] theorem State.atTimes_owed (s : State) (change edge : Tab Nat) : (s.atTimes change edge).owed = s.owed := rfl

theorem SameBut.atTimes {keys : List (Nat × Nat)} {s t : State} (h : SameBut keys s t) (change edge : Tab Nat) :
    SameBut keys s (t.atTimes change edge) := fun x j hj hx => (t.rd_atTimes change edge x j).trans (h x j hj hx)

/-! ### The place of a list (R314) -/

theorem gateStates_lt (r : Nat) : gateStates r < 2 ^ 8 := Nat.mod_lt _ (by decide)

theorem State.getElem?_gateList (s : State) (pid e : Nat) {k n : Nat} (h : k < n) :
    (s.gateList pid e n)[k]? = some (s.rd pid (256 * e + k)) := by
  simp [State.gateList, h]

section
variable (s : State) {e : Nat} (he : e < 144) (n : Nat) (start : Int)
include he

theorem State.sameBut_gateAt : SameBut [(0x220C, e), (0x220D, e), (0x221C, e)] s (s.gateAt e n start) :=
  (((SameBut.refl _ s).wr (by omega) (by simp)).wr (by omega) (by simp)).wr (by omega) (by simp)

/-- The list stands at the entry, and the entry's states act. -/
theorem State.rd_gateAt {n : Nat} (hlen : n < s.rd 0x220A e) (hn : n < 256) :
    (s.gateAt e n start).rd 0x220C e = n ∧
      (s.gateAt e n start).rd 0x220D e = gateStates (s.rd 0x220B (256 * e + n)) := by
  have he' : e < 2 ^ 32 := by omega
  constructor
  · refine (State.rd_wr_pid _ _ he' he' (by decide)).trans ((State.rd_wr_pid _ _ he' he' (by decide)).trans ?_)
    exact (State.rd_wr_same _ _ _ _).trans (Nat.mod_eq_of_lt (Nat.lt_trans hn (by decide)))
  · refine (State.rd_wr_pid _ _ he' he' (by decide)).trans ((State.rd_wr_same _ _ _ _).trans ?_)
    rw [State.getElem?_gateList s _ _ hlen]
    exact Nat.mod_eq_of_lt (gateStates_lt _)

theorem State.entry_gateAt_zero : (s.gateAt e 0 start).rd 0x220C e = 0 := by
  have he' : e < 2 ^ 32 := by omega
  refine (State.rd_wr_pid _ _ he' he' (by decide)).trans ((State.rd_wr_pid _ _ he' he' (by decide)).trans ?_)
  exact State.rd_wr_same _ _ _ _

end

/-- The start of the cycle that a list is in: the end that PID 221Ch shows, less the oper cycle. -/
def State.cycleStart (s : State) (e : Nat) : Int := decDT (s.rd 0x221C e) - nsUnits (s.rd 0x2209 e)

section
variable {s : State} {e rc : Nat} (hedge : Tab.find? s.gateEdge e = some rc) (hdue : rc ≤ s.rc) (hacts : s.rd 0x221F e = 2)
include hedge hdue hacts

theorem gateEdge_next (hmore : s.rd 0x220C e + 1 < s.rd 0x220A e) :
    gateEdge e s = s.gateAt e (s.rd 0x220C e + 1) (s.cycleStart e) := by
  unfold gateEdge
  rw [hedge]
  exact (if_pos ⟨hdue, hacts⟩).trans (if_pos hmore)

theorem gateEdge_wraps (hlast : s.rd 0x220A e ≤ s.rd 0x220C e + 1) :
    gateEdge e s = s.gateAt e 0 (s.cycleStart e + nsUnits (s.rd 0x2209 e)) := by
  unfold gateEdge
  rw [hedge]
  exact (if_pos ⟨hdue, hacts⟩).trans (if_neg (Nat.not_lt.2 hlast))

end

theorem gateEdge_idle {s : State} {e : Nat} (h : ∀ rc, Tab.find? s.gateEdge e = some rc → s.rc < rc ∨ s.rd 0x221F e ≠ 2) :
    gateEdge e s = s := by
  unfold gateEdge
  split
  · next rc hedge =>
    refine if_neg ?_
    rintro ⟨hdue, hacts⟩
    rcases h rc hedge with hearly | hrests
    · omega
    · exact hrests hacts
  · rfl

/-! ### The admin list becomes the oper list (R313) -/

/-- The first `m` entries of the admin list are copied to the oper list; those beyond its length are cleared. -/
def State.copyEntries (s : State) (e n m : Nat) : State :=
  (List.range m).foldl (fun s k => s.wr 0x220B (256 * e + k) (if k < n then s.rd 0x2204 (256 * e + k) else 0)) s

/-- PIDs 2210h to 2217h show the longest open time of each class (R316). -/
def State.showOpenTimes (s : State) (e : Nat) (spans : List (Nat × Nat)) : State :=
  (List.range 8).foldl (fun s k => s.wr (0x2210 + k) e (longestOpen spans k)) s

/-- The oper list of a port is the admin list. -/
def State.copyList (s : State) (e : Nat) : State :=
  (((s.wr 0x2208 e (s.rd 0x2201 e)).wr 0x2209 e (s.rd 0x2202 e)).wr 0x220A e (s.rd 0x2203 e)).copyEntries e (s.rd 0x2203 e) 256

/-- A configuration change before its gates act: the list is copied, and the change counted. -/
def State.countChange (s : State) (e : Nat) : State :=
  let u := s.copyList e
  ((u.showOpenTimes e (gateSpans (u.gateList 0x220B e (s.rd 0x2203 e)) (u.rd 0x2209 e))).wr 0x2206 e 0).inc 0x220F e

/-- A configuration change before its gates act, no longer pending. -/
def State.adoptList (s : State) (e : Nat) : State :=
  (s.countChange e).atTimes (Tab.del (s.countChange e).gateChange e) (s.countChange e).gateEdge

/-- A list that is enabled acts from its first entry on. -/
theorem configurationChange_due {s : State} {e rc : Nat} (hchange : Tab.find? s.gateChange e = some rc) (hdue : rc ≤ s.rc) :
    configurationChange e s =
      if (s.adoptList e).flag 0x2200 e then ((s.adoptList e).wr 0x221F e 2).gateAt e 0 (decDT (s.rd 0x2207 e)) else s.adoptList e := by
  unfold configurationChange
  rw [hchange]
  exact if_pos hdue

theorem configurationChange_idle {s : State} {e : Nat} (h : ∀ rc, Tab.find? s.gateChange e = some rc → s.rc < rc) :
    configurationChange e s = s := by
  unfold configurationChange
  split
  · next rc hchange => exact if_neg (Nat.not_le.2 (h rc hchange))
  · rfl

theorem State.onlyRecords_copyList (s : State) (e : Nat) : s.OnlyRecords (s.copyList e) :=
  ((((State.OnlyRecords.refl s).wr _ _ _).wr _ _ _).wr _ _ _).trans
    (State.OnlyRecords.foldl (fun t _ => (State.OnlyRecords.refl t).wr _ _ _) _ _)

theorem State.onlyRecords_countChange (s : State) (e : Nat) : s.OnlyRecords (s.countChange e) :=
  (((s.onlyRecords_copyList e).trans
    (State.OnlyRecords.foldl (fun t _ => (State.OnlyRecords.refl t).wr _ _ _) _ _)).wr 0x2206 e 0).inc 0x220F e

/-- Adopting the list takes the port's change from those that are due, and leaves the next edges alone. -/
theorem State.times_adoptList (s : State) (e : Nat) :
    (s.adoptList e).gateChange = Tab.del s.gateChange e ∧ (s.adoptList e).gateEdge = s.gateEdge := by
  obtain ⟨hchange, hedge⟩ := (s.onlyRecords_countChange e).times
  unfold State.adoptList
  rw [State.atTimes_gateChange, State.atTimes_gateEdge, hchange, hedge]
  exact ⟨rfl, rfl⟩

section
variable (s : State) {e : Nat} (he : e < 144)
include he

theorem State.rd_copyEntries_pid (n : Nat) {m x j : Nat} (hm : m ≤ 256) (hj : j < 2 ^ 32) (hx : x ≠ 0x220B) :
    (s.copyEntries e n m).rd x j = s.rd x j :=
  State.rd_foldl_wr_ne (fun k hk => fun h => hx ((regKey_inj hj (by have := List.mem_range.1 hk; omega)).1 h).1) s

theorem State.rd_copyEntries {n m k : Nat} (hm : m ≤ 256) (hk : k < m) :
    (s.copyEntries e n m).rd 0x220B (256 * e + k) = (if k < n then s.rd 0x2204 (256 * e + k) else 0) % 2 ^ 64 := by
  induction m with
  | zero => exact absurd hk (Nat.not_lt_zero k)
  | succ m ih =>
    have hstep : s.copyEntries e n (m + 1) = (s.copyEntries e n m).wr 0x220B (256 * e + m)
        (if m < n then (s.copyEntries e n m).rd 0x2204 (256 * e + m) else 0) := by
      unfold State.copyEntries
      rw [List.range_succ, List.foldl_append]
      rfl
    rw [hstep]
    rcases Nat.lt_succ_iff_lt_or_eq.1 hk with hlt | rfl
    · rw [State.rd_wr_inst _ _ _ (by omega), ih (by omega) hlt]
    · rw [State.rd_wr_same, s.rd_copyEntries_pid he n (by omega) (by omega) (by decide)]
      rfl

theorem State.rd_showOpenTimes (spans : List (Nat × Nat)) {x j : Nat} (hj : j < 2 ^ 32) (hx : x < 0x2210 ∨ 0x2217 < x) :
    (s.showOpenTimes e spans).rd x j = s.rd x j := by
  refine State.rd_foldl_wr_ne (fun k hk h => ?_) s
  have hclass := List.mem_range.1 hk
  have hpid := ((regKey_inj hj (by omega)).1 h).1
  omega

/-- The change counted reads as the list copied, but for the pending flag, the count and the open times. -/
theorem State.rd_countChange {x j : Nat} (hj : j < 2 ^ 32) (hx : x ≠ 0x2206 ∧ x ≠ 0x220F ∧ (x < 0x2210 ∨ 0x2217 < x)) :
    (s.countChange e).rd x j = (s.copyList e).rd x j := by
  obtain ⟨hpending, hcount, htimes⟩ := hx
  have he' : e < 2 ^ 32 := by omega
  unfold State.countChange
  rw [State.rd_inc_pid _ he' hj hcount, State.rd_wr_pid _ _ he' hj hpending, State.rd_showOpenTimes _ he _ hj htimes]

/-- A parameter that the change does not write. -/
theorem State.rd_adoptList {x j : Nat} (hj : j < 2 ^ 32) (hx : x < 0x2206 ∨ x = 0x2207 ∨ 0x220B < x ∧ x < 0x220F ∨ 0x2217 < x) :
    (s.adoptList e).rd x j = s.rd x j := by
  have he' : e < 2 ^ 32 := by omega
  unfold State.adoptList
  rw [State.rd_atTimes, s.rd_countChange he hj (by omega)]
  unfold State.copyList
  rw [State.rd_copyEntries_pid _ he _ (by omega) hj (by omega), State.rd_wr_pid _ _ he' hj (by omega),
    State.rd_wr_pid _ _ he' hj (by omega), State.rd_wr_pid _ _ he' hj (by omega)]

/-- The oper list: its base, cycle and length, and its entries. -/
theorem State.rd_copyList :
    (s.copyList e).rd 0x2208 e = s.rd 0x2201 e % 2 ^ 112 ∧ (s.copyList e).rd 0x2209 e = s.rd 0x2202 e % 2 ^ 32 ∧
      (s.copyList e).rd 0x220A e = s.rd 0x2203 e % 2 ^ 16 ∧
      (∀ k < 256, k < s.rd 0x2203 e → (s.copyList e).rd 0x220B (256 * e + k) = s.rd 0x2204 (256 * e + k) % 2 ^ 64) ∧
      (s.copyList e).rd 0x220F e = s.rd 0x220F e := by
  have he' : e < 2 ^ 32 := by omega
  have hcopied (t : State) {x : Nat} (hx : x ≠ 0x220B) : (t.copyEntries e (s.rd 0x2203 e) 256).rd x e = t.rd x e :=
    t.rd_copyEntries_pid he _ (Nat.le_refl 256) he' hx
  unfold State.copyList
  refine ⟨?_, ?_, ?_, ?_, ?_⟩
  · rw [hcopied _ (by decide), State.rd_wr_pid _ _ he' he' (by decide), State.rd_wr_pid _ _ he' he' (by decide), State.rd_wr_same]
    rfl
  · rw [hcopied _ (by decide), State.rd_wr_pid _ _ he' he' (by decide), State.rd_wr_same]
    rfl
  · rw [hcopied _ (by decide), State.rd_wr_same]
    rfl
  · intro k hk hlisted
    rw [State.rd_copyEntries _ he (Nat.le_refl 256) hk, if_pos hlisted, State.rd_wr_pid _ _ he' (by omega) (by decide),
      State.rd_wr_pid _ _ he' (by omega) (by decide), State.rd_wr_pid _ _ he' (by omega) (by decide)]
  · rw [hcopied _ (by decide), State.rd_wr_pid _ _ he' he' (by decide), State.rd_wr_pid _ _ he' he' (by decide),
      State.rd_wr_pid _ _ he' he' (by decide)]

/-- What a change of list shows, before its gates act. -/
theorem State.shown_adoptList :
    (s.adoptList e).rd 0x2206 e = 0 ∧ (s.adoptList e).rd 0x2208 e = s.rd 0x2201 e % 2 ^ 112 ∧
      (s.adoptList e).rd 0x2209 e = s.rd 0x2202 e % 2 ^ 32 ∧ (s.adoptList e).rd 0x220A e = s.rd 0x2203 e % 2 ^ 16 ∧
      (∀ k < 256, k < s.rd 0x2203 e → (s.adoptList e).rd 0x220B (256 * e + k) = s.rd 0x2204 (256 * e + k) % 2 ^ 64) ∧
      (s.adoptList e).rd 0x220F e = (s.rd 0x220F e + 1) % 2 ^ 32 := by
  have he' : e < 2 ^ 32 := by omega
  have hlist {x j : Nat} (hj : j < 2 ^ 32) (hx : 0x2207 < x ∧ x < 0x220F) : (s.adoptList e).rd x j = (s.copyList e).rd x j := by
    unfold State.adoptList
    rw [State.rd_atTimes, s.rd_countChange he hj (by omega)]
  obtain ⟨hbase, hcycle, hlength, hentries, hcount⟩ := s.rd_copyList he
  refine ⟨?_, (hlist he' (by decide)).trans hbase, (hlist he' (by decide)).trans hcycle, (hlist he' (by decide)).trans hlength,
    fun k hk hlisted => (hlist (by omega) (by decide)).trans (hentries k hk hlisted), ?_⟩
  · unfold State.adoptList State.countChange
    rw [State.rd_atTimes, State.rd_inc_pid _ he' he' (by decide), State.rd_wr_same, Nat.zero_mod]
  · unfold State.adoptList State.countChange
    rw [State.rd_atTimes, State.rd_inc_same, State.rd_wr_pid _ _ he' he' (by decide), State.rd_showOpenTimes _ he _ he' (by decide),
      hcount]
    rfl

/-- The gates of a list that is disabled do not act. -/
theorem configurationChange_disabled {rc : Nat} (hchange : Tab.find? s.gateChange e = some rc) (hdue : rc ≤ s.rc)
    (hoff : s.flag 0x2200 e = false) : configurationChange e s = s.adoptList e := by
  have hflag : (s.adoptList e).flag 0x2200 e = false := by
    rwa [State.flag, s.rd_adoptList he (by omega) (by decide)]
  rw [configurationChange_due hchange hdue, hflag, if_neg Bool.false_ne_true]

/-- The gates of a list that is enabled act, from its first entry on. -/
theorem configurationChange_enabled {rc : Nat} (hchange : Tab.find? s.gateChange e = some rc) (hdue : rc ≤ s.rc)
    (hon : s.flag 0x2200 e = true) :
    configurationChange e s = ((s.adoptList e).wr 0x221F e 2).gateAt e 0 (decDT (s.rd 0x2207 e)) := by
  have hflag : (s.adoptList e).flag 0x2200 e = true := by
    rwa [State.flag, s.rd_adoptList he (by omega) (by decide)]
  rw [configurationChange_due hchange hdue, hflag, if_pos rfl]

/-- Whether or not the list is enabled, the change shows in PIDs 2206h to 220Bh and 220Fh as adopted. -/
theorem rd_configurationChange {rc : Nat} (hchange : Tab.find? s.gateChange e = some rc) (hdue : rc ≤ s.rc) {x j : Nat} (hj : j < 2 ^ 32)
    (hx : x ≠ 0x220C ∧ x ≠ 0x220D ∧ x ≠ 0x221C ∧ x ≠ 0x221F) : (configurationChange e s).rd x j = (s.adoptList e).rd x j := by
  cases hflag : s.flag 0x2200 e with
  | false => rw [configurationChange_disabled s he hchange hdue hflag]
  | true =>
    rw [configurationChange_enabled s he hchange hdue hflag, State.sameBut_gateAt _ he _ _ x j hj (by simp [hx]),
      State.rd_wr_pid _ _ (by omega) hj hx.2.2.2]

theorem acts_configurationChange {rc : Nat} (hchange : Tab.find? s.gateChange e = some rc) (hdue : rc ≤ s.rc) :
    (configurationChange e s).rd 0x221F e = (if s.flag 0x2200 e = true then 2 else s.rd 0x221F e) ∧
      (configurationChange e s).rd 0x220C e = (if s.flag 0x2200 e = true then 0 else s.rd 0x220C e) := by
  have he' : e < 2 ^ 32 := by omega
  cases hflag : s.flag 0x2200 e with
  | false =>
    rw [configurationChange_disabled s he hchange hdue hflag]
    exact ⟨s.rd_adoptList he he' (by decide), s.rd_adoptList he he' (by decide)⟩
  | true =>
    rw [configurationChange_enabled s he hchange hdue hflag]
    refine ⟨?_, State.entry_gateAt_zero _ he _⟩
    rw [State.sameBut_gateAt _ he _ _ 0x221F e he' (by simp), State.rd_wr_same]
    rfl

end

end Sys2Proof.Machine
end

section
/-! A SET by the site operator that passes the checks of R445 in any state, and whose effect answers at once (14 R445, R450). -/

namespace Sys2Proof.Machine

/-- The PID, the instance and the payload of a SET pass the checks of R445, whatever the state. -/
structure PassingSet (pid inst : Nat) (data : List Byte) (row : Row) : Prop where
  listed : Catalogue.row? pid = some row
  inRange : row.sel.has inst = true
  ordinary : pid ≠ 0x0107 ∧ pid ≠ 0x010D ∧ pid ≠ 0x040A ∧ pid ≠ 0x2000
  acc : row.acc ≠ .ro
  size : data.length = row.ty.size
  short : data.length ≤ 65536
  value : row.valueOk (beNat data) = true
  ungated : ∀ u : State, u.gated row pid inst = none
  owner : ∀ u : State, u.ownerStatus pid inst (beNat data) = stOk

/-- A SET as it arrives. -/
def setOf (q : Req) (pid : Nat) (data : List Byte) : Request := requestOf q 0x02 pid q.inst.toNat data

section
variable {s : State} {q : Req} (h : Ready s q roleSite) (hfull : FullService s) {pid : Nat} {data : List Byte} {row : Row}
  (hset : PassingSet pid q.inst.toNat data row)
include h hfull hset

theorem State.outcome_passing {x : Session} (hx : x.like (s.session (Req.key q))) {u : State} {st : Nat}
    (heff : (s.inHand q (setOf q pid data)).setValue (Req.key q) (s.startedAs (setOf q pid data)) row (beNat data) = (u, .done st [])) :
    (s.inHand q (setOf q pid data)).outcome (Req.key q) x (s.startedAs (setOf q pid data)) =
      (u.closeGates (s.inHand q (setOf q pid data)), .done st []) := by
  obtain ⟨_, _, _, _, _, _, _, _, hrole, henrol, _⟩ := h
  obtain ⟨_, _, hxrole, hxenrol, _⟩ := hx
  obtain ⟨-, hdomain, hcode, hattach⟩ := hset.ordinary
  have hstage : FullService (s.inHand q (setOf q pid data)) := by
    unfold FullService
    rwa [State.rd_inHand_pid _ _ _ (by decide) (by decide)]
  have hout := State.outcome_set_site (k := Req.key q) (r := s.startedAs (setOf q pid data)) (hxrole.trans hrole)
    (hxenrol.trans henrol) hstage rfl hset.listed hset.inRange (fun e => hdomain e.1) hcode hset.acc (fun e => hattach e.1) hset.size
    hset.value (hset.ungated _) (hset.owner _)
  refine hout.trans ?_
  rw [show (s.startedAs (setOf q pid data)).data = data from rfl, heff]

variable {u : State} {st : Nat}
  (heff : (s.inHand q (setOf q pid data)).setValue (Req.key q) (s.startedAs (setOf q pid data)) row (beNat data) = (u, .done st []))
  (hst : st ≠ stInternal) (howed : u.owed = [])
include heff hst howed

theorem State.takeSet_passing : s.takeSet q pid data =
    (u.closeGates (s.inHand q (setOf q pid data))).reply (Req.key q) (s.startedAs (setOf q pid data)) st [] := by
  obtain ⟨hreset, -⟩ := hset.ordinary
  exact State.take_done h hset.short (fun x hx => State.outcome_passing h hfull hset hx heff) hst
    ((State.closeGates_owed _ _).trans howed) (.inl (by decide)) (fun e => hreset e.2.1)

theorem State.rd_takeSet_passing {x j : Nat} (hj : j < 2 ^ 32) (hx : x ≠ 0x0414) : (s.takeSet q pid data).rd x j = u.rd x j := by
  rw [State.takeSet_passing h hfull hset heff hst howed, State.rd_reply _ _ _ _ _ hj (by simp [hx]), State.rd_closeGates]

theorem State.gates_takeSet_passing :
    (s.takeSet q pid data).gateChange = u.gateChange ∧ (s.takeSet q pid data).gateEdge = u.gateEdge := by
  rw [State.takeSet_passing h hfull hset heff hst howed]
  simp only [State.reply_gateChange, State.reply_gateEdge, State.closeGates_gateChange, State.closeGates_gateEdge, and_self]

theorem State.out_takeSet_passing (hout : u.out = s.out) :
    (s.takeSet q pid data).out = s.out ++ [answer q 0x02 st pid q.inst.toNat []] := by
  rw [State.takeSet_passing h hfull hset heff hst howed, State.out_reply, State.closeGates_out, hout, key_div, key_mod, Msg.split_nil]
  rfl

theorem State.answers_passing {keys : List (Nat × Nat)} (hout : u.out = s.out)
    (hregs : SameBut keys (s.inHand q (setOf q pid data)) u) :
    Answers s (s.takeSet q pid data) q 0x02 st pid q.inst.toNat [] keys := by
  obtain ⟨hreset, -⟩ := hset.ordinary
  exact State.take_answers h hset.short (fun x hx => State.outcome_passing h hfull hset hx heff) hst
    ((State.closeGates_owed _ _).trans howed) (.inl (by decide)) (fun e => hreset e.2.1) ((State.closeGates_out _ _).trans hout)
    (fun x i hi hx => (State.rd_closeGates _ _ x i).trans (hregs x i hi hx))

end

/-! ### Stored parameters (16 R498 to R500) -/

theorem State.updFlashOf_eq (s : State) (on : Nat → Bool) (f : Flash → Flash) :
    s.updFlashOf on f = { s with flash := (s.updFlashOf on f).flash } := by
  unfold State.updFlashOf
  simp only [List.foldl_cons, List.foldl_nil]
  cases on 0 <;> cases on 1 <;> rfl

/-- A store writes the flash, and the record that is written to it, alone. -/
theorem State.store_eq (s : State) (pid inst v : Nat) :
    s.store pid inst v = { s with power := (s.store pid inst v).power, flash := (s.store pid inst v).flash } := by
  unfold State.store State.updFlash
  split
  · rw [State.updFlashOf_eq]
  · rw [State.updFlashOf_eq]

section
variable (s : State) (pid inst v : Nat)

theorem State.rd_store (x j : Nat) : (s.store pid inst v).rd x j = s.rd x j := by
  rw [State.store_eq]
  rfl

@[simp] theorem State.store_gateChange : (s.store pid inst v).gateChange = s.gateChange := by rw [State.store_eq]
@[simp] theorem State.store_gateEdge : (s.store pid inst v).gateEdge = s.gateEdge := by rw [State.store_eq]
@[simp] theorem State.store_out : (s.store pid inst v).out = s.out := by rw [State.store_eq]
@[simp] theorem State.store_owed : (s.store pid inst v).owed = s.owed := by rw [State.store_eq]

end

theorem State.mirrorBars_inHand (s : State) (q : Req) (r : Request) : (s.inHand q r).mirrorBars = s.mirrorBars := by
  unfold State.mirrorBars State.standbyReady State.ctlState
  rw [State.rd_inHand_pid _ _ _ (by decide) (by decide), State.rd_inHand_pid _ _ _ (by decide) (by decide),
    State.rd_inHand_pid _ _ _ (by decide) (by decide)]

section
variable {u t : State} {r : Request} {v : Nat} (hbars : u.mirrorBars = false) (hflash : r.flashOk = true)
include hbars hflash

theorem State.setStored_done (hput : u.put r.pid r.inst v = (t, stOk)) :
    u.setStored r v = (t.store r.pid r.inst v, .done stOk []) := by
  unfold State.setStored
  rw [if_neg (by simp [hbars]), if_neg (by simp [hflash]), hput]
  rfl

theorem State.setStored_outOfRange (hput : u.put r.pid r.inst v = (t, stRange)) : u.setStored r v = (t, .done stRange []) := by
  unfold State.setStored
  rw [if_neg (by simp [hbars]), if_neg (by simp [hflash]), hput]
  rfl

end

end Sys2Proof.Machine
end

section
/-! The requests of a gate list: a configuration change asked for (PID 2205h), and a list enabled or disabled (PID 2200h)
(10 R313, R317). -/

namespace Sys2Proof.Machine

/-! ### Effects -/

/-- A change of a port's gate list shows as pending, with its change time. -/
def State.showPending (s : State) (e : Nat) : State := ((s.wr 0x2206 e 1).wr 0x2207 e (encDT (s.changeTime e))).wr 0x220E e 0

/-- A change of a port's gate list is pending, at its change time. -/
def State.pendGates (s : State) (e : Nat) : State :=
  (s.showPending e).atTimes
    (Tab.set (s.showPending e).gateChange e ((s.showPending e).time.triple.rcOf (s.changeTime e))) (s.showPending e).gateEdge

/-- A gate list is enabled, with its initial states, until its change time. -/
def State.armGates (s : State) (e : Nat) : State :=
  (((s.pendGates e).wr 0x2200 e 1).wr 0x220D e ((s.pendGates e).rd 0x221B e)).wr 0x221F e 1

/-- A gate list is disabled: every gate is open, and no change is pending. -/
def State.openGates (s : State) (e : Nat) : State :=
  ((((s.wr 0x2200 e 0).wr 0x220D e 0xFF).wr 0x221F e 0).wr 0x2206 e 0).atTimes (Tab.del s.gateChange e) (Tab.del s.gateEdge e)

/-- A gate list could not be enabled: it is left disabled, and the failed check shows. -/
def State.leaveGates (s : State) (e : Nat) : State := (s.wr 0x220E e 0x13).wr 0x2200 e 0

section
variable (s : State) (e : Nat)

@[simp] theorem State.pendGates_gateChange :
    (s.pendGates e).gateChange = Tab.set s.gateChange e (s.time.triple.rcOf (s.changeTime e)) := by
  unfold State.pendGates State.showPending
  rw [State.atTimes_gateChange, State.wr_gateChange, State.wr_gateChange, State.wr_gateChange, State.wr_time, State.wr_time,
    State.wr_time]

@[simp] theorem State.pendGates_out : (s.pendGates e).out = s.out := by
  unfold State.pendGates State.showPending
  rw [State.atTimes_out, State.wr_out, State.wr_out, State.wr_out]

@[simp] theorem State.pendGates_owed : (s.pendGates e).owed = s.owed := by
  unfold State.pendGates State.showPending
  rw [State.atTimes_owed, State.wr_owed, State.wr_owed, State.wr_owed]

@[simp] theorem State.armGates_out : (s.armGates e).out = s.out := by
  rw [State.armGates, State.wr_out, State.wr_out, State.wr_out, State.pendGates_out]

@[simp] theorem State.armGates_owed : (s.armGates e).owed = s.owed := by
  rw [State.armGates, State.wr_owed, State.wr_owed, State.wr_owed, State.pendGates_owed]

@[simp] theorem State.openGates_gateChange : (s.openGates e).gateChange = Tab.del s.gateChange e := by
  rw [State.openGates, State.atTimes_gateChange]

@[simp] theorem State.openGates_out : (s.openGates e).out = s.out := by
  rw [State.openGates, State.atTimes_out, State.wr_out, State.wr_out, State.wr_out, State.wr_out]

@[simp] theorem State.openGates_owed : (s.openGates e).owed = s.owed := by
  rw [State.openGates, State.atTimes_owed, State.wr_owed, State.wr_owed, State.wr_owed, State.wr_owed]

@[simp] theorem State.leaveGates_out : (s.leaveGates e).out = s.out := by rw [State.leaveGates, State.wr_out, State.wr_out]

@[simp] theorem State.leaveGates_owed : (s.leaveGates e).owed = s.owed := by rw [State.leaveGates, State.wr_owed, State.wr_owed]

end

section
variable {s : State} {e : Nat}

theorem State.requestGates_passes (hcheck : s.gateCheck e = true) : s.requestGates e = (s.pendGates e, true) := if_pos hcheck

theorem State.requestGates_fails (hcheck : s.gateCheck e = false) : s.requestGates e = (s.wr 0x220E e 0x13, false) :=
  if_neg (by simp [hcheck])

theorem State.setGates_enabled (hon : s.rd 0x2200 e ≠ 0) : s.setGates e 1 = (s, stOk) :=
  if_pos (bne_iff_ne.2 hon)

theorem State.setGates_opens : s.setGates e 0 = (s.openGates e, stOk) := rfl

theorem State.setGates_leaves (hoff : s.rd 0x2200 e = 0) (hcheck : s.gateCheck e = false) :
    s.setGates e 1 = (s.leaveGates e, stRange) := by
  have henable : s.enableGates e = s.leaveGates e := by
    unfold State.enableGates
    rw [State.requestGates_fails hcheck]
    rfl
  have hset : (s.leaveGates e).rd 0x2200 e = 0 := State.rd_wr_same _ _ _ _
  have hflag : (s.leaveGates e).flag 0x2200 e = false := by simp [State.flag, hset]
  unfold State.setGates
  rw [if_neg (by decide), if_neg (by simp [State.flag, hoff]), henable]
  simp only [hflag]
  rfl

variable (he : e < 2 ^ 32)
include he

theorem State.setGates_arms (hoff : s.rd 0x2200 e = 0) (hcheck : s.gateCheck e = true) : s.setGates e 1 = (s.armGates e, stOk) := by
  have henable : s.enableGates e = s.armGates e := by
    unfold State.enableGates
    rw [State.requestGates_passes hcheck]
    rfl
  have hset : (s.armGates e).rd 0x2200 e = 1 := by
    refine (State.rd_wr_pid _ _ he he (by decide)).trans ((State.rd_wr_pid _ _ he he (by decide)).trans ?_)
    exact State.rd_wr_same _ _ _ _
  have hflag : (s.armGates e).flag 0x2200 e = true := by simp [State.flag, hset]
  unfold State.setGates
  rw [if_neg (by decide), if_neg (by simp [State.flag, hoff]), henable]
  simp only [hflag]
  rfl

theorem State.sameBut_pendGates (s : State) : SameBut [(0x2206, e), (0x2207, e), (0x220E, e)] s (s.pendGates e) :=
  ((((SameBut.refl _ s).wr he (by simp)).wr he (by simp)).wr he (by simp)).atTimes _ _

theorem State.shown_pendGates (s : State) : (s.pendGates e).rd 0x220E e = 0 ∧ (s.pendGates e).rd 0x2206 e = 1 ∧
    (s.pendGates e).rd 0x2207 e = encDT (s.changeTime e) % 2 ^ 112 := by
  unfold State.pendGates State.showPending
  simp only [State.rd_atTimes]
  refine ⟨?_, ?_, ?_⟩
  · rw [State.rd_wr_same, Nat.zero_mod]
  · rw [State.rd_wr_pid _ _ he he (by decide), State.rd_wr_pid _ _ he he (by decide), State.rd_wr_same]
    rfl
  · rw [State.rd_wr_pid _ _ he he (by decide), State.rd_wr_same]
    rfl

theorem State.sameBut_armGates (s : State) :
    SameBut [(0x2200, e), (0x2206, e), (0x2207, e), (0x220D, e), (0x220E, e), (0x221F, e)] s (s.armGates e) := by
  have hpend : SameBut [(0x2200, e), (0x2206, e), (0x2207, e), (0x220D, e), (0x220E, e), (0x221F, e)] s (s.pendGates e) :=
    ((((SameBut.refl _ s).wr he (by simp)).wr he (by simp)).wr he (by simp)).atTimes _ _
  exact ((hpend.wr he (by simp)).wr he (by simp)).wr he (by simp)

theorem State.shown_armGates (s : State) : (s.armGates e).rd 0x2200 e = 1 ∧ (s.armGates e).rd 0x220D e = s.rd 0x221B e % 2 ^ 8 ∧
    (s.armGates e).rd 0x221F e = 1 ∧ (s.armGates e).rd 0x2206 e = 1 := by
  obtain ⟨-, hpending, -⟩ := s.shown_pendGates he
  unfold State.armGates
  refine ⟨?_, ?_, ?_, ?_⟩
  · rw [State.rd_wr_pid _ _ he he (by decide), State.rd_wr_pid _ _ he he (by decide), State.rd_wr_same]
    rfl
  · rw [State.rd_wr_pid _ _ he he (by decide), State.rd_wr_same, s.sameBut_pendGates he 0x221B e he (by simp)]
    rfl
  · rw [State.rd_wr_same]
    rfl
  · rw [State.rd_wr_pid _ _ he he (by decide), State.rd_wr_pid _ _ he he (by decide), State.rd_wr_pid _ _ he he (by decide), hpending]

/-- A list that was disabled reads as before, but for the result of its check. -/
theorem State.sameBut_leaveGates {s : State} (hoff : s.rd 0x2200 e = 0) : SameBut [(0x220E, e)] s (s.leaveGates e) := by
  intro x j hj hx
  unfold State.leaveGates
  by_cases hlist : x = 0x2200 ∧ j = e
  · obtain ⟨rfl, rfl⟩ := hlist
    rw [State.rd_wr_same, Nat.zero_mod, hoff]
  · rw [State.rd_wr_ne _ _ fun h => hlist ((regKey_inj hj he).1 h)]
    exact (SameBut.refl [(0x220E, e)] s).wr he (by simp) x j hj hx

theorem State.sameBut_openGates (s : State) :
    SameBut [(0x2200, e), (0x2206, e), (0x220D, e), (0x221F, e)] s (s.openGates e) :=
  (((((SameBut.refl _ s).wr he (by simp)).wr he (by simp)).wr he (by simp)).wr he (by simp)).atTimes _ _

theorem State.shown_openGates (s : State) : (s.openGates e).rd 0x2200 e = 0 ∧ (s.openGates e).rd 0x220D e = 0xFF ∧
    (s.openGates e).rd 0x221F e = 0 ∧ (s.openGates e).rd 0x2206 e = 0 := by
  unfold State.openGates
  simp only [State.rd_atTimes]
  refine ⟨?_, ?_, ?_, ?_⟩
  · rw [State.rd_wr_pid _ _ he he (by decide), State.rd_wr_pid _ _ he he (by decide), State.rd_wr_pid _ _ he he (by decide),
      State.rd_wr_same, Nat.zero_mod]
  · rw [State.rd_wr_pid _ _ he he (by decide), State.rd_wr_pid _ _ he he (by decide), State.rd_wr_same]
    rfl
  · rw [State.rd_wr_pid _ _ he he (by decide), State.rd_wr_same, Nat.zero_mod]
  · rw [State.rd_wr_same, Nat.zero_mod]

end

/-! ### The check and the change time of a request in hand -/

/-- The check of a list reads nothing below PID 083Ah. -/
theorem State.gateCheck_congr {s t : State} (hrd : ∀ x j, 0x083A ≤ x → t.rd x j = s.rd x j) (e : Nat) :
    t.gateCheck e = s.gateCheck e := by
  unfold State.gateCheck State.gateList State.flag
  simp only [hrd, Nat.reduceLeDiff]

theorem State.changeTime_congr {s t : State} (hdt : t.dt = s.dt) (hrd : ∀ x j, 0x083A ≤ x → t.rd x j = s.rd x j) (e : Nat) :
    t.changeTime e = s.changeTime e := by
  unfold State.changeTime
  simp only [hrd, hdt, Nat.reduceLeDiff]

section
variable (s : State) (q : Req) (r : Request)

theorem State.dt_inHand : (s.inHand q r).dt = s.dt := by
  unfold State.dt
  rw [State.inHand_time, State.inHand_rc]

theorem State.gateCheck_inHand (e : Nat) : (s.inHand q r).gateCheck e = s.gateCheck e :=
  State.gateCheck_congr (fun _ j hx => s.rd_inHand_above q r (Nat.lt_of_lt_of_le (by decide) hx) j) e

theorem State.changeTime_inHand (e : Nat) : (s.inHand q r).changeTime e = s.changeTime e :=
  State.changeTime_congr (s.dt_inHand q r) (fun _ j hx => s.rd_inHand_above q r (Nat.lt_of_lt_of_le (by decide) hx) j) e

theorem State.rd_inHand_gates {x : Nat} (hx : 0x2200 ≤ x) (j : Nat) : (s.inHand q r).rd x j = s.rd x j :=
  s.rd_inHand_above q r (Nat.lt_of_lt_of_le (by decide) hx) j

end

/-! ### The commands -/

/-- CONFIGURATION_CHANGE_REQUEST is a SET of PID 2205h. -/
theorem exec_configurationChangeRequest (el : Nat) (q : Req) (s : State) :
    exec (.configurationChangeRequest el q) s = .next (s.ran el ((s.tick el).takeSet q 0x2205 q.data)) :=
  State.run_of_eq (f := fun u => u.takeSet q 0x2205 q.data) rfl

/-- GATE_LIST_ENABLE is a SET of PID 2200h to 1. -/
theorem exec_gateListEnable (el : Nat) (q : Req) (s : State) :
    exec (.gateListEnable el q) s = .next (s.ran el ((s.tick el).takeSet q 0x2200 [1])) :=
  State.run_of_eq (f := fun u => u.takeSet q 0x2200 [1]) rfl

/-- GATE_LIST_DISABLE is a SET of PID 2200h to 0. -/
theorem exec_gateListDisable (el : Nat) (q : Req) (s : State) :
    exec (.gateListDisable el q) s = .next (s.ran el ((s.tick el).takeSet q 0x2200 [0])) :=
  State.run_of_eq (f := fun u => u.takeSet q 0x2200 [0]) rfl

/-- The catalogue's row of PID 2205h. -/
def gateRequestRow : Row := .wo .bool (.upto 144) (.codes [1])

/-- The catalogue's row of PID 2200h. -/
def gateListRow : Row := .rw .bool (.upto 144) .stored .now .any .zero

theorem State.setValue_gateRequest (u : State) (k : Nat) {r : Request} (hpid : r.pid = 0x2205) (v : Nat) :
    u.setValue k r gateRequestRow v = ((u.requestGates r.inst).1, .done (need (u.requestGates r.inst).2) []) := by
  unfold State.setValue
  rw [hpid]
  rfl

theorem passingSet_gateRequest {e : Nat} (he : e < 144) : PassingSet 0x2205 e [1] gateRequestRow where
  listed := rfl
  inRange := decide_eq_true he
  ordinary := by decide
  acc := by decide
  size := rfl
  short := by decide
  value := rfl
  ungated _ := rfl
  owner u := by simp [State.ownerStatus, State.highStatus, budgetPids]

theorem passingSet_gateList {e : Nat} (he : e < 144) {b : Byte} (hb : b = 0 ∨ b = 1) : PassingSet 0x2200 e [b] gateListRow where
  listed := rfl
  inRange := decide_eq_true he
  ordinary := by decide
  acc := by decide
  size := rfl
  short := by simp
  value := by rcases hb with rfl | rfl <;> rfl
  ungated _ := rfl
  owner u := by simp [State.ownerStatus, State.highStatus, budgetPids]

theorem Ready.owed_inHand {s : State} {q : Req} (h : Ready s q roleSite) (r : Request) : (s.inHand q r).owed = [] := by
  obtain ⟨_, _, _, _, _, howed, _⟩ := h
  exact (State.inHand_owed _ _ _).trans howed

section
variable {s : State} {q : Req} (h : Ready s q roleSite) (hfull : FullService s) (hinst : q.inst.toNat < 144)
include h hfull hinst

/-- A request that fails the checks (R313): only its result shows. -/
theorem State.takeSet_gateRequest_fails (hcheck : s.gateCheck q.inst.toNat = false) :
    (s.takeSet q 0x2205 [1]).rd 0x220E q.inst.toNat = 0x13 ∧ (s.takeSet q 0x2205 [1]).gateChange = s.gateChange ∧
      Answers s (s.takeSet q 0x2205 [1]) q 0x02 stRange 0x2205 q.inst.toNat [] [(0x220E, q.inst.toNat)] := by
  have hpass := passingSet_gateRequest hinst
  have he : q.inst.toNat < 2 ^ 32 := by omega
  have heff : (s.inHand q (setOf q 0x2205 [1])).setValue (Req.key q) (s.startedAs (setOf q 0x2205 [1])) gateRequestRow (beNat [1]) =
      ((s.inHand q (setOf q 0x2205 [1])).wr 0x220E q.inst.toNat 0x13, .done stRange []) := by
    rw [State.setValue_gateRequest _ _ (r := s.startedAs (setOf q 0x2205 [1])) rfl]
    change ((State.requestGates _ q.inst.toNat).1, Verdict.done (need (State.requestGates _ q.inst.toNat).2) []) = _
    rw [State.requestGates_fails ((s.gateCheck_inHand q _ _).trans hcheck)]
    rfl
  have howed := Ready.owed_inHand h (setOf q 0x2205 [1])
  refine ⟨?_, ?_, ?_⟩
  · rw [State.rd_takeSet_passing h hfull hpass heff (by decide) howed he (by decide), State.rd_wr_same]
    rfl
  · exact (State.gates_takeSet_passing h hfull hpass heff (by decide) howed).1.trans (State.inHand_gateChange _ _ _)
  · exact State.answers_passing h hfull hpass heff (by decide) howed (State.inHand_out _ _ _)
      ((SameBut.refl _ _).wr he (by simp))

/-- A request that passes is pending, with its change time (R313). -/
theorem State.takeSet_gateRequest_passes (hcheck : s.gateCheck q.inst.toNat = true) :
    (s.takeSet q 0x2205 [1]).rd 0x220E q.inst.toNat = 0 ∧ (s.takeSet q 0x2205 [1]).rd 0x2206 q.inst.toNat = 1 ∧
      (s.takeSet q 0x2205 [1]).rd 0x2207 q.inst.toNat = encDT (s.changeTime q.inst.toNat) % 2 ^ 112 ∧
      Tab.find? (s.takeSet q 0x2205 [1]).gateChange q.inst.toNat = some (s.time.triple.rcOf (s.changeTime q.inst.toNat)) ∧
      Answers s (s.takeSet q 0x2205 [1]) q 0x02 stOk 0x2205 q.inst.toNat []
        [(0x2206, q.inst.toNat), (0x2207, q.inst.toNat), (0x220E, q.inst.toNat)] := by
  have hpass := passingSet_gateRequest hinst
  have he : q.inst.toNat < 2 ^ 32 := by omega
  let u := s.inHand q (setOf q 0x2205 [1])
  have heff : u.setValue (Req.key q) (s.startedAs (setOf q 0x2205 [1])) gateRequestRow (beNat [1]) =
      (u.pendGates q.inst.toNat, .done stOk []) := by
    rw [State.setValue_gateRequest _ _ (r := s.startedAs (setOf q 0x2205 [1])) rfl]
    change ((u.requestGates q.inst.toNat).1, Verdict.done (need (u.requestGates q.inst.toNat).2) []) = _
    rw [State.requestGates_passes ((s.gateCheck_inHand q _ _).trans hcheck)]
    rfl
  have howed : (u.pendGates q.inst.toNat).owed = [] := (State.pendGates_owed _ _).trans (Ready.owed_inHand h _)
  obtain ⟨hresult, hpending, htime⟩ := u.shown_pendGates he
  have hrd {x : Nat} (hx : x ≠ 0x0414) := State.rd_takeSet_passing h hfull hpass heff (by decide) howed he hx
  refine ⟨(hrd (by decide)).trans hresult, (hrd (by decide)).trans hpending, (hrd (by decide)).trans ?_, ?_, ?_⟩
  · rw [htime, State.changeTime_inHand]
  · rw [(State.gates_takeSet_passing h hfull hpass heff (by decide) howed).1, State.pendGates_gateChange, Tab.find?_set_same,
      State.changeTime_inHand, State.inHand_time]
  · exact State.answers_passing h hfull hpass heff (by decide) howed ((State.pendGates_out _ _).trans (State.inHand_out _ _ _))
      (u.sameBut_pendGates he)

variable (hbars : s.mirrorBars = false) (hflash : q.flashOk = true)
include hbars hflash

omit h hfull hinst in
/-- A SET of PID 2200h whose effect passes is stored. -/
theorem State.setValue_gateList {b : Byte} {t : State}
    (hput : (s.inHand q (setOf q 0x2200 [b])).setGates q.inst.toNat (beNat [b]) = (t, stOk)) :
    (s.inHand q (setOf q 0x2200 [b])).setValue (Req.key q) (s.startedAs (setOf q 0x2200 [b])) gateListRow (beNat [b]) =
      (t.store 0x2200 q.inst.toNat (beNat [b]), .done stOk []) :=
  State.setStored_done (r := s.startedAs (setOf q 0x2200 [b])) ((s.mirrorBars_inHand q _).trans hbars) hflash hput

/-- A SET of PID 2200h whose effect passes: what it leaves, and its answer. -/
theorem State.takeSet_gateList {b : Byte} (hb : b = 0 ∨ b = 1) {t : State}
    (hput : (s.inHand q (setOf q 0x2200 [b])).setGates q.inst.toNat (beNat [b]) = (t, stOk)) (howed : t.owed = []) (hout : t.out = s.out)
    {keys : List (Nat × Nat)} (hregs : SameBut keys (s.inHand q (setOf q 0x2200 [b])) t) :
    (∀ x j, j < 2 ^ 32 → x ≠ 0x0414 → (s.takeSet q 0x2200 [b]).rd x j = t.rd x j) ∧
      (s.takeSet q 0x2200 [b]).gateChange = t.gateChange ∧ (s.takeSet q 0x2200 [b]).gateEdge = t.gateEdge ∧
      Answers s (s.takeSet q 0x2200 [b]) q 0x02 stOk 0x2200 q.inst.toNat [] keys := by
  have hpass := passingSet_gateList hinst hb
  have heff := State.setValue_gateList hbars hflash hput
  have howed' := (t.store_owed 0x2200 q.inst.toNat (beNat [b])).trans howed
  obtain ⟨hchange, hedge⟩ := State.gates_takeSet_passing h hfull hpass heff (by decide) howed'
  refine ⟨fun x j hj hx => ?_, ?_, ?_, ?_⟩
  · rw [State.rd_takeSet_passing h hfull hpass heff (by decide) howed' hj hx, State.rd_store]
  · exact hchange.trans (State.store_gateChange _ _ _ _)
  · exact hedge.trans (State.store_gateEdge _ _ _ _)
  · exact State.answers_passing h hfull hpass heff (by decide) howed' ((State.store_out _ _ _ _).trans hout)
      (fun x j hj hx => (State.rd_store _ _ _ _ _ _).trans (hregs x j hj hx))

/-- Enabling a list that is enabled changes nothing. -/
theorem State.takeSet_enabled (hon : s.rd 0x2200 q.inst.toNat = 1) :
    (s.takeSet q 0x2200 [1]).gateChange = s.gateChange ∧ (s.takeSet q 0x2200 [1]).gateEdge = s.gateEdge ∧
      Answers s (s.takeSet q 0x2200 [1]) q 0x02 stOk 0x2200 q.inst.toNat [] [] := by
  have hput : (s.inHand q (setOf q 0x2200 [1])).setGates q.inst.toNat 1 = (s.inHand q (setOf q 0x2200 [1]), stOk) :=
    State.setGates_enabled (by rw [State.rd_inHand_gates _ _ _ (by decide), hon]; decide)
  obtain ⟨-, hchange, hedge, hanswers⟩ := State.takeSet_gateList h hfull hinst hbars hflash (.inr rfl) hput
    (Ready.owed_inHand h _) (State.inHand_out _ _ _) (SameBut.refl [] _)
  exact ⟨hchange.trans (State.inHand_gateChange _ _ _), hedge.trans (State.inHand_gateEdge _ _ _), hanswers⟩

/-- Enabling a list that passes the checks applies its initial states, with a change pending (R317). -/
theorem State.takeSet_enables (hoff : s.rd 0x2200 q.inst.toNat = 0) (hcheck : s.gateCheck q.inst.toNat = true) :
    (s.takeSet q 0x2200 [1]).rd 0x2200 q.inst.toNat = 1 ∧
      (s.takeSet q 0x2200 [1]).rd 0x220D q.inst.toNat = s.rd 0x221B q.inst.toNat % 2 ^ 8 ∧
      (s.takeSet q 0x2200 [1]).rd 0x221F q.inst.toNat = 1 ∧ (s.takeSet q 0x2200 [1]).rd 0x2206 q.inst.toNat = 1 ∧
      Answers s (s.takeSet q 0x2200 [1]) q 0x02 stOk 0x2200 q.inst.toNat []
        [(0x2200, q.inst.toNat), (0x2206, q.inst.toNat), (0x2207, q.inst.toNat), (0x220D, q.inst.toNat), (0x220E, q.inst.toNat),
         (0x221F, q.inst.toNat)] := by
  have he : q.inst.toNat < 2 ^ 32 := by omega
  have hput := State.setGates_arms he ((s.rd_inHand_gates q (setOf q 0x2200 [1]) (by decide) _).trans hoff)
    ((s.gateCheck_inHand q _ _).trans hcheck)
  obtain ⟨hrd, -, -, hanswers⟩ := State.takeSet_gateList h hfull hinst hbars hflash (.inr rfl) hput
    ((State.armGates_owed _ _).trans (Ready.owed_inHand h _)) ((State.armGates_out _ _).trans (State.inHand_out _ _ _))
    (State.sameBut_armGates he _)
  obtain ⟨hon, hstates, hacts, hpending⟩ := (s.inHand q (setOf q 0x2200 [1])).shown_armGates he
  refine ⟨(hrd _ _ he (by decide)).trans hon, (hrd _ _ he (by decide)).trans ?_, (hrd _ _ he (by decide)).trans hacts,
    (hrd _ _ he (by decide)).trans hpending, hanswers⟩
  rw [hstates, State.rd_inHand_gates _ _ _ (by decide)]

/-- Enabling a list that fails the checks leaves it disabled (R317). -/
theorem State.takeSet_leaves (hoff : s.rd 0x2200 q.inst.toNat = 0) (hcheck : s.gateCheck q.inst.toNat = false) :
    (s.takeSet q 0x2200 [1]).rd 0x2200 q.inst.toNat = 0 ∧
      Answers s (s.takeSet q 0x2200 [1]) q 0x02 stRange 0x2200 q.inst.toNat [] [(0x220E, q.inst.toNat)] := by
  have he : q.inst.toNat < 2 ^ 32 := by omega
  have hpass := passingSet_gateList hinst (b := 1) (.inr rfl)
  have hoff' : (s.inHand q (setOf q 0x2200 [1])).rd 0x2200 q.inst.toNat = 0 := (s.rd_inHand_gates q _ (by decide) _).trans hoff
  have heff : (s.inHand q (setOf q 0x2200 [1])).setValue (Req.key q) (s.startedAs (setOf q 0x2200 [1])) gateListRow (beNat [1]) =
      ((s.inHand q (setOf q 0x2200 [1])).leaveGates q.inst.toNat, .done stRange []) :=
    State.setStored_outOfRange (r := s.startedAs (setOf q 0x2200 [1])) ((s.mirrorBars_inHand q _).trans hbars) hflash
      (State.setGates_leaves hoff' ((s.gateCheck_inHand q _ _).trans hcheck))
  have howed : ((s.inHand q (setOf q 0x2200 [1])).leaveGates q.inst.toNat).owed = [] :=
    (State.leaveGates_owed _ _).trans (Ready.owed_inHand h _)
  refine ⟨?_, State.answers_passing h hfull hpass heff (by decide) howed ((State.leaveGates_out _ _).trans (State.inHand_out _ _ _))
    (State.sameBut_leaveGates he hoff')⟩
  rw [State.rd_takeSet_passing h hfull hpass heff (by decide) howed he (by decide), State.leaveGates, State.rd_wr_same, Nat.zero_mod]

/-- Disabling a list opens every gate and cancels a pending change (R317). -/
theorem State.takeSet_disables :
    (s.takeSet q 0x2200 [0]).rd 0x2200 q.inst.toNat = 0 ∧ (s.takeSet q 0x2200 [0]).rd 0x220D q.inst.toNat = 0xFF ∧
      (s.takeSet q 0x2200 [0]).rd 0x221F q.inst.toNat = 0 ∧ (s.takeSet q 0x2200 [0]).rd 0x2206 q.inst.toNat = 0 ∧
      Tab.find? (s.takeSet q 0x2200 [0]).gateChange q.inst.toNat = none ∧
      Answers s (s.takeSet q 0x2200 [0]) q 0x02 stOk 0x2200 q.inst.toNat []
        [(0x2200, q.inst.toNat), (0x2206, q.inst.toNat), (0x220D, q.inst.toNat), (0x221F, q.inst.toNat)] := by
  have he : q.inst.toNat < 2 ^ 32 := by omega
  obtain ⟨hrd, hchange, -, hanswers⟩ := State.takeSet_gateList h hfull hinst hbars hflash (.inl rfl) State.setGates_opens
    ((State.openGates_owed _ _).trans (Ready.owed_inHand h _)) ((State.openGates_out _ _).trans (State.inHand_out _ _ _))
    (State.sameBut_openGates he _)
  obtain ⟨hoff, hopen, hrests, hpending⟩ := (s.inHand q (setOf q 0x2200 [0])).shown_openGates he
  refine ⟨(hrd _ _ he (by decide)).trans hoff, (hrd _ _ he (by decide)).trans hopen, (hrd _ _ he (by decide)).trans hrests,
    (hrd _ _ he (by decide)).trans hpending, ?_, hanswers⟩
  rw [hchange, State.openGates_gateChange, Tab.find?_del_same]

end

end Sys2Proof.Machine
end

section
/-! The latency sampler (10 R318 to R320), and the request that clears a watched slot (PID 240Ch). -/

namespace Sys2Proof.Machine

/-! ### The slots that watch a queue (PID 2405h) -/

theorem Tab.filter_set {α : Type} {f : Nat × α → Bool} {x : Nat} (h : ∀ v, f (x, v) = false) (t : Tab α) (v : α) :
    (Tab.set t x v).filter f = List.filter f t := by
  induction t with
  | nil => simp [Tab.set, h]
  | cons e t ih =>
    obtain ⟨k, w⟩ := e
    simp only [Tab.set]
    split
    · simp [h]
    · split
      · next heq => subst heq; simp [h]
      · simp only [List.filter_cons, ih]

theorem Tab.filter_del {α : Type} {f : Nat × α → Bool} {x : Nat} (h : ∀ v, f (x, v) = false) (t : Tab α) :
    (Tab.del t x).filter f = List.filter f t := by
  unfold Tab.del
  rw [List.filter_filter]
  refine List.filter_congr fun e _ => ?_
  obtain ⟨k, w⟩ := e
  by_cases hk : k = x
  · simp [hk, h]
  · simp [hk]

theorem State.slotsWatching_wr (s : State) {pid inst : Nat} (hpid : pid ≠ 0x2405) (hinst : inst < 2 ^ 32) (v n : Nat) :
    (s.wr pid inst v).slotsWatching n = s.slotsWatching n := by
  have hother (w : Nat) : (fun e : Nat × Nat => e.1 / 2 ^ 32 == 0x2405 && e.2 == n) (regKey pid inst, w) = false := by
    have hkey : regKey pid inst / 2 ^ 32 ≠ 0x2405 := by unfold regKey; omega
    exact (Bool.and_eq_false_iff).2 (.inl (beq_false_of_ne hkey))
  unfold State.slotsWatching State.wr regSet
  simp only
  split
  · rw [Tab.filter_del hother]
  · rw [Tab.filter_set hother]

/-! ### A visit, before the slots count it (R318) -/

/-- The depth and the head sojourn of a queue, and their maxima, as a visit shows them. -/
def State.showQueue (s : State) (i depth ns : Nat) : State :=
  let s := ((s.wr 0x2400 i depth).wr 0x2401 i ns).high 0x2402 i depth
  if s.rd 0x2403 i < ns then (s.wr 0x2403 i ns).stamp 0x2404 i else s

/-- The head sojourn of a queue's copies, in ns and in ticks. -/
def State.headSojourn (s : State) (l : List Copy) : Option (Nat × Nat) :=
  l.head?.map (fun c => ((s.rc - c.rc) * 5 / 2, s.rc - c.rc))

/-- A visit before the slots count it; a round starts at queue 0. -/
def State.noteVisit (s : State) (p n depth ns : Nat) : State :=
  (if n = 0 then s.stamp 0x240F p else s).showQueue (qInst p n) depth ns

/-- The slots that watch a queue count a visit. -/
def State.sampleSlots (s : State) (p n depth : Nat) (sojourn : Option (Nat × Nat)) : State :=
  (s.slotsWatching n).foldl (fun s k => s.sampleSlot p depth sojourn k) s

/-- What a visit leaves, where the sampler runs; a round ends at queue 32767. -/
def State.visited (s : State) (p n : Nat) : State :=
  let l := (s.pl p).queue n
  let depth := (s.pl p).tilesOf l
  let u := (s.noteVisit p n depth (((s.headSojourn l).map Prod.fst).getD 0)).sampleSlots p n depth (s.headSojourn l)
  if n = 32767 then u.inc 0x240E p else u

/-- The sampler runs in a plane: it is enabled, and the plane is on with the sampler's gate open. -/
def State.samples (s : State) (p : Nat) : Prop := s.rd 0x240D 0 ≠ 0 ∧ s.isOn p = true ∧ s.gateShut p 0 = false

theorem samplerVisit_runs {s : State} {p : Nat} (h : s.samples p) (n : Nat) : samplerVisit p n s = s.visited p n := by
  obtain ⟨henabled, hon, hopen⟩ := h
  refine if_neg ?_
  rintro (hoff | hoff | hshut)
  · exact henabled (by simpa [State.flag] using hoff)
  · exact Bool.noConfusion (hon.symm.trans hoff)
  · exact Bool.noConfusion (hopen.symm.trans hshut)

theorem samplerVisit_idle {s : State} {p : Nat} (h : s.rd 0x240D 0 = 0 ∨ s.isOn p = false ∨ s.gateShut p 0 = true) (n : Nat) :
    samplerVisit p n s = s :=
  if_pos (h.imp_left fun hoff => by simp [State.flag, hoff])

section
variable (s : State) {i : Nat} (hi : i < 2 ^ 32) (depth ns : Nat)
include hi

theorem State.sameBut_showQueue :
    SameBut [(0x2400, i), (0x2401, i), (0x2402, i), (0x2403, i), (0x2404, i)] s (s.showQueue i depth ns) := by
  have hshown : SameBut [(0x2400, i), (0x2401, i), (0x2402, i), (0x2403, i), (0x2404, i)] s
      (((s.wr 0x2400 i depth).wr 0x2401 i ns).high 0x2402 i depth) :=
    (((SameBut.refl _ s).wr hi (by simp)).wr hi (by simp)).high hi (by simp)
  unfold State.showQueue
  simp only
  split
  · exact (hshown.wr hi (by simp)).stamp hi (by simp)
  · exact hshown

theorem State.shown_showQueue :
    (s.showQueue i depth ns).rd 0x2400 i = depth % 2 ^ 16 ∧ (s.showQueue i depth ns).rd 0x2401 i = ns % 2 ^ 32 ∧
      (s.showQueue i depth ns).rd 0x2402 i = (if s.rd 0x2402 i < depth then depth % 2 ^ 16 else s.rd 0x2402 i) ∧
      (s.showQueue i depth ns).rd 0x2403 i = (if s.rd 0x2403 i < ns then ns % 2 ^ 32 else s.rd 0x2403 i) := by
  let u := ((s.wr 0x2400 i depth).wr 0x2401 i ns).high 0x2402 i depth
  have hdepth : u.rd 0x2400 i = depth % 2 ^ 16 := by
    refine (State.rd_high_pid _ _ hi hi (by decide)).trans ((State.rd_wr_pid _ _ hi hi (by decide)).trans ?_)
    exact State.rd_wr_same _ _ _ _
  have hsojourn : u.rd 0x2401 i = ns % 2 ^ 32 := (State.rd_high_pid _ _ hi hi (by decide)).trans (State.rd_wr_same _ _ _ _)
  have hdeepest : u.rd 0x2402 i = if s.rd 0x2402 i < depth then depth % 2 ^ 16 else s.rd 0x2402 i := by
    refine (State.rd_high_same _ _ _ _).trans ?_
    rw [State.rd_wr_pid _ _ hi hi (by decide), State.rd_wr_pid _ _ hi hi (by decide)]
    rfl
  have hlongest : u.rd 0x2403 i = s.rd 0x2403 i := by
    refine (State.rd_high_pid _ _ hi hi (by decide)).trans ((State.rd_wr_pid _ _ hi hi (by decide)).trans ?_)
    exact State.rd_wr_pid _ _ hi hi (by decide)
  have hbelow {x : Nat} (hx : x ≠ 0x2403 ∧ x ≠ 0x2404) : (s.showQueue i depth ns).rd x i = u.rd x i := by
    change (if u.rd 0x2403 i < ns then (u.wr 0x2403 i ns).stamp 0x2404 i else u).rd x i = _
    split
    · exact (State.rd_stamp_pid _ hi hi hx.2).trans (State.rd_wr_pid _ _ hi hi hx.1)
    · rfl
  refine ⟨(hbelow (by decide)).trans hdepth, (hbelow (by decide)).trans hsojourn, (hbelow (by decide)).trans hdeepest, ?_⟩
  change (if u.rd 0x2403 i < ns then (u.wr 0x2403 i ns).stamp 0x2404 i else u).rd 0x2403 i = _
  rw [hlongest]
  split
  · exact (State.rd_stamp_pid _ hi hi (by decide)).trans (State.rd_wr_same _ _ _ _)
  · exact hlongest

theorem State.slotsWatching_showQueue (n : Nat) : (s.showQueue i depth ns).slotsWatching n = s.slotsWatching n := by
  have hhigh (u : State) : (u.high 0x2402 i depth).slotsWatching n = u.slotsWatching n := by
    unfold State.high
    split
    · exact u.slotsWatching_wr (by decide) hi _ _
    · rfl
  have hshown : (((s.wr 0x2400 i depth).wr 0x2401 i ns).high 0x2402 i depth).slotsWatching n = s.slotsWatching n := by
    rw [hhigh, State.slotsWatching_wr _ (by decide) hi, State.slotsWatching_wr _ (by decide) hi]
  unfold State.showQueue State.stamp
  simp only
  split
  · rw [State.slotsWatching_wr _ (by decide) hi, State.slotsWatching_wr _ (by decide) hi, hshown]
  · exact hshown

end

theorem State.onlyRecords_showQueue (s : State) (i depth ns : Nat) : s.OnlyRecords (s.showQueue i depth ns) := by
  have hshown := (((State.OnlyRecords.refl s).wr 0x2400 i depth).wr 0x2401 i ns).high 0x2402 i depth
  exact State.OnlyRecords.ite ((hshown.wr _ _ _).wr _ _ _) hshown

section
variable (s : State) {p n : Nat} (hp : p < 2) (hn : n < 32768) (depth ns : Nat)
include hp hn

theorem qInst_lt : qInst p n < 2 ^ 16 := by unfold qInst; omega

theorem State.rd_noteVisit {x j : Nat} (hj : j < 2 ^ 32) (hx : x < 0x2400 ∨ 0x2404 < x) (hround : x ≠ 0x240F) :
    (s.noteVisit p n depth ns).rd x j = s.rd x j := by
  have hi : qInst p n < 2 ^ 32 := Nat.lt_trans (qInst_lt hp hn) (by decide)
  refine (State.sameBut_showQueue _ hi depth ns x j hj (by simp; omega)).trans ?_
  split
  · exact s.rd_stamp_pid (by omega) hj hround
  · rfl

theorem State.shown_noteVisit :
    (s.noteVisit p n depth ns).rd 0x2400 (qInst p n) = depth % 2 ^ 16 ∧ (s.noteVisit p n depth ns).rd 0x2401 (qInst p n) = ns % 2 ^ 32 ∧
      (s.noteVisit p n depth ns).rd 0x2402 (qInst p n) =
        (if s.rd 0x2402 (qInst p n) < depth then depth % 2 ^ 16 else s.rd 0x2402 (qInst p n)) ∧
      (s.noteVisit p n depth ns).rd 0x2403 (qInst p n) =
        (if s.rd 0x2403 (qInst p n) < ns then ns % 2 ^ 32 else s.rd 0x2403 (qInst p n)) := by
  have hi : qInst p n < 2 ^ 32 := Nat.lt_trans (qInst_lt hp hn) (by decide)
  have hround {x : Nat} (hx : x ≠ 0x240F) : (if n = 0 then s.stamp 0x240F p else s).rd x (qInst p n) = s.rd x (qInst p n) := by
    split
    · exact s.rd_stamp_pid (by omega) hi hx
    · rfl
  have hshown := State.shown_showQueue (if n = 0 then s.stamp 0x240F p else s) hi depth ns
  rwa [hround (x := 0x2402) (by decide), hround (x := 0x2403) (by decide)] at hshown

theorem State.slotsWatching_noteVisit : (s.noteVisit p n depth ns).slotsWatching n = s.slotsWatching n := by
  refine (State.slotsWatching_showQueue _ (Nat.lt_trans (qInst_lt hp hn) (by decide)) depth ns n).trans ?_
  split
  · exact s.slotsWatching_wr (by decide) (by omega) _ _
  · rfl

end

/-! ### A watched slot counts a visit (R319, R320) -/

/-- A slot's counts of a head sojourn. -/
def State.sampleHead (s : State) (p i slot ns ticks : Nat) : State :=
  let s := s.wr 0x2408 i (bumpBin (s.rd 0x2408 i) (sojournBin ticks (s.rd 0x2406 slot)))
  let s := (s.incBy 0x2410 i ns).high 0x2412 i ns
  if s.rd 0x2407 slot ≠ 0 ∧ s.rd 0x2407 slot ≤ ns then ((s.inc 0x240B i).inc 0x2417 p).fault 146 p else s

theorem Catalogue.width_bins : Catalogue.width 0x2408 = 1024 := rfl

theorem State.sampleSlot_empty (s : State) (p depth slot : Nat) : s.sampleSlot p depth none slot =
    ((s.inc 0x240A (512 * p + slot)).incBy 0x2411 (512 * p + slot) depth).inc 0x2409 (512 * p + slot) := rfl

theorem State.sampleSlot_head (s : State) (p depth ns ticks slot : Nat) : s.sampleSlot p depth (some (ns, ticks)) slot =
    ((s.inc 0x240A (512 * p + slot)).incBy 0x2411 (512 * p + slot) depth).sampleHead p (512 * p + slot) slot ns ticks := rfl

theorem State.onlyRecords_sampleSlot (s : State) (p depth : Nat) (sojourn : Option (Nat × Nat)) (slot : Nat) :
    s.OnlyRecords (s.sampleSlot p depth sojourn slot) := by
  have hcounted := ((State.OnlyRecords.refl s).inc 0x240A (512 * p + slot)).incBy 0x2411 (512 * p + slot) depth
  match sojourn with
  | none => exact hcounted.inc _ _
  | some (ns, ticks) =>
    have hbinned (v : Nat) := ((hcounted.wr 0x2408 (512 * p + slot) v).incBy 0x2410 (512 * p + slot) ns).high 0x2412 (512 * p + slot) ns
    exact State.OnlyRecords.ite ((((hbinned _).inc _ _).inc _ _).fault _ _) (hbinned _)

/-- A slot of any number counts above PID 2407h. -/
theorem State.rd_sampleSlot_below (s : State) (p depth : Nat) (sojourn : Option (Nat × Nat)) (slot : Nat) {x j : Nat} (hx : x < 0x2408)
    (hj : j < 2 ^ 32) : (s.sampleSlot p depth sojourn slot).rd x j = s.rd x j := by
  have habove {pid : Nat} (hpid : 0x2408 ≤ pid) (i : Nat) : regKey x j ≠ regKey pid i := by unfold regKey; omega
  have hwr (u : State) {pid : Nat} (hpid : 0x2408 ≤ pid) (i v : Nat) : (u.wr pid i v).rd x j = u.rd x j :=
    u.rd_wr_ne v (habove hpid i)
  have hcounted : ((s.inc 0x240A (512 * p + slot)).incBy 0x2411 (512 * p + slot) depth).rd x j = s.rd x j :=
    (hwr _ (by decide) _ _).trans (hwr _ (by decide) _ _)
  match sojourn with
  | none => exact (hwr _ (by decide) _ _).trans hcounted
  | some (ns, ticks) =>
    rw [State.sampleSlot_head]
    have hbinned (u : State) (v : Nat) :
        (((u.wr 0x2408 (512 * p + slot) v).incBy 0x2410 (512 * p + slot) ns).high 0x2412 (512 * p + slot) ns).rd x j = u.rd x j := by
      rw [State.rd_high_ne _ _ (habove (by decide) _)]
      exact (hwr _ (by decide) _ _).trans (hwr _ (by decide) _ _)
    unfold State.sampleHead
    simp only
    split
    · rw [State.rd_fault _ _ _ hj (by omega) (by omega)]
      exact (hwr _ (by decide) _ _).trans ((hwr _ (by decide) _ _).trans ((hbinned _ _).trans hcounted))
    · exact (hbinned _ _).trans hcounted

theorem State.rd_sampleSlots_below (s : State) (p n depth : Nat) (sojourn : Option (Nat × Nat)) {x j : Nat} (hx : x < 0x2408)
    (hj : j < 2 ^ 32) : (s.sampleSlots p n depth sojourn).rd x j = s.rd x j := by
  have hall (l : List Nat) : ∀ u : State, (l.foldl (fun s k => s.sampleSlot p depth sojourn k) u).rd x j = u.rd x j := by
    induction l with
    | nil => exact fun _ => rfl
    | cons k l ih => exact fun u => (ih _).trans (u.rd_sampleSlot_below p depth sojourn k hx hj)
  exact hall _ s

section
variable (s : State) {p slot : Nat} (hp : p < 2) (hslot : slot < 512) (depth : Nat)
include hp hslot

/-- A visit of an empty queue is an empty sample, and is in no bin. -/
theorem State.counts_sampleSlot_empty :
    (s.sampleSlot p depth none slot).rd 0x240A (512 * p + slot) = (s.rd 0x240A (512 * p + slot) + 1) % 2 ^ 64 ∧
      (s.sampleSlot p depth none slot).rd 0x2409 (512 * p + slot) = (s.rd 0x2409 (512 * p + slot) + 1) % 2 ^ 64 ∧
      (s.sampleSlot p depth none slot).rd 0x2408 (512 * p + slot) = s.rd 0x2408 (512 * p + slot) := by
  have hi : 512 * p + slot < 2 ^ 32 := by omega
  rw [State.sampleSlot_empty]
  refine ⟨?_, ?_, ?_⟩
  · rw [State.rd_inc_pid _ hi hi (by decide), State.rd_incBy_pid _ _ hi hi (by decide), State.rd_inc_same]
    rfl
  · rw [State.rd_inc_same, State.rd_incBy_pid _ _ hi hi (by decide), State.rd_inc_pid _ hi hi (by decide)]
    rfl
  · rw [State.rd_inc_pid _ hi hi (by decide), State.rd_incBy_pid _ _ hi hi (by decide), State.rd_inc_pid _ hi hi (by decide)]

/-- A visit of a queue with a head is in the bin of its sojourn, and is no empty sample. -/
theorem State.counts_sampleSlot_head (ns ticks : Nat) :
    (s.sampleSlot p depth (some (ns, ticks)) slot).rd 0x240A (512 * p + slot) = (s.rd 0x240A (512 * p + slot) + 1) % 2 ^ 64 ∧
      (s.sampleSlot p depth (some (ns, ticks)) slot).rd 0x2409 (512 * p + slot) = s.rd 0x2409 (512 * p + slot) ∧
      (s.sampleSlot p depth (some (ns, ticks)) slot).rd 0x2408 (512 * p + slot) =
        bumpBin (s.rd 0x2408 (512 * p + slot)) (sojournBin ticks (s.rd 0x2406 slot)) % 2 ^ 1024 := by
  have hi : 512 * p + slot < 2 ^ 32 := by omega
  let u := (s.inc 0x240A (512 * p + slot)).incBy 0x2411 (512 * p + slot) depth
  have hcounted {x j : Nat} (hj : j < 2 ^ 32) (hx : x ≠ 0x240A ∧ x ≠ 0x2411) : u.rd x j = s.rd x j :=
    (State.rd_incBy_pid _ _ hi hj hx.2).trans (State.rd_inc_pid _ hi hj hx.1)
  have hbin {x : Nat} (hx : x = 0x2408 ∨ x = 0x2409 ∨ x = 0x240A) :
      (u.sampleHead p (512 * p + slot) slot ns ticks).rd x (512 * p + slot) =
        (u.wr 0x2408 (512 * p + slot) (bumpBin (u.rd 0x2408 (512 * p + slot)) (sojournBin ticks (u.rd 0x2406 slot)))).rd x
          (512 * p + slot) := by
    unfold State.sampleHead
    simp only
    split
    · rw [State.rd_fault _ _ _ hi (by omega) (by omega), State.rd_inc_pid _ (by omega) hi (by omega),
        State.rd_inc_pid _ hi hi (by omega), State.rd_high_pid _ _ hi hi (by omega), State.rd_incBy_pid _ _ hi hi (by omega)]
    · rw [State.rd_high_pid _ _ hi hi (by omega), State.rd_incBy_pid _ _ hi hi (by omega)]
  rw [State.sampleSlot_head]
  refine ⟨?_, ?_, ?_⟩
  · refine (hbin (by decide)).trans ((State.rd_wr_pid _ _ hi hi (by decide)).trans ?_)
    exact (State.rd_incBy_pid _ _ hi hi (by decide)).trans (State.rd_inc_same _ _ _)
  · exact (hbin (by decide)).trans ((State.rd_wr_pid _ _ hi hi (by decide)).trans (hcounted hi (by decide)))
  · refine (hbin (by decide)).trans ((State.rd_wr_same _ _ _ _).trans ?_)
    rw [hcounted hi (by decide), hcounted (by omega) (by decide), Catalogue.width_bins]

end

/-! ### The whole visit -/

theorem State.planes_visited (s : State) (p n : Nat) : (s.visited p n).pa = s.pa ∧ (s.visited p n).pb = s.pb := by
  have hnoted (depth ns : Nat) : s.OnlyRecords (s.noteVisit p n depth ns) :=
    (State.OnlyRecords.ite ((State.OnlyRecords.refl s).wr _ _ _) (State.OnlyRecords.refl s)).trans (State.onlyRecords_showQueue _ _ _ _)
  have hsampled (u : State) (depth : Nat) (sojourn : Option (Nat × Nat)) : u.OnlyRecords (u.sampleSlots p n depth sojourn) :=
    State.OnlyRecords.foldl (fun t k => t.onlyRecords_sampleSlot p depth sojourn k) _ u
  have hcounted (depth ns : Nat) (sojourn : Option (Nat × Nat)) := (hnoted depth ns).trans (hsampled _ depth sojourn)
  have hvisited : s.OnlyRecords (s.visited p n) := State.OnlyRecords.ite ((hcounted _ _ _).wr _ _ _) (hcounted _ _ _)
  exact hvisited.planes

section
variable (s : State) {p n : Nat} (hp : p < 2) (hn : n < 32768)
include hp

theorem State.rd_visited {x j : Nat} (hj : j < 2 ^ 32) (hx : x ≠ 0x240E) : (s.visited p n).rd x j =
    ((s.noteVisit p n ((s.pl p).tilesOf ((s.pl p).queue n)) (((s.headSojourn ((s.pl p).queue n)).map Prod.fst).getD 0)).sampleSlots p n
      ((s.pl p).tilesOf ((s.pl p).queue n)) (s.headSojourn ((s.pl p).queue n))).rd x j := by
  unfold State.visited
  simp only
  split
  · exact State.rd_inc_pid _ (by omega) hj hx
  · rfl

include hn

/-- A visit shows the depth and the head sojourn of the queue, and their maxima. -/
theorem State.shown_visited {depth ns : Nat} (hdepth : depth = (s.pl p).tilesOf ((s.pl p).queue n))
    (hns : ns = (((s.pl p).queue n).head?.map (fun c => (s.rc - c.rc) * 5 / 2)).getD 0) :
    (s.visited p n).rd 0x2400 (qInst p n) = depth % 2 ^ 16 ∧ (s.visited p n).rd 0x2401 (qInst p n) = ns % 2 ^ 32 ∧
      (s.visited p n).rd 0x2402 (qInst p n) =
        (if s.rd 0x2402 (qInst p n) < depth then depth % 2 ^ 16 else s.rd 0x2402 (qInst p n)) ∧
      (s.visited p n).rd 0x2403 (qInst p n) = (if s.rd 0x2403 (qInst p n) < ns then ns % 2 ^ 32 else s.rd 0x2403 (qInst p n)) := by
  have hi : qInst p n < 2 ^ 32 := Nat.lt_trans (qInst_lt hp hn) (by decide)
  have hns' : ns = ((s.headSojourn ((s.pl p).queue n)).map Prod.fst).getD 0 := by
    rw [hns, State.headSojourn, Option.map_map]
    rfl
  have hrd {x : Nat} (hx : x < 0x2408) : (s.visited p n).rd x (qInst p n) = (s.noteVisit p n depth ns).rd x (qInst p n) := by
    rw [s.rd_visited hp hi (by omega), State.rd_sampleSlots_below _ _ _ _ _ hx hi, hdepth, hns']
  rw [hrd (by decide), hrd (by decide), hrd (by decide), hrd (by decide)]
  exact s.shown_noteVisit hp hn depth ns

/-- A visit within a round, of a queue that no slot watches, shows the queue alone. -/
theorem State.sameBut_visited (hwatch : s.slotsWatching n = []) (hfirst : n ≠ 0) (hlast : n ≠ 32767) :
    SameBut [(0x2400, qInst p n), (0x2401, qInst p n), (0x2402, qInst p n), (0x2403, qInst p n), (0x2404, qInst p n)] s
      (s.visited p n) := by
  have hi : qInst p n < 2 ^ 32 := Nat.lt_trans (qInst_lt hp hn) (by decide)
  unfold State.visited State.sampleSlots
  simp only [s.slotsWatching_noteVisit hp hn, hwatch, List.foldl_nil, if_neg hlast]
  unfold State.noteVisit
  rw [if_neg hfirst]
  exact s.sameBut_showQueue hi _ _

variable {k : Nat} (hwatch : s.slotsWatching n = [k]) (hk : k < 512)
include hwatch

/-- The one slot that watches a queue counts the visit. -/
theorem State.rd_visited_watched {x j : Nat} (hj : j < 2 ^ 32) (hx : x ≠ 0x240E) : (s.visited p n).rd x j =
    ((s.noteVisit p n ((s.pl p).tilesOf ((s.pl p).queue n)) (((s.headSojourn ((s.pl p).queue n)).map Prod.fst).getD 0)).sampleSlot p
      ((s.pl p).tilesOf ((s.pl p).queue n)) (s.headSojourn ((s.pl p).queue n)) k).rd x j := by
  rw [s.rd_visited hp hj hx, State.sampleSlots, s.slotsWatching_noteVisit hp hn, hwatch]
  rfl

include hk

theorem State.counts_visited_empty (hempty : (s.pl p).queue n = []) :
    (s.visited p n).rd 0x2400 (qInst p n) = 0 ∧
      (s.visited p n).rd 0x240A (512 * p + k) = (s.rd 0x240A (512 * p + k) + 1) % 2 ^ 64 ∧
      (s.visited p n).rd 0x2409 (512 * p + k) = (s.rd 0x2409 (512 * p + k) + 1) % 2 ^ 64 ∧
      (s.visited p n).rd 0x2408 (512 * p + k) = s.rd 0x2408 (512 * p + k) := by
  have hi : 512 * p + k < 2 ^ 32 := by omega
  obtain ⟨hdepth, -⟩ := s.shown_visited hp hn rfl rfl
  have hnoted {x : Nat} (hx : 0x2404 < x ∧ x ≠ 0x240F) (depth ns : Nat) :
      (s.noteVisit p n depth ns).rd x (512 * p + k) = s.rd x (512 * p + k) :=
    s.rd_noteVisit hp hn depth ns hi (.inr hx.1) hx.2
  refine ⟨?_, ?_⟩
  · rw [hdepth, hempty]
    rfl
  · rw [s.rd_visited_watched hp hn hwatch hi (by decide), s.rd_visited_watched hp hn hwatch hi (by decide),
      s.rd_visited_watched hp hn hwatch hi (by decide), hempty]
    have hcounts := State.counts_sampleSlot_empty (s.noteVisit p n ((s.pl p).tilesOf []) 0) hp hk ((s.pl p).tilesOf [])
    rwa [hnoted (by decide), hnoted (by decide), hnoted (by decide)] at hcounts

theorem State.counts_visited_head {c : Copy} {l : List Copy} (hqueue : (s.pl p).queue n = c :: l) :
    (s.visited p n).rd 0x240A (512 * p + k) = (s.rd 0x240A (512 * p + k) + 1) % 2 ^ 64 ∧
      (s.visited p n).rd 0x2409 (512 * p + k) = s.rd 0x2409 (512 * p + k) ∧
      (s.visited p n).rd 0x2408 (512 * p + k) =
        bumpBin (s.rd 0x2408 (512 * p + k)) (sojournBin (s.rc - c.rc) (s.rd 0x2406 k)) % 2 ^ 1024 := by
  have hi : 512 * p + k < 2 ^ 32 := by omega
  have hnoted {x j : Nat} (hj : j < 2 ^ 32) (hx : 0x2404 < x ∧ x ≠ 0x240F) (depth ns : Nat) :
      (s.noteVisit p n depth ns).rd x j = s.rd x j :=
    s.rd_noteVisit hp hn depth ns hj (.inr hx.1) hx.2
  rw [s.rd_visited_watched hp hn hwatch hi (by decide), s.rd_visited_watched hp hn hwatch hi (by decide),
    s.rd_visited_watched hp hn hwatch hi (by decide), hqueue]
  have hcounts := State.counts_sampleSlot_head (s.noteVisit p n ((s.pl p).tilesOf (c :: l)) ((s.rc - c.rc) * 5 / 2)) hp hk
    ((s.pl p).tilesOf (c :: l)) ((s.rc - c.rc) * 5 / 2) (s.rc - c.rc)
  rwa [hnoted hi (by decide), hnoted hi (by decide), hnoted hi (by decide), hnoted (by omega) (by decide)] at hcounts

end

/-! ### A slot is cleared (R319, R322) -/

/-- An instance of each PID of a list is cleared. -/
def State.clearAll (s : State) (i : Nat) (l : List Nat) : State := l.foldl (fun s pid => s.wr pid i 0) s

/-- The PIDs in which a slot counts: its bins, samples, empty samples and alarms, the sums and the maximum. -/
def slotCounts : List Nat := [0x2408, 0x2409, 0x240A, 0x240B, 0x2410, 0x2411, 0x2412]

theorem clearSlot_eq (slot : Nat) (s : State) : clearSlot slot s =
    ((s.clearAll (512 * 0 + slot) slotCounts).clearAll (512 * 1 + slot) slotCounts).stamp 0x2413 slot := by
  unfold clearSlot State.clearAll slotCounts
  simp only [List.foldl_cons, List.foldl_nil]

theorem State.onlyRecords_clearAll (s : State) (i : Nat) (l : List Nat) : s.OnlyRecords (s.clearAll i l) :=
  State.OnlyRecords.foldl (fun t pid => (State.OnlyRecords.refl t).wr pid i 0) l s

theorem onlyRecords_clearSlot (slot : Nat) (s : State) : s.OnlyRecords (clearSlot slot s) := by
  rw [clearSlot_eq]
  exact ((s.onlyRecords_clearAll _ _).trans (State.onlyRecords_clearAll _ _ _)).wr _ _ _

section
variable {i : Nat} (hi : i < 2 ^ 32)
include hi

theorem State.rd_clearAll_inst (s : State) (l : List Nat) {x j : Nat} (hj : j < 2 ^ 32) (hne : j ≠ i) :
    (s.clearAll i l).rd x j = s.rd x j :=
  State.rd_foldl_wr_ne (pid := fun k => k) (inst := fun _ => i) (v := fun _ _ => 0) (fun _ _ h => hne ((regKey_inj hj hi).1 h).2) s

theorem State.rd_clearAll_of_zero (l : List Nat) {x : Nat} : ∀ s : State, s.rd x i = 0 → (s.clearAll i l).rd x i = 0 := by
  induction l with
  | nil => exact fun _ hzero => hzero
  | cons pid l ih =>
    refine fun s hzero => ih (s.wr pid i 0) ?_
    by_cases hpid : x = pid
    · rw [hpid, State.rd_wr_same, Nat.zero_mod]
    · rw [State.rd_wr_pid _ _ hi hi hpid, hzero]

theorem State.rd_clearAll (s : State) {l : List Nat} {x : Nat} (hx : x ∈ l) : (s.clearAll i l).rd x i = 0 := by
  induction l generalizing s with
  | nil => exact absurd hx List.not_mem_nil
  | cons pid l ih =>
    rcases List.mem_cons.1 hx with rfl | hl
    · exact State.rd_clearAll_of_zero hi l (s.wr x i 0) (by rw [State.rd_wr_same, Nat.zero_mod])
    · exact ih (s.wr pid i 0) hl

end

theorem rd_clearSlot (s : State) {slot p x : Nat} (hslot : slot < 512) (hp : p < 2) (hx : x ∈ slotCounts) :
    (clearSlot slot s).rd x (512 * p + slot) = 0 := by
  have hstamp : x ≠ 0x2413 := by rintro rfl; exact absurd hx (by decide)
  rw [clearSlot_eq, State.rd_stamp_pid _ (by omega) (by omega) hstamp]
  rcases Nat.lt_succ_iff_lt_or_eq.1 hp with hzero | rfl
  · obtain rfl : p = 0 := by omega
    rw [State.rd_clearAll_inst (by omega) _ _ (by omega) (by omega), State.rd_clearAll (by omega) _ hx]
  · exact State.rd_clearAll (by omega) _ hx

theorem clearedAt_clearSlot (s : State) (slot : Nat) : (clearSlot slot s).rd 0x2413 slot = s.dtNow % 2 ^ 112 := by
  have hcleared := (s.onlyRecords_clearAll (512 * 0 + slot) slotCounts).trans (State.onlyRecords_clearAll _ (512 * 1 + slot) slotCounts)
  rw [clearSlot_eq, State.rd_stamp_same, hcleared.dtNow]
  rfl

/-- CLEAR_SLOT_COUNTS is a SET of PID 240Ch. -/
theorem exec_clearSlotCounts (el : Nat) (q : Req) (s : State) :
    exec (.clearSlotCounts el q) s = .next (s.ran el ((s.tick el).takeSet q 0x240C q.data)) :=
  State.run_of_eq (f := fun u => u.takeSet q 0x240C q.data) rfl

/-- The catalogue's row of PID 240Ch. -/
def clearSlotRow : Row := .wo .bool (.upto 512) (.codes [1])

theorem passingSet_clearSlot {slot : Nat} (h : slot < 512) : PassingSet 0x240C slot [1] clearSlotRow where
  listed := rfl
  inRange := decide_eq_true h
  ordinary := by decide
  acc := by decide
  size := rfl
  short := by decide
  value := rfl
  ungated _ := rfl
  owner u := by simp [State.ownerStatus, State.highStatus, budgetPids]

theorem State.setValue_clearSlot (u : State) (k : Nat) {r : Request} (hpid : r.pid = 0x240C) (v : Nat) :
    u.setValue k r clearSlotRow v = (clearSlot r.inst u, .done stOk []) := by
  unfold State.setValue
  rw [hpid]
  rfl

/-- The counts of a slot are cleared in both planes, and the time of it shows. -/
theorem State.takeSet_clearSlot {s : State} {q : Req} (h : Ready s q roleSite) (hfull : FullService s) (hinst : q.inst.toNat < 512) :
    (∀ p < 2, ∀ x ∈ slotCounts, (s.takeSet q 0x240C [1]).rd x (512 * p + q.inst.toNat) = 0) ∧
      (s.takeSet q 0x240C [1]).rd 0x2413 q.inst.toNat = s.dtNow % 2 ^ 112 ∧
      (s.takeSet q 0x240C [1]).out = s.out ++ [answer q 0x02 stOk 0x240C q.inst.toNat []] := by
  have hpass := passingSet_clearSlot hinst
  have heff := State.setValue_clearSlot (s.inHand q (setOf q 0x240C [1])) (Req.key q)
    (r := s.startedAs (setOf q 0x240C [1])) rfl (beNat [1])
  obtain ⟨hout, howed⟩ := (onlyRecords_clearSlot q.inst.toNat (s.inHand q (setOf q 0x240C [1]))).mail
  have howed' := howed.trans (Ready.owed_inHand h _)
  have hrd {x j : Nat} (hj : j < 2 ^ 32) (hx : x ≠ 0x0414) := State.rd_takeSet_passing h hfull hpass heff (by decide) howed' hj hx
  refine ⟨fun p hp x hx => ?_, ?_, ?_⟩
  · exact (hrd (by omega) (by rintro rfl; exact absurd hx (by decide))).trans (rd_clearSlot _ hinst hp hx)
  · refine (hrd (by omega) (by decide)).trans ((clearedAt_clearSlot _ _).trans ?_)
    rw [State.dtNow, State.dt_inHand]
    rfl
  · exact State.out_takeSet_passing h hfull hpass heff (by decide) howed' (hout.trans (State.inHand_out _ _ _))

end Sys2Proof.Machine

open Sys2Proof Sys2Proof.Machine

/-- Settles O20: each clause is one equation of its command above, at the tick. What a request leaves is one of the lemmas on
`State.takeSet` above; a change that comes into effect rests on `State.shown_adoptList`, an edge on `State.rd_gateAt`, and a visit of
the sampler on `State.shown_visited` and on the counts of its slot. -/
theorem gatesShapersAndTheSamplerRun : Obligations.GatesShapersAndTheSamplerRun := by
  unfold Obligations.GatesShapersAndTheSamplerRun
  have hplane (p : PlaneNo) : p.val < 2 ^ 32 := Nat.lt_trans p.isLt (by decide)
  refine ⟨?_, ?_, ?_, ?_, ?_, ?_, ?_, ?_, ?_, ?_, ?_, ?_, ?_, ?_, ?_, ?_, ?_, ?_, ?_, ?_, ?_, ?_, ?_, ?_⟩
  · intro s el q hready hfull hinst hdata hcheck
    refine ⟨_, exec_configurationChangeRequest el q s, ?_⟩
    rw [hdata]
    exact State.takeSet_gateRequest_fails (s := s.tick el) hready hfull hinst hcheck
  · intro s el q hready hfull hinst hdata hcheck
    refine ⟨_, exec_configurationChangeRequest el q s, ?_⟩
    rw [hdata]
    exact State.takeSet_gateRequest_passes (s := s.tick el) hready hfull hinst hcheck
  · intro s el rc i hchange hdue
    obtain ⟨hpending, hbase, hcycle, hlength, hentries, hcount⟩ := (s.tick el).shown_adoptList i.isLt
    obtain ⟨hacts, hentry⟩ := acts_configurationChange (s.tick el) i.isLt hchange hdue
    have hi : i.val < 2 ^ 32 := Nat.lt_trans i.isLt (by decide)
    have hrd {x j : Nat} (hj : j < 2 ^ 32) := rd_configurationChange (s.tick el) i.isLt hchange hdue (x := x) hj
    refine ⟨_, State.run_of_eq (f := configurationChange i.val) rfl, (hrd hi (by decide)).trans hpending,
      (hrd hi (by decide)).trans hbase, (hrd hi (by decide)).trans hcycle, (hrd hi (by decide)).trans hlength, hacts, hentry,
      fun k hk => ?_, (hrd hi (by decide)).trans hcount, fun hoff => ?_⟩
    · exact (hrd (by omega) (by decide)).trans (hentries k.val k.isLt hk)
    · obtain ⟨htimes, hedges⟩ := (s.tick el).times_adoptList i.val
      have hadopt := configurationChange_disabled (s.tick el) i.isLt hchange hdue hoff
      refine ⟨?_, (congrArg State.gateEdge hadopt).trans hedges⟩
      change Tab.find? (configurationChange i.val (s.tick el)).gateChange i.val = none
      rw [hadopt, htimes, Tab.find?_del_same]
  · intro s el i h
    exact State.run_of_same (configurationChange_idle (s := s.tick el) fun rc hchange =>
      of_decide_eq_true ((Option.all_eq_true _ _).1 h rc hchange))
  · exact fun s el q hready hfull hinst hbars hflash hon => ⟨_, exec_gateListEnable el q s,
      State.takeSet_enabled (s := s.tick el) hready hfull hinst hbars hflash hon⟩
  · exact fun s el q hready hfull hinst hbars hflash hoff hcheck => ⟨_, exec_gateListEnable el q s,
      State.takeSet_enables (s := s.tick el) hready hfull hinst hbars hflash hoff hcheck⟩
  · exact fun s el q hready hfull hinst hbars hflash hoff hcheck => ⟨_, exec_gateListEnable el q s,
      State.takeSet_leaves (s := s.tick el) hready hfull hinst hbars hflash hoff hcheck⟩
  · exact fun s el q hready hfull hinst hbars hflash => ⟨_, exec_gateListDisable el q s,
      State.takeSet_disables (s := s.tick el) hready hfull hinst hbars hflash⟩
  · intro s el rc i hedge hdue hacts hmore hlen
    obtain ⟨hentry, hstates⟩ := (s.tick el).rd_gateAt i.isLt ((s.tick el).cycleStart i.val) hmore (Nat.lt_of_lt_of_le hmore hlen)
    exact ⟨_, State.run_of_eq (gateEdge_next (s := s.tick el) hedge hdue hacts hmore), hentry, hstates,
      (s.tick el).sameBut_gateAt i.isLt _ _⟩
  · intro s el rc i hedge hdue hacts hlast hlen _
    let start := (s.tick el).cycleStart i.val + nsUnits (s.rd 0x2209 i.val)
    obtain ⟨hentry, hstates⟩ := (s.tick el).rd_gateAt i.isLt start hlen (by decide)
    exact ⟨_, State.run_of_eq (gateEdge_wraps (s := s.tick el) hedge hdue hacts hlast), hentry, hstates,
      (s.tick el).sameBut_gateAt i.isLt _ _⟩
  · intro s el i h
    exact State.run_of_same (gateEdge_idle (s := s.tick el) fun rc hedge => of_decide_eq_true ((Option.all_eq_true _ _).1 h rc hedge))
  · exact fun s el h => State.run_of_same (shaperRefill_idle (s := s.tick el) h)
  · exact fun s el htick hruns => State.run_of_eq (shaperRefill_due (s := s.tick el) htick hruns)
  · exact fun s p e r b => s.tokens_refillShapers_single p.val e r b
  · intro s el p x hnone
    have hsched := sched_shaperMemoryError (s.tick el) p.val (shaperElem x)
    rw [show Tab.find? (s.tick el).shaperRates (shaperElem x) = none from hnone] at hsched
    refine ⟨_, State.run_of_eq (f := shaperMemoryError p.val (shaperElem x)) rfl, ?_, rd_shaperMemoryError (s.tick el) _ (hplane p),
      faulted_shaperMemoryError _ _ _, sameBut_shaperMemoryError (s.tick el) _ (hplane p)⟩
    exact (congrArg (fun g : PlaneSched => Tab.find? g.tokens (shaperElem x)) hsched).trans (Tab.find?_del_same _ _)
  · intro s el p x r hrate
    have hsched := sched_shaperMemoryError (s.tick el) p.val (shaperElem x)
    rw [show Tab.find? (s.tick el).shaperRates (shaperElem x) = some r from hrate] at hsched
    refine ⟨_, State.run_of_eq (f := shaperMemoryError p.val (shaperElem x)) rfl, ?_, ?_, rd_shaperMemoryError (s.tick el) _ (hplane p),
      faulted_shaperMemoryError _ _ _, sameBut_shaperMemoryError (s.tick el) _ (hplane p)⟩
    · exact (congrArg (fun g : PlaneSched => Tab.find? g.tokens (shaperElem x)) hsched).trans (Tab.find?_set_same _ _ _)
    · exact (congrArg (fun g : PlaneSched => Tab.find? g.rates (shaperElem x)) hsched).trans (Tab.find?_set_same _ _ _)
  · exact fun s el p n h => State.run_of_same (samplerVisit_idle (s := s.tick el) h n.val)
  · intro s el d w p n henabled hon hopen hdepth hsojourn
    obtain ⟨hshown, hhead, hdeepest, hlongest⟩ := (s.tick el).shown_visited p.isLt n.isLt hdepth hsojourn
    exact ⟨_, State.run_of_eq (samplerVisit_runs (s := s.tick el) ⟨henabled, hon, hopen⟩ n.val), hshown, hhead, hdeepest, hlongest,
      (s.tick el).planes_visited p.val n.val⟩
  · exact fun s el p n henabled hon hopen hwatch hfirst hlast =>
      ⟨_, State.run_of_eq (samplerVisit_runs (s := s.tick el) ⟨henabled, hon, hopen⟩ n.val),
        (s.tick el).sameBut_visited p.isLt n.isLt hwatch hfirst hlast⟩
  · exact fun s el k p n henabled hon hopen hempty hwatch hk =>
      ⟨_, State.run_of_eq (samplerVisit_runs (s := s.tick el) ⟨henabled, hon, hopen⟩ n.val),
        (s.tick el).counts_visited_empty p.isLt n.isLt hwatch hk hempty⟩
  · exact fun s el k p n c l henabled hon hopen hqueue hwatch hk =>
      ⟨_, State.run_of_eq (samplerVisit_runs (s := s.tick el) ⟨henabled, hon, hopen⟩ n.val),
        (s.tick el).counts_visited_head p.isLt n.isLt hwatch hk hqueue⟩
  · intro s el q hready hfull hinst hdata
    obtain ⟨hcounts, hsince, hout⟩ := State.takeSet_clearSlot (s := s.tick el) hready hfull hinst
    refine ⟨_, exec_clearSlotCounts el q s, ?_⟩
    rw [hdata]
    exact ⟨fun p => ⟨hcounts p.val p.isLt _ (by decide), hcounts p.val p.isLt _ (by decide), hcounts p.val p.isLt _ (by decide),
      hcounts p.val p.isLt _ (by decide), hcounts p.val p.isLt _ (by decide)⟩, hsince, hout⟩
  · intro s el i k h
    refine State.run_of_same (pfcRefresh_idle (s := s.tick el) fun rc hsent => ?_)
    rintro ⟨hsends, hpast, habove, hreceives⟩
    have hnot := (Option.all_eq_true _ _).1 h rc hsent
    simp only [Bool.or_eq_true, Bool.not_eq_true', decide_eq_true_eq] at hnot
    rcases hnot with (hoff | hoff) | hearly | hbelow
    · exact Bool.noConfusion (hoff.symm.trans hsends)
    · exact Bool.noConfusion (hoff.symm.trans hreceives)
    · exact Nat.not_le.2 hearly hpast
    · exact Nat.not_lt.2 hbelow habove
  · exact fun s el rc i k hsent hsends hpast habove hreceives =>
      State.run_of_eq (pfcRefresh_due (s := s.tick el) hsent ⟨hsends, hpast, habove, hreceives⟩)
end
